-- ==== Sys2Proof/Word.lean ====
section
/-! DEFINITION. The word types of the device: bytes on every transport (R6, R304), the 32-bit registers of
BAR 0 (R335) and the 16-channel state of a seam (R122). Everything else is a count and is a Nat. -/

namespace Sys2Proof

/-- A byte as it travels on a transport or lies in an ingot (R6). -/
abbrev Byte := BitVec 8

/-- A control and status register (R335). -/
abbrev Word := BitVec 32

/-- The states of the sixteen channels of a seam on one sample; bit j is CH[16·s + j] (R122). -/
abbrev SeamWord := BitVec 16

end Sys2Proof
end

