-- ==== Sys2Proof/Syntax.lean ====
section
/-! DEFINITION. The commands of the block: one constructor of `Instr` per row of spec/opcode_table.json, in the
table's order, with the operands that the environment decides. -/

namespace Sys2Proof

/-- The requesters of the object dictionary (R308, R327, R331) and of registers (R339). -/
inductive Path where
  | pf1 | pf0 | canA | canB | twin | foreman
deriving DecidableEq, Repr

/-- A receiver that trains under R94: a probe link (R77) or a Crosscut lane (R358). -/
inductive LinkId where
  | probe (n : Fin 48)
  | lane (l : Fin 4)
deriving DecidableEq, Repr

/-- The two copies of a seam's data: for its stream, or for a window segment (Table 7.1). -/
inductive Copy where
  | stream | window
deriving DecidableEq, Repr

/-- What trips the Foreman watchdog (R389). -/
inductive WatchdogCause where
  | notServiced | handlerFault | lockstep | queueFull
deriving DecidableEq, Repr

/-- What fires the power-fail detector (R395). -/
inductive PowerFailCause where
  | pfailN | vinLow
deriving DecidableEq, Repr

/-- Who decides a forced epoch and why (R30): the FORCED_BY codes of Table 4.10. -/
inductive ForcedBy where
  | takeover | watchdog | thermal | fault | partnerLink
deriving DecidableEq, Repr

/-- Suspension causes (Table 6.3). -/
inductive SuspendCause where
  | drainLow | ringFull | linkDown | busMasterOff | reserveExceeded | takeover
deriving DecidableEq, Repr

/-- Fault classes (Table 13.2) and the class EVENT of R385. -/
inductive FaultClass where
  | event | notice | degrade | isolate | handover
deriving DecidableEq, Repr

/-- Units (Table 1.5). -/
inductive UnitId where
  | surveyor | probeLinks | encoders | shaft | smelter | assay | grizzly | stockpile | headframe | crosscut | foreman
deriving DecidableEq, Repr

/-- The names of the events, notices and faults that the chapters name. Their CODE numbers are not given by the
manual (Table 13.3 reads the name through CODE_QUERY). `unitFault n` stands for a fault that a unit reports under
a code of its own. -/
inductive EvCode where
  | epochAborted | rasterUnlockable | rasterLocked | relocked | rasterHoldover | rasterStateChanged
  | holdoverLong | coherenceRange | timeStep | ppsLost | sidxUncertain
  | feMsgTimeout | feFault | noPartner | partnerRxFail | linkDown | linkUp
  | lineStuck | lineUnstuck | segmentOverwritten
  | guaranteeSuspended | guaranteeRestored | droppedStart | droppedEnd | floorBreach | ringTooSmall
  | keyExhausted | crcMismatch | channelStuck | channelRunning | ringCursorBad | ideStreamLost
  | storeLost | storeValueReplaced | pairRefused | partnerLost | divergence | takeover
  | crosscutDegraded | crosscutRestored | windowsDiscarded | backlogDiscarded | classBOverflow
  | sensorClear | faultQueueLost | powerFail | powerLoss | updateReverted | debugOpened
  | lcReturnDone | evalChanged | throttle
  | refLost | sensorWarn | railTolerance | vinHigh | vinLow | thermal | thermalLimit | sensorFail
  | governor | fabricPower | hbmTrain | rollbackFailed | storeFailed | eccError | eccMany
  | voteSplit | skipPointer | headframeParity | rcalFault | hbmHot | watchdog
  | unitFault (n : Nat)
deriving DecidableEq, Repr

/-- A fault as it reaches the Foreman (R385, R386). `instance_` is 0xFF for none (Table 13.3). -/
structure FaultReq where
  cls : FaultClass
  unit : UnitId
  code : EvCode
  inst : Nat
  detail : List Byte
deriving DecidableEq, Repr

/-- A frame on the receive half of a link: the 1,700 sliced symbol values of Table 3.1 in order of arrival, the place of
the first of them among the receiver's 1,700 UI alignments (R95), and the sample of the fabric clock on which the device
has the whole frame decoded (instant A of R103). -/
structure RxFrame where
  levels : List (Fin 4)
  ui : Nat
  arrival : Nat
deriving DecidableEq, Repr

/-- An edge on a RASTER_IN pin as the aligner takes it (R44): the sample on whose taps it lies, the level before them, the 64
taps, tap 0 in bit 0, and the tap that follows them. -/
structure PinEdge where
  sample : Nat
  before : Bool
  taps : BitVec 64
  after : Bool
deriving DecidableEq, Repr

/-- A pulse on a RASTER_IN pin, between its two edges (R44, R47). -/
structure Pulse where
  lead : PinEdge
  trail : PinEdge
deriving DecidableEq, Repr

/-- What the Surveyor measures over one complete reference frame (R55): lines, the mean, smallest and largest line
period in fine bins, fields, the lines that open them, counted from the frame start, and the frame start in fine bins. -/
structure FrameMeasure where
  lines : Nat
  meanPeriod : Nat
  minPeriod : Nat
  maxPeriod : Nat
  fields : Nat
  fieldStarts : List Nat
  startBin : Nat
deriving DecidableEq, Repr

/-- A complete reference frame (R55, R65): what was measured over it, and the sample counts that the governor
stretched while a re-lock that it brings took its new clock. -/
structure RefFrame where
  measure : FrameMeasure
  stretched : Nat
deriving DecidableEq, Repr

/-- The producers whose image the Headframe may place next (R280): a stream, the window readout, the Assay. -/
inductive Producer where
  | stream (q : Fin 64)
  | readout
  | assay
deriving DecidableEq, Repr

/-- What ECC does with the image that the Headframe reads (R217): the errors that it corrects, and whether one stays
uncorrected. -/
structure EccRead where
  corrected : Nat
  bad : Bool
deriving DecidableEq, Repr

/-- How a completion for a device read arrives (R297, R299). -/
inductive CplStatus where
  | ok | error | poisoned
deriving DecidableEq, Repr

/-- The two physical functions (Table 9.1). -/
inductive Fn where
  | pf0 | pf1
deriving DecidableEq, Repr

/-- A configuration request (R33, R274): the function, the byte offset, and the doubleword with its byte enables that it
writes; none for a read. -/
structure ConfigAccess where
  fn : Fn
  offset : Nat
  write : Option (Word × BitVec 4)
deriving DecidableEq, Repr

/-- The lanes of the PCI Express port that work, and whether the host port takes them in reverse order (R271). -/
structure PcieLanes where
  working : BitVec 16
  reversed : Bool
deriving DecidableEq, Repr

/-- What IDE_KM gives a selective stream beside its keys (R276): address blocks, the range of requester IDs, PCRC. -/
structure IdeProgram where
  blocks : List (Nat × Nat)
  rids : Nat × Nat
  pcrc : Bool
deriving DecidableEq, Repr

/-- The two CAN FD ports (R315). -/
inductive CanPort where
  | a | b
deriving DecidableEq, Repr

/-- A side of a cage channel (Table 11.3): the host's or the Foreman's side of a PF0 or PF1 channel, and the two
Foremen of the TWIN channel. -/
inductive CageSide where
  | pf0Host (c : Fin 32) | pf0Foreman (c : Fin 32)
  | pf1Host (c : Fin 16) | pf1Foreman (c : Fin 16)
  | twinLocal | twinRemote
deriving DecidableEq, Repr

/-- Masters of claims and registers (R339). -/
inductive Master where
  | foreman | pf0 | pf1 | twin
deriving DecidableEq, Repr

/-- The voted fields (Table 11.2). -/
inductive VotedField where
  | mode | epoch | floor | lanes | role | lifeCycle
deriving DecidableEq, Repr

/-- A skip (Table 11.5): one of the six numbered ones, or the receive queue of a cage side. -/
inductive SkipId where
  | numbered (k : Fin 6)
  | cage (side : CageSide)
deriving DecidableEq, Repr

/-- One write to BAR 0 or BAR 2 as it arrives (Tables 9.1, 11.1): whether it goes to BAR 2 (the dictionary window, and
PF1's cages and claims; from the Foreman, its own address space with its cage sides, log 40), whether it is poisoned
(R299), the selective stream it came in, if any, byte offset of the first doubleword, and the doublewords with their byte
enables. -/
structure RegWrite where
  bar2 : Bool
  poisoned : Bool
  stream : Option (Fin 4)
  offset : Nat
  words : List (Word × BitVec 4)
deriving DecidableEq, Repr

/-- What a partner module presents at election (R362, R363, R381). -/
structure PeerInfo where
  serial : Nat
  rolePref : Nat
  version : Nat
  capturing : Bool
  fenceDriven : Bool
  refAgrees : Bool
  identityOk : Bool
  ownerHash : Nat
  lifeCycle : Nat
  unitBit : Option Bool
  use : Nat
  fw : Nat
deriving DecidableEq, Repr

/-- A request that one Foreman passes to the other (R331). -/
structure PartnerReq where
  isWrite : Bool
  index : Nat
  sub : Nat
  data : List Byte
deriving DecidableEq, Repr

/-- The state that the Active sends in SYNC records (R370) or at the attach epoch (R378): Shaft level, counter and
timer values with the timers that run, the storage state, first SEQ of each stream and next number of each slot. -/
structure SyncState where
  level : Nat
  counters : List Nat
  timers : List (Nat × Bool)
  storage : Bool
  streamSeq : List Nat
  slotSeq : List Nat
deriving DecidableEq, Repr

/-- What the Active sends to an attaching module (R332, R365, R378): live values and staged set of the pair-wide objects,
the USE in force and the next one, the raster in force, the epoch number in force and the time of epoch-zero once it has
been. -/
structure CopyState where
  live : List (Nat × Nat)
  staged : List (Nat × Nat)
  use : Nat
  nextUse : Nat
  ppl : Nat
  lpf : Nat
  fieldStarts : List Nat
  epoch : Nat
  zeroTime : Option Nat
deriving DecidableEq, Repr

/-- Records of the Crosscut (Table 12.3), in the fields that the receiver acts on. CTRL items are listed by what
they carry (R329, R331, R332, R343, R362, R366). -/
inductive XcRecord where
  | hdr (stream : Fin 64) (type : Nat) (doorCrc : BitVec 16) (seq : Nat)
  | door (stream : Fin 64) (first count : Nat) (bitmap : BitVec 64)
  | cursor (ring : Fin 64) (gen wrPos lastSeq writtenSeq : Nat) (handoff : Bool)
  | confirm (ring : Fin 64) (gen : Nat)
  | ack (ring : Fin 64) (rdPos firstSeq : Nat)
  | ring (ring : Fin 64) (base cursor : Nat) (sizeOrder : Nat) (enable : Bool) (irq : Word)
  | sync (part : SyncState)
  | nack (frameSeq : Nat)
  | armUse (use : Nat)
  | epochGo
  | epochAbort
  | shadowReady (ready : Bool)
  | shadowApplied (ok : Bool)
  | partnerRequest (r : PartnerReq)
  | partnerResult (code : Nat) (data : List Byte)
  | forwardWrite (index sub : Nat) (data : List Byte)
  | copy (c : CopyState)
  | diverged (cause : Nat)
  | elect (serial rolePref version mode : Nat) (fence : Bool)
deriving DecidableEq, Repr

/-- A Crosscut block (Table 12.2) with the lane word of Table 12.1, as its receiver has it. `bad` is set when the
block was uncorrectable on a lane. `phase` is the sender's PHASE, `phaseError` what the receiver computes from the pair of
blocks (R364); RASTER_STATE, the shape of the raster in force and `corr`, the corrections of the raster position made since
the block before, come "in the same way" as INC (R365). -/
structure XcBlock where
  bad : Bool
  frameSeq : Nat
  txLanes : BitVec 4
  rxUp : BitVec 4
  bSidx : Nat
  beat : Bool
  role : Nat
  health : Nat
  mode : Nat
  epoch : Nat
  beatSeq : Nat
  recSeq : Nat
  rastpos : Nat
  ncoInc : Nat
  corr : Int
  rasterState : Nat
  ppl : Nat
  lpf : Nat
  fieldStarts : List Nat
  shaftDigest : Word
  phase : Nat
  phaseError : Int
  partner : List (BitVec 192)
  records : List XcRecord
deriving DecidableEq, Repr

/-- The Crosscut lane set that a transmitter may stripe over (R360). -/
abbrev LaneSet := BitVec 4

/-- A request on PF1 memory space (R277, R299): whether it goes to BAR 0, the selective stream it arrived in, if any, the
byte offset, and the doubleword it writes; none for a read of one doubleword. -/
structure Pf1Access where
  bar0 : Bool
  stream : Option (Fin 4)
  offset : Nat
  write : Option Word
deriving DecidableEq, Repr

/-- The commands of the block, one per row of spec/opcode_table.json. -/
inductive Instr where
  -- power, boot and resets
  | powerOn (nodeId : BitVec 7) (twinSel : Bool) (dncTied : Bool)
  | bootComplete
  | resetNAssert (periods : Nat)
  | moduleReset (via : Path) (data : List Byte)
  | perstNAssert (periods : Nat)
  | perstNRelease
  | configRequest (r : ConfigAccess)
  | dlDown
  | functionLevelResetPf0
  | functionLevelResetPf1
  | foremanWatchdogTrip (cause : WatchdogCause)
  | powerFailDetect (cause : PowerFailCause)
  | powerFailRelease
  | foremanBrownout
  -- modes and epochs
  | stagedObjectWrite (via : Path) (index sub : Nat) (data : List Byte)
  | commit (via : Path)
  | cancel (via : Path)
  | fabricPowerUpDone (ok : Bool) (rcalOhms : Nat)
  | hbmTrainingDone (ok : Bool)
  | samplePllLock
  | readyEntryLinkTimeout
  | readyEntry (missing : BitVec 11)
  | readyDeadline (missing : BitVec 11)
  | epochInstant
  | applyCheckEnd (failed : BitVec 11)
  | rollbackEpoch (failed : BitVec 11)
  | forcedEpoch
  | hbmSelfRefreshEntry
  -- reference clock and aligner
  | refClockLost
  | refClockReturn (stretched : Nat)
  | dllLock
  | dllFault
  -- raster
  | syncPulse (pin : Fin 4) (p : Pulse)
  | trsWord (seam : Fin 48) (channel : Fin 16)
  | refLineStart (at_ : Nat)
  | refFrameComplete (f : RefFrame)
  | missingLineStart
  | noReferenceTimeout
  | holdoverLong
  | relock (stretched : Nat)
  -- absolute time
  | timeOfDay (via : Path) (data : List Byte)
  | timeSet (via : Path) (data : List Byte)
  | ppsInEdge
  | ppsLost
  | ppsOutRise
  | ppsOutFall
  -- probe links
  | linkClockRecovered (l : LinkId)
  | linkLevelsConverged (l : LinkId)
  | linkSearchTimeout (l : LinkId)
  | noPartnerRetry (l : LinkId)
  | linkLevelsTimeout (l : LinkId)
  | linkFrameTimeout (l : LinkId)
  | linkFecTimeout (l : LinkId)
  | partnerRxFail (l : LinkId)
  | probeFrameReceive (l : LinkId) (f : RxFrame)
  | linkUncorrectableLoss (l : LinkId)
  | linkSequenceLoss (l : LinkId)
  | linkDrift (l : LinkId)
  | signalLost (l : LinkId)
  | controlMessageAckTimeout (n : Fin 48)
  | feMessage (via : Path) (n : Fin 48) (data : List Byte)
  | counterClear (via : Path) (n : Fin 48) (data : List Byte)
  | seamJoin (s : Fin 48)
  -- capture
  | ingotClose (s : Fin 48) (copy : Copy)
  | smelterSeal (s : Fin 48) (copy : Copy)
  | grizzlyDoor (q : Fin 64)
  -- Shaft
  | shaftDecision
  | markOutAssert (n : Fin 8)
  | markOutPulseEnd (n : Fin 8)
  | extLineCrossing (line : Fin 40) (taps : BitVec 64) (nextTap : Bool)
  | lineStuck (line : Fin 40)
  | flagInputAccept (n : Fin 16) (level : Bool)
  | segmentPostDone
  | segmentRearm
  | segRelease (via : Path) (data : List Byte)
  | calStart (via : Path) (data : List Byte)
  | calComplete (hist : List (List Nat))
  -- delivery
  | drainBinEnd
  | ringFullTimeout (q : Fin 64)
  | heldListRejoin (q : Fin 64)
  | suspensionEnd (cause : SuspendCause)
  | pcieLinkDown (recovery : Bool)
  | pcieLinkL0 (speed : Nat) (lanes : PcieLanes) (hostFlit : Bool)
  | imageWrite (p : Producer) (ecc : EccRead) (headerBad : Bool)
  | cursorRecordWrite (ring : Fin 64)
  | eventQueueEntryWrite
  | rdStart (via : Path)
  | rdStop (via : Path)
  | readoutDone
  -- Smelter jobs
  | smjEnable
  | smjDisable
  | smjTailWrite (v : Word)
  | smjHaltedClear
  | jobDescriptorFetch
  | jobDescriptorReceive (data : Option (List Byte))
  | jobStart
  | jobComplete (engine : Fin 16) (slot : Nat)
  -- Assay
  | assayResultClose (k : Fin 32)
  | assayResultEnqueue (k : Fin 32)
  -- host endpoint
  | ringEnable (ring : Fin 65)
  | ringDisable (ring : Fin 65)
  | ringRdPosWrite (ring : Fin 65) (v : Word)
  | msixDelayExpiry (ring : Fin 65)
  | msixTableWrite (fn : Fn) (offset : Nat) (v : Word)
  | busMasterClear
  | busMasterSet
  | d3hotEntry
  | d0Return
  | memorySpaceDisable (fn : Fn)
  | completionReceive (tag : Nat) (st : CplStatus) (data : List Byte)
  | completionTimeout (tag : Nat)
  | tagRelease (tag : Nat)
  | ideKeyProgram (k : Fin 4) (p : IdeProgram) (session : Bool)
  | ideStreamLost (k : Fin 4)
  | pf1MemoryRequest (r : Pf1Access)
  | aspmL1Entry
  | l0pRequest (width : Nat)
  -- dictionary and its transports
  | dictRead (via : Path) (index sub : Nat)
  | dictWrite (via : Path) (index sub : Nat) (data : List Byte)
  | store (via : Path)
  | storeErase (via : Path)
  | storeCommitDone (ok : Bool)
  | canRead (port : CanPort) (client : BitVec 8) (brs : Bool) (index sub token : Nat)
  | canWrite (port : CanPort) (client : BitVec 8) (brs : Bool) (index sub token len : Nat) (data : List Byte)
  | canWriteInit (port : CanPort) (client : BitVec 8) (brs : Bool) (index sub token len : Nat)
  | canSegment (port : CanPort) (client : BitVec 8) (brs : Bool) (seg : Nat) (data : List Byte)
  | canEnd (port : CanPort) (client : BitVec 8) (brs : Bool) (segments : Nat) (crc : BitVec 16)
  | canAck (port : CanPort) (client : BitVec 8) (brs : Bool) (next : Nat)
  | canAbort (port : CanPort) (client : BitVec 8) (brs : Bool) (index sub token : Nat)
  | canFrameIgnored (port : CanPort)
  | canTimeout (port : CanPort) (client : BitVec 8)
  | canBusOffRecovery (port : CanPort)
  | slotGoRead (fn : Fn) (k : Fin 16) (stream : Option (Fin 4))
  | slotGoWrite (fn : Fn) (k : Fin 16) (stream : Option (Fin 4))
  | slotGoPartnerRead (fn : Fn) (k : Fin 16) (stream : Option (Fin 4))
  | slotGoPartnerWrite (fn : Fn) (k : Fin 16) (stream : Option (Fin 4))
  | secureSessionTimeout (k : Fin 8)
  | partnerRequestReceive
  -- claims, cages, voting, skips, registers
  | claimRead (m : Master) (i : Fin 16) (zeroLength : Bool)
  | claimRelease (m : Master) (i : Fin 16) (owner : BitVec 4)
  | claimForceRelease (i : Fin 16)
  | cageSend (side : CageSide)
  | cagePop (side : CageSide)
  | bellRaise (side : CageSide) (mask : Word)
  | bellClear (side : CageSide) (mask : Word)
  | bellMaskWrite (side : CageSide) (mask : Word)
  | voteMismatch (field : VotedField) (c0 c1 c2 : Nat)
  | skipPointerMismatch (k : SkipId) (writing reading : Bool)
  | skipFlush (k : SkipId) (writing reading : Bool)
  | registerWrite (m : Master) (w : RegWrite)
  -- twin operation
  | pairElection (peer : PeerInfo)
  | xcBlockReceive (b : XcBlock)
  | xcHdrRecord
  | xcDoorRecord
  | xcCursorRecord
  | xcConfirmRecord
  | xcAckRecord
  | xcRingRecord
  | xcSyncRecord
  | xcNackRecord
  | xcEpochGo
  | xcEpochAbort
  | shadowReadyReport
  | shadowApplyReport
  | doorRecordTimeout (q : Fin 64)
  | phaseExposed
  | resync
  | laneSetChange (set : LaneSet)
  | canaryBoundary
  | roleSwap (via : Path) (data : List Byte)
  | detach (via : Path) (data : List Byte)
  | attachAligned
  | attachCopied (sidx time96 rastpos inc : Nat)
  -- Foreman
  | sensorSample (readings : List (Option Word))
  | thermalClear
  | hbmHotClear (stack : Fin 2)
  | throttleEngage
  | throttleRelease
  | faultRaise (f : FaultReq) (byHandler : Bool)
  | faultHandle
  | faultAck (via : Path) (data : List Byte)
  | logEntryCommit
  | logReadAt (via : Path) (data : List Byte)
  | logClear (via : Path) (data : List Byte)
  | updateBegin (via : Path)
  | updateData (via : Path) (data : List Byte)
  | updateVerify (via : Path)
  | updateCommit (via : Path)
  | updateCommitDone (ok : Bool)
  | updateAbort (via : Path)
  | updateConfirm (via : Path)
  | ownerKey (via : Path) (data : List Byte)
  | lcAdvance (via : Path) (data : List Byte)
  | lifeCycleSelfReset
  | lcChallenge (via : Path) (nonce : List Byte)
  | lcDebugAuth (via : Path) (data : List Byte)
  | lcReturn (via : Path) (data : List Byte)
  | keyLoad (via : Path) (data : List Byte)
  | keyErase (via : Path) (data : List Byte)
  | useReset (via : Path) (data : List Byte)
  | useReserveCommit (ok : Bool)
  | resetNRelease (nodeId : BitVec 7) (twinSel : Bool)
  | samplePllNoLock
  | prbsCheck (n : Fin 48) (bits : List Bool)
  | canBusError (port : CanPort) (tx : Bool)
  | l0pDeviceRequest (width : Nat)
deriving DecidableEq, Repr

end Sys2Proof
end

