-- ==== Sys2Proof/Decode.lean ====
section
/-! DEFINITION. Words that spell commands. The rows of the table are operations and events: none of them gives bits,
so no word spells a command (log 10). -/

namespace Sys2Proof

/-- The command that a word of the given number of bits spells, over the rows of the table that give bits: there
are none. -/
def decodeTableWord (_nbits _w : Nat) : Option Instr := none

end Sys2Proof
end

