-- ==== Sys2Proof/Config.lean ====
section
/-! DEFINITION. What the manual leaves open: values fixed by an implementation, by a cited construction or by a secret.
Each is an opaque constant, so that no proof can see its value; the assumption log (3, 5 to 9, 57, 61) names them. -/

namespace Sys2Proof.Config

/-- Free values (log 5): the value an operation takes where the manual states none, by the index that
`State.free` counts. -/
opaque freeNat : Nat → Nat

/-- CODE of an event, notice or fault (Table 13.3): the manual gives names only (log 6). -/
opaque eventCode : EvCode → BitVec 16

/-- CODE_NAME of a code, 32 bytes zero-padded (Table 13.10); the list of codes is the firmware's (log 6). -/
opaque codeName : Nat → List Byte

/-- One loop correction of the raster (R57), from NCO_INC, the carried phase correction, the error in fine bins and the
samples per line: how far the new increment and the correction lie from the exact ones, within the bounds of R57 (log 7). -/
opaque loopFilter : Nat → Int → Int → Nat → Int × Int

/-- How far NCO_INC at lock lies from the increment that the measured line period in fine bins and the pixel count give,
within the resolution of the measurement (R55, R57; log 7). -/
opaque learnedInc : Nat → Nat → Int

/-- Parts in 10^12 by which coherent steering changes the fabric clock's period at a line, within the bounds of R62, from
the measured line period in fine bins, COHERENT_SPL and the present period (log 7). -/
opaque steer : Nat → Nat → Nat → Nat

/-- TAG of an IDLE control message, which the manual does not state, from the link, SEQ of the frame and the TAG of the
latest message (R91; log 57). -/
opaque idleTag : Nat → Nat → Nat → BitVec 8

/-- Brivitu's image key of an index (Table 13.8; log 8). -/
opaque imageKey : Nat → List Byte

/-- Brivitu's service key (R408; log 8). -/
opaque serviceKey : List Byte

/-- Huffman code lengths, at most 15 bits, for a list of symbol counts (R230; log 9). -/
opaque codeLengths : List Nat → List Nat

/-- Code lengths, at most 7 bits, of the code-length alphabet (R230; log 9). -/
opaque codeLengthLengths : List Nat → List Nat

/-- The sequence of code-length symbols 0 to 16 that a list of nonzero code lengths is sent as, each with its two
repeat bits, which only symbol 16 has (R228, R230; log 9). -/
opaque lengthRuns : List Nat → List (Nat × Nat)

/-- VERSION of the Crosscut protocol that the device speaks (Table 12.1, R362; log 3). -/
opaque xcVersion : Nat

/-- Revision ID of both functions (log 61). -/
opaque revisionId : Nat

/-- DICT_VERSION of the factory image (Table 10.6; log 3). -/
opaque factoryDictVersion : Nat

end Sys2Proof.Config
end

