-- ==== Sys2Proof/Machine/State.lean ====
section
/-! DEFINITION. The state of the device: every register, object value, counter, queue, mode and pin that the manual
gives it, as plain data, grouped by the unit that owns it; the flash and one-time-programmable memory (`Nv`); the
queue of waiting commands; the list of things sent. The default of every field is its value at reset. Fields that
are the model's own, not the manual's, say so. -/

namespace Sys2Proof.Machine

/-- Reasons for which the block stops. There is one: no effect of the manual is a stop. -/
inductive Fault where
  /-- Raised by probeFrameReceive for a frame that is not 1,700 symbols long (R77), by sensorSample for a list that is
  not 15 readings long (Table 13.1), by calComplete for histograms that are not of 64 taps (R165) and by
  xcBlockReceive for a block without four partner parts (Table 12.2): operands that no wire can carry. Safe. -/
  | illFormed
deriving DecidableEq, Repr

/-- Reasons for which a command has no meaning. No meaning answers with one. -/
inductive Refusal where
  /-- A command not modelled yet; no arm uses it. Safe. -/
  | notModelled (mnemonic : String)
deriving DecidableEq, Repr

/-- A field held in three copies, and the last value on which two copies agreed (R342). -/
structure Voted (α : Type) where
  c0 : α
  c1 : α
  c2 : α
  last : α
deriving DecidableEq, Repr

/-- Object values: (index · 256 + subindex, value), strictly rising, none equal to the object's default. A value is
the little-endian number of the object's wire bytes (R6, R304). -/
abbrev ObjMap := List (Nat × Nat)

/-- A W1C-flagged counter of the register space: COUNT [30:0] and OVERFLOW [31] (Tables 9.10, 11.6, 11.7). -/
structure RegCount where
  /-- COUNT, 31 bits. Reset 0. -/
  count : Nat := 0
  /-- OVERFLOW, 1 bit. Reset 0. -/
  overflow : Bool := false
deriving DecidableEq, Repr

/-! ## Power, pins and resets -/

/-- Power and boot phases: unpowered (R421), held in reset (R37), booting (R32), running, shed after a power-fail
detection (R395), held in factory test by a tied do-not-connect ball (R418). -/
inductive Phase where
  | off | heldInReset | booting | running | shed | factoryTest
deriving DecidableEq, Repr

/-- The HBM's power states (R13, R35). -/
inductive Hbm where
  | off | training | selfRefresh | active
deriving DecidableEq, Repr

/-- Power, straps and supervisory pins. -/
structure Power where
  /-- Power and boot phase (R32, R37, R395; 01_modes_and_startup.md). Reset: booting, as after VIN rise. -/
  phase : Phase := .booting
  /-- Recovery boot: both image slots failed (R32; 01_modes_and_startup.md). Reset 0. -/
  recovery : Bool := false
  /-- NODE_ID[6:0] as sampled, 7 bits (R34; 01_modes_and_startup.md). Reset: sampled, pins open read 0 (R432). -/
  nodeId : BitVec 7 := 0
  /-- TWIN_SEL as sampled, 1 bit (R34; 01_modes_and_startup.md). Reset: sampled, pin open reads 0 (R432). -/
  twinSel : Bool := false
  /-- PERST_N asserted (R273; 09_host_endpoint.md). Reset: released, an open PERST_N reads released (Table 14.11). -/
  perst : Bool := false
  /-- Fabric powered (R35; 01_modes_and_startup.md). Reset 0. -/
  fabric : Bool := false
  /-- HBM state (R13, R35; 01_modes_and_startup.md). Reset: off. -/
  hbm : Hbm := .off
  /-- RCAL out of range, factory trim in use (R428; 14_balls_power_electrical.md). Reset 0. -/
  rcalBad : Bool := false
  /-- FAULT_N asserted (R390; 13_foreman_and_security.md). Reset 0. -/
  faultN : Bool := false
  /-- PPS_OUT level (R70; 02_raster_time.md). Reset 0. -/
  ppsOut : Bool := false
  /-- CLKREQ_N asserted (R293, R294; 09_host_endpoint.md). Reset: asserted, DESIGN CHOICE 1 (log 2). -/
  clkreq : Bool := true
  /-- Time since reset at the end of the last boot, from which UPTIME counts (R333; 10_object_dictionary.md). Reset 0. -/
  bootUp : Nat := 0
deriving DecidableEq, Repr

/-! ## Modes and epochs -/

/-- A change set that COMMIT has frozen (R21): the mode it leads this module to, the mode the pair captures in
(R363), and the epoch instant as a RASTPOS. -/
structure Committed where
  /-- Mode the change leads to (R18). -/
  target : Nat
  /-- Mode of the Active or Solo module after the change (R363). -/
  base : Nat
  /-- Epoch instant, RASTPOS (R9, R22). -/
  at_ : Nat
deriving DecidableEq, Repr

/-- What an epoch leaves behind for its check and a rollback (R28): number, mode and live values before it, and the
keys of its change set, and the frame and line (frame · 2^14 + line) from which its check window, and after a failure
the two lines before the rollback, are counted (R28, R72). -/
structure AfterEpoch where
  number : Nat
  sidx : Nat
  line : Nat
  prevMode : Nat
  prevLive : ObjMap
  set : List Nat
deriving DecidableEq, Repr

/-- Progress of the move from Dormant to Ready (R35). -/
structure Entry where
  auto : Bool := false
  fabricDone : Bool := false
  hbmDone : Bool := false
  linksTimedOut : Bool := false
deriving DecidableEq, Repr

/-- The epoch scheduler and its objects (Table 1.2). -/
structure Modes where
  /-- MODE_CURRENT, voted, ENUM8 (R13, R18, Table 11.2; 01_modes_and_startup.md). Reset 0. -/
  mode : Voted Nat := ⟨0, 0, 0, 0⟩
  /-- EPOCH_CURRENT, voted, U16 (R18, R27, Table 11.2; 01_modes_and_startup.md). Reset 0. -/
  epoch : Voted Nat := ⟨0, 0, 0, 0⟩
  /-- CHANGE_STATE, ENUM8 (R18; 01_modes_and_startup.md). Reset 0. -/
  changeState : Nat := 0
  /-- REFUSAL_CAUSE, ENUM8 (R18, Table 1.4; 01_modes_and_startup.md). Reset 0. -/
  refusalCause : Nat := 0
  /-- UNIT_MASK, 11 bits (R24, Table 1.5; 01_modes_and_startup.md). Reset 0. -/
  unitMask : BitVec 11 := 0
  /-- EPOCH_SIDX, 64 bits (R18, R26; 01_modes_and_startup.md). Reset 0. -/
  epochSidx : Nat := 0
  /-- EPOCH_ZERO_TIME, TIME96 as a number (R18, R36; 01_modes_and_startup.md). Reset 0. -/
  epochZeroTime : Nat := 0
  /-- ABORT_COUNT, U32, sticky overflow in bit 31 (R18, R25; 01_modes_and_startup.md). Reset 0. -/
  abortCount : Nat := 0
  /-- ROLLBACK_COUNT, U32, sticky overflow in bit 31 (R18, R28; 01_modes_and_startup.md). Reset 0. -/
  rollbackCount : Nat := 0
  /-- The staged change set: (object, staged value) in order of key, MODE_REQUEST and EPOCH_AT among them (R21; 01_modes_and_startup.md). Reset: empty. -/
  staged : ObjMap := []
  /-- The committed change, from COMMIT to the epoch (R21; 01_modes_and_startup.md). Reset: none. -/
  committed : Option Committed := none
  /-- The epoch whose post-epoch check window is open (R28; 01_modes_and_startup.md). Reset: none. -/
  check : Option AfterEpoch := none
  /-- The failed epoch whose rollback is due (R28; 01_modes_and_startup.md). Reset: none. -/
  rollback : Option AfterEpoch := none
  /-- Spans between a failed epoch and its rollback, newest first: first sample and, once known, the rollback sample (R28; 01_modes_and_startup.md). Reset: none. -/
  splits : List (Nat × Option Nat) := []
  /-- The move to Ready in progress (R35; 01_modes_and_startup.md). Reset: none. -/
  entry : Option Entry := none
  /-- A forced epoch decided and not yet taken: cause and target mode (R30; 01_modes_and_startup.md). Reset: none. -/
  forced : Option (ForcedBy × Nat) := none
  /-- Epoch-zero has taken place since power-up or module reset (R36; 01_modes_and_startup.md). Reset 0. -/
  zeroDone : Bool := false
  /-- A role swap is staged (R376; 12_twin_operation.md). Reset 0. -/
  swapStaged : Bool := false
  /-- A detach is staged (R377; 12_twin_operation.md). Reset 0. -/
  detachStaged : Bool := false
deriving DecidableEq, Repr

/-! ## Surveyor -/

/-- The samples on which something held, as spans from a first to a last sample, newest first. -/
structure Marks where
  spans : List (Nat × Nat) := []
deriving DecidableEq, Repr

/-- A raster position (Table 0.5). -/
structure RastPos where
  frame : Nat := 0
  field : Nat := 0
  line : Nat := 0
  pixel : Nat := 0
  sub : Nat := 0
deriving DecidableEq, Repr

/-- The Surveyor (chapter 2). -/
structure Surveyor where
  /-- SIDX of the latest sample, 64 bits (R7, R40; 00_scope.md). Reset 0. -/
  sidx : Nat := 0
  /-- TIME96 of the latest sample in units of 1/(3·2^48) ns, exact (R8, R66; 02_raster_time.md). Reset 0. -/
  time : Nat := 0
  /-- Time since the end of the last reset in the same units, steps and slews of TIME96 left out; durations are counted on it (UPTIME, R333; 10_object_dictionary.md). Reset 0. -/
  up : Nat := 0
  /-- True period of the fabric clock in the same units; 2^48 on the free-running clock (R66; 02_raster_time.md). Reset 2^48. -/
  period : Nat := 281474976710656
  /-- What TIME96 advanced by on the latest sample, its slew included (R66, R68, R70; 02_raster_time.md). Reset 0. -/
  advance : Nat := 0
  /-- TIME96 correction still to be slewed, in the same units (R68; 02_raster_time.md). Reset 0. -/
  slew : Int := 0
  /-- NCO position: pixel[16:0] and 48-bit fraction as one number (R56; 02_raster_time.md). Reset 0. -/
  pos : Nat := 0
  /-- NCO_INC, U64, units of 2^-48 px (R56, R76; 02_raster_time.md). Reset 0. -/
  inc : Nat := 0
  /-- Phase correction for the line-start sample (R56, R57; 02_raster_time.md). Reset 0. -/
  corr : Int := 0
  /-- Line of the latest sample, 14 bits (R9, R56; 02_raster_time.md). Reset 0. -/
  line : Nat := 0
  /-- Frame of the latest sample, 24 bits (R9, R56; 02_raster_time.md). Reset 0. -/
  frame : Nat := 0
  /-- Field of the latest sample, 2 bits (R9, R56; 02_raster_time.md). Reset 0. -/
  field : Nat := 0
  /-- Pixel count in force, ppl (R56; 02_raster_time.md). Reset 3,000, the default internal raster (R45). -/
  ppl : Nat := 3000
  /-- Line count in force, lpf (R56; 02_raster_time.md). Reset 1,000 (R45). -/
  lpf : Nat := 1000
  /-- First line of each field on the raster in force (R45, R73; 02_raster_time.md). Reset: one field from line 0. -/
  fieldStarts : List Nat := [0]
  /-- The latest sample is a line start (R56; 02_raster_time.md). Reset 0. -/
  lineStart : Bool := false
  /-- The latest sample is a frame start (R56; 02_raster_time.md). Reset 0. -/
  frameStart : Bool := false
  /-- The undithered position crossed a pixel boundary on the latest sample (R157; 05_shaft_trigger.md). Reset 0. -/
  pixelCross : Bool := false
  /-- Dither LFSR, 32 bits (R56, R61; 02_raster_time.md). Reset 0 (DITHER_SEED default). -/
  lfsr : Word := 0
  /-- Dither error accumulator, signed (R56; 02_raster_time.md). Reset 0. -/
  err : Int := 0
  /-- LFSR and err before the latest sample's dither, by which the sample is stamped anew after a jump (R56, R61; 02_raster_time.md). Reset 0, 0. -/
  ditherWas : Word × Int := (0, 0)
  /-- Sub-pixel stamped on the latest sample (R56; 02_raster_time.md). Reset 0. -/
  sub : Nat := 0
  /-- Undithered position of the sample before (R158; 05_shaft_trigger.md). Reset: zero. -/
  prev : RastPos := {}
  /-- INC values and the samples from which they were in force, newest first, at most 16, by which the one in force a line ago is found (R58; 02_raster_time.md). Reset: none. -/
  incHist : List (Nat × Nat) := []
  /-- RASTER_STATE, ENUM8 (R54, R76; 02_raster_time.md). Reset 0. -/
  state : Nat := 0
  /-- LOCK_CAUSE, ENUM8 (Table 2.1, R76; 02_raster_time.md). Reset 0x01. -/
  lockCause : Nat := 1
  /-- MEASURED_LINES, U16 (R76; 02_raster_time.md). Reset 0. -/
  measuredLines : Nat := 0
  /-- MEASURED_LINE_PERIOD, U32, fine bins (R76; 02_raster_time.md). Reset 0. -/
  measuredLinePeriod : Nat := 0
  /-- PHASE_ERROR, I32, fine bins (R57, R76; 02_raster_time.md). Reset 0. -/
  phaseError : Int := 0
  /-- TIME_STATE, ENUM8 (R68, R76; 02_raster_time.md). Reset 0. -/
  timeState : Nat := 0
  /-- SAMPLE_CLOCK, ENUM8 (R62, R76; 02_raster_time.md). Reset 0. -/
  sampleClock : Nat := 0
  /-- DLL_STATE, ENUM8 (R43, R76; 02_raster_time.md). Reset 0. -/
  dllState : Nat := 0
  /-- RELOCK_COUNT, U32 (R76; 02_raster_time.md). Reset 0. -/
  relockCount : Nat := 0
  /-- HOLDOVER_SMP, U64 (R58, R76; 02_raster_time.md). Reset 0. -/
  holdoverSmp : Nat := 0
  /-- SYNC_REJECTS, U32 (R47, R76; 02_raster_time.md). Reset 0. -/
  syncRejects : Nat := 0
  /-- SYNC_MISSING, U32 (R49, R76; 02_raster_time.md). Reset 0. -/
  syncMissing : Nat := 0
  /-- TRS_ERRORS, U32 (R52, R76; 02_raster_time.md). Reset 0. -/
  trsErrors : Nat := 0
  /-- PPS_ERROR, I32, ns (R68, R76; 02_raster_time.md). Reset 0. -/
  ppsError : Int := 0
  /-- PPS_REJECTS, U32 (R69, R76; 02_raster_time.md). Reset 0. -/
  ppsRejects : Nat := 0
  /-- GOVERNOR_CLAMPS, U32 (R65, R76; 02_raster_time.md). Reset 0. -/
  governorClamps : Nat := 0
  /-- Sample PLL locked (R41; 02_raster_time.md). Reset 0. -/
  pllLocked : Bool := false
  /-- The 156.25 MHz reference is declared lost (R42; 02_raster_time.md). Reset 0. -/
  refLost : Bool := false
  /-- The reference was lost in Dormant since the last entry to Ready (R42; 02_raster_time.md). Reset 0. -/
  sidxUncertain : Bool := false
  /-- Pulse widths seen while the line-pulse width is learned, at most 64 (R47; 02_raster_time.md). Reset: none. -/
  widths : List Nat := []
  /-- Learned line-pulse width w, smp (R47; 02_raster_time.md). Reset: none. -/
  width : Option Nat := none
  /-- Leading edge of the last line-class pulse, fine bins (R47, R48; 02_raster_time.md). Reset: none. -/
  lastPulse : Option Nat := none
  /-- Missing line starts in a row (R49; 02_raster_time.md). Reset 0. -/
  missingRun : Nat := 0
  /-- Latest reference line start, fine bins (R57; 02_raster_time.md). Reset: none. -/
  lastRefLine : Option Nat := none
  /-- Latest reference line period, fine bins (R57; 02_raster_time.md). Reset: none. -/
  lastPeriod : Option Nat := none
  /-- Reference line starts in a row that agree in period (R59; 02_raster_time.md). Reset 0. -/
  agreeRun : Nat := 0
  /-- Line period of the held raster, fine bins, kept at entry into HOLDOVER (R59; 02_raster_time.md). Reset 0. -/
  heldPeriod : Nat := 0
  /-- The complete reference frame before (R55; 02_raster_time.md). Reset: none. -/
  lastFrame : Option FrameMeasure := none
  /-- HOLDOVER_LONG has been raised in this holdover (R58; 02_raster_time.md). Reset 0. -/
  holdAlerted : Bool := false
  /-- The last three words latched from the TRS bus with their positions in fine bins, newest first (R52; 02_raster_time.md). Reset: none. -/
  trsLast : List (Nat × Nat) := []
  /-- V of the preceding H = 1 reference (R53; 02_raster_time.md). Reset: none. -/
  trsV : Option Bool := none
  /-- The sample on which the TRS bus was latched last (R52; 02_raster_time.md). Reset: none. -/
  trsAt : Option Nat := none
  /-- Word-clock edges since the latest line start of the TRS source, and those of the line before (R53; 02_raster_time.md). Reset 0, 0. -/
  trsPixels : Nat × Nat := (0, 0)
  /-- Field number of the TRS source (R53; 02_raster_time.md). Reset 0. -/
  trsField : Nat := 0
  /-- Timing references seen and failed since acquisition started (Table 2.1; 02_raster_time.md). Reset 0, 0. -/
  trsSeen : Nat × Nat := (0, 0)
  /-- Latest line start of a TRS or sync source found by its detector, fine bins, and whether it starts a frame (R48, R52; 02_raster_time.md). Reset: none. -/
  foundLine : Option (Nat × Bool) := none
  /-- TIME_OF_DAY seconds waiting for their edge and the time since reset at the write (R67; 02_raster_time.md). Reset: none. -/
  todPending : Option (Nat × Nat) := none
  /-- A TIME_OF_DAY has taken effect (R68; 02_raster_time.md). Reset 0. -/
  todApplied : Bool := false
  /-- A PPS_IN edge has been seen; its latest TIME96 (R69; 02_raster_time.md). Reset: none. -/
  ppsLast : Option Nat := none
  /-- PPS_IN edges are present, that is not lost for 1.5 s (R67, R69; 02_raster_time.md). Reset 0. -/
  ppsPresent : Bool := false
  /-- Good edges in a row (R68; 02_raster_time.md). Reset 0. -/
  ppsGood : Nat := 0
  /-- Rejected edges in a row (R69; 02_raster_time.md). Reset 0. -/
  ppsRejectRun : Nat := 0
  /-- Samples made in holdover, reference loss or a governor stretch (R60, R65; 02_raster_time.md). Reset: none. -/
  holdMark : Marks := {}
  /-- Samples made with DLL_STATE FAULT (R43; 02_raster_time.md). Reset: none. -/
  dllMark : Marks := {}
  /-- SIDX of the latest frame start of RASTPOS (R230; 07_smelter.md). Reset: none. -/
  lastFrameStart : Option Nat := none
deriving DecidableEq, Repr

/-! ## Probe links, Crosscut lanes and seams -/

/-- One receiver and its transmit half: a probe link (Tables 3.11, 3.12) or a Crosscut lane (R358, R380). -/
structure Link where
  /-- LINK_STATE, ENUM8 (Table 3.6; 03_probe_links_and_seams.md). Reset 0. -/
  state : Nat := 0
  /-- NO_PARTNER (R98; 03_probe_links_and_seams.md). Reset 0. -/
  noPartner : Bool := false
  /-- LINK_CAUSE, ENUM8 (Table 3.8; 03_probe_links_and_seams.md). Reset 0. -/
  cause : Nat := 0
  /-- RX_INVERTED (R79; 03_probe_links_and_seams.md). Reset 0. -/
  rxInverted : Bool := false
  /-- PRECODE_RX (R99; 03_probe_links_and_seams.md). Reset 0. -/
  precodeRx : Bool := false
  /-- PRECODE_TX (R99; 03_probe_links_and_seams.md). Reset 0. -/
  precodeTx : Bool := false
  /-- PRECODE_REQ as read at the latest entry to SEARCH (R99; 03_probe_links_and_seams.md). Reset 0. -/
  precodeWant : Bool := false
  /-- The partner asks for precoded symbols (R99; 03_probe_links_and_seams.md). Reset 0. -/
  partnerWants : Bool := false
  /-- PRECODE_PEND is set in the device's training word; frames sent with it (R99; 03_probe_links_and_seams.md). Reset: none. -/
  precodePend : Option Nat := none
  /-- Frames since the partner's training words show PRECODE_PEND (R99; 03_probe_links_and_seams.md). Reset: none. -/
  pendSeen : Option Nat := none
  /-- Last symbol received, before the polarity is corrected; p_(n-1) (R80; 03_probe_links_and_seams.md). Reset 0. -/
  rxPrev : Fin 4 := 0
  /-- Last precoded symbol sent, p_(n-1) (R80; 03_probe_links_and_seams.md). Reset 0. -/
  txPrev : Fin 4 := 0
  /-- UI alignment at which the receiver is framed, 0 to 1,699 (R95; 03_probe_links_and_seams.md). Reset 0. -/
  alignment : Nat := 0
  /-- STATE of the partner's latest training word; 5 or more is DESKEW or UP (R97; 03_probe_links_and_seams.md). Reset 0. -/
  partnerState : Nat := 0
  /-- FE_PORT_ID, U8 (R96; 03_probe_links_and_seams.md). Reset 0. -/
  portId : Nat := 0
  /-- FE_STATUS, U8 (Table 3.12; 03_probe_links_and_seams.md). Reset 0. -/
  feStatus : Byte := 0
  /-- ARRIVAL_PHASE, U8 (R103; 03_probe_links_and_seams.md). Reset 0. -/
  arrivalPhase : Nat := 0
  /-- TEST_LOCK (R112; 03_probe_links_and_seams.md). Reset 0. -/
  testLock : Bool := false
  /-- FRAMES, U64 (R115; 03_probe_links_and_seams.md). Reset 0. -/
  frames : Nat := 0
  /-- PRE_FEC_SYMBOLS, U64 (R115; 03_probe_links_and_seams.md). Reset 0. -/
  preFec : Nat := 0
  /-- POST_FEC_SYMBOLS, U64 (R115; 03_probe_links_and_seams.md). Reset 0. -/
  postFec : Nat := 0
  /-- UNCORRECTABLE, U32 (Table 3.12; 03_probe_links_and_seams.md). Reset 0. -/
  uncorrectable : Nat := 0
  /-- FEC_HIST, 15 × U32 (R115; 03_probe_links_and_seams.md). Reset 0 each. -/
  fecHist : Vector Nat 15 := Vector.replicate 15 0
  /-- SEQ_ERRORS, U32 (R109; 03_probe_links_and_seams.md). Reset 0. -/
  seqErrors : Nat := 0
  /-- FINE_OVERFLOWS, U32 (R89; 03_probe_links_and_seams.md). Reset 0. -/
  fineOverflows : Nat := 0
  /-- FINE_INVALID, U32 (R88; 03_probe_links_and_seams.md). Reset 0. -/
  fineInvalid : Nat := 0
  /-- LOCK_LOSSES, U32 (Table 3.12; 03_probe_links_and_seams.md). Reset 0. -/
  lockLosses : Nat := 0
  /-- TRAIN_FAILS, U32 (Table 3.12; 03_probe_links_and_seams.md). Reset 0. -/
  trainFails : Nat := 0
  /-- PRBS_BITS, U64 (R112; 03_probe_links_and_seams.md). Reset 0. -/
  prbsBits : Nat := 0
  /-- PRBS_ERRORS, U64 (R112; 03_probe_links_and_seams.md). Reset 0. -/
  prbsErrors : Nat := 0
  /-- PRBS_RESYNC, U32 (R112; 03_probe_links_and_seams.md). Reset 0. -/
  prbsResync : Nat := 0
  /-- LOOP_SLIPS, U32 (R114; 03_probe_links_and_seams.md). Reset 0. -/
  loopSlips : Nat := 0
  /-- FE_MSG_TIMEOUTS, U32 (R91; 03_probe_links_and_seams.md). Reset 0. -/
  feMsgTimeouts : Nat := 0
  /-- LANE_MISWIRED, counter of a Crosscut lane (R358; 12_twin_operation.md). Reset 0. -/
  miswired : Nat := 0
  /-- SEQ of the last decoded frame (R83, R109; 03_probe_links_and_seams.md). Reset: none. -/
  lastSeq : Option Nat := none
  /-- Clean frames in a row in FEC (Table 3.6; 03_probe_links_and_seams.md). Reset 0. -/
  cleanRun : Nat := 0
  /-- Uncorrectable frames in a row (Table 3.8; 03_probe_links_and_seams.md). Reset 0. -/
  badRun : Nat := 0
  /-- Frames with SEQ errors in a row (Table 3.8; 03_probe_links_and_seams.md). Reset 0. -/
  seqRun : Nat := 0
  /-- The arrival grid: A_q minus 192 times the frame's number, modulo 192·256, with the frames that have agreed (R103; 03_probe_links_and_seams.md). Reset: none. -/
  grid : Option (Nat × Nat) := none
  /-- Frames off the grid in a row (R105; 03_probe_links_and_seams.md). Reset 0. -/
  driftRun : Nat := 0
  /-- PARTNER_RX_FAIL has been raised in this DESKEW (R100; 03_probe_links_and_seams.md). Reset 0. -/
  rxFailRaised : Bool := false
  /-- SEQ of the next frame the transmit half sends (R83; 03_probe_links_and_seams.md). Reset 0, DESIGN CHOICE (log 2). -/
  txSeq : Nat := 0
  /-- The control message being sent, 64 bytes (R91; 03_probe_links_and_seams.md). Reset: none. -/
  msg : Option (List Byte) := none
  /-- TAG of the latest control message (R91; 03_probe_links_and_seams.md). Reset 0, DESIGN CHOICE (log 2). -/
  msgTag : Nat := 0
  /-- Attempts of the message being sent (R91; 03_probe_links_and_seams.md). Reset 0. -/
  msgAttempts : Nat := 0
  /-- ACK bit last seen (R91; 03_probe_links_and_seams.md). Reset 0. -/
  ackSeen : Bool := false
  /-- Device messages waiting, CONFIG_TIMING and PATTERN (R92; 03_probe_links_and_seams.md). Reset: none. -/
  deviceMsgs : List (List Byte) := []
  /-- Host messages waiting, at most four (R92; 03_probe_links_and_seams.md). Reset: none. -/
  hostMsgs : List (List Byte) := []
  /-- The CONFIG_TIMING last sent is acknowledged (R89; 03_probe_links_and_seams.md). Reset 0. -/
  timingAcked : Bool := false
  /-- The CONFIG_TIMING of this bring-up has been acknowledged or dropped (R97; 03_probe_links_and_seams.md). Reset 0. -/
  timingDone : Bool := false
  /-- FE_FAULT of the last DATA frame (R93; 03_probe_links_and_seams.md). Reset 0. -/
  feFault : Bool := false
  /-- The PATTERN message has been acknowledged, the checker runs (R111; 03_probe_links_and_seams.md). Reset 0. -/
  patternAcked : Bool := false
  /-- PRBS checker: last bits received, newest first, at most 31 (R112; 03_probe_links_and_seams.md). Reset: none. -/
  prbsReg : List Bool := []
  /-- PRBS checker: in sync (R112; 03_probe_links_and_seams.md). Reset 0. -/
  prbsSync : Bool := false
  /-- PRBS checker: matching bits in a row while out of sync (R112; 03_probe_links_and_seams.md). Reset 0. -/
  prbsMatch : Nat := 0
  /-- PRBS checker: error pattern of the last 256 bits, newest first (R112; 03_probe_links_and_seams.md). Reset: none. -/
  prbsWindow : List Bool := []
  /-- The receiver is framed in TEST (R112, R114; 03_probe_links_and_seams.md). Reset 0. -/
  framed : Bool := false
  /-- The elastic buffer of FAR_END, oldest frame first, at most four (R114; 03_probe_links_and_seams.md). Reset: none. -/
  loopBuf : List (List (Fin 4)) := []
  /-- The frame that FAR_END sent last, for a repetition (R114; 03_probe_links_and_seams.md). Reset: none. -/
  loopLast : List (Fin 4) := []
  /-- Pattern generator: the bits sent last, newest first (R111; 03_probe_links_and_seams.md). Reset 31 ones, DESIGN CHOICE (log 2). -/
  txPrbs : List Bool := List.replicate 31 true
  /-- Last sample of the previous decoded frame, for edges on sample 0 (R86, R88; 03_probe_links_and_seams.md). Reset: none. -/
  lastWord : Option SeamWord := none
deriving DecidableEq, Repr

/-- The coordinates of a sample: SIDX, RASTPOS as stamped, TIME96 (R7 to R9). -/
structure Coord where
  sidx : Nat
  rastpos : Nat
  time96 : Nat
deriving DecidableEq, Repr

/-- One sample of a seam as the fabric holds it: its state when valid, else the GAP cause of R108, and the fine
codes of timing-channel changes on it (R88). -/
structure Samp where
  sidx : Nat
  word : Option SeamWord
  cause : Nat := 0
  frameId : Nat := 0
  fineA : Option Nat := none
  fineB : Option Nat := none
  coarse : Bool := false
deriving DecidableEq, Repr

/-- One seam (Tables 3.13, 4.11). -/
structure Seam where
  /-- Samples received and not yet cut into every copy, oldest first (R103, R104; 03_probe_links_and_seams.md). Reset: none. -/
  buf : List Samp := []
  /-- The seam has joined the capture fabric (R107; 03_probe_links_and_seams.md). Reset 0. -/
  joined : Bool := false
  /-- Data SIDX of sample 0 of the first frame decoded in UP since the loss (R107; 03_probe_links_and_seams.md). Reset: none. -/
  firstUp : Option Nat := none
  /-- First sample that is lost, after a loss of the link or a change of SEAM_SOURCE while the seam was joined (R106, R108; 03_probe_links_and_seams.md). Reset: none. -/
  lostAt : Option Nat := none
  /-- LINK_CAUSE code of the loss that made the seam lost, kept until the next loss (Table 4.8; 04_capture_and_ingots.md). Reset 0. -/
  lostCause : Nat := 0
  /-- First sample of the stream ingot being made (R121; 04_capture_and_ingots.md). Reset: none. -/
  openStream : Option Coord := none
  /-- First sample of the window ingot being made (R183; 05_shaft_trigger.md). Reset: none. -/
  openWindow : Option Coord := none
  /-- FRAME mode: end of the last line taken into the ingot (R126; 04_capture_and_ingots.md). Reset: none. -/
  frameLast : Option Coord := none
  /-- FRAME mode: this frame has fallen back to LINE ingots (R126; 04_capture_and_ingots.md). Reset 0. -/
  frameFell : Bool := false
  /-- The next compressed stream ingot starts from counts of 1 (R230; 07_smelter.md). Reset 1. -/
  freshStream : Bool := true
  /-- The next compressed window ingot starts from counts of 1 (R230; 07_smelter.md). Reset 1. -/
  freshWindow : Bool := true
  /-- First sample of the latest window ingot, none since the last epoch or loss of power (R230; 07_smelter.md). Reset: none. -/
  windowFrom : Option Nat := none
  /-- INGOTS_SAMPLE, U64 (R146; 04_capture_and_ingots.md). Reset 0. -/
  ingotsSample : Nat := 0
  /-- INGOTS_TRANSITION, U64 (R146; 04_capture_and_ingots.md). Reset 0. -/
  ingotsTransition : Nat := 0
  /-- GAP_SMP, U64 (R146; 04_capture_and_ingots.md). Reset 0. -/
  gapSmp : Nat := 0
  /-- FRAME_CUTS, U32 (R126, R146; 04_capture_and_ingots.md). Reset 0. -/
  frameCuts : Nat := 0
deriving DecidableEq, Repr

/-! ## Ingots and streams -/

/-- An ingot (Table 4.2) on its way: header fields, uncompressed payload, stored payload, GCM tag, its close key
(R143), whether it is sealed, whether its
compression starts from counts of 1 (R230), the key and USE it is sealed under (R235, R237), the segment of a window copy (R183) and, once at the door, its door
instant, bound (R194), place in the delivery order (R205, R208) and whether it carries TWIN_COPY (R373). -/
structure Ingot where
  type : Nat
  flags : Byte
  stream : Nat
  source : Nat
  seq : Nat := 0
  sidx : Nat
  rastpos : Nat
  time96 : Nat
  span : Nat
  epoch : Nat
  aux : Nat
  payload : List Byte
  stored : List Byte
  tag : List Byte := []
  close : Nat
  rank : Nat
  isSealed : Bool
  fresh : Bool := false
  keyId : Nat := 0
  use : Nat := 0
  segment : Option Nat := none
  door : Nat := 0
  bound : Nat := 0
  order : Nat := 0
  twinCopy : Bool := false
deriving DecidableEq, Repr

/-- A run of dropped ingots of a stream (R210). -/
structure DropRun where
  firstSeq : Nat
  lastSeq : Nat
  firstSidx : Nat
  lastSidx : Nat
  count : Nat
deriving DecidableEq, Repr

/-- One delivery stream (Tables 4.12, 6.7). -/
structure Stream where
  /-- The stream is armed (R118, R195; 06_admission_and_delivery.md). Reset 0. -/
  armed : Bool := false
  /-- NEXT_SEQ, U64 (R142, R147; 04_capture_and_ingots.md). Reset 0. -/
  nextSeq : Nat := 0
  /-- INGOTS, U64 (R147; 04_capture_and_ingots.md). Reset 0. -/
  ingots : Nat := 0
  /-- ADMITTED, U64 (R223; 06_admission_and_delivery.md). Reset 0. -/
  admitted : Nat := 0
  /-- REFUSED, U64 (R203, R223; 06_admission_and_delivery.md). Reset 0. -/
  refused : Nat := 0
  /-- HELD_NOW (R208; 06_admission_and_delivery.md). Reset 0. -/
  held : Bool := false
  /-- Ingots numbered and not yet decided at the door, in SEQ order (R202; 06_admission_and_delivery.md). Reset: none. -/
  waiting : List Ingot := []
  /-- The stream's list in the backlog: admitted, not yet delivered (R205; 06_admission_and_delivery.md). Reset: none. -/
  backlog : List Ingot := []
  /-- Images written and not yet covered by a cursor record (R190, R284; 09_host_endpoint.md). Reset: none. -/
  written : List Ingot := []
  /-- A Shadow's admitted ingots, kept until the host has returned them (R218, R367; 12_twin_operation.md). Reset: none. -/
  shadowKept : List Ingot := []
  /-- The open run of dropped ingots (R210; 06_admission_and_delivery.md). Reset: none. -/
  drop : Option DropRun := none
  /-- The numbers go on at the next arming: armed since the entry into the capture modes, and in use since (R142; 04_capture_and_ingots.md). Reset 0. -/
  kept : Bool := false
  /-- Ring of the configuration the stream was armed under (R195; 06_admission_and_delivery.md). Reset: none. -/
  ring : Option (Fin 64) := none
deriving DecidableEq, Repr

/-! ## Shaft -/

/-- A Shaft counter (R155). -/
structure Counter where
  /-- Value in force for the next sample, 48 bits (R155, R156; 05_shaft_trigger.md). Reset 0. -/
  value : Nat := 0
  /-- Sticky overflow, bit 63 of VALUE (R155; 05_shaft_trigger.md). Reset 0. -/
  overflow : Bool := false
deriving DecidableEq, Repr

/-- A Shaft timer (R157). -/
structure Timer where
  /-- Value in force for the next sample, 48 bits (R157; 05_shaft_trigger.md). Reset 0. -/
  value : Nat := 0
  /-- The timer counts (R157; 05_shaft_trigger.md). Reset 0. -/
  running : Bool := false
deriving DecidableEq, Repr

/-- A crossing kept on an external line: its data-time position in fine bins, its polarity, and whether the aligner was in
FAULT when it was taken (R159, R164). -/
structure Crossing where
  x : Int
  rising : Bool
  coarse : Bool := false
deriving DecidableEq, Repr

/-- An external line (R159 to R164): TRIG_IN[0]–[31] are 0–31, INST[0]–[7] are 32–39. -/
structure ExtLine where
  /-- Last tap, as corrected (R159; 05_shaft_trigger.md). Reset 0. -/
  lastTap : Bool := false
  /-- Crossings placed and not yet before the latest decided sample (R159, R161; 05_shaft_trigger.md). Reset: none. -/
  crossings : List Crossing := []
  /-- Level after the latest decided sample (R161; 05_shaft_trigger.md). Reset 0. -/
  level : Bool := false
  /-- OVERRATE, U32 (R161; 05_shaft_trigger.md). Reset 0. -/
  overrate : Nat := 0
  /-- NARROW, U32 (R159; 05_shaft_trigger.md). Reset 0. -/
  narrow : Nat := 0
  /-- STUCK_NOW (R163; 05_shaft_trigger.md). Reset 0. -/
  stuck : Bool := false
  /-- The present count of STUCK_TIME has raised its event (R163; 05_shaft_trigger.md). Reset 0. -/
  reported : Bool := false
deriving DecidableEq, Repr

/-- A FLAG pin read as an input (R166). -/
structure FlagIn where
  /-- Level last seen at the pin (R166; 05_shaft_trigger.md). Reset 0. -/
  pin : Bool := false
  /-- Accepted level on the latest decided sample (R166; 05_shaft_trigger.md). Reset 0. -/
  level : Bool := false
  /-- Accepted changes that lie ahead: the first sample of their run and the level, oldest first (R166; 05_shaft_trigger.md). Reset: none. -/
  changes : List (Nat × Bool) := []
deriving DecidableEq, Repr

/-- A marker output (R176, R177). -/
structure Marker where
  /-- The output is active (R176; 05_shaft_trigger.md). Reset 0. -/
  active : Bool := false
  /-- Fabric cycle on which the pulse ends (R177; 05_shaft_trigger.md). Reset 0. -/
  endAt : Nat := 0
  /-- Firings decided and not yet at the pin: fabric cycle of the transition and WIDTH in force (R176, R177; 05_shaft_trigger.md). Reset: none. -/
  due : List (Nat × Nat) := []
deriving DecidableEq, Repr

/-- A trigger: its sample, coordinates and placement (Tables 4.6, 4.9, 5.4). -/
structure Trig where
  sidx : Nat
  rastpos : Nat
  time96 : Nat
  bin : Int
  placement : Nat
  level : Nat
  branch : Nat
  markId : Nat
deriving DecidableEq, Repr

/-- An image in a window segment: byte offset in the segment, size, the ingot, and whether the trigger protects
it (R184). Padding (FILL or skipped bytes) has no ingot. -/
structure WinImage where
  off : Nat
  bytes : Nat
  ingot : Option Ingot
  isProtected : Bool
deriving DecidableEq, Repr

/-- A window segment (R182, Table 5.4). -/
structure Segment where
  /-- STATE: 0 FREE, 1 ARMED, 2 POST, 3 CLOSED (R184; 05_shaft_trigger.md). Reset 0. -/
  state : Nat := 0
  /-- CLOSE_CAUSE (R184; 05_shaft_trigger.md). Reset 0. -/
  closeCause : Nat := 0
  /-- GENERATION, U64 (Table 5.4; 05_shaft_trigger.md). Reset 0. -/
  generation : Nat := 0
  /-- The trigger, with its RASTPOS, TIME96, bin, placement, level, branch and MARK_ID (Table 5.4; 05_shaft_trigger.md). Reset: none. -/
  trig : Option Trig := none
  /-- PRE_ACTUAL, U64 (R185; 05_shaft_trigger.md). Reset 0. -/
  preActual : Nat := 0
  /-- POST_ACTUAL, U64 (Table 5.4; 05_shaft_trigger.md). Reset 0. -/
  postActual : Nat := 0
  /-- FIRST_SIDX, U64 (R185; 05_shaft_trigger.md). Reset 0. -/
  firstSidx : Nat := 0
  /-- END_SIDX, U64 (Table 5.4; 05_shaft_trigger.md). Reset 0. -/
  endSidx : Nat := 0
  /-- EPOCH at close, U16 (Table 5.4; 05_shaft_trigger.md). Reset 0. -/
  epoch : Nat := 0
  /-- First sample of the arming (R186; 05_shaft_trigger.md). Reset 0. -/
  armSidx : Nat := 0
  /-- Images held, oldest first (R182; 05_shaft_trigger.md). Reset: none. -/
  images : List WinImage := []
  /-- Next write offset in the segment (R182; 05_shaft_trigger.md). Reset 0x1000. -/
  writeOff : Nat := 4096
  /-- Next window SEQ (R183; 05_shaft_trigger.md). Reset 0. -/
  nextSeq : Nat := 0
  /-- PRE_SMP under which its trigger was accepted (R184; 05_shaft_trigger.md). Reset 0. -/
  preSmp : Nat := 0
  /-- SEAM_MASK: WINDOW_SEAMS at close, U64 (Table 5.4; 05_shaft_trigger.md). Reset 0. -/
  seamMask : Nat := 0
  /-- The header has been written (Table 5.4; 05_shaft_trigger.md). Reset 0. -/
  headerDone : Bool := false
  /-- The segment has been read out whole (R16, R219; 06_admission_and_delivery.md). Reset 0. -/
  readOut : Bool := false
deriving DecidableEq, Repr

/-- A dead interval (R186, R187): first dead sample, triggers counted and the first sixteen listed, the segment
closed, the segment that is next in order, whether it waits for a release under STOP, and the sample of that release. -/
structure Dead where
  start : Coord
  count : Nat := 0
  listed : List Trig := []
  closed : Option Nat
  next : Nat
  waits : Bool := false
  releasedAt : Option Nat := none
deriving DecidableEq, Repr

/-- The Shaft and the pins it drives (chapter 5). -/
structure Shaft where
  /-- CURRENT_LEVEL, U8 (R148, R170; 05_shaft_trigger.md). Reset 0. -/
  level : Nat := 0
  /-- STORAGE (R148, R180; 05_shaft_trigger.md). Reset 0. -/
  storage : Bool := false
  /-- Counters CNT[0]–CNT[15] (R155; 05_shaft_trigger.md). Reset 0 each. -/
  counters : Vector Counter 16 := Vector.replicate 16 {}
  /-- Timers TMR[0]–TMR[7] (R157; 05_shaft_trigger.md). Reset 0, stopped each. -/
  timers : Vector Timer 8 := Vector.replicate 8 {}
  /-- The latest data sample decided (R148; 05_shaft_trigger.md). Reset: none. -/
  decided : Option Nat := none
  /-- The Shaft runs (R188; 05_shaft_trigger.md). Reset 0. -/
  running : Bool := false
  /-- Samples on which storage was on (R180, R181; 05_shaft_trigger.md). Reset: none. -/
  storeMark : Marks := {}
  /-- External lines (R159; 05_shaft_trigger.md). Reset as ExtLine. -/
  lines : Vector ExtLine 40 := Vector.replicate 40 {}
  /-- FLAG[0]–FLAG[15] as inputs (R166; 05_shaft_trigger.md). Reset 0 each. -/
  flags : Vector FlagIn 16 := Vector.replicate 16 {}
  /-- Level at each MARK_OUT pair (R176; 05_shaft_trigger.md). Reset 0 each. -/
  markOut : Vector Bool 8 := Vector.replicate 8 false
  /-- INST lines that the module drives high (R178; 05_shaft_trigger.md). Reset 0 each. -/
  instOut : Vector Bool 8 := Vector.replicate 8 false
  /-- Level driven on each FLAG output, none at high impedance (R178, R179; 05_shaft_trigger.md). Reset: none each. -/
  flagOut : Vector (Option Bool) 16 := Vector.replicate 16 none
  /-- Storage and armed levels as the FLAG outputs show them, by FLAG_MODE 2 and 3 (R178; 05_shaft_trigger.md). Reset 0 each. -/
  shown : Bool × Bool := (false, false)
  /-- Changes of those levels on their way: fabric cycle, storage and armed, oldest first (R178; 05_shaft_trigger.md). Reset: none. -/
  showDue : List (Nat × Bool × Bool) := []
  /-- Own partner source values of the last 256 samples, newest first, one list of four bits a sample (R167; 05_shaft_trigger.md). Reset: none. -/
  ownSources : List (Nat × BitVec 4) := []
  /-- Partner source values received: first sample and four 192-bit parts (R167, R361; 12_twin_operation.md). Reset: none. -/
  peerSources : List (Nat × List (BitVec 192)) := []
  /-- PARTNER_MISSING, U32 (R167; 05_shaft_trigger.md). Reset 0. -/
  partnerMissing : Nat := 0
  /-- Marker outputs (R176, R177; 05_shaft_trigger.md). Reset: inactive. -/
  markers : Vector Marker 8 := Vector.replicate 8 {}
  /-- Window segments (R182; 05_shaft_trigger.md). Reset: FREE. -/
  segments : Vector Segment 64 := Vector.replicate 64 {}
  /-- Segment being filled (R184; 05_shaft_trigger.md). Reset: none. -/
  filling : Option (Fin 64) := none
  /-- Segment armed last, from which the order of R186 goes on (R186, R188; 05_shaft_trigger.md). Reset: none. -/
  lastArmed : Option Nat := none
  /-- The dead interval in progress (R186; 05_shaft_trigger.md). Reset: none. -/
  dead : Option Dead := none
  /-- TRIGGERS, U64 (R189; 05_shaft_trigger.md). Reset 0. -/
  triggers : Nat := 0
  /-- RETRIGGERS, U32 (R185; 05_shaft_trigger.md). Reset 0. -/
  retriggers : Nat := 0
  /-- DEAD_TRIGGERS, U32 (R185; 05_shaft_trigger.md). Reset 0. -/
  deadTriggers : Nat := 0
  /-- DEAD_SMP, U64 (R187; 05_shaft_trigger.md). Reset 0. -/
  deadSmp : Nat := 0
  /-- CAL_STATE, ENUM8 (R165; 05_shaft_trigger.md). Reset 0. -/
  calState : Nat := 0
  /-- Mask of the calibration in progress, 44 bits (R165; 05_shaft_trigger.md). Reset 0. -/
  calMask : BitVec 44 := 0
  /-- CAL_FAIL, 44 bits (R165; 05_shaft_trigger.md). Reset 0. -/
  calFail : BitVec 44 := 0
  /-- DNL_MAX of each line, U16 (R165; 05_shaft_trigger.md). Reset 0 each. -/
  dnlMax : Vector Nat 44 := Vector.replicate 44 0
  /-- Level and fired branch of the samples of the current Crosscut block, newest first (SHAFT_DIGEST, R369; 12_twin_operation.md). Reset: none. -/
  digest : List (Nat × Byte × Byte) := []
deriving DecidableEq, Repr

/-! ## Grizzly, Stockpile and class B -/

/-- A suspension in force (R207): cause, scope, and the sample since which its condition is met again. -/
structure Suspension where
  cause : SuspendCause
  scope : BitVec 64
  metSince : Option Nat
deriving DecidableEq, Repr

/-- A log entry (Table 13.3) with its name in place of its CODE number. -/
structure LogEntry where
  seq : Nat
  code : EvCode
  cls : FaultClass
  unit : UnitId
  sidx : Nat
  time96 : Nat
  epoch : Nat
  mode : Nat
  inst : Nat
  flags : Byte
  reps : Nat
  detail : List Byte
deriving DecidableEq, Repr

/-- An item of the class-B queue (R222): an event entry or an ASSAY image. -/
inductive ClassBItem where
  | entry (e : LogEntry)
  | assay (i : Ingot)
deriving DecidableEq, Repr

/-- The Grizzly, the class-B queue and the window readout (Tables 6.6, 6.8). -/
structure Grizzly where
  /-- Rates of the last valid 1 µs bins in bytes per bin, newest first, at most 10 (R201; 06_admission_and_delivery.md). Reset: none. -/
  bins : List Nat := []
  /-- Class-A bytes transmitted in the current bin (R201; 06_admission_and_delivery.md). Reset 0. -/
  binBytes : Nat := 0
  /-- Throughout the current bin an unheld stream had bytes waiting (R201; 06_admission_and_delivery.md). Reset 0. -/
  binValid : Bool := false
  /-- EGRESS_GUARANTEED, G in Mbit/s, U32 (R193; 06_admission_and_delivery.md). Reset 0. -/
  g : Nat := 0
  /-- G with which the link left L0 last (R211; 06_admission_and_delivery.md). Reset 0. -/
  gWas : Nat := 0
  /-- Samples of a line and of a frame at the latest line start, for w_s (R199; 06_admission_and_delivery.md). Reset 0, 0. -/
  spans : Nat × Nat := (0, 0)
  /-- A TAKEOVER suspension starts at the next delivery (R213; 06_admission_and_delivery.md). Reset 0. -/
  takeoverDue : Bool := false
  /-- FLOOR_SUM in Mbit/s and FLOOR_BURST in bytes, voted (R198, Table 11.2; 06_admission_and_delivery.md). Reset 0, 0. -/
  floor : Voted (Nat × Nat) := ⟨(0, 0), (0, 0), (0, 0), (0, 0)⟩
  /-- Suspensions in force, oldest first; SUSPENDED is their scope (R207; 06_admission_and_delivery.md). Reset: none. -/
  suspensions : List Suspension := []
  /-- SUSPEND_CAUSE, ENUM8 (R207; 06_admission_and_delivery.md). Reset 0. -/
  suspendCause : Nat := 0
  /-- DEMOTED, bit s = seam s (R211; 06_admission_and_delivery.md). Reset 0. -/
  demoted : BitVec 64 := 0
  /-- REFUSED_INGOTS, U64 (R203; 06_admission_and_delivery.md). Reset 0. -/
  refusedIngots : Nat := 0
  /-- BACKLOG_FULL_GAPS, U64 (R203; 06_admission_and_delivery.md). Reset 0. -/
  backlogFullGaps : Nat := 0
  /-- LATE_INGOTS, U64 (R206; 06_admission_and_delivery.md). Reset 0. -/
  lateIngots : Nat := 0
  /-- DROPPED_INGOTS, U64 (R210; 06_admission_and_delivery.md). Reset 0. -/
  droppedIngots : Nat := 0
  /-- RING_TOO_SMALL, U32 (R203; 06_admission_and_delivery.md). Reset 0. -/
  ringTooSmall : Nat := 0
  /-- ECC_CORRECTED, U64 (R217; 06_admission_and_delivery.md). Reset 0. -/
  eccCorrected : Nat := 0
  /-- ECC_UNCORRECTABLE, U32 (R217; 06_admission_and_delivery.md). Reset 0. -/
  eccUncorrectable : Nat := 0
  /-- Time since reset of the uncorrectable errors of the last second (R217; 06_admission_and_delivery.md). Reset: none. -/
  eccTimes : List Nat := []
  /-- CLASS_B_DROPPED, U32 (R222; 06_admission_and_delivery.md). Reset 0. -/
  classBDropped : Nat := 0
  /-- The class-B queue, oldest first, 256 MiB (R214, R222; 06_admission_and_delivery.md). Reset: empty. -/
  classB : List ClassBItem := []
  /-- A run of class-B drops has been reported (R222; 06_admission_and_delivery.md). Reset 0. -/
  classBRun : Bool := false
  /-- RD_STATE, ENUM8 (R219; 06_admission_and_delivery.md). Reset 0. -/
  rdState : Nat := 0
  /-- Time since reset of the readout's latest image or start, for the share of class C (R221; 06_admission_and_delivery.md). Reset 0. -/
  rdSince : Nat := 0
  /-- RD_BYTES, U64 (R219; 06_admission_and_delivery.md). Reset 0. -/
  rdBytes : Nat := 0
  /-- Segment of the readout in progress and the images still to write (R219; 06_admission_and_delivery.md). Reset: none. -/
  rdLeft : Option (Fin 64 × List Ingot) := none
deriving DecidableEq, Repr

/-! ## Smelter -/

/-- Symbol counts carried between compressed ingots: literal/length and distance (R230). -/
structure Counts where
  lit : List Nat
  dist : List Nat
deriving DecidableEq, Repr

/-- A decompression job (Table 7.7): ring slot and the descriptor's fields. -/
structure Job where
  slot : Nat
  opt : Nat
  tag : Nat
  inAddr : Nat
  inLen : Nat
  outCap : Nat
  outAddr : Nat
  outExpect : Nat
  expectCrc : Nat
  /-- Input bytes asked for, and those that have arrived (R243, R270). -/
  asked : Nat := 0
  input : List Byte := []
deriving DecidableEq, Repr

/-- The Smelter and its job ring (Tables 7.4 to 7.6, 7.10). -/
structure Smelter where
  /-- OUTPUT_FULL_INGOTS, U32 (R233; 07_smelter.md). Reset 0. -/
  outputFull : Nat := 0
  /-- BYTES_IN, U64 (R249; 07_smelter.md). Reset 0. -/
  bytesIn : Nat := 0
  /-- BYTES_OUT, U64 (R249; 07_smelter.md). Reset 0. -/
  bytesOut : Nat := 0
  /-- STORED_BLOCKS, U64 (R231; 07_smelter.md). Reset 0. -/
  storedBlocks : Nat := 0
  /-- KEY_USE, 24 bits: USE of the arming in force (R237; 07_smelter.md). Reset 0. -/
  use : Nat := 0
  /-- Carried counts of each seam's stream copy (R230; 07_smelter.md). Reset: none, counts of 1. -/
  carryStream : Vector (Option Counts) 48 := Vector.replicate 48 none
  /-- Carried counts of each seam's window copy (R230; 07_smelter.md). Reset: none, counts of 1. -/
  carryWindow : Vector (Option Counts) 48 := Vector.replicate 48 none
  /-- Window ingots made and not yet sealed, in close-key order (R225, R183; 07_smelter.md). Reset: none. -/
  windowWaiting : List Ingot := []
  /-- JOBS_DONE, U64 (R246; 07_smelter.md). Reset 0. -/
  jobsDone : Nat := 0
  /-- JOBS_FAILED, U32 (R246; 07_smelter.md). Reset 0. -/
  jobsFailed : Nat := 0
  /-- JOB_ERRORS, 11 × U32 (R246; 07_smelter.md). Reset 0 each. -/
  jobErrors : Vector Nat 11 := Vector.replicate 11 0
  /-- SMJ_BASE, 64 bits, SMJ_BASE_HI and SMJ_BASE_LO (R240; 07_smelter.md). Reset 0. -/
  base : Nat := 0
  /-- SMJ_CTRL.ENABLE (R240; 07_smelter.md). Reset 0. -/
  enable : Bool := false
  /-- SMJ_CTRL.RING_ORDER, 4 bits (R240; 07_smelter.md). Reset 0. -/
  order : Nat := 0
  /-- SMJ_TAIL, 16 bits (R240; 07_smelter.md). Reset 0. -/
  tail : Nat := 0
  /-- SMJ_HEAD, 16 bits (R240; 07_smelter.md). Reset 0. -/
  head : Nat := 0
  /-- SMJ_STATUS.HALTED (R240; 07_smelter.md). Reset 0. -/
  halted : Bool := false
  /-- SMJ_STATUS.HALT_CAUSE, 4 bits (R240; 07_smelter.md). Reset 0. -/
  haltCause : Nat := 0
  /-- Next slot to fetch (R240, R243; 07_smelter.md). Reset 0. -/
  fetch : Nat := 0
  /-- Slots whose descriptor read is outstanding, oldest first (R243; 07_smelter.md). Reset: none. -/
  fetching : List Nat := []
  /-- Slots whose descriptor read was orphaned, fetched again when bus mastering returns (R247; 07_smelter.md). Reset: none. -/
  again : List Nat := []
  /-- The job queue toward the engines, JOB_IN (R243, Table 11.5; 07_smelter.md). Reset: empty. -/
  queue : List Job := []
  /-- The job on each engine (R243; 07_smelter.md). Reset: none. -/
  engines : Vector (Option Job) 16 := Vector.replicate 16 none
  /-- Slots completed with a record written but not yet passed by HEAD (Table 7.5; 07_smelter.md). Reset: none. -/
  completed : List Nat := []
  /-- Jobs stopped by the withdrawal of bus mastering, with their engines (R247; 07_smelter.md). Reset: none. -/
  stopped : List (Nat × Job) := []
deriving DecidableEq, Repr

/-! ## Assay -/

/-- A timed edge (R251): fine-bin position, polarity, sample, frame · 2^14 + line, whether coarse, whether on a timing
channel, whether every channel that the slot reads is valid on its sample (R255). -/
structure Edge where
  pos : Int
  rising : Bool
  sidx : Nat
  line : Nat
  coarse : Bool
  timing : Bool
  counts : Bool
deriving DecidableEq, Repr

/-- Samples in a row, on one line, that a slot took in or left out: first, the one after the last, frame · 2^14 + line. -/
structure Run where
  first : Nat
  after : Nat
  line : Nat
deriving DecidableEq, Repr

/-- A result closed and numbered (R265, R266): its ingot, the sample after its scope, KIND, SCOPE, CH_A and CH_B of the
slot, EDGES_A and EDGES_B, STATUS bits known at the close, its contributing samples, the bus words that it takes by their
sample S with their bus (BUS_BASE, BUS_WIDTH, CAPTURE_OFFSET), the GOLDEN it is held against, and whether its body is
final. -/
structure AssayDue where
  ingot : Ingot
  end_ : Nat
  kind : Nat
  scope : Nat
  chA : Nat
  chB : Nat
  edges : Nat × Nat
  status : Nat
  runs : List Run
  words : List (Nat × Option Nat)
  bus : Nat × Nat × Nat
  compare : Option Nat
  done : Bool
deriving DecidableEq, Repr

/-- An Assay slot (Table 8.6) and what it has gathered in its scope. -/
structure Slot where
  /-- NEXT_SEQ, U64 (R265; 08_assay.md). Reset 0. -/
  nextSeq : Nat := 0
  /-- RESULTS, U64 (R269; 08_assay.md). Reset 0. -/
  results : Nat := 0
  /-- MISMATCHES, U32 (R261; 08_assay.md). Reset 0. -/
  mismatches : Nat := 0
  /-- GOLDEN in force in this frame (R261; 08_assay.md). Reset 0. -/
  golden : Nat := 0
  /-- First sample of the scope with its RASTPOS and TIME96 (R253, R263; 08_assay.md). Reset: none. -/
  start : Option Coord := none
  /-- The scope began at an epoch rather than at its boundary (CUT, R253; 08_assay.md). Reset 0. -/
  cutStart : Bool := false
  /-- The scope began inside a line (R261; 08_assay.md). Reset 0. -/
  midLine : Bool := false
  /-- Contributing samples of the scope (VALID_SMP, LINES, R254, R255; 08_assay.md). Reset: none. -/
  runs : List Run := []
  /-- Samples of the scope left out for lack of valid data (PARTIAL, R255; 08_assay.md). Reset: none. -/
  left : List Run := []
  /-- Edges of CH_A under this epoch, oldest first (R251; 08_assay.md). Reset: none. -/
  edgesA : List Edge := []
  /-- Edges of CH_B under this epoch, oldest first (R251; 08_assay.md). Reset: none. -/
  edgesB : List Edge := []
  /-- Edges of the data channels of SETUP_HOLD or of the channels of STUCK with their index (R258, R262; 08_assay.md). Reset: none. -/
  edgesD : List (Nat × Edge) := []
  /-- Seam and first sample of each run of invalid data; intervals do not span them (R252; 08_assay.md). Reset: none. -/
  breaks : List (Nat × Nat) := []
  /-- Bus words of the scope by their sample S, none while not captured or without valid data (R260; 08_assay.md). Reset: none. -/
  words : List (Nat × Option Nat) := []
  /-- States of the sixteen channels of STUCK on the latest contributing sample (R262; 08_assay.md). Reset 0. -/
  levels : BitVec 16 := 0
  /-- Consecutive results in which each channel was stuck (R262; 08_assay.md). Reset 0 each. -/
  stuckRun : Vector Nat 16 := Vector.replicate 16 0
  /-- Channels reported by CHANNEL_STUCK (R262; 08_assay.md). Reset 0. -/
  stuckRaised : BitVec 16 := 0
  /-- Results closed and numbered, waiting to enter the class-B queue (R266; 08_assay.md). Reset: none. -/
  closed : List AssayDue := []
deriving DecidableEq, Repr

/-! ## Headframe -/

/-- A cursor record formed: GEN, WR_POS, images covered, and the time since reset at which it was formed (R284,
R368). -/
structure Formed where
  gen : Nat
  wrPos : Nat
  images : Nat
  since : Nat
deriving DecidableEq, Repr

/-- Registers and device position of a ring or of the event queue (Tables 9.4, 9.5). -/
structure Ring where
  /-- RING_BASE, 64 bits (R287; 09_host_endpoint.md). Reset 0. -/
  base : Nat := 0
  /-- RING_CUR, cursor block address, 64 bits (R287; 09_host_endpoint.md). Reset 0. -/
  cur : Nat := 0
  /-- RING_CTRL.ENABLE (R286, R287; 09_host_endpoint.md). Reset 0. -/
  enable : Bool := false
  /-- RING_CTRL.IRQ_EN (R287; 09_host_endpoint.md). Reset 0. -/
  irqEn : Bool := false
  /-- RING_CTRL.SIZE_ORDER, 4 bits (R287; 09_host_endpoint.md). Reset 0. -/
  sizeOrder : Nat := 0
  /-- RING_RD_POS, 32 bits (R283, R287; 09_host_endpoint.md). Reset 0. -/
  rdPos : Nat := 0
  /-- RING_WR_POS, 32 bits (R287; 09_host_endpoint.md). Reset 0. -/
  wrPos : Nat := 0
  /-- RING_STATUS.CURSOR_BAD (R283, R287; 09_host_endpoint.md). Reset 0. -/
  cursorBad : Bool := false
  /-- RING_STATUS.TOO_SMALL (R203, R282; 09_host_endpoint.md). Reset 0. -/
  tooSmall : Bool := false
  /-- RING_IRQ.IRQ_BYTES, 16 bits (R287; 09_host_endpoint.md). Reset 0. -/
  irqBytes : Nat := 0
  /-- RING_IRQ.IRQ_DELAY, 16 bits (R287; 09_host_endpoint.md). Reset 0. -/
  irqDelay : Nat := 0
  /-- Device position p, 32 bits (R281, R282; 09_host_endpoint.md). Reset 0. -/
  pos : Nat := 0
  /-- GEN, 32 bits: records written since ENABLE (Table 9.4; 09_host_endpoint.md). Reset 0. -/
  gen : Nat := 0
  /-- The next record carries RESTART (R286; 09_host_endpoint.md). Reset 0. -/
  restart : Bool := false
  /-- Images written and not yet covered: SEQ, SIDX, bytes (R284; 09_host_endpoint.md). Reset: none. -/
  uncovered : List (Nat × Nat × Nat) := []
  /-- Images in the ring that the host has not wholly returned: end position, SEQ, time since reset at the door (R367, R370, Table 12.3; 12_twin_operation.md). Reset: none. -/
  laid : List (Nat × Nat × Nat) := []
  /-- SEQ and SIDX of the last ingot covered (Table 9.4; 09_host_endpoint.md). Reset: none, all ones. -/
  lastCovered : Option (Nat × Nat) := none
  /-- TOTAL_BYTES, U64 (Table 9.4; 09_host_endpoint.md). Reset 0. -/
  totalBytes : Nat := 0
  /-- Bytes covered by records not yet signalled (R290; 09_host_endpoint.md). Reset 0. -/
  unsignalled : Nat := 0
  /-- A record covering images not yet signalled has been written (R290; 09_host_endpoint.md). Reset 0. -/
  unsignalledAny : Bool := false
  /-- A record formed and waiting for CONFIRM (R368; 12_twin_operation.md). Reset: none. -/
  awaiting : Option Formed := none
deriving DecidableEq, Repr

/-- One MSI-X table entry (R291): address, data, Mask bit. -/
structure MsixEntry where
  /-- Message address, 64 bits (R291; 09_host_endpoint.md). Reset 0. -/
  addr : Nat := 0
  /-- Message data, 32 bits (R291; 09_host_endpoint.md). Reset 0. -/
  data : Nat := 0
  /-- Mask bit (R291; 09_host_endpoint.md). Reset: PRESUMED 1 (PCI Express Base, log 2). -/
  masked : Bool := true
  /-- Pending bit of the PBA (R291; 09_host_endpoint.md). Reset 0. -/
  pending : Bool := false
deriving DecidableEq, Repr

/-- One outstanding or retired tag (R296): the request it stands for and its state. -/
structure Tag where
  tag : Nat
  descriptor : Bool
  slot : Nat
  orphaned : Bool
  timedOut : Bool
deriving DecidableEq, Repr

/-- A function's configuration state (R274, R275, R291, R298). -/
structure FnConfig where
  /-- Memory Space Enable (R298; 09_host_endpoint.md). Reset: PRESUMED 0 (PCI Express Base, log 2). -/
  mse : Bool := false
  /-- MSI-X Enable (R291; 09_host_endpoint.md). Reset: PRESUMED 0 (log 2). -/
  msixEnable : Bool := false
  /-- MSI-X Function Mask (R291; 09_host_endpoint.md). Reset: PRESUMED 0 (log 2). -/
  msixMask : Bool := false
  /-- D3hot of PF1 (R292; 09_host_endpoint.md). Reset 0. -/
  d3 : Bool := false
  /-- Device Status, bits 3 to 0 (R300; 09_host_endpoint.md). Reset: PRESUMED 0 (log 61). -/
  devSta : Nat := 0
  /-- Uncorrectable Error Status of AER (R300; 09_host_endpoint.md). Reset: PRESUMED 0 (log 61). -/
  aerUnc : Nat := 0
  /-- Correctable Error Status of AER (R300; 09_host_endpoint.md). Reset: PRESUMED 0 (log 61). -/
  aerCor : Nat := 0
  /-- Doublewords of configuration space that software has written, by offset, where they differ from what they present
  after reset (R274, R275; 09_host_endpoint.md). Reset: none. -/
  words : List (Nat × Nat) := []
deriving DecidableEq, Repr

/-- Uncorrectable errors that the device reports through AER (Table 9.9). -/
inductive AerError where
  | poisonedTlp | completionTimeout | completerAbort | unexpectedCompletion | unsupportedRequest | internal
deriving DecidableEq, Repr

/-- Error messages to the host (R300). -/
inductive AerLevel where
  | correctable | nonFatal | fatal
deriving DecidableEq, Repr

/-- A selective IDE stream that has keys (R276, R278): its address association blocks, base and size, at most two; its RID
association; PCRC; whether it is Secure. -/
structure IdeStream where
  blocks : List (Nat × Nat)
  rids : Nat × Nat
  pcrc : Bool
  secure : Bool
deriving DecidableEq, Repr

/-- The Headframe (chapter 9). -/
structure Headframe where
  /-- The Headframe answers configuration requests normally (R33; 01_modes_and_startup.md). Reset 0. -/
  ready : Bool := false
  /-- The link is in L0 (R192, R271; 09_host_endpoint.md). Reset 0. -/
  l0 : Bool := false
  /-- HF_LINK.SPEED, 3 bits (R301; 09_host_endpoint.md). Reset 0. -/
  speed : Nat := 0
  /-- HF_LINK.WIDTH, 5 bits (R301; 09_host_endpoint.md). Reset 0. -/
  width : Nat := 0
  /-- HF_LINK.FLIT (R301; 09_host_endpoint.md). Reset 0. -/
  flit : Bool := false
  /-- HF_LINK.L0P_REDUCED: active width under L0p, none at full width (R293, R301; 09_host_endpoint.md). Reset: none. -/
  l0p : Option Nat := none
  /-- The link is in ASPM L1 (R293; 09_host_endpoint.md). Reset 0. -/
  inL1 : Bool := false
  /-- RECOVERIES, U32 (R302; 09_host_endpoint.md). Reset 0. -/
  recoveries : Nat := 0
  /-- WIDTH_CHANGES, U32 (R302; 09_host_endpoint.md). Reset 0. -/
  widthChanges : Nat := 0
  /-- Bus Master Enable of PF0 (R298; 09_host_endpoint.md). Reset: PRESUMED 0 (log 2). -/
  bme : Bool := false
  /-- PF0 is in D3hot (R292; 09_host_endpoint.md). Reset 0. -/
  d3hot : Bool := false
  /-- Configuration of PF0 (R274; 09_host_endpoint.md). Reset as FnConfig. -/
  cfg0 : FnConfig := {}
  /-- Configuration of PF1 (R274; 09_host_endpoint.md). Reset as FnConfig. -/
  cfg1 : FnConfig := {}
  /-- SUBSYS_VENDOR and SUBSYS_ID in force (R333; 10_object_dictionary.md). Reset 0xB71D, 0x0768. -/
  subsys : Nat × Nat := (0xB71D, 0x0768)
  /-- Selective IDE streams whose keys are programmed (R276, R278; 09_host_endpoint.md). Reset: none. -/
  ide : Vector (Option IdeStream) 4 := Vector.replicate 4 none
  /-- Delivery rings 0–63 and, as 64, the event queue (R281, R288; 09_host_endpoint.md). Reset as Ring. -/
  rings : Vector Ring 65 := Vector.replicate 65 {}
  /-- MSI-X table and PBA of PF0 (R289; 09_host_endpoint.md). Reset as MsixEntry. -/
  msix0 : Vector MsixEntry 256 := Vector.replicate 256 {}
  /-- MSI-X table and PBA of PF1 (R289; 09_host_endpoint.md). Reset as MsixEntry. -/
  msix1 : Vector MsixEntry 16 := Vector.replicate 16 {}
  /-- Tags in use (R296; 09_host_endpoint.md). Reset: none. -/
  tags : List Tag := []
  /-- HF_LATE_COMPLETION (R301; 09_host_endpoint.md). Reset 0. -/
  late : RegCount := {}
  /-- HF_ORPHANED (R301; 09_host_endpoint.md). Reset 0. -/
  orphaned : RegCount := {}
  /-- HF_PF1_REFUSED (R301; 09_host_endpoint.md). Reset 0. -/
  pf1Refused : RegCount := {}
  /-- Latency reported by the last LTR message, ns (R295; 09_host_endpoint.md). Reset: none. -/
  ltr : Option Nat := none
deriving DecidableEq, Repr

/-! ## Dictionary service, CAN and window -/

/-- An open CAN transfer (R319, R320). -/
structure Transfer where
  client : BitVec 8
  upload : Bool
  index : Nat
  sub : Nat
  token : Nat
  len : Nat
  data : List Byte
  next : Nat
  acked : Nat
  discarding : Bool := false
  resends : Nat := 0
deriving DecidableEq, Repr

/-- A CAN FD port (Table 10.6). -/
structure Can where
  /-- Open transfers, at most 8 (R320; 10_object_dictionary.md). Reset: none. -/
  transfers : List Transfer := []
  /-- RX_FRAMES, U64 (R333; 10_object_dictionary.md). Reset 0. -/
  rxFrames : Nat := 0
  /-- TX_FRAMES, U64 (R333; 10_object_dictionary.md). Reset 0. -/
  txFrames : Nat := 0
  /-- IGNORED, U32 (R315, R318; 10_object_dictionary.md). Reset 0. -/
  ignored : Nat := 0
  /-- ABORTS_SENT, U32 (R333; 10_object_dictionary.md). Reset 0. -/
  abortsSent : Nat := 0
  /-- RESTARTS, U32 (R320; 10_object_dictionary.md). Reset 0. -/
  restarts : Nat := 0
  /-- BUS_OFF, U32 (R333; 10_object_dictionary.md). Reset 0. -/
  busOff : Nat := 0
  /-- ERROR_STATE, ENUM8 (R317, R333; 10_object_dictionary.md). Reset 0. -/
  errorState : Nat := 0
  /-- Transmit error counter of ISO 11898-1 (R317; 10_object_dictionary.md). Reset 0, PRESUMED (log 2). -/
  tec : Nat := 0
  /-- Bit rate switch of the latest frame taken, which responses repeat (R318; 10_object_dictionary.md). Reset 0, DESIGN CHOICE (log 2). -/
  brs : Bool := false
  /-- Receive error counter of ISO 11898-1 (R317; 10_object_dictionary.md). Reset 0, PRESUMED (log 2). -/
  rec_ : Nat := 0
deriving DecidableEq, Repr

/-- A window slot (Table 10.5). -/
structure WinSlot where
  /-- SLOT_REQ, 32 bits (R323; 10_object_dictionary.md). Reset 0. -/
  req : Word := 0
  /-- SLOT_LEN, 16 bits (R323; 10_object_dictionary.md). Reset 0. -/
  len : Nat := 0
  /-- SLOT_TOKEN, 32 bits (R323; 10_object_dictionary.md). Reset 0. -/
  token : Word := 0
  /-- SLOT_CTRL.STATE; GO reads 1 while it is 1 PENDING (R323; 10_object_dictionary.md). Reset 0. -/
  state : Nat := 0
  /-- SLOT_CTRL.ABORT, 16 bits (R323; 10_object_dictionary.md). Reset 0. -/
  abort : Nat := 0
  /-- The data area, 65,472 bytes, as written; bytes beyond the list are 0 (R323; 10_object_dictionary.md). Reset 0. -/
  data : List Byte := []
  /-- PF1: the selective stream to which the session is bound (R328; 10_object_dictionary.md). Reset: none. -/
  session : Option (Fin 4) := none
  /-- Time since reset at which the pending request was taken (R325; 10_object_dictionary.md). Reset 0. -/
  since : Nat := 0
  /-- The pending request is a partner request passed across the Crosscut (R331; 10_object_dictionary.md). Reset 0. -/
  partner : Bool := false
deriving DecidableEq, Repr

/-- The dictionary's live values and service state (chapter 10). -/
structure Dict where
  /-- Live values of every RW, RWS and RWA object (R303, Tables 1.2 to 13.10; 10_object_dictionary.md). Reset: every object at its default. -/
  live : ObjMap := []
  /-- STORE_STATE, ENUM8 (R310; 10_object_dictionary.md). Reset 0. -/
  storeState : Nat := 0
  /-- Snapshot being stored: records (R310; 10_object_dictionary.md). Reset: none. -/
  storing : Option (List (Nat × Nat)) := none
  /-- STORE_SOURCE, ENUM8 (R313; 10_object_dictionary.md). Reset 0, set at boot. -/
  storeSource : Nat := 0
  /-- CAN_ENABLE and CAN_DATA_RATE in force (R315; 10_object_dictionary.md). Reset 3 and 1, the defaults. -/
  canInForce : Nat × Nat := (3, 1)
  /-- CAN_A (R315; 10_object_dictionary.md). Reset as Can. -/
  canA : Can := {}
  /-- CAN_B (R315; 10_object_dictionary.md). Reset as Can. -/
  canB : Can := {}
  /-- Window slots of PF0 (R323; 10_object_dictionary.md). Reset as WinSlot. -/
  slots0 : Vector WinSlot 16 := Vector.replicate 16 {}
  /-- Window slots of PF1 (R323; 10_object_dictionary.md). Reset as WinSlot. -/
  slots1 : Vector WinSlot 8 := Vector.replicate 8 {}
  /-- WIN_REQUESTS, U64 (R333; 10_object_dictionary.md). Reset 0. -/
  winRequests : Nat := 0
  /-- WIN_FAULTS, U32 (R323, R324; 10_object_dictionary.md). Reset 0. -/
  winFaults : Nat := 0
  /-- PARTNER_REQUESTS, U32 (R333; 10_object_dictionary.md). Reset 0. -/
  partnerRequests : Nat := 0
deriving DecidableEq, Repr

/-! ## Registers, claims, cages, skips -/

/-- A claim (R339): owner's code, 0 when free, and GRANTS. -/
structure Claim where
  /-- OWNER, 4 bits (R339; 11_registers_cages_skips.md). Reset 0. -/
  owner : Nat := 0
  /-- GRANTS, 16 bits (R354; 11_registers_cages_skips.md). Reset 0. -/
  grants : Nat := 0
deriving DecidableEq, Repr

/-- One side of a cage channel (Table 11.7). -/
structure CageEnd where
  /-- CG_TX_MSG words 1–15 (R355; 11_registers_cages_skips.md). Reset 0. -/
  tx : Vector Word 15 := Vector.replicate 15 0
  /-- The receive queue, oldest first, at most 16 messages of 16 words; CG_RX_MSG shows the oldest (R344, R345; 11_registers_cages_skips.md). Reset: empty. -/
  rx : List (List Word) := []
  /-- CG_STATUS.TX_OVERRUN (R344; 11_registers_cages_skips.md). Reset 0. -/
  txOverrun : Bool := false
  /-- CG_STATUS.PEER_IN_RESET (R355; 11_registers_cages_skips.md). Reset 0. -/
  peerInReset : Bool := false
  /-- CG_BELL_PEND, 32 bits (R346; 11_registers_cages_skips.md). Reset 0. -/
  pend : Word := 0
  /-- CG_BELL_MASK, 32 bits (R346; 11_registers_cages_skips.md). Reset 0xFFFF_FFFF. -/
  mask : Word := 0xFFFFFFFF
  /-- CG_LOST (R344; 11_registers_cages_skips.md). Reset 0. -/
  lost : RegCount := {}
  /-- CG_ABORTED (R347; 11_registers_cages_skips.md). Reset 0. -/
  aborted : RegCount := {}
  /-- CG_TX_TOTAL, 64 bits (R355; 11_registers_cages_skips.md). Reset 0. -/
  txTotal : Nat := 0
  /-- MSG_SEQ of the next message, 16 bits (Table 11.4; 11_registers_cages_skips.md). Reset 0. -/
  msgSeq : Nat := 0
  /-- The next message read from the receive skip carries RESTART (R353; 11_registers_cages_skips.md). Reset 0. -/
  restartMark : Bool := false
deriving DecidableEq, Repr

/-- A channel: the host's side (or this module's, for TWIN) and the Foreman's (or the twin's). -/
structure Channel where
  /-- Host side; for TWIN this module's Foreman (R343; 11_registers_cages_skips.md). Reset as CageEnd. -/
  host : CageEnd := {}
  /-- Foreman side; for TWIN the twin's Foreman (R343; 11_registers_cages_skips.md). Reset as CageEnd. -/
  foreman : CageEnd := {}
deriving DecidableEq, Repr

/-- A numbered skip (Table 11.6): complete items held with their lengths in words, oldest first. -/
structure Skip where
  /-- Complete items held, by length in words (R349, R352; 11_registers_cages_skips.md). Reset: empty. -/
  items : List Nat := []
  /-- SKIP_STATUS.FLUSH_TRUNCATED (R353; 11_registers_cages_skips.md). Reset 0. -/
  truncated : Bool := false
  /-- The next word read carries RESTART (R353; 11_registers_cages_skips.md). Reset 0. -/
  restart : Bool := false
  /-- SKIP_LOST (R352; 11_registers_cages_skips.md). Reset 0. -/
  lost : RegCount := {}
  /-- SKIP_PKT_IN, 64 bits (R352; 11_registers_cages_skips.md). Reset 0. -/
  pktIn : Nat := 0
  /-- SKIP_PKT_OUT, 64 bits (R352; 11_registers_cages_skips.md). Reset 0. -/
  pktOut : Nat := 0
deriving DecidableEq, Repr

/-- Claims, cages, skips and error status (chapter 11). -/
structure Regs where
  /-- CLAIM[0]–CLAIM[15] (R339; 11_registers_cages_skips.md). Reset: free. -/
  claims : Vector Claim 16 := Vector.replicate 16 {}
  /-- ACCESS_FAULT (R354; 11_registers_cages_skips.md). Reset 0. -/
  accessFault : RegCount := {}
  /-- ACCESS_FAULT_LAST: offset, cause, master (R354; 11_registers_cages_skips.md). Reset 0. -/
  accessLast : Nat × Nat × Nat := (0, 0, 0)
  /-- ERR_STATUS.VOTE_FIXED, 6 bits (R342, R354; 11_registers_cages_skips.md). Reset 0. -/
  voteFixed : BitVec 6 := 0
  /-- ERR_STATUS.VOTE_SPLIT, 6 bits (R342, R354; 11_registers_cages_skips.md). Reset 0. -/
  voteSplit : BitVec 6 := 0
  /-- ERR_STATUS.SKIP_PTR, 6 bits (R350, R354; 11_registers_cages_skips.md). Reset 0. -/
  skipPtr : BitVec 6 := 0
  /-- ERR_STATUS.CAGE_PTR (R350, R354; 11_registers_cages_skips.md). Reset 0. -/
  cagePtr : Bool := false
  /-- ERR_STATUS.ACCESS (R354; 11_registers_cages_skips.md). Reset 0. -/
  access : Bool := false
  /-- VOTE_CORRECTED (R342, R354; 11_registers_cages_skips.md). Reset 0. -/
  voteCorrected : RegCount := {}
  /-- Numbered skips 0–5 (R349; 11_registers_cages_skips.md). Reset as Skip. -/
  skips : Vector Skip 6 := Vector.replicate 6 {}
  /-- PF0 channels (R343; 11_registers_cages_skips.md). Reset as Channel. -/
  cages0 : Vector Channel 32 := Vector.replicate 32 {}
  /-- PF1 channels (R343; 11_registers_cages_skips.md). Reset as Channel. -/
  cages1 : Vector Channel 16 := Vector.replicate 16 {}
  /-- The TWIN channel (R343; 11_registers_cages_skips.md). Reset as Channel. -/
  cageTwin : Channel := {}
  /-- Lane enables, voted: LINK_ENABLE of the 48 links and the four Crosscut lanes (R342, Table 11.2; 11_registers_cages_skips.md). Reset: all links enabled (R116), lanes 0x0F (R380). -/
  lanes : Voted (BitVec 52) := ⟨0xFFFFFFFFFFFFF, 0xFFFFFFFFFFFFF, 0xFFFFFFFFFFFFF, 0xFFFFFFFFFFFFF⟩
deriving DecidableEq, Repr

/-! ## Twin operation -/

/-- The last CURSOR record a Shadow holds for a ring (R368, R373). -/
structure CursorRec where
  gen : Nat
  wrPos : Nat
  lastSeq : Nat
  writtenSeq : Nat
  handoff : Bool
deriving DecidableEq, Repr

/-- Ring settings that a RING record carries (Table 12.3): base and cursor addresses, size, enable, IRQ word. -/
structure RingSettings where
  base : Nat
  cursor : Nat
  sizeOrder : Nat
  enable : Bool
  irq : Word
deriving DecidableEq, Repr

/-- Where the result of a partner request goes (R331): a window slot, a CAN client with the object header of its request,
or nowhere any more. -/
inductive PartnerOrigin where
  | slot (fn : Fn) (k : Nat)
  | can (port : CanPort) (client : BitVec 8) (write : Bool) (index sub token len : Nat)
  | gone
deriving DecidableEq, Repr

/-- The Crosscut and the pair (chapter 12). -/
structure Twin where
  /-- ROLE, voted, ENUM8 (R363, R380; 12_twin_operation.md). Reset 0. -/
  role : Voted Nat := ⟨0, 0, 0, 0⟩
  /-- PAIR_STATE, ENUM8 (R380; 12_twin_operation.md). Reset 0. -/
  pairState : Nat := 0
  /-- PAIR_CAUSE, ENUM8 (R380; 12_twin_operation.md). Reset 0. -/
  pairCause : Nat := 0
  /-- MODE of the partner, or of the Active whose capture a Shadow runs (Table 12.2, R363, R367; 12_twin_operation.md). Reset 0. -/
  peerMode : Nat := 0
  /-- PARTNER_SERIAL, U64 (R380; 12_twin_operation.md). Reset 0. -/
  partnerSerial : Nat := 0
  /-- PARTNER_FW, U32 (R380; 12_twin_operation.md). Reset 0. -/
  partnerFw : Nat := 0
  /-- LANES_UP: lanes in the stripe set (R360, R380; 12_twin_operation.md). Reset 0. -/
  lanesUp : LaneSet := 0
  /-- Stripe set decided and in force from the next SEQ multiple of 16 (R360; 12_twin_operation.md). Reset 0. -/
  peerRxUp : LaneSet := 0
  /-- PHASE_ERROR, I32, fine bins (R364, R380; 12_twin_operation.md). Reset 0. -/
  phaseError : Int := 0
  /-- RASTER_DELTA, I32, fine bins (R365, R380; 12_twin_operation.md). Reset 0. -/
  rasterDelta : Int := 0
  /-- DIVERGE_CAUSE, ENUM8 (R369, R380; 12_twin_operation.md). Reset 0. -/
  divergeCause : Nat := 0
  /-- DIVERGENCES, U32 (R369, R380; 12_twin_operation.md). Reset 0. -/
  divergences : Nat := 0
  /-- BEATS_MISSED, U32 (R371, R380; 12_twin_operation.md). Reset 0. -/
  beatsMissed : Nat := 0
  /-- TAKEOVERS, U32 (R373, R380; 12_twin_operation.md). Reset 0. -/
  takeovers : Nat := 0
  /-- LAST_TAKEOVER, SIDX (R373, R380; 12_twin_operation.md). Reset 0. -/
  lastTakeover : Nat := 0
  /-- BLOCKS_LOST, U32 (R361, R380; 12_twin_operation.md). Reset 0. -/
  blocksLost : Nat := 0
  /-- CONFIRM_WAIT_MAX, U32, ns (R368, R380; 12_twin_operation.md). Reset 0. -/
  confirmWaitMax : Nat := 0
  /-- Consecutive missed beats (R371; 12_twin_operation.md). Reset 0. -/
  missedRun : Nat := 0
  /-- A beat has arrived since the previous boundary (R371; 12_twin_operation.md). Reset 0. -/
  beatSeen : Bool := false
  /-- BEAT_SEQ: beats sent (R371; 12_twin_operation.md). Reset 0. -/
  beatSeq : Nat := 0
  /-- Accepted level of FENCE_IN (R357; 12_twin_operation.md). Reset 0. -/
  fenceIn : Bool := false
  /-- FLAG pins of FENCE_OUT and FENCE_IN in force since boot or the last election, 0xFF none (R357, R380; 12_twin_operation.md). Reset 0xFF, 0xFF. -/
  fencePins : Nat × Nat := (0xFF, 0xFF)
  /-- FENCE_OUT driven high (R357; 12_twin_operation.md). Reset 0. -/
  fenceOut : Bool := false
  /-- REC_SEQ expected next (R361; 12_twin_operation.md). Reset 0. -/
  recNext : Nat := 0
  /-- Blocks received whose records wait for missing ones: first REC_SEQ and records (R361; 12_twin_operation.md). Reset: none. -/
  recHeld : List (Nat × List XcRecord) := []
  /-- Records received in order and not yet acted on (R361; 12_twin_operation.md). Reset: none. -/
  recQueue : List XcRecord := []
  /-- Records to send, oldest first (R361; 12_twin_operation.md). Reset: none. -/
  recOut : List XcRecord := []
  /-- Records of blocks sent, newest first: frame SEQ, first REC_SEQ, records (R361; 12_twin_operation.md). Reset: none. -/
  recSent : List (Nat × Nat × List XcRecord) := []
  /-- Records of lost blocks to be sent again: first REC_SEQ and records (R361; 12_twin_operation.md). Reset: none. -/
  recAgain : List (Nat × List XcRecord) := []
  /-- Own header records not yet matched: stream, SEQ, DOOR_CRC (R369; 12_twin_operation.md). Reset: none. -/
  hdrOwn : List (Nat × Nat × BitVec 16) := []
  /-- Partner's header records not yet matched (R369; 12_twin_operation.md). Reset: none. -/
  hdrPeer : List (Nat × Nat × BitVec 16) := []
  /-- Door decisions received for SEQs not yet made (R367; 12_twin_operation.md). Reset: none. -/
  doorPeer : List (Nat × Nat × Bool) := []
  /-- Last CURSOR record of each ring, stored and confirmed (R368; 12_twin_operation.md). Reset: none. -/
  cursors : Vector (Option CursorRec) 64 := Vector.replicate 64 none
  /-- Last RING record of each ring (R367; 12_twin_operation.md). Reset: none. -/
  ringSettings : Vector (Option RingSettings) 64 := Vector.replicate 64 none
  /-- GO (1) or ABORT (0) received for the committed epoch (R366; 12_twin_operation.md). Reset: none. -/
  go : Option Bool := none
  /-- The Shadow's READY report for the committed epoch (R366; 12_twin_operation.md). Reset: none. -/
  shadowReady : Option Bool := none
  /-- The Shadow's APPLIED report (R366; 12_twin_operation.md). Reset: none. -/
  shadowApplied : Option Bool := none
  /-- SYNC state received and not yet loaded (R370; 12_twin_operation.md). Reset: none. -/
  syncIn : Option SyncState := none
  /-- SIDX of the divergence from which a resynchronisation is due (R370; 12_twin_operation.md). Reset: none. -/
  resyncDue : Option Nat := none
  /-- SIDX of the resynchronisation frame start F, or of the attach epoch, and the time since reset there (R370, R378; 12_twin_operation.md). Reset: none. -/
  resyncAt : Option (Nat × Nat) := none
  /-- CROSSCUT_DEGRADED was raised and not cleared since (R360; 12_twin_operation.md). Reset 0. -/
  degraded : Bool := false
  /-- A Shadow's own next numbers of streams and slots at F, until the SYNC state is loaded (R370; 12_twin_operation.md). Reset: none. -/
  syncBase : Option (List Nat) := none
  /-- Rings whose HANDOFF position a new Active waits for (R376; 12_twin_operation.md). Reset 0. -/
  awaitHandoff : BitVec 64 := 0
  /-- SHAFT_DIGESTs received for samples not yet decided: B_SIDX and digest (R369; 12_twin_operation.md). Reset: none. -/
  digestPeer : List (Nat × Word) := []
  /-- Own undithered position at the latest multiples of 192 smp, newest first: SIDX, RASTPOS as a count of 2^-48 px from frame 0, INC in force (R365; 12_twin_operation.md). Reset: none. -/
  ownPos : List (Nat × Nat × Nat) := []
  /-- REC_SEQ of the next record to send (Table 12.2; 12_twin_operation.md). Reset 0. -/
  recSeqOut : Nat := 0
  /-- HANDOFF: class-A delivery has stopped for a handover or swap (R375, R376; 12_twin_operation.md). Reset 0. -/
  handoff : Bool := false
  /-- HEALTH of the next block: 0 OK, 1 HANDOVER, 2 DETACH, 3 FAULT (Table 12.2; 12_twin_operation.md). Reset 0. -/
  health : Nat := 0
  /-- Partner requests passed across the Crosscut whose results are awaited, oldest first (R331; 10_object_dictionary.md). Reset: none. -/
  partnerWaiting : List PartnerOrigin := []
  /-- PEER_TRUST, ENUM8 (R381, Table 13.10; 13_foreman_and_security.md). Reset 0. -/
  peerTrust : Nat := 0
deriving DecidableEq, Repr

/-! ## Foreman -/

/-- A sensor (Table 13.1): latest reading as F32 bits, none when its self-check failed; extremes since boot; runs of
samples outside and inside the warning limits; whether the warning is in force. -/
structure Sensor where
  /-- SENSOR, F32 (R382; 13_foreman_and_security.md). Reset: DESIGN CHOICE 0 (log 2). -/
  reading : Option Word := some 0
  /-- MIN_SEEN, F32 (Table 13.10; 13_foreman_and_security.md). Reset: none yet, reads 0, DESIGN CHOICE (log 2). -/
  minSeen : Option Word := none
  /-- MAX_SEEN, F32 (Table 13.10; 13_foreman_and_security.md). Reset: none yet, reads 0, DESIGN CHOICE (log 2). -/
  maxSeen : Option Word := none
  /-- Samples outside WARN_LO to WARN_HI in a row (R383; 13_foreman_and_security.md). Reset 0. -/
  outRun : Nat := 0
  /-- Samples inside in a row (R383; 13_foreman_and_security.md). Reset 0. -/
  inRun : Nat := 0
  /-- The warning holds ALERT_N (R383; 13_foreman_and_security.md). Reset 0. -/
  warned : Bool := false
  /-- Samples beyond the fixed rail or VIN limits in a row: high, low (R383; 13_foreman_and_security.md). Reset 0, 0. -/
  limitRun : Nat × Nat := (0, 0)
deriving DecidableEq, Repr

/-- A key of the merging rule with its time and the occurrences counted since (R392). -/
structure MergeKey where
  code : EvCode
  unit : UnitId
  inst : Nat
  time : Nat
  count : Nat
deriving DecidableEq, Repr

/-- SIDX, TIME96, EPOCH and MODE of an occurrence (Table 13.3). -/
structure Occurrence where
  sidx : Nat
  time96 : Nat
  epoch : Nat
  mode : Nat
deriving DecidableEq, Repr

/-- A fault in the queue or being handled: the request, whether its block has been stopped already (R386), and its
occurrence. -/
structure Faulted where
  req : FaultReq
  stopped : Bool
  at_ : Occurrence
deriving DecidableEq, Repr

/-- A Degrade condition that lasts (Table 13.2). -/
structure Condition where
  code : EvCode
  unit : UnitId
  inst : Nat
deriving DecidableEq, Repr

/-- The Foreman's volatile state (chapter 13). -/
structure Foreman where
  /-- ENTRY_SEQ of the next entry, LOG_NEXT, U32 (R391, R416; 13_foreman_and_security.md). Reset: from flash, 0 when the log is empty. -/
  entrySeq : Nat := 0
  /-- Entries made and waiting to be programmed into the flash log (R393; 13_foreman_and_security.md). Reset: none. -/
  toLog : List LogEntry := []
  /-- Keys of entries made, for merging (R392; 13_foreman_and_security.md). Reset: none. -/
  merge : List MergeKey := []
  /-- Fault being handled (R386; 13_foreman_and_security.md). Reset: none. -/
  handling : Option Faulted := none
  /-- Fault queue, at most 64; FAULTS_QUEUED is its length (R387; 13_foreman_and_security.md). Reset: empty. -/
  faults : List Faulted := []
  /-- FAULTS_LOST, U32 (R387; 13_foreman_and_security.md). Reset 0. -/
  faultsLost : Nat := 0
  /-- Faults lost and not yet reported by FAULT_QUEUE_LOST (R387; 13_foreman_and_security.md). Reset 0. -/
  lostUnreported : Nat := 0
  /-- The watchdog trip is due (R389; 13_foreman_and_security.md). Reset: none. -/
  tripDue : Option WatchdogCause := none
  /-- WATCHDOG_TRIPS, U32 (R389, R416; 13_foreman_and_security.md). Reset 0. -/
  watchdogTrips : Nat := 0
  /-- The cores restart after a trip; WATCHDOG is logged first (R389; 13_foreman_and_security.md). Reset 0. -/
  restarting : Bool := false
  /-- ISOLATED, 11 bits (R388, R416; 13_foreman_and_security.md). Reset 0. -/
  isolated : BitVec 11 := 0
  /-- Probe links and Crosscut lanes isolated: bits 0–47 and 48–51 (R388; 13_foreman_and_security.md). Reset 0. -/
  isolatedLinks : BitVec 52 := 0
  /-- Assay slots isolated (R388; 13_foreman_and_security.md). Reset 0. -/
  isolatedSlots : BitVec 32 := 0
  /-- Degrade conditions present, each holding ALERT_N (R390; 13_foreman_and_security.md). Reset: none. -/
  conditions : List Condition := []
  /-- Isolate faults handled and not yet released by FAULT_ACK (R390; 13_foreman_and_security.md). Reset 0. -/
  isolateHeld : Bool := false
  /-- Sensors 0–14 (R382; 13_foreman_and_security.md). Reset as Sensor. -/
  sensors : Vector Sensor 15 := Vector.replicate 15 {}
  /-- JUNCTION_MAX, F32 bits; none when sensors 3 to 6 all fail, taken as 105 °C (R382; 13_foreman_and_security.md). Reset: DESIGN CHOICE 0 (log 2). -/
  junction : Option Word := some 0
  /-- THERMAL Degrade fault in force (R384; 13_foreman_and_security.md). Reset 0. -/
  thermal : Bool := false
  /-- THERMAL_LIMIT has been raised while at or above 105 °C (R384; 13_foreman_and_security.md). Reset 0. -/
  thermalLimit : Bool := false
  /-- HBM_HOT in force for stack 0 and 1 (R436; 14_balls_power_electrical.md). Reset 0. -/
  hbmHot : BitVec 2 := 0
  /-- THROTTLE (R437; 14_balls_power_electrical.md). Reset 0. -/
  throttle : Bool := false
  /-- THROTTLE_ENTRIES, U32 (R437; 14_balls_power_electrical.md). Reset 0. -/
  throttleEntries : Nat := 0
  /-- Samples in a row with JUNCTION_MAX at or above 98 °C (R437; 14_balls_power_electrical.md). Reset 0. -/
  hotRun : Nat := 0
  /-- UPDATE_STATE, ENUM8 (R402, R416; 13_foreman_and_security.md). Reset 0. -/
  updateState : Nat := 0
  /-- UPDATE_CAUSE, ENUM8 (R402, R416; 13_foreman_and_security.md). Reset 0. -/
  updateCause : Nat := 0
  /-- Slot booted, FW_SLOT (R32, Table 10.6; 13_foreman_and_security.md). Reset 0 A, DESIGN CHOICE (log 3). -/
  bootSlot : Fin 2 := 0
  /-- DEBUG_OPEN (R407; 13_foreman_and_security.md). Reset 0. -/
  debugOpen : Bool := false
  /-- The challenge in force and the time since reset at its issue (R407; 13_foreman_and_security.md). Reset: none. -/
  challenge : Option (List Byte × Nat) := none
  /-- Invalid signatures since the last reset (R407; 13_foreman_and_security.md). Reset 0. -/
  badSignatures : Nat := 0
  /-- Life-cycle mirror, voted: the state in force since the last reset (R405, Table 11.2; 13_foreman_and_security.md). Reset: from one-time-programmable memory. -/
  lifeCycle : Voted Nat := ⟨0, 0, 0, 0⟩
  /-- A life-cycle write has completed; the module resets itself (R406; 13_foreman_and_security.md). Reset 0. -/
  selfReset : Bool := false
  /-- A boot after a power loss in a capture mode and other boot entries remain to be written (R398; 13_foreman_and_security.md). Reset 0. -/
  useReserved : Option Nat := none
  /-- A USE commit is in progress: the value (R237, R400; 13_foreman_and_security.md). Reset: none. -/
  useCommitting : Option Nat := none
  /-- EVAL_DEVIATION last logged, 5 bits (R415; 13_foreman_and_security.md). Reset 0, DESIGN CHOICE (log 2). -/
  evalDeviation : BitVec 5 := 0
deriving DecidableEq, Repr

/-! ## Flash and one-time-programmable memory -/

/-- A firmware image slot (R401, R402): whether an image lies in it, its header fields, the outcome of the signature
and digest checks of its contents, and its boot record. -/
structure ImageSlot where
  /-- Bytes staged, in order, by offset / 4,096 (R402; 13_foreman_and_security.md). Reset: none. -/
  bytes : List (Nat × List Byte) := []
  /-- Header fields FW_VERSION, SVN, BODY_LEN, DICT_VERSION, HW_MIN, KEY_INDEX, IMG_FLAGS (Table 13.8; 13_foreman_and_security.md). Reset 0. -/
  fwVersion : Nat := 0
  /-- SVN (Table 13.8; 13_foreman_and_security.md). Reset 0. -/
  svn : Nat := 0
  /-- DICT_VERSION (Table 13.8; 13_foreman_and_security.md). Reset 0. -/
  dictVersion : Nat := 0
  /-- EVALUATED (Table 13.8; 13_foreman_and_security.md). Reset 0. -/
  evaluated : Bool := false
  /-- The image in the slot passes the checks of R401 other than SVN (R401; 13_foreman_and_security.md). Reset 0. -/
  valid : Bool := false
  /-- Its signature and digest verify (R401; 13_foreman_and_security.md). Reset 0. -/
  signed : Bool := false
  /-- Boot record: committed, generation (R402; 13_foreman_and_security.md). Reset: none. -/
  generation : Option Nat := none
  /-- SLOT_TRIAL: trial count; 0xFF confirmed (R403; 13_foreman_and_security.md). Reset 0. -/
  trial : Nat := 0
deriving DecidableEq, Repr

/-- A stored dictionary area (R311): generation, whether its commit word and CRC check, DICT_VERSION, records. -/
structure DictArea where
  generation : Nat
  good : Bool
  records : List (Nat × Nat)
deriving DecidableEq, Repr

/-- A last-breath record (R397): the entry and whether boot has marked it used. -/
structure Breath where
  entry : LogEntry
  used : Bool
deriving DecidableEq, Repr

/-- What power loss and module resets keep (Table 1.8, R399, R405). -/
structure Nv where
  /-- Image slots A and B (R399, R402; 13_foreman_and_security.md). Reset: slot A holds a confirmed image, DESIGN CHOICE (log 3); B empty. -/
  slots : Vector ImageSlot 2 := ⟨#[{ valid := true, signed := true, generation := some 1, trial := 255 }, {}], rfl⟩
  /-- Stored dictionary areas 0 and 1 (R311; 10_object_dictionary.md). Reset: none committed, DESIGN CHOICE (log 3). -/
  areas : Vector (Option DictArea) 2 := Vector.replicate 2 none
  /-- Committed entries of the flash log, oldest first (R393; 13_foreman_and_security.md). Reset: empty, DESIGN CHOICE (log 3). -/
  log : List LogEntry := []
  /-- Next ENTRY_SEQ after the newest committed entry (R391, R393; 13_foreman_and_security.md). Reset 0, DESIGN CHOICE (log 3). -/
  logNext : Nat := 0
  /-- Key store: KEY_ID and key, at most 64 (R410; 13_foreman_and_security.md). Reset: empty, DESIGN CHOICE (log 3). -/
  keys : List (Nat × List Byte) := []
  /-- Generation of the newest key store copy (R411; 13_foreman_and_security.md). Reset 0, DESIGN CHOICE (log 3). -/
  keyGeneration : Nat := 0
  /-- Committed USE records, newest first: value and generation (R400; 13_foreman_and_security.md). Reset: none, DESIGN CHOICE (log 3). -/
  uses : List (Nat × Nat) := []
  /-- Newest last-breath record (R397; 13_foreman_and_security.md). Reset: none, DESIGN CHOICE (log 3). -/
  breath : Option Breath := none
  /-- The last power loss fell in a capture mode and no record was written (R398; 13_foreman_and_security.md). Reset 0. -/
  breathless : Bool := false
  /-- LC_STATE in one-time-programmable memory (R405; 13_foreman_and_security.md). Reset 0 BLANK, DESIGN CHOICE (log 3). -/
  lifeCycle : Nat := 0
  /-- OWNER_KEY_HASH, 48 bytes as a number (R406; 13_foreman_and_security.md). Reset 0. -/
  ownerHash : Nat := 0
  /-- The owner's public key, 97 bytes (R406; 13_foreman_and_security.md). Reset: none. -/
  ownerKey : List Byte := []
  /-- SIG_CHECK (R401, R416; 13_foreman_and_security.md). Reset 1. -/
  sigCheck : Bool := true
  /-- Signature checks were ever disabled (R415; 13_foreman_and_security.md). Reset 0. -/
  sigEverOff : Bool := false
  /-- SVN_MIN, U32 (R404; 13_foreman_and_security.md). Reset 0. -/
  svnMin : Nat := 0
  /-- Revocation bits of image keys 0–3 (Table 13.8; 13_foreman_and_security.md). Reset 0, DESIGN CHOICE (log 3). -/
  keyRevoked : BitVec 4 := 0
  /-- LC_RETURN_DONE has been logged (R408, R409; 13_foreman_and_security.md). Reset 0. -/
  returnDone : Bool := false
  /-- Challenges issued, 32 bits (R407; 13_foreman_and_security.md). Reset 0, DESIGN CHOICE (log 3). -/
  challenges : Nat := 0
  /-- UNIT bit of R237, none on a module never paired (R236, R237; 07_smelter.md). Reset: none. -/
  unitBit : Option Bool := none
  /-- SERIAL, HW_REVISION and STEPPING, per part (Table 10.6; 10_object_dictionary.md). Reset: DESIGN CHOICE 0, 0, 0 (log 3). -/
  part : Nat × Nat × Nat := (0, 0, 0)
deriving DecidableEq, Repr

/-! ## Things sent -/

/-- What the device sends to the outside. The list of these is the model's own record, not state of the device. -/
inductive Sent where
  | hostWrite (ide : Option Nat) (addr : Nat) (data : List Byte)
  | hostRead (tag : Nat) (addr len : Nat)
  | msix (fn : Fn) (vector : Nat) (addr data : Nat)
  | configReply (fn : Fn) (retry : Bool) (data : Word)
  | aer (fn : Fn) (level : AerLevel)
  | completion (ok : Bool) (abort : Bool) (data : List Word)
  | dictReply (via : Path) (index sub : Nat) (abort : Nat) (data : List Byte)
  | canFrame (port : CanPort) (id : Nat) (brs : Bool) (bytes : List Byte)
  | frame (l : LinkId) (symbols : List (Fin 4))
  | xcRecord (r : XcRecord)
  | xcBlock (b : XcBlock)
  | ltr (ns : Nat)
  | l0p (width : Nat)
  | l0pDeclined
  | pin (name : String) (level : Bool)
  | pinAt (name : String) (index : Nat) (level : Bool)
  | pinOff (name : String) (index : Nat)
deriving DecidableEq, Repr

/-! ## The whole state -/

/-- The state of the device. -/
structure State where
  /-- Power, straps and supervisory pins. -/
  power : Power := {}
  /-- Modes and epochs. -/
  modes : Modes := {}
  /-- Surveyor. -/
  sv : Surveyor := {}
  /-- Probe links PL[0]–PL[47] (R77; 03_probe_links_and_seams.md). Reset as Link. -/
  links : Vector Link 48 := Vector.replicate 48 {}
  /-- Crosscut lanes XC[0]–XC[3] (R358; 12_twin_operation.md). Reset as Link. -/
  xc : Vector Link 4 := Vector.replicate 4 {}
  /-- Seams SEAM[0]–SEAM[47] (R117, R146; 03_probe_links_and_seams.md). Reset as Seam. -/
  seams : Vector Seam 48 := Vector.replicate 48 {}
  /-- Ingots made at the present close sample and not yet numbered (R143; 04_capture_and_ingots.md). Reset: none. -/
  closing : List Ingot := []
  /-- Streams 0–63 (R118; 04_capture_and_ingots.md). Reset as Stream. -/
  streams : Vector Stream 64 := Vector.replicate 64 {}
  /-- Shaft. -/
  shaft : Shaft := {}
  /-- Grizzly, class B and readout. -/
  grizzly : Grizzly := {}
  /-- Smelter. -/
  smelter : Smelter := {}
  /-- Assay slots 0–31 (R250; 08_assay.md). Reset as Slot. -/
  slots : Vector Slot 32 := Vector.replicate 32 {}
  /-- Headframe. -/
  hf : Headframe := {}
  /-- Dictionary service. -/
  dict : Dict := {}
  /-- Registers, claims, cages, skips. -/
  regs : Regs := {}
  /-- Crosscut and pair. -/
  twin : Twin := {}
  /-- Foreman. -/
  fm : Foreman := {}
  /-- Flash and one-time-programmable memory. -/
  nv : Nv := {}
  /-- The model's own: things sent, newest first (log 4). Reset: none. -/
  sent : List Sent := []
  /-- The model's own: index of the next free value (log 5). Reset 0, DESIGN CHOICE. -/
  free : Nat := 0
  /-- The model's own: commands waiting, first in first out. Reset: empty. -/
  pending : List Instr := []
deriving DecidableEq, Repr

/-- The state right after reset: rails good, straps sampled, the Foreman about to boot (R32, R34, R66). -/
def State.reset : State := {}

end Sys2Proof.Machine
end

