-- ==== Sys2Proof/Machine/Flags.lean ====
section
/-! DEFINITION. Counters with a sticky overflow, voted fields, write-1-to-clear bits. -/

namespace Sys2Proof.Machine

/-- A counter whose most significant bit `top` (2^31 for U32, 2^63 for U64) is a sticky overflow: it saturates at
`top − 1` and then sets the bit (R18, R146, R189, R333, R416). -/
def stickyAdd (top v n : Nat) : Nat :=
  if v % top + n < top then v + n else top + (top - 1)

/-- One more on a U32 counter. -/
def inc32 (v : Nat) : Nat := stickyAdd (2 ^ 31) v 1

/-- One more on a U64 counter. -/
def inc64 (v : Nat) : Nat := stickyAdd (2 ^ 63) v 1

/-- `n` more on a U64 counter. -/
def add64 (v n : Nat) : Nat := stickyAdd (2 ^ 63) v n

/-- `n` more on a U32 counter. -/
def add32 (v n : Nat) : Nat := stickyAdd (2 ^ 31) v n

/-- A register counter with COUNT of 31 bits, which saturates and sets OVERFLOW (R337, Table 11.6). -/
def RegCount.add (c : RegCount) (n : Nat) : RegCount :=
  if c.count + n < 2 ^ 31 then { c with count := c.count + n } else { count := 2 ^ 31 - 1, overflow := true }

/-- The word a counter register reads. -/
def RegCount.word (c : RegCount) : Nat := c.count + (if c.overflow then 2 ^ 31 else 0)

/-- Register counters count one more (R337). -/
def RegCount.inc (c : RegCount) : RegCount := c.add 1

/-- The value in use of a field held in three copies: what two copies agree on, else the last value on which two
agreed (R342). -/
def Voted.value {α : Type} [DecidableEq α] (v : Voted α) : α :=
  if v.c0 = v.c1 then v.c0 else if v.c0 = v.c2 then v.c0 else if v.c1 = v.c2 then v.c1 else v.last

/-- A voted field written on all three copies (R342). -/
def Voted.all {α : Type} (a : α) : Voted α := ⟨a, a, a, a⟩

@[simp] theorem Voted.value_all {α : Type} [DecidableEq α] (a : α) : (Voted.all a).value = a := by
  simp [Voted.all, Voted.value]

/-- A sample on which something holds: the latest span goes on, or a new one begins. -/
def Marks.put (m : Marks) (x : Nat) : Marks :=
  match m.spans with
  | [] => ⟨[(x, x)]⟩
  | (a, b) :: l => if b = x then m else if b + 1 = x then ⟨(a, x) :: l⟩ else ⟨(x, x) :: (a, b) :: l⟩

/-- The latest sample on which it held. -/
def Marks.last (m : Marks) : Option Nat := m.spans.head?.map Prod.snd

/-- It held on a sample from `a` to `b − 1`. -/
def Marks.within (m : Marks) (a b : Nat) : Bool := m.spans.any fun x => a ≤ x.2 && x.1 < b

/-- Number of a Bool. -/
def bit (b : Bool) : Nat := if b then 1 else 0

/-- Bit `i` of a number. -/
def bitOf (v i : Nat) : Bool := v.testBit i

end Sys2Proof.Machine
end

