-- ==== Sys2Proof/Machine/Operands.lean ====
section
/-! DEFINITION. The operands of the dictionary: types on the wire (Table 10.1), access codes (Table 0.6), and every
object of the manual with its type, access, default, range and whether it is immediate (Tables 1.2 to 13.10). -/

namespace Sys2Proof.Machine

/-! ## Bytes and numbers -/

/-- `n` bytes of a number, little-endian (R6). -/
def leBytes : Nat → Nat → List Byte
  | 0, _ => []
  | n + 1, v => BitVec.ofNat 8 v :: leBytes n (v / 256)

/-- The number of little-endian bytes (R6). -/
def leNat : List Byte → Nat
  | [] => 0
  | b :: bs => b.toNat + 256 * leNat bs

/-- Bytes `off` to `off + n − 1` of a number. -/
def field (v off n : Nat) : Nat := v / 256 ^ off % 256 ^ n

/-- A number of 32 bits as a two's-complement value (Table 10.1). -/
def i32 (v : Nat) : Int := if v % 2 ^ 32 < 2 ^ 31 then (v % 2 ^ 32 : Nat) else (v % 2 ^ 32 : Nat) - 2 ^ 32

/-- The 32-bit number of a value that I32 holds, saturated to its range (Table 10.1). -/
def ofI32 (i : Int) : Nat :=
  let j := max (-(2 ^ 31)) (min (2 ^ 31 - 1) i)
  (j % 2 ^ 32).toNat

/-- A number of `n` bits as a two's-complement value. -/
def signedOf (n v : Nat) : Int := if v % 2 ^ n < 2 ^ (n - 1) then (v % 2 ^ n : Nat) else (v % 2 ^ n : Nat) - 2 ^ n

/-- The number of `n` bits of a two's-complement value. -/
def ofSigned (n : Nat) (i : Int) : Nat := (i % (2 ^ n : Nat)).toNat

/-! ## Types and access codes -/

/-- Types on the wire (Table 10.1). -/
inductive Ty where
  | bool | u8 | u16 | u32 | u64 | i32 | f32 | enum8 | sidx | rastpos | time96
  | raw (n : Nat)
  | str (n : Nat)
deriving DecidableEq, Repr

/-- Bytes of a type (Table 10.1). -/
def Ty.bytes : Ty → Nat
  | .bool | .u8 | .enum8 => 1
  | .u16 => 2
  | .u32 | .i32 | .f32 => 4
  | .u64 | .sidx | .rastpos => 8
  | .time96 => 12
  | .raw n | .str n => n

/-- The lengths that a write of a type may have (R304). -/
def Ty.lengthOk (t : Ty) (n : Nat) : Bool :=
  match t with
  | .str m => 1 ≤ n && n ≤ m
  | _ => n == t.bytes

/-- The check that a type itself makes of the written bytes (Table 10.1). -/
def Ty.valueOk (t : Ty) (data : List Byte) : Bool :=
  match t with
  | .bool => leNat data ≤ 1
  | .f32 => leNat data / 2 ^ 23 % 256 != 255
  | .time96 => leNat data / 2 ^ 16 % 2 ^ 32 ≤ 999999999
  | .str _ => data.all (fun b => 0x20 ≤ b.toNat && b.toNat ≤ 0x7E)
  | _ => true

/-- Access codes (Table 0.6). SEC objects are read or written as their table states (R327). -/
inductive Access where
  | ro | rw | wo | rwa | rws | secRead | secWrite
deriving DecidableEq, Repr

/-- A read is served. -/
def Access.readable : Access → Bool
  | .wo | .secWrite => false
  | _ => true

/-- A write is served. -/
def Access.writable : Access → Bool
  | .ro | .secRead => false
  | _ => true

/-- Reachable on the secure path only (R327). -/
def Access.secure : Access → Bool
  | .secRead | .secWrite => true
  | _ => false

/-! ## Ranges -/

/-- From `lo` to `hi`. -/
def within (lo hi v : Nat) : Bool := lo ≤ v && v ≤ hi

/-- From `lo` to `hi`, or the one further value. -/
def withinOr (lo hi x v : Nat) : Bool := within lo hi v || v == x

/-- A two's-complement value from `lo` to `hi`. -/
def withinI32 (lo hi : Int) (v : Nat) : Bool := lo ≤ i32 v && i32 v ≤ hi

/-- One of the codes listed. -/
def oneOf (l : List Nat) (v : Nat) : Bool := l.contains v

/-- Any value of the type. -/
def anyValue (_ : Nat) : Bool := true

/-- Every byte of the four of SEAM_SEL names a seam or none (R151). -/
def seamSelOk (v : Nat) : Bool := (List.range 4).all fun k => withinOr 0 47 255 (field v k 1)

/-- SRC of a partner condition names an input or none (R167). -/
def partnerSrcOk (v : Nat) : Bool :=
  within 0x0400 0x041F v || within 0x0500 0x0507 v || within 0x0600 0x060F v || v == 0xFFFF

/-- TIME_OF_DAY holds seconds only (Table 2.5, R67). -/
def secondsOnly (v : Nat) : Bool := v % 2 ^ 48 == 0

/-- WARN_LO defaults of Table 13.1 as binary32. -/
def warnLo (n : Nat) : Nat :=
  [0x40933333, 0, 0, 0xC1200000, 0xC1200000, 0xC1200000, 0xC1200000, 0, 0, 0xC1A00000,
   0x3F3A3D71, 0x3F889375, 0x3F5F7CEE, 0x404CDD2F, 0x3FDF7CEE].getD n 0

/-- WARN_HI defaults of Table 13.1 as binary32. -/
def warnHi (n : Nat) : Nat :=
  [0x41900000, 0x42100000, 0x43180000, 0x42BE0000, 0x42BE0000, 0x42BE0000, 0x42BE0000, 0x42BA0000, 0x42BA0000,
   0x42BE0000, 0x3F45C28F, 0x3F910625, 0x3F6D4FDF, 0x40598937, 0x3FED4FDF].getD n 0

/-- Default calibration table: CAL[k] = 256·k (Table 5.9). -/
def calDefault : Nat := leNat ((List.range 64).flatMap fun k => leBytes 2 (256 * k))

/-- Default action of a branch: NEXT_LEVEL 0xFF, the counter and timer slots 0xFF, the rest 0 (Table 5.7). -/
def actionDefault : Nat := leNat [0xFF, 0, 0, 0, 0xFF, 0, 0xFF, 0, 0xFF, 0, 0, 0, 0, 0, 0, 0]

/-! ## Rows -/

/-- A row of an object table: `count` instances from index `base` upward, `nsub` subindices from `sub` upward. -/
structure Row where
  base : Nat
  count : Nat := 1
  sub : Nat
  nsub : Nat := 1
  ty : Ty
  acc : Access
  imm : Bool := false
  dflt : Nat → Nat := fun _ => 0
  ok : Nat → Bool := anyValue

/-- A configuration row. -/
def cfgRow (base count sub : Nat) (ty : Ty) (acc : Access) (dflt : Nat) (ok : Nat → Bool) (imm := false) : Row :=
  { base, count, sub, ty, acc, imm, dflt := fun _ => dflt, ok }

/-- A status row. -/
def roRow (base count sub : Nat) (ty : Ty) (nsub := 1) : Row := { base, count, sub, nsub, ty, acc := .ro }

/-- Tables 10.6. -/
def identityRows : List Row := [
  roRow 0x1000 1 0x01 (.str 16),
  roRow 0x1000 1 0x02 (.str 16),
  roRow 0x1000 1 0x03 (.str 16),
  roRow 0x1000 1 0x04 .u64,
  roRow 0x1000 1 0x05 .u16,
  roRow 0x1000 1 0x06 .u8,
  roRow 0x1000 1 0x07 .u32,
  roRow 0x1000 1 0x08 .enum8,
  roRow 0x1000 1 0x09 .u8,
  roRow 0x1000 1 0x0A .bool,
  cfgRow 0x1000 1 0x0B .u16 .rws 0xB71D anyValue true,
  cfgRow 0x1000 1 0x0C .u16 .rws 0x0768 anyValue true,
  cfgRow 0x1000 1 0x0D (.str 32) .rws 0 anyValue true,
  roRow 0x1000 1 0x0E .u64,
  cfgRow 0x1080 1 0x01 .u16 .wo 0 (oneOf [0x5354, 0x4446]) true,
  cfgRow 0x1080 1 0x02 .bool .rws 0 anyValue true,
  roRow 0x1080 1 0x03 .enum8,
  roRow 0x1080 1 0x04 .u32,
  roRow 0x1080 1 0x05 .enum8,
  roRow 0x1080 1 0x06 .u16,
  cfgRow 0x1090 1 0x01 .u8 .rws 0x03 (within 0 3) true,
  cfgRow 0x1090 1 0x02 .enum8 .rws 1 (within 0 4) true,
  cfgRow 0x1090 1 0x03 .u16 .rw 100 (within 10 10000) true,
  roRow 0x1091 2 0x01 .u64,
  roRow 0x1091 2 0x02 .u64,
  roRow 0x1091 2 0x03 .u32,
  roRow 0x1091 2 0x04 .u32,
  roRow 0x1091 2 0x05 .u32,
  roRow 0x1091 2 0x06 .u32,
  roRow 0x1091 2 0x07 .enum8,
  roRow 0x10A0 1 0x01 .u64,
  roRow 0x10A0 1 0x02 .u32,
  roRow 0x10A0 1 0x03 .u32]

/-- Table 13.10, 0x1100. -/
def securityRows : List Row := [
  roRow 0x1100 1 0x01 .enum8,
  cfgRow 0x1100 1 0x02 (.raw 97) .secWrite 0 anyValue true,
  roRow 0x1100 1 0x03 (.raw 48),
  cfgRow 0x1100 1 0x04 .u32 .secWrite 0 anyValue true,
  roRow 0x1100 1 0x05 (.raw 48),
  cfgRow 0x1100 1 0x06 (.raw 96) .secWrite 0 anyValue true,
  cfgRow 0x1100 1 0x07 (.raw 240) .secWrite 0 anyValue true,
  cfgRow 0x1100 1 0x08 .bool .rw 1 anyValue true,
  roRow 0x1100 1 0x09 .u32,
  roRow 0x1100 1 0x0A .bool,
  roRow 0x1100 1 0x0B .bool,
  roRow 0x1100 1 0x0C .u32,
  roRow 0x1100 1 0x0D .enum8]

/-- Table 1.2. -/
def modeRows : List Row := [
  roRow 0x2000 1 0x01 .enum8,
  cfgRow 0x2000 1 0x02 .enum8 .rw 0xFF (withinOr 0 7 255),
  cfgRow 0x2000 1 0x03 .rastpos .rw 0xFFFFFFFFFFFFFFFF anyValue,
  cfgRow 0x2000 1 0x04 .u8 .wo 0 (within 0 1) true,
  roRow 0x2000 1 0x05 .u16,
  roRow 0x2000 1 0x06 .enum8,
  roRow 0x2000 1 0x07 .enum8,
  roRow 0x2000 1 0x08 .u32,
  roRow 0x2000 1 0x09 .sidx,
  roRow 0x2000 1 0x0A .time96,
  roRow 0x2000 1 0x0B .u32,
  roRow 0x2000 1 0x0C .u32,
  cfgRow 0x2000 1 0x0D .bool .rws 0 anyValue true,
  cfgRow 0x2000 1 0x0E .u16 .wo 0 (oneOf [0xA5C3]) true,
  cfgRow 0x2000 1 0x0F .bool .rw 0 anyValue true]

/-- Tables 2.5 and 2.6 and INGEST_DELAY. -/
def surveyorRows : List Row := [
  cfgRow 0x2100 1 0x01 .enum8 .rwa 0 (within 0 3),
  cfgRow 0x2100 1 0x02 .u8 .rwa 0 (within 0 3),
  cfgRow 0x2100 1 0x03 .bool .rwa 0 anyValue,
  cfgRow 0x2100 1 0x04 .i32 .rwa 0 (withinI32 (-1048576) 1048575),
  cfgRow 0x2100 1 0x05 .u16 .rwa 0 (withinOr 2 16384 0),
  cfgRow 0x2100 1 0x06 .u32 .rwa 0 (within 0 65536),
  cfgRow 0x2100 1 0x07 .u32 .rwa 0 anyValue,
  cfgRow 0x2100 1 0x08 .u32 .rwa 1 (within 1 4294967295),
  cfgRow 0x2100 1 0x09 .u8 .rwa 1 (within 1 4),
  cfgRow 0x2100 1 0x0A .u16 .rwa 0 (within 0 16383),
  cfgRow 0x2100 1 0x0B .u8 .rwa 0 (within 0 47),
  cfgRow 0x2100 1 0x0C .enum8 .rwa 10 (oneOf [8, 10, 12]),
  cfgRow 0x2100 1 0x0D .u8 .rwa 0 (within 0 8),
  cfgRow 0x2100 1 0x0E .u8 .rwa 15 (within 0 15),
  cfgRow 0x2100 1 0x0F .u32 .rwa 0 anyValue,
  cfgRow 0x2100 1 0x10 .u32 .rwa 0 (withinOr 3000 30000000 0),
  cfgRow 0x2100 1 0x11 .u32 .rw 1000 (within 1 3600000) true,
  cfgRow 0x2100 1 0x12 .enum8 .rw 1 (within 0 2) true,
  cfgRow 0x2100 1 0x13 .time96 .wo 0 secondsOnly true,
  cfgRow 0x2100 1 0x14 .time96 .wo 0 anyValue true,
  cfgRow 0x2100 1 0x15 .u16 .rw 100 (within 1 500) true,
  cfgRow 0x2100 1 0x16 .u16 .rwa 1024 (within 256 4096),
  roRow 0x2101 1 0x01 .enum8,
  roRow 0x2101 1 0x02 .enum8,
  roRow 0x2101 1 0x03 .u16,
  roRow 0x2101 1 0x04 .u32,
  roRow 0x2101 1 0x05 .u64,
  roRow 0x2101 1 0x06 .i32,
  roRow 0x2101 1 0x07 .rastpos,
  roRow 0x2101 1 0x08 .sidx,
  roRow 0x2101 1 0x09 .time96,
  roRow 0x2101 1 0x0A .enum8,
  roRow 0x2101 1 0x0B .enum8,
  roRow 0x2101 1 0x0C .enum8,
  roRow 0x2101 1 0x0D .u32,
  roRow 0x2101 1 0x0E .u64,
  roRow 0x2101 1 0x0F .u32,
  roRow 0x2101 1 0x10 .u32,
  roRow 0x2101 1 0x11 .u32,
  roRow 0x2101 1 0x12 .i32,
  roRow 0x2101 1 0x13 .u32,
  roRow 0x2101 1 0x14 .u32]

/-- Tables 3.11 and 3.12. -/
def linkRows : List Row := [
  cfgRow 0x2200 48 0x01 .bool .rwa 1 anyValue,
  cfgRow 0x2200 48 0x02 .u32 .rwa 40960 (within 0 262143),
  cfgRow 0x2200 48 0x03 .bool .rwa 0 anyValue,
  cfgRow 0x2200 48 0x04 .enum8 .rwa 0 (within 0 2),
  cfgRow 0x2200 48 0x05 .enum8 .rwa 0 (within 0 2),
  cfgRow 0x2200 48 0x06 .enum8 .rwa 0 (within 0 3),
  cfgRow 0x2200 48 0x07 (.raw 64) .wo 0 anyValue true,
  cfgRow 0x2200 48 0x08 .u8 .wo 0 (oneOf [1]) true,
  roRow 0x2200 48 0x10 .enum8,
  roRow 0x2200 48 0x11 .bool,
  roRow 0x2200 48 0x12 .enum8,
  roRow 0x2200 48 0x13 .bool,
  roRow 0x2200 48 0x14 .bool,
  roRow 0x2200 48 0x15 .bool,
  roRow 0x2200 48 0x16 .u8,
  roRow 0x2200 48 0x17 .u8,
  roRow 0x2200 48 0x18 .u8,
  roRow 0x2200 48 0x19 .bool,
  roRow 0x2200 48 0x1A .u64,
  roRow 0x2200 48 0x1B .u64,
  roRow 0x2200 48 0x1C .u64,
  roRow 0x2200 48 0x1D .u32,
  roRow 0x2200 48 0x1E (.raw 60),
  roRow 0x2200 48 0x1F .u32,
  roRow 0x2200 48 0x20 .u32,
  roRow 0x2200 48 0x21 .u32,
  roRow 0x2200 48 0x22 .u32,
  roRow 0x2200 48 0x23 .u32,
  roRow 0x2200 48 0x24 .u64,
  roRow 0x2200 48 0x25 .u64,
  roRow 0x2200 48 0x26 .u32,
  roRow 0x2200 48 0x27 .u32,
  roRow 0x2200 48 0x28 .u32]

/-- Tables 3.13 and 4.11. -/
def seamRows : List Row := [
  { base := 0x2400, count := 48, sub := 0x01, ty := .u8, acc := .rwa, dflt := fun s => s, ok := withinOr 0 47 255 },
  cfgRow 0x2400 48 0x02 .u8 .rwa 0xFF (withinOr 0 15 255),
  cfgRow 0x2400 48 0x03 .u8 .rwa 0xFF (withinOr 0 15 255),
  cfgRow 0x2400 48 0x04 .u8 .rwa 0xFF (withinOr 0 63 255),
  roRow 0x2400 48 0x10 .u64,
  roRow 0x2400 48 0x11 .u64,
  roRow 0x2400 48 0x12 .u64,
  roRow 0x2400 48 0x13 .u32]

/-- Tables 5.7 and 5.8. -/
def shaftRows : List Row := [
  cfgRow 0x2600 1 0x01 .bool .rwa 1 anyValue,
  cfgRow 0x2600 1 0x02 .u64 .rwa 0 anyValue,
  cfgRow 0x2600 1 0x03 .u64 .rwa 0xFFFFFFFFFFFF (within 0 0xFFFFFFFFFFFF),
  cfgRow 0x2600 1 0x04 .enum8 .rwa 1 (within 0 3),
  cfgRow 0x2600 1 0x05 .u8 .rwa 1 (within 1 64),
  cfgRow 0x2600 1 0x06 .enum8 .rwa 0 (within 0 1),
  cfgRow 0x2600 1 0x07 .u8 .wo 0 (within 0 63) true,
  roRow 0x2600 1 0x10 .u8,
  roRow 0x2600 1 0x11 .bool,
  roRow 0x2600 1 0x12 .u64,
  roRow 0x2600 1 0x13 .u32,
  roRow 0x2600 1 0x14 .u32,
  roRow 0x2600 1 0x15 .u64,
  roRow 0x2600 1 0x16 (.raw 64),
  roRow 0x2600 1 0x17 .u32,
  { base := 0x2610, count := 16, sub := 0x01, nsub := 32, ty := .raw 9, acc := .rwa, dflt := fun _ => 0xFFFFFFFFFFFFFFFF },
  { base := 0x2610, count := 16, sub := 0x21, nsub := 4, ty := .raw 16, acc := .rwa, dflt := fun _ => actionDefault },
  cfgRow 0x2610 16 0x25 .u8 .rwa 0 (within 0 15),
  cfgRow 0x26C0 64 0x01 .u16 .rwa 64 (within 64 4096),
  cfgRow 0x26C0 64 0x02 .u64 .rwa 0 (within 0 (2 ^ 40)),
  cfgRow 0x26C0 64 0x03 .u64 .rwa 1 (within 1 (2 ^ 40)),
  cfgRow 0x2620 64 0x01 (.raw 4) .rwa 0xFFFFFFFF seamSelOk,
  cfgRow 0x2620 64 0x02 .u64 .rwa 0 anyValue,
  cfgRow 0x2620 64 0x03 .u64 .rwa 0 anyValue,
  cfgRow 0x2620 64 0x04 .u64 .rwa 0 anyValue,
  cfgRow 0x2620 64 0x05 .u64 .rwa 0 anyValue,
  cfgRow 0x2620 64 0x06 .enum8 .rwa 0 (within 0 1),
  cfgRow 0x2620 64 0x07 .bool .rwa 0 anyValue,
  cfgRow 0x2660 8 0x01 .u16 .rwa 0 (within 0 767),
  cfgRow 0x2660 8 0x02 .u8 .rwa 1 (within 1 32),
  cfgRow 0x2660 8 0x03 .bool .rwa 0 anyValue,
  cfgRow 0x2660 8 0x04 .enum8 .rwa 0 (within 0 1),
  cfgRow 0x2660 8 0x05 .u64 .rwa 0 anyValue,
  cfgRow 0x2660 8 0x06 .u64 .rwa 0 anyValue,
  cfgRow 0x2660 8 0x07 .bool .rwa 0 anyValue,
  cfgRow 0x2668 16 0x01 .u64 .rwa 0 (within 0 (2 ^ 48 - 1)),
  cfgRow 0x2668 16 0x02 .u16 .rwa 0x00FF (within 0 0x1FF),
  roRow 0x2668 16 0x03 .u64,
  cfgRow 0x2678 8 0x01 .enum8 .rwa 0 (within 0 3),
  cfgRow 0x2678 8 0x02 .u64 .rwa 0 (within 0 (2 ^ 48 - 1)),
  roRow 0x2678 8 0x03 .u64,
  cfgRow 0x2680 16 0x01 .enum8 .rwa 0 (within 0 1),
  cfgRow 0x2680 16 0x02 .u16 .rwa 1 (within 1 65535),
  cfgRow 0x2680 16 0x03 .u16 .rwa 0 (within 0 65534),
  cfgRow 0x2680 16 0x04 .u8 .rwa 0x0F (within 0 15),
  cfgRow 0x2680 16 0x05 .u16 .rwa 0 anyValue,
  cfgRow 0x2680 16 0x06 .u16 .rwa 16383 anyValue,
  cfgRow 0x2680 16 0x07 .u16 .rwa 0 anyValue,
  cfgRow 0x2680 16 0x08 .u16 .rwa 65535 anyValue]

/-- Table 5.9. -/
def lineRows : List Row := [
  cfgRow 0x2700 32 0x01 .enum8 .rwa 0 (within 0 3),
  cfgRow 0x2700 32 0x02 .bool .rwa 0 anyValue,
  cfgRow 0x2700 32 0x03 .i32 .rwa 0 (withinI32 (-16384) 16383),
  cfgRow 0x2700 32 0x04 .u32 .rwa 0 (within 0 60000000),
  roRow 0x2700 32 0x10 .u32,
  roRow 0x2700 32 0x11 .u32,
  roRow 0x2700 32 0x12 .bool,
  cfgRow 0x2720 8 0x01 .enum8 .rwa 0 (within 0 3),
  cfgRow 0x2720 8 0x02 .bool .rwa 0 anyValue,
  cfgRow 0x2720 8 0x03 .i32 .rwa 0 (withinI32 (-16384) 16383),
  cfgRow 0x2720 8 0x04 .u32 .rwa 0 (within 0 60000000),
  roRow 0x2720 8 0x10 .u32,
  roRow 0x2720 8 0x11 .u32,
  roRow 0x2720 8 0x12 .bool,
  cfgRow 0x2720 8 0x05 .u8 .rwa 0xFF (withinOr 0 7 255),
  cfgRow 0x2728 8 0x01 .u16 .rwa 30 (within 1 65535),
  cfgRow 0x2728 8 0x02 .bool .rwa 0 anyValue,
  cfgRow 0x2730 16 0x01 .enum8 .rwa 0 (within 0 3),
  cfgRow 0x2730 16 0x02 .u8 .rwa 0 (within 0 7),
  cfgRow 0x2730 16 0x03 .u8 .rwa 0 anyValue,
  cfgRow 0x2750 4 0x01 .u16 .rwa 0xFFFF partnerSrcOk,
  cfgRow 0x2750 4 0x02 .bool .rwa 0 anyValue,
  cfgRow 0x2760 44 0x01 (.raw 128) .rws calDefault anyValue true,
  roRow 0x2760 44 0x02 .u16,
  cfgRow 0x27A0 1 0x01 .u64 .wo 0 (within 0 (2 ^ 44 - 1)) true,
  cfgRow 0x27A0 1 0x02 .enum8 .rw 0 (within 0 1) true,
  cfgRow 0x27A0 1 0x03 .u32 .rw 16777216 (within 65536 268435456) true,
  roRow 0x27A0 1 0x04 .enum8,
  roRow 0x27A0 1 0x05 .u64]

/-- Tables 4.12 and 6.6 to 6.8. -/
def grizzlyRows : List Row := [
  cfgRow 0x2800 1 0x01 .u32 .rwa 1000000 (within 20000 200000000),
  cfgRow 0x2800 1 0x02 .u32 .rwa 800000 (within 1000 890000),
  cfgRow 0x2800 1 0x03 .u32 .rwa 2048 (within 1120 48640),
  cfgRow 0x2800 1 0x04 .u32 .rwa 46592 (within 0 47520),
  roRow 0x2801 1 0x01 .u32,
  roRow 0x2801 1 0x02 .u32,
  roRow 0x2801 1 0x03 .u32,
  roRow 0x2801 1 0x04 .u32,
  roRow 0x2801 1 0x05 .u32,
  roRow 0x2801 1 0x06 .u64,
  roRow 0x2801 1 0x07 .u64,
  roRow 0x2801 1 0x08 .u64,
  roRow 0x2801 1 0x09 .u64,
  roRow 0x2801 1 0x0A .enum8,
  roRow 0x2801 1 0x0B .u64,
  roRow 0x2801 1 0x0C .u64,
  roRow 0x2801 1 0x0D .u64,
  roRow 0x2801 1 0x0E .u64,
  roRow 0x2801 1 0x0F .u64,
  roRow 0x2801 1 0x10 .u32,
  roRow 0x2801 1 0x11 .u64,
  roRow 0x2801 1 0x12 .u32,
  roRow 0x2801 1 0x13 .u32,
  cfgRow 0x2840 64 0x01 .enum8 .rwa 0 (within 0 4),
  cfgRow 0x2840 64 0x02 .enum8 .rwa 0 (within 0 1),
  cfgRow 0x2840 64 0x03 .bool .rwa 0 anyValue,
  roRow 0x2840 64 0x04 .u64,
  roRow 0x2840 64 0x05 .u64,
  cfgRow 0x2840 64 0x10 .u64 .rwa 0 (within 0 0xFFFFFFFFFFFF),
  cfgRow 0x2840 64 0x11 .u8 .rwa 0xFF (withinOr 0 63 255),
  cfgRow 0x2840 64 0x12 .u16 .rwa 250 (within 50 10000),
  roRow 0x2840 64 0x20 .u64,
  roRow 0x2840 64 0x21 .u64,
  roRow 0x2840 64 0x22 .bool,
  cfgRow 0x2810 1 0x01 .u8 .rw 0 (within 0 63) true,
  cfgRow 0x2810 1 0x02 .u8 .rw 0xFF (withinOr 0 63 255) true,
  cfgRow 0x2810 1 0x03 .u8 .wo 0 (within 0 1) true,
  roRow 0x2810 1 0x04 .enum8,
  roRow 0x2810 1 0x05 .u64,
  roRow 0x2810 1 0x06 (.raw 128)]

/-- Tables 7.10 and 7.11. -/
def smelterRows : List Row := [
  cfgRow 0x2A00 1 0x01 .bool .rwa 0 anyValue,
  cfgRow 0x2A00 1 0x02 .bool .rwa 0 anyValue,
  cfgRow 0x2A00 1 0x03 .u32 .rwa 0 (within 0 0xFFFFFFFE),
  cfgRow 0x2A00 1 0x04 .u16 .rw 0xFFFF anyValue true,
  roRow 0x2A00 1 0x10 .u32,
  roRow 0x2A00 1 0x11 .u64,
  roRow 0x2A00 1 0x12 .u64,
  roRow 0x2A00 1 0x13 .u64,
  roRow 0x2A00 1 0x14 .u32,
  roRow 0x2A00 1 0x15 .u64,
  roRow 0x2A00 1 0x16 .u32,
  roRow 0x2A00 1 0x17 (.raw 44),
  cfgRow 0x2A40 64 0x01 .bool .rwa 0 anyValue,
  cfgRow 0x2A40 64 0x02 .bool .rwa 0 anyValue,
  cfgRow 0x2A40 64 0x03 .u32 .rwa 0 (within 0 0xFFFFFFFE)]

/-- Table 8.6. -/
def assayRows : List Row := [
  cfgRow 0x2B10 32 0x01 .enum8 .rwa 0 (within 0 6),
  cfgRow 0x2B10 32 0x02 .enum8 .rwa 1 (within 0 3),
  cfgRow 0x2B10 32 0x03 .u16 .rwa 0xFFFF (withinOr 0 767 65535),
  cfgRow 0x2B10 32 0x04 .u16 .rwa 0xFFFF (withinOr 0 767 65535),
  cfgRow 0x2B10 32 0x05 .enum8 .rwa 0 (within 0 1),
  cfgRow 0x2B10 32 0x06 .enum8 .rwa 0 (within 0 1),
  cfgRow 0x2B10 32 0x07 .u16 .rwa 0 anyValue,
  cfgRow 0x2B10 32 0x08 .u16 .rwa 16383 anyValue,
  cfgRow 0x2B10 32 0x09 .u32 .rwa 64 (within 1 16777215),
  cfgRow 0x2B10 32 0x0A .u16 .rwa 0 (within 0 767),
  cfgRow 0x2B10 32 0x0B .u32 .rwa 0 anyValue,
  cfgRow 0x2B10 32 0x0C .i32 .rwa 0 anyValue,
  cfgRow 0x2B10 32 0x0D .i32 .rwa 0 anyValue,
  cfgRow 0x2B10 32 0x0E .u16 .rwa 0 (within 0 767),
  cfgRow 0x2B10 32 0x0F .u8 .rwa 1 (within 1 48),
  cfgRow 0x2B10 32 0x10 .u8 .rwa 0 (within 0 15),
  cfgRow 0x2B10 32 0x11 .u32 .rw 0 anyValue true,
  cfgRow 0x2B10 32 0x12 .bool .rwa 0 anyValue,
  cfgRow 0x2B10 32 0x13 .u16 .rwa 0 anyValue,
  roRow 0x2B10 32 0x20 .u64,
  roRow 0x2B10 32 0x21 .u32,
  roRow 0x2B10 32 0x22 .u64]

/-- Table 9.11. -/
def headframeRows : List Row := [
  cfgRow 0x2C00 1 0x01 .u8 .rwa 0xFF (withinOr 0 63 255),
  roRow 0x2C00 1 0x10 .enum8,
  roRow 0x2C00 1 0x11 .u8,
  roRow 0x2C00 1 0x12 .u32,
  roRow 0x2C00 1 0x13 .u32,
  roRow 0x2C00 1 0x14 .u8]

/-- Table 12.6 and the lane objects of R380. -/
def twinRows : List Row := [
  cfgRow 0x2D00 1 0x01 .bool .rws 0 anyValue true,
  cfgRow 0x2D00 1 0x02 .enum8 .rws 0 (within 0 2) true,
  cfgRow 0x2D00 1 0x03 .u8 .rws 0xFF (withinOr 0 15 255) true,
  cfgRow 0x2D00 1 0x04 .u8 .rws 0xFF (withinOr 0 15 255) true,
  cfgRow 0x2D00 1 0x05 .u8 .rws 0x0F (within 0 15) true,
  cfgRow 0x2D00 1 0x06 .u8 .wo 0 (oneOf [1]) true,
  cfgRow 0x2D00 1 0x07 .u16 .wo 0 (oneOf [0x4454]) true,
  roRow 0x2D01 1 0x01 .enum8,
  roRow 0x2D01 1 0x02 .enum8,
  roRow 0x2D01 1 0x03 .enum8,
  roRow 0x2D01 1 0x04 .u64,
  roRow 0x2D01 1 0x05 .u32,
  roRow 0x2D01 1 0x06 .u8,
  roRow 0x2D01 1 0x07 .i32,
  roRow 0x2D01 1 0x08 .i32,
  roRow 0x2D01 1 0x09 .enum8,
  roRow 0x2D01 1 0x0A .u32,
  roRow 0x2D01 1 0x0B .u32,
  roRow 0x2D01 1 0x0C .u32,
  roRow 0x2D01 1 0x0D .sidx,
  roRow 0x2D01 1 0x0E .u32,
  roRow 0x2D01 1 0x0F .u32,
  roRow 0x2D10 4 0x10 .enum8,
  roRow 0x2D10 4 0x11 .bool,
  roRow 0x2D10 4 0x12 .enum8,
  roRow 0x2D10 4 0x13 .bool,
  roRow 0x2D10 4 0x14 .bool,
  roRow 0x2D10 4 0x15 .bool,
  roRow 0x2D10 4 0x16 .u8,
  roRow 0x2D10 4 0x17 .u8,
  roRow 0x2D10 4 0x18 .u8,
  roRow 0x2D10 4 0x19 .bool,
  roRow 0x2D10 4 0x1A .u64,
  roRow 0x2D10 4 0x1B .u64,
  roRow 0x2D10 4 0x1C .u64,
  roRow 0x2D10 4 0x1D .u32,
  roRow 0x2D10 4 0x1E (.raw 60),
  roRow 0x2D10 4 0x1F .u32,
  roRow 0x2D10 4 0x20 .u32,
  roRow 0x2D10 4 0x21 .u32,
  roRow 0x2D10 4 0x22 .u32,
  roRow 0x2D10 4 0x23 .u32,
  roRow 0x2D10 4 0x24 .u64,
  roRow 0x2D10 4 0x25 .u64,
  roRow 0x2D10 4 0x26 .u32,
  roRow 0x2D10 4 0x27 .u32,
  roRow 0x2D10 4 0x28 .u32,
  roRow 0x2D10 4 0x29 .u32]

/-- Table 13.10 and THROTTLE of chapter 14. -/
def foremanRows : List Row := [
  roRow 0x3000 1 0x01 .f32 15,
  roRow 0x3000 1 0x10 .f32,
  roRow 0x3000 1 0x11 .bool,
  roRow 0x3000 1 0x12 .u32,
  { base := 0x3010, count := 15, sub := 0x01, ty := .f32, acc := .rws, imm := true, dflt := warnLo },
  { base := 0x3010, count := 15, sub := 0x02, ty := .f32, acc := .rws, imm := true, dflt := warnHi },
  roRow 0x3010 15 0x03 .f32,
  roRow 0x3010 15 0x04 .f32,
  cfgRow 0x3100 1 0x01 .bool .rws 1 anyValue true,
  roRow 0x3100 1 0x02 .u32,
  roRow 0x3100 1 0x03 .u32,
  cfgRow 0x3100 1 0x04 .u32 .rw 0 anyValue true,
  roRow 0x3100 1 0x05 (.raw 4096),
  cfgRow 0x3100 1 0x06 .u16 .secWrite 0 (oneOf [0x4C43]) true,
  cfgRow 0x3100 1 0x07 .u16 .rw 0 anyValue true,
  roRow 0x3100 1 0x08 (.str 32),
  cfgRow 0x3100 1 0x09 .u16 .wo 0 (oneOf [0x434C]) true,
  roRow 0x3100 1 0x0A .u8,
  roRow 0x3100 1 0x0B .u32,
  roRow 0x3100 1 0x0C .u32,
  roRow 0x3100 1 0x0D .u32,
  cfgRow 0x3200 1 0x01 .u16 .wo 0 (oneOf [0x4247, 0x5646, 0x434D, 0x4142, 0x4346]) true,
  cfgRow 0x3200 1 0x02 .u32 .rw 0 (fun v => v % 4096 == 0) true,
  cfgRow 0x3200 1 0x03 (.raw 4096) .wo 0 anyValue true,
  roRow 0x3200 1 0x04 .enum8,
  roRow 0x3200 1 0x05 .enum8,
  roRow 0x3200 1 0x06 (.raw 8),
  roRow 0x3200 1 0x07 (.raw 2)]

/-- Table 13.10, the key store. -/
def keyRows : List Row := [
  cfgRow 0x3F00 1 0x01 (.raw 48) .secWrite 0 anyValue true,
  cfgRow 0x3F00 1 0x02 .u32 .secWrite 0 anyValue true,
  { base := 0x3F00, sub := 0x03, ty := .raw 256, acc := .secRead, imm := true },
  cfgRow 0x3F00 1 0x04 .u16 .secWrite 0 (oneOf [0x5553]) true]

/-- Every object of the manual (R334, Table 10.7). -/
def objectRows : List Row :=
  modeRows ++ surveyorRows ++ linkRows ++ seamRows ++ shaftRows ++ lineRows ++ grizzlyRows ++ smelterRows ++
  assayRows ++ headframeRows ++ twinRows ++ foremanRows ++ identityRows ++ securityRows ++ keyRows

/-- The row covers an index. -/
def Row.hasIndex (r : Row) (index : Nat) : Bool := r.base ≤ index && index < r.base + r.count

/-- The row covers a subindex. -/
def Row.hasSub (r : Row) (sub : Nat) : Bool := r.sub ≤ sub && sub < r.sub + r.nsub

/-- An index is implemented (R303). -/
def indexKnown (index : Nat) : Bool := objectRows.any fun r => r.hasIndex index

/-- The highest subindex in use at an index, which subindex 0 reads (R303). -/
def highestSub (index : Nat) : Nat :=
  objectRows.foldl (fun m r => if r.hasIndex index then max m (r.sub + r.nsub - 1) else m) 0

/-- The row of an object; subindex 0 of an implemented index is an RO U8 (R303). -/
def objectRow (index sub : Nat) : Option Row :=
  if sub = 0 then (if indexKnown index then some (roRow index 1 0 .u8) else none)
  else objectRows.find? fun r => r.hasIndex index && r.hasSub sub

/-- Key of an object in the maps of values. -/
def key (index sub : Nat) : Nat := index * 256 + sub

/-- Key of MODE_REQUEST. -/
def kModeRequest : Nat := key 0x2000 2

/-- Key of EPOCH_AT. -/
def kEpochAt : Nat := key 0x2000 3

/-- Default of an object by its key (Tables 1.2 to 13.10). -/
def defaultOf (k : Nat) : Nat :=
  match objectRow (k / 256) (k % 256) with
  | some r => r.dflt (k / 256 - r.base)
  | none => 0

/-- An object whose writes are staged to the next epoch: RWA objects not marked immediate, MODE_REQUEST and
EPOCH_AT (R18, R21). -/
def Row.staged (r : Row) (k : Nat) : Bool := (r.acc == .rwa && !r.imm) || k == kModeRequest || k == kEpochAt

/-- Pair-wide areas (Table 10.7). -/
def pairWide (index sub : Nat) : Bool :=
  if within 0x2000 0x20FF index then !(index == 0x2000 && (sub == 0x0D || sub == 0x0E || sub == 0x0F))
  else if within 0x2760 0x27A0 index then false
  else if index == 0x2810 then false
  else if index == 0x2A00 && sub == 4 then false
  else within 0x2100 0x21FF index || within 0x2400 0x242F index || within 0x2600 0x28FF index ||
       within 0x2A00 0x2BFF index

/-! ## Maps of values -/

/-- The value listed for a key. -/
def ObjMap.find : ObjMap → Nat → Option Nat
  | [], _ => none
  | (k, v) :: m, q => if k = q then some v else ObjMap.find m q

/-- A key set to a value, keys strictly rising. -/
def ObjMap.put : ObjMap → Nat → Nat → ObjMap
  | [], k, v => [(k, v)]
  | (k', v') :: m, k, v =>
    if k < k' then (k, v) :: (k', v') :: m
    else if k = k' then (k, v) :: m
    else (k', v') :: ObjMap.put m k v

/-- A key taken out. -/
def ObjMap.drop : ObjMap → Nat → ObjMap
  | [], _ => []
  | (k', v') :: m, k => if k = k' then ObjMap.drop m k else (k', v') :: ObjMap.drop m k

/-- Live values with a key set: a default is not listed. -/
def ObjMap.write (m : ObjMap) (k v : Nat) : ObjMap := if v = defaultOf k then m.drop k else m.put k v

/-- The live value of an object. -/
def ObjMap.value (m : ObjMap) (k : Nat) : Nat := (m.find k).getD (defaultOf k)

/-- The live value of a configuration object. -/
def State.cfg (s : State) (index sub : Nat) : Nat := s.dict.live.value (key index sub)

/-- A live configuration value as a BOOL. -/
def State.cfgOn (s : State) (index sub : Nat) : Bool := s.cfg index sub == 1

/-- The value an object will have after the epoch of the staged set (R24). -/
def State.next (s : State) (index sub : Nat) : Nat :=
  (s.modes.staged.find (key index sub)).getD (s.cfg index sub)

/-- The mode request staged, 0xFF for none (R18). -/
def State.modeRequest (s : State) : Nat := (s.modes.staged.find kModeRequest).getD 0xFF

/-- The epoch instant staged, all ones for the earliest (R18). -/
def State.epochAt (s : State) : Nat := (s.modes.staged.find kEpochAt).getD 0xFFFFFFFFFFFFFFFF

end Sys2Proof.Machine
end

