-- ==== Sys2Proof/Machine/Ops.lean ====
section
/-! DEFINITION. The operations that every unit shares: elements of register banks, checks, the coordinates of a
sample, modes and roles, the class-B queue, log entries and their merging, ALERT_N. -/

namespace Sys2Proof.Machine

/-- The outcome of a command that leaves state `t`: the queue of commands stays as the command found it. -/
def ran (s t : State) : Host.Outcome State Fault Refusal := .next { t with pending := s.pending }

/-! ## Elements of a bank -/

/-- Element `i` of a bank, by a function. -/
def vmod {α : Type} {n : Nat} (v : Vector α n) (i : Nat) (f : α → α) : Vector α n :=
  if h : i < n then v.set i (f v[i]) else v

/-- Element `i` of a bank, or `d` beyond its end. -/
def vget {α : Type} {n : Nat} (v : Vector α n) (i : Nat) (d : α) : α := if h : i < n then v[i] else d

/-- Every element of a bank with its number. -/
def vmap {α : Type} {n : Nat} (v : Vector α n) (f : Nat → α → α) : Vector α n := v.mapIdx f

/-- An element into a sorted list, behind its equals. -/
def insertBy {α : Type} (le : α → α → Bool) (a : α) : List α → List α
  | [] => [a]
  | b :: l => if le b a then b :: insertBy le a l else a :: b :: l

/-- A list sorted, equals in their order. -/
def sortBy {α : Type} (le : α → α → Bool) (l : List α) : List α := l.foldl (fun m a => insertBy le a m) []

/-- A link by number. -/
def State.link (s : State) (n : Nat) : Link := vget s.links n {}

/-- A link changed. -/
def State.onLink (s : State) (n : Nat) (f : Link → Link) : State := { s with links := vmod s.links n f }

/-- A Crosscut lane changed. -/
def State.onLane (s : State) (n : Nat) (f : Link → Link) : State := { s with xc := vmod s.xc n f }

/-- A receiver (R94). -/
def State.rx (s : State) : LinkId → Link
  | .probe n => vget s.links n.val {}
  | .lane l => vget s.xc l.val {}

/-- A receiver changed. -/
def State.onRx (s : State) (l : LinkId) (f : Link → Link) : State :=
  match l with
  | .probe n => s.onLink n.val f
  | .lane k => s.onLane k.val f

/-- A seam by number. -/
def State.seam (s : State) (n : Nat) : Seam := vget s.seams n {}

/-- A seam changed. -/
def State.onSeam (s : State) (n : Nat) (f : Seam → Seam) : State := { s with seams := vmod s.seams n f }

/-- A stream by number. -/
def State.stream (s : State) (n : Nat) : Stream := vget s.streams n {}

/-- A stream changed. -/
def State.onStream (s : State) (n : Nat) (f : Stream → Stream) : State := { s with streams := vmod s.streams n f }

/-- A ring by number; 64 is the event queue. -/
def State.ring (s : State) (n : Nat) : Ring := vget s.hf.rings n {}

/-- A ring changed. -/
def State.onRing (s : State) (n : Nat) (f : Ring → Ring) : State := { s with hf.rings := vmod s.hf.rings n f }

/-- A segment by number. -/
def State.segment (s : State) (n : Nat) : Segment := vget s.shaft.segments n {}

/-- A segment changed. -/
def State.onSegment (s : State) (n : Nat) (f : Segment → Segment) : State :=
  { s with shaft.segments := vmod s.shaft.segments n f }

/-- An Assay slot changed. -/
def State.onSlot (s : State) (n : Nat) (f : Slot → Slot) : State := { s with slots := vmod s.slots n f }

/-- Something sent to the outside (log 4). -/
def State.send (s : State) (x : Sent) : State := { s with sent := x :: s.sent }

/-- A free value, and the index of the next one (log 5). -/
def State.takeFree (s : State) : Nat × State := (Config.freeNat s.free, { s with free := s.free + 1 })

/-! ## Checks (R132) -/

/-- HEADER_CRC over one byte. -/
def crc16Byte (c : BitVec 16) (b : Byte) : BitVec 16 :=
  (List.range 8).foldl (fun c _ => if c.msb then (c <<< 1) ^^^ 0x1021 else c <<< 1)
    (c ^^^ ((b.zeroExtend 16) <<< 8))

/-- The CRC-16 of HEADER_CRC: polynomial 0x1021, not reflected, initial 0xFFFF (R132). -/
def crc16 (l : List Byte) : BitVec 16 := l.foldl crc16Byte 0xFFFF

/-- CRC-32 over one byte, reflected. -/
def crc32Byte (c : Word) (b : Byte) : Word :=
  (List.range 8).foldl (fun c _ => if c.getLsbD 0 then (c >>> 1) ^^^ 0xEDB88320 else c >>> 1)
    (c ^^^ (b.zeroExtend 32))

/-- The CRC-32 of PAYLOAD_CRC: polynomial 0x04C1_1DB7 reflected, initial and final 0xFFFF_FFFF (R132). -/
def crc32 (l : List Byte) : Word := l.foldl crc32Byte 0xFFFFFFFF ^^^ 0xFFFFFFFF

/-! ## Coordinates of a sample -/

/-- Time units of 1/(3·2^48) ns in a nanosecond. -/
def tuPerNs : Nat := 3 * 2 ^ 48

/-- TIME96 of a time (R8). -/
def time96 (t : Nat) : Nat :=
  let ns := t / tuPerNs
  (ns / 1000000000) * 2 ^ 48 + (ns % 1000000000) * 2 ^ 16 + t % tuPerNs / (3 * 2 ^ 32)

/-- The time of a TIME96 (R8). -/
def timeOf96 (v : Nat) : Nat :=
  (v / 2 ^ 48 * 1000000000 + v / 2 ^ 16 % 2 ^ 32) * tuPerNs + v % 2 ^ 16 * (3 * 2 ^ 32)

/-- A RASTPOS packed (Table 0.5). -/
def packPos (p : RastPos) : Nat :=
  p.frame % 2 ^ 24 * 2 ^ 40 + p.field % 4 * 2 ^ 38 + p.line % 2 ^ 14 * 2 ^ 24 + p.pixel % 2 ^ 16 * 2 ^ 8 + p.sub % 2 ^ 8

/-- A RASTPOS unpacked (Table 0.5). -/
def unpackPos (v : Nat) : RastPos :=
  { frame := v / 2 ^ 40 % 2 ^ 24, field := v / 2 ^ 38 % 4, line := v / 2 ^ 24 % 2 ^ 14, pixel := v / 2 ^ 8 % 2 ^ 16
    sub := v % 2 ^ 8 }

/-- The undithered position of the latest sample, sub-pixel truncated (R61, RASTPOS_NOW). -/
def State.posNow (s : State) : RastPos :=
  { frame := s.sv.frame, field := s.sv.field, line := s.sv.line, pixel := s.sv.pos / 2 ^ 48
    sub := s.sv.pos % 2 ^ 48 / 2 ^ 40 }

/-- The RASTPOS stamped on the latest sample (R56, R61). -/
def State.stampedPos (s : State) : Nat := packPos { s.posNow with sub := s.sv.sub }

/-- The coordinates of the latest sample. -/
def State.here (s : State) : Coord := { sidx := s.sv.sidx, rastpos := s.stampedPos, time96 := time96 s.sv.time }

/-- Nanoseconds in time units. -/
def nsTime (n : Nat) : Nat := n * tuPerNs

/-- One second in time units. -/
def second : Nat := nsTime 1000000000

/-! ## Modes, roles, life cycle -/

/-- MODE_CURRENT (R13); 0xFF in recovery boot (R32). -/
def State.mode (s : State) : Nat := if s.power.recovery then 0xFF else s.modes.mode.value

/-- The capture modes (R14). -/
def captureMode (m : Nat) : Bool := m == 2 || m == 3 || m == 4 || m == 5

/-- Modes in which streams are armed (R195). -/
def streamingMode (m : Nat) : Bool := m == 2 || m == 4

/-- Modes in which windows fill (R182). -/
def windowMode (m : Nat) : Bool := m == 3 || m == 4

/-- The Surveyor takes samples: from Ready on (Table 1.1, R36). -/
def sampling (m : Nat) : Bool := m != 0 && m != 0xFF

/-- The Surveyor takes samples: the device is in a mode from Ready on (Table 1.1). -/
def State.samples (s : State) : Bool := sampling s.mode

/-- MODE_CURRENT set on all three copies (R342). -/
def State.setMode (s : State) (m : Nat) : State := { s with modes.mode := .all m }

/-- EPOCH_CURRENT (R27). -/
def State.epochNo (s : State) : Nat := s.modes.epoch.value

/-- The next epoch number: 0 … 65,535, then 1 (R27). -/
def nextEpochNo (n : Nat) : Nat := if n < 65535 then n + 1 else 1

/-- ROLE (R380). -/
def State.role (s : State) : Nat := s.twin.role.value

/-- PAIR_STATE LOCKSTEP or EXPOSED: the pair runs (Table 12.6). -/
def State.running (s : State) : Bool := s.twin.pairState == 5 || s.twin.pairState == 6

/-- Paired: Active or Shadow of a pair that runs (R363). -/
def State.paired (s : State) : Bool := (s.role == 1 || s.role == 2) && s.running

/-- A partner is there: a pair that runs, aligns or copies (R363, R378). -/
def State.partnered (s : State) : Bool := 3 ≤ s.twin.pairState && s.twin.pairState ≤ 6

/-- The mode whose capture runs: the device's own, or on a Shadow the Active's (R363, R367). -/
def State.runMode (s : State) : Nat := if s.mode == 5 then s.twin.peerMode else s.mode

/-- Paired and elected Shadow (R330). -/
def State.isShadow (s : State) : Bool := s.role == 2

/-- The life-cycle state in force (R405). -/
def State.lifeCycle (s : State) : Nat := s.fm.lifeCycle.value

/-- A stream is in use: a seam names it or its MARK_ENABLE is 1 (R118). -/
def inUse (val : Nat → Nat → Nat) (q : Nat) : Bool :=
  val (0x2840 + q) 3 == 1 || (List.range 48).any fun n => val (0x2400 + n) 4 == q

/-- Seams that name a stream. -/
def seamsOf (val : Nat → Nat → Nat) (q : Nat) : List Nat := (List.range 48).filter fun n => val (0x2400 + n) 4 == q

/-- The stream of a seam, none when unassigned (R118). -/
def State.streamOf (s : State) (n : Nat) : Option Nat :=
  let q := s.cfg (0x2400 + n) 4
  if q < 64 then some q else none

/-- A mask of the numbers for which a test holds. -/
def maskOf (n : Nat) (f : Nat → Bool) : Nat := (List.range n).foldl (fun m i => if f i then m + 2 ^ i else m) 0

/-- The numbers below `n` whose bit is set. -/
def bitsOf (n v : Nat) : List Nat := (List.range n).filter fun i => v.testBit i

/-! ## Log entries, events and the class-B queue -/

/-- Bit number of a unit (Table 1.5). -/
def unitBit : UnitId → Nat
  | .surveyor => 0 | .probeLinks => 1 | .encoders => 2 | .shaft => 3 | .smelter => 4 | .assay => 5 | .grizzly => 6
  | .stockpile => 7 | .headframe => 8 | .crosscut => 9 | .foreman => 10

/-- Class code (Table 13.2; 0 EVENT, R385). -/
def classCode : FaultClass → Nat
  | .event => 0 | .notice => 1 | .degrade => 2 | .isolate => 3 | .handover => 4

/-- The first 60 bytes of a log entry (Table 13.3). -/
def LogEntry.head (e : LogEntry) : List Byte :=
  leBytes 4 e.seq ++ leBytes 2 (Config.eventCode e.code).toNat ++ leBytes 1 (classCode e.cls) ++ leBytes 1 (unitBit e.unit) ++
  leBytes 8 e.sidx ++ leBytes 12 e.time96 ++ leBytes 2 e.epoch ++ leBytes 1 e.mode ++ leBytes 1 e.inst ++
  [e.flags] ++ leBytes 1 (min e.reps 255) ++ (e.detail ++ List.replicate 26 0).take 26

/-- A log entry as 64 bytes with COMMIT 0xC0DE (Table 13.3). -/
def LogEntry.bytes (e : LogEntry) : List Byte :=
  e.head ++ leBytes 2 (crc16 e.head).toNat ++ leBytes 2 0xC0DE

/-- Zero bytes up to the next multiple of 16 (R133). -/
def pad16 (n : Nat) : Nat := (n + 15) / 16 * 16

/-- Size of an ingot's image: header, stored payload, tag, padding (R133). -/
def Ingot.size (i : Ingot) : Nat := pad16 (64 + i.stored.length + i.tag.length)

/-- Bytes that an item takes in the class-B queue. -/
def ClassBItem.size : ClassBItem → Nat
  | .entry _ => 64
  | .assay i => i.size

/-- Capacity of the class-B queue, 256 MiB (Table 6.5). -/
def classBBytes : Nat := 268435456

/-- Bytes held in the class-B queue. -/
def State.classBUsed (s : State) : Nat := (s.grizzly.classB.map ClassBItem.size).sum

/-- Flag bits of a log entry (Table 13.3). -/
def entryFlags (logged merged fromBoot cleared : Bool) : Byte :=
  BitVec.ofNat 8 (bit logged + 2 * bit merged + 4 * bit fromBoot + 8 * bit cleared)

/-- Entries that go into the flash log: faults of every class and log notices always, events when LOG_EVENTS is 1
(R391). -/
def State.isLogged (s : State) (cls : FaultClass) : Bool := cls != .event || s.cfgOn 0x3100 1

/-- The instant of the latest sample as an entry shows it (Table 13.3). -/
def State.occurrence (s : State) : Occurrence :=
  { sidx := s.sv.sidx, time96 := time96 s.sv.time, epoch := s.epochNo, mode := s.mode }

/-- A new entry with the coordinates of its occurrence, the latest sample unless another is given, taking the next
ENTRY_SEQ, into the flash log when it is logged (R391). -/
def State.makeEntry (s : State) (code : EvCode) (cls : FaultClass) (unit : UnitId) (inst : Nat) (detail : List Byte)
    (reps : Nat) (fromBoot cleared : Bool) (occ : Option Occurrence := none) : LogEntry × State :=
  let logged := s.isLogged cls
  let o := occ.getD s.occurrence
  let e : LogEntry :=
    { seq := s.fm.entrySeq, code, cls, unit, sidx := o.sidx, time96 := o.time96, epoch := o.epoch
      mode := o.mode, inst, flags := entryFlags logged (reps != 0) fromBoot cleared, reps, detail }
  (e, { s with fm.entrySeq := (s.fm.entrySeq + 1) % 2 ^ 32, fm.toLog := if logged then s.fm.toLog ++ [e] else s.fm.toLog })

/-- An item into the class-B queue; a full queue drops it, and a run of drops writes one CLASS_B_OVERFLOW notice to
the log (R222). -/
def State.enqueueB (s : State) (x : ClassBItem) : State :=
  if s.classBUsed + x.size ≤ classBBytes then
    { s with grizzly.classB := s.grizzly.classB ++ [x], grizzly.classBRun := false }
  else
    let s := { s with grizzly.classBDropped := inc32 s.grizzly.classBDropped }
    if s.grizzly.classBRun then s
    else (({ s with grizzly.classBRun := true } : State).makeEntry .classBOverflow .notice .grizzly 0xFF [] 0 false false).2

/-- Entries with the same CODE, UNIT and INSTANCE as one made less than 1 s earlier are merged (R392). -/
def MergeKey.same (k : MergeKey) (code : EvCode) (unit : UnitId) (inst : Nat) : Bool :=
  k.code == code && k.unit == unit && k.inst == inst

/-- An entry counted for the key of an entry made less than 1 s before (R392). -/
def State.countMerged (s : State) (code : EvCode) (unit : UnitId) (inst : Nat) : State :=
  { s with fm.merge := s.fm.merge.map fun k => if k.same code unit inst then { k with count := k.count + 1 } else k }

/-- The key of an entry made now, and the occurrences counted before it (R392). -/
def State.rememberKey (s : State) (code : EvCode) (unit : UnitId) (inst : Nat) : State :=
  { s with fm.merge := { code, unit, inst, time := s.sv.up, count := 0 } ::
      s.fm.merge.filter fun k => !k.same code unit inst }

/-- An item passes a numbered skip: written and read (R349, R352; log 22). -/
def State.passSkip (s : State) (k : Nat) : State :=
  { s with regs.skips := vmod s.regs.skips k fun x =>
      { x with pktIn := (x.pktIn + 1) % 2 ^ 64, pktOut := (x.pktOut + 1) % 2 ^ 64, restart := false } }

/-- The skip that carries a unit's events to the Foreman: EVT_HEADFRAME, or EVT_UNITS; the Foreman's own need none
(Table 11.5). -/
def State.passEvent (s : State) (unit : UnitId) : State :=
  match unit with
  | .foreman => s
  | .headframe => s.passSkip 1
  | _ => s.passSkip 0

/-- One event, notice or fault: an entry in the class-B queue and, when logged, in the flash log, merged within 1 s
except for Isolate and Handover faults (R391, R392). -/
def State.report (s : State) (code : EvCode) (cls : FaultClass) (unit : UnitId) (inst : Nat) (detail : List Byte)
    (cleared := false) (occ : Option Occurrence := none) : State :=
  let s := s.passEvent unit
  let merges := cls != .isolate && cls != .handover
  let prior := s.fm.merge.find? fun k => k.same code unit inst
  let recent := match prior with
    | some k => s.sv.up < k.time + second
    | none => false
  if merges && recent then s.countMerged code unit inst
  else
    let reps := if merges then (prior.map MergeKey.count).getD 0 else 0
    let (e, s) := s.makeEntry code cls unit inst detail reps false cleared occ
    let s := if merges then s.rememberKey code unit inst else s
    (s.passSkip 2).enqueueB (.entry e)

/-- A class-B event (R385). -/
def State.event (s : State) (code : EvCode) (unit : UnitId) (inst : Nat := 0xFF) (detail : List Byte := []) : State :=
  s.report code .event unit inst detail

/-- A log notice: logged whatever LOG_EVENTS says (R391; log 11). -/
def State.notice (s : State) (code : EvCode) (unit : UnitId) (inst : Nat := 0xFF) (detail : List Byte := []) : State :=
  s.report code .notice unit inst detail

/-! ## Conditions and pins -/

/-- A Degrade condition present (Table 13.2). -/
def State.addCondition (s : State) (code : EvCode) (unit : UnitId) (inst : Nat := 0xFF) : State :=
  let c : Condition := { code, unit, inst }
  if s.fm.conditions.contains c then s else { s with fm.conditions := c :: s.fm.conditions }

/-- A Degrade condition ended. -/
def State.dropCondition (s : State) (code : EvCode) (unit : UnitId) (inst : Nat := 0xFF) : State :=
  { s with fm.conditions := s.fm.conditions.filter fun c => c != ({ code, unit, inst } : Condition) }

/-- ALERT_N asserted: a Degrade condition present, an Isolate fault not acknowledged, a sensor warning (R390). -/
def State.alertN (s : State) : Bool :=
  !s.fm.conditions.isEmpty || s.fm.isolateHeld || s.fm.sensors.toList.any Sensor.warned

/-! ## Link states -/

/-- LINK_STATE codes of Table 3.6. -/
def lsDisabled : Nat := 0
def lsSearch : Nat := 1
def lsLevels : Nat := 2
def lsFrame : Nat := 3
def lsFec : Nat := 4
def lsDeskew : Nat := 5
def lsUp : Nat := 6
def lsTest : Nat := 7

/-! ## Abort codes of Table 10.2 -/

def abNoObject : Nat := 0x0001
def abNoSubindex : Nat := 0x0002
def abSecureOnly : Nat := 0x0003
def abReadOnly : Nat := 0x0004
def abWriteOnly : Nat := 0x0005
def abLifeCycle : Nat := 0x0006
def abTwinManaged : Nat := 0x0007
def abModeState : Nat := 0x0008
def abStageFrozen : Nat := 0x0009
def abLength : Nat := 0x000A
def abValueRange : Nat := 0x000B
def abBusy : Nat := 0x000C
def abNotPaired : Nat := 0x000D
def abProtocol : Nat := 0x0010
def abTimeout : Nat := 0x0011
def abCrc : Nat := 0x0012
def abNoContext : Nat := 0x0013
def abCancelled : Nat := 0x0014
def abReset : Nat := 0x0015

/-- The outcome of a write that an object's own rules decide: an abort code, 0 when the write is taken, and the
state. -/
abbrev Taken := Nat × State

/-- The write is taken. -/
def taken (s : State) : Taken := (0, s)

/-- The write is refused with a code of Table 10.2 and changes nothing (R305). -/
def refuse (code : Nat) (s : State) : Taken := (code, s)

/-- The Foreman runs. -/
def State.foremanRuns (s : State) : Bool := s.power.phase == .running && !s.fm.restarting

end Sys2Proof.Machine
end

