-- ==== Sys2Proof/Machine/Msix.lean ====
section
/-! DEFINITION. MSI-X (R289 to R291): vectors that become due, messages, pending bits, table writes; the ranges of
selective streams (R278); FAULT_N with its vector (R390). -/

namespace Sys2Proof.Machine

/-- PF0 may issue requests: the link is in L0, bus mastering is on, PF0 is not in D3hot (R192, R292, R298). -/
def State.busOn (s : State) : Bool := s.hf.l0 && s.hf.bme && !s.hf.d3hot

/-- The address association of a stream covers an address (R276, R278). -/
def IdeStream.covers (x : IdeStream) (addr : Nat) : Bool := x.blocks.any fun b => b.1 ≤ addr && addr < b.1 + b.2

/-- The selective stream that a write to an address goes in; none for one in clear (R278). -/
def State.ideFor (s : State) (addr : Nat) : Option Nat :=
  (List.range 4).find? fun k =>
    match vget s.hf.ide k none with
    | some x => x.covers addr
    | none => false

/-- An address lies in the range of a selective stream that is not Secure: nothing is written there (R278). -/
def State.ideBlocks (s : State) (addr : Nat) : Bool :=
  s.hf.ide.toList.any fun x => match x with
    | some x => !x.secure && x.covers addr
    | none => false

/-- An entry of a function's MSI-X table. -/
def State.msixEntry (s : State) (fn : Fn) (v : Nat) : MsixEntry :=
  match fn with
  | .pf0 => vget s.hf.msix0 v {}
  | .pf1 => vget s.hf.msix1 v {}

/-- An entry changed. -/
def State.onMsix (s : State) (fn : Fn) (v : Nat) (f : MsixEntry → MsixEntry) : State :=
  match fn with
  | .pf0 => { s with hf.msix0 := vmod s.hf.msix0 v f }
  | .pf1 => { s with hf.msix1 := vmod s.hf.msix1 v f }

/-- Configuration of a function. -/
def State.fnCfg (s : State) : Fn → FnConfig
  | .pf0 => s.hf.cfg0
  | .pf1 => s.hf.cfg1

/-- Configuration of a function changed. -/
def State.onFnCfg (s : State) (fn : Fn) (f : FnConfig → FnConfig) : State :=
  match fn with
  | .pf0 => { s with hf.cfg0 := f s.hf.cfg0 }
  | .pf1 => { s with hf.cfg1 := f s.hf.cfg1 }

/-- A message of a vector can leave: MSI-X Enable 1, Function Mask 0, Mask bit 0, and the function may write
(R291, R298). -/
def State.canSignal (s : State) (fn : Fn) (v : Nat) : Bool :=
  let c := s.fnCfg fn
  let e := s.msixEntry fn v
  let link := match fn with
    | .pf0 => s.busOn
    | .pf1 => s.hf.l0
  c.msixEnable && !c.msixMask && !e.masked && link && !s.ideBlocks e.addr

/-- Guaranteed egress of a link in Mbit/s (Table 6.1). -/
def egressOf (speed width : Nat) : Nat :=
  if speed = 6 ∧ width = 16 then 800000
  else if (speed = 6 ∧ width = 8) ∨ (speed = 5 ∧ width = 16) then 400000
  else if (speed = 6 ∧ width = 4) ∨ (speed = 5 ∧ width = 8) then 200000
  else 0

/-- The same suspension: by cause, and by stream under RING_FULL. -/
def sameSuspension (cause : SuspendCause) (scope : BitVec 64) (x : Suspension) : Bool :=
  x.cause == cause && (cause != .ringFull || x.scope == scope)

/-- The condition of a suspension is met again from now (R207). -/
def State.conditionMet (s : State) (cause : SuspendCause) (scope : BitVec 64) : State :=
  { s with grizzly.suspensions := s.grizzly.suspensions.map fun x =>
      if sameSuspension cause scope x && x.metSince.isNone then { x with metSince := some s.sv.up } else x }

/-- A TLP brings the link out of L1 to L0, with CLKREQ_N asserted: G is re-read, the drain history cleared (R193, R201,
R207, R293; log 23). -/
def State.wakeLink (s : State) : State :=
  if s.hf.inL1 then
    ({ s with hf.inL1 := false, power.clkreq := true, grizzly.g := egressOf s.hf.speed s.hf.width, grizzly.bins := []
              grizzly.binBytes := 0, grizzly.binValid := false } : State).conditionMet .linkDown 0
  else s

/-- The message of a vector is sent, its pending bit cleared (R291). -/
def State.sendVector (s : State) (fn : Fn) (v : Nat) : State :=
  let e := s.msixEntry fn v
  (s.wakeLink.onMsix fn v fun e => { e with pending := false }).send (.msix fn v e.addr e.data)

/-- A vector becomes due: sent, or set pending (R291). -/
def State.raiseVector (s : State) (fn : Fn) (v : Nat) : State :=
  if s.canSignal fn v then s.sendVector fn v else s.onMsix fn v fun e => { e with pending := true }

/-- Pending vectors that can leave are sent (R291). -/
def State.flushVectors (s : State) : State :=
  let go (fn : Fn) (n : Nat) (s : State) : State :=
    (List.range n).foldl (fun s v => if (s.msixEntry fn v).pending && s.canSignal fn v then s.sendVector fn v else s) s
  go .pf1 16 (go .pf0 256 s)

/-- The 128-bit MSI-X entry with one doubleword written. -/
def MsixEntry.write (e : MsixEntry) (word : Nat) (v : Word) : MsixEntry :=
  if word = 0 then { e with addr := e.addr / 2 ^ 32 * 2 ^ 32 + v.toNat / 4 * 4 }
  else if word = 1 then { e with addr := v.toNat * 2 ^ 32 + e.addr % 2 ^ 32 }
  else if word = 2 then { e with data := v.toNat }
  else { e with masked := v.getLsbD 0 }

/-- Vectors of a function (Table 9.1). -/
def vectorsOf : Fn → Nat
  | .pf0 => 256
  | .pf1 => 16

/-- Offsets from which MSIX_TABLE_WRITE takes the Message Control word of the MSI-X capability, which lies in
configuration space (log 21). -/
def msixControl : Nat := 0x10000

/-- A write to BAR 4 of a function, or to the Message Control word of its MSI-X capability: bit 15 MSI-X Enable,
bit 14 Function Mask; writes to the PBA and beyond the table are ignored (R275, R291). -/
def State.msixWrite (s : State) (fn : Fn) (offset : Nat) (v : Word) : State :=
  if offset = msixControl then
    (s.onFnCfg fn fun c => { c with msixEnable := v.getLsbD 15, msixMask := v.getLsbD 14 }).flushVectors
  else if offset < 16 * vectorsOf fn && offset % 4 = 0 then
    (s.onMsix fn (offset / 16) fun e => e.write (offset % 16 / 4) v).flushVectors
  else s

/-- The meaning of MSIX_TABLE_WRITE (R291). -/
def execMsixTableWrite (fn : Fn) (offset : Nat) (v : Word) (s : State) : Host.Outcome State Fault Refusal :=
  ran s (s.msixWrite fn offset v)

/-- Vector of Isolate and Handover faults and of FAULT_N (Table 9.7). -/
def faultVector : Nat := 66

/-- FAULT_N asserted; it stays so until the next power-on or module reset (R390), and its vector becomes due
(Table 9.7). -/
def State.assertFaultN (s : State) : State :=
  if s.power.faultN then s
  else (({ s with power.faultN := true } : State).send (.pin "FAULT_N" false)).raiseVector .pf0 faultVector

end Sys2Proof.Machine
end

