-- ==== Sys2Proof/Machine/ConfigSpace.lean ====
section
/-! DEFINITION. Configuration space of the two functions (R274, R275, R291, R292, R295 to R298, R300): the identities and
capabilities of Tables 9.1 and 9.2, laid out as the PCI Express Base Specification lays them out (log 61), and the report
of errors through AER (R300). -/

namespace Sys2Proof.Machine

/-! ## Registers that hold what is written to them -/

/-- A doubleword of configuration space: its offset, what it presents after reset, the bits that software writes. -/
structure CfgReg where
  off : Nat
  value : Nat
  rw : Nat
deriving DecidableEq, Repr

/-- A PCI Express extended capability header. -/
def extCap (id version next : Nat) : Nat := id + 2 ^ 16 * version + 2 ^ 20 * next

/-- The header of both functions beside the identities (Table 9.1): Command bits that have no home of their own, cache line
size, the three 64-bit memory BARs, the capability pointer, Interrupt Line. -/
def headerRegs (fn : Fn) : List CfgReg := [
  ⟨0x04, 0, if fn == .pf0 then 0x540 else 0x544⟩, ⟨0x0C, if fn == .pf0 then 0x800000 else 0, 0xFF⟩,
  ⟨0x10, 4, 0xFF000000⟩, ⟨0x14, 0, 0xFFFFFFFF⟩, ⟨0x18, 4, 0xFFF00000⟩, ⟨0x1C, 0, 0xFFFFFFFF⟩,
  ⟨0x20, 4, 0xFFFF0000⟩, ⟨0x24, 0, 0xFFFFFFFF⟩, ⟨0x34, 0x40, 0⟩, ⟨0x3C, 0, 0xFF⟩]

/-- Device Control, Link Control, Device Control 2, Link Control 2 of the PCI Express capability. -/
def offDevCtl : Nat := 0x68
def offLinkCtl : Nat := 0x70
def offDevCtl2 : Nat := 0x88

/-- Power Management, MSI-X and PCI Express of both functions (Table 9.2). -/
def pciCaps (fn : Fn) : List CfgReg := [
  ⟨0x40, 0x00035001, 0⟩, ⟨0x54, 4, 0⟩, ⟨0x58, 0x8004, 0⟩,
  ⟨0x60, 0x80020010, 0⟩, ⟨0x64, 0x10008022, 0⟩, ⟨offDevCtl, 0x2910, 0x79FF⟩, ⟨0x6C, 0x00400906, 0⟩, ⟨offLinkCtl, 0, 0x1CB⟩,
  ⟨0x84, 0x3080F, 0⟩, ⟨offDevCtl2, 0, if fn == .pf0 then 0x140F else 0x000F⟩, ⟨0x8C, 0x7E, 0⟩, ⟨0x90, 6, 0xF⟩]

/-- Offsets of the AER capability (Table 9.2). -/
def offUncMask : Nat := 0x108
def offUncSev : Nat := 0x10C
def offCorMask : Nat := 0x114

/-- Advanced Error Reporting: masks and severities at the defaults of the base specification (R300). -/
def aerCaps (fn : Fn) : List CfgReg := [
  ⟨0x100, extCap 0x0001 2 (if fn == .pf0 then 0x148 else 0), 0⟩, ⟨offUncMask, 0x400000, 0x7057F010⟩,
  ⟨offUncSev, 0x462030, 0x7057F010⟩, ⟨offCorMask, 0xE000, 0xF1C1⟩]

/-- The other extended capabilities of PF0 (Table 9.2). -/
def pf0Caps : List CfgReg := [
  ⟨0x148, extCap 0x0003 1 0x158, 0⟩, ⟨0x158, extCap 0x0019 1 0x184, 0⟩, ⟨0x184, extCap 0x0025 1 0x190, 0⟩,
  ⟨0x188, 0x80000001, 0⟩, ⟨0x190, extCap 0x0026 1 0x1C0, 0⟩, ⟨0x1C0, extCap 0x0027 1 0x208, 0⟩,
  ⟨0x208, extCap 0x002A 1 0x238, 0⟩, ⟨0x238, extCap 0x0031 1 0x258, 0⟩, ⟨0x258, extCap 0x0018 1 0x260, 0⟩,
  ⟨0x25C, 0, 0x1FFF1FFF⟩, ⟨0x260, extCap 0x001E 1 0x270, 0⟩, ⟨0x264, 0x1C, 0⟩, ⟨0x268, 0, 0xE3FFFF0C⟩, ⟨0x26C, 0, 0xFB⟩,
  ⟨0x270, extCap 0x002E 1 0x288, 0⟩, ⟨0x288, extCap 0x0030 1 0, 0⟩, ⟨0x28C, 0x30062, 0⟩]

/-- The registers of a function that hold what is written to them, or read as constants; every other doubleword reads 0. -/
def cfgRegs (fn : Fn) : List CfgReg :=
  headerRegs fn ++ pciCaps fn ++ aerCaps fn ++ (if fn == .pf0 then pf0Caps else [])

/-- The register at an offset. -/
def cfgRegAt (fn : Fn) (off : Nat) : CfgReg := ((cfgRegs fn).find? fun r => r.off == off).getD ⟨off, 0, 0⟩

/-- The bits of a number kept under a mask, and those of another elsewhere. -/
def maskedIn (mask new old : Nat) : Nat := (new &&& mask) ||| (old &&& (0xFFFFFFFF ^^^ mask))

/-- A doubleword as it stands: what software has written, or what it presents after reset. -/
def FnConfig.word (c : FnConfig) (fn : Fn) (off : Nat) : Nat :=
  ((c.words.find? fun x => x.1 == off).map Prod.snd).getD (cfgRegAt fn off).value

/-- A doubleword written: only the bits that software writes take the value. -/
def FnConfig.put (c : FnConfig) (fn : Fn) (off v : Nat) : FnConfig :=
  let r := cfgRegAt fn off
  if r.rw = 0 then c
  else
    let n := maskedIn r.rw v (c.word fn off)
    let rest := c.words.filter fun x => x.1 != off
    { c with words := if n = r.value then rest else sortBy (fun a b => a.1 ≤ b.1) ((off, n) :: rest) }

/-! ## What the settings mean -/

/-- Max_Read_Request_Size of PF0 in bytes, at most 4,096 (R270). -/
def State.maxRead (s : State) : Nat := min 4096 (128 * 2 ^ ((s.hf.cfg0.word .pf0 offDevCtl / 2 ^ 12) % 8))

/-- Max_Payload_Size of PF0 in bytes, at most 512 (R270). -/
def State.maxPayloadSize (s : State) : Nat := min 512 (128 * 2 ^ ((s.hf.cfg0.word .pf0 offDevCtl / 2 ^ 5) % 8))

/-- 10-Bit Tag Requester Enable of PF0 (R296). -/
def FnConfig.tenBitTags (c : FnConfig) : Bool := bitOf (c.word .pf0 offDevCtl2) 12

/-- LTR Mechanism Enable of PF0 (R295). -/
def FnConfig.ltrOn (c : FnConfig) : Bool := bitOf (c.word .pf0 offDevCtl2) 10

/-- ASPM L1 enabled by the host in Link Control of PF0 (R293). -/
def FnConfig.l1On (c : FnConfig) : Bool := bitOf (c.word .pf0 offLinkCtl) 1

/-- ASPM L1.2 enabled in L1 PM Substates Control 1 (R293). -/
def FnConfig.l12On (c : FnConfig) : Bool := bitOf (c.word .pf0 0x268) 2

/-! ## Reads -/

/-- Vendor ID and Device ID (Table 9.1). -/
def fnIdentity : Fn → Nat
  | .pf0 => 0x0768B71D
  | .pf1 => 0x0769B71D

/-- Bus Master Enable of a function. -/
def State.bmeOf (s : State) : Fn → Bool
  | .pf0 => s.hf.bme
  | .pf1 => bitOf (s.hf.cfg1.word .pf1 0x04) 2

/-- The function is in D3hot (R292). -/
def State.inD3 (s : State) : Fn → Bool
  | .pf0 => s.hf.d3hot
  | .pf1 => s.hf.cfg1.d3

/-- A doubleword of configuration space as it reads (R274, R275). -/
def State.cfgRead (s : State) (fn : Fn) (off : Nat) : Nat :=
  let c := s.fnCfg fn
  let w := c.word fn off
  if off = 0x00 then fnIdentity fn
  else if off = 0x04 then w ||| 2 * bit c.mse ||| 4 * bit (s.bmeOf fn) ||| 0x100000
  else if off = 0x08 then 2 ^ 8 * 0x118000 + Config.revisionId % 256
  else if off = 0x2C then s.hf.subsys.1 % 2 ^ 16 + 2 ^ 16 * (s.hf.subsys.2 % 2 ^ 16)
  else if off = 0x44 then (if s.inD3 fn then 3 else 0) + 8
  else if off = 0x50 then 0x6011 + 2 ^ 16 * (vectorsOf fn - 1) + 2 ^ 30 * bit c.msixMask + 2 ^ 31 * bit c.msixEnable
  else if off = offDevCtl then w + 2 ^ 16 * c.devSta
  else if off = offLinkCtl then w + 2 ^ 16 * s.hf.speed + 2 ^ 20 * s.hf.width
  else if off = 0x104 then c.aerUnc
  else if off = 0x110 then c.aerCor
  else if off = 0x14C && fn == .pf0 then s.nv.part.1 % 2 ^ 32
  else if off = 0x150 && fn == .pf0 then s.nv.part.1 / 2 ^ 32 % 2 ^ 32
  else w

/-! ## Errors -/

/-- Bit of an uncorrectable error in the AER status, mask and severity registers. -/
def aerBit : AerError → Nat
  | .poisonedTlp => 12 | .completionTimeout => 14 | .completerAbort => 15 | .unexpectedCompletion => 16
  | .unsupportedRequest => 20 | .internal => 22

/-- What of an error reaches the host in a message: nothing, ERR_COR, ERR_NONFATAL or ERR_FATAL. -/
def State.aerMessage (s : State) (fn : Fn) (e : AerError) (advisory : Bool) : Option AerLevel :=
  let c := s.fnCfg fn
  let on (k : Nat) : Bool := bitOf (c.word fn offDevCtl) k
  let fatal := bitOf (c.word fn offUncSev) (aerBit e)
  if bitOf (c.word fn offUncMask) (aerBit e) then none
  else if fatal then (if on 2 then some .fatal else none)
  else if advisory then (if on 0 && !bitOf (c.word fn offCorMask) 13 then some .correctable else none)
  else if on 1 then some .nonFatal
  else none

/-- An uncorrectable error of a function: its status bits, and a message where the host's masks and enables let one through;
`advisory` is a non-fatal error that the base specification reports as correctable (R300). -/
def State.aerError (s : State) (fn : Fn) (e : AerError) (advisory := false) : State :=
  let c := s.fnCfg fn
  let fatal := bitOf (c.word fn offUncSev) (aerBit e)
  let t := s.onFnCfg fn fun c =>
    { c with aerUnc := c.aerUnc ||| 2 ^ aerBit e
             aerCor := if advisory && !fatal then c.aerCor ||| 2 ^ 13 else c.aerCor
             devSta := c.devSta ||| (if fatal then 4 else if advisory then 1 else 2) ||| (if e == .unsupportedRequest then 8 else 0) }
  match s.aerMessage fn e advisory with
  | some m => t.send (.aer fn m)
  | none => t

end Sys2Proof.Machine
end

