-- ==== Sys2Proof/Machine/Gcm.lean ====
section
/-! DEFINITION. AES-256 (FIPS 197) and its Galois/Counter Mode with a 96-bit IV and a 128-bit tag, as NIST SP 800-38D
specifies it (R234; log 8). -/

namespace Sys2Proof.Machine

/-! ## The field of AES, its S-box -/

/-- Doubling in GF(2^8) modulo x^8 + x^4 + x^3 + x + 1. -/
def aesDouble (a : Byte) : Byte := (a <<< 1) ^^^ (if a.msb then 0x1B else 0)

/-- Product in GF(2^8), by the bits of the second factor. -/
def aesMul (a b : Byte) : Byte :=
  ((List.range 8).foldl (fun (p : Byte × Byte) i => (p.1 ^^^ (if b.getLsbD i then p.2 else 0), aesDouble p.2)) (0, a)).1

/-- A square taken `n` times. -/
def aesSquares (a : Byte) : Nat → Byte
  | 0 => a
  | n + 1 => aesSquares (aesMul a a) n

/-- The inverse, 0 of 0: the power 254 = 2 + 4 + 8 + 16 + 32 + 64 + 128. -/
def aesInverse (a : Byte) : Byte := (List.range 7).foldl (fun p i => aesMul p (aesSquares a (i + 1))) 1

/-- The S-box. -/
def aesSub (a : Byte) : Byte :=
  let b := aesInverse a
  b ^^^ b.rotateLeft 1 ^^^ b.rotateLeft 2 ^^^ b.rotateLeft 3 ^^^ b.rotateLeft 4 ^^^ 0x63

/-! ## Key schedule -/

/-- Byte by byte exclusive or. -/
def xorBytes (a b : List Byte) : List Byte := List.zipWith (· ^^^ ·) a b

/-- Word `i` of the schedule from the words before it, newest first (Nk = 8). -/
def aesNextWord (i : Nat) (w : List (List Byte)) : List Byte :=
  let t := w.headD []
  let t :=
    if i % 8 = 0 then xorBytes ((t.drop 1 ++ t.take 1).map aesSub) [aesSquaresOfTwo (i / 8 - 1), 0, 0, 0]
    else if i % 8 = 4 then t.map aesSub
    else t
  xorBytes (w.getD 7 []) t
where
  /-- x^n in GF(2^8). -/
  aesSquaresOfTwo (n : Nat) : Byte := (List.range n).foldl (fun a _ => aesDouble a) 1

/-- The 15 round keys of 16 bytes. -/
def aesRoundKeys (key : List Byte) : List (List Byte) :=
  let first := (List.range 8).map fun i => (key.drop (4 * i)).take 4
  let words := ((List.range 52).foldl (fun w i => aesNextWord (i + 8) w :: w) first.reverse).reverse
  (List.range 15).map fun r => ((words.drop (4 * r)).take 4).flatten

/-! ## The cipher -/

/-- Row `r` moved by `r` columns. -/
def aesShiftRows (b : List Byte) : List Byte := (List.range 16).map fun i => b.getD ((i + 4 * (i % 4)) % 16) 0

/-- A column mixed. -/
def aesMixColumn (c : List Byte) : List Byte :=
  (List.range 4).map fun r =>
    aesDouble (c.getD r 0) ^^^ (aesDouble (c.getD ((r + 1) % 4) 0) ^^^ c.getD ((r + 1) % 4) 0) ^^^ c.getD ((r + 2) % 4) 0 ^^^
      c.getD ((r + 3) % 4) 0

/-- All columns mixed. -/
def aesMixColumns (b : List Byte) : List Byte := (List.range 4).flatMap fun k => aesMixColumn ((b.drop (4 * k)).take 4)

/-- One block under a key schedule. -/
def aesBlock (keys : List (List Byte)) (b : List Byte) : List Byte :=
  let s := xorBytes b (keys.headD [])
  let s := (List.range 13).foldl (fun s r => xorBytes (aesMixColumns (aesShiftRows (s.map aesSub))) (keys.getD (r + 1) [])) s
  xorBytes (aesShiftRows (s.map aesSub)) (keys.getD 14 [])

/-! ## Galois/Counter Mode -/

/-- A block as a number, the first byte most significant. -/
def blockNat (b : List Byte) : Nat := b.foldl (fun n x => n * 256 + x.toNat) 0

/-- A number as a block. -/
def natBlock (n : Nat) : List Byte := (List.range 16).map fun i => BitVec.ofNat 8 (n / 256 ^ (15 - i))

/-- Product of two blocks in GF(2^128). -/
def ghashMul (x y : BitVec 128) : BitVec 128 :=
  ((List.range 128).foldl (fun (p : BitVec 128 × BitVec 128) i =>
    (p.1 ^^^ (if x.getMsbD i then p.2 else 0), (p.2 >>> 1) ^^^ (if p.2.getLsbD 0 then 0xE1 <<< 120 else 0))) (0, y)).1

/-- Blocks of 16 bytes, the last filled with zeros. -/
def blocksOf (l : List Byte) : List (List Byte) :=
  (List.range ((l.length + 15) / 16)).map fun i =>
    let b := (l.drop (16 * i)).take 16
    b ++ List.replicate (16 - b.length) 0

/-- GHASH of blocks under a hash key. -/
def ghash (h : BitVec 128) (l : List (List Byte)) : BitVec 128 :=
  l.foldl (fun y b => ghashMul (y ^^^ BitVec.ofNat 128 (blockNat b)) h) 0

/-- Counter block `n` behind a 96-bit IV. -/
def counterBlock (iv : List Byte) (n : Nat) : List Byte :=
  iv ++ ((List.range 4).map fun i => BitVec.ofNat 8 (n % 2 ^ 32 / 256 ^ (3 - i)))

/-- The key stream exclusive-ored onto a text. -/
def gcmCrypt (keys : List (List Byte)) (iv text : List Byte) : List Byte :=
  (List.range ((text.length + 15) / 16)).flatMap fun i =>
    xorBytes ((text.drop (16 * i)).take 16) (aesBlock keys (counterBlock iv (i + 2)))

/-- Authenticated encryption: ciphertext and 16-byte tag (R234). -/
def gcmSeal (key iv aad text : List Byte) : List Byte × List Byte :=
  let keys := aesRoundKeys key
  let h := BitVec.ofNat 128 (blockNat (aesBlock keys (List.replicate 16 0)))
  let ct := gcmCrypt keys iv text
  let lens := natBlock (8 * aad.length * 2 ^ 64 + 8 * ct.length)
  let s := natBlock (ghash h (blocksOf aad ++ blocksOf ct ++ [lens])).toNat
  (ct, xorBytes s (aesBlock keys (counterBlock iv 1)))

end Sys2Proof.Machine
end

