-- ==== Sys2Proof/Machine/Surveyor.lean ====
section
/-! DEFINITION. The raster itself: the internal raster and the limits of R46, the NCO of R56, places on the raster,
RASTER_STATE with its events (R54), HOLDOVER (R58), the clock periods and the governor (R64, R65), and what an epoch
and an entry into Ready do to the raster (R45, R440, R61). -/

namespace Sys2Proof.Machine

/-- RASTER_STATE codes of Table 2.3. -/
def rsInternal : Nat := 0
def rsAcquire : Nat := 1
def rsLocked : Nat := 2
def rsHoldover : Nat := 3

/-- LOCK_CAUSE codes of Table 2.1. -/
def lcNone : Nat := 0x00
def lcNoSource : Nat := 0x01
def lcNoReference : Nat := 0x02
def lcPulseForm : Nat := 0x03
def lcLinePeriod : Nat := 0x04
def lcFrameRate : Nat := 0x05
def lcLineCount : Nat := 0x06
def lcLineMismatch : Nat := 0x07
def lcPixelCount : Nat := 0x08
def lcPixelRate : Nat := 0x09
def lcInconsistent : Nat := 0x0A
def lcTrsProtection : Nat := 0x0B
def lcTimeNotLocked : Nat := 0x0C
def lcStep : Nat := 0x0D
def lcMissingLines : Nat := 0x0E
def lcSeamDown : Nat := 0x0F
def lcRefClock : Nat := 0x10

/-- The causes that are limits of R46, each of which raises RASTER_UNLOCKABLE. -/
def limitCause (c : Nat) : Bool :=
  c == lcLinePeriod || c == lcFrameRate || c == lcLineCount || c == lcPixelCount || c == lcPixelRate

/-! ## The internal raster -/

/-- Pixel count, line count and increment of a raster. -/
structure RasterShape where
  ppl : Nat
  lpf : Nat
  inc : Nat
deriving DecidableEq, Repr

/-- The default internal raster: 1,000 ln × 3,000 px at 1,000 Hz, one pixel a sample (R45). -/
def defaultRaster : RasterShape := { ppl := 3000, lpf := 1000, inc := 2 ^ 48 }

/-- The three raster objects are nonzero (R45). -/
def rasterConfigured (val : Nat → Nat → Nat) : Bool := val 0x2100 5 != 0 && val 0x2100 6 != 0 && val 0x2100 7 != 0

/-- The limits of R46 on a raster of `lpf` lines and `ppl` pixels at num/den Hz. -/
def withinLimits (lpf ppl num den : Nat) : Bool :=
  num * lpf ≤ 1000000 * den && 100 * den ≤ num * lpf && den ≤ num && num ≤ 1000 * den &&
  within 2 16384 lpf && within 1 65536 ppl && num * lpf * ppl ≤ 3000000000 * den

/-- The internal raster that the objects describe, the increment rounded to the nearest unit (R45; log 13). -/
def internalRaster (val : Nat → Nat → Nat) : RasterShape :=
  if rasterConfigured val && withinLimits (val 0x2100 5) (val 0x2100 6) (val 0x2100 7) (val 0x2100 8) then
    let px := val 0x2100 6 * val 0x2100 5 * val 0x2100 7
    { ppl := val 0x2100 6, lpf := val 0x2100 5
      inc := max 1 ((2 * (2 ^ 48 * px) + 3000000000 * val 0x2100 8) / (2 * (3000000000 * val 0x2100 8))) }
  else defaultRaster

/-- First lines of the fields of a raster of `lpf` lines (R45, R50). -/
def fieldStartsOf (lpf fields : Nat) : List Nat :=
  (List.range (max 1 fields)).map fun f => (f * lpf + max 1 fields - 1) / max 1 fields

/-- Field in which a line lies: field f holds the lines from its first line to the line before the first line of the
next field, lines before the first start belonging to the last field (R73). -/
def fieldOfLine (starts : List Nat) (line : Nat) : Nat :=
  let upto := (List.range starts.length).filter fun f => starts.getD f 0 ≤ line
  match upto.foldl (fun (b : Option Nat) f =>
      match b with
      | some g => if starts.getD g 0 ≤ starts.getD f 0 then some f else b
      | none => some f) none with
  | some f => f
  | none => starts.length - 1

/-- The Surveyor's checks of a set it loads: the limits of R46 for INTERNAL, and the combinations of Table 10.10. -/
def surveyorReady (val : Nat → Nat → Nat) : Bool :=
  let src := val 0x2100 1
  let lpf := val 0x2100 5
  let internalOk := src != 0 || !rasterConfigured val ||
    withinLimits lpf (val 0x2100 6) (val 0x2100 7) (val 0x2100 8)
  let offsetOk :=
    if src == 0 then (if rasterConfigured val then val 0x2100 0x0A < lpf else val 0x2100 0x0A < 1000)
    else lpf == 0 || val 0x2100 0x0A < lpf
  let base := val 0x2100 0x0D
  let width := val 0x2100 0x0C
  let clk := val 0x2100 0x0E
  internalOk && offsetOk && (src != 3 || (base + width ≤ 16 && (clk < base || base + width ≤ clk)))

/-! ## The NCO -/

/-- One step of the dither LFSR, x^32 + x^22 + x^2 + x + 1 shifted left (R56; log 14). -/
def lfsrStep (l : Word) : Word :=
  let b := (l.getLsbD 31 ^^ l.getLsbD 21) ^^ (l.getLsbD 1 ^^ l.getLsbD 0)
  (l <<< 1) ||| (if b then 1 else 0)

/-- A signed value between two bounds. -/
def clampInt (v lo hi : Int) : Int := max lo (min hi v)

/-- The dithered sub-pixel of the position in force (R56, R61). -/
def Surveyor.dither (v : Surveyor) (seed : Nat) : Surveyor :=
  let frac : Nat := v.pos % 2 ^ 48
  let v := { v with ditherWas := (v.lfsr, v.err) }
  if seed = 0 then { v with sub := frac / 2 ^ 40 }
  else
    let d : Int := ((v.lfsr.toNat / 2 ^ 24 : Nat) - 128 : Int) * 2 ^ 32
    let x : Int := (frac : Int) + v.err + d
    let sub := clampInt (x / 2 ^ 40) 0 255
    { v with sub := sub.toNat, err := clampInt ((frac : Int) + v.err - sub * 2 ^ 40) (-(2 ^ 40)) (2 ^ 40)
             lfsr := lfsrStep v.lfsr }

/-- The latest sample is stamped anew after a jump of the position, with the dither that it had (R56, R61). -/
def Surveyor.stampAgain (v : Surveyor) (seed : Nat) : Surveyor :=
  ({ v with lfsr := v.ditherWas.1, err := v.ditherWas.2 } : Surveyor).dither seed

/-- INC set from the latest sample on, with its history (R58). -/
def Surveyor.setInc (v : Surveyor) (inc : Nat) : Surveyor :=
  let i := max 1 (min (2 ^ 48) inc)
  { v with inc := i, incHist := ((v.sidx, i) :: v.incHist).take 16 }

/-- INC in force on a sample, as far as the history reaches (R58). -/
def Surveyor.incAt (v : Surveyor) (x : Nat) : Nat :=
  match v.incHist.find? fun e => e.1 ≤ x with
  | some e => e.2
  | none => (v.incHist.getLast?.map Prod.snd).getD v.inc

/-- Field at a line start: the field that starts there, else the one in force (R47, R50, R53). -/
def Surveyor.fieldAt (v : Surveyor) (line : Nat) : Nat :=
  match (List.range v.fieldStarts.length).find? fun f => v.fieldStarts.getD f 0 == line with
  | some f => f
  | none => v.field

/-- The raster NCO, one sample (R56): corr acts on a line-start sample only. -/
def Surveyor.nco (v : Surveyor) (seed : Nat) : Surveyor :=
  let before : RastPos :=
    { frame := v.frame, field := v.field, line := v.line, pixel := v.pos / 2 ^ 48, sub := v.pos % 2 ^ 48 / 2 ^ 40 }
  let starts := v.ppl * 2 ^ 48 ≤ v.pos + v.inc
  let p : Nat := if starts then ((v.pos + v.inc : Nat) + v.corr).toNat else v.pos + v.inc
  let v := { v with prev := before, pixelCross := p / 2 ^ 48 != v.pos / 2 ^ 48, corr := if starts then 0 else v.corr }
  if v.ppl ≤ p / 2 ^ 48 then
    let line := if v.line + 1 = v.lpf then 0 else v.line + 1
    let v := { v with pos := p - v.ppl * 2 ^ 48, line, lineStart := true, frameStart := line == 0
                      frame := if line = 0 then (v.frame + 1) % 2 ^ 24 else v.frame }
    let v := { v with lastFrameStart := if line = 0 then some v.sidx else v.lastFrameStart }
    ({ v with field := v.fieldAt line } : Surveyor).dither seed
  else ({ v with pos := p, lineStart := false, frameStart := false } : Surveyor).dither seed

/-- RASTPOS placed: the given line start lies at fine bin `bin`, and the latest sample at its distance from it. -/
def Surveyor.placeAt (v : Surveyor) (frame line bin seed : Nat) : Surveyor :=
  ({ v with frame := frame % 2 ^ 24, line, field := v.fieldAt line, pos := v.inc * (64 * v.sidx - bin) / 64, corr := 0
            lineStart := true, frameStart := line == 0, pixelCross := true
            lastFrameStart := if line = 0 then some v.sidx else v.lastFrameStart } : Surveyor).stampAgain seed

/-- Line period of the raster in force, fine bins (R57). -/
def Surveyor.linePeriod (v : Surveyor) : Nat := v.ppl * 2 ^ 54 / max 1 v.inc

/-- Difference between a reference line start and the nearest px 0 of the NCO, fine bins, positive when the reference is
later (R57; DESIGN CHOICE, log 56). -/
def Surveyor.phaseOf (v : Surveyor) (at_ : Nat) : Int :=
  let start : Int := 64 * v.sidx - (v.pos * 64 / max 1 v.inc : Nat)
  let p : Int := max 1 v.linePeriod
  let e := ((at_ : Int) - start) % p
  if 2 * e ≤ p then e else e - p

/-! ## States, holdover and acquisition -/

/-- RASTER_STATE and LOCK_CAUSE set; a change raises its one event (R54). -/
def State.setRaster (s : State) (st cause : Nat) (detail : List Byte := []) : State :=
  let old := s.sv.state
  let s := { s with sv.state := st, sv.lockCause := cause }
  if old = st then s
  else if st = rsLocked then
    s.event (if old = rsHoldover then .relocked else .rasterLocked) .surveyor 0xFF detail
  else if st = rsHoldover then s.event .rasterHoldover .surveyor 0xFF (leBytes 1 cause)
  else s.event .rasterStateChanged .surveyor 0xFF (leBytes 1 old ++ leBytes 1 st ++ leBytes 1 cause)

/-- INC that was in force one full line before the latest sample (R58). -/
def Surveyor.incLineAgo (v : Surveyor) : Nat := v.incAt (v.sidx - v.linePeriod / 64)

/-- LOCKED to HOLDOVER: INC as it was one full line before, the count, the event (R58, R76). -/
def State.enterHoldover (s : State) (cause : Nat) : State :=
  if s.sv.state = rsLocked then
    let v := s.sv
    let held := v.incLineAgo
    let w := { v.setInc held with
               heldPeriod := v.ppl * 2 ^ 54 / max 1 held, agreeRun := 0, missingRun := 0, lastFrame := none
               holdAlerted := false, holdMark := v.holdMark.put v.sidx, relockCount := inc32 v.relockCount }
    ({ s with sv := w } : State).setRaster rsHoldover cause
  else s

/-- What acquisition has gathered is forgotten (R47, R55). -/
def Surveyor.restart (v : Surveyor) : Surveyor :=
  { v with widths := [], width := none, lastPulse := none, missingRun := 0, lastRefLine := none, lastPeriod := none
           agreeRun := 0, lastFrame := none, trsLast := [], trsV := none, trsPixels := (0, 0), trsField := 0
           trsSeen := (0, 0), foundLine := none }

/-- The probe link of the TRS seam leaves UP: the source is absent (R53, R58). -/
def State.trsSourceDown (s : State) (link : Nat) : State :=
  if s.cfg 0x2100 1 == 3 && s.cfg (0x2400 + s.cfg 0x2100 0x0B) 1 == link && s.sv.state != rsInternal then
    if s.sv.state = rsLocked then s.enterHoldover lcSeamDown else { s with sv.lockCause := lcSeamDown }
  else s

/-! ## Clock periods -/

/-- Period of the free-running 3 GHz clock in time units (R66). -/
def freePeriod : Nat := 2 ^ 48

/-- The fabric clock's period set, INC recomputed so that the pixel rate stays (R64). -/
def Surveyor.setPeriod (v : Surveyor) (p : Nat) : Surveyor :=
  if p = v.period then v else { v.setInc (v.inc * p / max 1 v.period) with period := p }

/-- TIME_STATE set; leaving LOCKED takes an ST2059 raster into HOLDOVER (R51, R58). -/
def State.setTimeState (s : State) (st : Nat) : State :=
  let was := s.sv.timeState
  let s := { s with sv.timeState := st }
  if was == 1 && st != 1 && s.cfg 0x2100 1 == 2 then s.enterHoldover lcTimeNotLocked else s

/-! ## Epochs and entries -/

/-- The internal raster starts on the latest sample at line LINE_OFFSET, px 0, field 0 (R45). -/
def Surveyor.startInternal (v : Surveyor) (sh : RasterShape) (fields frame line : Nat) : Surveyor :=
  { v.setInc sh.inc with
           ppl := sh.ppl, lpf := sh.lpf, pos := 0, corr := 0, frame, line, field := 0
           fieldStarts := fieldStartsOf sh.lpf fields, lineStart := true, frameStart := line == 0
           pixelCross := true, period := freePeriod
           lastFrameStart := if line = 0 then some v.sidx else v.lastFrameStart }

/-- Subindices of the objects that define the raster of a source (R45, R440). -/
def rasterSubs (src : Nat) : List Nat :=
  if src = 0 then [5, 6, 7, 8, 9, 0x0A]
  else if src = 1 then [2, 3, 4, 5, 6, 9, 0x0A]
  else if src = 2 then [5, 6, 7, 8, 9]
  else [0x0B, 0x0C, 0x0D, 0x0E, 5, 6, 9, 0x0A]

/-- The dither LFSR reloaded and err cleared, at every epoch; the epoch sample is stamped with them (R61). -/
def State.reloadDither (s : State) : State :=
  let seed := s.cfg 0x2100 0x0F
  { s with sv := ({ s.sv with lfsr := BitVec.ofNat 32 seed, err := 0 } : Surveyor).dither seed }

/-- The cause from which an acquisition starts: SEAM_DOWN while the link of a TRS seam is not UP (R53, Table 2.1). -/
def State.startCause (s : State) : Nat :=
  if s.cfg 0x2100 1 == 3 && (s.link (s.cfg (0x2400 + s.cfg 0x2100 0x0B) 1)).state != lsUp then lcSeamDown else lcNone

/-- SAMPLE_CLOCK when no steering is in force. -/
def State.clockFree (s : State) : State :=
  { s with sv := { s.sv.setPeriod freePeriod with sampleClock := if s.sv.refLost then 3 else 0 } }

/-- What an epoch does to the raster, given the values before it (R45, R440, R61, R62); an acquisition that has not reached
LOCKED starts again too (DESIGN CHOICE, log 56). -/
def State.rasterEpoch (s : State) (old : Nat → Nat → Nat) : State :=
  let src := s.cfg 0x2100 1
  let was := old 0x2100 1
  let changed := (rasterSubs src).any fun k => s.cfg 0x2100 k != old 0x2100 k
  if src = 0 then
    if was != 0 || changed then
      let s := s.clockFree
      let v := s.sv.restart.startInternal (internalRaster s.cfg) (s.cfg 0x2100 9) ((s.sv.frame + 1) % 2 ^ 24)
        (s.cfg 0x2100 0x0A)
      (({ s with sv := v } : State).reloadDither).setRaster rsInternal lcNoSource
    else s.reloadDither
  else if was = 0 then (({ s with sv := s.sv.restart } : State).reloadDither).setRaster rsAcquire s.startCause
  else if src != was || changed then
    let s := { s with sv := s.sv.restart }
    (s.clockFree.reloadDither).setRaster rsAcquire (if s.sv.state = rsAcquire then s.startCause else lcNone)
  else if s.cfg 0x2100 0x10 == 0 && s.sv.sampleClock != 3 && old 0x2100 0x10 != 0 then s.clockFree.reloadDither
  else s.reloadDither

/-- The raster at an entry into Ready: the internal raster from fr 0, field 0, line LINE_OFFSET, px 0; a reference
is acquired anew (R36, R45). -/
def State.rasterEntry (s : State) : State :=
  let s := s.clockFree
  let v := s.sv.restart.startInternal (internalRaster s.cfg) (s.cfg 0x2100 9) 0 (s.cfg 0x2100 0x0A)
  let s := ({ s with sv := v } : State).reloadDither
  if s.cfg 0x2100 1 = 0 then s.setRaster rsInternal lcNoSource else s.setRaster rsAcquire s.startCause

end Sys2Proof.Machine
end

