-- ==== Sys2Proof/Machine/LinkOps.lean ====
section
/-! DEFINITION. What every loss or return of a receiver shares: the seam that a link feeds, entering SEARCH, leaving
UP with its event and counter, losing a seam (R94, R98, R106 to R109). -/

namespace Sys2Proof.Machine

/-- Unit of a receiver in events. -/
def rxUnit : LinkId → UnitId
  | .probe _ => .probeLinks
  | .lane _ => .crosscut

/-- INSTANCE of a receiver in events: link or lane number (Table 13.3). -/
def rxInst : LinkId → Nat
  | .probe n => n.val
  | .lane l => l.val

/-- Its place among the voted lane enables: links 0–47, lanes 48–51 (Table 11.2). -/
def rxBit : LinkId → Nat
  | .probe n => n.val
  | .lane l => 48 + l.val

/-- The seam that a link feeds, if any (R106). -/
def State.fedSeam (s : State) (n : Nat) : Option Nat := (List.range 48).find? fun k => s.cfg (0x2400 + k) 1 == n

/-- The link that feeds a seam (R106). -/
def State.sourceOf (s : State) (k : Nat) : Option Nat :=
  let n := s.cfg (0x2400 + k) 1
  if n < 48 then some n else none

/-- LINK_ENABLE in force: the voted lane enable, forced to 0 by isolation (R342, R388). -/
def State.linkEnabled (s : State) (l : LinkId) : Bool :=
  s.regs.lanes.value.getLsbD (rxBit l) && !s.fm.isolatedLinks.getLsbD (rxBit l)

/-- The data SIDX after the last sample that a seam holds. -/
def State.dataEnd (s : State) (k : Nat) : Nat :=
  match (s.seam k).buf.getLast? with
  | some x => x.sidx + 1
  | none => s.sv.sidx + 1

/-- A seam becomes lost from sample `at_`, until it joins anew; what it holds from there on is given up, and the loss
that made it lost keeps its cause (R106, R108, Table 4.8). -/
def State.loseSeam (s : State) (k at_ cause : Nat) : State :=
  s.onSeam k fun m =>
    { m with lostAt := some (match m.lostAt with | some a => min a at_ | none => at_), firstUp := none
             buf := m.buf.filter fun x => x.sidx < at_
             lostCause := if m.joined && m.lostAt.isNone then cause else m.lostCause }

/-- The seam of a link becomes lost after the last frame that was decoded in UP (R108). -/
def State.loseFed (s : State) (l : LinkId) (cause : Nat) : State :=
  match l with
  | .probe n =>
    match s.fedSeam n.val with
    | some k => s.loseSeam k (s.dataEnd k) cause
    | none => s
  | .lane _ => s

/-- What a receiver forgets when it leaves a state: grid, counts of frames in a row, the acknowledged timing channels. The
control message in flight is given up, a host's goes back to the front of its queue (R92, R97; log 57). -/
def Link.restart (m : Link) : Link :=
  { m with grid := none, lastSeq := none, cleanRun := 0, badRun := 0, seqRun := 0, driftRun := 0, rxFailRaised := false
           timingAcked := false, timingDone := false, lastWord := none, framed := false, deviceMsgs := []
           msg := none, msgAttempts := 0
           hostMsgs := (match m.msg with
             | some b => if 0x80 ≤ (b.getD 0 0).toNat then b :: m.hostMsgs else m.hostMsgs
             | none => m.hostMsgs) }

/-- The state of a receiver set; LINK_DOWN and LOCK_LOSSES when it was UP (R109, Table 3.8). -/
def State.rxGo (s : State) (l : LinkId) (st cause : Nat) : State :=
  let wasUp := (s.rx l).state == lsUp
  let s := s.onRx l fun m =>
    { m.restart with state := st, cause, lockLosses := if wasUp then inc32 m.lockLosses else m.lockLosses }
  let s := s.loseFed l cause
  let s := match l with
    | .probe n => if wasUp then s.trsSourceDown n.val else s
    | .lane _ => s
  if wasUp then s.event .linkDown (rxUnit l) (rxInst l) else s

/-- SEARCH is entered: PRECODE_REQ is read, the partner's reports and precoding are gone (R94, R98, R99). -/
def State.rxSearch (s : State) (l : LinkId) (cause : Nat) : State :=
  let want := match l with
    | .probe n => s.cfgOn (0x2200 + n.val) 3
    | .lane _ => false
  let s := s.rxGo l lsSearch cause
  s.onRx l fun m =>
    { m with precodeWant := want, precodeRx := false, precodeTx := false, precodePend := none, partnerWants := false
             pendSeen := none, partnerState := 0, patternAcked := false }

/-- LINK_ENABLE 0, or isolation: DISABLED, the transmit half idle (R98, R388, Table 3.8). -/
def State.rxDisable (s : State) (l : LinkId) : State :=
  let s := s.rxGo l lsDisabled 1
  s.onRx l fun m => { m with noPartner := false, partnerState := 0, precodeRx := false, precodeTx := false
                             precodePend := none, patternAcked := false }

/-- The probe SerDes loses power at the entry into Dormant: DISABLED without an event or a count, LINK_CAUSE kept
(R109). -/
def State.rxUnpower (s : State) (l : LinkId) : State :=
  let s := s.loseFed l (s.rx l).cause
  let s := match l with
    | .probe n => if (s.rx l).state == lsUp then s.trsSourceDown n.val else s
    | .lane _ => s
  s.onRx l fun m => { m.restart with state := lsDisabled, noPartner := false, partnerState := 0, precodeRx := false
                                     precodeTx := false, precodePend := none, patternAcked := false, loopBuf := [], loopLast := [] }

/-- Every probe link in order. -/
def allLinks : List LinkId := (List.finRange 48).map .probe

/-- Every Crosscut lane in order. -/
def allLanes : List LinkId := (List.finRange 4).map .lane

end Sys2Proof.Machine
end

