-- ==== Sys2Proof/Machine/Faults.lean ====
section
/-! DEFINITION. The Foreman's fault intake (R386, R387), isolation (R388), the watchdog (R389) and leaving a mode
under a fault (R29, R30). -/

namespace Sys2Proof.Machine

/-- Where a mode is left for under a fault: Drain when Solo; Ready when Active, after the handover, or Shadow (R30,
R375). A Solo module in Drain is there already, and none leaves Dormant or recovery boot (log 12). -/
def State.leaveTarget (s : State) : Option Nat :=
  if s.mode = 0 ∨ s.mode = 0xFF then none
  else if s.paired then some 1
  else if s.mode = 6 then none
  else some 6

/-- A forced epoch decided: it takes effect on the next sample (R30, R29). An earlier decision stands. -/
def State.leaveMode (s : State) (by_ : ForcedBy) : State :=
  match s.modes.forced, s.leaveTarget with
  | none, some m => { s with modes.forced := some (by_, m) }
  | _, _ => s

/-- A block stops and is held in reset (R388): a probe link or a lane by its enable, an Assay slot alone, any other
unit by leaving the mode. -/
def State.isolateBlock (s : State) (u : UnitId) (inst : Nat) : State :=
  match u with
  | .probeLinks =>
    if h : inst < 48 then
      let s := { s with fm.isolatedLinks := s.fm.isolatedLinks ||| BitVec.ofNat 52 (2 ^ inst) }
      s.rxDisable (.probe ⟨inst, h⟩)
    else ({ s with fm.isolated := s.fm.isolated ||| BitVec.ofNat 11 (2 ^ unitBit u) } : State).leaveMode .fault
  | .crosscut =>
    if h : inst < 4 then
      let s := { s with fm.isolatedLinks := s.fm.isolatedLinks ||| BitVec.ofNat 52 (2 ^ (48 + inst)) }
      s.rxDisable (.lane ⟨inst, h⟩)
    else ({ s with fm.isolated := s.fm.isolated ||| BitVec.ofNat 11 (2 ^ unitBit u) } : State).leaveMode .fault
  | .assay =>
    if inst < 32 then
      { s with fm.isolatedSlots := s.fm.isolatedSlots ||| BitVec.ofNat 32 (2 ^ inst) }
    else ({ s with fm.isolated := s.fm.isolated ||| BitVec.ofNat 11 (2 ^ unitBit u) } : State).leaveMode .fault
  | _ => ({ s with fm.isolated := s.fm.isolated ||| BitVec.ofNat 11 (2 ^ unitBit u) } : State).leaveMode .fault

/-- The watchdog trips; FOREMAN_WATCHDOG_TRIP carries it out (R389). -/
def State.tripWatchdog (s : State) (c : WatchdogCause) : State :=
  { s with fm.tripDue := s.fm.tripDue.or (some c) }

/-- Place in the queue: by class, then by arrival (R386). -/
def insertFault (f : Faulted) : List Faulted → List Faulted
  | [] => [f]
  | g :: l => if classCode g.req.cls < classCode f.req.cls then f :: g :: l else g :: insertFault f l

/-- A pre-empted fault goes to the front of its class (R386). -/
def frontFault (f : Faulted) : List Faulted → List Faulted
  | [] => [f]
  | g :: l => if classCode g.req.cls ≤ classCode f.req.cls then f :: g :: l else g :: frontFault f l

/-- Length of the fault queue (R387). -/
def faultQueueMax : Nat := 64

/-- Isolate and Handover faults are never discarded (R387). -/
def Faulted.keeps (f : Faulted) : Bool := f.req.cls == .isolate || f.req.cls == .handover

/-- A fault into a full queue: it takes the place of the youngest entry of the lowest class when its own class is at
or above that, and is discarded otherwise; a queue of 64 Isolate or Handover faults trips the watchdog (R387). -/
def State.enqueueFull (s : State) (f : Faulted) : State :=
  match s.fm.faults.getLast? with
  | none => s
  | some low =>
    if low.keeps then
      (if f.keeps then s.tripWatchdog .queueFull
       else { s with fm.faultsLost := inc32 s.fm.faultsLost, fm.lostUnreported := s.fm.lostUnreported + 1 })
    else
      let s := { s with fm.faultsLost := inc32 s.fm.faultsLost, fm.lostUnreported := s.fm.lostUnreported + 1 }
      if classCode low.req.cls ≤ classCode f.req.cls then
        { s with fm.faults := insertFault f s.fm.faults.dropLast }
      else s

/-- A fault behind those of its class or higher (R386, R387). -/
def State.enqueueFault (s : State) (f : Faulted) : State :=
  if s.fm.faults.length < faultQueueMax then
    let s := { s with fm.faults := insertFault f s.fm.faults }
    if s.fm.faults.length == faultQueueMax && s.fm.faults.all Faulted.keeps then s.tripWatchdog .queueFull else s
  else s.enqueueFull f

/-- A pre-empted fault back into the queue (R386). -/
def State.requeueFront (s : State) (f : Faulted) : State :=
  if s.fm.faults.length < faultQueueMax then { s with fm.faults := frontFault f s.fm.faults } else s.enqueueFull f

/-- A Degrade fault's condition is present from now (Table 13.2). -/
def State.noteCondition (s : State) (f : FaultReq) : State :=
  if f.cls == .degrade then s.addCondition f.code f.unit f.inst else s

/-- The fault intake of R386; while the cores restart a fault waits in the queue (R389). -/
def State.raiseFault (s : State) (req : FaultReq) (byHandler : Bool := false) : State :=
  let s := s.noteCondition req
  let f : Faulted := { req, stopped := false, at_ := s.occurrence }
  if byHandler then s.tripWatchdog .handlerFault
  else
    match s.fm.handling with
    | none => if s.fm.restarting then s.enqueueFault f else { s with fm.handling := some f }
    | some h =>
      if req.cls == .isolate && h.req.cls == .isolate && req.unit == h.req.unit then
        (s.isolateBlock req.unit req.inst).enqueueFault { f with stopped := true }
      else if classCode h.req.cls < classCode req.cls then
        ({ s with fm.handling := some f } : State).requeueFront h
      else s.enqueueFault f

/-- A fault of a unit without an instance. -/
def State.fault (s : State) (cls : FaultClass) (code : EvCode) (unit : UnitId) (inst : Nat := 0xFF)
    (detail : List Byte := []) : State :=
  s.raiseFault { cls, unit, code, inst, detail }

end Sys2Proof.Machine
end

