-- ==== Sys2Proof/Machine/FrameCode.lean ====
section
/-! DEFINITION. The line code of a probe link and of a Crosscut lane: Gray symbols and precoding (R79, R80), the
Reed–Solomon code RS(340,314) over GF(2^10) (R81), the message of a frame (R82, R84, R96) and its scrambler (R85). -/

namespace Sys2Proof.Machine

/-! ## GF(2^10) -/

/-- Product modulo x^10 + x^3 + 1 (R81). -/
def gfMul (a b : Nat) : Nat :=
  (List.range 10).foldl (fun r i =>
    let r2 := if r.testBit 9 then (r <<< 1) ^^^ 0x409 else r <<< 1
    if b.testBit (9 - i) then r2 ^^^ a else r2) 0

/-- Power. -/
def gfPow (a n : Nat) : Nat :=
  (List.range 10).foldl (fun r i =>
    let r2 := gfMul r r
    if n.testBit (9 - i) then gfMul r2 a else r2) 1

/-- α^k, α a root of the primitive polynomial (R81). -/
def gfAlpha (k : Nat) : Nat := gfPow 2 (k % 1023)

/-- Inverse. -/
def gfInv (a : Nat) : Nat := gfPow a 1022

/-- Value of a polynomial, lowest coefficient first. -/
def gfEval (p : List Nat) (x : Nat) : Nat := p.foldr (fun c acc => gfMul acc x ^^^ c) 0

/-! ## RS(340,314) -/

/-- Symbols of a codeword. -/
def rsSymbols : Nat := 340

/-- Parity symbols. -/
def rsParity : Nat := 26

/-- Symbol errors that the decoder corrects (R81). -/
def rsCorrects : Nat := 13

/-- Value of a received word, s[i] the coefficient of x^(339−i), at α^j (R81). -/
def syndrome (w : List Nat) (j : Nat) : Nat := w.foldl (fun acc c => gfMul acc (gfAlpha j) ^^^ c) 0

/-- The 26 syndromes. -/
def syndromes (w : List Nat) : List Nat := (List.range rsParity).map (syndrome w)

/-- `p + c·x^k·q`. -/
def gfAxpy (p : List Nat) (c k : Nat) (q : List Nat) : List Nat :=
  (List.range (max p.length (k + q.length))).map fun i =>
    p.getD i 0 ^^^ (if i < k then 0 else gfMul c (q.getD (i - k) 0))

/-- Progress of the search for the error locator. -/
structure Locator where
  c : List Nat := [1]
  b : List Nat := [1]
  l : Nat := 0
  m : Nat := 1
  d : Nat := 1

/-- One syndrome taken into the error locator. -/
def Locator.step (x : Locator) (s : List Nat) (n : Nat) : Locator :=
  let delta := (List.range (x.l + 1)).foldl (fun acc i => acc ^^^ gfMul (x.c.getD i 0) (s.getD (n - i) 0)) 0
  if delta = 0 then { x with m := x.m + 1 }
  else
    let c := gfAxpy x.c (gfMul delta (gfInv x.d)) x.m x.b
    if 2 * x.l ≤ n then { c, b := x.c, l := n + 1 - x.l, m := 1, d := delta } else { x with c, m := x.m + 1 }

/-- The error locator of the syndromes. -/
def locate (s : List Nat) : Locator := (List.range rsParity).foldl (fun x n => x.step s n) {}

/-- Error value at position i, from the locator and the evaluator. -/
def errorValue (c omega : List Nat) (i : Nat) : Nat :=
  let x := gfAlpha (rsSymbols - 1 - i)
  let xi := gfInv x
  let deriv := c.mapIdx fun k v => if k % 2 = 1 then v else 0
  gfMul x (gfMul (gfEval omega xi) (gfInv (gfEval (deriv.drop 1) xi)))

/-- The codeword within 13 symbols of the received word and the number of symbols corrected, none when there is no
such codeword (R81). -/
def rsDecode (w : List Nat) : Option (Nat × List Nat) :=
  let s := syndromes w
  if s.all (· == 0) then some (0, w)
  else
    let x := locate s
    if rsCorrects < x.l then none
    else
      let at_ := (List.range rsSymbols).filter fun i => gfEval x.c (gfInv (gfAlpha (rsSymbols - 1 - i))) == 0
      let omega := (List.range rsParity).map fun n =>
        (List.range (n + 1)).foldl (fun acc i => acc ^^^ gfMul (x.c.getD i 0) (s.getD (n - i) 0)) 0
      let fixed := w.mapIdx fun i v => if at_.contains i then v ^^^ errorValue x.c omega i else v
      if at_.length == x.l && (syndromes fixed).all (· == 0) then some (at_.length, fixed) else none

/-- One factor x − α^j taken into a polynomial, highest coefficient first. -/
def gfTimesRoot (p : List Nat) (j : Nat) : List Nat :=
  List.zipWith (fun a b => a ^^^ gfMul (gfAlpha j) b) (p ++ [0]) (0 :: p)

/-- The generator polynomial (x − α^0)…(x − α^25), highest coefficient first (R81). -/
def rsGenerator : List Nat := (List.range rsParity).foldl gfTimesRoot [1]

/-- The parity symbols s[314] to s[339]: the remainder of m(x)·x^26 divided by g(x) (R81). -/
def rsRemainder (msg : List Nat) : List Nat :=
  let g := rsGenerator.drop 1
  msg.foldl (fun r c =>
    let f := c ^^^ r.headD 0
    List.zipWith (fun a b => a ^^^ gfMul f b) (r.drop 1 ++ [0]) g) (List.replicate rsParity 0)

/-- The codeword of 314 message symbols (R81). -/
def rsEncode (msg : List Nat) : List Nat := msg ++ rsRemainder msg

/-! ## Symbols and bits -/

/-- The Gray pair of a symbol value as a number of two bits (Table 3.1). -/
def grayPair : Nat → Nat
  | 0 => 0
  | 1 => 1
  | 2 => 3
  | _ => 2

/-- The symbol value of a Gray pair (Table 3.1). -/
def graySymbol : Nat → Fin 4
  | 0 => 0
  | 1 => 1
  | 3 => 2
  | _ => 3

/-- Symbol values after the polarity is corrected (R79). -/
def polarity (inverted : Bool) (l : List (Fin 4)) : List Nat := l.map fun v => if inverted then 3 - v.val else v.val

/-- 1 + D decoding: s_n = (p_n + p_(n−1)) mod 4 (R80). -/
def unprecode : Nat → List Nat → List Nat
  | _, [] => []
  | p, x :: l => (x + p) % 4 :: unprecode x l

/-- Precoding: p_n = (s_n − p_(n−1)) mod 4 (R80). -/
def precode : Fin 4 → List (Fin 4) → List (Fin 4)
  | _, [] => []
  | p, x :: l => (x - p) :: precode (x - p) l

/-- Five UI make one ten-bit symbol, most significant bit first (R82). -/
def symbolsOf (l : List Nat) : List Nat :=
  (List.range rsSymbols).map fun i => ((l.drop (5 * i)).take 5).foldl (fun acc v => acc * 4 + grayPair v) 0

/-- The five UI of every ten-bit symbol, most significant bit first (R82). -/
def levelsOf (w : List Nat) : List (Fin 4) :=
  w.flatMap fun v => (List.range 5).map fun i => graySymbol (v / 4 ^ (4 - i) % 4)

/-- The bits of received symbol values, first bit of a pair first (R79). -/
def pairBits (l : List Nat) : List Bool := l.flatMap fun v => [(grayPair v).testBit 1, (grayPair v).testBit 0]

/-- The 3,140 message bits in order of transmission (R82). -/
def messageBits (w : List Nat) : List Bool :=
  (w.take 314).flatMap fun v => (List.range 10).map fun k => v.testBit (9 - k)

/-- Number of bits, most significant first. -/
def bitsNat (l : List Bool) : Nat := l.foldl (fun acc b => 2 * acc + bit b) 0

/-- A number as bits, most significant first. -/
def natBits (width n : Nat) : List Bool := (List.range width).map fun k => n.testBit (width - 1 - k)

/-- The message symbols of message bits (R82). -/
def messageSymbols (b : List Bool) : List Nat := (List.range 314).map fun i => bitsNat ((b.drop (10 * i)).take 10)

/-- The payload scrambler from the state `st`, in both directions (R85). -/
def descramble : Nat → List Bool → List Bool
  | _, [] => []
  | st, b :: l =>
    let k := st.testBit 30 ^^ st.testBit 27
    (b ^^ k) :: descramble ((2 * st + bit k) % 2 ^ 31) l

/-- A decoded frame (Table 3.2). -/
structure Frame where
  seq : Nat
  kind : Nat
  fault : Bool
  ack : Bool
  word : Nat
  payload : List Bool
deriving DecidableEq, Repr

/-- The fields of a frame, its payload descrambled (R82, R85). -/
def frameOf (b : List Bool) : Frame :=
  let seq := bitsNat (b.take 8)
  { seq, kind := bitsNat ((b.drop 8).take 2), fault := b.getD 10 false, ack := b.getD 11 false
    word := bitsNat ((b.drop 12).take 56), payload := descramble (0x7FFFFF00 ||| seq) (b.drop 68) }

/-- Message bits of a frame: SEQ, KIND, FE_FAULT and ACK 0, EDGE or TRAINING, the payload scrambled (Table 3.2, R85). -/
def frameBits (seq kind word : Nat) (payload : List Bool) : List Bool :=
  natBits 8 seq ++ natBits 2 kind ++ [false, false] ++ natBits 56 word ++ descramble (0x7FFFFF00 ||| seq) payload

/-- The 1,700 symbols of a frame, not precoded (R81, R82, Table 3.1). -/
def frameLevels (seq kind word : Nat) (payload : List Bool) : List (Fin 4) :=
  levelsOf (rsEncode (messageSymbols (frameBits seq kind word payload)))

/-- Bits of a payload (Table 3.2). -/
def payloadBits : Nat := 3072

/-- The payload of a DATA frame of the transmit half: 64 bytes, the rest zero (R90). -/
def messagePayload (m : List Byte) : List Bool :=
  (m.flatMap fun b => natBits 8 b.toNat) ++ List.replicate (payloadBits - 8 * m.length) false

/-- A received frame in one polarity, from the symbol value before it when precoding is on: symbols corrected and the
frame, none when uncorrectable. -/
def decodeFrame (levels : List (Fin 4)) (inverted precoded : Bool) (prev : Nat) : Option (Nat × Frame) :=
  let v := polarity inverted levels
  let v := if precoded then unprecode prev v else v
  (rsDecode (symbolsOf v)).map fun r => (r.1, frameOf (messageBits r.2))

/-- The 192 samples of a DATA frame, the most significant channel first (R84). -/
def samplesOf (payload : List Bool) : List SeamWord :=
  (List.range 192).map fun k => BitVec.ofNat 16 (bitsNat ((payload.drop (16 * k)).take 16))

/-- The used EDGE entries of a DATA frame: OFFSET and FINE (R86). -/
def edgesOf (word : Nat) : List (Nat × Nat) :=
  ((List.range 4).map fun i => let e := word / 2 ^ (14 * (3 - i)) % 2 ^ 14; (e / 64, e % 64)).filter
    fun e => e.1 != 0xFF

end Sys2Proof.Machine
end

