-- ==== Sys2Proof/WellFormed.lean ====
section
/-! DEFINITION. The operands that a wire, a bus or a sensor bank can carry: a check for each command whose operand
is a list of a fixed length. Every other operand is bounded by its type. -/

namespace Sys2Proof

/-- Symbols of one frame: 1,700 (R77). -/
def frameSymbols : Nat := 1700

/-- Sensors of Table 13.1. -/
def sensorCount : Nat := 15

/-- Taps of a line whose crossings are counted in calibration (R165). -/
def lineTaps : Nat := 64

/-- Partner source parts of a Crosscut block (Table 12.2). -/
def partnerParts : Nat := 4

/-- A frame is 1,700 symbols long, at one of 1,700 alignments (R77, R95). -/
def RxFrame.ok (f : RxFrame) : Bool := f.levels.length == frameSymbols && f.ui < frameSymbols

/-- Every calibrated line has one count for each of the 64 taps (R165). -/
def histOk (h : List (List Nat)) : Bool := h.length == 44 && h.all (fun l => l.length == lineTaps)

/-- A block carries four partner parts (Table 12.2). -/
def XcBlock.ok (b : XcBlock) : Bool := b.partner.length == partnerParts

/-- A command whose operands the outside can present. -/
def Instr.wf : Instr → Bool
  | .probeFrameReceive _ f => f.ok
  | .sensorSample r => r.length == sensorCount
  | .calComplete h => histOk h
  | .xcBlockReceive b => b.ok
  | _ => true

end Sys2Proof
end

