-- ==== Sys2Proof/Machine/Links.lean ====
section
/-! DEFINITION. Probe links and Crosscut lanes: bring-up, received frames, fine edges, the grid, control messages,
loss and rejoining, patterns and counters (chapter 3, R358). -/

namespace Sys2Proof.Machine

/-! ## Control messages -/

/-- Timing channels of the seam that a link feeds, 0xFF for none (R97). -/
def State.timingOf (s : State) (n : Nat) : Nat × Nat :=
  match s.fedSeam n with
  | some k => (s.cfg (0x2400 + k) 2, s.cfg (0x2400 + k) 3)
  | none => (0xFF, 0xFF)

/-- A control message: TYPE, TAG, body (Table 3.4). -/
def controlMsg (type : Nat) (body : List Nat) : List Byte :=
  (BitVec.ofNat 8 type :: 0 :: body.map (BitVec.ofNat 8)) ++ List.replicate (62 - body.length) 0

/-- CONFIG_TIMING with the channels of the seam that the link feeds (R89, R97). -/
def State.configTiming (s : State) (n : Nat) : List Byte := controlMsg 1 [(s.timingOf n).1, (s.timingOf n).2]

/-- Type of a control message. -/
def msgType (m : List Byte) : Nat := (m.getD 0 0).toNat

/-- No reason of R97 for TRAIN frames holds at a receiver that is trained. -/
def Link.trained (m : Link) : Bool :=
  (m.state == lsDeskew || m.state == lsUp) && 5 ≤ m.partnerState && m.precodePend.isNone

/-- The transmit half sends DATA frames: after bring-up (R97); in TEST while it sends frames and no loop takes them (R111,
R113, R114). -/
def State.sendsData (s : State) (n : Nat) : Bool :=
  (s.link n).trained || ((s.link n).state == lsTest && s.cfg (0x2200 + n) 4 == 0 && s.cfg (0x2200 + n) 6 == 0)

/-- The next message of a link under the next TAG, device messages first; after bring-up the first is CONFIG_TIMING (R91,
R92, R97). -/
def Link.nextMessage (m : Link) : Link :=
  let tag := (m.msgTag + 1) % 256
  match m.deviceMsgs, m.hostMsgs with
  | a :: dev, _ => { m with msg := some (a.set 1 (BitVec.ofNat 8 tag)), msgTag := tag, msgAttempts := 1, deviceMsgs := dev }
  | [], a :: host =>
    if m.timingDone || m.state == lsTest then
      { m with msg := some (a.set 1 (BitVec.ofNat 8 tag)), msgTag := tag, msgAttempts := 1, hostMsgs := host }
    else m
  | [], [] => m

/-- With no message in progress, the next one goes into the DATA frames (R91). -/
def State.pumpControl (s : State) (n : Nat) : State :=
  if (s.link n).msg.isNone && s.sendsData n then s.onLink n Link.nextMessage else s

/-- A device message queued; a new CONFIG_TIMING replaces one that waits, and entries are ignored until it is
acknowledged (R89, R92). -/
def State.queueConfig (s : State) (n : Nat) : State :=
  let b := s.configTiming n
  (s.onLink n fun m =>
    { m with deviceMsgs := (m.deviceMsgs.filter fun x => msgType x != 1) ++ [b], timingAcked := false }).pumpControl n

/-- The CONFIG_TIMING of this bring-up is sent as the first message (R97). -/
def State.bringUpConfig (s : State) (n : Nat) : State :=
  let m := s.link n
  let waiting := (m.msg.map msgType == some 1) || m.deviceMsgs.any fun x => msgType x == 1
  if m.timingDone || waiting then s.pumpControl n
  else
    let b := s.configTiming n
    (s.onLink n fun m => { m with deviceMsgs := b :: m.deviceMsgs, timingAcked := false }).pumpControl n

/-- The message in progress ends; CONFIG_TIMING and PATTERN have their effect when it was acknowledged (R91, R97,
R111). -/
def State.endMessage (s : State) (n : Nat) (acked : Bool) : State :=
  let t := (s.link n).msg.map msgType
  let latest := (s.link n).deviceMsgs.all fun x => msgType x != 1
  (s.onLink n fun m =>
    { m with msg := none, msgAttempts := 0
             timingAcked := if t == some 1 then acked && latest else m.timingAcked
             timingDone := m.timingDone || t == some 1
             patternAcked := m.patternAcked || (acked && t == some 2) }).pumpControl n

/-- The ACK bit of a decoded frame (R91). -/
def State.takeAck (s : State) (n : Nat) (ack : Bool) : State :=
  let m := s.link n
  let s := s.onLink n fun m => { m with ackSeen := ack }
  if m.msg.isSome && ack != m.ackSeen then s.endMessage n true else s

/-- A host FE_PRIVATE message (R92). -/
def State.queueHost (s : State) (n : Nat) (data : List Byte) : Taken :=
  if msgType data < 0x80 then refuse abValueRange s
  else if 4 ≤ (s.link n).hostMsgs.length then refuse abBusy s
  else taken ((s.onLink n fun m => { m with hostMsgs := m.hostMsgs ++ [data] }).pumpControl n)

/-- The meaning of CONTROL_MESSAGE_ACK_TIMEOUT: sent again, or dropped after three attempts (R91). -/
def execControlMessageAckTimeout (n : Fin 48) (s : State) : Host.Outcome State Fault Refusal :=
  ran s (
    match (s.link n.val).msg with
    | none => s
    | some _ =>
      if (s.link n.val).msgAttempts < 3 then
        s.onLink n.val fun m => { m with msgAttempts := m.msgAttempts + 1 }
      else
        ((s.onLink n.val fun m => { m with feMsgTimeouts := inc32 m.feMsgTimeouts }).event .feMsgTimeout .probeLinks
          n.val).endMessage n.val false)

/-- Counters cleared (R115). -/
def Link.clearCounters (m : Link) : Link :=
  { m with frames := 0, preFec := 0, postFec := 0, uncorrectable := 0, fecHist := Vector.replicate 15 0, seqErrors := 0
           fineOverflows := 0, fineInvalid := 0, lockLosses := 0, trainFails := 0, prbsBits := 0, prbsErrors := 0
           prbsResync := 0, loopSlips := 0, feMsgTimeouts := 0 }

/-! ## Bring-up -/

/-- The receiver works: its enable is 1 and it has power, a probe link with the fabric, a lane from boot on with
TWIN_SEL 1 (R35, R94, R98, Tables 1.7, 14.5). -/
def State.rxOn (s : State) (l : LinkId) : Bool :=
  s.linkEnabled l &&
    match l with
    | .probe _ => s.power.fabric
    | .lane _ => s.power.phase == .running && s.power.twinSel

/-- The meaning of LINK_CLOCK_RECOVERED (Table 3.6). -/
def execLinkClockRecovered (l : LinkId) (s : State) : Host.Outcome State Fault Refusal :=
  ran s (if s.rxOn l && (s.rx l).state == lsSearch then s.onRx l fun m => { m with state := lsLevels } else s)

/-- The meaning of LINK_LEVELS_CONVERGED: FRAME is reached, and NO_PARTNER is cleared (Table 3.6, R98). -/
def execLinkLevelsConverged (l : LinkId) (s : State) : Host.Outcome State Fault Refusal :=
  ran s (
    if s.rxOn l && (s.rx l).state == lsLevels then
      s.onRx l fun m => { m.restart with state := lsFrame, noPartner := false }
    else s)

/-- The meaning of LINK_SEARCH_TIMEOUT: FRAME not reached within 100 ms (R98). -/
def execLinkSearchTimeout (l : LinkId) (s : State) : Host.Outcome State Fault Refusal :=
  ran s (
    let m := s.rx l
    if (m.state == lsSearch || m.state == lsLevels) && !m.noPartner then
      (s.onRx l fun m => { m with noPartner := true }).event .noPartner (rxUnit l) (rxInst l)
    else s)

/-- The meaning of NO_PARTNER_RETRY: clock recovery starts again (R98). -/
def execNoPartnerRetry (l : LinkId) (s : State) : Host.Outcome State Fault Refusal :=
  ran s (
    let m := s.rx l
    if m.noPartner && m.state == lsSearch then
      s.onRx l fun m => { m.restart with state := lsSearch }
    else s)

/-- A training timeout, counted, to SEARCH or FRAME (Table 3.6). -/
def State.trainFail (s : State) (l : LinkId) (from_ to_ cause : Nat) : State :=
  if (s.rx l).state == from_ then
    let s := s.onRx l fun m => { m with trainFails := inc32 m.trainFails }
    if to_ == lsSearch then s.rxSearch l cause else s.rxGo l to_ cause
  else s

/-- The meaning of LINK_LEVELS_TIMEOUT (Table 3.6). -/
def execLinkLevelsTimeout (l : LinkId) (s : State) : Host.Outcome State Fault Refusal :=
  ran s (s.trainFail l lsLevels lsSearch 0x09)

/-- The meaning of LINK_FRAME_TIMEOUT (Table 3.6). -/
def execLinkFrameTimeout (l : LinkId) (s : State) : Host.Outcome State Fault Refusal :=
  ran s (s.trainFail l lsFrame lsSearch 0x0A)

/-- The meaning of LINK_FEC_TIMEOUT (Table 3.6). -/
def execLinkFecTimeout (l : LinkId) (s : State) : Host.Outcome State Fault Refusal :=
  ran s (s.trainFail l lsFec lsFrame 0x0B)

/-- The meaning of PARTNER_RX_FAIL: one event while the link waits at DESKEW (R100). -/
def execPartnerRxFail (l : LinkId) (s : State) : Host.Outcome State Fault Refusal :=
  ran s (
    let m := s.rx l
    if m.state == lsDeskew && m.partnerState < 5 && !m.rxFailRaised then
      (s.onRx l fun m => { m with rxFailRaised := true }).event .partnerRxFail (rxUnit l) (rxInst l)
    else s)

/-! ## Losses -/

/-- The signal of a receiver is lost: SEARCH, or in TEST the loss of lock (Table 3.8, R110). -/
def State.signalLost (s : State) (l : LinkId) : State :=
  let m := s.rx l
  if m.state == lsDisabled then s
  else if m.state == lsTest then
    s.onRx l fun m => { m with testLock := false, prbsSync := false, prbsMatch := 0, prbsReg := [], lastSeq := none }
  else s.rxSearch l 0x02

/-- The meaning of SIGNAL_LOST (Table 3.8, R110). -/
def execSignalLost (l : LinkId) (s : State) : Host.Outcome State Fault Refusal := ran s (s.signalLost l)

/-- The meaning of LINK_UNCORRECTABLE_LOSS: four consecutive uncorrectable frames (Table 3.8). -/
def execLinkUncorrectableLoss (l : LinkId) (s : State) : Host.Outcome State Fault Refusal :=
  ran s (
    let m := s.rx l
    if 4 ≤ m.badRun && within lsFec lsUp m.state then s.rxGo l lsFrame 0x03 else s)

/-- The meaning of LINK_SEQUENCE_LOSS: two consecutive frames with SEQ errors (Table 3.8). -/
def execLinkSequenceLoss (l : LinkId) (s : State) : Host.Outcome State Fault Refusal :=
  ran s (
    let m := s.rx l
    if 2 ≤ m.seqRun && within lsFec lsUp m.state then s.rxGo l lsFrame 0x04 else s)

/-- The meaning of LINK_DRIFT: arrival off the grid for four frames, on probe links only (R105, R358). -/
def execLinkDrift (l : LinkId) (s : State) : Host.Outcome State Fault Refusal :=
  ran s (
    match l with
    | .probe _ => if 4 ≤ (s.rx l).driftRun && (s.rx l).state == lsUp then s.rxGo l lsDeskew 0x05 else s
    | .lane _ => s)

/-! ## Counting frames -/

/-- A decoded frame counted: symbols corrected (R115). -/
def Link.countDecoded (m : Link) (n : Nat) : Link :=
  { m with frames := inc64 m.frames, preFec := add64 m.preFec n, fecHist := vmod m.fecHist n inc32 }

/-- An uncorrectable frame counted (R115). -/
def Link.countBad (m : Link) : Link :=
  { m with postFec := add64 m.postFec 314, uncorrectable := inc32 m.uncorrectable, fecHist := vmod m.fecHist 14 inc32
           badRun := m.badRun + 1, cleanRun := 0, lastSeq := m.lastSeq.map fun q => (q + 1) % 256, lastWord := none
           pendSeen := m.pendSeen.map (· + 1) }

/-! ## The grid and the samples -/

/-- Distance of an arrival from the grid, for frames numbered modulo 256 (R103, R105). -/
def gridOff (arrival seq g : Nat) : Int :=
  let m : Int := 192 * 256
  let d := ((arrival : Int) - 192 * seq - g) % m
  if 2 * d < m then d else d - m

/-- A frame's arrival taken into the grid that is being fixed (R103). -/
def Link.takeGrid (m : Link) (arrival seq : Nat) : Link :=
  let g0 := (((arrival : Int) - 192 * seq) % (192 * 256)).toNat
  match m.grid with
  | none => { m with grid := some (g0, 1), arrivalPhase := g0 % 192 }
  | some (g, k) =>
    if (gridOff arrival seq g).natAbs ≤ 2 then { m with grid := some (g, k + 1), arrivalPhase := g % 192 }
    else { m with grid := some (g0, 1), arrivalPhase := g0 % 192 }

/-- LINK_LATENCY in samples is within INGEST_DELAY (R104). -/
def State.latencyOk (s : State) (n : Nat) : Bool := s.cfg (0x2200 + n) 2 / 64 ≤ s.cfg 0x2100 0x16

/-- Data SIDX of sample 0 of a frame (R103). -/
def State.frameBase (s : State) (n arrival seq : Nat) : Nat :=
  let off := match (s.link n).grid with
    | some (g, _) => gridOff arrival seq g
    | none => 0
  (((arrival : Int) - off) - (s.cfg (0x2200 + n) 2 / 64 : Nat)).toNat

/-- The probe receive datapath has power: not in Drain, where the SerDes alone has it (Tables 1.1, 14.5; log 58). -/
def State.dataFlows (s : State) : Bool := s.mode != 6

/-- Samples of a frame onto the seam that the link feeds; the first frame decoded in UP is noted (R103, R107). -/
def State.pushSamples (s : State) (n base : Nat) (decoded : Bool) (xs : List Samp) : State :=
  match s.dataFlows, s.fedSeam n with
  | false, _ => s
  | true, some k => s.onSeam k fun m =>
      { m with buf := m.buf ++ xs, firstUp := if decoded then m.firstUp.or (some base) else m.firstUp }
  | true, none => s

/-- The samples of a frame that carries none, with the cause of its GAP (R108). -/
def gapSamples (base cause : Nat) : List Samp :=
  (List.range 192).map fun k => { sidx := base + k, word := none, cause, frameId := base }

/-- Offsets at which a channel changes, against the sample before the frame when it is valid (R87, R123). -/
def changesOf (before : Option SeamWord) (xs : List SeamWord) (ch : Nat) : List Nat :=
  if ch < 16 then
    (List.range xs.length).filter fun k =>
      match (if k = 0 then before else xs[k - 1]?), xs[k]? with
      | some a, some b => a.getLsbD ch != b.getLsbD ch
      | _, _ => false
  else []

/-- The edges that a frame with four entries reports, in their order: offset and whether on TIMING_CH_B (R87). -/
def chosenEdges (a b : List Nat) : List (Nat × Bool) :=
  let na := min a.length (4 - min 2 b.length)
  let nb := min b.length (4 - min 2 a.length)
  let l := ((a.take na).map fun k => (k, false)) ++ ((b.take nb).map fun k => (k, true))
  sortBy (fun x y => x.1 < y.1 || (x.1 == y.1 && (!x.2 || y.2))) l

/-- Entries paired with the chosen edges: an entry whose OFFSET is that of its edge gives it its fine code (R88). -/
def pairEdges : List (Nat × Bool) → List (Nat × Nat) → List (Nat × Bool × Nat)
  | e :: es, x :: xs => if e.1 = x.1 then (e.1, e.2, x.2) :: pairEdges es xs else pairEdges es xs
  | _, _ => []

/-- Samples, coarse edges and discarded entries of a DATA frame (R84 to R89). -/
def dataSamples (base : Nat) (before : Option SeamWord) (chA chB : Nat) (usable : Bool) (f : Frame) :
    List Samp × Nat × Nat :=
  let xs := samplesOf f.payload
  let a := changesOf before xs chA
  let b := changesOf before xs chB
  let entries := if usable then edgesOf f.word else []
  let fine := pairEdges (chosenEdges a b) entries
  let find (k : Nat) (isB : Bool) : Option Nat := (fine.find? fun e => e.1 == k && e.2.1 == isB).map fun e => e.2.2
  let samp := xs.mapIdx fun k w =>
    let fineA := find k false
    let fineB := find k true
    ({ sidx := base + k, word := some w, frameId := base, fineA, fineB
       coarse := (a.contains k && fineA.isNone) || (b.contains k && fineB.isNone) } : Samp)
  (samp, a.length + b.length - fine.length, entries.length - fine.length)

/-- The samples of a frame decoded in UP (R84, R86 to R89, R108). -/
def State.takeSamples (s : State) (n arrival : Nat) (contiguous : Bool) (f : Frame) : State :=
  let base := s.frameBase n arrival f.seq
  if f.kind = 0 then
    let (chA, chB) := s.timingOf n
    let before := if contiguous then (s.link n).lastWord else none
    let (xs, coarse, bad) := dataSamples base before chA chB (s.link n).timingAcked f
    (s.onLink n fun m =>
      { m with lastWord := (samplesOf f.payload).getLast?, fineOverflows := add32 m.fineOverflows coarse
               fineInvalid := add32 m.fineInvalid bad }).pushSamples n base true xs
  else (s.onLink n fun m => { m with lastWord := none }).pushSamples n base true (gapSamples base 3)

/-! ## Training words -/

/-- A training word whose MARKER is 0xA5 (Table 3.7): partner's state, precoding and port; a lane keeps only its own
index (R96, R358). -/
def Link.takeTraining (m : Link) (word : Nat) : Link :=
  if word / 2 ^ 48 = 0xA5 then
    { m with partnerState := word / 2 ^ 45 % 8, partnerWants := word.testBit 44, portId := word / 2 ^ 32 % 256
             pendSeen := if word.testBit 43 then some (m.pendSeen.getD 0 + 1) else none }
  else m

/-- A request for precoding is honoured while the link trains at FEC or DESKEW (R99). -/
def Link.honourPrecode (m : Link) : Link :=
  if m.partnerWants && !m.precodeTx && m.precodePend.isNone && (m.state == lsFec || m.state == lsDeskew) then
    { m with precodePend := some 0 }
  else m

/-- Frames that a transmitter sends with PRECODE_PEND at least (R99). -/
def pendFrames : Nat := 16

/-- The partner begins to precode with this frame: PRECODE_PEND was set for 16 frames and the frame's SEQ is 0 (R99). -/
def Link.precodeStarts (m : Link) : Bool :=
  !m.precodeRx && m.lastSeq == some 255 && (match m.pendSeen with
    | some k => pendFrames ≤ k
    | none => false)

/-! ## A received frame -/

/-- DESKEW leads to UP: the grid fixed over 16 frames, the partner at DESKEW or UP, CONFIG_TIMING acknowledged or
dropped, latency in range; a lane needs the first two (Table 3.6, R97, R104, R358). -/
def State.tryUp (s : State) (l : LinkId) : State :=
  let m := s.rx l
  let fixed := match m.grid with
    | some (_, k) => 16 ≤ k
    | none => false
  if m.state == lsDeskew && fixed && 5 ≤ m.partnerState && m.precodePend.isNone then
    match l with
    | .probe n =>
      if !s.latencyOk n.val then s.onRx l fun m => { m with cause := 0x07 }
      else if m.timingDone then
        (s.onRx l fun m => { m with state := lsUp }).event .linkUp .probeLinks n.val
      else s
    | .lane k => (s.onRx l fun m => { m with state := lsUp }).event .linkUp .crosscut k.val
  else s

/-- An uncorrectable frame (R81, R108, R115); in FRAME the hunt resumes, and the frame counts where an alignment had been
found (R95). -/
def State.badFrame (s : State) (l : LinkId) (arrival : Nat) : State :=
  let m := s.rx l
  if m.state == lsFrame then
    s.onRx l fun m => { (if m.lastSeq.isSome then m.countBad else m) with lastSeq := none }
  else
    let s := s.onRx l Link.countBad
    match l with
    | .probe n =>
      if m.state == lsUp then
        let seq := (m.lastSeq.map fun q => (q + 1) % 256).getD 0
        let base := s.frameBase n.val arrival seq
        s.pushSamples n.val base false (gapSamples base 2)
      else s
    | .lane _ => s

/-- FE_STATUS of a frame (Table 3.12). -/
def Frame.status (f : Frame) : Byte := BitVec.ofNat 8 (4 * f.kind + 2 * bit f.fault + bit f.ack)

/-- A frame of another lane on this lane (R358). -/
def miswired (l : LinkId) (f : Frame) : Bool :=
  match l with
  | .probe _ => false
  | .lane k => f.kind == 1 && f.word / 2 ^ 48 == 0xA5 && f.word / 2 ^ 32 % 256 != k.val

/-- A decoded frame counts a SEQ error when its SEQ is not one above the one before (R109). -/
def Link.countSeq (m : Link) (seq : Nat) : Link :=
  if m.lastSeq.isSome && m.lastSeq != some ((seq + 255) % 256) then { m with seqErrors := inc32 m.seqErrors } else m

/-- FRAME: two consecutive frames at one alignment with SEQ in order fix the polarity and lead to FEC; another alignment or
SEQ resumes the hunt with this frame (R94, R95, R358). FE_STATUS shows every decoded frame (Table 3.12). -/
def State.frameInFrame (s : State) (l : LinkId) (inverted : Bool) (ui : Nat) (f : Frame) : State :=
  let word (m : Link) : Link := if f.kind = 1 then m.takeTraining f.word else m
  if miswired l f then
    s.onRx l fun m => { m with lastSeq := none, miswired := inc32 m.miswired, feStatus := f.status }
  else if (s.rx l).alignment == ui && (s.rx l).lastSeq == some ((f.seq + 255) % 256) then
    s.onRx l fun m => { word m with state := lsFec, rxInverted := inverted, cleanRun := 0, badRun := 0, seqRun := 0
                                    lastSeq := some f.seq, feStatus := f.status }
  else
    s.onRx l fun m =>
      { word (if m.alignment == ui then m.countSeq f.seq else m) with
        rxInverted := inverted, alignment := ui, lastSeq := some f.seq, feStatus := f.status }

/-- Status bits and messages of a decoded frame on a probe link (R91, R93). -/
def State.takeStatus (s : State) (l : LinkId) (f : Frame) : State :=
  match l with
  | .probe n =>
    let m := s.link n.val
    let rises := f.kind == 0 && f.fault && !m.feFault
    let s := s.onLink n.val fun m => { m with feStatus := f.status, feFault := if f.kind == 0 then f.fault else m.feFault }
    let s := if rises then s.event .feFault .probeLinks n.val else s
    s.takeAck n.val f.ack
  | .lane _ => s.onRx l fun m => { m with feStatus := f.status }

/-- A decoded frame at FEC, DESKEW or UP (Table 3.6, R97, R99, R103 to R109). -/
def State.frameTrained (s : State) (l : LinkId) (arrival : Nat) (f : Frame) : State :=
  let m0 := s.rx l
  let inOrder := m0.lastSeq == some ((f.seq + 255) % 256)
  let known := m0.lastSeq.isSome
  let s := s.onRx l fun m =>
    { m.countSeq f.seq with
             lastSeq := some f.seq, badRun := 0
             seqRun := if known && !inOrder then m.seqRun + 1 else 0, cleanRun := if inOrder then m.cleanRun + 1 else 0 }
  let s := if f.kind = 1 then s.onRx l fun m => (m.takeTraining f.word).honourPrecode
    else s.onRx l fun m => { m with partnerState := max 5 m.partnerState, pendSeen := none }
  let s := s.takeStatus l f
  if m0.state == lsFec then
    if (s.rx l).cleanRun ≥ 4 then
      let s := s.onRx l fun m => ({ m with state := lsDeskew } : Link).honourPrecode
      match l with
      | .probe n => s.bringUpConfig n.val
      | .lane _ => s
    else s
  else if m0.state == lsDeskew then
    let s := s.onRx l fun m => m.takeGrid arrival f.seq
    let s := match l with
      | .probe n => s.bringUpConfig n.val
      | .lane _ => s
    s.tryUp l
  else if f.kind = 1 then s.rxGo l lsDeskew 0x06
  else
    match l with
    | .probe n =>
      let off := match m0.grid with
        | some (g, _) => (gridOff arrival f.seq g).natAbs
        | none => 0
      let s := s.takeSamples n.val arrival inOrder f
      s.onLink n.val fun m => { m with driftRun := if 2 < off then m.driftRun + 1 else 0 }
    | .lane _ => s

/-- Frames in the elastic buffer of FAR_END at most (R114). -/
def loopFrames : Nat := 4

/-- A received frame enters the elastic buffer; on overflow it is dropped (R114). -/
def Link.loopIn (m : Link) (symbols : List (Fin 4)) : Link :=
  if m.loopBuf.length < loopFrames then { m with loopBuf := m.loopBuf ++ [symbols] }
  else { m with loopSlips := inc32 m.loopSlips }

/-- Framing in TEST: gained by two frames in order at one alignment, given up after four uncorrectable frames or two SEQ
errors in a row, as Table 3.8 has it (R113, R114; log 57). -/
def Link.framedBy (m : Link) (ui : Nat) (d : Option Frame) : Link :=
  match d with
  | some f =>
    let inOrder := m.alignment == ui && m.lastSeq == some ((f.seq + 255) % 256)
    let run := if m.framed && !inOrder then m.seqRun + 1 else 0
    { m.countSeq f.seq with lastSeq := some f.seq, alignment := if m.framed then m.alignment else ui, badRun := 0, seqRun := run
                            framed := if m.framed then run < 2 else inOrder }
  | none => if m.framed then { m.countBad with framed := m.badRun < 3 } else { m with lastSeq := none }

/-- A frame in TEST: counters, framing, the elastic buffer of the far-end loop, TEST_LOCK, the message handshake (R110 to
R115). -/
def State.frameInTest (s : State) (n : Fin 48) (x : RxFrame) (d : Option (Nat × Frame)) : State :=
  let checking := s.cfg (0x2200 + n.val) 5 != 0
  let far := s.cfg (0x2200 + n.val) 6 == 3
  let held := polarity (s.link n.val).rxInverted x.levels
  let s := s.onLink n.val fun m =>
    let m := match d with
      | some (e, _) => m.countDecoded e
      | none => m
    let m := m.framedBy x.ui (d.map Prod.snd)
    let m := if far && m.framed then m.loopIn (held.map (Fin.ofNat 4)) else m
    { m with testLock := if checking then m.prbsSync else m.framed }
  match d with
  | some (_, f) => (s.takeStatus (.probe n) f).pumpControl n.val
  | none => s

/-- Polarities and precodings in which a frame is tried in FRAME: precoding is kept until SEARCH, and a receiver that has
asked for it tries both (R79, R80, R95, R99; log 57). -/
def Link.hunts (m : Link) : List (Bool × Bool) :=
  let pre := if m.precodeRx then [true] else if m.precodeWant then [false, true] else [false]
  pre.flatMap fun p => [(false, p), (true, p)]

/-- A frame decoded in a polarity and a precoding. -/
def Link.tryDecode (m : Link) (x : RxFrame) (inverted precoded : Bool) : Option (Nat × Frame) :=
  decodeFrame x.levels inverted precoded ((polarity inverted [m.rxPrev]).headD 0)

/-- The last symbol of a frame, kept for 1 + D decoding (R80). -/
def Link.keepLast (m : Link) (x : RxFrame) : Link := { m with rxPrev := x.levels.getLastD 0 }

/-- A frame in FRAME: the hunt (R95). -/
def State.huntFrame (s : State) (l : LinkId) (x : RxFrame) : State :=
  let m := s.rx l
  match m.hunts.findSome? fun h => (m.tryDecode x h.1 h.2).map fun d => (h, d) with
  | some ((inverted, pre), e, f) =>
    (s.onRx l fun m => { m.countDecoded e with precodeRx := pre }).frameInFrame l inverted x.ui f
  | none => s.badFrame l x.arrival

/-- A frame at FEC, DESKEW or UP, in the polarity and precoding in force and at the alignment found (R79, R80, R95, R99). -/
def State.lockedFrame (s : State) (l : LinkId) (x : RxFrame) : State :=
  let m := s.rx l
  let starts := m.precodeStarts
  let s := s.onRx l fun m => { m with precodeRx := m.precodeRx || starts }
  let d := if m.alignment != x.ui then none
    else if starts then decodeFrame x.levels m.rxInverted true 0
    else m.tryDecode x m.rxInverted m.precodeRx
  match d with
  | some (e, f) => (s.onRx l fun m => m.countDecoded e).frameTrained l x.arrival f
  | none => s.badFrame l x.arrival

/-- A frame in TEST, in either polarity, without precoding (R79, R110; log 57). -/
def State.testFrame (s : State) (n : Fin 48) (x : RxFrame) : State :=
  let m := s.link n.val
  match decodeFrame x.levels m.rxInverted false 0 with
  | some d => s.frameInTest n x (some d)
  | none =>
    match decodeFrame x.levels (!m.rxInverted) false 0 with
    | some d => (s.onLink n.val fun m => { m with rxInverted := !m.rxInverted }).frameInTest n x (some d)
    | none => s.frameInTest n x none

/-- The receive balls of a link are in use: no near-end loop of TEST (Table 3.10). -/
def State.ballsUsed (s : State) (n : Nat) : Bool :=
  !((s.link n).state == lsTest && within 1 2 (s.cfg (0x2200 + n) 6))

/-- A frame on the receive half (R79 to R103). -/
def State.receiveFrame (s : State) (l : LinkId) (x : RxFrame) : State :=
  let st := (s.rx l).state
  let s := if st == lsFrame then s.huntFrame l x
    else if within lsFec lsUp st then s.lockedFrame l x
    else
      match l with
      | .probe n => if st == lsTest && s.ballsUsed n.val then s.testFrame n x else s
      | .lane _ => s
  s.onRx l fun m => m.keepLast x

/-- The meaning of PROBE_FRAME_RECEIVE (R77 to R103). -/
def execProbeFrameReceive (l : LinkId) (f : RxFrame) (s : State) : Host.Outcome State Fault Refusal :=
  if f.ok then ran s (if s.rxOn l then s.receiveFrame l f else s) else .fault .illFormed

/-! ## Pattern checker -/

/-- The bit that the pattern predicts from the bits before it, newest first (R111). -/
def prbsNext (pattern : Nat) (r : List Bool) : Bool :=
  if pattern = 2 then r.getD 30 false ^^ r.getD 27 false
  else ((r.getD 12 false ^^ r.getD 11 false) ^^ (r.getD 1 false ^^ r.getD 0 false))

/-- Bits that the pattern's register holds. -/
def prbsLen (pattern : Nat) : Nat := if pattern = 2 then 31 else 13

/-- One received bit of the pattern (R112). -/
def Link.prbsBit (m : Link) (pattern : Nat) (b : Bool) : Link :=
  let p := prbsNext pattern m.prbsReg
  let full := m.prbsReg.length == prbsLen pattern
  if m.prbsSync then
    let win := ((b != p) :: m.prbsWindow).take 256
    let m := { m with prbsReg := (p :: m.prbsReg).take (prbsLen pattern), prbsWindow := win
                      prbsBits := inc64 m.prbsBits, prbsErrors := if b != p then inc64 m.prbsErrors else m.prbsErrors }
    if 64 ≤ win.count true then
      { m with prbsSync := false, testLock := false, prbsMatch := 0, prbsReg := [], prbsWindow := []
               prbsBits := m.prbsBits - win.length, prbsErrors := m.prbsErrors - win.count true
               prbsResync := inc32 m.prbsResync }
    else m
  else
    let run := if full && b == p then m.prbsMatch + 1 else 0
    let m := { m with prbsReg := (b :: m.prbsReg).take (prbsLen pattern), prbsMatch := run }
    if 64 ≤ run then { m with prbsSync := true, testLock := true, prbsMatch := 0, prbsWindow := [] } else m

/-- The checker runs: RX_CHECK is on and PATTERN acknowledged, or no DATA frames go out to carry it (R111; log 57). -/
def State.checkerOn (s : State) (n : Nat) : Bool :=
  (s.link n).state == lsTest && s.cfg (0x2200 + n) 5 != 0 && ((s.link n).patternAcked || !s.sendsData n)

/-- Received bits through the checker (R112). -/
def State.checkBits (s : State) (n : Nat) (bits : List Bool) : State :=
  if s.checkerOn n then s.onLink n fun m => bits.foldl (fun m b => m.prbsBit (s.cfg (0x2200 + n) 5) b) m else s

/-- The meaning of PRBS_CHECK: in a near-end loop the receive balls are ignored (R111, R112, Table 3.10). -/
def execPrbsCheck (n : Fin 48) (bits : List Bool) (s : State) : Host.Outcome State Fault Refusal :=
  ran s (if s.ballsUsed n.val then s.checkBits n.val bits else s)

end Sys2Proof.Machine
end

