-- ==== Sys2Proof/Machine/Capture.lean ====
section
/-! DEFINITION. The capture encoders: the ingot header (R128, R132), encodings (R122 to R125), cuts and FRAME mode
(R120, R121, R126), GAPs (R137, R138), close keys and numbers (R142, R143), joining (R107). -/

namespace Sys2Proof.Machine

/-! ## The header -/

/-- Header bytes 0x00 to 0x3B with given FLAGS (Table 4.2). -/
def Ingot.headBytes (i : Ingot) (flags : Byte) : List Byte :=
  leBytes 1 (i.type + 16) ++ [flags] ++ leBytes 1 i.stream ++ leBytes 1 i.source ++ leBytes 4 i.payload.length ++
  leBytes 8 i.seq ++ leBytes 8 i.sidx ++ leBytes 8 i.rastpos ++ leBytes 12 i.time96 ++ leBytes 4 i.span ++
  leBytes 2 i.epoch ++ leBytes 2 i.aux ++ leBytes 4 (crc32 i.payload).toNat ++ leBytes 4 i.stored.length

/-- The header as it leaves the device (R132). -/
def Ingot.header (i : Ingot) : List Byte :=
  let h := i.headBytes i.flags
  h ++ leBytes 2 (crc16 h).toNat ++ leBytes 2 0

/-- The image: header, stored payload, tag, padding (R133). -/
def Ingot.image (i : Ingot) : List Byte :=
  let b := i.header ++ i.stored ++ i.tag
  b ++ List.replicate (pad16 b.length - b.length) 0

/-- DOOR_CRC of an HDR record: FLAGS bits [7:5] zero (Table 12.3). -/
def Ingot.doorCrc (i : Ingot) : BitVec 16 := crc16 (i.headBytes (i.flags &&& 0x1F))

/-- FLAGS bits of Table 4.4. -/
def flCompressed : Byte := 0x01
def flEncrypted : Byte := 0x02
def flHoldover : Byte := 0x04
def flFineOverflow : Byte := 0x08
def flSplitEpoch : Byte := 0x10
def flSuspended : Byte := 0x20
def flLate : Byte := 0x40
def flTwinCopy : Byte := 0x80

/-- A flag when a condition holds. -/
def flagIf (b : Bool) (f : Byte) : Byte := if b then f else 0

/-- Largest payload, 64 MiB (R127, R233). -/
def maxPayload : Nat := 67108864

/-! ## Encodings -/

/-- LEB128 of at most `fuel` bytes, shortest form (R123). -/
def leb128 : Nat → Nat → List Byte
  | 0, _ => []
  | fuel + 1, v => if v < 128 then [BitVec.ofNat 8 v] else BitVec.ofNat 8 (v % 128 + 128) :: leb128 fuel (v / 128)

/-- A SAMPLE payload (R122). -/
def samplePayload (xs : List Samp) : List Byte := xs.flatMap fun x => leBytes 2 (x.word.getD 0).toNat

/-- One entry of a TRANSITION payload, d samples after the one before (R123). -/
def transEntry (d : Nat) (x : Samp) : List Byte :=
  leBytes 2 (x.word.getD 0).toNat ++ leb128 5 (4 * d + 2 * bit x.fineB.isSome + bit x.fineA.isSome) ++
  (match x.fineA with
   | some f => leBytes 1 (f % 64)
   | none => []) ++
  (match x.fineB with
   | some f => leBytes 1 (f % 64)
   | none => [])

/-- The entries after the first: every sample whose state differs from the one before, `d` samples after the last
entry (R123). -/
def transRest : Option SeamWord → Nat → List Samp → List Byte
  | _, _, [] => []
  | prev, d, x :: l => if x.word = prev then transRest prev (d + 1) l else transEntry d x ++ transRest x.word 1 l

/-- A TRANSITION payload (R123). -/
def transPayload : List Samp → List Byte
  | [] => []
  | x :: l => transEntry 0 x ++ transRest x.word 1 l

/-- A sample without a counted change, as the first one after invalid data (R123). -/
def Samp.still (x : Samp) : Samp := { x with fineA := none, fineB := none, coarse := false }

/-- A sample on which a timing channel changes. -/
def Samp.timed (x : Samp) : Bool := x.fineA.isSome || x.fineB.isSome || x.coarse

/-- An encoded run: type, payload, FINE_OVERFLOW (R122 to R125). `format` is the stream's FORMAT; `frame` keeps
TRANSITION (R126). -/
def encodeRun (xs : List Samp) (format : Nat) (frame : Bool) : Nat × List Byte × Bool :=
  let tp := transPayload xs
  if frame || (format == 0 && tp.length < 2 * xs.length) then (2, tp, xs.any Samp.coarse)
  else (1, samplePayload xs, xs.any Samp.timed)

/-! ## Samples of a seam -/

/-- The sample of a seam that data time `x` finds valid or not (R107, R108). -/
def Seam.sampleAt (m : Seam) (x : Nat) : Option Samp :=
  let alive := m.joined && (match m.lostAt with
    | some a => x < a
    | none => true)
  if alive then m.buf.find? fun b => b.sidx == x else none

/-- State of the seam's channels on a sample, none when it has no valid data (R108). -/
def Seam.wordAt (m : Seam) (x : Nat) : Option SeamWord := (m.sampleAt x).bind Samp.word

/-- GAP cause of a sample, 0 when it has valid data (R108). -/
def Seam.statusAt (m : Seam) (x : Nat) : Nat :=
  match m.sampleAt x with
  | some b => if b.word.isSome then 0 else b.cause
  | none => 1

/-- The samples with valid data from `a` up to `b`, up to the first without, the first freed of its change when the
sample before has no valid data (R123). -/
def Seam.run (m : Seam) (a b : Nat) : List Samp :=
  let xs := (m.buf.filter fun x => a ≤ x.sidx && x.sidx < b).takeWhile fun x => x.word.isSome
  match xs with
  | [] => []
  | x :: l => if (m.wordAt (a - 1)).isSome && a != 0 then x :: l else x.still :: l

/-! ## Making ingots -/

/-- The stream whose FORMAT, span grid and number a copy of a seam uses. -/
def State.streamNo (s : State) (k : Nat) : Nat := s.cfg (0x2400 + k) 4

/-- What sealing a copy needs: FLAGS bits, key (Table 7.1, R235). -/
def State.sealFlags (s : State) (k : Nat) (copy : Copy) : Byte × Nat :=
  match copy with
  | .stream =>
    let q := s.streamNo k
    (flagIf (s.cfgOn (0x2A40 + q) 1) flCompressed ||| flagIf (s.cfgOn (0x2A40 + q) 2) flEncrypted, s.cfg (0x2A40 + q) 3)
  | .window =>
    (flagIf (s.cfgOn 0x2A00 1 && s.mode == 3) flCompressed ||| flagIf (s.cfgOn 0x2A00 2) flEncrypted, s.cfg 0x2A00 3)

/-- The open ingot of a copy. -/
def Seam.openOf (m : Seam) : Copy → Option Coord
  | .stream => m.openStream
  | .window => m.openWindow

/-- The next ingot of a copy opens, or none. -/
def Seam.setOpen (m : Seam) (copy : Copy) (c : Option Coord) : Seam :=
  match copy with
  | .stream => { m with openStream := c }
  | .window => { m with openWindow := c }

/-- Whether the next compressed ingot of a copy starts from counts of 1 (R230). -/
def Seam.freshOf (m : Seam) : Copy → Bool
  | .stream => m.freshStream
  | .window => m.freshWindow

/-- The same, set. -/
def Seam.setFresh (m : Seam) (copy : Copy) (b : Bool) : Seam :=
  match copy with
  | .stream => { m with freshStream := b }
  | .window => { m with freshWindow := b }

/-- First sample of the latest ingot of the window copy kept (R230). -/
def Seam.noteFrom (m : Seam) (copy : Copy) (a : Nat) : Seam :=
  match copy with
  | .stream => m
  | .window => { m with windowFrom := some a }

/-- A gated stream with no storage on the span makes no ingot (R181). -/
def State.gatedOut (s : State) (k : Nat) (copy : Copy) (a b : Nat) : Bool :=
  copy == .stream && (s.cfg 0x2600 2).testBit (s.streamNo k) && !s.shaft.storeMark.within a b

/-- A copy that counts in the seam's counters: the stream copy, or the window copy of a seam without one (log 18). -/
def State.counts (s : State) (k : Nat) (copy : Copy) : Bool := copy == .stream || (s.seam k).openStream.isNone

/-- LINK_CAUSE of a LINK_LOST GAP (Table 4.8). -/
def State.gapLinkCause (s : State) (k : Nat) : Nat :=
  match s.sourceOf k with
  | none => 0
  | some n => if h : n < 48 then (if s.linkEnabled (.probe ⟨n, h⟩) then (s.seam k).lostCause else 1) else 0

/-- GAP payload (Table 4.8). -/
def gapPayload (origType : Nat) (origFlags : Byte) (linkCause origBytes frames : Nat) : List Byte :=
  leBytes 1 origType ++ [origFlags] ++ leBytes 1 linkCause ++ [0] ++ leBytes 4 origBytes ++ leBytes 4 frames ++
  leBytes 4 0

/-- A GAP in the place of an ingot (R138): cause, and ORIG_BYTES. -/
def Ingot.gapOf (i : Ingot) (cause origBytes : Nat) : Ingot :=
  let p := gapPayload i.type (i.flags &&& 0x0F) 0 origBytes 0
  { i with type := 4, flags := i.flags &&& 0xF4, aux := cause, payload := p, stored := p, tag := [], isSealed := true }

/-- A copy's ingot over a run of one kind, from `a` to the latest sample or before, into the list of the close sample
(R119, R121, R138). -/
def State.emitRun (s : State) (k : Nat) (copy : Copy) (a : Coord) (b : Nat) (frame : Bool) : State :=
  let m := s.seam k
  if b ≤ a.sidx then s
  else if s.gatedOut k copy a.sidx b then s
  else
    let q := s.streamNo k
    let hold := flagIf (s.sv.holdMark.within a.sidx b) flHoldover
    let dll := s.sv.dllMark.within a.sidx b
    let base : Ingot :=
      { type := 4, flags := hold ||| flagIf dll flFineOverflow, stream := q, source := k, sidx := a.sidx, rastpos := a.rastpos
        time96 := a.time96, span := b - a.sidx, epoch := s.epochNo, aux := 0, payload := [], stored := [], close := b, rank := 1
        isSealed := true
        segment := (match copy with
          | .stream => none
          | .window => s.shaft.filling.map Fin.val) }
    let cause := m.statusAt a.sidx
    if cause = 0 then
      let xs := m.run a.sidx b
      let (ty, payload, coarse) := encodeRun xs (s.cfg (0x2840 + q) 2) frame
      let (sf, key) := s.sealFlags k copy
      let i := { base with type := ty, payload, stored := payload, span := xs.length, flags := hold ||| flagIf (coarse || dll) flFineOverflow ||| sf
                           aux := (match s.sourceOf k with
                             | some n => s.cfg (0x2200 + n) 2 % 64
                             | none => 0)
                           isSealed := sf == 0, fresh := m.freshOf copy, keyId := key, use := s.smelter.use }
      let s := s.onSeam k fun m => (m.setFresh copy false).noteFrom copy a.sidx
      let s := if s.counts k copy then s.onSeam k fun m =>
          if ty == 1 then { m with ingotsSample := inc64 m.ingotsSample }
          else { m with ingotsTransition := inc64 m.ingotsTransition } else s
      { s with closing := s.closing ++ [i] }
    else
      let frames := if cause == 1 then 0 else
        (((m.buf.filter fun x => a.sidx ≤ x.sidx && x.sidx < b).map Samp.frameId).dedup).length
      let payload := gapPayload 0 0 (if cause == 1 then s.gapLinkCause k else 0) 0 frames
      let i := { base with aux := cause, payload, stored := payload }
      let s := s.onSeam k fun m => (m.setFresh copy true).noteFrom copy a.sidx
      let s := if s.counts k copy then s.onSeam k fun m => { m with gapSmp := add64 m.gapSmp (b - a.sidx) } else s
      { s with closing := s.closing ++ [i] }

/-- The next ingot of a copy opens on the latest sample; a frame start since the last opening resets the counts of
its compression (R230). -/
def State.openNext (s : State) (k : Nat) (copy : Copy) : State :=
  let since := match (s.seam k).openOf copy, s.sv.lastFrameStart with
    | some a, some f => a.sidx < f
    | none, _ => true
    | _, none => false
  s.onSeam k fun m => (m.setFresh copy (m.freshOf copy || since)).setOpen copy (some s.here)

/-- The window copy of a seam opens with its segment on the latest sample; a frame start since its latest ingot began resets
the counts of its compression (R230). -/
def State.openWindow (s : State) (k : Nat) : State :=
  let since := match (s.seam k).windowFrom, s.sv.lastFrameStart with
    | some a, some f => a < f
    | none, _ => true
    | _, none => false
  s.onSeam k fun m => (m.setFresh .window (m.freshWindow || since)).setOpen .window (some s.here)

/-- The test of R126 on a FRAME ingot from `a` to the latest sample. -/
def State.frameFits (s : State) (k a : Nat) : Bool :=
  let n := (transPayload ((s.seam k).run a s.sv.sidx)).length
  n ≤ 2 * (s.sv.sidx - a) && n ≤ maxPayload

/-- FRAME mode at a line end, `last` at the end of the ingot too: a frame start, an epoch, a boundary of validity
(R126). -/
def State.cutFrame (s : State) (k : Nat) (a : Coord) (last : Bool) : State :=
  let x := s.sv.sidx
  let m := s.seam k
  let newFrame := s.sv.frameStart
  let s := if m.statusAt a.sidx != 0 then
      (if last then (s.emitRun k .stream a x false).openNext k .stream else s)
    else if m.frameFell then (s.emitRun k .stream a x false).openNext k .stream
    else if s.frameFits k a.sidx then
      (if last then ((s.emitRun k .stream a x true).openNext k .stream).onSeam k fun m => { m with frameLast := none }
       else s.onSeam k fun m => { m with frameLast := some s.here })
    else
      let s := s.onSeam k fun m => { m with frameCuts := inc32 m.frameCuts, frameLast := none, frameFell := true }
      let s := match m.frameLast with
        | some p => (s.emitRun k .stream a p.sidx true).emitRun k .stream p x false
        | none => s.emitRun k .stream a x false
      s.openNext k .stream
  if newFrame then s.onSeam k fun m => { m with frameFell := false } else s

/-- A copy cut on the latest sample whatever the grid: epochs, joins, closes (R121, R183). -/
def State.cutCopy (s : State) (k : Nat) (copy : Copy) : State :=
  match (s.seam k).openOf copy with
  | none => s
  | some a =>
    if s.sv.sidx ≤ a.sidx then s
    else if copy == .stream && s.cfg (0x2840 + s.streamNo k) 1 == 4 then s.cutFrame k a true
    else (s.emitRun k copy a s.sv.sidx false).openNext k copy

/-- The latest sample is a point of a span grid (Table 4.1). -/
def State.gridPoint (s : State) (grid : Nat) : Bool :=
  if grid = 0 then s.sv.lineStart
  else if grid = 1 then s.sv.sidx % 4096 == 0
  else if grid = 2 then s.sv.sidx % 16384 == 0
  else if grid = 3 then s.sv.sidx % 65536 == 0
  else s.sv.frameStart

/-- Valid data begins, ends, or is lacking for another cause on the latest sample (R121, R138). -/
def State.validityCut (s : State) (k : Nat) : Bool :=
  s.sv.sidx != 0 && (s.seam k).statusAt s.sv.sidx != (s.seam k).statusAt (s.sv.sidx - 1)

/-- Span grid of a copy (R120, R183). -/
def State.gridOf (s : State) (k : Nat) (copy : Copy) : Nat :=
  match copy with
  | .stream => s.cfg (0x2840 + s.streamNo k) 1
  | .window => s.cfg 0x2600 4

/-- An ingot is cut at a grid point or a boundary of validity (R121, R126). -/
def State.ingotClose (s : State) (k : Nat) (copy : Copy) : State :=
  match (s.seam k).openOf copy with
  | none => s
  | some a =>
    let grid := s.gridOf k copy
    if s.sv.sidx ≤ a.sidx then s
    else if s.gridPoint grid || s.validityCut k then s.cutCopy k copy
    else if grid == 4 && s.sv.lineStart then s.cutFrame k a false
    else s

/-- The meaning of INGOT_CLOSE (R121 to R128, R137, R138). -/
def execIngotClose (k : Fin 48) (copy : Copy) (s : State) : Host.Outcome State Fault Refusal :=
  ran s (s.ingotClose k.val copy)

/-! ## Joining -/

/-- The seam is not in the capture fabric on the latest sample (R107). -/
def State.seamLost (s : State) (k : Nat) : Bool :=
  !(s.seam k).joined || (match (s.seam k).lostAt with
    | some a => a ≤ s.sv.sidx
    | none => false)

/-- A seam joins on a line start at or after its first sample decoded in UP; its GAP ends there (R107). -/
def State.seamJoin (s : State) (k : Nat) : State :=
  match (s.seam k).firstUp with
  | some f =>
    if s.samples && s.sv.lineStart && s.seamLost k && f ≤ s.sv.sidx then
      let s := (s.cutCopy k .stream).cutCopy k .window
      s.onSeam k fun m =>
        { m with joined := true, lostAt := none, buf := m.buf.filter fun x => s.sv.sidx ≤ x.sidx }
    else s
  | none => s

/-- The meaning of SEAM_JOIN (R107). -/
def execSeamJoin (k : Fin 48) (s : State) : Host.Outcome State Fault Refusal := ran s (s.seamJoin k.val)

/-! ## Numbers -/

/-- Order of the close key (R143). -/
def closeKeyLe (a b : Ingot) : Bool :=
  a.close < b.close || (a.close == b.close && (a.rank < b.rank || (a.rank == b.rank && a.source ≤ b.source)))

/-- One ingot numbered: by its stream, or in its segment (R142, R183). -/
def State.numberOne (s : State) (i : Ingot) : State :=
  match i.segment with
  | none =>
    let seq := (s.stream i.stream).nextSeq
    s.onStream i.stream fun q =>
      { q with nextSeq := q.nextSeq + 1, ingots := inc64 q.ingots, waiting := q.waiting ++ [{ i with seq }] }
  | some g =>
    let seq := (s.segment g).nextSeq
    let s := s.onSegment g fun m => { m with nextSeq := m.nextSeq + 1 }
    { s with smelter.windowWaiting := s.smelter.windowWaiting ++ [{ i with seq }] }

/-- Every ingot whose close sample has come is numbered, in the order of the close key (R143). -/
def State.numberClosed (s : State) : State :=
  let due := sortBy closeKeyLe (s.closing.filter fun i => i.close ≤ s.sv.sidx)
  due.foldl State.numberOne { s with closing := s.closing.filter fun i => s.sv.sidx < i.close }

/-- Samples that no open ingot and no decision needs any more are dropped from a seam's buffer. -/
def Seam.trim (m : Seam) (sidx : Nat) : Seam :=
  let keep := min (sidx - 1) (min ((m.openStream.map Coord.sidx).getD sidx) ((m.openWindow.map Coord.sidx).getD sidx) - 1)
  { m with buf := m.buf.dropWhile fun x => x.sidx < keep }

end Sys2Proof.Machine
end

