-- ==== Sys2Proof/Machine/Taps.lean ====
section
/-! DEFINITION. The phase aligner's 64 taps of a pin (R44): narrow-pulse removal, calibrated placement of a crossing (R159),
and pins that a calibration takes away (R165). -/

namespace Sys2Proof.Machine

/-- The taps of a sample corrected one by one (R159): the corrected taps, and the replacements. `next` is the tap that
follows them, as received. -/
def removeNarrow (next : Bool) : Bool → List Bool → List Bool × Nat
  | _, [] => ([], 0)
  | prev, t :: l =>
    let after := l.headD next
    let odd := t != prev && t != after
    let t' := if odd then prev else t
    let r := removeNarrow next t' l
    (t' :: r.1, r.2 + bit odd)

/-- CAL[k] of a line's table; CAL[64] is 16,384 (R159). -/
def calEntry (table k : Nat) : Nat := if k < 64 then field table (2 * k) 2 else 16384

/-- Bin of a crossing in tap interval `k` (R159). -/
def crossBin (table k : Nat) : Nat := (calEntry table k + calEntry table (k + 1)) / 512

/-- Changes of corrected taps: interval and polarity. -/
def tapChanges : Bool → Nat → List Bool → List (Nat × Bool)
  | _, _, [] => []
  | prev, k, t :: l => if t != prev then (k, t) :: tapChanges t (k + 1) l else tapChanges t (k + 1) l

/-- The 64 taps of a sample as a list, tap 0 first. -/
def tapList (taps : BitVec 64) : List Bool := (List.range 64).map fun k => taps.getLsbD k

/-- CAL_STATE RUNNING (Table 5.12). -/
def calRunning : Nat := 1

/-- The samplers of line `n` see the on-die oscillator and not the pin: it is being calibrated with CAL_SOURCE INTERNAL
(R165). -/
def State.pinIgnored (s : State) (n : Nat) : Bool :=
  s.shaft.calState == calRunning && s.shaft.calMask.getLsbD n && s.cfg 0x27A0 2 == 0

/-- Bin of a crossing of line `n` in tap interval `k`, 0 while the aligner is in FAULT (R43, R159, R164). -/
def State.binOf (s : State) (n k : Nat) : Nat := if s.sv.dllState = 2 then 0 else crossBin (s.cfg (0x2760 + n) 1) k

/-- The crossing on an edge of a RASTER_IN pin, in fine bins, and whether it rises; none when the correction leaves none
(R44, R159). -/
def State.pinCrossing (s : State) (pin : Nat) (e : PinEdge) : Option (Nat × Bool) :=
  ((tapChanges e.before 0 (removeNarrow e.after e.before (tapList e.taps)).1).head?).map fun c =>
    (64 * e.sample + s.binOf (40 + pin) c.1, c.2)

end Sys2Proof.Machine
end

