-- ==== Sys2Proof/Machine/Segments.lean ====
section
/-! DEFINITION. Control ingots (R136, R139), window segments: images in the ring of a segment (R182, R184), protection
and depth (R185), closing, re-arming and dead intervals (R184, R186, R187), release (R186), SPLIT_EPOCH (R28, R135), and
code-density calibration (R165). -/

namespace Sys2Proof.Machine

/-! ## Coordinates of an earlier sample -/

/-- Coordinates of the sample on which a window ingot begins, or of the latest sample: ingots keep those they were stamped
with (R40). -/
def State.coordOf (s : State) (x : Nat) : Coord :=
  if s.sv.sidx ≤ x then s.here
  else
    match (s.seams.toList.filterMap fun m => m.openWindow).find? fun c => c.sidx == x with
    | some c => c
    | none =>
      match (s.smelter.windowWaiting ++ s.closing).find? fun i => i.sidx == x with
      | some i => { sidx := x, rastpos := i.rastpos, time96 := i.time96 }
      | none => s.here

/-! ## Control ingots -/

/-- A MARK, DEADTIME or EPOCH: never compressed nor encrypted (R133), complete at `close` (R143). -/
def controlIngot (type source aux span epoch : Nat) (at_ : Coord) (flags : Byte) (payload : List Byte) (close rank : Nat) :
    Ingot :=
  { type, flags, stream := 0xFF, source, sidx := at_.sidx, rastpos := at_.rastpos, time96 := at_.time96, span, epoch, aux
    payload, stored := payload, close, rank, isSealed := true }

/-- HOLDOVER, and FINE_OVERFLOW of a DLL in FAULT, of an ingot over samples `a` to `b − 1` (R43, R60, R65). -/
def State.spanFlags (s : State) (a b : Nat) : Byte :=
  flagIf (s.sv.holdMark.within a b) flHoldover ||| flagIf (s.sv.dllMark.within a b) flFineOverflow

/-- A control ingot for each of some streams, and for the segment being filled (R136, R139, R183; log 19). -/
def State.emitControl (s : State) (i : Ingot) (streams : List Nat) (segment : Option Nat) : State :=
  let copies := streams.map fun q => { i with stream := q }
  let win := match segment with
    | some g => [{ i with segment := some g }]
    | none => []
  { s with closing := s.closing ++ copies ++ win }

/-- Armed streams whose MARK_ENABLE is 1 (R136). -/
def State.markStreams (s : State) : List Nat :=
  (List.range 64).filter fun q => (s.stream q).armed && s.cfgOn (0x2840 + q) 3

/-! ## The window seams and the layout -/

/-- Seams that fill windows (R182). -/
def State.windowSeams (s : State) : List Nat := bitsOf 48 (s.cfg 0x2600 3)

/-- SEG_COUNT. -/
def State.segCount (s : State) : Nat := s.cfg 0x2600 5

/-- Bytes of a segment (R182). -/
def State.segBytes (s : State) (g : Nat) : Nat := s.cfg (0x26C0 + g) 1 * 2 ^ 20

/-- Offset at which the ingot area of a segment starts (R182). -/
def areaStart : Nat := 4096

/-- The span of a trigger that is protected: S − PRE_SMP to S, under the PRE_SMP of its acceptance (R184). -/
def Segment.protects (m : Segment) (i : Ingot) : Bool :=
  match m.trig with
  | some t => t.sidx - m.preSmp < i.sidx + max 1 i.span && i.sidx ≤ t.sidx
  | none => false

/-- The same, of a segment by its number. -/
def State.protects (s : State) (g : Nat) (i : Ingot) : Bool := (s.segment g).protects i

/-- Ingots of a segment that are not yet written into it. -/
def State.pendingFor (s : State) (g : Nat) : List Ingot :=
  (s.smelter.windowWaiting ++ s.closing).filter fun i => i.segment == some g

/-- Bytes that a segment's images take, padding included (R182). -/
def Segment.used (m : Segment) : Nat := (m.images.map WinImage.bytes).sum

/-- OLDEST_OFF (Table 5.4). -/
def Segment.oldestOff (m : Segment) : Nat := ((m.images.head?).map WinImage.off).getD areaStart

/-- Images held, padding excluded (Table 5.4). -/
def Segment.count (m : Segment) : Nat := (m.images.filter fun x => x.ingot.isSome).length

/-- A data ingot of a seam: SAMPLE, TRANSITION or GAP (R185). -/
def Ingot.ofSeam (i : Ingot) (k : Nat) : Bool := i.source == k && (i.type == 1 || i.type == 2 || i.type == 4)

/-- The earliest sample from which a seam's images reach without a hole up to `b` (R185). -/
def reachBack (k b : Nat) (newestFirst : List Ingot) : Nat :=
  newestFirst.foldl (fun f i => if i.ofSeam k && i.sidx < f && f ≤ i.sidx + i.span then i.sidx else f) b

/-- F of R185: the earliest sample such that every window seam holds every sample from it up to `b`, exclusive. -/
def State.heldFrom (s : State) (g b : Nat) : Nat :=
  let images := ((s.segment g).images.filterMap WinImage.ingot ++ s.pendingFor g).reverse
  let seams := if (s.segment g).state == 3 then bitsOf 48 (s.segment g).seamMask else s.windowSeams
  let from_ := (seams.map fun k =>
    let start := match (s.seam k).openWindow with
      | some c => if s.shaft.filling.map Fin.val == some g then min c.sidx b else b
      | none => b
    reachBack k start images).foldl max (s.segment g).armSidx
  min from_ b

/-! ## Closing -/

/-- CLOSE_CAUSE codes (Table 5.4). -/
def ccPostDone : Nat := 0
def ccMemory : Nat := 1
def ccEpoch : Nat := 2

/-- A header waits for the check window of an epoch at or after which an image was made (R135). -/
def State.headerWaits (s : State) (g : Nat) : Bool :=
  match s.modes.check with
  | some e => ((s.segment g).images.filterMap WinImage.ingot).any fun i => e.sidx < i.sidx + max 1 i.span
  | none => false

/-- The header is written once every image of the closed segment is in it and no check window is awaited
(Table 5.4, R135). -/
def State.writeHeader (s : State) (g : Nat) : State :=
  let m := s.segment g
  if m.state == 3 && !m.headerDone && (s.pendingFor g).isEmpty && !s.headerWaits g then
    let first := s.heldFrom g m.endSidx
    s.onSegment g fun m => { m with headerDone := true, firstSidx := first }
  else s

/-- Every closed segment that waits for its header. -/
def State.writeHeaders (s : State) : State := (List.range 64).foldl State.writeHeader s

/-- STATE of a segment as software reads it: CLOSED once the header is written (R135, Table 5.4). -/
def Segment.code (m : Segment) : Nat :=
  if m.state == 3 && !m.headerDone then (if m.trig.isSome then 2 else 1) else m.state

/-- The segment being filled closes; `start` is the first dead sample, `end_` the sample after the last one held (R184). -/
def State.closeSegment (s : State) (cause : Nat) (start : Coord) (end_ : Nat) : State :=
  match s.shaft.filling with
  | none => s
  | some g =>
    let post := match (s.segment g).trig with
      | some t => end_ - t.sidx - 1
      | none => 0
    let next := (g.val + 1) % max 1 s.segCount
    let s := s.windowSeams.foldl (fun s k => s.onSeam k fun m => m.setOpen .window none) s
    let s := s.onSegment g.val fun m =>
      { m with state := 3, closeCause := cause, postActual := post, endSidx := end_, epoch := s.epochNo, headerDone := false
               seamMask := s.cfg 0x2600 3 }
    { s with shaft.filling := none, shaft.dead := some { start, closed := some g.val, next } }

/-- The window copies end on sample `b − 1` (R183). -/
def State.cutWindows (s : State) (b : Nat) : State :=
  s.windowSeams.foldl (fun s k =>
    match (s.seam k).openWindow with
    | some a => s.emitRun k .window a b false
    | none => s) s

/-! ## Images -/

/-- Images of a segment without the oldest one that is not the newest of a window seam (R184). -/
def dropOldest (seams : List Nat) : List WinImage → Option (List WinImage)
  | [] => none
  | x :: l =>
    let newest := match x.ingot with
      | some i => seams.any fun k => i.ofSeam k && !l.any fun y =>
          match y.ingot with
          | some j => j.ofSeam k
          | none => false
      | none => false
    if newest then (dropOldest seams l).map fun m => x :: m else some l

/-- Oldest images discarded until `limit` bytes hold the rest, or only newest ones are left (R184). -/
def shrink (seams : List Nat) (limit : Nat) : Nat → List WinImage → List WinImage
  | 0, l => l
  | fuel + 1, l =>
    if (l.map WinImage.bytes).sum ≤ limit then l
    else
      match dropOldest seams l with
      | some m => shrink seams limit fuel m
      | none => l

/-- Bytes that a segment may use before a trigger (R184). -/
def State.preShare (s : State) (g : Nat) : Nat :=
  let pre := s.cfg (0x26C0 + g) 2
  (s.segBytes g - areaStart) * pre / (pre + s.cfg (0x26C0 + g) 3)

/-- An image overlaps bytes `a` to `b − 1` of its segment. -/
def WinImage.overlaps (x : WinImage) (a b : Nat) : Bool := x.off < b && a < x.off + x.bytes

/-- Bytes `a` to `b − 1` of a segment are taken: the images there, or none when one is protected (R184). -/
def takeRoom (a b : Nat) (l : List WinImage) : Option (List WinImage) :=
  if l.any fun x => x.overlaps a b && x.isProtected then none else some (l.filter fun x => !x.overlaps a b)

/-- Images and the next write offset after one more image of `i`, none when a protected image is in the way
(R182). -/
def placeImage (end_ : Nat) (i : Ingot) (prot : Bool) (off : Nat) (l : List WinImage) : Option (List WinImage × Nat) :=
  let z := i.size
  if off + z ≤ end_ then
    (takeRoom off (off + z) l).map fun m => (m ++ [{ off, bytes := z, ingot := some i, isProtected := prot }], off + z)
  else do
    let m ← takeRoom off end_ l
    let pad : List WinImage := if off < end_ then [{ off, bytes := end_ - off, ingot := none, isProtected := false }] else []
    let n ← takeRoom areaStart (areaStart + z) (m ++ pad)
    pure (n ++ [{ off := areaStart, bytes := z, ingot := some i, isProtected := prot }], areaStart + z)

/-- SPLIT_EPOCH of an ingot: its span or instant lies between a failed epoch and its rollback (R28). -/
def State.splitFlag (s : State) (i : Ingot) : Byte :=
  flagIf (s.modes.splits.any fun x => x.1 < i.sidx + max 1 i.span &&
    (match x.2 with
     | some b => i.sidx < b
     | none => true)) flSplitEpoch

/-- A segment closed with cause MEMORY at an ingot that finds only protected images: that ingot and every later one
of the segment are not written (R184). -/
def State.memoryClose (s : State) (g : Nat) (i : Ingot) : State :=
  let start := s.coordOf (i.sidx + max 1 i.span)
  let s := { s with closing := s.closing.filter fun x => x.segment != some g
                    smelter.windowWaiting := s.smelter.windowWaiting.filter fun x => x.segment != some g }
  if s.shaft.filling.map Fin.val == some g then s.closeSegment ccMemory start i.sidx
  else s.onSegment g fun m =>
    { m with closeCause := ccMemory, endSidx := i.sidx
             postActual := match m.trig with
               | some t => i.sidx - t.sidx - 1
               | none => 0 }

/-- An image into its segment (R182, R184, R28). -/
def State.writeImage (s : State) (g : Nat) (i : Ingot) : State :=
  let m := s.segment g
  let i := { i with flags := i.flags ||| s.splitFlag i }
  match placeImage (s.segBytes g) i (s.protects g i) m.writeOff m.images with
  | none => s.memoryClose g i
  | some (images, off) =>
    let images := if m.state == 1 then shrink s.windowSeams (s.preShare g) images.length images else images
    s.onSegment g fun m => { m with images, writeOff := off }

/-- Window ingots enter their segments in the order of their numbers, as far as they are sealed (R183). -/
def State.flushSome (s : State) : Nat → State
  | 0 => s
  | fuel + 1 =>
    match s.smelter.windowWaiting with
    | [] => s
    | i :: l =>
      if i.isSealed then
        let s := { s with smelter.windowWaiting := l }
        (match i.segment with
         | some g => (s.writeImage g i)
         | none => s).flushSome fuel
      else s

/-- Every window ingot that is ready enters its segment; headers that waited for one are written. -/
def State.flushWindows (s : State) : State := (s.flushSome s.smelter.windowWaiting.length).writeHeaders

/-! ## Arming and dead intervals -/

/-- A segment armed on the latest sample (R186, R188). -/
def State.armSegment (s : State) (g : Nat) : State :=
  if h : g < 64 then
    let s := { s with closing := s.closing.filter fun x => x.segment != some g
                      smelter.windowWaiting := s.smelter.windowWaiting.filter fun x => x.segment != some g }
    let s := s.onSegment g fun m =>
      { state := 1, generation := inc64 m.generation, armSidx := s.sv.sidx, firstSidx := s.sv.sidx, writeOff := areaStart }
    let s := s.windowSeams.foldl State.openWindow s
    { s with shaft.filling := some ⟨g, h⟩, shaft.lastArmed := some g, shaft.dead := none }
  else s

/-- Entries of a DEADTIME (Table 4.9). -/
def Trig.entry (t : Trig) : List Byte :=
  leBytes 8 t.sidx ++ leBytes 2 (ofSigned 16 t.bin) ++ leBytes 1 t.level ++ leBytes 1 t.branch ++ leBytes 1 t.placement ++
  [0, 0, 0]

/-- The DEADTIME of a dead interval that ends on the latest sample, under the epoch of its span; none of an interval
without a dead sample (R187, Table 4.9). -/
def State.deadIngot (s : State) (next : Nat) : Option Ingot :=
  match s.shaft.dead with
  | none => none
  | some d =>
    let span := s.sv.sidx - d.start.sidx
    if span = 0 then none
    else
      let payload := leBytes 4 (min d.count 0xFFFFFFFF) ++ leBytes 1 d.listed.length ++ [0, 0, 0] ++
        leBytes 2 (d.closed.getD 0xFFFF) ++ leBytes 2 next ++ leBytes 4 0 ++ d.listed.flatMap Trig.entry
      some (controlIngot 5 0x50 0 span s.epochNo d.start (s.spanFlags d.start.sidx s.sv.sidx) payload s.sv.sidx 2)

/-- A dead interval ends on the latest sample with its DEADTIME (R187). -/
def State.deadtime (s : State) (next : Nat) (segment : Option Nat) : State :=
  match s.deadIngot next with
  | none => { s with shaft.dead := none }
  | some i =>
    { s with shaft.dead := none, shaft.deadSmp := add64 s.shaft.deadSmp i.span }.emitControl i s.markStreams segment

/-- The dead interval ends on the latest sample with segment `g` armed (R186, R187). -/
def State.rearm (s : State) (g : Nat) : State :=
  let fresh := (s.segment g).code == 0
  let d := s.shaft.dead
  let s := s.armSegment g
  let s := ({ s with shaft.dead := d } : State).deadtime g (some g)
  if fresh then s else s.notice .segmentOverwritten .stockpile g (leBytes 2 g)

/-- The segment is being read out (R219). -/
def State.beingRead (s : State) (g : Nat) : Bool :=
  match s.grizzly.rdLeft with
  | some (r, _) => r.val == g && s.grizzly.rdState == 1
  | none => false

/-- The first segment in order from `g` that is not being read out (R186). -/
def State.overwriteChoice (s : State) (g : Nat) : Nat :=
  let n := max 1 s.segCount
  ((List.range n).map fun k => (g + k) % n).find? (fun x => !s.beingRead x) |>.getD g

/-- Samples of a plain re-arm (R186). -/
def rearmSmp : Nat := 192

/-- The re-arm of R186, 192 smp after the close or after the release. -/
def State.segmentRearm (s : State) : State :=
  match s.shaft.dead with
  | none => s
  | some d =>
    if d.waits then
      match d.releasedAt with
      | some r => if r + rearmSmp ≤ s.sv.sidx && (s.segment d.next).code == 0 then s.rearm d.next else s
      | none => s
    else if s.sv.sidx < d.start.sidx + rearmSmp then s
    else if (s.segment d.next).code == 0 then s.rearm d.next
    else if s.cfg 0x2600 6 == 1 then s.rearm (s.overwriteChoice d.next)
    else { s with shaft.dead := some { d with waits := true } }

/-- The meaning of SEGMENT_REARM (R186, R187). -/
def execSegmentRearm (s : State) : Host.Outcome State Fault Refusal := ran s s.segmentRearm

/-- The segment being filled closes after sample S + POST_SMP of its trigger (R184). -/
def State.segmentPostDone (s : State) : State :=
  match s.shaft.filling with
  | none => s
  | some g =>
    match (s.segment g.val).state == 2, (s.segment g.val).trig with
    | true, some t =>
      let c := t.sidx + s.cfg (0x26C0 + g.val) 3
      if c < s.sv.sidx then (s.cutWindows (c + 1)).closeSegment ccPostDone (s.coordOf (c + 1)) (c + 1) else s
    | _, _ => s

/-- The meaning of SEGMENT_POST_DONE (R184). -/
def execSegmentPostDone (s : State) : Host.Outcome State Fault Refusal := ran s s.segmentPostDone

/-- A SEG_RELEASE write (R186, R187, R220). -/
def State.segRelease (s : State) (g : Nat) : Taken :=
  if (s.segment g).code != 3 then refuse abValueRange s
  else if s.beingRead g then refuse abBusy s
  else
    let s := s.onSegment g fun m => { m with state := 0, images := [], readOut := false, headerDone := false }
    taken { s with shaft.dead := s.shaft.dead.map fun d =>
              if d.next == g && d.waits then { d with releasedAt := some s.sv.sidx } else d }

/-- Every segment discarded, its memory lost or laid out anew; GENERATION goes on (R16, R216). -/
def State.discardSegments (s : State) : State :=
  { s with shaft.segments := vmap s.shaft.segments fun _ m => { generation := m.generation }
           shaft.filling := none, shaft.dead := none, shaft.lastArmed := none
           closing := s.closing.filter fun x => x.segment.isNone, smelter.windowWaiting := [] }

/-- SPLIT_EPOCH set in every window image at or after the failed epoch (R135). -/
def State.splitWindows (s : State) : State :=
  { s with shaft.segments := vmap s.shaft.segments fun _ m =>
      { m with images := m.images.map fun x =>
          { x with ingot := x.ingot.map fun i => { i with flags := i.flags ||| s.splitFlag i } } } }

/-! ## The header -/

/-- Bytes 0x000 to 0x07B of a segment header (Table 5.4). -/
def State.segHead (s : State) (g : Nat) : List Byte :=
  let m := s.segment g
  let t := m.trig
  leBytes 4 0x5345474D ++ leBytes 2 g ++ leBytes 1 m.code ++ leBytes 1 m.closeCause ++ leBytes 8 m.generation ++
  leBytes 8 ((t.map Trig.sidx).getD 0xFFFFFFFFFFFFFFFF) ++ leBytes 8 ((t.map Trig.rastpos).getD 0) ++
  leBytes 12 ((t.map Trig.time96).getD 0) ++ leBytes 2 ((t.map fun x => ofSigned 16 x.bin).getD 0) ++
  leBytes 1 ((t.map Trig.placement).getD 0) ++ leBytes 1 ((t.map Trig.level).getD 0) ++ leBytes 8 m.preActual ++
  leBytes 8 m.postActual ++ leBytes 8 m.firstSidx ++ leBytes 8 m.endSidx ++ leBytes 8 m.oldestOff ++ leBytes 8 m.used ++
  leBytes 4 m.count ++ leBytes 2 m.epoch ++ leBytes 2 ((t.map Trig.markId).getD 0) ++ leBytes 8 m.seamMask ++
  leBytes 1 ((t.map Trig.branch).getD 0) ++ List.replicate 11 0

/-- SEG_HEADER: bytes 0x000 to 0x07F (R219); until the header is written STATE alone is valid, and the other bytes
read 0 (log 20). -/
def State.segHeader (s : State) (g : Nat) : List Byte :=
  let m := s.segment g
  if m.headerDone then
    let b := s.segHead g
    b ++ leBytes 4 (crc32 b).toNat
  else List.replicate 6 0 ++ leBytes 1 m.code ++ List.replicate 121 0

/-! ## Calibration -/

/-- The table of a line from its counts (R165). -/
def calTable (hist : List Nat) (n : Nat) : List Nat :=
  (List.range 64).map fun k => 16384 * (hist.take k).sum / max 1 n

/-- DNL_MAX in units of 1/1,024 bin (R165). -/
def dnlOf (hist : List Nat) (n : Nat) : Nat :=
  hist.foldl (fun m h => max m (((64 * h : Nat) : Int) - n).natAbs) 0 * 1024 / max 1 n

/-- The counts of a line are too uneven for a table: some below N/256 or above N/16 (R165). -/
def calBad (hist : List Nat) (n : Nat) : Bool := hist.any fun h => 256 * h < n || n < 16 * h

/-- A CAL_START write (R165). -/
def State.calStart (s : State) (mask : Nat) : Taken :=
  if s.mode != 7 then refuse abValueRange s
  else if s.shaft.calState == 1 then refuse abBusy s
  else taken { s with shaft.calState := 1, shaft.calMask := BitVec.ofNat 44 mask, shaft.calFail := 0 }

/-- One line of a calibration that has counted its crossings (R165). -/
def State.calLine (s : State) (hist : List (List Nat)) (j : Nat) : State :=
  if s.shaft.calMask.getLsbD j then
    let n := s.cfg 0x27A0 3
    let h := hist.getD j []
    let s := { s with shaft.dnlMax := vmod s.shaft.dnlMax j fun _ => min 65535 (dnlOf h n) }
    if calBad h n then { s with shaft.calFail := s.shaft.calFail ||| BitVec.ofNat 44 (2 ^ j) }
    else { s with dict.live := s.dict.live.write (key (0x2760 + j) 1) (leNat ((calTable h n).flatMap (leBytes 2))) }
  else s

/-- Dead samples up to now, the interval in progress with them (R187). -/
def State.deadSamples (s : State) : Nat :=
  match s.shaft.dead with
  | some d => add64 s.shaft.deadSmp (s.sv.sidx - d.start.sidx)
  | none => s.shaft.deadSmp

/-- A calibration ends with Service (R165; log 59). -/
def State.calStop (s : State) : State :=
  if s.shaft.calState == calRunning then { s with shaft.calState := 0 } else s

/-- The meaning of CAL_COMPLETE: the tables, DNL_MAX, CAL_FAIL and CAL_STATE (R165). -/
def execCalComplete (hist : List (List Nat)) (s : State) : Host.Outcome State Fault Refusal :=
  if histOk hist then
    ran s (
      if s.mode == 7 && s.shaft.calState == calRunning then
        let s := (List.range 44).foldl (fun s j => s.calLine hist j) s
        { s with shaft.calState := if s.shaft.calFail == 0 then 2 else 3 }
      else s)
  else .fault .illFormed

end Sys2Proof.Machine
end

