-- ==== Sys2Proof/Machine/Smelter.lean ====
section
/-! DEFINITION. The Smelter's writer: matches (R229), blocks and Huffman codes (R227, R228, R230, R231), the limit of
64 MiB (R233), AES-256-GCM sealing (R234 to R236), and SMELTER_SEAL. -/

namespace Sys2Proof.Machine

/-! ## Symbols of DEFLATE (RFC 1951) -/

/-- First length, extra bits of the length symbols 257 to 285. -/
def lengthCodes : List (Nat × Nat) := [
  (3, 0), (4, 0), (5, 0), (6, 0), (7, 0), (8, 0), (9, 0), (10, 0), (11, 1), (13, 1), (15, 1), (17, 1), (19, 2), (23, 2),
  (27, 2), (31, 2), (35, 3), (43, 3), (51, 3), (59, 3), (67, 4), (83, 4), (99, 4), (115, 4), (131, 5), (163, 5),
  (195, 5), (227, 5), (258, 0)]

/-- First distance, extra bits of the distance symbols 0 to 29. -/
def distCodes : List (Nat × Nat) := [
  (1, 0), (2, 0), (3, 0), (4, 0), (5, 1), (7, 1), (9, 2), (13, 2), (17, 3), (25, 3), (33, 4), (49, 4), (65, 5), (97, 5),
  (129, 6), (193, 6), (257, 7), (385, 7), (513, 8), (769, 8), (1025, 9), (1537, 9), (2049, 10), (3073, 10), (4097, 11),
  (6145, 11), (8193, 12), (12289, 12), (16385, 13), (24577, 13)]

/-- Index of the code a value falls under: the last whose first value is not above it. -/
def codeIndex (t : List (Nat × Nat)) (v : Nat) : Nat := (t.takeWhile fun c => c.1 ≤ v).length - 1

/-- Order of the code-length code lengths in a header. -/
def lengthOrder : List Nat := [16, 17, 18, 0, 8, 7, 9, 6, 10, 5, 11, 4, 12, 3, 13, 2, 14, 1, 15]

/-- End-of-block. -/
def symEob : Nat := 256

/-- Symbols of a block: a literal, or a match. -/
inductive Sym where
  | lit (b : Nat)
  | copy (len dist : Nat)
deriving DecidableEq, Repr

/-- Literal/length symbol. -/
def Sym.litSym : Sym → Nat
  | .lit b => b
  | .copy len _ => 257 + codeIndex lengthCodes len

/-- Distance symbol of a match. -/
def Sym.distSym : Sym → Option Nat
  | .lit _ => none
  | .copy _ d => some (codeIndex distCodes d)

/-! ## Matches (R229) -/

/-- Byte `p` of the payload. -/
def byteAt (a : Array Byte) (p : Nat) : Nat := (a.getD p 0).toNat

/-- Hash of the three bytes at `p` (R229). -/
def hash3 (a : Array Byte) (p : Nat) : Nat :=
  ((byteAt a p <<< 10) ^^^ (byteAt a (p + 1) <<< 5) ^^^ byteAt a (p + 2)) % 2 ^ 15

/-- Equal bytes at `p` and `q`, at most `limit`. -/
def commonLen (a : Array Byte) (p q : Nat) : Nat → Nat
  | 0 => 0
  | limit + 1 => if byteAt a p = byteAt a q then commonLen a (p + 1) (q + 1) limit + 1 else 0

/-- The four most recent earlier positions with a hash, newest first (R229). -/
def candidates (h : Nat) (seen : List (Nat × Nat)) : List Nat := ((seen.filter fun x => x.1 == h).take 4).map Prod.snd

/-- The longest match at `p` of at most `limit` bytes, the nearest of those equally long: length and distance (R229). -/
def bestMatch (a : Array Byte) (p limit : Nat) (seen : List (Nat × Nat)) : Nat × Nat :=
  ((candidates (hash3 a p) seen).filter fun q => p - q ≤ 32768).foldl (fun (b : Nat × Nat) q =>
    let n := commonLen a q p (min 258 limit)
    if b.1 < n then (n, p - q) else b) (0, 0)

/-- Positions `p` to `p + n − 1` with at least three bytes left before `e` entered into the hash table (R229). -/
def enter (a : Array Byte) (e : Nat) (seen : List (Nat × Nat)) (p n : Nat) : List (Nat × Nat) :=
  (List.range n).foldl (fun l k => if p + k + 3 ≤ e then (hash3 a (p + k), p + k) :: l else l) seen

/-- Symbols of the block from `p` to `e`, and the hash table after it (R229). -/
def blockSyms (a : Array Byte) (e : Nat) : Nat → Nat → List (Nat × Nat) → List Sym × List (Nat × Nat)
  | 0, _, seen => ([], seen)
  | fuel + 1, p, seen =>
    if e ≤ p then ([], seen)
    else
      let m := if e - p < 3 then (0, 0) else bestMatch a p (e - p) seen
      if m.1 < 3 then
        let r := blockSyms a e fuel (p + 1) (enter a e seen p 1)
        (.lit (byteAt a p) :: r.1, r.2)
      else
        let r := blockSyms a e fuel (p + m.1) (enter a e seen p m.1)
        (.copy m.1 m.2 :: r.1, r.2)

/-! ## Codes and blocks -/

/-- `n` bits of a number, least significant first. -/
def lsbBits (n v : Nat) : List Bool := (List.range n).map fun i => v.testBit i

/-- Bits of a Huffman code: most significant first. -/
def codeBits (c : Nat × Nat) : List Bool := (lsbBits c.2 c.1).reverse

/-- Canonical codes of RFC 1951 from code lengths: code and length of each symbol. -/
def canonical (lens : List Nat) : List (Nat × Nat) :=
  let counts := (List.range 16).map fun n => if n = 0 then 0 else lens.count n
  let firsts := (List.range 16).map fun n => (List.range n).foldl (fun c k => 2 * (c + counts.getD k 0)) 0
  lens.mapIdx fun i n =>
    if n = 0 then (0, 0) else (firsts.getD n 0 + ((lens.take i).count n), n)

/-- Counts of 1 for every symbol (R230). -/
def countsOfOne : Counts := { lit := List.replicate 286 1, dist := List.replicate 30 1 }

/-- One more of a symbol. -/
def bump (l : List Nat) (i : Nat) : List Nat := l.set i (l.getD i 0 + 1)

/-- Symbol counts of a block, each with 1 added, end-of-block counted once (R230). -/
def countSyms (l : List Sym) : Counts :=
  l.foldl (fun c x =>
    { lit := bump c.lit x.litSym
      dist := match x.distSym with
        | some d => bump c.dist d
        | none => c.dist }) { countsOfOne with lit := bump countsOfOne.lit symEob }

/-- Bits of one symbol under two code tables. -/
def Sym.bits (lit dist : List (Nat × Nat)) : Sym → List Bool
  | .lit b => codeBits (lit.getD b (0, 0))
  | .copy len d =>
    let i := codeIndex lengthCodes len
    let j := codeIndex distCodes d
    let li := lengthCodes.getD i (0, 0)
    let dj := distCodes.getD j (0, 0)
    codeBits (lit.getD (257 + i) (0, 0)) ++ lsbBits li.2 (len - li.1) ++ codeBits (dist.getD j (0, 0)) ++
    lsbBits dj.2 (d - dj.1)

/-- Code lengths that form a complete prefix code with a code of at most `top` bits for every one of `n` symbols, as every
Huffman code is (R228, R230). -/
def lensOk (n top : Nat) (l : List Nat) : Bool :=
  l.length == n && l.all (fun k => within 1 top k) && (l.map fun k => 2 ^ (top - k)).sum == 2 ^ top

/-- Lengths of a complete prefix code of `n` symbols that differ by at most one bit. -/
def evenLens (n : Nat) : List Nat :=
  let k := Nat.log2 (n - 1) + 1
  List.replicate (2 ^ k - n) (k - 1) ++ List.replicate (2 * n - 2 ^ k) k

/-- The code lengths that the device's construction answers, kept where they form such a code; even lengths else (R228,
R230; log 9). -/
def codeLens (n top : Nat) (l : List Nat) : List Nat := if lensOk n top l then l else evenLens n

/-- Code lengths of the literal/length symbols and of the distance symbols for their counts (R230). -/
def litLens (c : Counts) : List Nat := codeLens 286 15 (Config.codeLengths c.lit)
def distLens (c : Counts) : List Nat := codeLens 30 15 (Config.codeLengths c.dist)

/-- The lengths that code-length symbols 0 to 16 stand for (RFC 1951). -/
def expandRuns (runs : List (Nat × Nat)) : List Nat :=
  runs.foldl (fun l r => if r.1 = 16 then l ++ List.replicate (3 + r.2) (l.getLast?.getD 0) else l ++ [r.1]) []

/-- The code-length symbols a list of lengths is sent as: the device's choice where it stands for them, each by itself else
(R228; log 9). -/
def lengthRuns (lens : List Nat) : List (Nat × Nat) :=
  let runs := Config.lengthRuns lens
  if expandRuns runs == lens && runs.all fun r => r.1 ≤ 16 && r.2 < 4 then runs else lens.map fun k => (k, 0)

/-- Header of a dynamic block: HLIT and HDIST 29, HCLEN 15, the code lengths (R228, R230). -/
def dynamicHeader (final : Bool) (lit dist : List Nat) : List Bool :=
  let runs := lengthRuns (lit ++ dist)
  let lens := codeLens 19 7 (Config.codeLengthLengths ((List.range 19).map fun k => (runs.map Prod.fst).count k + 1))
  let codes := canonical lens
  [final, false, true] ++ lsbBits 5 29 ++ lsbBits 5 29 ++ lsbBits 4 15 ++
  (lengthOrder.flatMap fun k => lsbBits 3 (lens.getD k 0)) ++
  (runs.flatMap fun r => codeBits (codes.getD r.1 (0, 0)) ++ (if r.1 = 16 then lsbBits 2 r.2 else []))

/-- A block coded with the tables of the counts before it (R228, R230). -/
def codedBlock (c : Counts) (syms : List Sym) (final : Bool) : List Bool :=
  let ll := litLens c
  let dl := distLens c
  let lit := canonical ll
  let dist := canonical dl
  dynamicHeader final ll dl ++ (syms.flatMap fun x => x.bits lit dist) ++ codeBits (lit.getD symEob (0, 0))

/-- Zero bits from a bit position to the next byte boundary. -/
def toByte (pos : Nat) : List Bool := List.replicate ((8 - pos % 8) % 8) false

/-- A stored block at a bit position (R228). -/
def storedBlock (pos : Nat) (bytes : List Byte) (final : Bool) : List Bool :=
  let n := bytes.length
  [final, false, false] ++ toByte (pos + 3) ++ lsbBits 16 n ++ lsbBits 16 (65535 - n) ++
  bytes.flatMap fun b => lsbBits 8 b.toNat

/-- Input bytes of a block (R228). -/
def blockBytes : Nat := 65535

/-- One block: its bits and whether it is stored; the coded block when it is no longer than the stored one (R231). -/
def chooseBlock (pos : Nat) (c : Counts) (syms : List Sym) (bytes : List Byte) (final : Bool) : List Bool × Bool :=
  let coded := codedBlock c syms final
  if (pos % 8 + coded.length + 7) / 8 ≤ (pos % 8 + 3 + 7) / 8 + 4 + bytes.length then (coded, false)
  else (storedBlock pos bytes final, true)

/-- What the writer has made so far: bits, counts of the last block, hash table, stored blocks. -/
structure Writer where
  bits : List Bool
  counts : Counts
  seen : List (Nat × Nat)
  stored : Nat
deriving DecidableEq, Repr

/-- One block of the payload after the others (R228 to R231). -/
def Writer.block (w : Writer) (payload : List Byte) (a : Array Byte) (j last : Nat) : Writer :=
  let lo := j * blockBytes
  let hi := min payload.length (lo + blockBytes)
  let r := blockSyms a hi (hi - lo) lo w.seen
  let b := chooseBlock w.bits.length w.counts r.1 ((payload.drop lo).take (hi - lo)) (j == last)
  { bits := w.bits ++ b.1, counts := countSyms r.1, seen := r.2, stored := w.stored + bit b.2 }

/-- Bits packed into bytes, least significant first, the last padded with zeros (R227). -/
def packBits : Nat → List Bool → List Byte
  | 0, _ => []
  | fuel + 1, l =>
    if l.isEmpty then []
    else BitVec.ofNat 8 ((l.take 8).foldr (fun b n => bit b + 2 * n) 0) :: packBits fuel (l.drop 8)

/-- The raw DEFLATE stream of a payload, the counts of its last block, and its stored blocks (R227 to R231). -/
def deflate (carried : Counts) (payload : List Byte) : List Byte × Counts × Nat :=
  let last := (max 1 ((payload.length + blockBytes - 1) / blockBytes)) - 1
  let w := (List.range (last + 1)).foldl (fun w j => w.block payload payload.toArray j last)
    ({ bits := [], counts := carried, seen := [], stored := 0 } : Writer)
  (packBits (w.bits.length / 8 + 1) w.bits, w.counts, w.stored)

/-! ## Sealing -/

/-- The copy that an ingot belongs to. -/
def Ingot.copyOf (i : Ingot) : Copy := if i.segment.isSome then .window else .stream

/-- Counts carried to a seam's next ingot of a copy (R230). -/
def State.carried (s : State) (k : Nat) (copy : Copy) : Counts :=
  (match copy with
   | .stream => vget s.smelter.carryStream k none
   | .window => vget s.smelter.carryWindow k none).getD countsOfOne

/-- The same, set; none for counts of 1. -/
def State.setCarry (s : State) (k : Nat) (copy : Copy) (c : Option Counts) : State :=
  match copy with
  | .stream => { s with smelter.carryStream := vmod s.smelter.carryStream k fun _ => c }
  | .window => { s with smelter.carryWindow := vmod s.smelter.carryWindow k fun _ => c }

/-- Bytes of the key that a KEY_ID names. -/
def Nv.keyOf (n : Nv) (id : Nat) : List Byte := ((n.keys.find? fun k => k.1 == id).map Prod.snd).getD []

/-- The 12-byte IV of an ingot (R236, Table 7.2). -/
def State.ivOf (s : State) (i : Ingot) : List Byte :=
  leBytes 8 i.sidx ++
  leBytes 4 (i.source * 2 ^ 26 + bit i.segment.isSome * 2 ^ 25 + bit (s.nv.unitBit.getD false) * 2 ^ 24 + i.use % 2 ^ 24)

/-- Additional authenticated data of an ingot (R133, R234). -/
def Ingot.aad (i : Ingot) : List Byte := i.headBytes (i.flags &&& 0x0F) ++ [0, 0, 0, 0]

/-- The compression stage on an ingot whose COMPRESSED flag is set (R225, R227, R230). -/
def State.compressIngot (s : State) (i : Ingot) : Ingot × State :=
  if i.flags &&& flCompressed == 0 then (i, s)
  else
    let c := if i.fresh then countsOfOne else s.carried i.source i.copyOf
    let (out, counts, stored) := deflate c i.payload
    let s := s.setCarry i.source i.copyOf (some counts)
    ({ i with stored := out },
     { s with smelter.bytesIn := add64 s.smelter.bytesIn i.payload.length
              smelter.bytesOut := add64 s.smelter.bytesOut out.length
              smelter.storedBlocks := add64 s.smelter.storedBlocks stored })

/-- The AES stage on an ingot whose ENCRYPTED flag is set (R234 to R236). -/
def State.encryptIngot (s : State) (i : Ingot) : Ingot :=
  if i.flags &&& flEncrypted == 0 then i
  else
    let (ct, tag) := gcmSeal (s.nv.keyOf i.keyId) (s.ivOf i) i.aad i.stored
    { i with stored := ct, tag }

/-- Cause OUTPUT_FULL (Table 4.7). -/
def gapOutputFull : Nat := 6

/-- An ingot through its engine: compressed, then encrypted; an output over 64 MiB becomes a GAP (R225, R233). -/
def State.sealIngot (s : State) (i : Ingot) : Ingot × State :=
  let (c, s) := s.compressIngot i
  if maxPayload < c.stored.length + (if c.flags &&& flEncrypted == 0 then 0 else 16) then
    (i.gapOf gapOutputFull 0,
     ({ s with smelter.outputFull := inc32 s.smelter.outputFull } : State).setCarry i.source i.copyOf none)
  else ({ s.encryptIngot c with isSealed := true }, s)

/-- An ingot waits for the engine that serves its seam. -/
def Ingot.waitsFor (i : Ingot) (k : Nat) : Bool := !i.isSealed && i.source == k

/-- The first waiting ingot of a seam replaced by its sealed form. -/
def sealFirst (k : Nat) (x : Ingot) : List Ingot → List Ingot
  | [] => []
  | i :: l => if i.waitsFor k then x :: l else i :: sealFirst k x l

/-- The stream that holds a seam's oldest ingot not yet sealed (R143). -/
def State.sealStream (s : State) (k : Nat) : Option (Nat × Ingot) :=
  (List.range 64).foldl (fun (b : Option (Nat × Ingot)) q =>
    match (s.stream q).waiting.find? fun i => i.waitsFor k, b with
    | some i, none => some (q, i)
    | some i, some (p, j) => if i.close < j.close then some (q, i) else some (p, j)
    | none, _ => b) none

/-- SMELTER_SEAL on a copy of a seam: its oldest ingot passes to the door or to its segment (R225, R233). -/
def State.smelterSeal (s : State) (k : Nat) (copy : Copy) : State :=
  match copy with
  | .stream =>
    match s.sealStream k with
    | some (q, i) =>
      let (x, s) := s.sealIngot i
      s.onStream q fun m => { m with waiting := sealFirst k x m.waiting }
    | none => s
  | .window =>
    match s.smelter.windowWaiting.find? fun i => i.waitsFor k with
    | some i =>
      let (x, s) := s.sealIngot i
      ({ s with smelter.windowWaiting := sealFirst k x s.smelter.windowWaiting } : State).flushWindows
    | none => s

/-- The meaning of SMELTER_SEAL (R225 to R236). -/
def execSmelterSeal (k : Fin 48) (copy : Copy) (s : State) : Host.Outcome State Fault Refusal :=
  ran s (s.smelterSeal k.val copy)

end Sys2Proof.Machine
end

