-- ==== Sys2Proof/Machine/TwinOps.lean ====
section
/-! DEFINITION. What the units share of the pair: records to send (R361), divergence (R369), comparison of headers
(R369), Table 12.4. -/

namespace Sys2Proof.Machine

/-- PAIR_STATE codes (Table 12.6). -/
def psNone : Nat := 0
def psTraining : Nat := 1
def psElecting : Nat := 2
def psAligning : Nat := 3
def psCopying : Nat := 4
def psLockstep : Nat := 5
def psExposed : Nat := 6

/-- ROLE codes (Table 12.6). -/
def roleUnpaired : Nat := 0
def roleActive : Nat := 1
def roleShadow : Nat := 2
def roleSolo : Nat := 3
def roleAttaching : Nat := 4

/-- ROLE set on all three copies (R342). -/
def State.setRole (s : State) (r : Nat) : State := { s with twin.role := .all r }

/-- DIVERGE_CAUSE codes (Table 12.4). -/
def dcHeader : Nat := 1
def dcShaft : Nat := 2
def dcRaster : Nat := 3
def dcDoor : Nat := 4
def dcOverflow : Nat := 5
def dcPhase : Nat := 6
def dcEpoch : Nat := 7

/-- CTRL items, which pass the XC_CTRL skip (Tables 11.5, 12.3). -/
def xcCtrl : XcRecord → Bool
  | .hdr .. | .door .. | .cursor .. | .confirm .. | .ack .. | .ring .. | .sync _ | .nack _ => false
  | _ => true

/-- A record queued for the next block with room (R361). -/
def State.xcSend (s : State) (r : XcRecord) : State :=
  if s.partnered then
    let s := if xcCtrl r then s.passSkip 5 else s
    ({ s with twin.recOut := s.twin.recOut ++ [r] } : State).send (.xcRecord r)
  else s

/-- A divergence: the event, the count, the cause; the pair is EXPOSED and resynchronises (R369, R370). -/
def State.exposePair (s : State) (cause : Nat) : State :=
  if s.paired then
    ({ s with twin.divergeCause := cause, twin.divergences := inc32 s.twin.divergences, twin.pairState := psExposed
              twin.resyncDue := some s.sv.sidx, twin.resyncAt := none } : State).event .divergence .crosscut 0xFF
      (leBytes 1 cause)
  else s

/-- A divergence found here; the twin hears of the ones that it does not find by its own comparison (R369). -/
def State.diverge (s : State) (cause : Nat) : State :=
  let s := if s.paired && cause != dcHeader && cause != dcShaft then s.xcSend (.diverged cause) else s
  s.exposePair cause

/-- Header records that a side can hold (R369). -/
def hdrMax : Nat := 65536

/-- A pair of header records of one SEQ matched (R369). -/
def hdrFor (q seq : Nat) (l : List (Nat × Nat × BitVec 16)) : Option (BitVec 16) :=
  (l.find? fun x => x.1 == q && x.2.1 == seq).map fun x => x.2.2

/-- A header record taken out. -/
def hdrDrop (q seq : Nat) (l : List (Nat × Nat × BitVec 16)) : List (Nat × Nat × BitVec 16) :=
  l.filter fun x => !(x.1 == q && x.2.1 == seq)

/-- The module's own header record: sent, and matched or kept (R369). -/
def State.ownHdr (s : State) (i : Ingot) : State :=
  if s.paired then
    let crc := i.doorCrc
    let s := if h : i.stream < 64 then s.xcSend (.hdr ⟨i.stream, h⟩ i.type crc i.seq) else s
    match hdrFor i.stream i.seq s.twin.hdrPeer with
    | some c =>
      let s := { s with twin.hdrPeer := hdrDrop i.stream i.seq s.twin.hdrPeer }
      if c == crc then s else s.diverge dcHeader
    | none =>
      if s.twin.hdrOwn.length < hdrMax then { s with twin.hdrOwn := s.twin.hdrOwn ++ [(i.stream, i.seq, crc)] }
      else s.diverge dcOverflow
  else s

/-- The partner's header record: matched or kept (R369). -/
def State.peerHdr (s : State) (q seq : Nat) (crc : BitVec 16) : State :=
  match hdrFor q seq s.twin.hdrOwn with
  | some c =>
    let s := { s with twin.hdrOwn := hdrDrop q seq s.twin.hdrOwn }
    if c == crc then s else s.diverge dcHeader
  | none =>
    if s.twin.hdrPeer.length < hdrMax then { s with twin.hdrPeer := s.twin.hdrPeer ++ [(q, seq, crc)] }
    else s.diverge dcOverflow

end Sys2Proof.Machine
end

