-- ==== Sys2Proof/Machine/Rings.lean ====
section
/-! DEFINITION. A ring's geometry: size, where an image goes, whether it has room (R281, R282), who writes it (R280). -/

namespace Sys2Proof.Machine

/-- Ring number of the event queue (R288). -/
def eventRing : Nat := 64

/-- Bytes of a ring: codes above 12 are taken as 12 (Table 9.5). -/
def Ring.bytes (r : Ring) : Nat := 2 ^ 20 * 2 ^ (min r.sizeOrder 12)

/-- Where an image of `b` bytes goes: units of FILL or skipped space before it, and whether a FILL is written (R282). -/
def Ring.pad (r : Ring) (b : Nat) : Nat × Bool :=
  let rest := r.bytes - 16 * r.pos % r.bytes
  if rest < 64 then (rest / 16, false)
  else if rest < b then (rest / 16, true)
  else (0, false)

/-- The room test of R282. -/
def Ring.fits (r : Ring) (b : Nat) : Bool :=
  (r.pos + 2 ^ 32 - r.rdPos) % 2 ^ 32 + (r.pad b).1 + b / 16 ≤ r.bytes / 16

/-- The ring's data or its cursor block lies in the range of a selective stream that is not Secure (R278). -/
def State.ringBlocked (s : State) (n : Nat) : Bool := s.ideBlocks (s.ring n).base || s.ideBlocks (s.ring n).cur

/-- A ring has room for an image: enabled, not cut off by a lost stream, and space returned (R278, R282, R286). -/
def State.ringRoom (s : State) (n b : Nat) : Bool :=
  (s.ring n).enable && !s.ringBlocked n && (s.ring n).fits b

/-- Ring of a stream's ingots: that of the configuration it was armed under (R195). -/
def State.ringOf (s : State) (q : Nat) : Option Nat := ((s.stream q).ring).map Fin.val

/-- The stream that writes a ring: armed on it, or with ingots of an earlier arming left (R280). -/
def State.streamOn (s : State) (n : Nat) : Option Nat :=
  (List.range 64).find? fun q =>
    s.ringOf q == some n && ((s.stream q).armed || !(s.stream q).backlog.isEmpty || !(s.stream q).written.isEmpty)

/-- An armed stream names the ring (R220, R280). -/
def State.armedOn (s : State) (n : Nat) : Bool :=
  (List.range 64).any fun q => (s.stream q).armed && s.ringOf q == some n

/-- Causes of ACCESS_FAULT (Table 11.6). -/
def afPartial : Nat := 1
def afLong : Nat := 2
def afLocked : Nat := 3
def afRelease : Nat := 4

/-- Identity codes of the masters (R339). -/
def masterCode : Master → Nat
  | .foreman => 1 | .pf0 => 2 | .pf1 => 3 | .twin => 4

/-- An access refused: counted in ACCESS_FAULT, shown in ACCESS_FAULT_LAST (R336, R354). -/
def State.accessFault (s : State) (offset cause : Nat) (m : Master) : State :=
  { s with regs.accessFault := s.regs.accessFault.inc, regs.access := true
           regs.accessLast := (offset / 4 * 4 % 2 ^ 24, cause, masterCode m) }

/-- PRODUCER of a ring: 0 none, 1 stream, 2 readout, 3 Assay (Table 9.5). -/
def State.producerOf (s : State) (n : Nat) : Nat :=
  if (s.streamOn n).isSome then 1
  else if s.cfg 0x2810 2 == n then 2
  else if s.cfg 0x2C00 1 == n then 3
  else 0

end Sys2Proof.Machine
end

