-- ==== Sys2Proof/Machine/Door.lean ====
section
/-! DEFINITION. The Grizzly: guaranteed egress (R193), measured drain (R201), the floor (R198, R199), the door (R197,
R202 to R204, R210), suspensions (R207), held streams (R208), demotion (R211), and their commands. -/

namespace Sys2Proof.Machine

/-! ## Rates -/

/-- E = min(HOST_DRAIN, G) in Mbit/s (R192). -/
def State.drainE (s : State) : Nat := min (s.cfg 0x2800 2) s.grizzly.g

/-- The drain is withdrawn: the link is not in L0, or PF0 may not write (R209, R292). -/
def State.withdrawn (s : State) : Bool := !s.busOn

/-- Rates of the last ten valid bins in Mbit/s, each missing one counted as E (R201). -/
def State.binRates (s : State) : List Nat :=
  let l := (s.grizzly.bins.take 10).map (8 * ·)
  l ++ List.replicate (10 - l.length) s.drainE

/-- DRAIN_MEASURED (R201). -/
def State.drainMeasured (s : State) : Nat := s.binRates.foldl min (s.binRates.headD 0)

/-- DRAIN_MEAN (R201). -/
def State.drainMean (s : State) : Nat := s.binRates.sum / 10

/-- D in ns (R194). -/
def State.boundD (s : State) : Nat := s.cfg 0x2800 1

/-- The figures of R374 apply: paired, D at least 500 µs. -/
def State.takeoverFigures (s : State) : Bool := s.paired && 500000 ≤ s.boundD

/-- t_pipe in ns (R191, R374). -/
def State.tPipe (s : State) : Nat := if s.takeoverFigures then 104000 else 4000

/-- drain_c in hundredths of a Mbit/s (R201, R374). -/
def State.drainC100 (s : State) : Nat :=
  let c := min (95 * s.drainMeasured) (100 * s.grizzly.g)
  if s.takeoverFigures then min c (100 * s.drainE) else c

/-- `n` bytes are delivered at drain_c within D after t_pipe (R202, R204). -/
def State.inBound (s : State) (n : Nat) : Bool := 800000 * n ≤ s.drainC100 * (s.boundD - s.tPipe)

/-! ## The floor -/

/-- The reference's measured line period stands for the raster in force (R54, R199). -/
def State.measured (s : State) : Bool := (s.sv.state == rsLocked || s.sv.state == rsHoldover) && s.sv.measuredLinePeriod != 0

/-- Samples of a line of the raster in force, rounded up (R199). -/
def State.lineSamples (s : State) : Nat :=
  if s.measured then (s.sv.measuredLinePeriod + 63) / 64 else (s.sv.ppl * 2 ^ 48 + s.sv.inc - 1) / max 1 s.sv.inc

/-- Samples of a frame of the raster in force, rounded up (R199). -/
def State.frameSamples (s : State) : Nat :=
  if s.measured then (s.sv.lpf * s.sv.measuredLinePeriod + 63) / 64
  else (s.sv.lpf * s.sv.ppl * 2 ^ 48 + s.sv.inc - 1) / max 1 s.sv.inc

/-- Samples of a line and of a frame of the raster in force (R199). -/
def State.spansNow (s : State) : Nat × Nat := (s.lineSamples, s.frameSamples)

/-- Nominal span of a SPAN_MODE, for the samples of a line and of a frame (R199). -/
def nominalSpan (spans : Nat × Nat) (mode : Nat) : Nat :=
  if mode = 1 then 4096 else if mode = 2 then 16384 else if mode = 3 then 65536 else spans.1

/-- Payload bound of a floor ingot (R199). -/
def payloadBound (spans : Nat × Nat) (mode : Nat) : Nat :=
  if mode = 4 then min (2 * spans.2) maxPayload else 2 * nominalSpan spans mode

/-- DEFLATE growth of a payload (R198, R232). -/
def growth (p : Nat) : Nat := 5 * ((p + 65534) / 65535) + 16

/-- Open-image size of a floor seam of a stream under given objects (R199). -/
def openImage (spans : Nat × Nat) (val : Nat → Nat → Nat) (q : Nat) : Nat :=
  let p := payloadBound spans (val (0x2840 + q) 1)
  pad16 (64 + p + (if val (0x2A40 + q) 1 == 1 then growth p else 0) + (if val (0x2A40 + q) 2 == 1 then 16 else 0))

/-- A seam is a floor seam of its stream, demotion left out (R196). -/
def floorSeam (val : Nat → Nat → Nat) (k : Nat) : Bool :=
  let q := val (0x2400 + k) 4
  q < 64 && (val (0x2840 + q) 0x10).testBit k

/-- Streams that a mode arms under given objects (R118, R195). -/
def armsUnder (val : Nat → Nat → Nat) (mode : Nat) : List Nat :=
  if streamingMode mode then (List.range 64).filter fun q => inUse val q else []

/-- Reserved rate of a seam in Mbit/s: 48,720 of a floor seam, the GAP allowance of a surplus one (R198). -/
def State.seamRate (s : State) (val : Nat → Nat → Nat) (demoted : BitVec 64) (k : Nat) : Rat :=
  if demoted.getLsbD k then 500
  else if floorSeam val k then 48720
  else max 500 (1920000 / (nominalSpan s.spansNow (val (0x2840 + val (0x2400 + k) 4) 1) : Rat))

/-- F in Mbit/s over the streams that a mode arms (R198, R211). -/
def State.floorRate (s : State) (val : Nat → Nat → Nat) (mode : Nat) (demoted : BitVec 64) : Rat :=
  ((armsUnder val mode).map fun q =>
    ((val (0x2840 + q) 0x12 : Nat) : Rat) + ((seamsOf val q).map fun k => s.seamRate val demoted k).sum).sum

/-- Bf in bytes (R198). -/
def State.floorBurst (s : State) (val : Nat → Nat → Nat) (mode : Nat) : Nat :=
  ((armsUnder val mode).map fun q =>
    ((seamsOf val q).filter fun k => floorSeam val k).length * openImage s.spansNow val q).sum

/-- G of the trained width and speed, L1 and L0p left out of account (R294). -/
def State.trainedG (s : State) : Nat := if s.hf.l0 then egressOf s.hf.speed s.hf.width else 0

/-- The floor check of R198 passes under given objects. -/
def State.floorOk (s : State) (val : Nat → Nat → Nat) (mode : Nat) : Bool :=
  let e := min (val 0x2800 2) s.trainedG
  let d := val 0x2800 1
  let pipe := if s.paired && 500000 ≤ d then 104000 else 4000
  let spans := (armsUnder val mode).all fun q =>
    (seamsOf val q).all fun k => !floorSeam val k || 4096 ≤ nominalSpan s.spansNow (val (0x2840 + q) 1)
  spans && decide (s.floorRate val mode 0 ≤ (e : Rat)) && 8000 * s.floorBurst val mode ≤ e * (d - pipe)

/-- FLOOR_SUM and FLOOR_BURST of the last check (R198, Table 11.2). -/
def State.noteFloor (s : State) (val : Nat → Nat → Nat) (mode : Nat) : State :=
  { s with grizzly.floor := .all ((s.floorRate val mode 0).floor.toNat, s.floorBurst val mode) }

/-- A seam counts as a floor seam now: not demoted (R211). -/
def State.isFloor (s : State) (k : Nat) : Bool := floorSeam s.cfg k && !s.grizzly.demoted.getLsbD k

/-! ## What is queued -/

/-- Size of a list of images. -/
def sizeOf' (l : List Ingot) : Nat := (l.map Ingot.size).sum

/-- Admitted bytes of a stream not yet delivered: in its list, written without a covering cursor record, kept by a
Shadow (R202, R218). -/
def Stream.bytes (m : Stream) : Nat := sizeOf' m.backlog + sizeOf' m.written + sizeOf' m.shadowKept

/-- The stream holds admitted class-A ingots not yet delivered. -/
def Stream.owes (m : Stream) : Bool := !m.backlog.isEmpty || !m.written.isEmpty

/-- A stream is treated as held: under RING_FULL, or while the drain is withdrawn (R208, R209). -/
def State.heldNow (s : State) (q : Nat) : Bool := (s.stream q).held || s.withdrawn

/-- Q: admitted bytes not delivered, those of held streams left out (R202). -/
def State.queued (s : State) : Nat :=
  ((List.range 64).map fun q => if s.heldNow q then 0 else (s.stream q).bytes).sum

/-- HELD: admitted bytes of held streams (R202, R208). -/
def State.heldBytes (s : State) : Nat :=
  ((List.range 64).map fun q => if s.heldNow q then (s.stream q).bytes else 0).sum

/-- The lengths of which w_s is computed, taken anew at every line start (R199). -/
def State.noteSpans (s : State) : State := { s with grizzly.spans := s.spansNow }

/-- Open floor images: w_s of every floor seam of an armed stream (R199, R202). -/
def State.openFloor (s : State) : Nat :=
  ((List.range 48).map fun k =>
    match s.streamOf k with
    | some q => if (s.stream q).armed && s.isFloor k then openImage s.grizzly.spans s.cfg q else 0
    | none => 0).sum

/-- C, the committed backlog (R202). -/
def State.committedBytes (s : State) : Nat := s.queued + s.openFloor

/-- Free backlog space (R202, R214). -/
def State.backlogRoom (s : State) : Nat := s.cfg 0x2800 3 * 2 ^ 20 - s.queued - s.heldBytes

/-- The reserve of 256 MiB (R202). -/
def reserveBytes : Nat := 268435456

/-- A class-A stream is armed for delivery; on a Shadow none is (R195, R294). -/
def State.anyArmed (s : State) : Bool := s.mode != 5 && s.streams.toList.any Stream.armed

/-- "All armed streams" of Table 6.3: armed now, or still holding admitted ingots of an earlier arming (R207); on a
Shadow none (R195). -/
def State.scopeAll (s : State) : BitVec 64 :=
  BitVec.ofNat 64 (maskOf 64 fun q => ((s.stream q).armed && s.mode != 5) || (s.stream q).owes)

/-! ## Suspensions -/

/-- Suspension cause codes (Table 6.3). -/
def suspendCode : SuspendCause → Nat
  | .drainLow => 1 | .ringFull => 2 | .linkDown => 3 | .busMasterOff => 4 | .reserveExceeded => 5 | .takeover => 6

/-- Scope of a suspension now (R207). -/
def State.scopeOf (s : State) (x : Suspension) : BitVec 64 := if x.cause == .ringFull then x.scope else s.scopeAll

/-- A suspension starts, or its condition is broken again (R207). -/
def State.suspend (s : State) (cause : SuspendCause) (scope : BitVec 64) : State :=
  if scope == 0 then s
  else if s.grizzly.suspensions.any (sameSuspension cause scope) then
    { s with grizzly.suspensions := s.grizzly.suspensions.map fun x =>
        if sameSuspension cause scope x then { x with metSince := none } else x }
  else
    ({ s with grizzly.suspensions := s.grizzly.suspensions ++ [{ cause, scope, metSince := none }]
              grizzly.suspendCause := suspendCode cause } : State).event .guaranteeSuspended .grizzly 0xFF
      (leBytes 1 (suspendCode cause) ++ leBytes 8 scope.toNat)

/-- A stream lies in the scope of a suspension (R206, R207). -/
def State.suspended (s : State) (q : Nat) : Bool := s.grizzly.suspensions.any fun x => (s.scopeOf x).getLsbD q

/-- Time for which a condition must be met again: 10 µs (R207). -/
def restoreTime : Nat := nsTime 10000

/-- A suspension ends: met again for 10 µs, and every ingot of its scope admitted before that instant delivered
(R207). -/
def State.suspensionOver (s : State) (x : Suspension) : Bool :=
  match x.metSince with
  | none => false
  | some m =>
    m + restoreTime ≤ s.sv.up &&
      (bitsOf 64 (s.scopeOf x).toNat).all fun q =>
        ((s.stream q).backlog ++ (s.stream q).written).all fun i => m + restoreTime ≤ i.door

/-- Suspensions of a cause that are over end with GUARANTEE_RESTORED (R207). -/
def State.endSuspensions (s : State) (cause : SuspendCause) : State :=
  let gone := s.grizzly.suspensions.filter fun x => x.cause == cause && s.suspensionOver x
  let s := { s with grizzly.suspensions := s.grizzly.suspensions.filter fun x => !(x.cause == cause && s.suspensionOver x) }
  gone.foldl (fun s x => s.event .guaranteeRestored .grizzly 0xFF
    (leBytes 1 (suspendCode cause) ++ leBytes 8 x.scope.toNat)) s

/-- The meaning of SUSPENSION_END (R207). -/
def execSuspensionEnd (cause : SuspendCause) (s : State) : Host.Outcome State Fault Refusal :=
  ran s (s.endSuspensions cause)

/-! ## The door -/

/-- The types that are admitted without a bound test whatever their seam (R197). -/
def Ingot.control (i : Ingot) : Bool := i.type == 3 || i.type == 4 || i.type == 5 || i.type == 7

/-- A run of dropped ingots closes: DROPPED_END (R210). -/
def State.closeRun (s : State) (q : Nat) : State :=
  match (s.stream q).drop with
  | none => s
  | some r =>
    (s.onStream q fun m => { m with drop := none }).notice .droppedEnd .grizzly q
      (leBytes 1 q ++ leBytes 8 r.lastSeq ++ leBytes 8 r.lastSidx ++ leBytes 4 r.count)

/-- An ingot dropped: counted, and a run opened with DROPPED_START or carried on (R210). -/
def State.dropIngot (s : State) (q : Nat) (i : Ingot) : State :=
  let s := { s with grizzly.droppedIngots := inc64 s.grizzly.droppedIngots }
  match (s.stream q).drop with
  | some r =>
    s.onStream q fun m => { m with drop := some { r with lastSeq := i.seq, lastSidx := i.sidx, count := r.count + 1 } }
  | none =>
    (s.onStream q fun m =>
      { m with drop := some { firstSeq := i.seq, lastSeq := i.seq, firstSidx := i.sidx, lastSidx := i.sidx, count := 1 } }).notice
      .droppedStart .grizzly q (leBytes 1 q ++ leBytes 8 i.seq ++ leBytes 8 i.sidx)

/-- The projection of R204 on what will be delivered before an ingot, `ahead` bytes. -/
def State.project (s : State) (ahead : Nat) : State :=
  if s.inBound ahead then s.conditionMet .reserveExceeded 0
  else if s.grizzly.suspensions.isEmpty || s.grizzly.suspensions.any (fun x => x.cause == .reserveExceeded) then
    s.suspend .reserveExceeded s.scopeAll
  else s

/-- An ingot admitted to its stream's list, with its door instant and the D in force (R191, R194, R205, R210); on a
Shadow into the store that a takeover delivers from (R218). -/
def State.letIn (s : State) (q : Nat) (i : Ingot) : State :=
  let s := s.closeRun q
  let i := { i with door := s.sv.up, bound := s.boundD, order := s.sv.up }
  s.onStream q fun m =>
    if s.isShadow then { m with admitted := inc64 m.admitted, shadowKept := m.shadowKept ++ [i] }
    else { m with admitted := inc64 m.admitted, backlog := m.backlog ++ [i] }

/-- Admitted without the bound test, with the projection of R204; bytes of a held stream are outside it. -/
def State.admitFreely (s : State) (q : Nat) (i : Ingot) : State :=
  let ahead := s.queued
  let s := s.letIn q i
  if s.heldNow q then s else s.project ahead

/-- A GAP, MARK, DEADTIME or EPOCH at the door: it may use the reserve, and is dropped when even that is full (R202,
R210). -/
def State.controlDoor (s : State) (q : Nat) (i : Ingot) : State :=
  if i.size ≤ s.backlogRoom then s.admitFreely q i else s.dropIngot q i

/-- Causes REFUSED and BACKLOG_FULL (Table 4.7). -/
def gapRefused : Nat := 4
def gapBacklogFull : Nat := 5

/-- A refused or unplaceable ingot counted (R203). -/
def State.countGap (s : State) (q : Nat) (cause : Nat) : State :=
  if cause = gapRefused then
    ({ s with grizzly.refusedIngots := inc64 s.grizzly.refusedIngots } : State).onStream q fun m =>
      { m with refused := inc64 m.refused }
  else { s with grizzly.backlogFullGaps := inc64 s.grizzly.backlogFullGaps }

/-- The GAP that replaces a refused or unplaceable ingot (R203). -/
def State.replaceByGap (s : State) (q : Nat) (i : Ingot) (cause : Nat) : State :=
  (s.countGap q cause).controlDoor q (i.gapOf cause i.size)

/-- An image larger than half its ring (R203). -/
def State.tooLarge (s : State) (q : Nat) (i : Ingot) : Bool :=
  match s.ringOf q with
  | some n => (s.ring n).bytes < 2 * i.size
  | none => false

/-- RING_TOO_SMALL: counted, shown in the ring's status, and raised (R203). -/
def State.noteTooSmall (s : State) (q : Nat) : State :=
  let s := { s with grizzly.ringTooSmall := inc32 s.grizzly.ringTooSmall }
  let s := match s.ringOf q with
    | some n => s.onRing n fun r => { r with tooSmall := true }
    | none => s
  s.event .ringTooSmall .grizzly q (leBytes 1 q)

/-- A SAMPLE or TRANSITION at the door (R202, R203). -/
def State.dataDoor (s : State) (q : Nat) (i : Ingot) : State :=
  let room := s.backlogRoom
  if s.tooLarge q i then (s.noteTooSmall q).replaceByGap q i gapRefused
  else if s.isFloor i.source then
    (if i.size + reserveBytes ≤ room then s.admitFreely q i else s.replaceByGap q i gapBacklogFull)
  else if s.heldNow q then s.replaceByGap q i gapRefused
  else if s.inBound (s.committedBytes + i.size) && i.size + reserveBytes ≤ room then s.letIn q i
  else s.replaceByGap q i gapRefused

/-- An ingot waits before the door while the check window of an epoch at or before its span is open (R134). -/
def State.doorWaits (s : State) (i : Ingot) : Bool :=
  match s.modes.check with
  | some e => e.sidx < i.sidx + max 1 i.span
  | none => false

/-- An Active that hands over has stopped admitting (R375). -/
def State.admits (s : State) : Bool := !s.twin.handoff && !s.isShadow

/-- The decision that the Active sends for a SEQ (R367). -/
def State.sendDoor (s : State) (q seq : Nat) (kept : Bool) : State :=
  if h : q < 64 then s.xcSend (.door ⟨q, h⟩ seq 1 (if kept then 1 else 0)) else s

/-- An ingot through the door: SPLIT_EPOCH, the header record, the decision and its record (R130, R134, R202, R369). -/
def State.throughDoor (s : State) (q : Nat) (i : Ingot) : State :=
  let i := { i with flags := i.flags ||| s.splitFlag i }
  let s := s.ownHdr i
  let gaps := s.grizzly.refusedIngots + s.grizzly.backlogFullGaps
  let s := if i.control then s.controlDoor q i else s.dataDoor q i
  s.sendDoor q i.seq (s.grizzly.refusedIngots + s.grizzly.backlogFullGaps == gaps)

/-- The Active's decision for a SEQ, when its record has arrived (R367). -/
def State.peerDoor (s : State) (q seq : Nat) : Option Bool :=
  (s.twin.doorPeer.find? fun x => x.1 == q && x.2.1 == seq).map fun x => x.2.2

/-- A Shadow applies the Active's decision to an ingot: admitted, or the same GAP (R203, R218, R367). -/
def State.shadowThrough (s : State) (q : Nat) (i : Ingot) (kept : Bool) : State :=
  let s := { s with twin.doorPeer := s.twin.doorPeer.filter fun x => !(x.1 == q && x.2.1 == i.seq) }
  let i := { i with flags := i.flags ||| s.splitFlag i }
  let s := s.ownHdr i
  let cause := if s.isFloor i.source && !s.tooLarge q i then gapBacklogFull else gapRefused
  if kept then s.letIn q i else (s.countGap q cause).letIn q (i.gapOf cause i.size)

/-- A Shadow's next ingot of a stream, once it is sealed and its record is there (R218, R367). -/
def State.shadowDoor (s : State) (q : Nat) : State :=
  match (s.stream q).waiting with
  | i :: l =>
    match s.peerDoor q i.seq with
    | some kept => if i.isSealed then (s.onStream q fun m => { m with waiting := l }).shadowThrough q i kept else s
    | none => s
  | [] => s

/-- The Grizzly takes the next ingot of a stream, in SEQ order (R202). -/
def State.grizzlyDoor (s : State) (q : Nat) : State :=
  if s.isShadow then s.shadowDoor q
  else
  match (s.stream q).waiting with
  | i :: l =>
    if i.isSealed && !s.doorWaits i && s.admits then (s.onStream q fun m => { m with waiting := l }).throughDoor q i
    else s
  | [] => s

/-- The meaning of GRIZZLY_DOOR (R197, R202 to R204, R210, R218). -/
def execGrizzlyDoor (q : Fin 64) (s : State) : Host.Outcome State Fault Refusal := ran s (s.grizzlyDoor q.val)

/-! ## The drain -/

/-- Some stream that is not held has admitted bytes waiting (R201). -/
def State.anyWaiting (s : State) : Bool := (List.range 64).any fun q => !s.heldNow q && !(s.stream q).backlog.isEmpty

/-- A bin in which the bytes waiting run out is not valid (R201). -/
def State.noteWaiting (s : State) : State := { s with grizzly.binValid := s.grizzly.binValid && s.anyWaiting }

/-- The bins' history cleared (R201). -/
def State.clearDrain (s : State) : State :=
  { s with grizzly.bins := [], grizzly.binBytes := 0, grizzly.binValid := s.anyWaiting }

/-- The Degrade condition of many uncorrectable errors ends once the last second holds no more than sixteen (R217). -/
def State.eccSettle (s : State) : State :=
  let l := s.grizzly.eccTimes.filter fun t => s.sv.up < t + second
  let s := { s with grizzly.eccTimes := l }
  if l.length ≤ 16 then s.dropCondition .eccMany .stockpile else s

/-- An uncorrectable error (R217). -/
def State.eccError (s : State) : State :=
  let l := s.sv.up :: s.grizzly.eccTimes.filter fun t => s.sv.up < t + second
  let s := { s with grizzly.eccUncorrectable := inc32 s.grizzly.eccUncorrectable, grizzly.eccTimes := l }
  let s := s.fault .notice .eccError .stockpile
  if 16 < l.length && !(s.fm.conditions.contains ⟨.eccMany, .stockpile, 0xFF⟩) then s.fault .degrade .eccMany .stockpile else s

/-- A bin ends: a valid one enters the history, and DRAIN_LOW and the projection are looked at anew (R201, R207). -/
def State.binEnd (s : State) : State :=
  let bins := if s.grizzly.binValid then (s.grizzly.binBytes :: s.grizzly.bins).take 10 else s.grizzly.bins
  let s := { s with grizzly.bins := bins, grizzly.binBytes := 0, grizzly.binValid := s.anyWaiting }.eccSettle
  let s := if s.inBound s.queued then s.conditionMet .reserveExceeded 0 else s
  if s.binRates.sum < 10 * s.drainE then s.suspend .drainLow s.scopeAll else s.conditionMet .drainLow 0

/-- The meaning of DRAIN_BIN_END (R201, R207). -/
def execDrainBinEnd (s : State) : Host.Outcome State Fault Refusal := ran s s.binEnd

/-! ## Held streams -/

/-- The scope of one stream. -/
def scopeOne (q : Nat) : BitVec 64 := BitVec.ofNat 64 (2 ^ q)

/-- A stream is held under RING_FULL (R207, R208). -/
def State.hold (s : State) (q : Nat) : State :=
  if (s.stream q).held then s
  else ((s.onStream q fun m => { m with held := true }).suspend .ringFull (scopeOne q)).noteWaiting

/-- The ring of a stream has room for its head ingot (R192, R208). -/
def State.headFits (s : State) (q : Nat) : Bool :=
  match s.ringOf q with
  | some n =>
    match (s.stream q).backlog with
    | i :: _ => s.ringRoom n i.size
    | [] => (s.ring n).enable && !s.ringBlocked n
  | none => false

/-- A stream is held no longer: its RING_FULL suspension can end (R207). -/
def State.endHold (s : State) (q : Nat) : State :=
  if (s.stream q).held then (s.onStream q fun m => { m with held := false }).conditionMet .ringFull (scopeOne q) else s

/-- No stream is held any longer (R207). -/
def State.endHolds (s : State) : State := (List.range 64).foldl State.endHold s

/-- A head ingot has waited 1 µs for ring space while the drain is present (R207; log 17). -/
def State.ringFull (s : State) (q : Nat) : State :=
  if !(s.stream q).backlog.isEmpty && !s.withdrawn && !s.headFits q then s.hold q else s

/-- The meaning of RING_FULL_TIMEOUT (R207, R208). -/
def execRingFullTimeout (q : Fin 64) (s : State) : Host.Outcome State Fault Refusal := ran s (s.ringFull q.val)

/-- A list rejoins the tail of the delivery order: its ingots take the present instant (R208). -/
def Stream.rejoin (m : Stream) (now : Nat) : Stream :=
  { m with backlog := m.backlog.map fun i => { i with order := now } }

/-- A held list rejoins when its ring has room (R208). -/
def State.heldRejoin (s : State) (q : Nat) : State :=
  if (s.stream q).held && s.headFits q then
    (s.onStream q fun m => m.rejoin s.sv.up).endHold q
  else s

/-- The meaning of HELD_LIST_REJOIN (R208). -/
def execHeldListRejoin (q : Fin 64) (s : State) : Host.Outcome State Fault Refusal := ran s (s.heldRejoin q.val)

/-- The drain goes, with its cause (R209). -/
def State.drainGoes (s : State) (cause : SuspendCause) : State := (s.suspend cause s.scopeAll).noteWaiting

/-- The drain may have returned: the lists that are not held under RING_FULL rejoin the tail, and the history is
cleared (R201, R208, R209). -/
def State.drainReturns (s : State) : State :=
  if s.withdrawn then s
  else
    ({ s with streams := vmap s.streams fun _ m => if m.held then m else m.rejoin s.sv.up } : State).clearDrain

/-! ## The link -/

/-- The floor seams of the armed streams, highest first. -/
def State.floorSeams (s : State) : List Nat :=
  ((List.range 48).reverse).filter fun k =>
    s.isFloor k && (match s.streamOf k with
      | some q => (s.stream q).armed
      | none => false)

/-- Floor seams demoted, the highest-numbered first, until F fits E (R211). -/
def State.demote (s : State) : List Nat → State
  | [] => s
  | k :: l =>
    if s.floorRate s.cfg s.mode s.grizzly.demoted ≤ (s.drainE : Rat) then s
    else ({ s with grizzly.demoted := s.grizzly.demoted ||| BitVec.ofNat 64 (2 ^ k) } : State).demote l

/-- Demotion after the link returned at a lower G than it left with, with FLOOR_BREACH (R211). -/
def State.demoteFloor (s : State) : State :=
  let old := s.grizzly.demoted
  let s := if s.grizzly.g < s.grizzly.gWas then s.demote s.floorSeams else s
  if s.grizzly.demoted = old then s
  else s.event .floorBreach .grizzly 0xFF (leBytes 8 s.grizzly.demoted.toNat)

/-- Latency that LTR reports, ns (R295). -/
def State.ltrWanted (s : State) : Nat := if s.anyArmed then 2000 else 1000000

/-- A new LTR message at each change, while LTR is enabled (R295). -/
def State.updateLtr (s : State) : State :=
  if s.hf.l0 && s.hf.cfg0.ltrOn && s.hf.ltr != some s.ltrWanted then
    ({ s with hf.ltr := some s.ltrWanted } : State).send (.ltr s.ltrWanted)
  else s

/-- The endpoint can train: PERST_N released, the Headframe out of reset and powered (R273). -/
def State.canTrain (s : State) : Bool :=
  !s.power.perst && (s.power.phase == .booting || s.power.phase == .running)

/-- The link leaves L0 (R193, R207, R209, R271): in Recovery it keeps its width and speed in force. -/
def State.linkDown (s : State) (recovery : Bool) : State :=
  if s.hf.l0 then
    let s := { s with hf.l0 := false, hf.inL1 := false, hf.l0p := none, grizzly.g := 0
                      grizzly.gWas := egressOf s.hf.speed s.hf.width
                      hf.recoveries := if recovery then inc32 s.hf.recoveries else s.hf.recoveries
                      hf.speed := if recovery then s.hf.speed else 0, hf.width := if recovery then s.hf.width else 0
                      hf.flit := recovery && s.hf.flit }
    (s.drainGoes .linkDown).clearDrain
  else s

/-- The meaning of PCIE_LINK_DOWN (R207, R209, R302). -/
def execPcieLinkDown (recovery : Bool) (s : State) : Host.Outcome State Fault Refusal := ran s (s.linkDown recovery)

/-- The widths that the link can train at, widest first (R270). -/
def linkWidths : List Nat := [16, 8, 4, 1]

/-- The widest width for which every lane works, counted from lane 0, or from lane 15 with lane reversal (R271). -/
def trainedWidth (lanes : BitVec 16) (reversed : Bool) : Option Nat :=
  linkWidths.find? fun w => (List.range w).all fun i => lanes.getLsbD (if reversed then 15 - i else i)

/-- The link returns to L0: G re-read, the history cleared, floor seams demoted where F no longer fits (R193, R201,
R209, R211, R302). It runs in Flit Mode at 64.0 GT/s, and below that where the host port does (R270). -/
def State.linkUp (s : State) (speed width : Nat) (hostFlit : Bool) : State :=
  let narrower := s.hf.width != 0 && width < s.hf.width
  let s := { s with hf.l0 := true, hf.inL1 := false, hf.l0p := none, hf.speed := speed, hf.width := width
                    hf.flit := speed == 6 || hostFlit
                    hf.widthChanges := if narrower then inc32 s.hf.widthChanges else s.hf.widthChanges
                    grizzly.g := egressOf speed width, power.clkreq := true
                    hf.ready := s.hf.ready || s.power.phase == Phase.running }
  let s := s.demoteFloor.clearDrain
  ((s.drainReturns.conditionMet .linkDown 0).updateLtr).flushVectors

/-- The link trains at one of the six speeds over the lanes that work, or stays down (R270, R271). -/
def State.train (s : State) (speed : Nat) (lanes : BitVec 16) (reversed hostFlit : Bool) : State :=
  match trainedWidth lanes reversed with
  | some w => if s.canTrain && within 1 6 speed then s.linkUp speed w hostFlit else s
  | none => s

/-- The meaning of PCIE_LINK_L0 (R193, R211, R270, R271). -/
def execPcieLinkL0 (speed : Nat) (lanes : PcieLanes) (hostFlit : Bool) (s : State) : Host.Outcome State Fault Refusal :=
  ran s (s.train speed lanes.working lanes.reversed hostFlit)

end Sys2Proof.Machine
end

