-- ==== Sys2Proof/Machine/Headframe.lean ====
section
/-! DEFINITION. The Headframe's writes: images (R205, R206, R217, R282), cursor records (R284, R368), the event queue
(R288), ring vectors (R290), readout (R219, R220), ring registers' effects (R283, R286). -/

namespace Sys2Proof.Machine

/-- A write cut into TLPs of at most `size` bytes, none across a 4 KiB boundary (R270). -/
def cutTlps (size : Nat) : Nat → Nat → List Byte → List (Nat × List Byte)
  | 0, addr, data => [(addr, data)]
  | fuel + 1, addr, data =>
    let n := min size (4096 - addr % 4096)
    if data.length ≤ n then [(addr, data)] else (addr, data.take n) :: cutTlps size fuel (addr + n) (data.drop n)

/-- A posted write of the device to host memory: TLPs of at most Max_Payload_Size bytes, each in the selective stream whose
association covers it (R270, R278). -/
def State.hostWrite (s : State) (addr : Nat) (data : List Byte) : State :=
  (cutTlps s.maxPayloadSize data.length addr data).foldl (fun s x => s.send (.hostWrite (s.ideFor x.1) x.1 x.2)) s.wakeLink

/-! ## Placing an image -/

/-- A FILL of `rest` bytes (R141, R282). -/
def fillImage (rest : Nat) : List Byte :=
  let z := rest - 64
  let payload := List.replicate z 0
  let h := leBytes 1 0x18 ++ [0] ++ leBytes 1 0xFF ++ leBytes 1 0xFF ++ leBytes 4 z ++ leBytes 8 0xFFFFFFFFFFFFFFFF ++
    List.replicate 40 (0 : Byte) ++ leBytes 4 z
  h ++ leBytes 2 (crc16 h).toNat ++ leBytes 2 0 ++ payload

/-- An image written at the device position of a ring, behind a FILL or skipped bytes where it would cross the end
(R282). -/
def State.putImage (s : State) (n seq sidx door : Nat) (bytes : List Byte) : State :=
  let r := s.ring n
  let b := bytes.length
  let off := 16 * r.pos % r.bytes
  let pf := r.pad b
  let s := if pf.2 then s.hostWrite (r.base + off) (fillImage (r.bytes - off)) else s
  let p := r.pos + pf.1
  let s := s.hostWrite (r.base + 16 * p % r.bytes) bytes
  let e := (p + b / 16) % 2 ^ 32
  s.onRing n fun r =>
    { r with pos := e, uncovered := r.uncovered ++ [(seq, sidx, b)], laid := r.laid ++ [(e, seq, door)]
             totalBytes := (r.totalBytes + 16 * pf.1 + b) % 2 ^ 64 }

/-! ## Class A -/

/-- Order of heads: earliest door instant, a list that rejoined at that of its rejoining (R205, R208). -/
def headBefore (a b : Ingot) : Bool := a.order < b.order || (a.order == b.order && a.door < b.door)

/-- A new Active waits for the HANDOFF position of a stream's ring (R376). -/
def State.awaitsHandoff (s : State) (q : Nat) : Bool :=
  match s.ringOf q with
  | some n => s.twin.awaitHandoff.getLsbD n
  | none => false

/-- The head ingot of a stream may be written: not held, the ring taken up, room for it (R205, R208, R376). -/
def State.mayWrite (s : State) (q : Nat) : Bool := !(s.stream q).held && !s.awaitsHandoff q && s.headFits q

/-- The stream whose head ingot the Headframe writes next (R205). -/
def State.nextStream (s : State) : Option Nat :=
  if s.withdrawn || s.twin.handoff then none
  else
    ((List.range 64).foldl (fun (b : Option (Nat × Ingot)) q =>
      match (s.stream q).backlog, b with
      | i :: _, none => if s.mayWrite q then some (q, i) else none
      | i :: _, some (p, j) =>
        if s.mayWrite q && headBefore i j then some (q, i) else some (p, j)
      | [], _ => b) none).map Prod.fst

/-- The header is written too late for the last TLP and the cursor to leave by door instant + D at the rate G
(R206). -/
def State.isLate (s : State) (i : Ingot) : Bool :=
  s.grizzly.g == 0 ||
    (i.door + nsTime i.bound) * s.grizzly.g < s.sv.up * s.grizzly.g + nsTime (8000 * (i.size + 64))

/-- FLAGS bits [7:5] of an ingot of a stream as it leaves (R206, R373). -/
def State.leavingFlags (s : State) (q : Nat) (i : Ingot) : Byte :=
  let late := s.isLate i
  (i.flags &&& 0x1F) ||| flagIf (s.suspended q || late) flSuspended ||| flagIf late flLate ||| flagIf i.twinCopy flTwinCopy

/-- Cause MEMORY_ERROR (Table 4.7). -/
def gapMemoryError : Nat := 7

/-- A SAMPLE or TRANSITION. -/
def Ingot.isData (i : Ingot) : Bool := i.type == 1 || i.type == 2

/-- The image with HEADER_CRC complemented (R217). -/
def Ingot.badImage (i : Ingot) : List Byte :=
  let b := i.image
  b.take 60 ++ ((b.drop 60).take 2).map (~~~ ·) ++ b.drop 62

/-- What leaves for an ingot read with or without an uncorrectable error, and its image (R217). -/
def eccImage (bad headerBad : Bool) (i : Ingot) : Ingot × List Byte :=
  if !bad then (i, i.image)
  else if i.isData && !headerBad then
    let g := i.gapOf gapMemoryError i.size
    (g, g.image)
  else (i, i.badImage)

/-- An ingot is read from the Stockpile: the errors that ECC corrected are counted, or an uncorrectable one raised (R217). -/
def State.eccRead (s : State) (corrected : Nat) (bad : Bool) : State :=
  let s := { s with grizzly.eccCorrected := add64 s.grizzly.eccCorrected corrected }
  if bad then s.eccError else s

/-- The first class-A image of a new deliverer: the TAKEOVER suspension that is due starts, its condition met (R213). -/
def State.firstDelivery (s : State) : State :=
  if s.grizzly.takeoverDue then
    (({ s with grizzly.takeoverDue := false } : State).suspend .takeover s.scopeAll).conditionMet .takeover 0
  else s

/-- The head ingot of a stream written into its ring (R205, R206, R217, R282). -/
def State.writeClassA (s : State) (q n : Nat) (i : Ingot) (corrected : Nat) (eccBad : Bool) : State :=
  let s := s.wakeLink.firstDelivery.eccRead corrected eccBad
  let x := (eccImage eccBad false i).1
  let x := { x with flags := s.leavingFlags q x }
  let bytes := if eccBad && !i.isData then x.badImage else x.image
  let s := if x.flags &&& flLate != 0 then { s with grizzly.lateIngots := inc64 s.grizzly.lateIngots } else s
  let s := s.putImage n x.seq x.sidx i.door bytes
  let s := s.onStream q fun m => { m with backlog := m.backlog.drop 1, written := m.written ++ [i] }
  ({ s with grizzly.binBytes := s.grizzly.binBytes + bytes.length } : State).noteWaiting

/-! ## Readout -/

/-- RD_STATE codes (Table 6.8). -/
def rdIdle : Nat := 0
def rdRunning : Nat := 1
def rdDone : Nat := 2
def rdFailed : Nat := 3

/-- A readout in progress ends at an image boundary with FAILED (R220). -/
def State.endReadout (s : State) : State :=
  if s.grizzly.rdState == rdRunning then { s with grizzly.rdState := rdFailed, grizzly.rdLeft := none } else s

/-- Modes in which a readout runs (R219). -/
def readoutMode (m : Nat) : Bool := m == 1 || m == 3 || m == 4 || m == 6

/-- RD_START = 1 (R219, R220, R280). -/
def State.rdStart (s : State) : Taken :=
  let g := s.cfg 0x2810 1
  let ring := s.cfg 0x2810 2
  if (s.segment g).code != 3 || ring == 0xFF || s.armedOn ring || ring == s.cfg 0x2C00 1 then refuse abValueRange s
  else if !readoutMode s.mode || s.grizzly.rdState == rdRunning then refuse abBusy s
  else if h : g < 64 then
    taken { s with grizzly.rdState := rdRunning, grizzly.rdBytes := 0, grizzly.rdSince := s.sv.up
                   grizzly.rdLeft := some (⟨g, h⟩, (s.segment g).images.filterMap WinImage.ingot) }
  else refuse abValueRange s

/-- RD_START = 0 (R220). -/
def State.rdStop (s : State) : Taken := taken s.endReadout

/-- A write of RD_RING (R220, R280). -/
def State.rdRingOk (s : State) (v : Nat) : Bool := v == 0xFF || (!s.armedOn v && v != s.cfg 0x2C00 1)

/-- The Headframe could write a class-B item now (R221). -/
def State.classBReady (s : State) : Bool :=
  let n := s.cfg 0x2C00 1
  s.busOn && s.grizzly.classB.any fun x =>
    match x with
    | .entry _ => s.ringRoom eventRing 64
    | .assay i => n != 0xFF && s.producerOf n == 3 && s.ringRoom n i.size

/-- Time in which class C gains `b` bytes of its share of 0.5 Gbit/s (R221). -/
def shareTime (b : Nat) : Nat := nsTime (16 * b)

/-- A readout image of `b` bytes gives way to class B, but for the share of class C since its image before (R221; log 60). -/
def State.yieldsToB (s : State) (b : Nat) : Bool := s.classBReady && s.sv.up < s.grizzly.rdSince + shareTime b

/-- The readout's next image (R217, R219, R221, R282). -/
def State.writeReadout (s : State) (corrected : Nat) (eccBad headerBad : Bool) : State :=
  match s.grizzly.rdLeft with
  | some (g, i :: l) =>
    let n := s.cfg 0x2810 2
    if !(s.grizzly.rdState == rdRunning && s.busOn && s.producerOf n == 2) then s
    else if (s.ring n).bytes < 2 * i.size then s.endReadout.onRing n fun r => { r with tooSmall := true }
    else if s.ringRoom n i.size && !s.yieldsToB i.size then
      let s := s.eccRead corrected eccBad
      let (x, bytes) := eccImage eccBad headerBad i
      let s := s.putImage n x.seq x.sidx s.sv.up bytes
      { s with grizzly.rdSince := s.sv.up, grizzly.rdBytes := (s.grizzly.rdBytes + bytes.length) % 2 ^ 64, grizzly.rdLeft := some (g, l) }
    else s
  | _ => s

/-- The meaning of READOUT_DONE: every image is written, RD_STATE reads DONE (R219). -/
def execReadoutDone (s : State) : Host.Outcome State Fault Refusal :=
  ran s (
    match s.grizzly.rdLeft with
    | some (g, []) =>
      if s.grizzly.rdState == rdRunning then
        ({ s with grizzly.rdState := rdDone, grizzly.rdLeft := none } : State).onSegment g.val fun m =>
          { m with readOut := true }
      else s
    | _ => s)

/-! ## Class B -/

/-- The first item of a kind in the class-B queue, with the queue without it. -/
def takeFirst {α β : Type} (f : α → Option β) : List α → Option (β × List α)
  | [] => none
  | x :: l =>
    match f x with
    | some b => some (b, l)
    | none => (takeFirst f l).map fun r => (r.1, x :: r.2)

/-- The ASSAY image of an item. -/
def ClassBItem.image? : ClassBItem → Option Ingot
  | .assay i => some i
  | .entry _ => none

/-- The entry of an item. -/
def ClassBItem.entry? : ClassBItem → Option LogEntry
  | .entry e => some e
  | .assay _ => none

/-- The next ASSAY image into the ring of ASSAY_RING (R266, R280, R282); without a ring it is dropped. -/
def State.writeAssay (s : State) (corrected : Nat) (eccBad headerBad : Bool) : State :=
  match takeFirst ClassBItem.image? s.grizzly.classB with
  | some (i, l) =>
    let n := s.cfg 0x2C00 1
    if n == 0xFF then { s with grizzly.classB := l, grizzly.classBDropped := inc32 s.grizzly.classBDropped }
    else if s.busOn && s.producerOf n == 3 && s.ringRoom n i.size then
      let s := s.eccRead corrected eccBad
      ({ s with grizzly.classB := l } : State).putImage n i.seq i.sidx s.sv.up (eccImage eccBad headerBad i).2
    else s
  | none => s

/-- The meaning of IMAGE_WRITE: the producer's next image, where it is that producer's turn (R205, R206, R217, R219,
R282). -/
def execImageWrite (p : Producer) (ecc : EccRead) (headerBad : Bool) (s : State) : Host.Outcome State Fault Refusal :=
  ran s (
    match p with
    | .stream q =>
      match s.nextStream == some q.val, (s.stream q.val).backlog, s.ringOf q.val with
      | true, i :: _, some n => s.writeClassA q.val n i ecc.corrected ecc.bad
      | _, _, _ => s
    | .readout => s.writeReadout ecc.corrected ecc.bad headerBad
    | .assay => s.writeAssay ecc.corrected ecc.bad headerBad)

/-! ## Cursor records -/

/-- KIND of a ring's cursor records (Table 9.4). -/
def State.kindOf (s : State) (n : Nat) : Nat := if n = eventRing then 4 else s.producerOf n

/-- STATE of a cursor record (Table 9.4). -/
def State.cursorState (s : State) (n : Nat) : Nat :=
  let hs := match s.streamOn n with
    | some q => 2 * bit (s.heldNow q) + 4 * bit (s.suspended q)
    | none => 0
  bit (s.ring n).restart + hs

/-- A cursor record (Table 9.4). -/
def State.cursorRecord (s : State) (n : Nat) (f : Formed) (seq sidx : Nat) : List Byte :=
  let r := s.ring n
  let total := r.totalBytes - 16 * ((r.pos + 2 ^ 32 - f.wrPos) % 2 ^ 32)
  let h := leBytes 1 n ++ leBytes 1 (s.kindOf n) ++ leBytes 2 (s.cursorState n) ++ leBytes 4 f.gen ++ leBytes 4 f.wrPos ++
    leBytes 4 r.rdPos ++ leBytes 8 seq ++ leBytes 8 sidx ++ leBytes 12 (time96 s.sv.time) ++ leBytes 4 f.images ++
    leBytes 8 total ++ leBytes 2 s.epochNo ++ leBytes 2 0
  h ++ leBytes 2 (crc16 h).toNat ++ leBytes 2 0

/-- A ring's vector becomes due (R290); the counts restart. -/
def State.ringDue (s : State) (n : Nat) : State :=
  (s.onRing n fun r => { r with unsignalled := 0, unsignalledAny := false }).raiseVector .pf0 n

/-- The byte condition of R290, or a condition whose object is 0. -/
def State.checkDue (s : State) (n : Nat) : State :=
  let r := s.ring n
  if r.irqEn && r.unsignalledAny && (r.irqBytes == 0 || r.irqDelay == 0 || 4096 * r.irqBytes ≤ r.unsignalled) then
    s.ringDue n
  else s

/-- A formed record transmitted: the images it covers are delivered (R190, R284, R290). -/
def State.transmitCursor (s : State) (n : Nat) (f : Formed) : State :=
  let r := s.ring n
  let cov := r.uncovered.take f.images
  let last := (cov.getLast?.map fun x => (x.1, x.2.1)).or r.lastCovered
  let x := last.getD (0xFFFFFFFFFFFFFFFF, 0)
  let s := s.hostWrite r.cur (s.cursorRecord n f x.1 x.2)
  let s := match s.streamOn n with
    | some q => s.onStream q fun m => { m with written := m.written.drop f.images }
    | none => s
  let s := s.onRing n fun r =>
    { r with wrPos := f.wrPos, uncovered := r.uncovered.drop f.images, lastCovered := last, restart := false
             unsignalled := r.unsignalled + (cov.map fun x => x.2.2).sum
             unsignalledAny := r.unsignalledAny || !cov.isEmpty, awaiting := none }
  s.checkDue n

/-- A cursor record over every image written (R284); in a pair the Active sends its CURSOR record and waits for
CONFIRM (R368). `always` writes it with nothing new to cover (R17, R376). -/
def State.cursorWrite (s : State) (n : Nat) (handoff := false) (always := false) : State :=
  let r := s.ring n
  if r.uncovered.isEmpty && !handoff && !always || !s.busOn || s.ringBlocked n || r.awaiting.isSome then s
  else
    let f : Formed := { gen := (r.gen + 1) % 2 ^ 32, wrPos := r.pos, images := r.uncovered.length, since := s.sv.up }
    let s := s.onRing n fun r => { r with gen := f.gen }
    if h : n < 64 then
      if s.paired && s.role == roleActive then
        let seq := ((r.uncovered.getLast?.map fun x => x.1).or (r.lastCovered.map Prod.fst)).getD 0xFFFFFFFFFFFFFFFF
        (s.onRing n fun r => { r with awaiting := some f }).xcSend (.cursor ⟨n, h⟩ f.gen f.wrPos seq seq handoff)
      else s.transmitCursor n f
    else s.transmitCursor n f

/-- The meaning of CURSOR_RECORD_WRITE (R284, R289, R290, R368). -/
def execCursorRecordWrite (ring : Fin 64) (s : State) : Host.Outcome State Fault Refusal :=
  ran s (s.cursorWrite ring.val)

/-- CONFIRM of a GEN: the record leaves, and the wait is measured (R368). -/
def State.confirmCursor (s : State) (n gen : Nat) : State :=
  match (s.ring n).awaiting with
  | some f =>
    if f.gen == gen then
      let waited := (s.sv.up - f.since) / tuPerNs
      ({ s with twin.confirmWaitMax := max s.twin.confirmWaitMax (min waited 0xFFFFFFFF) } : State).transmitCursor n f
    else s
  | none => s

/-- A module left without a partner transmits the records that waited (R368). -/
def State.releaseCursors (s : State) : State :=
  (List.range 64).foldl (fun s n =>
    match (s.ring n).awaiting with
    | some f => if s.busOn then s.transmitCursor n f else s.onRing n fun r => { r with awaiting := none }
    | none => s) s

/-- The meaning of EVENT_QUEUE_ENTRY_WRITE: the oldest entry of the class-B queue, with the cursor record that covers
it (R222, R284, R288). -/
def execEventQueueEntryWrite (s : State) : Host.Outcome State Fault Refusal :=
  ran s (
    match takeFirst ClassBItem.entry? s.grizzly.classB with
    | some (e, l) =>
      if s.busOn && s.ringRoom eventRing 64 then
        (({ s with grizzly.classB := l } : State).putImage eventRing 0xFFFFFFFFFFFFFFFF e.sidx s.sv.up e.bytes).cursorWrite eventRing
      else s
    | none => s)

/-- The meaning of MSIX_DELAY_EXPIRY (R290; log 17). -/
def execMsixDelayExpiry (ring : Fin 65) (s : State) : Host.Outcome State Fault Refusal :=
  ran s (if (s.ring ring.val).irqEn && (s.ring ring.val).unsignalledAny then s.ringDue ring.val else s)

/-! ## Ring registers -/

/-- Offset of a ring's registers in BAR 0 (R287, R288). -/
def ringOffset (n : Nat) : Nat := if n = eventRing then 0x11000 else 0x10000 + 0x40 * n

/-- RING_IRQ as a word (Table 9.5). -/
def Ring.irqWord (r : Ring) : Nat := r.irqBytes + 2 ^ 16 * r.irqDelay

/-- RING_CTRL as a word (Table 9.5). -/
def Ring.ctrlWord (r : Ring) : Nat := bit r.enable + 2 * bit r.irqEn + 16 * r.sizeOrder

/-- The Active reports a ring's settings to the Shadow (R367, Table 12.3). -/
def State.sendRing (s : State) (n : Nat) : State :=
  if h : n < 64 then
    if s.role == roleActive then
      let r := s.ring n
      s.xcSend (.ring ⟨n, h⟩ r.base r.cur r.sizeOrder r.enable (BitVec.ofNat 32 r.irqWord))
    else s
  else s

/-- ENABLE written as 1 on a disabled ring (R286). -/
def State.ringEnable (s : State) (n : Nat) : State :=
  if (s.ring n).enable then s
  else
    let s := match s.streamOn n with
      | some q => s.onStream q fun m => { m with backlog := m.written ++ m.backlog, written := [] }
      | none => s
    (s.onRing n fun r =>
      { r with enable := true, pos := 0, rdPos := 0, wrPos := 0, gen := 0, restart := true, uncovered := [], laid := []
               lastCovered := none, totalBytes := 0, unsignalled := 0, unsignalledAny := false, awaiting := none }).sendRing n

/-- ENABLE written as 0 (R286): a cursor record over the images written, then the ring takes nothing more, and a
stream on it is held. -/
def State.ringDisable (s : State) (n : Nat) : State :=
  if (s.ring n).enable then
    let s := s.cursorWrite n
    let s := (s.onRing n fun r => { r with enable := false }).sendRing n
    match s.streamOn n with
    | some q => s.hold q
    | none => s
  else s

/-- The meaning of RING_ENABLE (R286). -/
def execRingEnable (ring : Fin 65) (s : State) : Host.Outcome State Fault Refusal := ran s (s.ringEnable ring.val)

/-- The meaning of RING_DISABLE (R286). -/
def execRingDisable (ring : Fin 65) (s : State) : Host.Outcome State Fault Refusal := ran s (s.ringDisable ring.val)

/-- Distance from `a` forward to `b` in ring positions. -/
def posDist (a b : Nat) : Nat := (b % 2 ^ 32 + 2 ^ 32 - a % 2 ^ 32) % 2 ^ 32

/-- RD_POS taken: images wholly before it are returned (R283). -/
def Ring.return_ (r : Ring) (v : Nat) : Ring :=
  { r with rdPos := v % 2 ^ 32, laid := r.laid.dropWhile fun x => posDist r.rdPos x.1 ≤ posDist r.rdPos v }

/-- SEQ of the first ingot of a ring not wholly returned, or the one after the last (R367, Table 12.3). -/
def Ring.firstLeft (r : Ring) : Nat :=
  match r.laid with
  | x :: _ => x.2.1
  | [] => (r.lastCovered.map fun x => x.1 + 1).getD 0

/-- A write of RD_POS (R283, R367). -/
def State.rdPosWrite (s : State) (n v : Nat) : State :=
  let r := s.ring n
  if s.isShadow && n < 64 then s.accessFault (ringOffset n + 0x14) afLocked .pf0
  else if posDist r.rdPos v ≤ posDist r.rdPos r.wrPos then
    let s := s.onRing n fun r => r.return_ v
    if h : n < 64 then
      (if s.role == roleActive then s.xcSend (.ack ⟨n, h⟩ (v % 2 ^ 32) (s.ring n).firstLeft) else s)
    else s
  else (s.onRing n fun r => { r with cursorBad := true }).event .ringCursorBad .headframe n (leBytes 1 n)

/-- The meaning of RING_RD_POS_WRITE (R283). -/
def execRingRdPosWrite (ring : Fin 65) (v : Word) (s : State) : Host.Outcome State Fault Refusal :=
  ran s (s.rdPosWrite ring.val v.toNat)

end Sys2Proof.Machine
end

