-- ==== Sys2Proof/Machine/Inflate.lean ====
section
/-! DEFINITION. The decompressor: raw DEFLATE (RFC 1951) as R239 and R244 take it, with the failing byte of R245 (log 24).
A fault is a code of Table 7.8 with the bit at which the field or symbol that failed begins. -/

namespace Sys2Proof.Machine

/-- A fault: code of Table 7.8 and first bit of the field or symbol that failed. -/
abbrev InfFault := Nat × Nat

/-- Codes of Table 7.8. -/
def jeBadCode : Nat := 0x01
def jeBlockType : Nat := 0x02
def jeStoredLen : Nat := 0x03
def jeDistance : Nat := 0x04
def jeOverrun : Nat := 0x05
def jeTruncated : Nat := 0x06
def jeOutputFull : Nat := 0x07
def jeCrc : Nat := 0x08
def jeBadDescriptor : Nat := 0x10
def jeReadFailed : Nat := 0x11
def jeAborted : Nat := 0x12

/-- `n` bits from bit `p`, the first the least significant; none past the end of the input. -/
def bitsAt (a : Array Byte) (p n : Nat) : Option Nat :=
  if p + n ≤ 8 * a.size then
    some ((List.range n).foldl (fun v i => v + (if (byteAt a ((p + i) / 8)).testBit ((p + i) % 8) then 2 ^ i else 0)) 0)
  else none

/-- A field of `n` bits, with the fault of a cut one, which began at `at_`. -/
def fieldAt (a : Array Byte) (p n at_ : Nat) : Except InfFault Nat :=
  match bitsAt a p n with
  | some v => .ok v
  | none => .error (jeTruncated, at_)

/-- The symbol of a code, if it is one. -/
def symOf (t : List (Nat × Nat)) (code len : Nat) : Option Nat :=
  t.findIdx? fun c => c.2 == len && c.1 == code && len != 0

/-- Some longer code begins so. -/
def hasPrefix (t : List (Nat × Nat)) (code len : Nat) : Bool := t.any fun c => len < c.2 && c.1 / 2 ^ (c.2 - len) == code

/-- A Huffman symbol from bit `p`, and the bit after it; `at_` is where the symbol that a fault names began. -/
def huffAt (a : Array Byte) (t : List (Nat × Nat)) (at_ : Nat) : Nat → Nat → Nat → Nat → Except InfFault (Nat × Nat)
  | 0, _, _, _ => .error (jeBadCode, at_)
  | fuel + 1, p, code, len =>
    match bitsAt a p 1 with
    | none => .error (jeTruncated, at_)
    | some b =>
      let code := 2 * code + b
      match symOf t code (len + 1) with
      | some s => .ok (s, p + 1)
      | none => if hasPrefix t code (len + 1) then huffAt a t at_ fuel (p + 1) code (len + 1) else .error (jeBadCode, at_)

/-- Longest Huffman code. -/
def maxCode : Nat := 15

/-- A set of code lengths has more codes than its lengths allow. -/
def overSubscribed (lens : List Nat) : Bool :=
  2 ^ maxCode < ((lens.filter (0 < ·)).map fun l => 2 ^ (maxCode - l)).sum

/-- The code lengths of the code-length code, in symbol order. -/
def clcLengths (a : Array Byte) (p n : Nat) : Except InfFault (List Nat) := do
  let l ← (List.range n).mapM fun i => fieldAt a (p + 3 * i) 3 (p + 3 * i)
  pure ((List.range 19).map fun s => (lengthOrder.findIdx? (· == s)).elim 0 fun i => l.getD i 0)

/-- The literal/length and distance code lengths of a dynamic block, `total` of them. -/
def readLengths (a : Array Byte) (t : List (Nat × Nat)) (total : Nat) : Nat → Nat → List Nat → Except InfFault (List Nat × Nat)
  | 0, p, acc => .ok (acc, p)
  | fuel + 1, p, acc =>
    if total ≤ acc.length then .ok (acc, p)
    else do
      let (s, q) ← huffAt a t p maxCode p 0 0
      if s < 16 then readLengths a t total fuel q (acc ++ [s])
      else
        let bits := if s = 16 then 2 else if s = 17 then 3 else 7
        let v ← fieldAt a q bits p
        let n := v + (if s = 18 then 11 else 3)
        if s = 16 && acc.isEmpty || total < acc.length + n then .error (jeBadCode, p)
        else readLengths a t total fuel (q + bits) (acc ++ List.replicate n (if s = 16 then acc.getLastD 0 else 0))

/-- The tables of a dynamic block whose HLIT begins at `p`, and the bit after its header. -/
def dynamicTables (a : Array Byte) (p : Nat) : Except InfFault (List (Nat × Nat) × List (Nat × Nat) × Nat) := do
  let hlit ← fieldAt a p 5 p
  if 29 < hlit then .error (jeBadCode, p)
  else
    let hdist ← fieldAt a (p + 5) 5 (p + 5)
    if 29 < hdist then .error (jeBadCode, p + 5)
    else
      let hclen ← fieldAt a (p + 10) 4 (p + 10)
      let q := p + 14
      let cl ← clcLengths a q (hclen + 4)
      if overSubscribed cl then .error (jeBadCode, q)
      else
        let r := q + 3 * (hclen + 4)
        let (lens, e) ← readLengths a (canonical cl) (hlit + hdist + 258) (hlit + hdist + 258) r []
        let lit := lens.take (hlit + 257)
        let dist := lens.drop (hlit + 257)
        if overSubscribed lit || overSubscribed dist || lit.getD symEob 0 == 0 then .error (jeBadCode, r)
        else .ok (canonical lit, canonical dist, e)

/-- Code lengths of the fixed code. -/
def fixedLit : List Nat := List.replicate 144 8 ++ List.replicate 112 9 ++ List.replicate 24 7 ++ List.replicate 8 8

/-- Distance code lengths of the fixed code. -/
def fixedDist : List Nat := List.replicate 32 5

/-- What the decoder has read: the symbol, and the bit after it. -/
inductive InfSym where
  | lit (b : Byte)
  | copy (len dist : Nat)
  | eob
deriving DecidableEq, Repr

/-- One literal, match or end-of-block from bit `p` (R244). -/
def symbolAt (a : Array Byte) (lit dist : List (Nat × Nat)) (p : Nat) : Except InfFault (InfSym × Nat) := do
  let (s, q) ← huffAt a lit p maxCode p 0 0
  if s < 256 then .ok (.lit (BitVec.ofNat 8 s), q)
  else if s = symEob then .ok (.eob, q)
  else if 285 < s then .error (jeBadCode, p)
  else
    let lc := lengthCodes.getD (s - 257) (0, 0)
    let lx ← fieldAt a q lc.2 p
    let (d, r) ← huffAt a dist p maxCode (q + lc.2) 0 0
    if 29 < d then .error (jeBadCode, p)
    else
      let dc := distCodes.getD d (0, 0)
      let dx ← fieldAt a r dc.2 p
      .ok (.copy (lc.1 + lx) (dc.1 + dx), r + dc.2)

/-- Limits of a job: declared length, 0 for none, and capacity. -/
structure InfLimits where
  expect : Nat
  cap : Nat
deriving DecidableEq, Repr

/-- The fault of `n` more bytes behind `have_` (R244). -/
def InfLimits.fault (l : InfLimits) (have_ n : Nat) : Option Nat :=
  if l.expect != 0 && l.expect < have_ + n then some jeOverrun
  else if l.cap < have_ + n then some jeOutputFull
  else none

/-- The bytes of a match. -/
def copyBytes (d : Nat) : Nat → Array Byte → Array Byte
  | 0, out => out
  | n + 1, out => copyBytes d n (out.push (out.getD (out.size - d) 0))

/-- What a block leaves: output, bit after it or where the fault lies, and the fault's code. -/
structure InfState where
  out : Array Byte
  pos : Nat
  code : Option Nat := none
deriving DecidableEq, Repr

/-- The symbols of a Huffman block (R244). -/
def inflateSyms (a : Array Byte) (lit dist : List (Nat × Nat)) (l : InfLimits) : Nat → Nat → Array Byte → InfState
  | 0, p, out => { out, pos := p, code := some jeTruncated }
  | fuel + 1, p, out =>
    match symbolAt a lit dist p with
    | .error e => { out, pos := e.2, code := some e.1 }
    | .ok (.eob, q) => { out, pos := q }
    | .ok (.lit b, q) =>
      match l.fault out.size 1 with
      | some c => { out, pos := p, code := some c }
      | none => inflateSyms a lit dist l fuel q (out.push b)
    | .ok (.copy n d, q) =>
      if out.size < d then { out, pos := p, code := some jeDistance }
      else
        match l.fault out.size n with
        | some c => { out, pos := p, code := some c }
        | none => inflateSyms a lit dist l fuel q (copyBytes d n out)

/-- A stored block whose LEN lies at the byte boundary at or after bit `p` (R239, R244). -/
def inflateStored (a : Array Byte) (l : InfLimits) (p : Nat) (out : Array Byte) : InfState :=
  let q := (p + 7) / 8 * 8
  match fieldAt a q 16 q, fieldAt a (q + 16) 16 (q + 16) with
  | .error e, _ => { out, pos := e.2, code := some e.1 }
  | _, .error e => { out, pos := e.2, code := some e.1 }
  | .ok len, .ok nlen =>
    if len + nlen != 0xFFFF then { out, pos := q + 16, code := some jeStoredLen }
    else if 8 * a.size < q + 32 + 8 * len then { out, pos := q, code := some jeTruncated }
    else
      match l.fault out.size len with
      | some c => { out, pos := q, code := some c }
      | none =>
        { out := (List.range len).foldl (fun o i => o.push (a.getD ((q + 32) / 8 + i) 0)) out, pos := q + 32 + 8 * len }

/-- The blocks of a stream, to the end of the final one (R239, R244). -/
def inflateBlocks (a : Array Byte) (l : InfLimits) : Nat → Nat → Array Byte → InfState
  | 0, p, out => { out, pos := p, code := some jeTruncated }
  | fuel + 1, p, out =>
    match fieldAt a p 1 p, fieldAt a (p + 1) 2 (p + 1) with
    | .error e, _ => { out, pos := e.2, code := some e.1 }
    | _, .error e => { out, pos := e.2, code := some e.1 }
    | .ok final, .ok ty =>
      let r :=
        if ty = 0 then inflateStored a l (p + 3) out
        else if ty = 1 then inflateSyms a (canonical fixedLit) (canonical fixedDist) l (8 * a.size + 1) (p + 3) out
        else if ty = 2 then
          (match dynamicTables a (p + 3) with
           | .error e => { out, pos := e.2, code := some e.1 }
           | .ok (lit, dist, q) => inflateSyms a lit dist l (8 * a.size + 1) q out)
        else { out, pos := p + 1, code := some jeBlockType }
      if r.code.isSome || final = 1 then r else inflateBlocks a l fuel r.pos r.out

/-- Outcome of a job: ERROR, the bytes written, IN_USED (Table 7.8, R245). -/
structure JobResult where
  code : Nat
  out : List Byte
  used : Nat
deriving DecidableEq, Repr

/-- A job's input decoded and checked (R244, R245). -/
def inflateJob (input : List Byte) (expect cap : Nat) (check : Bool) (crc : Nat) : JobResult :=
  let a := input.toArray
  let r := inflateBlocks a { expect, cap } (8 * a.size + 1) 0 #[]
  match r.code with
  | some c => { code := c, out := r.out.toList, used := r.pos / 8 }
  | none =>
    if r.out.size < expect then { code := jeOverrun, out := r.out.toList, used := (r.pos - 1) / 8 }
    else if check && (crc32 r.out.toList).toNat != crc then { code := jeCrc, out := r.out.toList, used := 0 }
    else { code := 0, out := r.out.toList, used := (r.pos + 7) / 8 }

end Sys2Proof.Machine
end

