-- ==== Sys2Proof/Machine/Jobs.lean ====
section
/-! DEFINITION. The job ring (R240 to R247), tags and completions (R296, R297, R299), and their commands. -/

namespace Sys2Proof.Machine

/-! ## Skips that carry jobs -/

/-- An item enters a numbered skip (R352). -/
def State.pushSkip (s : State) (k words : Nat) : State :=
  { s with regs.skips := vmod s.regs.skips k fun x =>
      { x with items := x.items ++ [words], pktIn := (x.pktIn + 1) % 2 ^ 64 } }

/-- The oldest item of a numbered skip is read (R352). -/
def State.popSkip (s : State) (k : Nat) : State :=
  { s with regs.skips := vmod s.regs.skips k fun x =>
      if x.items.isEmpty then x
      else { x with items := x.items.drop 1, pktOut := (x.pktOut + 1) % 2 ^ 64, restart := false } }

/-! ## Tags -/

/-- The lowest tag that is free: 10-bit tags, from 256 on, while 10-Bit Tag Requester Enable is set, 8-bit tags otherwise
(R296; log 25). -/
def State.freeTag (s : State) : Option Nat :=
  (if s.hf.cfg0.tenBitTags then (List.range 768).map (256 + ·) else List.range 256).find? fun t => !s.hf.tags.any fun x => x.tag == t

/-- A non-posted request issued under a tag (R296). -/
def State.issueRead (s : State) (tag : Nat) (descriptor : Bool) (slot addr len : Nat) : State :=
  ({ s with hf.tags := s.hf.tags ++ [{ tag, descriptor, slot, orphaned := false, timedOut := false }] } : State).wakeLink.send
    (.hostRead tag addr len)

/-- A tag released (R296). -/
def State.dropTag (s : State) (tag : Nat) : State := { s with hf.tags := s.hf.tags.filter fun x => x.tag != tag }

/-! ## The ring -/

/-- Entries of the job ring (Table 7.4). -/
def Smelter.ringSize (m : Smelter) : Nat := 64 * 2 ^ min m.order 10

/-- SMJ_STATUS.RUNNING: descriptors are being fetched, or jobs are in progress (Table 7.6). -/
def Smelter.running (m : Smelter) : Bool :=
  !m.fetching.isEmpty || !m.queue.isEmpty || !m.stopped.isEmpty || m.engines.toList.any Option.isSome

/-- HALT_CAUSE codes (Table 7.6). -/
def hcBadTail : Nat := 1
def hcDescRead : Nat := 2

/-- The ring halts: fetching stops (R240). -/
def State.haltRing (s : State) (cause : Nat) : State :=
  { s with smelter.enable := false, smelter.halted := true, smelter.haltCause := cause }

/-- ENABLE written as 1 when it was 0 sets HEAD to 0 (Table 7.4). -/
def State.smjEnable (s : State) : State :=
  if s.smelter.enable then s
  else
    let s := { s with smelter.enable := true, smelter.head := 0, smelter.fetch := 0, smelter.completed := [], smelter.again := [] }
    if s.smelter.ringSize ≤ s.smelter.tail then s.haltRing hcBadTail else s

/-- ENABLE written as 0 stops the fetching. -/
def State.smjDisable (s : State) : State := { s with smelter.enable := false }

/-- A TAIL write (Table 7.5). -/
def State.smjTail (s : State) (v : Nat) : State :=
  let s := { s with smelter.tail := v % 65536 }
  if s.smelter.ringSize ≤ s.smelter.tail then s.haltRing hcBadTail else s

/-- A write of 1 to HALTED (Table 7.6). -/
def State.smjClear (s : State) : State := { s with smelter.halted := false }

/-- The meaning of SMJ_ENABLE (R240). -/
def execSmjEnable (s : State) : Host.Outcome State Fault Refusal := ran s s.smjEnable

/-- The meaning of SMJ_DISABLE (R240). -/
def execSmjDisable (s : State) : Host.Outcome State Fault Refusal := ran s s.smjDisable

/-- The meaning of SMJ_TAIL_WRITE (R240). -/
def execSmjTailWrite (v : Word) (s : State) : Host.Outcome State Fault Refusal := ran s (s.smjTail v.toNat)

/-- The meaning of SMJ_HALTED_CLEAR (R240). -/
def execSmjHaltedClear (s : State) : Host.Outcome State Fault Refusal := ran s s.smjClear

/-- Descriptors that JOB_IN holds: 128 words of 8 (Table 11.5). -/
def jobInMax : Nat := 16

/-- The slot whose descriptor is fetched next: one whose read was orphaned, or the one behind those fetched (R240, R247). -/
def Smelter.nextSlot (m : Smelter) : Option Nat :=
  match m.again with
  | k :: _ => some k
  | [] => if m.fetch == m.tail then none else some m.fetch

/-- A slot's descriptor is being fetched. -/
def Smelter.takeSlot (m : Smelter) (k : Nat) : Smelter :=
  match m.again with
  | _ :: l => { m with again := l, fetching := m.fetching ++ [k] }
  | [] => { m with fetch := (m.fetch + 1) % m.ringSize, fetching := m.fetching ++ [k] }

/-- The next descriptor is fetched when the job queue has a free place (R240, R243, R296). -/
def State.fetchJob (s : State) : State :=
  let m := s.smelter
  if m.enable && s.busOn && m.queue.length + m.fetching.length < jobInMax then
    match s.freeTag, m.nextSlot with
    | some t, some k => ({ s with smelter := m.takeSlot k } : State).issueRead t true k (m.base + 64 * k) 64
    | _, _ => s
  else s

/-- The meaning of JOB_DESCRIPTOR_FETCH (R243). -/
def execJobDescriptorFetch (s : State) : Host.Outcome State Fault Refusal := ran s s.fetchJob

/-! ## Descriptors -/

/-- The number of `n` bytes of a list from `off`. -/
def getLe (d : List Byte) (off n : Nat) : Nat := leNat ((d.drop off).take n)

/-- The fields of a descriptor (Table 7.7). -/
def jobOf (slot : Nat) (d : List Byte) : Job :=
  { slot, opt := getLe d 1 1, tag := getLe d 4 4, inAddr := getLe d 8 8, inLen := getLe d 0x10 4, outCap := getLe d 0x14 4
    outAddr := getLe d 0x18 8, outExpect := getLe d 0x20 4, expectCrc := getLe d 0x24 4 }

/-- Largest IN_LEN and OUT_CAP (Table 7.7). -/
def jobMax : Nat := 268435456

/-- The checks of R242. -/
def jobOk (d : List Byte) : Bool :=
  let j := jobOf 0 d
  getLe d 0 1 == 1 && j.opt < 4 && getLe d 2 2 == 0 && getLe d 0x28 8 == 0 && within 1 jobMax j.inLen &&
  within 1 jobMax j.outCap && j.outExpect ≤ j.outCap

/-- Bin of a code in JOB_ERRORS (Table 7.10). -/
def errorBin (code : Nat) : Nat := if code < 0x10 then code - 1 else code - 0x10 + 8

/-- A slot lies among those fetched since HEAD. -/
def Smelter.isFetched (m : Smelter) (slot : Nat) : Bool :=
  (slot + m.ringSize - m.head) % m.ringSize < (m.fetch + m.ringSize - m.head) % m.ringSize

/-- HEAD over the completed slots before it, at most `fuel` (Table 7.5). -/
def Smelter.advance (m : Smelter) : Nat → Smelter
  | 0 => m
  | fuel + 1 =>
    if m.completed.contains m.head then
      { m with head := (m.head + 1) % m.ringSize, completed := m.completed.filter (· != m.head) }.advance fuel
    else m

/-- MSI-X vector of jobs (Table 9.7). -/
def jobVector : Nat := 65

/-- A job ends: record, HEAD, counts, vector (R243, R245, R246). `engine` is 0xFF where none ran it. -/
def State.endJob (s : State) (j : Job) (engine : Nat) (r : JobResult) : State :=
  let ok := r.code == 0
  let rec_ := leBytes 1 (if ok then 1 else 2) ++ leBytes 1 r.code ++ leBytes 1 engine ++ [0] ++
    leBytes 4 (if ok then r.out.length else 0) ++ leBytes 4 r.used ++ leBytes 4 (if ok then (crc32 r.out).toNat else 0)
  let s := if r.out.isEmpty then s else s.hostWrite j.outAddr r.out
  let s := (s.passSkip 4).hostWrite (s.smelter.base + 64 * j.slot + 0x30) rec_
  let m := s.smelter
  let m := { m with completed := if m.isFetched j.slot then j.slot :: m.completed else m.completed }
  let m := m.advance m.completed.length
  let m := if ok then { m with jobsDone := inc64 m.jobsDone }
    else { m with jobsFailed := inc32 m.jobsFailed, jobErrors := vmod m.jobErrors (errorBin r.code) inc32 }
  let s := { s with smelter := m }
  if bitOf j.opt 1 then s.raiseVector .pf0 jobVector else s

/-- A descriptor read ends: the descriptor is checked and queued, or the ring halts (R240, R242). -/
def State.takeDescriptor (s : State) (slot : Nat) (data : Option (List Byte)) : State :=
  let s := { s with smelter.fetching := s.smelter.fetching.filter (· != slot) }
  match data with
  | none => s.haltRing hcDescRead
  | some d =>
    if jobOk d then ({ s with smelter.queue := s.smelter.queue ++ [jobOf slot d] } : State).pushSkip 3 8
    else s.endJob (jobOf slot d) 0xFF { code := jeBadDescriptor, out := [], used := 0 }

/-- The oldest outstanding descriptor read. -/
def State.oldestFetch (s : State) : Option Tag := s.hf.tags.find? fun t => t.descriptor && !t.orphaned && !t.timedOut

/-- The meaning of JOB_DESCRIPTOR_RECEIVE (R240, R242). -/
def execJobDescriptorReceive (data : Option (List Byte)) (s : State) : Host.Outcome State Fault Refusal :=
  ran s (
    match s.oldestFetch with
    | some t => (s.dropTag t.tag).takeDescriptor t.slot data
    | none => s)

/-! ## Engines -/

/-- The engines that take jobs: those of JOB_ENGINES, under the throttle the two lowest-numbered (R243, R437). -/
def State.jobEngines (s : State) : List Nat :=
  let l := bitsOf 16 (s.cfg 0x2A00 4)
  if s.fm.throttle then l.take 2 else l

/-- The lowest-numbered engine that takes jobs and has none (R243). -/
def State.freeEngine (s : State) : Option Nat := s.jobEngines.find? fun k => (vget s.smelter.engines k none).isNone

/-- Bytes of the next read of a job's input: at most Max_Read_Request_Size, within 4 KiB of address space (R270). -/
def State.readBytes (s : State) (j : Job) : Nat :=
  min (min (j.inLen - j.asked) s.maxRead) (4096 - (j.inAddr + j.asked) % 4096)

/-- The next read of an engine's input under a tag (R243, R270, R296). -/
def State.readInput (s : State) (tag k : Nat) (j : Job) : State :=
  let n := s.readBytes j
  ({ s with smelter.engines := vmod s.smelter.engines k fun _ => some { j with asked := j.asked + n } } : State).issueRead tag
    false k (j.inAddr + j.asked) n

/-- The oldest job starts on a free engine, which begins to read its input (R243). -/
def State.startJob (s : State) : State :=
  match s.smelter.queue, s.freeEngine, s.freeTag with
  | j :: l, some k, some t =>
    if s.busOn then (({ s with smelter.queue := l } : State).popSkip 3).readInput t k j else s
  | _, _, _ => s

/-- The meaning of JOB_START (R243). -/
def execJobStart (s : State) : Host.Outcome State Fault Refusal := ran s s.startJob

/-- The result of a job on the input that has arrived; none while more of it is to come and the decoder has not ended
(R244, R245). -/
def Job.result (j : Job) : Option JobResult :=
  let r := inflateJob (j.input.take j.inLen) j.outExpect j.outCap (bitOf j.opt 0) j.expectCrc
  if j.inLen ≤ j.input.length || r.code != jeTruncated then some r else none

/-- The job of an engine ends with a result; its input read, if one is still outstanding, has ended (R243, R244, R296). -/
def State.jobEnds (s : State) (k : Nat) (j : Job) (r : JobResult) : State :=
  if s.busOn then
    let s := { s with hf.tags := s.hf.tags.filter fun t => t.descriptor || t.slot != k || t.orphaned || t.timedOut
                      smelter.engines := vmod s.smelter.engines k fun _ => none }
    s.endJob j k r
  else s

/-- The job of a descriptor slot ends on its engine once its result is known (R244). -/
def State.jobComplete (s : State) (k slot : Nat) : State :=
  match vget s.smelter.engines k none with
  | some j =>
    match j.result with
    | some r => if j.slot = slot then s.jobEnds k j r else s
    | none => s
  | none => s

/-- The meaning of JOB_COMPLETE (R243 to R246). -/
def execJobComplete (engine : Fin 16) (slot : Nat) (s : State) : Host.Outcome State Fault Refusal :=
  ran s (s.jobComplete engine.val slot)

/-! ## Completions -/

/-- Input arrives at an engine, which asks for what follows it; a failed read ends the job (R243, R244, R297). -/
def State.inputArrives (s : State) (k : Nat) (data : Option (List Byte)) : State :=
  match vget s.smelter.engines k none, data with
  | some j, some d =>
    let j := { j with input := j.input ++ d }
    let s := { s with smelter.engines := vmod s.smelter.engines k fun _ => some j }
    match s.freeTag with
    | some t => if j.asked < j.inLen && s.busOn then s.readInput t k j else s
    | none => s
  | some j, none => s.jobEnds k j { code := jeReadFailed, out := [], used := 0 }
  | none, _ => s

/-- The request of a tag ends (R297, R299): a descriptor is checked, input goes to its engine. -/
def State.requestEnds (s : State) (t : Tag) (data : Option (List Byte)) : State :=
  if t.descriptor then s.takeDescriptor t.slot data else s.inputArrives t.slot data

/-- A completion for a device read (R297, R299, R300). -/
def State.completion (s : State) (tag : Nat) (st : CplStatus) (data : List Byte) : State :=
  match s.hf.tags.find? fun t => t.tag == tag with
  | none => s.aerError .pf0 .unexpectedCompletion true
  | some t =>
    let s := s.dropTag tag
    if t.orphaned then { s with hf.orphaned := s.hf.orphaned.inc }
    else if t.timedOut then { s with hf.late := s.hf.late.inc }
    else
      match st with
      | .ok => s.requestEnds t (some data)
      | .error => s.requestEnds t none
      | .poisoned => (s.aerError .pf0 .poisonedTlp).requestEnds t none

/-- The meaning of COMPLETION_RECEIVE (R297, R299). -/
def execCompletionReceive (tag : Nat) (st : CplStatus) (data : List Byte) (s : State) : Host.Outcome State Fault Refusal :=
  ran s (s.completion tag st data)

/-- A tag's request has timed out: the tag is kept (R296). -/
def State.markTimedOut (s : State) (tag : Nat) : State :=
  { s with hf.tags := s.hf.tags.map fun t => if t.tag == tag then { t with timedOut := true } else t }

/-- The meaning of COMPLETION_TIMEOUT: reported through AER, and the request fails (R297). -/
def execCompletionTimeout (tag : Nat) (s : State) : Host.Outcome State Fault Refusal :=
  ran s (
    match s.hf.tags.find? fun t => t.tag == tag && !t.orphaned && !t.timedOut with
    | some t => ((s.markTimedOut tag).aerError .pf0 .completionTimeout).requestEnds t none
    | none => s)

/-- The meaning of TAG_RELEASE: 1 s after orphaning or timeout (R296; log 17). -/
def execTagRelease (tag : Nat) (s : State) : Host.Outcome State Fault Refusal :=
  ran s { s with hf.tags := s.hf.tags.filter fun t => t.tag != tag || !(t.orphaned || t.timedOut) }

/-! ## Bus mastering withdrawn -/

/-- Jobs stop and outstanding reads are orphaned (R247, Table 9.8). -/
def State.stopJobs (s : State) : State :=
  let now := (List.range 16).filterMap fun k => (vget s.smelter.engines k none).map fun j => (k, j)
  { s with hf.tags := s.hf.tags.map fun t => if t.timedOut then t else { t with orphaned := true }
           smelter.engines := Vector.replicate 16 none, smelter.stopped := s.smelter.stopped ++ now
           smelter.again := s.smelter.fetching ++ s.smelter.again, smelter.fetching := [] }

/-- ABORTED completions of the stopped jobs (R247). -/
def State.abortJobs (s : State) : State :=
  let l := s.smelter.stopped
  l.foldl (fun s x => s.endJob x.2 x.1 { code := jeAborted, out := [], used := 0 }) { s with smelter.stopped := [] }

/-- The job ring cleared, every job ended without a record (R247). -/
def State.clearJobs (s : State) : State :=
  { s with smelter.base := 0, smelter.enable := false, smelter.order := 0, smelter.tail := 0, smelter.head := 0
           smelter.halted := false, smelter.haltCause := 0, smelter.fetch := 0, smelter.fetching := []
           smelter.queue := [], smelter.engines := Vector.replicate 16 none, smelter.completed := []
           smelter.stopped := [], smelter.again := []
           regs.skips := vmod s.regs.skips 3 fun x => { x with items := [], lost := x.lost.add x.items.length } }

end Sys2Proof.Machine
end

