-- ==== Sys2Proof/Machine/Shaft.lean ====
section
/-! DEFINITION. The Shaft: conditions of a sample (R149 to R158, R162, R166, R167), branches (R168 to R173), MARKs and their
placement (R174, R175), storage (R180), triggers (R185), markers (R176 to R179), the restart (R188). -/

namespace Sys2Proof.Machine

/-! ## Recognisers -/

/-- Seam of slot `k` of a word recogniser, none when empty (R151). -/
def State.wordSeam (s : State) (w k : Nat) : Option Nat :=
  let n := field (s.cfg (0x2620 + w) 1) k 1
  if n < 48 then some n else none

/-- The 16 bits of slot `k` of a 64-bit field (R151). -/
def slotBits (v k : Nat) : SeamWord := BitVec.ofNat 16 (v / 2 ^ (16 * k))

/-- Edge part of one slot: channels that must qualify and those that do (R152). -/
def edgePart (rise fall before now : SeamWord) : SeamWord × SeamWord :=
  let up := ~~~before &&& now
  let down := before &&& ~~~now
  (rise ||| fall, (rise &&& up) ||| (fall &&& down))

/-- A word recogniser on sample `x` (R152, R153). -/
def State.wordCond (s : State) (w x : Nat) : Bool :=
  let o := 0x2620 + w
  let slots := (List.range 4).filterMap fun k => (s.wordSeam w k).map fun n => (k, n)
  let rise := s.cfg o 4
  let fall := s.cfg o 5
  let edged (k : Nat) : Bool := slotBits (rise ||| fall) k != 0
  let unknown := slots.any fun (k, n) =>
    ((s.seam n).wordAt x).isNone || (edged k && (x == 0 || ((s.seam n).wordAt (x - 1)).isNone))
  if unknown then s.cfgOn o 7
  else
    let level := slots.all fun (k, n) =>
      (((s.seam n).wordAt x).getD 0 ^^^ slotBits (s.cfg o 3) k) &&& slotBits (s.cfg o 2) k == 0
    let parts := slots.map fun (k, n) =>
      edgePart (slotBits rise k) (slotBits fall k) (((s.seam n).wordAt (x - 1)).getD 0) (((s.seam n).wordAt x).getD 0)
    let need := parts.any fun p => p.1 != 0
    let edge := if !need then true
      else if s.cfg o 6 == 0 then parts.all fun p => p.1 == p.2
      else parts.any fun p => p.2 != 0
    level && edge

/-- State of channel `c` on a sample, none when its seam has no valid data. -/
def State.channelAt (s : State) (c x : Nat) : Option Bool := ((s.seam (c / 16)).wordAt x).map fun w => w.getLsbD (c % 16)

/-- The value of a bus of `width` channels from `base`, none when a seam it touches has no valid data (R154). -/
def State.busAt (s : State) (base width x : Nat) : Option Nat :=
  (List.range width).foldl (fun v i =>
    match v, s.channelAt (base + i) x with
    | some v, some b => some (v + if b then 2 ^ i else 0)
    | _, _ => none) (some 0)

/-- A range recogniser on sample `x` (R154). -/
def State.rangeCond (s : State) (g x : Nat) : Bool :=
  let o := 0x2660 + g
  let width := s.cfg o 2
  match s.busAt (s.cfg o 1) width x with
  | none => s.cfgOn o 7
  | some v =>
    let isIn := if s.cfgOn o 3 then
        let i := signedOf width v
        decide (signedOf 64 (s.cfg o 5) ≤ i ∧ i ≤ signedOf 64 (s.cfg o 6))
      else decide (s.cfg o 5 ≤ v ∧ v ≤ s.cfg o 6)
    if s.cfg o 4 == 0 then isIn else !isIn

/-! ## Raster comparators, lines, partner sources -/

/-- The window of a raster comparator holds at a position (R158). -/
def State.rcWindow (s : State) (k : Nat) (p : RastPos) : Bool :=
  let o := 0x2680 + k
  p.frame % max 1 (s.cfg o 2) == s.cfg o 3 && (s.cfg o 4).testBit p.field && within (s.cfg o 5) (s.cfg o 6) p.line &&
  within (s.cfg o 7) (s.cfg o 8) p.pixel

/-- A raster comparator on the latest sample (R158). -/
def State.rcCond (s : State) (k : Nat) : Bool :=
  s.rcWindow k s.posNow && (s.cfg (0x2680 + k) 1 == 0 || !s.rcWindow k s.sv.prev)

/-- An external line by number. -/
def State.extLine (s : State) (n : Nat) : ExtLine := vget s.shaft.lines n {}

/-- Index of the objects of an external line (Table 5.9). -/
def lineObject (n : Nat) : Nat := if n < 32 then 0x2700 + n else 0x2720 + (n - 32)

/-- Crossings of a line in sample `x`, in order (R159). -/
def ExtLine.inSample (m : ExtLine) (x : Nat) : List Crossing :=
  sortBy (fun a b => a.x ≤ b.x) (m.crossings.filter fun c => c.x / 64 = (x : Int))

/-- The kept crossings of a sample: the first of each polarity (R161). -/
def kept (l : List Crossing) : List Crossing :=
  let up := l.find? Crossing.rising
  let down := l.find? fun c => !c.rising
  l.filter fun c => some c == up || some c == down

/-- The line's level on sample `x` (R161). -/
def ExtLine.levelAt (m : ExtLine) (x : Nat) : Bool :=
  match (m.inSample x).getLast? with
  | some c => c.rising
  | none => m.level

/-- Active level of a line is high (R162). -/
def State.activeHigh (s : State) (n : Nat) : Bool := !s.cfgOn (lineObject n) 2

/-- The kept crossings of the qualified kind in sample `x` (R162). -/
def State.qualified (s : State) (n x : Nat) : List Crossing :=
  let l := kept ((s.extLine n).inSample x)
  let q := s.cfg (lineObject n) 1
  if q = 1 then l.filter fun c => c.rising == s.activeHigh n
  else if q = 2 then l.filter fun c => c.rising != s.activeHigh n
  else if q = 3 then l
  else []

/-- The condition of a line (R162). -/
def State.lineCond (s : State) (n x : Nat) : Bool :=
  if s.cfg (lineObject n) 1 == 0 then (s.extLine n).levelAt x == s.activeHigh n else !(s.qualified n x).isEmpty

/-- Accepted level of a FLAG pin on sample `x` (R166). -/
def FlagIn.at_ (m : FlagIn) (x : Nat) : Bool :=
  match (m.changes.filter fun c => c.1 ≤ x).getLast? with
  | some c => c.2
  | none => m.level

/-- FLAG[n] on sample `x` (R166). -/
def State.flagCond (s : State) (n x : Nat) : Bool := (vget s.shaft.flags n {}).at_ x

/-- The module's own source value of PARTNER[k] on sample `x` (R167). -/
def State.ownSource (s : State) (k x : Nat) : Bool :=
  let src := s.cfg (0x2750 + k) 1
  if src < 0x420 then s.lineCond (src - 0x400) x
  else if src < 0x508 then s.lineCond (32 + (src - 0x500)) x
  else if src < 0x610 then s.flagCond (src - 0x600) x
  else false

/-- Delay of the partner conditions (R167). -/
def partnerDelay : Nat := 256

/-- The module's own source values, as kept, on sample `x`. -/
def Shaft.ownAt (h : Shaft) (k x : Nat) : Bool :=
  match h.ownSources.find? fun e => e.1 == x with
  | some e => e.2.getLsbD k
  | none => false

/-- The partner's source value on sample `x`, none when it has not arrived (R167). -/
def Shaft.peerAt (h : Shaft) (k x : Nat) : Option Bool :=
  (h.peerSources.find? fun e => e.1 ≤ x && x < e.1 + 192).map fun e => (e.2.getD k 0).getLsbD (x - e.1)

/-- PARTNER[k] lacks the partner's value on sample `x` (R167). -/
def State.partnerLacks (s : State) (k x : Nat) : Bool :=
  s.cfg (0x2750 + k) 1 != 0xFFFF && s.paired && partnerDelay ≤ x && (s.shaft.peerAt k (x - partnerDelay)).isNone

/-- PARTNER[k] (R167). -/
def State.partnerCond (s : State) (k x : Nat) : Bool :=
  if s.cfg (0x2750 + k) 1 == 0xFFFF || x < partnerDelay then false
  else
    let own := s.shaft.ownAt k (x - partnerDelay)
    if s.paired then
      (match s.shaft.peerAt k (x - partnerDelay) with
       | some p => own || p
       | none => s.cfgOn (0x2750 + k) 2)
    else own

/-! ## Literals and branches -/

/-- A condition of Table 5.1 on the latest sample, its unknown value included. -/
def State.cond (s : State) (id : Nat) : Bool :=
  let x := s.sv.sidx
  if id < 0x40 then s.wordCond id x
  else if id < 0x48 then s.rangeCond (id - 0x40) x
  else if id < 0x58 then s.cfg (0x2668 + (id - 0x48)) 1 ≤ (vget s.shaft.counters (id - 0x48) {}).value
  else if id < 0x60 then s.cfg (0x2678 + (id - 0x58)) 2 ≤ (vget s.shaft.timers (id - 0x58) {}).value
  else if id < 0x70 then s.rcCond (id - 0x60)
  else if id < 0x98 then s.lineCond (id - 0x70) x
  else if id < 0xA8 then s.flagCond (id - 0x98) x
  else if id < 0xAC then s.partnerCond (id - 0xA8) x
  else true

/-- Slots of a term: identifier and invert bit (R168). -/
def termSlots (t : Nat) : List (Nat × Bool) := (List.range 8).map fun j => (field t j 1, (field t 8 1).testBit j)

/-- A term is enabled: some slot is not empty (R169). -/
def termOn (t : Nat) : Bool := (termSlots t).any fun x => x.1 != 0xFF

/-- A term is true (R150, R169). -/
def State.termTrue (s : State) (t : Nat) : Bool :=
  termOn t && (termSlots t).all fun x => x.1 == 0xFF || (s.cond x.1 != x.2)

/-- Term `t` of branch `b` of a level (Table 5.7). -/
def State.termOf (s : State) (lv b t : Nat) : Nat := s.cfg (0x2610 + lv) (1 + 8 * b + t)

/-- The lowest-numbered true term of a branch (R169, R175). -/
def State.branchTerm (s : State) (lv b : Nat) : Option Nat :=
  if (s.cfg (0x2610 + lv) 0x25).testBit b then
    ((List.range 8).map fun t => s.termOf lv b t).find? fun t => s.termTrue t
  else none

/-- The branch that fires, with its placing term (R170). -/
def State.firing (s : State) : Option (Nat × Nat) :=
  (List.range 4).findSome? fun b => (s.branchTerm s.shaft.level b).map fun t => (b, t)

/-! ## Actions (Table 5.2) -/

/-- A field of an action. -/
def actNext (a : Nat) : Nat := field a 0 1
def actBits (a : Nat) : Nat := field a 1 1
def actTrigger (a : Nat) : Bool := (actBits a).testBit 0
def actMark (a : Nat) : Bool := (actBits a).testBit 1
def actStore (a : Nat) : Nat := actBits a / 4 % 4
def actMarkId (a : Nat) : Nat := field a 2 2
def actMarkers (a : Nat) : Nat := field a 10 1

/-- The checks of R172 on an action. -/
def actionOk (a : Nat) : Bool :=
  let opOk (slot op slots maxOp : Nat) : Bool := slot == 0xFF || (slot < slots && 1 ≤ op && op ≤ maxOp)
  !(actTrigger a && actStore a != 0) && actStore a != 3 && actBits a < 16 && (actNext a < 16 || actNext a == 0xFF) &&
  opOk (field a 4 1) (field a 5 1) 16 2 && opOk (field a 6 1) (field a 7 1) 16 2 && opOk (field a 8 1) (field a 9 1) 8 3 &&
  field a 11 5 == 0

/-- An identifier that a slot or a COUNT_LITERAL may hold (R172). -/
def idOk (id : Nat) : Bool := id < 0xAC || id == 0xFE || id == 0xFF

/-- The Shaft's check of a set (R151, R154, R158, R172, R439). -/
def shaftReady (val : Nat → Nat → Nat) : Bool :=
  let words := (List.range 64).all fun w => (List.range 4).all fun k =>
    field (val (0x2620 + w) 1) k 1 != 0xFF ||
      ([2, 3, 4, 5].all fun f => slotBits (val (0x2620 + w) f) k == 0)
  let ranges := (List.range 8).all fun g =>
    let o := 0x2660 + g
    val o 1 + val o 2 ≤ 768 &&
      (if val o 3 == 1 then decide (signedOf 64 (val o 5) ≤ signedOf 64 (val o 6)) else val o 5 ≤ val o 6)
  let rcs := (List.range 16).all fun k =>
    let o := 0x2680 + k
    val o 2 != 0 && val o 3 < val o 2 && val o 5 ≤ val o 6 && val o 7 ≤ val o 8
  let acts := (List.range 16).all fun l => (List.range 4).all fun b => actionOk (val (0x2610 + l) (0x21 + b))
  let terms := (List.range 16).all fun l => (List.range 32).all fun t =>
    (List.range 8).all fun j => idOk (field (val (0x2610 + l) (1 + t)) j 1)
  let counts := (List.range 16).all fun n => idOk (val (0x2668 + n) 2 % 256)
  words && ranges && rcs && acts && terms && counts

/-! ## Placement (R175) -/

/-- Placement of a decision: PLACEMENT, PLACE_BIN, PLACE_SOURCE, FINE_OVERFLOW. -/
structure Place where
  kind : Nat := 0
  bin : Int := 0
  source : Nat := 0xFFFF
  missing : Bool := false
deriving DecidableEq, Repr

/-- PLACE_SOURCE of an external line (Table 4.6). -/
def lineSource (n : Nat) : Nat := if n < 32 then 0x400 + n else 0x500 + (n - 32)

/-- The single edge-qualified channel of a word recogniser (R175). -/
def State.soleEdge (s : State) (w : Nat) : Option Nat :=
  match bitsOf 64 (s.cfg (0x2620 + w) 4 ||| s.cfg (0x2620 + w) 5) with
  | [b] => (s.wordSeam w (b / 16)).map fun n => 16 * n + b % 16
  | _ => none

/-- Fine placement by a word recogniser on sample `x`: none where it cannot place (R86, R88, R89, R175). -/
def State.placeWord (s : State) (w x : Nat) : Option Place := do
  let c ← s.soleEdge w
  let n := c / 16
  let isA := s.cfg (0x2400 + n) 2 == c % 16
  let isB := s.cfg (0x2400 + n) 3 == c % 16
  let now ← s.channelAt c x
  let before ← if x = 0 then none else s.channelAt c (x - 1)
  if !(isA || isB) || now == before then none
  else
    let m ← (s.seam n).sampleAt x
    match if isA then m.fineA else m.fineB with
    | some f =>
      let lf := match s.sourceOf n with
        | some k => s.cfg (0x2200 + k) 2 % 64
        | none => 0
      some { kind := 1, bin := (f : Int) - lf - 64, source := c }
    | none => some { missing := true }

/-- Fine placement by a line on sample `x` (R164, R175). -/
def State.placeLine (s : State) (n x : Nat) : Option Place :=
  match s.qualified n x with
  | c :: _ => some { kind := 2, bin := c.x - 64 * x, source := lineSource n, missing := c.coarse }
  | [] => none

/-- Placement by one slot. -/
def State.placeSlot (s : State) (x : Nat) (slot : Nat × Bool) : Option Place :=
  if slot.2 then none
  else if slot.1 < 0x40 then s.placeWord slot.1 x
  else if 0x70 ≤ slot.1 && slot.1 < 0x98 then s.placeLine (slot.1 - 0x70) x
  else none

/-- Placement of a firing by its placing term (R175; log 29). -/
def State.placeOf (s : State) (term : Nat) : Place :=
  let l := (termSlots term).filterMap fun t => s.placeSlot s.sv.sidx t
  match l.find? fun p => p.kind != 0 with
  | some p => p
  | none => { missing := !l.isEmpty }

/-! ## MARKs -/

/-- MARK kinds (R136). -/
def mkTrigger : Nat := 1
def mkMark : Nat := 2
def mkStoreStart : Nat := 3
def mkStoreStop : Nat := 4

/-- The kind of a firing's MARK, none when it emits none (R174). -/
def markKind (a : Nat) : Option Nat :=
  if actTrigger a then some mkTrigger
  else if actStore a = 1 then some mkStoreStart
  else if actStore a = 2 then some mkStoreStop
  else if actMark a then some mkMark
  else none

/-- MARK payload (Table 4.6). -/
def markPayload (lv b next : Nat) (p : Place) (markId segment pre : Nat) : List Byte :=
  leBytes 1 lv ++ leBytes 1 b ++ leBytes 1 next ++ leBytes 1 p.kind ++ leBytes 2 (ofSigned 16 p.bin) ++ leBytes 2 p.source ++
  leBytes 2 markId ++ leBytes 2 segment ++ leBytes 4 0 ++ leBytes 8 pre ++ leBytes 8 0

/-- HOLDOVER applies to the latest sample (R60, R42, R65). -/
def State.holdNow (s : State) : Bool :=
  s.sv.state == rsHoldover || s.sv.refLost || s.sv.holdMark.within s.sv.sidx (s.sv.sidx + 1)

/-- FINE_OVERFLOW applies to the latest sample because of the DLL (R43). -/
def State.dllNow (s : State) : Bool := s.sv.dllState == 2 || s.sv.dllMark.within s.sv.sidx (s.sv.sidx + 1)

/-- Streams that a MARK of a kind reaches (R136, R174). -/
def State.streamsOfMark (s : State) (kind : Nat) : List Nat :=
  let gated := s.cfg 0x2600 2
  let store := kind == mkStoreStart || kind == mkStoreStop
  (List.range 64).filter fun q =>
    (s.stream q).armed && (s.cfgOn (0x2840 + q) 3 || (store && gated.testBit q))

/-- A MARK of the latest sample (R136, R174). -/
def State.emitMark (s : State) (kind lv b next : Nat) (p : Place) (markId segment pre : Nat) : State :=
  let flags := flagIf s.holdNow flHoldover ||| flagIf (p.missing || s.dllNow) flFineOverflow
  let i := controlIngot 3 (0x40 + lv) kind 0 s.epochNo s.here flags (markPayload lv b next p markId segment pre) (s.sv.sidx + 1) 0
  s.emitControl i (s.streamsOfMark kind) (s.shaft.filling.map Fin.val)

/-! ## Triggers (R185) -/

/-- The trigger of the latest sample. -/
def State.trigOf (s : State) (lv b : Nat) (p : Place) (markId : Nat) : Trig :=
  { sidx := s.sv.sidx, rastpos := s.stampedPos, time96 := time96 s.sv.time, bin := p.bin, placement := p.kind, level := lv
    branch := b, markId }

/-- A trigger on a segment in ARMED: POST, with its depth and its protection (R184, R185). -/
def State.acceptTrigger (s : State) (g : Nat) (t : Trig) : Nat × State :=
  let pre := min (s.cfg (0x26C0 + g) 2) (t.sidx - s.heldFrom g (t.sidx + 1))
  let s := s.onSegment g fun m => { m with state := 2, trig := some t, preActual := pre, preSmp := s.cfg (0x26C0 + g) 2 }
  (pre, s.onSegment g fun m => { m with images := m.images.map fun x =>
    { x with isProtected := (x.ingot.map fun i => s.protects g i).getD false } })

/-- A TRIGGER firing with its MARK, or its entry in a dead interval (R185). -/
def State.trigger (s : State) (lv b next : Nat) (p : Place) (markId : Nat) : State :=
  let s := { s with shaft.triggers := inc64 s.shaft.triggers }
  let t := s.trigOf lv b p markId
  match s.shaft.dead with
  | some d =>
    { s with shaft.deadTriggers := inc32 s.shaft.deadTriggers
             shaft.dead := some { d with count := d.count + 1
                                         listed := if d.listed.length < 16 then d.listed ++ [t] else d.listed } }
  | none =>
    match s.shaft.filling with
    | some g =>
      if (s.segment g.val).state == 1 then
        let (pre, s) := s.acceptTrigger g.val t
        s.emitMark mkTrigger lv b next p markId g.val pre
      else
        ({ s with shaft.retriggers := inc32 s.shaft.retriggers } : State).emitMark mkTrigger lv b next p markId 0xFFFF 0
    | none => s.emitMark mkTrigger lv b next p markId 0xFFFF 0

/-- The MARK or trigger of a firing (R174, R185). -/
def State.emitFiring (s : State) (a lv b term : Nat) : State :=
  let next := if actNext a = 0xFF then lv else actNext a
  let p := s.placeOf term
  match markKind a with
  | none => s
  | some k =>
    if k = mkTrigger then s.trigger lv b next p (actMarkId a)
    else s.emitMark k lv b next p (actMarkId a) ((s.shaft.filling.map Fin.val).getD 0xFFFF) 0

/-! ## Pins -/

/-- The module drives MARK_OUT, INST and FLAG outputs: it is no Shadow and not attaching (R179). -/
def State.drivesPins (s : State) : Bool := !s.isShadow && s.role != roleAttaching

/-- The FLAG pin is a fence pin (R357). -/
def State.isFence (s : State) (n : Nat) : Bool := s.twin.fencePins.1 == n || s.twin.fencePins.2 == n

/-- The pulse of a marker is out (R176, R179). -/
def State.pulseOut (s : State) (n : Nat) : Bool := s.drivesPins && (vget s.shaft.markers n {}).active

/-- Level of a MARK_OUT pair, under its POLARITY; inactive on a Shadow (R176, R179). -/
def State.markLevel (s : State) (n : Nat) : Bool := s.pulseOut n != s.cfgOn (0x2728 + n) 2

/-- The module drives an INST line high (R178). -/
def State.instLevel (s : State) (n : Nat) : Bool :=
  let m := s.cfg (0x2720 + n) 5
  m < 8 && s.pulseOut m

/-- Level of a FLAG output, none at high impedance (R178, R179). -/
def State.flagLevel (s : State) (n : Nat) : Option Bool :=
  let o := 0x2730 + n
  if !s.drivesPins || s.isFence n then none
  else if s.cfg o 1 = 1 then some (s.pulseOut (s.cfg o 2))
  else if s.cfg o 1 = 2 then some s.shaft.shown.1
  else if s.cfg o 1 = 3 then some s.shaft.shown.2
  else none

/-- A MARK_OUT pair is brought to its level. -/
def State.driveMark (s : State) (n : Nat) : State :=
  let b := s.markLevel n
  if vget s.shaft.markOut n false == b then s
  else ({ s with shaft.markOut := vmod s.shaft.markOut n fun _ => b } : State).send (.pinAt "MARK_OUT" n b)

/-- An INST line is driven, or let go. -/
def State.driveInst (s : State) (n : Nat) : State :=
  let b := s.instLevel n
  if vget s.shaft.instOut n false == b then s
  else ({ s with shaft.instOut := vmod s.shaft.instOut n fun _ => b } : State).send (.pinAt "INST" n b)

/-- A FLAG pin is brought to its level, or to high impedance. -/
def State.driveFlag (s : State) (n : Nat) : State :=
  let b := s.flagLevel n
  if vget s.shaft.flagOut n none == b then s
  else
    ({ s with shaft.flagOut := vmod s.shaft.flagOut n fun _ => b } : State).send
      (match b with
       | some v => .pinAt "FLAG" n v
       | none => .pinOff "FLAG" n)

/-- Every output whose level is no longer right is brought to it (R176 to R179). -/
def State.drivePins (s : State) : State :=
  (List.range 16).foldl State.driveFlag ((List.range 8).foldl State.driveInst ((List.range 8).foldl State.driveMark s))

/-- The present fabric cycle: that on which the latest data sample enters the capture fabric (R102, R148). -/
def State.fabricCycle (s : State) : Nat := s.sv.sidx + s.cfg 0x2100 0x16

/-- Samples from the fabric cycle of a decision to its transition at a pin (R176). -/
def pinDelay : Nat := 360

/-- Storage and armed levels that FLAG outputs are to show once what is on its way has come (R178). -/
def Shaft.showNext (h : Shaft) : Bool × Bool := (h.showDue.getLast?.map Prod.snd).getD h.shown

/-- A change of storage or of a capture mode on the latest sample is on its way to the FLAG outputs (R176, R178). -/
def State.noteShown (s : State) : State :=
  let want := (s.shaft.storage, captureMode s.mode)
  if s.shaft.showNext == want then s
  else { s with shaft.showDue := s.shaft.showDue ++ [(s.fabricCycle + pinDelay, want)] }

/-- Storage and armed levels reach the FLAG outputs, and every output its level (R178). -/
def State.showLevels (s : State) : State :=
  let came := s.shaft.showDue.filter fun x => x.1 ≤ s.fabricCycle
  let s := { s with shaft.shown := (came.getLast?.map Prod.snd).getD s.shaft.shown
                    shaft.showDue := s.shaft.showDue.filter fun x => s.fabricCycle < x.1 }
  s.drivePins

/-- Markers fired on the latest sample (R176, R177). -/
def State.fireMarkers (s : State) (mask : Nat) : State :=
  (bitsOf 8 mask).foldl (fun s n =>
    { s with shaft.markers := vmod s.shaft.markers n fun m =>
        { m with due := m.due ++ [(s.fabricCycle + pinDelay, s.cfg (0x2728 + n) 1)] } }) s

/-- MARK_OUT goes active, or its pulse is extended (R176, R177). -/
def State.markOutAssert (s : State) (n : Nat) : State :=
  let m := vget s.shaft.markers n {}
  match m.due with
  | (c, w) :: l =>
    if c ≤ s.fabricCycle then
      if captureMode s.mode && s.drivesPins then
        let e := if m.active then max m.endAt (c + w) else c + w
        ({ s with shaft.markers := vmod s.shaft.markers n fun x => { x with active := true, endAt := e, due := l } } : State).drivePins
      else { s with shaft.markers := vmod s.shaft.markers n fun x => { x with due := l } }
    else s
  | [] => s

/-- The meaning of MARK_OUT_ASSERT (R176 to R179). -/
def execMarkOutAssert (n : Fin 8) (s : State) : Host.Outcome State Fault Refusal := ran s (s.markOutAssert n.val)

/-- A pulse ends (R177). -/
def State.markOutEnd (s : State) (n : Nat) : State :=
  let m := vget s.shaft.markers n {}
  if m.active && m.endAt ≤ s.fabricCycle then
    ({ s with shaft.markers := vmod s.shaft.markers n fun x => { x with active := false } } : State).drivePins
  else s

/-- The meaning of MARK_OUT_PULSE_END (R177). -/
def execMarkOutPulseEnd (n : Fin 8) (s : State) : Host.Outcome State Fault Refusal := ran s (s.markOutEnd n.val)

/-! ## Storage, counters, timers -/

/-- Storage after a decision, and the stored sample (R180). -/
def State.setStorage (s : State) (store : Nat) : State :=
  let on := if store = 1 then true else if store = 2 then false else s.shaft.storage
  let stored := s.shaft.storage || on
  ({ s with shaft.storage := on
            shaft.storeMark := if stored then s.shaft.storeMark.put s.sv.sidx else s.shaft.storeMark } : State).noteShown

/-- Largest value of a counter or timer. -/
def count48 : Nat := 2 ^ 48 - 1

/-- One more on a counter (R155). -/
def Counter.inc (c : Counter) : Counter :=
  if c.value < count48 then { c with value := c.value + 1 } else { c with overflow := true }

/-- A counter operation (R156). -/
def Counter.op (c : Counter) (op : Nat) : Counter :=
  if op = 1 then c.inc else if op = 2 then { c with value := 0 } else c

/-- The values of the counters for the next sample (R156); `counted` tells which count literals are true. -/
def Shaft.stepCounters (h : Shaft) (a : Option Nat) (counted : Nat → Bool) : Shaft :=
  { h with counters := vmap h.counters fun n c =>
      let c := match a with
        | some a =>
          let c := if field a 4 1 = n then c.op (field a 5 1) else c
          if field a 6 1 = n then c.op (field a 7 1) else c
        | none => c
      if counted n then c.inc else c }

/-- A timer for the next sample (R157, R173). -/
def Timer.step (t : Timer) (op : Option Nat) (tick : Bool) : Timer :=
  match op with
  | some 1 => { value := 0, running := true }
  | some 2 => { t with running := false }
  | some 3 => { value := 0, running := false }
  | _ => if t.running && tick && t.value < count48 then { t with value := t.value + 1 } else t

/-- A unit passes on the latest sample (R157). -/
def State.unitPasses (s : State) (unit : Nat) : Bool :=
  if unit = 0 then true else if unit = 1 then s.sv.pixelCross else if unit = 2 then s.sv.lineStart else s.sv.frameStart

/-- The values of the timers for the next sample (R157). -/
def State.stepTimers (s : State) (a : Option Nat) : State :=
  { s with shaft.timers := vmap s.shaft.timers fun n t =>
      let op := match a with
        | some a => if field a 8 1 = n then some (field a 9 1) else none
        | none => none
      t.step op (s.unitPasses (s.cfg (0x2678 + n) 1)) }

/-- A COUNT_LITERAL is true (R150, R156). -/
def State.countTrue (s : State) (n : Nat) : Bool :=
  let c := s.cfg (0x2668 + n) 2
  c % 256 != 0xFF && (s.cond (c % 256) != c.testBit 8)

/-! ## The decision (R170) -/

/-- Level and fired branch of a sample for SHAFT_DIGEST (Table 12.2). -/
def State.noteDigest (s : State) (lv : Nat) (b : Option Nat) : State :=
  { s with shaft.digest := ((s.sv.sidx, BitVec.ofNat 8 lv, BitVec.ofNat 8 (b.getD 0xFF)) :: s.shaft.digest).take 768 }

/-- The Shaft's decision on the latest sample (R148, R170). -/
def State.decide_ (s : State) : State :=
  let lv := s.shaft.level
  let counted := ((List.range 16).map s.countTrue)
  let missing := ((List.range 4).filter fun k => s.partnerLacks k s.sv.sidx).length
  let s := { s with shaft.decided := some s.sv.sidx, shaft.partnerMissing := add32 s.shaft.partnerMissing missing }
  match s.firing with
  | some (b, term) =>
    let a := s.cfg (0x2610 + lv) (0x21 + b)
    let s := s.noteDigest lv (some b)
    let s := ((s.emitFiring a lv b term).setStorage (actStore a)).fireMarkers (actMarkers a)
    let s := { s with shaft.level := if actNext a = 0xFF then lv else actNext a }
    ({ s with shaft := s.shaft.stepCounters (some a) fun n => counted.getD n false } : State).stepTimers (some a)
  | none =>
    let s := (s.noteDigest lv none).setStorage 0
    ({ s with shaft := s.shaft.stepCounters none fun n => counted.getD n false } : State).stepTimers none

/-- A sample is decided once, while the Shaft runs (R148). -/
def State.shaftDecision (s : State) : State :=
  if s.shaft.running && s.shaft.decided != some s.sv.sidx then s.decide_ else s

/-- The meaning of SHAFT_DECISION (R148 to R187). -/
def execShaftDecision (s : State) : Host.Outcome State Fault Refusal := ran s s.shaftDecision

/-! ## The restart (R188) -/

/-- Level, counters, timers and storage at a restart (R188). -/
def State.shaftZero (s : State) : State :=
  { s with shaft.level := 0, shaft.counters := Vector.replicate 16 {}, shaft.timers := Vector.replicate 8 {}
           shaft.storage := s.cfgOn 0x2600 1, shaft.decided := none }

/-- The Shaft runs in a capture mode and stops outside, with storage off (R188; log 59). -/
def State.shaftRun (s : State) (capture : Bool) : State :=
  { s with shaft.running := capture, shaft.storage := capture && s.shaft.storage }

/-- The Shaft at an epoch: a restart where the change asks for one (R188). -/
def State.shaftEpoch (s : State) (capture restart : Bool) : State :=
  let s := s.shaftRun capture
  (if restart then s.shaftZero else s).noteShown

end Sys2Proof.Machine
end

