-- ==== Sys2Proof/Machine/Assay.lean ====
section
/-! DEFINITION. The Assay (chapter 8): what a slot takes in on each sample, scopes, the bodies of Table 8.5, numbering,
the look past the close, the way into the class-B queue, the readiness checks of R268. -/

namespace Sys2Proof.Machine

/-! ## Slots -/

/-- Objects of a slot. -/
def slotObject (k : Nat) : Nat := 0x2B10 + k

/-- A slot's object. -/
def State.slotCfg (s : State) (k sub : Nat) : Nat := s.cfg (slotObject k) sub

/-- An Assay slot by number. -/
def State.slot (s : State) (k : Nat) : Slot := vget s.slots k {}

/-- Kinds of Table 8.1. -/
def akOff : Nat := 0
def akClock : Nat := 1
def akSkew : Nat := 2
def akSetupHold : Nat := 3
def akLineGeom : Nat := 4
def akCrc : Nat := 5
def akStuck : Nat := 6

/-- Scopes of Table 8.2. -/
def scIngot : Nat := 0
def scLine : Nat := 1
def scFrame : Nat := 2
def scWindow : Nat := 3

/-- The kind that a slot runs now: none outside the capture modes or while it is isolated (R250, R388). -/
def State.kindNow (s : State) (k : Nat) : Nat :=
  if captureMode s.mode && !s.fm.isolatedSlots.getLsbD k then s.slotCfg k 1 else akOff

/-- No channel. -/
def noChannel : Nat := 0xFFFF

/-- Channels of the bus (R260). -/
def busChannels (val : Nat → Nat → Nat) (k : Nat) : List Nat :=
  (List.range (val (slotObject k) 0x0F)).map fun j => val (slotObject k) 0x0E + j

/-- Data channels of SETUP_HOLD with their index (R258). -/
def dataChannels (val : Nat → Nat → Nat) (k : Nat) : List (Nat × Nat) :=
  (bitsOf 32 (val (slotObject k) 0x0B)).map fun d => (d, val (slotObject k) 0x0A + d)

/-- The channels that a slot reads (Table 8.1). -/
def channelsRead (val : Nat → Nat → Nat) (k : Nat) : List Nat :=
  let a := val (slotObject k) 3
  let b := val (slotObject k) 4
  let kind := val (slotObject k) 1
  if kind = akClock then [a]
  else if kind = akSkew || kind = akLineGeom then [a, b]
  else if kind = akSetupHold then a :: (dataChannels val k).map Prod.snd
  else if kind = akCrc then
    (if a = noChannel then [] else [a]) ++ (if b = noChannel then [] else [b]) ++ busChannels val k
  else if kind = akStuck then (List.range 16).map fun i => a + i
  else []

/-- Seams of a list of channels. -/
def seamsRead (l : List Nat) : List Nat := (l.map fun c => c / 16).dedup

/-- The seam whose stream and ingots an ASSAY names: CH_A's, or BUS_BASE's (R253, R263). -/
def slotSeam (val : Nat → Nat → Nat) (k : Nat) : Nat :=
  (if val (slotObject k) 3 = noChannel then val (slotObject k) 0x0E else val (slotObject k) 3) / 16

/-! ## One sample -/

/-- Fine-bin place of a change of channel `c` first shown on sample `x`, whether coarse, whether on a timing channel
(R251). -/
def State.edgePlace (s : State) (c x : Nat) : Int × Bool × Bool :=
  let n := c / 16
  let isA := s.cfg (0x2400 + n) 2 == c % 16
  let isB := s.cfg (0x2400 + n) 3 == c % 16
  let lf : Int := match s.sourceOf n with
    | some l => (s.cfg (0x2200 + l) 2 % 64 : Nat)
    | none => 0
  let base : Int := 64 * ((x : Int) - 1) - lf
  match (s.seam n).sampleAt x with
  | some m =>
    match (if isA then m.fineA else if isB then m.fineB else none) with
    | some f => (base + f, false, true)
    | none => (base + 32, true, isA || isB)
  | none => (base + 32, true, isA || isB)

/-- Frame and line of the latest sample as one number. -/
def State.lineNo (s : State) : Nat := s.sv.frame * 2 ^ 14 + s.sv.line

/-- The edge of a channel on the latest sample, if its state differs from that of the sample before (R251). -/
def State.edgeNow (s : State) (c : Nat) (counts : Bool) : Option Edge :=
  let x := s.sv.sidx
  if x = 0 then none
  else
    match s.channelAt c (x - 1), s.channelAt c x with
    | some a, some b =>
      if a == b then none
      else
        let p := s.edgePlace c x
        some { pos := p.1, rising := b, sidx := x, line := s.lineNo, coarse := p.2.1, timing := p.2.2, counts }
    | _, _ => none

/-- An edge behind the others. -/
def pushEdge (l : List Edge) (e : Option Edge) : List Edge :=
  match e with
  | some e => l ++ [e]
  | none => l

/-- A sample behind the runs of its kind. -/
def pushRun (l : List Run) (x line : Nat) : List Run :=
  match l.getLast? with
  | some r => if r.after = x && r.line = line then l.dropLast ++ [{ r with after := x + 1 }]
              else l ++ [{ first := x, after := x + 1, line }]
  | none => [{ first := x, after := x + 1, line }]

/-- A line lies in LINE_LO to LINE_HI (R254). -/
def State.lineInRange (s : State) (k line : Nat) : Bool := within (s.slotCfg k 7) (s.slotCfg k 8) line

/-- Runs of invalid data that begin on the latest sample (R252). -/
def State.newBreaks (s : State) (seams : List Nat) : List (Nat × Nat) :=
  let x := s.sv.sidx
  (seams.filter fun n => ((s.seam n).wordAt x).isNone && (x == 0 || ((s.seam n).wordAt (x - 1)).isSome)).map fun n => (n, x)

/-- A bus word is taken on the latest sample (R260). -/
def State.wordTaken (s : State) (k : Nat) : Bool :=
  let a := s.slotCfg k 3
  let b := s.slotCfg k 4
  let high := a == noChannel || s.channelAt a s.sv.sidx == some true
  let edge := b == noChannel || (match s.edgeNow b true with
    | some e => e.rising == (s.slotCfg k 6 == 0)
    | none => false)
  high && edge

/-- Words whose capture sample is the latest one take the bus value (R260). -/
def State.fillWords (s : State) (bus : Nat × Nat × Nat) (l : List (Nat × Option Nat)) : List (Nat × Option Nat) :=
  l.map fun w => if w.1 + bus.2.2 = s.sv.sidx then (w.1, s.busAt bus.1 bus.2.1 s.sv.sidx) else w

/-- The bus of a slot. -/
def State.slotBus (s : State) (k : Nat) : Nat × Nat × Nat := (s.slotCfg k 0x0E, s.slotCfg k 0x0F, s.slotCfg k 0x10)

/-- States of the sixteen channels of STUCK. -/
def State.sixteen (s : State) (a : Nat) : BitVec 16 :=
  BitVec.ofNat 16 (maskOf 16 fun i => s.channelAt (a + i) s.sv.sidx == some true)

/-- CHANNEL_RUNNING on the next edge of a channel reported stuck (R262). -/
def State.runAgain (s : State) (k : Nat) (edges : List (Nat × Edge)) : State :=
  edges.foldl (fun s e =>
    if (s.slot k).stuckRaised.getLsbD e.1 then
      (s.onSlot k fun m => { m with stuckRaised := m.stuckRaised &&& ~~~ (BitVec.ofNat 16 (2 ^ e.1))
                                    stuckRun := vmod m.stuckRun e.1 fun _ => 0 }).event .channelRunning .assay k
        (leBytes 1 k ++ leBytes 2 (s.slotCfg k 3 + e.1))
    else s) s

/-- What a slot takes in on the latest sample (R250 to R262). -/
def State.assaySample (s : State) (k : Nat) : State :=
  let kind := s.kindNow k
  let m := s.slot k
  let s := s.onSlot k fun m => { m with closed := m.closed.map fun r => if r.done then r else { r with words := s.fillWords r.bus r.words } }
  if kind = akOff then s
  else
    let a := s.slotCfg k 3
    let b := s.slotCfg k 4
    let x := s.sv.sidx
    let reads := channelsRead s.cfg k
    let seams := seamsRead reads
    let valid := seams.all fun n => ((s.seam n).wordAt x).isSome
    let inRange := s.lineInRange k s.sv.line
    let counts := m.start.isSome && valid && inRange
    let edgeOf (c : Nat) : Option Edge := if reads.contains c then s.edgeNow c valid else none
    let edgesD : List (Nat × Edge) :=
      if kind = akSetupHold then (dataChannels s.cfg k).filterMap fun d => (s.edgeNow d.2 valid).map fun e => (d.1, e)
      else if kind = akStuck then (List.range 16).filterMap fun i => (s.edgeNow (a + i) valid).map fun e => (i, e)
      else []
    let word := kind == akCrc && counts && s.wordTaken k
    let s := s.onSlot k fun m =>
      { m with
          edgesA := pushEdge m.edgesA (edgeOf a)
          edgesB := if kind == akSkew || kind == akLineGeom || kind == akCrc then pushEdge m.edgesB (edgeOf b) else m.edgesB
          edgesD := m.edgesD ++ edgesD
          breaks := m.breaks ++ s.newBreaks seams
          runs := if counts then pushRun m.runs x s.lineNo else m.runs
          left := if m.start.isSome && inRange && !valid then pushRun m.left x s.lineNo else m.left
          levels := if kind == akStuck && counts then s.sixteen a else m.levels
          words := s.fillWords (s.slotBus k) (if word then m.words ++ [(x, none)] else m.words)
          golden := if s.sv.frameStart then s.slotCfg k 0x11 else m.golden }
    if kind = akStuck then s.runAgain k edgesD else s

/-! ## Intervals -/

/-- The last edge before another that passes a test. -/
def lastBefore (l : List Edge) (e : Edge) (p : Edge → Bool) : Option Edge := (l.filter fun x => x.sidx < e.sidx && p x).getLast?

/-- No run of invalid data on some seams lies between two samples (R252). -/
def unbroken (breaks : List (Nat × Nat)) (seams : List Nat) (a b : Nat) : Bool :=
  !breaks.any fun x => seams.contains x.1 && min a b < x.2 && x.2 ≤ max a b

/-- A measured interval and its edges, the later one last. -/
structure Interval where
  bins : Int
  edges : List Edge
deriving DecidableEq, Repr

/-- The intervals from the last earlier edge that passes a test to each later edge. -/
def intervals (later : List Edge) (all : List Edge) (ok : Edge → Edge → Bool) (p : Edge → Edge → Bool) : List Interval :=
  later.filterMap fun e =>
    match lastBefore all e (p e) with
    | some f => if ok f e then some { bins := e.pos - f.pos, edges := [f, e] } else none
    | none => none

/-- The largest interval that its minimum and maximum fields show (R252). -/
def intervalMax : Int := 4294967294

/-- Some interval is longer than its fields show (R252). -/
def overlong (l : List Interval) : Bool := l.any fun i => intervalMax < i.bins

/-- A minimum field: 0xFFFF_FFFF with no interval or with one too long (R252). -/
def minField (l : List Interval) : Nat :=
  if overlong l then 0xFFFFFFFF
  else match l with
    | [] => 0xFFFFFFFF
    | i :: l => ofSigned 32 (l.foldl (fun m j => min m j.bins) i.bins)

/-- A maximum field: 0 with no interval, 0xFFFF_FFFF with one too long (R252). -/
def maxField (l : List Interval) : Nat :=
  if overlong l then 0xFFFFFFFF
  else match l with
    | [] => 0
    | i :: l => ofSigned 32 (l.foldl (fun m j => max m j.bins) i.bins)

/-- Sum of intervals, modulo 2^64 on the wire. -/
def sumBins (l : List Interval) : Int := (l.map Interval.bins).foldl (· + ·) 0

/-- Edges timed for a list of intervals. -/
def edgesOfIntervals (l : List Interval) : List Edge := l.flatMap Interval.edges

/-- A count in a field of `n` bytes, and whether it saturates. -/
def satField (n v : Nat) : List Byte × Bool := (leBytes n (min v (256 ^ n - 1)), 256 ^ n - 1 < v)

/-- A value as binary32, rounded to nearest, ties to even: `n / d`, 0 for 0 (R256; PRESUMED, log 30). -/
def f32Ratio (n d : Nat) : Nat :=
  if n = 0 ∨ d = 0 then 0
  else
    let e0 : Int := (n.log2 : Int) - d.log2
    let scaled (e : Int) : Nat × Nat := if e ≤ 23 then (n * 2 ^ (23 - e).toNat, d) else (n, d * 2 ^ (e - 23).toNat)
    let e := if (scaled e0).1 < 2 ^ 23 * (scaled e0).2 then e0 - 1 else e0
    let q := (scaled e).1 / (scaled e).2
    let r := (scaled e).1 % (scaled e).2
    let q := if 2 * r > (scaled e).2 || (2 * r == (scaled e).2 && q % 2 == 1) then q + 1 else q
    ((e + 127) * 2 ^ 23 + q - 2 ^ 23).toNat

/-! ## Bodies -/

/-- A body: its bytes, whether a field saturated, the edges timed, STUCK's mask. -/
structure Body where
  bytes : List Byte
  saturated : Bool := false
  timed : List Edge := []
  stuck : Nat := 0
deriving DecidableEq, Repr

/-- The edges on the samples of a scope. -/
def edgesWithin (a b : Nat) (l : List Edge) : List Edge := l.filter fun e => e.counts && a ≤ e.sidx && e.sidx < b

/-- An edge lies on a line from LINE_LO to LINE_HI (R254). -/
def State.onLines (s : State) (k : Nat) (e : Edge) : Bool := s.lineInRange k (e.line % 2 ^ 14)

/-- The edges of a scope that its result takes in (R254, R255). -/
def State.inScope (s : State) (k a b : Nat) (l : List Edge) : List Edge := (edgesWithin a b l).filter (s.onLines k)

/-- An interval from an edge of the scope that closes with sample `b − 1` belongs to the line of its later edge; past the
close, to which the slot looks for it, to the line of the earlier one (R254, R257, R258; log 30). -/
def State.takesInterval (s : State) (k b : Nat) (e f : Edge) : Bool :=
  let later := if e.sidx < f.sidx then f else e
  later.counts && s.onLines k (if later.sidx < b then later else e)

/-- Polarity of CH_A, of CH_B: rising. -/
def State.polA (s : State) (k : Nat) : Bool := s.slotCfg k 5 == 0
def State.polB (s : State) (k : Nat) : Bool := s.slotCfg k 6 == 0

/-- DUTY, none where the quotient does not fit its field or divides by 0 (R256; log 5). -/
def dutyOf (high low : Int) (none_ : Bool) : Option Nat :=
  if none_ then some 0xFFFFFFFF
  else
    let d := 2 ^ 32 * high.toNat / (high + low).toNat
    if (high + low).toNat = 0 || 2 ^ 32 ≤ d then none else some d

/-- FREQ as F32, none where PER_SUM is 0 (R256; log 5). -/
def freqOf (periods : Nat) (sum : Int) : Option Nat :=
  if periods = 0 then some 0 else if sum ≤ 0 then none else some (f32Ratio (periods * 192000000000) sum.toNat)

/-- A value, or a free one (log 5). -/
def State.orFree (s : State) (v : Option Nat) : Nat × State :=
  match v with
  | some n => (n, s)
  | none => s.takeFree

/-- The body of CLOCK (R256). -/
def State.clockBody (s : State) (k a b : Nat) : Body × State :=
  let m := s.slot k
  let seams := [s.slotCfg k 3 / 16]
  let ok (f e : Edge) : Bool := unbroken m.breaks seams f.sidx e.sidx
  let later := s.inScope k a b m.edgesA
  let per := intervals (later.filter fun e => e.rising == s.polA k) m.edgesA ok fun e f => f.rising == e.rising
  let high := intervals (later.filter fun e => !e.rising) m.edgesA ok fun _ f => f.rising
  let low := intervals (later.filter Edge.rising) m.edgesA ok fun _ f => !f.rising
  let (duty, s) := s.orFree (dutyOf (sumBins high) (sumBins low) (high.isEmpty && low.isEmpty))
  let (freq, s) := s.orFree (freqOf per.length (sumBins per))
  let n := satField 4 per.length
  ({ bytes := leBytes 8 (ofSigned 64 (sumBins per)) ++ leBytes 8 (ofSigned 64 (sumBins high)) ++
       leBytes 8 (ofSigned 64 (sumBins low)) ++ n.1 ++ leBytes 4 (minField per) ++ leBytes 4 (maxField per) ++
       leBytes 4 (minField high) ++ leBytes 4 (maxField high) ++ leBytes 4 (minField low) ++ leBytes 4 (maxField low) ++
       leBytes 4 duty ++ leBytes 4 freq ++ List.replicate 4 0
     saturated := overlong per || overlong high || overlong low || n.2
     timed := later ++ edgesOfIntervals (per ++ high ++ low) }, s)

/-- The nearer of two partners of an edge, the earlier of two equally near (R257). -/
def nearer (t : Int) (e f : Edge) : Edge :=
  if (f.pos - t).natAbs < (e.pos - t).natAbs || ((f.pos - t).natAbs == (e.pos - t).natAbs && f.pos < e.pos) then f else e

/-- The partner of an edge among others, within a limit (R257). -/
def partnerOf (l : List Edge) (t : Int) (limit : Nat) : Option Edge :=
  match l.filter fun e => (e.pos - t).natAbs ≤ limit with
  | [] => none
  | e :: l => some (l.foldl (nearer t) e)

/-- The body of SKEW (R257). -/
def State.skewBody (s : State) (k a b : Nat) : Body :=
  let m := s.slot k
  let seams := [s.slotCfg k 3 / 16, s.slotCfg k 4 / 16]
  let mine := (edgesWithin a b m.edgesA).filter fun e => e.rising == s.polA k
  let theirs := m.edgesB.filter fun e => e.rising == s.polB k
  let pairs := mine.map fun e =>
    (e, partnerOf (theirs.filter fun f => unbroken m.breaks seams e.sidx f.sidx) e.pos (s.slotCfg k 9))
  let l : List Interval := pairs.filterMap fun x =>
    match x.2 with
    | some f => if s.takesInterval k b x.1 f then some { bins := f.pos - x.1.pos, edges := [x.1, f] } else none
    | none => none
  let n := satField 4 l.length
  let u := satField 4 (pairs.filter fun x => x.2.isNone && s.onLines k x.1).length
  { bytes := leBytes 8 (ofSigned 64 (sumBins l)) ++ n.1 ++ u.1 ++ leBytes 4 (minField l) ++ leBytes 4 (maxField l) ++
      List.replicate 8 0
    saturated := n.2 || u.2
    timed := mine.filter (s.onLines k) ++ edgesOfIntervals l }

/-- Samples past the close to which the hold window of the last clock edge runs (R258). -/
def holdLook : Nat := 65536

/-- The last of some edges by position. -/
def latestPos : List Edge → Option Edge
  | [] => none
  | e :: l => some (l.foldl (fun m f => if m.pos ≤ f.pos then f else m) e)

/-- The first of some edges by position. -/
def earliestPos : List Edge → Option Edge
  | [] => none
  | e :: l => some (l.foldl (fun m f => if f.pos < m.pos then f else m) e)

/-- Setup and hold edges of a data channel at a clock edge (R258). -/
def State.setupHoldAt (s : State) (k c : Nat) (d : Nat × Nat) (clocks : List Edge) (t : Edge) (end_ : Nat) :
    Option Edge × Option Edge :=
  let m := s.slot k
  let seams := [c / 16, d.2 / 16]
  let mine := ((m.edgesD.filter fun x => x.1 == d.1).map Prod.snd).filter fun e => unbroken m.breaks seams e.sidx t.sidx
  let prev := latestPos (clocks.filter fun e => e.pos < t.pos)
  let next := earliestPos (clocks.filter fun e => t.pos < e.pos)
  let after (e : Edge) : Bool := match prev with
    | some p => p.pos < e.pos
    | none => true
  let before (e : Edge) : Bool := match next with
    | some n => e.pos < n.pos && e.sidx < end_ + holdLook
    | none => e.sidx < end_ + holdLook
  (latestPos (mine.filter fun e => e.pos ≤ t.pos && after e), earliestPos (mine.filter fun e => t.pos < e.pos && before e))

/-- Intervals of a data channel: setup times and hold times of the clock edges of a scope (R254, R258). -/
def State.setupHolds (s : State) (k end_ : Nat) (clocks scope : List Edge) (d : Nat × Nat) : List Interval × List Interval :=
  let ms := scope.map fun t => (t, s.setupHoldAt k (s.slotCfg k 3) d clocks t end_)
  (ms.filterMap fun x =>
     match x.2.1 with
     | some e => if s.onLines k x.1 then some { bins := x.1.pos - e.pos, edges := [e, x.1] } else none
     | none => none,
   ms.filterMap fun x =>
     match x.2.2 with
     | some e => if s.takesInterval k end_ x.1 e then some { bins := e.pos - x.1.pos, edges := [x.1, e] } else none
     | none => none)

/-- Margins of some setup or hold times against what is required (R258). -/
def margins (req : Int) (l : List Interval) : List Int := l.map fun i => i.bins - req

/-- A margin out of the range of its field. -/
def marginSat (m : Int) : Bool := m < -(2 ^ 31) || 2 ^ 31 ≤ m

/-- The worst of some margins, 0x7FFF_FFFF when all are unconstrained (R258). -/
def worst (l : List Int) : Int := l.foldl min 0x7FFFFFFF

/-- A margin field: 0xFFFF_FFFF when the scope has no clock edge or an interval is too long to show (R252), else the
worst margin, 0x7FFF_FFFF when all are unconstrained (R258; log 30). -/
def marginField (none_ : Bool) (req : Int) (l : List Interval) : Nat :=
  if none_ || overlong l then 0xFFFFFFFF else ofI32 (worst (margins req l))

/-- The index of the first channel that has the worst margin, 0xFF when all are unconstrained (Table 8.5). -/
def worstIndex (l : List (Nat × List Int)) : Nat :=
  let w := worst (l.flatMap Prod.snd)
  ((l.find? fun x => !x.2.isEmpty && worst x.2 == w && x.2.contains w).map Prod.fst).getD 0xFF

/-- Violations: margins below 0 (R258). -/
def violations (l : List Int) : Nat := (l.filter fun m => m < 0).length

/-- The body of SETUP_HOLD (R258). -/
def State.setupHoldBody (s : State) (k a b : Nat) : Body :=
  let m := s.slot k
  let clocks := m.edgesA.filter fun e => e.rising == s.polA k
  let scope := edgesWithin a b clocks
  let edges := scope.filter (s.onLines k)
  let per := (dataChannels s.cfg k).map fun d => (d.1, s.setupHolds k b clocks scope d)
  let setups := per.map fun x => (x.1, x.2.1)
  let holds := per.map fun x => (x.1, x.2.2)
  let allS := setups.flatMap Prod.snd
  let allH := holds.flatMap Prod.snd
  let rs := i32 (s.slotCfg k 0x0C)
  let rh := i32 (s.slotCfg k 0x0D)
  let none_ := edges.isEmpty && allH.isEmpty
  let chan (d : Nat) : List Byte :=
    match per.find? fun x => x.1 == d with
    | some x =>
      leBytes 4 (marginField none_ rs x.2.1) ++ leBytes 4 (marginField none_ rh x.2.2) ++
      (satField 4 (violations (margins rs x.2.1))).1 ++ (satField 4 (violations (margins rh x.2.2))).1
    | none => List.replicate 16 0
  let n := satField 4 edges.length
  let sv := satField 4 (violations (margins rs allS))
  let hv := satField 4 (violations (margins rh allH))
  let none2 := none_ || per.isEmpty
  { bytes := n.1 ++ leBytes 4 (s.slotCfg k 0x0B) ++ sv.1 ++ hv.1 ++ leBytes 4 (marginField none2 rs allS) ++
      leBytes 4 (marginField none2 rh allH) ++ leBytes 1 (worstIndex (setups.map fun x => (x.1, margins rs x.2))) ++
      leBytes 1 (worstIndex (holds.map fun x => (x.1, margins rh x.2))) ++ List.replicate 6 0 ++
      (List.range 32).flatMap chan
    saturated := n.2 || sv.2 || hv.2 || overlong allS || overlong allH || (margins rs allS ++ margins rh allH).any marginSat
    timed := edges ++ edgesOfIntervals (allS ++ allH) }

/-- Two edges lie in consecutive lines of RASTPOS (R259). -/
def consecutive (lpf a b : Nat) : Bool :=
  if a % 2 ^ 14 + 1 = lpf then b % 2 ^ 14 == 0 && b / 2 ^ 14 == (a / 2 ^ 14 + 1) % 2 ^ 24 else b == a + 1

/-- The body of LINE_GEOM (R259). -/
def State.lineGeomBody (s : State) (k a b : Nat) : Body :=
  let m := s.slot k
  let sa := [s.slotCfg k 3 / 16]
  let ok (f e : Edge) : Bool := unbroken m.breaks sa f.sidx e.sidx
  let later := s.inScope k a b m.edgesA
  let rises := later.filter Edge.rising
  let falls := later.filter fun e => !e.rising
  let lines := intervals rises m.edgesA (fun f e => ok f e && consecutive s.sv.lpf f.line e.line) fun _ f => f.rising
  let active := intervals falls m.edgesA ok fun _ f => f.rising
  let pix := active.filterMap fun i =>
    match i.edges with
    | [f, e] =>
      if unbroken m.breaks [s.slotCfg k 3 / 16, s.slotCfg k 4 / 16] f.sidx e.sidx then
        some ({ bins := ((m.edgesB.filter fun x => x.rising == s.polB k && f.sidx ≤ x.sidx && x.sidx < e.sidx).length : Nat)
                edges := [] } : Interval)
      else none
    | _ => none
  let n := satField 4 rises.length
  { bytes := leBytes 4 (minField lines) ++ leBytes 4 (maxField lines) ++ leBytes 4 (minField active) ++
      leBytes 4 (maxField active) ++ leBytes 4 (minField pix) ++ leBytes 4 (maxField pix) ++ n.1 ++ List.replicate 4 0
    saturated := overlong lines || overlong active || overlong pix || n.2
    timed := edgesOfIntervals (lines ++ active) }

/-- Words of a CRC scope as bytes (R260). -/
def wordBytes (width : Nat) (l : List (Nat × Option Nat)) : List Byte :=
  (l.filterMap Prod.snd).flatMap fun w => leBytes ((width + 7) / 8) w

/-- The check of a CRC scope: CRC-16 in LINE scope, CRC-32 otherwise (R260). -/
def checkOf (scope width : Nat) (l : List (Nat × Option Nat)) : Nat :=
  if scope = scLine then (crc16 (wordBytes width l)).toNat else (crc32 (wordBytes width l)).toNat

/-- A word was left out for lack of valid data (R260). -/
def wordsLeft (l : List (Nat × Option Nat)) : Bool := l.any fun w => w.2.isNone

/-- The body of CRC (R260, R261): with the GOLDEN compared, or 0. -/
def crcBody (scope : Nat) (bus : Nat × Nat × Nat) (words : List (Nat × Option Nat)) (golden : Nat) : Body :=
  let n := satField 4 (words.filterMap Prod.snd).length
  { bytes := leBytes 4 (checkOf scope bus.2.1 words) ++ n.1 ++ leBytes 4 golden ++ leBytes 1 bus.2.1 ++
      List.replicate 3 0
    saturated := n.2 }

/-- The body of STUCK (R262): the channels without an edge over the contributing samples, and their levels; none is
reported when no sample contributed or one was left out (R255; log 30). -/
def State.stuckBody (s : State) (k a b : Nat) (whole : Bool) : Body :=
  let m := s.slot k
  let moved := maskOf 16 fun i => !(s.inScope k a b ((m.edgesD.filter fun e => e.1 == i).map Prod.snd)).isEmpty
  let stuck := if whole then 65535 - moved else 0
  { bytes := leBytes 2 stuck ++ leBytes 2 m.levels.toNat ++ List.replicate 12 0, stuck }

/-! ## STATUS -/

/-- STATUS bits of Table 8.4. -/
def asPartial : Nat := 0
def asNoData : Nat := 1
def asCut : Nat := 2
def asCoarse : Nat := 3
def asSaturated : Nat := 4
def asCompared : Nat := 5
def asMismatch : Nat := 6

/-- STATUS with a bit set when a condition holds. -/
def setBit (st bit_ : Nat) (b : Bool) : Nat := if b then st ||| 2 ^ bit_ else st

/-! ## Closing -/

/-- Contributing samples of some runs. -/
def runSamples (l : List Run) : Nat := (l.map fun r => r.after - r.first).sum

/-- Lines of some runs. -/
def runLines (l : List Run) : Nat := ((l.map Run.line).dedup).length

/-- Runs up to sample `b − 1`. -/
def runsUpTo (b : Nat) (l : List Run) : List Run :=
  (l.filter fun r => r.first < b).map fun r => { r with after := min r.after b }

/-- EDGES_A and EDGES_B of a scope (Table 8.3). -/
def State.edgeCounts (s : State) (k a b : Nat) : Nat × Nat :=
  let m := s.slot k
  let edgesA := if s.slotCfg k 1 == akStuck then (m.edgesD.filter fun x => x.1 == 0).map Prod.snd else m.edgesA
  ((s.inScope k a b edgesA).length, (s.inScope k a b m.edgesB).length)

/-- The common part of a payload (Table 8.3), with whether a field of it saturates. -/
def assayCommon (status : Nat) (r : AssayDue) : List Byte × Bool :=
  let v := satField 4 (runSamples r.runs)
  let ea := satField 4 r.edges.1
  let eb := satField 4 r.edges.2
  let l := satField 2 (runLines r.runs)
  let line := if r.scope == scLine then (unpackPos r.ingot.rastpos).line else 0xFFFF
  (leBytes 1 r.kind ++ leBytes 1 r.scope ++ leBytes 1 status ++ [0] ++ leBytes 2 r.chA ++ leBytes 2 r.chB ++ v.1 ++ ea.1 ++
   eb.1 ++ leBytes 2 line ++ l.1 ++ List.replicate 8 0, v.2 || ea.2 || eb.2 || l.2)

/-- The body of a result by its kind (Table 8.5). -/
def State.assayBody (s : State) (k : Nat) (r : AssayDue) (golden : Nat) : Body × State :=
  let a := r.ingot.sidx
  if r.kind = akClock then s.clockBody k a r.end_
  else if r.kind = akSkew then (s.skewBody k a r.end_, s)
  else if r.kind = akSetupHold then (s.setupHoldBody k a r.end_, s)
  else if r.kind = akLineGeom then (s.lineGeomBody k a r.end_, s)
  else if r.kind = akCrc then (crcBody r.scope r.bus r.words golden, s)
  else (s.stuckBody k a r.end_ (!r.runs.isEmpty && !r.status.testBit asPartial), s)

/-- Runs of stuck channels with CHANNEL_STUCK after STUCK_SCOPES results in a row (R262). -/
def State.noteStuck (s : State) (k mask : Nat) : State :=
  let limit := s.slotCfg k 0x13
  let s := s.onSlot k fun m => { m with stuckRun := vmap m.stuckRun fun i n => if mask.testBit i then n + 1 else 0 }
  if limit = 0 then s
  else
    (List.range 16).foldl (fun s i =>
      if vget (s.slot k).stuckRun i 0 == limit && !(s.slot k).stuckRaised.getLsbD i then
        (s.onSlot k fun m => { m with stuckRaised := m.stuckRaised ||| BitVec.ofNat 16 (2 ^ i) }).event .channelStuck .assay k
          (leBytes 1 k ++ leBytes 2 (s.slotCfg k 3 + i))
      else s) s

/-- A mismatch with GOLDEN (R261). -/
def State.mismatch (s : State) (k : Nat) (found golden : Nat) : State :=
  (s.onSlot k fun m => { m with mismatches := inc32 m.mismatches }).notice .crcMismatch .assay k
    (leBytes 1 k ++ leBytes 4 found ++ leBytes 4 golden)

/-- A result made final: body, STATUS, FINE_OVERFLOW (R251, R261, R264). -/
def State.finishResult (s : State) (k : Nat) (r : AssayDue) : AssayDue × State :=
  if r.done then (r, s)
  else
    let st := setBit r.status asPartial (wordsLeft r.words)
    let compared := r.compare.isSome && !st.testBit asPartial
    let golden := if compared then r.compare.getD 0 else 0
    let found := checkOf r.scope r.bus.2.1 r.words
    let differs := compared && found != golden
    let (b, s) := s.assayBody k r golden
    let coarse := b.timed.any Edge.coarse
    let st := setBit (setBit (setBit st asCoarse coarse) asCompared compared) asMismatch differs
    let st := setBit st asSaturated (b.saturated || (assayCommon st r).2)
    let p := (assayCommon st r).1 ++ b.bytes
    let fo := flagIf (b.timed.any fun e => e.coarse && e.timing) flFineOverflow
    let s := if differs then s.mismatch k found golden else s
    let s := if r.kind == akStuck then s.noteStuck k b.stuck else s
    ({ r with ingot := { r.ingot with payload := p, stored := p, flags := r.ingot.flags ||| fo }, status := st, done := true }, s)

/-- A result waits for what lies past its close (R257, R258, R260). -/
def State.looksAhead (s : State) (k : Nat) (r : AssayDue) : Bool :=
  let x := s.sv.sidx
  if r.kind = akSkew then 64 * x < 64 * r.end_ + s.slotCfg k 9 + 192
  else if r.kind = akSetupHold then
    let clocks := (s.slot k).edgesA.filter fun e => e.rising == s.polA k
    !(edgesWithin r.ingot.sidx r.end_ clocks).isEmpty && x < r.end_ + holdLook &&
      !clocks.any fun e => r.end_ ≤ e.sidx && e.sidx + 2 ≤ x
  else if r.kind = akCrc then x < r.end_ + r.bus.2.2
  else false

/-- GOLDEN that a closing FRAME result may be held against: every line of the range lies whole in the scope (R261). -/
def State.compareWith (s : State) (k : Nat) (runs : List Run) (partLast : Bool) : Option Nat :=
  let m := s.slot k
  let lo := s.slotCfg k 7
  let hi := s.slotCfg k 8
  let firstLine := (m.start.map fun c => (unpackPos c.rastpos).line).getD 0
  let whole := !(m.midLine && within lo hi firstLine) && !(partLast && within lo hi s.sv.line)
  if s.slotCfg k 0x12 == 1 && s.slotCfg k 2 == scFrame && s.slotCfg k 1 == akCrc && whole && lo ≤ hi &&
      hi < s.sv.lpf && runLines runs == hi + 1 - lo then
    some m.golden
  else none

/-- A scope closes after sample `b − 1`: the result takes its number (R253, R263, R265). -/
def State.closeScope (s : State) (k b : Nat) (cutEnd : Bool) : State :=
  let m := s.slot k
  let s := s.onSlot k fun m => { m with start := none, cutStart := false, midLine := false, runs := [], left := [], words := [] }
  match m.start with
  | none => s
  | some c =>
    let skip := s.slotCfg k 2 == scLine && !s.lineInRange k (unpackPos c.rastpos).line
    if b ≤ c.sidx || skip then s
    else
      let runs := runsUpTo b m.runs
      let partLast := cutEnd && !s.sv.lineStart
      let compare := ({ s with slots := vmod s.slots k fun _ => m } : State).compareWith k runs partLast
      let st := setBit (setBit (setBit 0 asPartial (m.left.any fun r => r.first < b)) asNoData runs.isEmpty) asCut (m.cutStart || cutEnd)
      let q := s.cfg (0x2400 + slotSeam s.cfg k) 4
      let i : Ingot :=
        { type := 6, flags := flagIf (s.sv.holdMark.within c.sidx b) flHoldover ||| flagIf (s.sv.dllMark.within c.sidx b) flFineOverflow
          stream := if q < 64 then q else 0xFF
          source := 0x80 + k, seq := m.nextSeq, sidx := c.sidx, rastpos := c.rastpos, time96 := c.time96, span := b - c.sidx
          epoch := s.epochNo, aux := s.slotCfg k 1, payload := [], stored := [], close := b, rank := 3, isSealed := true }
      let r : AssayDue :=
        { ingot := i, end_ := b, kind := s.slotCfg k 1, scope := s.slotCfg k 2, chA := s.slotCfg k 3, chB := s.slotCfg k 4
          edges := s.edgeCounts k c.sidx b, status := st, runs, words := m.words.filter fun w => w.1 < b, bus := s.slotBus k, compare
          done := false }
      let s := s.onSlot k fun m => { m with nextSeq := m.nextSeq + 1, results := inc64 m.results }
      let x := if s.looksAhead k r then (r, s) else s.finishResult k r
      x.2.onSlot k fun m => { m with closed := m.closed ++ [x.1] }

/-! ## Scopes -/

/-- First sample of the ingot of a slot's seam that is being made (R253). -/
def State.ingotStart (s : State) (k : Nat) : Option Nat :=
  let n := slotSeam s.cfg k
  match (s.seam n).openStream with
  | some c => some c.sidx
  | none => (s.seam n).openWindow.map Coord.sidx

/-- The sample after the window scope that holds sample `a`, of a segment armed by then (R184, R186, R253). -/
def State.windowEnd (s : State) (a : Nat) : Option Nat :=
  let closed := (List.range 64).find? fun n =>
    (s.segment n).state == 3 && (s.segment n).armSidx ≤ a && a < (s.segment n).endSidx
  match s.shaft.filling with
  | some g => if (s.segment g.val).armSidx ≤ a then none else some ((closed.map fun n => (s.segment n).endSidx).getD s.sv.sidx)
  | none =>
    match s.shaft.dead with
    | some d => some d.start.sidx
    | none => some ((closed.map fun n => (s.segment n).endSidx).getD s.sv.sidx)

/-- Where the scope in progress ends by the latest sample: none while it goes on (R253). -/
def State.scopeEnd (s : State) (k : Nat) (a : Nat) : Option Nat :=
  let sc := s.slotCfg k 2
  let x := s.sv.sidx
  if x ≤ a then none
  else if sc = scIngot then (if s.ingotStart k == some a then none else some x)
  else if sc = scLine then (if s.sv.lineStart then some x else none)
  else if sc = scFrame then (if s.sv.frameStart then some x else none)
  else if windowMode s.runMode then s.windowEnd a
  else if s.shaft.decided == some x && s.shaft.storeMark.last != some x then some x
  else none

/-- A scope starts on the latest sample (R253). -/
def State.scopeStarts (s : State) (k : Nat) : Bool :=
  let sc := s.slotCfg k 2
  let x := s.sv.sidx
  if sc = scIngot then s.ingotStart k == some x
  else if sc = scLine then s.sv.lineStart
  else if sc = scFrame then s.sv.frameStart
  else if windowMode s.runMode then
    (match s.shaft.filling with
     | some g => (s.segment g.val).armSidx == x
     | none => false)
  else s.shaft.decided == some x && s.shaft.storeMark.last == some x

/-- A scope opens on the latest sample. -/
def State.openScope (s : State) (k : Nat) (cut : Bool) : State :=
  s.onSlot k fun m => { m with start := some s.here, cutStart := cut, midLine := !s.sv.lineStart, runs := [], left := [], words := [] }

/-- A slot's scope closes and the next one opens, where the latest sample is their boundary (R253, R265). -/
def State.assayBoundary (s : State) (k : Nat) : State :=
  if s.kindNow k = akOff then s.onSlot k fun m => { m with start := none, runs := [], left := [], words := [] }
  else
    let s := match (s.slot k).start with
      | some c =>
        match s.scopeEnd k c.sidx with
        | some b => s.closeScope k b false
        | none => s
      | none => s
    if (s.slot k).start.isNone && s.scopeStarts k then s.openScope k false else s

/-- The meaning of ASSAY_RESULT_CLOSE (R250 to R265). -/
def execAssayResultClose (k : Fin 32) (s : State) : Host.Outcome State Fault Refusal := ran s (s.assayBoundary k.val)

/-! ## Epochs -/

/-- A natural boundary of a slot's scope on the latest sample, at which an epoch shortens nothing (R253). -/
def State.onBoundary (s : State) (k : Nat) : Bool :=
  let sc := s.slotCfg k 2
  if sc = scIngot then s.gridPoint (s.gridOf (slotSeam s.cfg k) (if (s.seam (slotSeam s.cfg k)).openStream.isSome then .stream else .window))
  else if sc = scLine then s.sv.lineStart
  else if sc = scFrame then s.sv.frameStart
  else false

/-- Every result of a slot made final, but for those of CRC that wait for a word (R260). -/
def State.finishAll (s : State) (k : Nat) : State :=
  let go := (s.slot k).closed.foldl (fun (x : List AssayDue × State) r =>
    let y := if r.kind == akCrc then (r, x.2) else x.2.finishResult k r
    (x.1 ++ [y.1], y.2)) ([], s)
  go.2.onSlot k fun m => { m with closed := go.1 }

/-- An epoch ends a slot's scope, before the new values are loaded: the result is cut, and nothing is looked for past
the epoch but the words of a bus (R252, R253). -/
def State.assayCut (s : State) (k : Nat) : State :=
  if s.kindNow k = akOff then s
  else
    let s := if (s.slot k).start.isSome then s.closeScope k s.sv.sidx (!s.onBoundary k) else s
    (s.finishAll k).onSlot k fun m => { m with edgesA := [], edgesB := [], edgesD := [], breaks := [] }

/-- A slot's sequence restarts (R265). -/
def Slot.restart (m : Slot) : Slot := { m with nextSeq := 0 }

/-- What STUCK has seen of other channels is forgotten (R262; log 59). -/
def Slot.forgetStuck (m : Slot) : Slot := { m with stuckRun := Vector.replicate 16 0, stuckRaised := 0 }

/-- KIND or CH_A of a slot has changed. -/
def State.slotMoved (s : State) (old : Nat → Nat → Nat) (k : Nat) : Bool :=
  old (slotObject k) 1 != s.slotCfg k 1 || old (slotObject k) 3 != s.slotCfg k 3

/-- A window segment that has begun by the latest sample is being filled: it was armed on it, or goes on over an epoch
(R188, R253). -/
def State.armedHere (s : State) : Option Bool :=
  s.shaft.filling.map fun g => (s.segment g.val).armSidx == s.sv.sidx

/-- An epoch opens a slot's scope under the new values; `old` are the values before it, `zero` restarts its sequence,
`starts` says that it did not run before (R253, R261, R265). -/
def State.assayOpen (s : State) (k : Nat) (old : Nat → Nat → Nat) (zero starts wasOpen : Bool) : State :=
  let s := if zero then s.onSlot k Slot.restart else s
  let s := if s.slotMoved old k then s.onSlot k Slot.forgetStuck else s
  if s.kindNow k = akOff then s
  else
    let s := if starts then s.onSlot k fun m => { m with golden := s.slotCfg k 0x11 } else s
    let sc := s.slotCfg k 2
    if sc = scLine || sc = scFrame then s.openScope k (!s.onBoundary k)
    else if sc = scIngot then (if s.ingotStart k == some s.sv.sidx then s.openScope k (!s.onBoundary k) else s)
    else if windowMode s.runMode then
      (match s.armedHere with
       | some new => s.openScope k (!new)
       | none => s)
    else if s.shaft.storage then s.openScope k wasOpen
    else s

/-! ## Into the queue -/

/-- A result enters the class-B queue: a Shadow discards it, and without a ring it is dropped and counted (R266, R267,
R280). -/
def State.deliverResult (s : State) (r : AssayDue) : State :=
  let i := { r.ingot with flags := r.ingot.flags ||| s.splitFlag r.ingot }
  if s.isShadow then s
  else if s.cfg 0x2C00 1 == 0xFF then { s with grizzly.classBDropped := inc32 s.grizzly.classBDropped }
  else s.enqueueB (.assay i)

/-- A result of another slot comes before one in the order of numbering: close sample, then slot number (R265). -/
def State.earlierResult (s : State) (k : Nat) (r : AssayDue) : Bool :=
  (List.range 32).any fun j =>
    match (s.slot j).closed with
    | q :: _ => j != k && (q.end_ < r.end_ || (q.end_ == r.end_ && j < k))
    | [] => false

/-- A slot's oldest result is made final and enters the queue once nothing holds it and no other comes before it (R135,
R257, R258, R266). -/
def State.enqueueResult (s : State) (k : Nat) : State :=
  match (s.slot k).closed with
  | [] => s
  | r :: l =>
    if (!r.done && s.looksAhead k r) || s.earlierResult k r then s
    else
      let (r, s) := s.finishResult k r
      if s.doorWaits r.ingot then s.onSlot k fun m => { m with closed := r :: l }
      else (s.onSlot k fun m => { m with closed := l }).deliverResult r

/-- Results closed before a takeover are lost (R267). -/
def State.loseResults (s : State) : State :=
  { s with slots := vmap s.slots fun _ m => { m with closed := m.closed.filter fun r => s.sv.sidx ≤ r.end_ } }

/-- The meaning of ASSAY_RESULT_ENQUEUE (R266, R267). -/
def execAssayResultEnqueue (k : Fin 32) (s : State) : Host.Outcome State Fault Refusal := ran s (s.enqueueResult k.val)

/-! ## Readiness -/

/-- The checks of R268 on one slot, under the values and the mode of a change. -/
def slotReady (val : Nat → Nat → Nat) (mode k : Nat) : Bool :=
  let o := slotObject k
  let kind := val o 1
  let a := val o 3
  let b := val o 4
  let channel (c : Nat) : Bool := withinOr 0 767 noChannel c
  let needA := kind == akClock || kind == akSkew || kind == akSetupHold || kind == akLineGeom || kind == akStuck
  let n := slotSeam val k
  let q := val (0x2400 + n) 4
  let hasIngots := (streamingMode mode && q < 64) || (val 0x2600 3).testBit n
  channel a && channel b && !(needA && a == noChannel) && !((kind == akSkew || kind == akLineGeom) && b == noChannel) &&
  !(kind == akStuck && 752 < a) && (dataChannels val k).all (fun d => d.2 ≤ 767) && val o 0x0E + val o 0x0F ≤ 768 &&
  val o 7 ≤ val o 8 && !(val o 0x12 == 1 && val o 2 != scFrame) &&
  !(val o 2 == scIngot && captureMode mode && mode != 5 && !hasIngots)

/-- The Assay is READY for a change (R268; log 30). -/
def assayReady (val : Nat → Nat → Nat) (mode : Nat) : Bool := (List.range 32).all fun k => slotReady val mode k

end Sys2Proof.Machine
end

