-- ==== Sys2Proof/Machine/Cages.lean ====
section
/-! DEFINITION. Claims (R339 to R341), voted fields (R342), cages and Bells (R343 to R348), skips (R349 to R353), and
their commands. Synchroniser delays are left out: a side sees the other's pointer at once (R351, log 22). -/

namespace Sys2Proof.Machine

/-! ## Claims -/

/-- Offset of a claim in BAR 0 (R339). -/
def claimOffset (i : Nat) : Nat := 0x200000 + 4 * i

/-- A claim by number. -/
def State.claim (s : State) (i : Nat) : Claim := vget s.regs.claims i {}

/-- A claim changed. -/
def State.onClaim (s : State) (i : Nat) (f : Claim → Claim) : State := { s with regs.claims := vmod s.regs.claims i f }

/-- CLAIM as a word: STATE, OWNER, GRANTS (Table 11.6). -/
def claimWord (state owner grants : Nat) : Nat := state + 16 * owner + 2 ^ 16 * (grants % 2 ^ 16)

/-- The word that a read of a claim returns, and what the read does (R339). -/
def State.readClaim (s : State) (m : Master) (i : Nat) (zeroLength : Bool) : Nat × State :=
  let c := s.claim i
  if c.owner != 0 then (claimWord 2 c.owner c.grants, s)
  else if zeroLength then (claimWord 0 0 c.grants, s)
  else
    let g := (c.grants + 1) % 2 ^ 16
    (claimWord 1 (masterCode m) g, s.onClaim i fun c => { c with owner := masterCode m, grants := g })

/-- A claim freed (R341). -/
def State.freeClaim (s : State) (i : Nat) : State := s.onClaim i fun c => { c with owner := 0 }

/-- A write of OWNER (R341). -/
def State.writeClaim (s : State) (m : Master) (i owner : Nat) : State :=
  if m == .foreman && owner == 0xF then s.freeClaim i
  else if (s.claim i).owner == masterCode m && owner == masterCode m then s.freeClaim i
  else s.accessFault (claimOffset i) afRelease m

/-- The claims of a master are released (R341). -/
def State.dropClaims (s : State) (m : Master) : State :=
  { s with regs.claims := vmap s.regs.claims fun _ c => if c.owner == masterCode m then { c with owner := 0 } else c }

/-- The meaning of CLAIM_READ (R339, R340). A PF1 read is one that R277 has let in. -/
def execClaimRead (m : Master) (i : Fin 16) (zeroLength : Bool) (s : State) : Host.Outcome State Fault Refusal :=
  let r := s.readClaim m i.val zeroLength
  ran s (r.2.send (.completion true false [BitVec.ofNat 32 r.1]))

/-- The meaning of CLAIM_RELEASE (R341). -/
def execClaimRelease (m : Master) (i : Fin 16) (owner : BitVec 4) (s : State) : Host.Outcome State Fault Refusal :=
  ran s (s.writeClaim m i.val owner.toNat)

/-- The meaning of CLAIM_FORCE_RELEASE: the Foreman writes OWNER 0xF (R341). -/
def execClaimForceRelease (i : Fin 16) (s : State) : Host.Outcome State Fault Refusal := ran s (s.freeClaim i.val)

/-! ## Voted fields -/

/-- Bit of a voted field (Table 11.2); a lane of the Crosscut and a probe link share bit 3. -/
def votedBit : VotedField → Nat
  | .mode => 0 | .epoch => 1 | .floor => 2 | .lanes => 3 | .role => 4 | .lifeCycle => 5

/-- Owning block of a field of which three copies disagree; lane enables that agree on every probe link are the Crosscut's
(Table 11.2). -/
def votedUnit (f : VotedField) (a b c : Nat) : UnitId :=
  match f with
  | .mode => .surveyor
  | .epoch => .surveyor
  | .floor => .grizzly
  | .lanes => if a % 2 ^ 48 == b % 2 ^ 48 && b % 2 ^ 48 == c % 2 ^ 48 then .crosscut else .probeLinks
  | .role => .crosscut
  | .lifeCycle => .foreman

/-- How restrictive a life-cycle state is, by the access it leaves (Table 13.9; log 31). -/
def restriction (lc : Nat) : Nat := if lc = 0 then 0 else if lc = 3 then 1 else if lc = 1 then 2 else 3

/-- The most restrictive of three life-cycle states (R342). -/
def mostRestrictive (a b c : Nat) : Nat :=
  let m := if restriction a < restriction b then b else a
  if restriction m < restriction c then c else m

/-- What three copies give: the corrected field and whether one copy was corrected, or the split with the value in use
(R342). -/
def vote {α : Type} [DecidableEq α] (v : Voted α) (a b c : α) : Voted α × Nat :=
  if a = b ∧ b = c then (v, 0)
  else if a = b then (.all a, 1)
  else if a = c then (.all a, 1)
  else if b = c then (.all b, 1)
  else ({ c0 := a, c1 := b, c2 := c, last := v.value }, 2)

/-- The floor field of a copy: F in the high part, Bf in the low 48 bits. -/
def floorOf (c : Nat) : Nat × Nat := (c / 2 ^ 48, c % 2 ^ 48)

/-- A field compared on three copies: what is corrected or split (R342). -/
def State.compareCopies (s : State) (f : VotedField) (a b c : Nat) : State × Nat :=
  match f with
  | .mode => let r := vote s.modes.mode a b c; ({ s with modes.mode := r.1 }, r.2)
  | .epoch => let r := vote s.modes.epoch a b c; ({ s with modes.epoch := r.1 }, r.2)
  | .floor => let r := vote s.grizzly.floor (floorOf a) (floorOf b) (floorOf c); ({ s with grizzly.floor := r.1 }, r.2)
  | .lanes =>
    let r := vote s.regs.lanes (BitVec.ofNat 52 a) (BitVec.ofNat 52 b) (BitVec.ofNat 52 c)
    ({ s with regs.lanes := r.1 }, r.2)
  | .role => let r := vote s.twin.role a b c; ({ s with twin.role := r.1 }, r.2)
  | .lifeCycle =>
    let r := vote s.fm.lifeCycle a b c
    ({ s with fm.lifeCycle := if r.2 == 2 then { r.1 with last := mostRestrictive a b c } else r.1 }, r.2)

/-- The copies of a field disagree (R342). -/
def State.voteMismatch (s : State) (f : VotedField) (a b c : Nat) : State :=
  let r := s.compareCopies f a b c
  if r.2 = 0 then s
  else if r.2 = 1 then
    { r.1 with regs.voteFixed := r.1.regs.voteFixed ||| BitVec.ofNat 6 (2 ^ votedBit f)
               regs.voteCorrected := r.1.regs.voteCorrected.inc }
  else
    ({ r.1 with regs.voteSplit := r.1.regs.voteSplit ||| BitVec.ofNat 6 (2 ^ votedBit f) } : State).fault .isolate .voteSplit
      (votedUnit f a b c) 0xFF (leBytes 1 (votedBit f))

/-- The meaning of VOTE_MISMATCH (R342). -/
def execVoteMismatch (f : VotedField) (c0 c1 c2 : Nat) (s : State) : Host.Outcome State Fault Refusal :=
  ran s (s.voteMismatch f c0 c1 c2)

/-- A split field written on all copies with the value in use, and its bit cleared, once the fault is handled
(R342). -/
def State.settleVotes (s : State) : State :=
  { s with modes.mode := .all s.modes.mode.value, modes.epoch := .all s.modes.epoch.value
           grizzly.floor := .all s.grizzly.floor.value, regs.lanes := .all s.regs.lanes.value
           twin.role := .all s.twin.role.value, fm.lifeCycle := .all s.fm.lifeCycle.value, regs.voteSplit := 0 }

/-! ## Cage sides -/

/-- A side's registers. -/
def State.cage (s : State) : CageSide → CageEnd
  | .pf0Host c => (vget s.regs.cages0 c.val {}).host
  | .pf0Foreman c => (vget s.regs.cages0 c.val {}).foreman
  | .pf1Host c => (vget s.regs.cages1 c.val {}).host
  | .pf1Foreman c => (vget s.regs.cages1 c.val {}).foreman
  | .twinLocal => s.regs.cageTwin.host
  | .twinRemote => s.regs.cageTwin.foreman

/-- A side changed. -/
def State.onCage (s : State) (side : CageSide) (f : CageEnd → CageEnd) : State :=
  match side with
  | .pf0Host c => { s with regs.cages0 := vmod s.regs.cages0 c.val fun m => { m with host := f m.host } }
  | .pf0Foreman c => { s with regs.cages0 := vmod s.regs.cages0 c.val fun m => { m with foreman := f m.foreman } }
  | .pf1Host c => { s with regs.cages1 := vmod s.regs.cages1 c.val fun m => { m with host := f m.host } }
  | .pf1Foreman c => { s with regs.cages1 := vmod s.regs.cages1 c.val fun m => { m with foreman := f m.foreman } }
  | .twinLocal => { s with regs.cageTwin := { s.regs.cageTwin with host := f s.regs.cageTwin.host } }
  | .twinRemote => { s with regs.cageTwin := { s.regs.cageTwin with foreman := f s.regs.cageTwin.foreman } }

/-- The other side of a channel. -/
def peerSide : CageSide → CageSide
  | .pf0Host c => .pf0Foreman c
  | .pf0Foreman c => .pf0Host c
  | .pf1Host c => .pf1Foreman c
  | .pf1Foreman c => .pf1Host c
  | .twinLocal => .twinRemote
  | .twinRemote => .twinLocal

/-- SOURCE of a side's messages (Table 11.4): on TWIN each receiver sees the twin's Foreman (log 31). -/
def cageSource : CageSide → Nat
  | .pf0Host _ => 2
  | .pf1Host _ => 3
  | .pf0Foreman _ | .pf1Foreman _ => 1
  | .twinLocal | .twinRemote => 4

/-- Number of a channel (Table 11.4). -/
def cageChannel : CageSide → Nat
  | .pf0Host c | .pf0Foreman c => c.val
  | .pf1Host c | .pf1Foreman c => c.val
  | .twinLocal | .twinRemote => 0xFF

/-- A channel of PF1. -/
def cageSecure : CageSide → Bool
  | .pf1Host _ | .pf1Foreman _ => true
  | _ => false

/-- Places of a receive queue (R344). -/
def cageDepth : Nat := 16

/-- Word 0 of a message (Table 11.4). -/
def cageStamp (side : CageSide) (seq : Nat) : Word :=
  BitVec.ofNat 32 (cageSource side + 16 * bit (cageSecure side) + 2 ^ 8 * cageChannel side + 2 ^ 16 * (seq % 2 ^ 16))

/-! ## Bells -/

/-- The vector of a host side becomes due (Table 9.7). -/
def State.cageVector (s : State) (side : CageSide) : State :=
  match side with
  | .pf0Host c => s.raiseVector .pf0 (128 + c.val)
  | .pf1Host c => s.raiseVector .pf1 c.val
  | _ => s

/-- A side is held in reset: its peer shows it in PEER_IN_RESET (R347). -/
def State.sideInReset (s : State) (side : CageSide) : Bool := (s.cage (peerSide side)).peerInReset

/-- Bells raised to a side: newly pending ones that are not masked make the vector due; all are discarded while the side is
held in reset (R346, R347). -/
def State.raiseBells (s : State) (side : CageSide) (mask : Word) : State :=
  let m := s.cage side
  let fresh := mask &&& ~~~ m.pend
  let t := s.onCage side fun m => { m with pend := m.pend ||| mask }
  if s.sideInReset side then s else if fresh &&& ~~~ m.mask != 0 then t.cageVector side else t

/-- A CG_BELL_RAISE write: Bells 3 to 31 (R346). -/
def State.bellRaise (s : State) (side : CageSide) (mask : Word) : State := s.raiseBells (peerSide side) (mask &&& 0xFFFFFFF8)

/-- A CG_BELL_PEND write (R346). -/
def State.bellClear (s : State) (side : CageSide) (mask : Word) : State :=
  s.onCage side fun m => { m with pend := m.pend &&& ~~~ mask }

/-- A CG_BELL_MASK write: an unmasked pending Bell makes the vector due (R346). -/
def State.bellMask (s : State) (side : CageSide) (mask : Word) : State :=
  let m := s.cage side
  let s := s.onCage side fun m => { m with mask }
  if m.mask &&& ~~~ mask &&& m.pend != 0 then s.cageVector side else s

/-- The meaning of BELL_RAISE (R346). -/
def execBellRaise (side : CageSide) (mask : Word) (s : State) : Host.Outcome State Fault Refusal := ran s (s.bellRaise side mask)

/-- The meaning of BELL_CLEAR (R346). -/
def execBellClear (side : CageSide) (mask : Word) (s : State) : Host.Outcome State Fault Refusal := ran s (s.bellClear side mask)

/-- The meaning of BELL_MASK_WRITE (R346). -/
def execBellMaskWrite (side : CageSide) (mask : Word) (s : State) : Host.Outcome State Fault Refusal :=
  ran s (s.bellMask side mask)

/-! ## Messages -/

/-- A message behind the others of a queue: a full queue loses its oldest one (R344). -/
def CageEnd.receive (m : CageEnd) (msg : List Word) : CageEnd × Bool :=
  if m.rx.length < cageDepth then ({ m with rx := m.rx ++ [msg] }, false)
  else ({ m with rx := m.rx.drop 1 ++ [msg], lost := m.lost.inc }, true)

/-- SEND = 1 (R344, R347). -/
def State.cageSend (s : State) (side : CageSide) : State :=
  let m := s.cage side
  let msg := cageStamp side m.msgSeq :: m.tx.toList
  let s := s.onCage side fun m => { m with msgSeq := (m.msgSeq + 1) % 2 ^ 16, txTotal := (m.txTotal + 1) % 2 ^ 64 }
  if s.sideInReset (peerSide side) then s.onCage side fun m => { m with aborted := m.aborted.inc }
  else
    let lost := ((s.cage (peerSide side)).receive msg).2
    let s := s.onCage (peerSide side) fun m => (m.receive msg).1
    let s := if lost then s.onCage side fun m => { m with txOverrun := true } else s
    s.raiseBells (peerSide side) 1

/-- The meaning of CAGE_SEND (R344). -/
def execCageSend (side : CageSide) (s : State) : Host.Outcome State Fault Refusal := ran s (s.cageSend side)

/-- POP = 1: the oldest message goes, SPACE is raised at the sender (R345). -/
def State.cagePop (s : State) (side : CageSide) : State :=
  match (s.cage side).rx with
  | [] => s
  | _ :: l => (s.onCage side fun m => { m with rx := l, restartMark := false }).raiseBells (peerSide side) 2

/-- The meaning of CAGE_POP (R345). -/
def execCagePop (side : CageSide) (s : State) : Host.Outcome State Fault Refusal := ran s (s.cagePop side)

/-- A side is reset: it keeps CG_ABORTED, and the other side learns how many of its messages were discarded (R347,
R355). -/
def State.resetCage (s : State) (side : CageSide) : State :=
  let n := (s.cage side).rx.length
  let s := s.onCage side fun m => { aborted := m.aborted, peerInReset := m.peerInReset }
  (s.onCage (peerSide side) fun m => { m with aborted := m.aborted.add n }).raiseBells (peerSide side) 4

/-- A side is held in reset, or released (R347). -/
def State.holdCage (s : State) (side : CageSide) (held : Bool) : State :=
  s.onCage (peerSide side) fun m => { m with peerInReset := held }

/-- Host sides of PF0. -/
def pf0Sides : List CageSide := (List.finRange 32).map .pf0Host

/-- Host sides of PF1. -/
def pf1Sides : List CageSide := (List.finRange 16).map .pf1Host

/-- Foreman sides of every channel. -/
def foremanSides : List CageSide :=
  (List.finRange 32).map .pf0Foreman ++ (List.finRange 16).map .pf1Foreman ++ [.twinLocal]

/-- Some sides reset. -/
def State.resetCages (s : State) (l : List CageSide) : State := l.foldl State.resetCage s

/-- Some sides held in reset, or released. -/
def State.holdCages (s : State) (l : List CageSide) (held : Bool) : State := l.foldl (fun s x => s.holdCage x held) s

/-! ## Skips -/

/-- Writer of a numbered skip (Table 11.5); for EVT_UNITS the probe links and encoders stand for the capture fabric
(log 31). -/
def skipWriter (k : Nat) : UnitId :=
  if k = 0 then .encoders else if k = 1 || k = 3 then .headframe else if k = 4 then .smelter else .foreman

/-- Writer of the receive queue of a side: its peer. -/
def cageWriter : CageSide → UnitId
  | .pf0Host _ | .pf1Host _ => .foreman
  | .pf0Foreman _ | .pf1Foreman _ => .headframe
  | .twinLocal => .crosscut
  | .twinRemote => .foreman

/-- A flush of a numbered skip (R353): complete items are lost; so is an item the writer is part-way through, which
counts as written too; one the reader is part-way through is among the items held. -/
def Skip.flush (x : Skip) (writing reading : Bool) : Skip :=
  { x with items := [], truncated := x.truncated || writing || (reading && !x.items.isEmpty)
           lost := x.lost.add (x.items.length + bit writing), pktIn := (x.pktIn + bit writing) % 2 ^ 64, restart := true }

/-- A flush of a skip; the items of JOB_IN are the descriptors that wait for an engine (R349, R353). -/
def State.skipFlush (s : State) (k : SkipId) (writing reading : Bool) : State :=
  match k with
  | .numbered n =>
    let s := { s with regs.skips := vmod s.regs.skips n.val fun x => x.flush writing reading }
    if n.val = 3 then { s with smelter.queue := [] } else s
  | .cage side =>
    s.onCage side fun m => { m with rx := [], lost := m.lost.add (m.rx.length + bit writing), restartMark := true }

/-- The meaning of SKIP_FLUSH (R353). -/
def execSkipFlush (k : SkipId) (writing reading : Bool) (s : State) : Host.Outcome State Fault Refusal :=
  ran s (s.skipFlush k writing reading)

/-- The two copies of a pointer disagree (R350). -/
def State.skipMismatch (s : State) (k : SkipId) (writing reading : Bool) : State :=
  let s := s.skipFlush k writing reading
  match k with
  | .numbered n =>
    ({ s with regs.skipPtr := s.regs.skipPtr ||| BitVec.ofNat 6 (2 ^ n.val) } : State).fault .degrade .skipPointer
      (skipWriter n.val) n.val
  | .cage side => ({ s with regs.cagePtr := true } : State).fault .degrade .skipPointer (cageWriter side) 0xFF

/-- The meaning of SKIP_POINTER_MISMATCH (R350). -/
def execSkipPointerMismatch (k : SkipId) (writing reading : Bool) (s : State) : Host.Outcome State Fault Refusal :=
  ran s (s.skipMismatch k writing reading)

end Sys2Proof.Machine
end

