-- ==== Sys2Proof/Machine/Raster.lean ====
section
/-! DEFINITION. The Surveyor's commands: the sample reference and the aligner (R41 to R43), the raster sources
(R47 to R53), the phase loop, lock, holdover and re-lock (R55 to R65), absolute time and PPS (R66 to R70). -/

namespace Sys2Proof.Machine

/-! ## Reference clock, PLL, aligner -/

/-- Clock periods that the governor stretched: counted, a Notice fault, HOLDOVER on the ingots (R65). -/
def State.govern (s : State) (stretched : Nat) : State :=
  if stretched = 0 then s
  else
    ({ s with sv.governorClamps := add32 s.sv.governorClamps stretched
              sv.holdMark := s.sv.holdMark.put s.sv.sidx } : State).fault .notice .governor .surveyor

/-- The 156.25 MHz reference is lost (R42). -/
def State.refClockLost (s : State) : State :=
  if s.sv.refLost then s
  else
    let s := { s with sv.refLost := true, sv.pllLocked := false, sv.sampleClock := 3
                      sv.sidxUncertain := s.sv.sidxUncertain || s.mode == 0 }
    let s := s.fault .degrade .refLost .surveyor
    if s.cfg 0x2100 1 != 0 then s.enterHoldover lcRefClock else s

/-- The 156.25 MHz reference returns; the PLL re-locks under the governor (R42, R65). -/
def State.refClockReturn (s : State) (stretched : Nat) : State :=
  if s.sv.refLost then
    let s := { s with sv.refLost := false, sv.pllLocked := s.power.fabric, sv.sampleClock := 0 }
    (s.dropCondition .refLost .surveyor).govern stretched
  else s

/-- The meaning of REF_CLOCK_LOST (R42). -/
def execRefClockLost (s : State) : Host.Outcome State Fault Refusal := ran s s.refClockLost

/-- The meaning of REF_CLOCK_RETURN (R42, R65). -/
def execRefClockReturn (stretched : Nat) (s : State) : Host.Outcome State Fault Refusal :=
  ran s (s.refClockReturn stretched)

/-- The meaning of DLL_LOCK: the aligner locks once the sample PLL has (R43). -/
def execDllLock (s : State) : Host.Outcome State Fault Refusal :=
  ran s (if s.power.fabric && s.sv.pllLocked then { s with sv.dllState := 1 } else s)

/-- The meaning of DLL_FAULT (R43). -/
def execDllFault (s : State) : Host.Outcome State Fault Refusal :=
  ran s (if s.power.fabric then { s with sv.dllState := 2, sv.dllMark := s.sv.dllMark.put s.sv.sidx } else s)

/-! ## Width-coded sync -/

/-- The most frequent of the widths, the smallest of those equally frequent (R47; log 15). -/
def mostFrequent (l : List Nat) : Nat :=
  (l.foldl (fun (b : Nat × Nat) w =>
    let c := l.count w
    if b.1 < c || (b.1 == c && w < b.2) then (c, w) else b) (0, 0)).2

/-- Pulses from which the line-pulse width is learned (R47). -/
def learnPulses : Nat := 64

/-- A pulse while the width is being learned (R47). -/
def State.learnWidth (s : State) (w : Nat) : State :=
  let ws := w :: s.sv.widths
  if ws.length < learnPulses then { s with sv.widths := ws }
  else
    let m := mostFrequent ws
    if within 1 8 m then { s with sv.widths := [], sv.width := some m }
    else { s with sv.widths := [], sv.lockCause := lcPulseForm }

/-- RASTER_DELAY in fine bins, signed. -/
def State.rasterDelay (s : State) : Int := i32 (s.cfg 0x2100 4)

/-- A pulse that is not used is counted (R47, R49). -/
def State.rejectPulse (s : State) : State := { s with sv.syncRejects := inc32 s.sv.syncRejects }

/-- A line start found by the detector: where it lies and whether it starts a frame (R48). -/
def State.foundAt (s : State) (lead : Nat) (isFrame : Bool) : State :=
  { s with sv.foundLine := some (((lead : Int) - s.rasterDelay).toNat, isFrame) }

/-- A line-class pulse: the second of a field pair, which counts the field where the line start has not (modulo 4 the field
width; DESIGN CHOICE, log 56), outside the window of R49, or a line start (Table 2.2). -/
def State.linePulse (s : State) (lead w : Nat) : State :=
  let pair := match s.sv.lastPulse with
    | some p => within (128 * w) (512 * w) (lead - p)
    | none => false
  if pair then
    let counted := s.sv.state != rsLocked || s.sv.fieldStarts.contains s.sv.line
    { s with sv.lastPulse := none, sv.field := if counted then s.sv.field else (s.sv.field + 1) % 4 }
  else
    let at_ := ((lead : Int) - s.rasterDelay).toNat
    let off := (s.sv.phaseOf at_).natAbs
    if s.sv.state == rsLocked && s.sv.linePeriod < 64 * off then s.rejectPulse
    else ({ s with sv.lastPulse := some lead } : State).foundAt lead false

/-- A pulse under Table 2.2, its width in samples; while no line period has been measured the upper bound of the frame class
passes (DESIGN CHOICE, log 56). -/
def State.classify (s : State) (lead width w : Nat) : State :=
  if within (w - 1) (w + 1) width then s.linePulse lead w
  else
    let halfOk := match s.sv.lastPeriod with
      | some p => 128 * width ≤ p
      | none => true
    if 4 * w ≤ width && halfOk then s.foundAt lead true else s.rejectPulse

/-- A pulse on RASTER_IN[SYNC_INPUT] of the polarity that SYNC_POLARITY gives, between its two edges; a pulse of the other
polarity, or on another pin, is none (R44, R47). -/
def State.syncPulse (s : State) (pin : Nat) (lead trail : PinEdge) : State :=
  if s.samples && s.cfg 0x2100 1 == 1 && s.sv.state != rsInternal && pin == s.cfg 0x2100 2 && !s.pinIgnored (40 + pin) then
    match s.pinCrossing pin lead, s.pinCrossing pin trail with
    | some a, some b =>
      if a.2 == !s.cfgOn 0x2100 3 && b.2 != a.2 then
        let smp := (b.1 - a.1 + 32) / 64
        match s.sv.width with
        | none => s.learnWidth smp
        | some w => s.classify a.1 smp w
      else s
    | _, _ => s
  else s

/-- The meaning of SYNC_PULSE (R44, R47 to R49). -/
def execSyncPulse (pin : Fin 4) (p : Pulse) (s : State) : Host.Outcome State Fault Refusal :=
  ran s (s.syncPulse pin.val p.lead p.trail)

/-! ## Timing references on a seam -/

/-- The protection bits of an XYZ word check: 1, F, V, H, P3 to P0 from the top (R52). -/
def xyzOk (width word : Nat) : Bool :=
  let b (k : Nat) : Bool := word.testBit (width - 1 - k)
  let f := b 1
  let v := b 2
  let h := b 3
  b 0 && b 4 == (v ^^ h) && b 5 == (f ^^ h) && b 6 == (f ^^ v) && b 7 == ((f ^^ v) ^^ h)

/-- A timing reference whose protection checks, first word at `at_`; a line start ends the count of word-clock edges of its
line (R52, R53). -/
def State.timingReference (s : State) (width word at_ : Nat) : State :=
  let f := word.testBit (width - 2)
  let v := word.testBit (width - 3)
  let h := word.testBit (width - 4)
  if h then
    let fieldStart := v && s.sv.trsV == some false
    { s with sv.trsV := some v, sv.trsField := if fieldStart then bit f else s.sv.trsField
             sv.field := if fieldStart && s.sv.state == rsLocked then bit f else s.sv.field
             sv.trsPixels := (0, s.sv.trsPixels.1), sv.foundLine := some (at_, fieldStart && !f) }
  else s

/-- A word of the TRS bus, latched at fine bin `at_` (R52, R53). -/
def State.latchWord (s : State) (width word at_ : Nat) : State :=
  let last := s.sv.trsLast
  let s := { s with sv.trsLast := ((word, at_) :: last).take 3, sv.trsPixels := (s.sv.trsPixels.1 + 1, s.sv.trsPixels.2) }
  match last with
  | [(z1, _), (z0, _), (ones, first)] =>
    if ones == 2 ^ width - 1 && z0 == 0 && z1 == 0 then
      if xyzOk width word then
        ({ s with sv.trsSeen := (s.sv.trsSeen.1 + 1, s.sv.trsSeen.2) } : State).timingReference width word first
      else
        { s with sv.trsErrors := inc32 s.sv.trsErrors, sv.trsSeen := (s.sv.trsSeen.1 + 1, s.sv.trsSeen.2 + 1) }
    else s
  | _ => s

/-- State of the TRS seam's channels on a sample of its buffer, lost or not joined left aside: the detector reads the seam,
not the capture fabric (R52). -/
def State.trsSample (s : State) (x : Nat) : Option Samp := (s.seam (s.cfg 0x2100 0x0B)).buf.find? fun m => m.sidx == x

/-- Fine bin of a rising word clock before sample `x`: the probe's fine code on a timing channel, else the sample (R52). -/
def State.trsBin (s : State) (x : Nat) (m : Samp) : Nat :=
  let o := 0x2400 + s.cfg 0x2100 0x0B
  let clk := s.cfg 0x2100 0x0E
  let code := if s.cfg o 2 == clk then m.fineA else if s.cfg o 3 == clk then m.fineB else none
  let src := s.cfg o 1
  let lf := if src < 48 then s.cfg (0x2200 + src) 2 % 64 else 0
  match code with
  | some f => 64 * x + f - lf - 64
  | none => 64 * x

/-- A rising edge on a channel of a seam: where that channel is the word clock of the TRS bus, the bus is latched in the
latest sample, once (R52). -/
def State.trsWord (s : State) (seam channel : Nat) : State :=
  let x := s.sv.sidx
  let link := s.cfg (0x2400 + s.cfg 0x2100 0x0B) 1
  if s.samples && s.cfg 0x2100 1 == 3 && seam == s.cfg 0x2100 0x0B && channel == s.cfg 0x2100 0x0E &&
      s.sv.state != rsInternal && (s.link link).state == lsUp && s.sv.trsAt != some x && x != 0 then
    match s.trsSample x, s.trsSample (x - 1) with
    | some m, some m0 =>
      match m.word, m0.word with
      | some w, some w0 =>
        if w.getLsbD channel && !w0.getLsbD channel then
          let width := s.cfg 0x2100 0x0C
          ({ s with sv.trsAt := some x } : State).latchWord width (w.toNat / 2 ^ s.cfg 0x2100 0x0D % 2 ^ width) (s.trsBin x m)
        else s
      | _, _ => s
    | _, _ => s
  else s

/-- The meaning of TRS_WORD (R52, R53). -/
def execTrsWord (seam : Fin 48) (channel : Fin 16) (s : State) : Host.Outcome State Fault Refusal :=
  ran s (s.trsWord seam.val channel.val)

/-! ## The phase loop -/

/-- Two values agree within 100 ppm of the second. -/
def within100ppm (a b : Nat) : Bool := ((a : Int) - b).natAbs * 10000 ≤ b

/-- TIME96 of a fine bin at or before the latest sample, 64 times in time units (R50). -/
def State.timeOfBin (s : State) (at_ : Nat) : Nat := 64 * s.sv.time - (64 * s.sv.sidx - at_) * s.sv.period

/-- Number, from the TIME96 zero, of the line or frame of R50 in which a time of `timeOfBin` lies; `perFrame` lines a frame. -/
def State.unitOfTime (s : State) (perFrame t : Nat) : Nat :=
  t * (s.cfg 0x2100 7 * perFrame) / (64 * second * s.cfg 0x2100 8)

/-- The fine bin is the first at or after the start of a line of R50, `perFrame` lines a frame (1 for frame starts): exact
arithmetic on the rational rate. -/
def State.timeStarts (s : State) (perFrame at_ : Nat) : Bool :=
  at_ ≤ 64 * s.sv.sidx && s.cfg 0x2100 7 != 0 &&
    s.unitOfTime perFrame (s.timeOfBin at_ - s.sv.period) < s.unitOfTime perFrame (s.timeOfBin at_)

/-- Fine bin of the latest frame start of R50. -/
def State.frameBin (s : State) : Nat :=
  let unit := 64 * second * s.cfg 0x2100 8
  let past := 64 * s.sv.time * s.cfg 0x2100 7 % max 1 unit / max 1 (s.cfg 0x2100 7)
  64 * s.sv.sidx - past / max 1 s.sv.period

/-- The latest sample is the first at or after a frame start of R50. -/
def State.atTimeFrame (s : State) : Bool := s.cfg 0x2100 7 != 0 && 64 * s.sv.sidx < s.frameBin + 64

/-- A line start of the selected reference at `at_`: found by its detector, or derived from absolute time (R48, R50,
R52). -/
def State.refLineValid (s : State) (at_ : Nat) : Bool :=
  let src := s.cfg 0x2100 1
  s.samples && s.sv.state != rsInternal && s.sv.lastRefLine != some at_ &&
    (((src == 1 || src == 3) && s.sv.foundLine.map Prod.fst == some at_) ||
      (src == 2 && s.sv.timeState == 1 && s.timeStarts (s.cfg 0x2100 5) at_))

/-- The period that steering asks for lies within ±200 ppm of the free-running clock (R62). -/
def steerable (req : Nat) : Bool := ((freePeriod : Int) - req).natAbs * 1000000 ≤ 200 * req

/-- A step of steering toward the period asked for, of at most 1 ppm and of at least the 200 / 256 ppm by which every rate
within ±200 ppm is reached in 256 ln (R62). -/
def steerStep (now want rate : Nat) : Nat :=
  let d := now * max 800000 (min 1000000 rate) / 10 ^ 12
  max (now - d) (min (now + d) want)

/-- Coherent steering at a line start while LOCKED; COHERENT from its first step on (R62; DESIGN CHOICE, log 56). -/
def State.steer (s : State) (period : Nat) : State :=
  let spl := s.cfg 0x2100 0x10
  if spl = 0 || s.sv.sampleClock = 3 then s
  else
    let req := period * s.sv.period / (64 * spl)
    if steerable req then
      let p := steerStep s.sv.period req (Config.steer period spl s.sv.period)
      { s with sv := { s.sv.setPeriod p with sampleClock := 1 } }
    else if s.sv.sampleClock = 2 then s
    else ({ s with sv := { s.sv.setPeriod freePeriod with sampleClock := 2 } } : State).event .coherenceRange .surveyor

/-- The increment that crosses `ppl` pixels in a line of `period` fine bins (R56). -/
def incOf (ppl period : Nat) : Nat := (2 * (ppl * 2 ^ 54) + period) / (2 * max 1 period)

/-- The increment after a line start: that of the measured line, off by what leaves at most half a fine bin a line (R57). -/
def loopInc (ppl period : Nat) (off : Int) : Nat :=
  let i := incOf ppl period
  let b : Int := i / (2 * max 1 period)
  ((i : Int) + clampInt off (-b) b).toNat

/-- The correction of the next line-start sample: the phase error, off by at most half a fine bin (R57). -/
def loopCorr (inc : Nat) (err off : Int) : Int :=
  clampInt off (-(inc / 128 : Nat)) (inc / 128 : Nat) - err * inc / 64

/-- A line start while LOCKED: a step beyond 100 ppm goes to HOLDOVER, else the loop corrects the frequency now and the phase
on the next line-start sample (R57, R58, R62). -/
def State.trackLine (s : State) (at_ period : Nat) : State :=
  let err := s.sv.phaseOf at_
  let s := { s with sv.phaseError := err, sv.missingRun := 0 }
  let stepped := match s.sv.lastPeriod with
    | some p => !within100ppm period p
    | none => false
  if stepped then s.enterHoldover lcStep
  else
    let free := Config.loopFilter s.sv.inc s.sv.corr err (s.sv.linePeriod / 64)
    let inc := loopInc s.sv.ppl period free.1
    ({ s with sv := { s.sv.setInc inc with corr := loopCorr inc err free.2 } } : State).steer period

/-- A line start in HOLDOVER: line starts that agree in period, within 1 % of the held one, are counted; the first one starts
the re-lock, on the free-running clock (R59, R64; DEDUCED, log 56). -/
def State.agreeLine (s : State) (period : Nat) : State :=
  let near := ((period : Int) - s.sv.heldPeriod).natAbs * 100 ≤ s.sv.heldPeriod
  let agrees := match s.sv.lastPeriod with
    | some p => within100ppm period p
    | none => true
  let starts := near && !s.sv.refLost
  let s := if starts && s.sv.period != freePeriod then s.clockFree else s
  { s with sv.agreeRun := if starts then (if agrees then s.sv.agreeRun + 1 else 1) else 0 }

/-- A Shadow takes its raster from the Active and follows its own reference unseen (R365). -/
def State.follows (s : State) : Bool := s.isShadow && s.running && s.samples

/-- A reference line start; over line starts that were bridged the period is the mean (R49, R57); on a Shadow it gives
RASTER_DELTA (R365). -/
def State.refLineStart (s : State) (at_ : Nat) : State :=
  if s.refLineValid at_ && s.follows then
    { s with twin.rasterDelta := s.sv.phaseOf at_, sv.lastRefLine := some at_ }
  else if s.refLineValid at_ then
    match s.sv.lastRefLine with
    | none => { s with sv.lastRefLine := some at_ }
    | some before =>
      let bridged := if s.sv.state = rsLocked then s.sv.missingRun else 0
      let period := (at_ - before) / (bridged + 1)
      let measured := if bridged = 0 then period % 2 ^ 32 else s.sv.measuredLinePeriod
      let s1 := { s with sv.measuredLinePeriod := measured, sv.lastRefLine := some at_ }
      let s2 :=
        if s.sv.state = rsLocked then s1.trackLine at_ period
        else if s.sv.state = rsHoldover then s1.agreeLine period
        else s1
      { s2 with sv.lastPeriod := some period }
  else s

/-- The meaning of REF_LINE_START (R57, R58, R62). -/
def execRefLineStart (at_ : Nat) (s : State) : Host.Outcome State Fault Refusal := ran s (s.refLineStart at_)

/-- The meaning of MISSING_LINE_START: the third in a row goes to HOLDOVER (R49, R58). -/
def execMissingLineStart (s : State) : Host.Outcome State Fault Refusal :=
  ran s (
    if !s.follows && s.sv.state == rsLocked && (s.cfg 0x2100 1 == 1 || s.cfg 0x2100 1 == 3) then
      if s.sv.missingRun < 2 then
        { s with sv.missingRun := s.sv.missingRun + 1, sv.syncMissing := inc32 s.sv.syncMissing }
      else s.enterHoldover lcMissingLines
    else s)

/-- The meaning of NO_REFERENCE_TIMEOUT; the source of a TRS seam whose link is not UP is absent with SEAM_DOWN (Table 2.1,
R53). -/
def execNoReferenceTimeout (s : State) : Host.Outcome State Fault Refusal :=
  ran s (
    if !s.follows && s.samples && (s.sv.state == rsAcquire || s.sv.state == rsHoldover) then
      { s with sv.lockCause := if s.startCause = lcSeamDown then lcSeamDown else lcNoReference }
    else s)

/-- The meaning of HOLDOVER_LONG: one event in a holdover (R58). -/
def execHoldoverLong (s : State) : Host.Outcome State Fault Refusal :=
  ran s (
    if s.sv.state == rsHoldover && !s.sv.holdAlerted then
      ({ s with sv.holdAlerted := true } : State).event .holdoverLong .surveyor
    else s)

/-! ## Lock and re-lock -/

/-- Why two consecutive complete frames do not lock, 0 when they do; of several causes the first in this order is told
(R46, R47, R55, Table 2.1; DESIGN CHOICE, log 56). Words that fail protection are counted since the acquisition began. -/
def State.frameCause (s : State) (a b : FrameMeasure) : Nat :=
  let lpf := s.cfg 0x2100 5
  let ppl := if s.cfg 0x2100 1 == 3 && s.cfg 0x2100 6 == 0 then s.sv.trsPixels.2 else s.cfg 0x2100 6
  let sum := a.meanPeriod * a.lines + b.meanPeriod * b.lines
  let n := a.lines + b.lines
  let far (p : Nat) : Bool := sum < (((p * n : Nat) : Int) - sum).natAbs * 10000
  let frame := b.meanPeriod * b.lines
  if s.cfg 0x2100 1 == 1 && s.sv.width.isNone then lcPulseForm
  else if !within (64 * 3000) (64 * 30000000) b.meanPeriod then lcLinePeriod
  else if !within (64 * 3000000) (64 * 3000000000) frame then lcFrameRate
  else if !within 2 16384 b.lines || (lpf == 0 && b.lines ≤ s.cfg 0x2100 0x0A) then lcLineCount
  else if lpf != 0 && (a.lines != lpf || b.lines != lpf) then lcLineMismatch
  else if !within 1 65536 ppl then lcPixelCount
  else if b.meanPeriod < 64 * ppl then lcPixelRate
  else if a.lines != b.lines || far a.minPeriod || far a.maxPeriod || far b.minPeriod || far b.maxPeriod ||
      a.fields != s.cfg 0x2100 9 || b.fields != s.cfg 0x2100 9 then lcInconsistent
  else if s.cfg 0x2100 1 == 3 && s.sv.trsSeen.1 < 16 * s.sv.trsSeen.2 then lcTrsProtection
  else lcNone

/-- Why an ST2059 raster does not lock, 0 when it does (R46, R50, R51). -/
def State.timeCause (s : State) : Nat :=
  let lpf := s.cfg 0x2100 5
  let ppl := s.cfg 0x2100 6
  let num := s.cfg 0x2100 7
  let den := s.cfg 0x2100 8
  if lpf == 0 then lcLineCount
  else if ppl == 0 then lcPixelCount
  else if num == 0 || num < den || 1000 * den < num then lcFrameRate
  else if num * lpf > 1000000 * den || num * lpf < 100 * den then lcLinePeriod
  else if num * lpf * ppl > 3000000000 * den then lcPixelRate
  else if s.sv.timeState != 1 then lcTimeNotLocked
  else lcNone

/-- Frame number of R50 at a time: n = ⌊time · NUM / DEN⌋ in seconds, modulo 2^24. -/
def State.timeFrame (s : State) : Nat :=
  s.sv.time * s.cfg 0x2100 7 / (second * s.cfg 0x2100 8) % 2 ^ 24

/-- First lines of the fields after a lock, as lines of RASTPOS (R50, R73). -/
def State.lockFields (s : State) (m : FrameMeasure) (lpf off : Nat) : List Nat :=
  if s.cfg 0x2100 1 == 2 || m.fieldStarts.isEmpty then
    (fieldStartsOf lpf (s.cfg 0x2100 9)).map fun l => (l + (if s.cfg 0x2100 1 == 2 then 0 else off)) % max 1 lpf
  else m.fieldStarts.map fun l => (l + off) % max 1 lpf

/-- The number of the held frame whose start, its line LINE_OFFSET, lies nearest the latest sample (R59). -/
def Surveyor.nearestFrame (v : Surveyor) (off : Nat) : Nat :=
  let line : Int := (v.ppl * 2 ^ 48 : Nat)
  let past : Int := ((v.line : Int) - off) * line + v.pos
  let frame := v.lpf * line
  if frame < 2 * past then (v.frame + 1) % 2 ^ 24
  else if 2 * past < -frame then (v.frame + 2 ^ 24 - 1) % 2 ^ 24
  else v.frame

/-- The increment with which a raster locks: that of the measured lines within their resolution of a fine bin, or on ST2059
that of the rational rate (R50, R55, R57). -/
def State.lockInc (s : State) (m : FrameMeasure) (ppl lpf : Nat) : Nat :=
  if s.cfg 0x2100 1 = 2 then
    ppl * lpf * s.cfg 0x2100 7 * s.sv.period * 2 ^ 48 / max 1 (second * s.cfg 0x2100 8)
  else
    let i := incOf ppl m.meanPeriod
    let b : Int := i / max 1 m.meanPeriod
    ((i : Int) + clampInt (Config.learnedInc m.meanPeriod ppl) (-b) b).toNat

/-- The raster jumps to the reference: first line of a frame at fine bin `bin` (R55, R59). -/
def State.jumpTo (s : State) (m : FrameMeasure) (bin frame : Nat) : State :=
  let src := s.cfg 0x2100 1
  let lpf := if s.cfg 0x2100 5 == 0 then m.lines else s.cfg 0x2100 5
  let ppl := if src == 3 && s.cfg 0x2100 6 == 0 then s.sv.trsPixels.2 else s.cfg 0x2100 6
  let off := if src == 2 then 0 else s.cfg 0x2100 0x0A
  let v := { s.sv.setInc (s.lockInc m ppl lpf) with
             ppl, lpf, fieldStarts := s.lockFields m lpf off, missingRun := 0, agreeRun := 0, field := 0 }
  { s with sv := v.placeAt frame off bin (s.cfg 0x2100 0x0F) }

/-- LOCKED from ACQUIRE: fr 0, or the frame of R50 (R55). -/
def State.lockRaster (s : State) (m : FrameMeasure) : State :=
  if s.cfg 0x2100 1 == 2 then (s.jumpTo m s.frameBin s.timeFrame).setRaster rsLocked lcNone
  else (s.jumpTo m m.startBin 0).setRaster rsLocked lcNone

/-- LOCKED from HOLDOVER: the clock on its free-running period, the frame of the held raster nearest or that of R50,
RELOCKED with the phase jump in fine bins and the lines repeated or skipped (R59, R64, R65). -/
def State.relock (s : State) (m : FrameMeasure) (bin stretched : Nat) : State :=
  let v := s.sv
  let frame := if s.cfg 0x2100 1 == 2 then s.timeFrame else v.nearestFrame (s.cfg 0x2100 0x0A)
  let jump := v.phaseOf bin
  let off := if s.cfg 0x2100 1 == 2 then 0 else s.cfg 0x2100 0x0A
  let here := v.line + (if v.ppl * 2 ^ 48 < 2 * v.pos then 1 else 0)
  let lines : Int := (off : Int) - here + v.lpf * (((frame : Int) - v.frame + 2 ^ 23) % 2 ^ 24 - 2 ^ 23)
  let s := (s.clockFree.govern stretched).jumpTo m bin frame
  ({ s with sv.holdMark := s.sv.holdMark.put s.sv.sidx } : State).setRaster rsLocked lcNone
    (leBytes 4 (ofI32 jump) ++ leBytes 4 (ofI32 lines))

/-- A complete reference frame; while LOCKED its field starts are learned. Two that agree lock the raster, on ST2059 at a frame
start of R50; none does while the sample reference is lost (R55, R59, R73; DESIGN CHOICE, log 56). -/
def State.refFrame (s : State) (m : FrameMeasure) (stretched : Nat) : State :=
  let src := s.cfg 0x2100 1
  if s.samples && s.sv.state != rsInternal && (src != 2 || s.timeCause != 0 || s.atTimeFrame) then
    let before := s.sv.lastFrame
    let s := { s with sv.measuredLines := m.lines % 2 ^ 16, sv.lastFrame := some m }
    if s.follows || s.sv.refLost then s
    else if s.sv.state = rsLocked then
      if src == 2 || m.fieldStarts.isEmpty then s
      else { s with sv.fieldStarts := s.lockFields m s.sv.lpf (s.cfg 0x2100 0x0A) }
    else
      let cause := if src == 2 then some s.timeCause else before.map fun a => s.frameCause a m
      match cause with
      | none => s
      | some 0 =>
        if s.sv.state = rsHoldover then s.relock m (if src == 2 then s.frameBin else m.startBin) stretched
        else s.lockRaster m
      | some c =>
        let s := { s with sv.lockCause := c }
        if limitCause c then s.event .rasterUnlockable .surveyor 0xFF (leBytes 1 c) else s
  else s

/-- The meaning of REF_FRAME_COMPLETE (R46, R55, R65). -/
def execRefFrameComplete (f : RefFrame) (s : State) : Host.Outcome State Fault Refusal :=
  ran s (s.refFrame f.measure f.stretched)

/-- Line starts that must agree before a re-lock (R59). -/
def agreeLines : Nat := 16

/-- The re-lock of R59 is due: 16 agreeing line starts, a frame start of the reference, the PLL locked. -/
def State.relockDue (s : State) : Bool :=
  s.sv.state == rsHoldover && agreeLines ≤ s.sv.agreeRun && !s.sv.refLost && s.sv.pllLocked &&
    (match s.sv.foundLine with
     | some (_, true) => true
     | _ => s.cfg 0x2100 1 == 2 && s.sv.timeState == 1 && s.atTimeFrame)

/-- A reference frame as the held raster knows it, for a re-lock on line starts alone. -/
def State.heldFrame (s : State) : FrameMeasure :=
  { lines := s.sv.lpf, meanPeriod := s.sv.lastPeriod.getD s.sv.heldPeriod, minPeriod := 0, maxPeriod := 0
    fields := s.sv.fieldStarts.length
    fieldStarts := s.sv.fieldStarts.map fun l => (l + s.sv.lpf - s.cfg 0x2100 0x0A % max 1 s.sv.lpf) % max 1 s.sv.lpf
    startBin := 0 }

/-- The meaning of RELOCK (R59, R64). -/
def execRelock (stretched : Nat) (s : State) : Host.Outcome State Fault Refusal :=
  ran s (
    if !s.follows && s.relockDue then
      s.relock s.heldFrame (if s.cfg 0x2100 1 = 2 then s.frameBin else (s.sv.foundLine.map Prod.fst).getD (64 * s.sv.sidx)) stretched
    else s)

/-! ## Absolute time -/

/-- Modes in which TIME96 may be stepped: Dormant, Ready, Drain and Service (R67, R68). -/
def stepMode (m : Nat) : Bool := m == 0 || m == 1 || m == 6 || m == 7

/-- TIME96 stepped, with its event (R67, R68). -/
def State.stepTime (s : State) (t : Nat) : State :=
  ({ s with sv.time := t, sv.slew := 0 } : State).event .timeStep .surveyor

/-- A TIME_SET write: a step, or in the capture modes a slew (R67). -/
def State.setTime (s : State) (v : Nat) : Taken :=
  if stepMode s.mode then taken (s.stepTime (timeOf96 v))
  else taken { s with sv.slew := (timeOf96 v : Int) - s.sv.time }

/-- A TIME_OF_DAY write: refused while PPS_IN is absent (R67). -/
def State.setTimeOfDay (s : State) (v : Nat) : Taken :=
  if s.sv.ppsPresent then taken { s with sv.todPending := some (v / 2 ^ 48, s.sv.up) } else refuse abValueRange s

/-- The nearest second boundary of a time. -/
def nearestSecond (t : Nat) : Nat := (2 * t + second) / (2 * second) * second

/-- TIME96 with what is still to be slewed (R68). -/
def State.slewedTime (s : State) : Nat := ((s.sv.time : Int) + s.sv.slew).toNat

/-- An error of TIME96 corrected: a step above 1 ms in the modes that allow it, else a slew (R68). -/
def State.correctTime (s : State) (target : Nat) : State :=
  let err := (s.sv.time : Int) - target
  if stepMode s.mode && nsTime 1000000 < err.natAbs then s.stepTime target else { s with sv.slew := -err }

/-- PPS_ERROR of an edge, ns: TIME96 minus the boundary, rounded down, saturated as an I32 where it is read (R76; DESIGN
CHOICE, log 56). -/
def State.notePpsError (s : State) (target : Nat) : State :=
  { s with sv.ppsError := ((s.sv.time : Int) - target) / tuPerNs }

/-- An accepted edge: corrected, and counted toward LOCKED when within 1 µs (R68, R69; log 16). -/
def State.acceptPps (s : State) (target : Nat) : State :=
  let good := ((s.slewedTime : Int) - target).natAbs ≤ nsTime 1000
  let runs := if good then s.sv.ppsGood + 1 else 0
  let s := { s with sv.ppsGood := runs, sv.ppsRejectRun := 0 }
  let s := (s.notePpsError target).correctTime target
  if 2 ≤ runs && s.sv.timeState != 1 then s.setTimeState 1 else s

/-- Consecutive rejected edges after which the new phase is accepted (R69). -/
def rejectEdges : Nat := 3

/-- An edge after TIME_OF_DAY has taken effect, held against the second boundary that TIME96 predicts once what is still to
be slewed is in it, so that a slew under way is carried to its end (R68, R69). -/
def State.disciplinePps (s : State) : State :=
  let target := nearestSecond s.slewedTime
  let off := ((s.slewedTime : Int) - target).natAbs
  if s.sv.timeState != 0 && nsTime 10000 < off then
    let s := { s with sv.ppsRejects := inc32 s.sv.ppsRejects, sv.ppsRejectRun := s.sv.ppsRejectRun + 1, sv.ppsGood := 0 }
    if rejectEdges ≤ s.sv.ppsRejectRun then
      (({ s with sv.ppsRejectRun := 0 } : State).notePpsError target).correctTime target
    else s
  else s.acceptPps target

/-- A PPS_IN rising edge on the latest sample (R67 to R69). -/
def State.ppsEdge (s : State) : State :=
  let s := { s with sv.ppsLast := some s.sv.time, sv.ppsPresent := true }
  match s.sv.todPending with
  | some (sec, written) =>
    if nsTime 10000000 ≤ s.sv.up - written then
      let target := sec * second
      let s := { s with sv.todPending := none, sv.todApplied := true, sv.ppsGood := 0, sv.ppsRejectRun := 0 }
      (s.notePpsError target).correctTime target
    else if s.sv.todApplied then s.disciplinePps else s
  | none => if s.sv.todApplied then s.disciplinePps else s

/-- The meaning of PPS_IN_EDGE (R67 to R69). -/
def execPpsInEdge (s : State) : Host.Outcome State Fault Refusal := ran s s.ppsEdge

/-- The meaning of PPS_LOST (R69). -/
def execPpsLost (s : State) : Host.Outcome State Fault Refusal :=
  ran s (
    if s.sv.ppsPresent then
      (({ s with sv.ppsPresent := false, sv.ppsGood := 0, sv.ppsRejectRun := 0 } : State).setTimeState 2).event .ppsLost
        .surveyor
    else s)

/-- PPS_OUT set, with its pin (R70). -/
def State.setPpsOut (s : State) (level : Bool) : State :=
  if s.power.ppsOut == level then s
  else ({ s with power.ppsOut := level } : State).send (.pin "PPS_OUT" level)

/-- The latest sample is the first at or after a TIME96 second boundary (R70). -/
def Surveyor.secondStart (v : Surveyor) : Bool := v.time % second < v.advance

/-- The meaning of PPS_OUT_RISE: at a second boundary in SECOND mode, at a frame start in FRAME mode, in every mode
of the device but Dormant (R70). -/
def execPpsOutRise (s : State) : Host.Outcome State Fault Refusal :=
  ran s (
    if s.samples && ((s.cfg 0x2100 0x12 == 1 && s.sv.secondStart) || (s.cfg 0x2100 0x12 == 2 && s.sv.frameStart)) then
      s.setPpsOut true
    else s)

/-- The meaning of PPS_OUT_FALL: after 100 ms in SECOND mode, after a line in FRAME mode (R70). -/
def execPpsOutFall (s : State) : Host.Outcome State Fault Refusal :=
  ran s (
    if (s.cfg 0x2100 0x12 == 1 && nsTime 100000000 ≤ s.sv.time % second) ||
        (s.cfg 0x2100 0x12 == 2 && s.sv.line != 0) then s.setPpsOut false
    else s)

end Sys2Proof.Machine
end

