-- ==== Sys2Proof/Machine/Resets.lean ====
section
/-! DEFINITION. Bus mastering and power states of PF0 (R292, R298), Function Level and fundamental resets (R272, R273,
R298, R326, Table 1.8), configuration requests (R33), selective IDE streams (R276, R278), L1 and L0p (R293, R294). -/

namespace Sys2Proof.Machine

/-! ## Bus mastering -/

/-- PF0 stops as requester (Table 9.8). -/
def State.busGoes (s : State) : State := (s.drainGoes .busMasterOff).stopJobs

/-- PF0 may issue requests again, when nothing else withdraws the drain (Table 9.8, R247). -/
def State.busReturns (s : State) : State :=
  if s.hf.bme && !s.hf.d3hot then
    let s := s.conditionMet .busMasterOff 0
    if s.busOn then (s.drainReturns.abortJobs).flushVectors else s
  else s

/-- The meaning of BUS_MASTER_CLEAR (R298). -/
def execBusMasterClear (s : State) : Host.Outcome State Fault Refusal :=
  ran s (if s.hf.bme then ({ s with hf.bme := false } : State).busGoes else s)

/-- The meaning of BUS_MASTER_SET (R298). -/
def execBusMasterSet (s : State) : Host.Outcome State Fault Refusal :=
  ran s (if s.hf.bme then s else ({ s with hf.bme := true } : State).busReturns)

/-- The meaning of D3HOT_ENTRY (R292). -/
def execD3hotEntry (s : State) : Host.Outcome State Fault Refusal :=
  ran s (if s.hf.d3hot then s else ({ s with hf.d3hot := true } : State).busGoes)

/-- The meaning of D0_RETURN (R292). -/
def execD0Return (s : State) : Host.Outcome State Fault Refusal :=
  ran s (if s.hf.d3hot then ({ s with hf.d3hot := false } : State).busReturns else s)

/-- The meaning of MEMORY_SPACE_DISABLE (R298). -/
def execMemorySpaceDisable (fn : Fn) (s : State) : Host.Outcome State Fault Refusal :=
  ran s (s.onFnCfg fn fun c => { c with mse := false })

/-! ## Secure sessions -/

/-- A window slot ends PENDING with an abort code (R326, R328, R331). -/
def WinSlot.abortWith (w : WinSlot) (code : Nat) : WinSlot :=
  if w.state = 1 then { w with state := 3, abort := code, partner := false } else w

/-- A session ends: a pending request on it ends with RESET (R328). -/
def WinSlot.endSession (w : WinSlot) : WinSlot :=
  match w.session with
  | some _ => { w.abortWith abReset with session := none }
  | none => w

/-- Results of partner requests that some slots await are discarded (R326, R328). -/
def State.forgetSlots (s : State) (fn : Fn) (f : Nat → Bool) : State :=
  { s with twin.partnerWaiting := s.twin.partnerWaiting.map fun o =>
      match o with
      | .slot g k => if g == fn && f k then .gone else o
      | o => o }

/-- A PF1 slot carries a session (R328). -/
def State.inSession (s : State) (k : Nat) : Bool := (vget s.dict.slots1 k {}).session.isSome

/-- Every session of PF1 ends (R278, R328). -/
def State.endSessions (s : State) : State :=
  let s := s.forgetSlots .pf1 s.inSession
  { s with dict.slots1 := vmap s.dict.slots1 fun _ w => w.endSession }

/-- The meaning of SECURE_SESSION_TIMEOUT (R328). -/
def execSecureSessionTimeout (k : Fin 8) (s : State) : Host.Outcome State Fault Refusal :=
  ran s (
    let s := s.forgetSlots .pf1 fun j => j == k.val
    { s with dict.slots1 := vmod s.dict.slots1 k.val WinSlot.endSession })

/-! ## Resets of the functions -/

/-- Ring and event-queue registers at reset values: the streams on them are held, what no cursor covers is written
again (R286, Table 9.8). -/
def State.resetRings (s : State) : State :=
  let bound := (List.range 64).filter fun q => match s.ringOf q with
    | some n => (s.ring n).enable
    | none => false
  let s := { s with streams := vmap s.streams fun _ m => { m with backlog := m.written ++ m.backlog, written := [] }
                    hf.rings := Vector.replicate 65 {} }
  bound.foldl State.hold s

/-- Window slots of PF0 set to IDLE, their control words cleared (R326). -/
def State.resetWindow (s : State) : State :=
  let s := s.forgetSlots .pf0 fun _ => true
  { s with dict.slots0 := vmap s.dict.slots0 fun _ w => { data := w.data } }

/-- What a reset of PF0 clears (Table 9.8, R326, R341, R347). -/
def State.resetPf0 (s : State) : State :=
  let s := { s with hf.bme := false, hf.d3hot := false, hf.cfg0 := {}, hf.ltr := none }
  let s := (s.busGoes.resetRings.clearJobs).resetWindow
  ({ s with hf.msix0 := Vector.replicate 256 {} } : State).resetCages pf0Sides |>.dropClaims .pf0

/-- What a reset of PF1 clears (Table 9.8, R328, R341, R347). -/
def State.resetPf1 (s : State) : State :=
  let s := ({ s with hf.cfg1 := {} } : State).endSessions
  ({ s with hf.msix1 := Vector.replicate 16 {} } : State).resetCages pf1Sides |>.dropClaims .pf1

/-- The meaning of FUNCTION_LEVEL_RESET_PF0 (R298). -/
def execFunctionLevelResetPf0 (s : State) : Host.Outcome State Fault Refusal := ran s s.resetPf0

/-- The meaning of FUNCTION_LEVEL_RESET_PF1 (R298). -/
def execFunctionLevelResetPf1 (s : State) : Host.Outcome State Fault Refusal := ran s s.resetPf1

/-- The fundamental reset of the Headframe (R272, R273, R298, R333). -/
def State.fundamental (s : State) : State :=
  let s := (s.linkDown false).resetPf0.resetPf1
  { s with hf.ide := Vector.replicate 4 none, hf.ltr := none, hf.ready := false, hf.speed := 0, hf.width := 0
           hf.flit := false, hf.subsys := (s.cfg 0x1000 0x0B, s.cfg 0x1000 0x0C) }

/-- The device has power. -/
def State.powered (s : State) : Bool := s.power.phase != .off && s.power.phase != .shed

/-- Periods of the 25 MHz oscillator for which a reset pin is held (R37, R273). -/
def resetFilter : Nat := 13

/-- The meaning of PERST_N_ASSERT (R273). -/
def execPerstNAssert (periods : Nat) (s : State) : Host.Outcome State Fault Refusal :=
  ran s (
    if periods < resetFilter || s.power.perst then s
    else
      let s := { s with power.perst := true }
      if s.powered then (s.fundamental.holdCages pf0Sides true).holdCages pf1Sides true else s)

/-- The meaning of PERST_N_RELEASE (R273). -/
def execPerstNRelease (s : State) : Host.Outcome State Fault Refusal :=
  ran s (
    if s.power.perst then
      (({ s with power.perst := false } : State).holdCages pf0Sides false).holdCages pf1Sides false
    else s)

/-- The meaning of DL_DOWN (R272). -/
def execDlDown (s : State) : Host.Outcome State Fault Refusal := ran s (if s.powered then s.fundamental else s)

/-- The write of one doubleword with byte enables onto another. -/
def mergeBytes (be : BitVec 4) (v : Word) (old : Nat) : Nat :=
  maskedIn (((List.range 4).filter fun i => be.getLsbD i).map fun i => 0xFF * 2 ^ (8 * i)).sum v.toNat old

/-- A D-state written: D0 and D3hot are taken (R292). -/
def State.writePower (s : State) (fn : Fn) (d : Nat) : State :=
  if d = 3 then
    match fn with
    | .pf0 => if s.hf.d3hot then s else ({ s with hf.d3hot := true } : State).busGoes
    | .pf1 => { s with hf.cfg1.d3 := true }
  else if d = 0 then
    match fn with
    | .pf0 => if s.hf.d3hot then ({ s with hf.d3hot := false } : State).busReturns else s
    | .pf1 => { s with hf.cfg1.d3 := false }
  else s

/-- Bus Master Enable of PF0 written (R298). -/
def State.writeBme (s : State) (on : Bool) : State :=
  if on == s.hf.bme then s
  else if on then ({ s with hf.bme := true } : State).busReturns
  else ({ s with hf.bme := false } : State).busGoes

/-- A doubleword of configuration space written (R274, R275, R291, R292, R295, R298, R300). -/
def State.cfgWrite (s : State) (fn : Fn) (off : Nat) (v : Word) (be : BitVec 4) : State :=
  let n := mergeBytes be v (s.cfgRead fn off)
  let set := mergeBytes be v 0
  let t := s.onFnCfg fn fun c => c.put fn off n
  if off = 0x04 then
    let t := t.onFnCfg fn fun c => { c with mse := bitOf n 1 }
    if fn == .pf0 then t.writeBme (bitOf n 2) else t
  else if off = 0x44 then s.writePower fn (n % 4)
  else if off = 0x50 then
    (s.onFnCfg fn fun c => { c with msixEnable := bitOf n 31, msixMask := bitOf n 30 }).flushVectors
  else if off = offDevCtl then
    let t := t.onFnCfg fn fun c => { c with devSta := maskedIn (set / 2 ^ 16) 0 c.devSta }
    if bitOf set 15 then (if fn == .pf0 then t.resetPf0 else t.resetPf1) else t
  else if off = offDevCtl2 then (if t.hf.cfg0.ltrOn then t.updateLtr else { t with hf.ltr := none })
  else if off = 0x104 then s.onFnCfg fn fun c => { c with aerUnc := maskedIn set 0 c.aerUnc }
  else if off = 0x110 then s.onFnCfg fn fun c => { c with aerCor := maskedIn set 0 c.aerCor }
  else t

/-- A configuration request: Retry Status until the Headframe is ready, then a read or write of a doubleword (R33, R273,
R274). -/
def State.configRequest (s : State) (fn : Fn) (off : Nat) (write : Option (Word × BitVec 4)) : State :=
  if !s.hf.l0 then s
  else if !s.hf.ready then s.send (.configReply fn true 0)
  else
    match write with
    | some (v, be) => (s.cfgWrite fn (off / 4 * 4) v be).send (.configReply fn false 0)
    | none => s.send (.configReply fn false (BitVec.ofNat 32 (s.cfgRead fn (off / 4 * 4))))

/-- The meaning of CONFIG_REQUEST (R33). -/
def execConfigRequest (r : ConfigAccess) (s : State) : Host.Outcome State Fault Refusal :=
  ran s (s.configRequest r.fn r.offset r.write)

/-! ## Selective IDE -/

/-- IDE_KM over the mailbox of PF0 programs a stream inside a secured session: the stream is Secure, and what waited for it
leaves (R276, R278). -/
def State.programIde (s : State) (k : Nat) (blocks : List (Nat × Nat)) (rids : Nat × Nat) (pcrc : Bool) : State :=
  ({ s with hf.ide := vmod s.hf.ide k fun _ => some { blocks := blocks.take 2, rids, pcrc, secure := true } } : State).flushVectors

/-- The meaning of IDE_KEY_PROGRAM: outside a session with the Foreman nothing is programmed (R276, R278). -/
def execIdeKeyProgram (k : Fin 4) (p : IdeProgram) (session : Bool) (s : State) : Host.Outcome State Fault Refusal :=
  ran s (if s.hf.l0 && s.foremanRuns && session then s.programIde k.val p.blocks p.rids p.pcrc else s)

/-- A selective stream leaves the Secure state (R278). -/
def State.ideLost (s : State) (k : Nat) : State :=
  match vget s.hf.ide k none with
  | some x =>
    if x.secure then
      (({ s with hf.ide := vmod s.hf.ide k fun _ => some { x with secure := false } } : State).endSessions).event .ideStreamLost
        .headframe k (leBytes 1 k)
    else s
  | none => s

/-- The meaning of IDE_STREAM_LOST (R278). -/
def execIdeStreamLost (k : Fin 4) (s : State) : Host.Outcome State Fault Refusal := ran s (s.ideLost k.val)

/-- IDE_SECURE: the selective streams in the Secure state (Table 9.11). -/
def State.ideSecure (s : State) : Nat :=
  maskOf 4 fun k => match vget s.hf.ide k none with
    | some x => x.secure
    | none => false

/-! ## L1 and L0p -/

/-- The link leaves L0 for L1, or for L1.2 with CLKREQ_N released where the host permits it: G is 0 and a LINK_DOWN
suspension starts for what is not delivered (Table 6.1, R201, R271, R293; log 23, log 61). -/
def State.enterL1 (s : State) : State :=
  (({ s with
    hf.inL1 := true, power.clkreq := s.power.clkreq && !s.hf.cfg0.l12On, grizzly.g := 0 } : State).suspend .linkDown
      s.scopeAll).clearDrain

/-- The meaning of ASPM_L1_ENTRY (R293). -/
def execAspmL1Entry (s : State) : Host.Outcome State Fault Refusal :=
  ran s (if s.hf.l0 && !s.hf.inL1 && s.hf.cfg0.l1On && !s.anyArmed then s.enterL1 else s)

/-- The link takes an active width under L0p (R293). -/
def State.takeL0p (s : State) (width : Nat) : State :=
  ({ s with hf.l0p := if width < s.hf.width then some width else none } : State).send (.l0p width)

/-- The meaning of L0P_REQUEST (R293, R294). -/
def execL0pRequest (width : Nat) (s : State) : Host.Outcome State Fault Refusal :=
  ran s (
    if !(s.hf.l0 && s.hf.flit) then s
    else if s.anyArmed then s.send .l0pDeclined
    else s.takeL0p width)

/-- The meaning of L0P_DEVICE_REQUEST: x8 or x4, below the trained width (R293). -/
def execL0pDeviceRequest (width : Nat) (s : State) : Host.Outcome State Fault Refusal :=
  ran s (
    if s.hf.l0 && s.hf.flit && !s.anyArmed && (width == 8 || width == 4) && width < s.hf.width then s.takeL0p width else s)

/-- A commit that arms class A brings the link out of L1 and L0p (R294). -/
def State.leaveLowPower (s : State) : State :=
  let s := s.wakeLink
  match s.hf.l0p with
  | some _ => ({ s with hf.l0p := none, power.clkreq := true } : State).send (.l0p s.hf.width)
  | none => { s with power.clkreq := true }

/-- Words of PF0 from a Secure stream of PF1 (R277). -/
def State.secureStream (s : State) (k : Option (Fin 4)) : Bool :=
  match k with
  | some j => (s.ideSecure).testBit j.val
  | none => false

end Sys2Proof.Machine
end

