-- ==== Sys2Proof/Machine/Signature.lean ====
section
/-! DEFINITION. SHA-384 (FIPS 180-4) and the check of an ECDSA P-384 signature (FIPS 186-5) that images, the debug
challenge and RETURN rest on (R401, Table 13.8; log 8). -/

namespace Sys2Proof.Machine

/-! ## SHA-384 -/

/-- Round constants 0 to 19. -/
def shaK0 : List (BitVec 64) := [
  0x428a2f98d728ae22, 0x7137449123ef65cd, 0xb5c0fbcfec4d3b2f, 0xe9b5dba58189dbbc,
  0x3956c25bf348b538, 0x59f111f1b605d019, 0x923f82a4af194f9b, 0xab1c5ed5da6d8118,
  0xd807aa98a3030242, 0x12835b0145706fbe, 0x243185be4ee4b28c, 0x550c7dc3d5ffb4e2,
  0x72be5d74f27b896f, 0x80deb1fe3b1696b1, 0x9bdc06a725c71235, 0xc19bf174cf692694,
  0xe49b69c19ef14ad2, 0xefbe4786384f25e3, 0x0fc19dc68b8cd5b5, 0x240ca1cc77ac9c65]

/-- Round constants 20 to 39. -/
def shaK1 : List (BitVec 64) := [
  0x2de92c6f592b0275, 0x4a7484aa6ea6e483, 0x5cb0a9dcbd41fbd4, 0x76f988da831153b5,
  0x983e5152ee66dfab, 0xa831c66d2db43210, 0xb00327c898fb213f, 0xbf597fc7beef0ee4,
  0xc6e00bf33da88fc2, 0xd5a79147930aa725, 0x06ca6351e003826f, 0x142929670a0e6e70,
  0x27b70a8546d22ffc, 0x2e1b21385c26c926, 0x4d2c6dfc5ac42aed, 0x53380d139d95b3df,
  0x650a73548baf63de, 0x766a0abb3c77b2a8, 0x81c2c92e47edaee6, 0x92722c851482353b]

/-- Round constants 40 to 59. -/
def shaK2 : List (BitVec 64) := [
  0xa2bfe8a14cf10364, 0xa81a664bbc423001, 0xc24b8b70d0f89791, 0xc76c51a30654be30,
  0xd192e819d6ef5218, 0xd69906245565a910, 0xf40e35855771202a, 0x106aa07032bbd1b8,
  0x19a4c116b8d2d0c8, 0x1e376c085141ab53, 0x2748774cdf8eeb99, 0x34b0bcb5e19b48a8,
  0x391c0cb3c5c95a63, 0x4ed8aa4ae3418acb, 0x5b9cca4f7763e373, 0x682e6ff3d6b2b8a3,
  0x748f82ee5defb2fc, 0x78a5636f43172f60, 0x84c87814a1f0ab72, 0x8cc702081a6439ec]

/-- Round constants 60 to 79. -/
def shaK3 : List (BitVec 64) := [
  0x90befffa23631e28, 0xa4506cebde82bde9, 0xbef9a3f7b2c67915, 0xc67178f2e372532b,
  0xca273eceea26619c, 0xd186b8c721c0c207, 0xeada7dd6cde0eb1e, 0xf57d4f7fee6ed178,
  0x06f067aa72176fba, 0x0a637dc5a2c898a6, 0x113f9804bef90dae, 0x1b710b35131c471b,
  0x28db77f523047d84, 0x32caab7b40c72493, 0x3c9ebe0a15c9bebc, 0x431d67c49c100d4c,
  0x4cc5d4becb3e42b6, 0x597f299cfc657e2a, 0x5fcb6fab3ad6faec, 0x6c44198c4a475817]

/-- The initial hash value. -/
def shaStart : List (BitVec 64) := [
  0xcbbb9d5dc1059ed8, 0x629a292a367cd507, 0x9159015a3070dd17, 0x152fecd8f70e5939,
  0x67332667ffc00b31, 0x8eb44a8768581511, 0xdb0c2e0d64f98fa7, 0x47b5481dbefa4fa4]

/-- A function of the hash: rotations right, and a third rotation or shift. -/
def shaMix (a b c : Nat) (shift : Bool) (x : BitVec 64) : BitVec 64 :=
  x.rotateRight a ^^^ x.rotateRight b ^^^ (if shift then x >>> c else x.rotateRight c)

/-- The message with its padding: a 1 bit, zeros, the length in bits as 16 bytes. -/
def shaPad (m : List Byte) : List Byte :=
  let n := m.length + 1
  m ++ [0x80] ++ List.replicate ((240 - n % 128) % 128) 0 ++ (List.range 16).map fun i => BitVec.ofNat 8 (8 * m.length / 256 ^ (15 - i))

/-- A number from bytes, the first most significant. -/
def bigEndian (b : List Byte) : Nat := b.foldl (fun n x => n * 256 + x.toNat) 0

/-- The 80 words of a block's schedule, newest first. -/
def shaSchedule (block : List Byte) : List (BitVec 64) :=
  let first := ((List.range 16).map fun i => BitVec.ofNat 64 (bigEndian ((block.drop (8 * i)).take 8))).reverse
  (List.range 64).foldl (fun w _ =>
    (shaMix 19 61 6 true (w.getD 1 0) + w.getD 6 0 + shaMix 1 8 7 true (w.getD 14 0) + w.getD 15 0) :: w) first

/-- One round on the eight working words. -/
def shaRound (v : List (BitVec 64)) (kw : BitVec 64 × BitVec 64) : List (BitVec 64) :=
  match v with
  | [a, b, c, d, e, f, g, h] =>
    let t1 := h + shaMix 14 18 41 false e + ((e &&& f) ^^^ (~~~ e &&& g)) + kw.1 + kw.2
    let t2 := shaMix 28 34 39 false a + ((a &&& b) ^^^ (a &&& c) ^^^ (b &&& c))
    [t1 + t2, a, b, c, d + t1, e, f, g]
  | _ => v

/-- One block onto the hash value. -/
def shaBlock (h : List (BitVec 64)) (block : List Byte) : List (BitVec 64) :=
  let w := (shaSchedule block).reverse
  List.zipWith (· + ·) h (((shaK0 ++ shaK1 ++ shaK2 ++ shaK3).zip w).foldl shaRound h)

/-- SHA-384, 48 bytes. -/
def sha384 (m : List Byte) : List Byte :=
  let p := shaPad m
  let h := (List.range (p.length / 128)).foldl (fun h i => shaBlock h ((p.drop (128 * i)).take 128)) shaStart
  (h.take 6).flatMap fun x => (List.range 8).map fun i => BitVec.ofNat 8 (x.toNat / 256 ^ (7 - i))

/-! ## P-384 -/

/-- The field's prime, the order of the base point, the coefficient b. -/
def curveP : Nat := 2 ^ 384 - 2 ^ 128 - 2 ^ 96 + 2 ^ 32 - 1
def curveN : Nat :=
  0xffffffffffffffffffffffffffffffffffffffffffffffffc7634d81f4372ddf581a0db248b0a77aecec196accc52973
def curveB : Nat :=
  0xb3312fa7e23ee7e4988e056be3f82d19181d9c6efe8141120314088f5013875ac656398d8a2ed19d2a85c8edd3ec2aef

/-- The base point. -/
def curveG : Nat × Nat :=
  (0xaa87ca22be8b05378eb1c71ef320ad746e1d3b628ba79b9859f741e082542a385502f25dbf55296c3a545e3872760ab7,
   0x3617de4a96262c6f5d9e98bf9292dc29f8f41dbd289a147ce9da3113b5f0b8c00a60b1ce1d7e819d7a431d7c90ea0e5f)

/-- A power modulo `m`, by the `bits` low bits of the exponent. -/
def powMod (m a e bits : Nat) : Nat :=
  ((List.range bits).foldl (fun (p : Nat × Nat) i => (if e.testBit i then p.1 * p.2 % m else p.1, p.2 * p.2 % m)) (1, a % m)).1

/-- The inverse modulo a prime of 384 bits. -/
def invMod (m a : Nat) : Nat := powMod m a (m - 2) 384

/-- A difference modulo `m`. -/
def subMod (m a b : Nat) : Nat := (a + (m - b % m)) % m

/-- The point of a line of slope `l` through two points. -/
def linePoint (l : Nat) (a b : Nat × Nat) : Nat × Nat :=
  let x := subMod curveP (subMod curveP (l * l) a.1) b.1
  (x, subMod curveP (l * subMod curveP a.1 x) a.2)

/-- Sum of two points; none is the point at infinity. -/
def addPoints : Option (Nat × Nat) → Option (Nat × Nat) → Option (Nat × Nat)
  | none, b => b
  | a, none => a
  | some a, some b =>
    if a.1 = b.1 then
      if (a.2 + b.2) % curveP = 0 then none
      else some (linePoint (subMod curveP (3 * a.1 * a.1) 3 * invMod curveP (2 * a.2) % curveP) a a)
    else some (linePoint (subMod curveP b.2 a.2 * invMod curveP (subMod curveP b.1 a.1) % curveP) a b)

/-- A multiple of a point. -/
def mulPoint (k : Nat) (a : Nat × Nat) : Option (Nat × Nat) :=
  ((List.range 384).foldl (fun (p : Option (Nat × Nat) × Option (Nat × Nat)) i =>
    (if k.testBit i then addPoints p.1 p.2 else p.1, addPoints p.2 p.2)) (none, some a)).1

/-- A public key in uncompressed form, 97 bytes beginning 0x04, that lies on the curve (R406). -/
def keyPoint (key : List Byte) : Option (Nat × Nat) :=
  let x := bigEndian ((key.drop 1).take 48)
  let y := bigEndian ((key.drop 49).take 48)
  if key.length = 97 ∧ key.headD 0 = 0x04 ∧ x < curveP ∧ y < curveP ∧ y * y % curveP = (subMod curveP (x * x * x) (3 * x) + curveB) % curveP
  then some (x, y) else none

/-- A signature of 96 bytes, r and s, over a digest holds under a public key (FIPS 186-5; log 8). -/
def ecdsaVerify (key digest sig : List Byte) : Bool :=
  let r := bigEndian (sig.take 48)
  let t := bigEndian ((sig.drop 48).take 48)
  match keyPoint key with
  | none => false
  | some q =>
    if r = 0 || curveN ≤ r || t = 0 || curveN ≤ t then false
    else
      let w := invMod curveN t
      match addPoints (mulPoint (bigEndian digest * w % curveN) curveG) (mulPoint (r * w % curveN) q) with
      | some x => x.1 % curveN == r
      | none => false

end Sys2Proof.Machine
end

