-- ==== Sys2Proof/Machine/Security.lean ====
section
/-! DEFINITION. The evaluated configuration (R414, R415), life cycle and authenticated debug (R405 to R409), the key
store (R410 to R412), the maintenance ports (Table 13.9), the USE areas (R237, R400), firmware images and update (R401
to R404). -/

namespace Sys2Proof.Machine

/-- What the maintenance UART shows (Table 13.9). -/
inductive UartAccess where
  | console
  | statusMenu
  | readOnlyMenu
  deriving DecidableEq, Repr

/-! ## The evaluated configuration -/

/-- Life-cycle states (Table 13.9). -/
def lcBlank : Nat := 0
def lcProvisioned : Nat := 1
def lcField : Nat := 2
def lcReturn : Nat := 3

/-- The seam's stream is encrypted (R234). -/
def State.encryptedSeam (s : State) (k : Nat) : Bool :=
  match s.streamOf k with
  | some q => s.cfgOn (0x2A40 + q) 2
  | none => false

/-- An Assay slot reads a seam of an encrypted stream (R414). -/
def State.assayInClear (s : State) : Bool :=
  (List.range 32).any fun k =>
    s.slotCfg k 1 != akOff && (seamsRead (channelsRead s.cfg k)).any s.encryptedSeam

/-- A window seam of an encrypted stream is kept in clear (R414). -/
def State.windowsInClear (s : State) : Bool := !s.cfgOn 0x2A00 2 && s.windowSeams.any s.encryptedSeam

/-- EVAL_DEVIATION (R415). -/
def State.evalBits (s : State) : BitVec 5 :=
  BitVec.ofNat 5 (bit (s.lifeCycle != lcField) + 2 * bit (!s.nv.slots[s.fm.bootSlot].evaluated) +
    4 * bit s.fm.debugOpen + 8 * bit s.assayInClear + 16 * bit s.windowsInClear)

/-- EVALUATED (R415). -/
def State.evaluated (s : State) : Bool := s.evalBits == 0 && !s.nv.sigEverOff

/-- A change of EVAL_DEVIATION is logged (R415). -/
def State.noteEval (s : State) : State :=
  let b := s.evalBits
  if b == s.fm.evalDeviation then s
  else ({ s with fm.evalDeviation := b } : State).notice .evalChanged .foreman 0xFF (leBytes 4 b.toNat)

/-! ## USE (R237, R400) -/

/-- Largest USE value (R237). -/
def useMax : Nat := 0xFFFFFF

/-- The newest committed USE value. -/
def Nv.useValue (n : Nv) : Nat := (n.uses.head?.map Prod.fst).getD 0

/-- A USE record appended, one generation above the newest (R400). -/
def Nv.putUse (n : Nv) (v : Nat) : Nv := { n with uses := (v, (n.uses.head?.map Prod.snd).getD 0 + 1) :: n.uses }

/-- The value the next arming takes, whether its record is committed or not (R237). -/
def State.nextUse (s : State) : Nat :=
  match s.fm.useReserved with
  | some v => v
  | none => (s.fm.useCommitting).getD (s.nv.useValue + 1)

/-- USE would pass its largest value (R237). -/
def State.useExhausted (s : State) : Bool := useMax < s.nextUse

/-- The Foreman starts to commit a value for the next arming (R237, R400). -/
def State.reserveUse (s : State) (v : Nat) : State :=
  { s with fm.useReserved := none, fm.useCommitting := if v ≤ useMax then some v else none }

/-- USE set to 0: a record of value 0, and 1 committed for the next arming (R400). -/
def State.resetUse (s : State) : State := ({ s with nv := s.nv.putUse 0 } : State).reserveUse 1

/-- The meaning of USE_RESERVE_COMMIT: the record is committed; after a failure of the flash the Foreman goes on
committing it (R400; log 34). -/
def execUseReserveCommit (ok : Bool) (s : State) : Host.Outcome State Fault Refusal :=
  ran s (
    match s.fm.useCommitting with
    | some v =>
      if ok then { s with nv := s.nv.putUse v, fm.useReserved := some v, fm.useCommitting := none } else s
    | none => s)

/-! ## The key store -/

/-- Keys that the store holds (R410). -/
def keyMax : Nat := 64

/-- A key is named by an armed stream or by armed window encryption (R235). -/
def State.keyInUse (s : State) (id : Nat) : Bool :=
  ((List.range 64).any fun q => (s.stream q).armed && s.cfg (0x2A40 + q) 3 == id) ||
    (windowMode s.runMode && s.cfgOn 0x2A00 2 && s.cfg 0x2A00 3 == id)

/-- KCV: the first 4 bytes of the AES-256 encryption of a zero block under a key (R411). -/
def keyCheck (k : List Byte) : List Byte := (aesBlock (aesRoundKeys k) (List.replicate 16 0)).take 4

/-- The key store changed: the other copy is written (R411). -/
def State.setKeys (s : State) (l : List (Nat × List Byte)) : State :=
  { s with nv.keys := l, nv.keyGeneration := s.nv.keyGeneration + 1 }

/-- A KEY_LOAD write (R411); one that would replace a key in use is BUSY (R235). -/
def State.keyLoad (s : State) (data : List Byte) : Taken :=
  let id := getLe data 0 4
  let k := (data.drop 8).take 32
  if s.lifeCycle == lcReturn then refuse abLifeCycle s
  else if getLe data 4 4 != 1 || getLe data 44 4 != 0 || !within 1 0xFFFFFFFE id then refuse abValueRange s
  else if (data.drop 40).take 4 != keyCheck k then refuse abValueRange s
  else if s.nv.keys.any fun x => x.1 == id then refuse (if s.keyInUse id then abBusy else abValueRange) s
  else if keyMax ≤ s.nv.keys.length then refuse abBusy s
  else taken (s.setKeys (s.nv.keys ++ [(id, k)]))

/-- A KEY_ERASE write; a KEY_ID that is not present is out of range (R411, R235; log 34). -/
def State.keyErase (s : State) (id : Nat) : Taken :=
  if s.lifeCycle == lcReturn then refuse abLifeCycle s
  else if !s.nv.keys.any fun x => x.1 == id then refuse abValueRange s
  else if s.keyInUse id then refuse abBusy s
  else taken (s.setKeys (s.nv.keys.filter fun x => x.1 != id))

/-- KEY_LIST: 64 KEY_IDs, 0 for empty (Table 13.10). -/
def Nv.keyList (n : Nv) : List Byte :=
  (List.range keyMax).flatMap fun i => leBytes 4 ((n.keys[i]?.map Prod.fst).getD 0)

/-- A USE_RESET write (R412). -/
def State.useReset (s : State) : Taken :=
  if s.nv.keys.isEmpty then taken s.resetUse else refuse abBusy s

/-! ## Life cycle -/

/-- The life-cycle state burnt, and the module about to reset itself (R406). -/
def State.burn (s : State) (lc : Nat) : State := { s with nv.lifeCycle := lc, fm.selfReset := true }

/-- An OWNER_KEY write (R406). -/
def State.ownerKeyWrite (s : State) (data : List Byte) : Taken :=
  if s.lifeCycle != lcBlank || s.fm.selfReset || data.head? != some 4 then refuse abLifeCycle s
  else
    taken (({ s with nv.ownerKey := data, nv.ownerHash := leNat (sha384 data), nv.sigCheck := true } : State).burn
      lcProvisioned)

/-- LC_ADVANCE magic (R406). -/
def lcAdvanceMagic : Nat := 0x4649454C

/-- An LC_ADVANCE write (R406). -/
def State.lcAdvanceWrite (s : State) (v : Nat) : Taken :=
  if s.lifeCycle != lcProvisioned || s.fm.selfReset || v != lcAdvanceMagic then refuse abLifeCycle s
  else taken (s.burn lcField)

/-- Time for which a challenge is valid: 10 min (R407). -/
def challengeTime : Nat := 600 * second

/-- A fresh challenge (R407). -/
def State.issueChallenge (s : State) (nonce : List Byte) : List Byte × State :=
  let n := s.nv.challenges + 1
  let c := (nonce ++ List.replicate 32 0).take 32 ++ leBytes 8 s.nv.part.1 ++ leBytes 4 n ++ leBytes 1 s.lifeCycle ++
    leBytes 3 0
  (c, { s with nv.challenges := n % 2 ^ 32, fm.challenge := some (c, s.sv.up) })

/-- The challenge in force, while it is valid (R407). -/
def State.validChallenge (s : State) : Option (List Byte) :=
  match s.fm.challenge with
  | some (c, t) => if s.sv.up < t + challengeTime then some c else none
  | none => none

/-- Invalid signatures after which LC_DEBUG_AUTH is closed (R407). -/
def badSignatureMax : Nat := 3

/-- An LC_DEBUG_AUTH write (R407). -/
def State.debugAuth (s : State) (sig : List Byte) : Taken :=
  if s.lifeCycle != lcProvisioned then refuse abLifeCycle s
  else if badSignatureMax ≤ s.fm.badSignatures then refuse abBusy s
  else
    let good := match s.validChallenge with
      | some c => ecdsaVerify s.nv.ownerKey (sha384 c) sig
      | none => false
    if good then taken ((({ s with fm.debugOpen := true } : State).notice .debugOpened .foreman).noteEval)
    else (abValueRange, { s with fm.badSignatures := s.fm.badSignatures + 1 })

/-- Zero written to the whole Stockpile (R408). -/
def State.wipeStockpile (s : State) : State :=
  let s := s.endReadout.discardSegments
  { s with streams := vmap s.streams fun _ m => { m with backlog := [], shadowKept := [] }
           grizzly.classB := [] }

/-- The wipe of R408: keys, USE, dictionary areas, Stockpile, then LC_RETURN_DONE. -/
def State.returnWipe (s : State) : State :=
  let s := ({ s with nv.keys := [], nv.keyGeneration := s.nv.keyGeneration + 1 } : State).resetUse
  let s := ({ s with nv.areas := Vector.replicate 2 none } : State).wipeStockpile
  ({ s with nv.returnDone := true } : State).notice .lcReturnDone .foreman

/-- An LC_RETURN write (R408). -/
def State.lcReturnWrite (s : State) (data : List Byte) : Taken :=
  if !(s.lifeCycle == lcProvisioned || s.lifeCycle == lcField) || s.fm.selfReset then refuse abLifeCycle s
  else
    let c := data.take 48
    let h := sha384 c
    if s.validChallenge == some c && ecdsaVerify s.nv.ownerKey h ((data.drop 48).take 96) &&
        ecdsaVerify Config.serviceKey h ((data.drop 144).take 96) then
      taken (s.burn lcReturn).returnWipe
    else refuse abValueRange s

/-- A SIG_CHECK write: 0 only in BLANK (Table 13.10, R415). -/
def State.sigCheckWrite (s : State) (v : Nat) : Taken :=
  if v == 0 && s.lifeCycle != lcBlank then refuse abLifeCycle s
  else taken { s with nv.sigCheck := v == 1, nv.sigEverOff := s.nv.sigEverOff || v == 0 }

/-! ## The maintenance ports (Table 13.9) -/

/-- Debug, by the JTAG TAP among others, is open: in BLANK and RETURN always, in PROVISIONED after authentication, never
in FIELD (Table 13.9, R407). -/
def State.debugAccess (s : State) : Bool :=
  s.lifeCycle == lcBlank || s.lifeCycle == lcReturn || (s.lifeCycle == lcProvisioned && s.fm.debugOpen)

/-- What the maintenance UART gives (Table 13.9). -/
def State.uartAccess (s : State) : UartAccess :=
  if s.debugAccess then .console else if s.lifeCycle == lcField then .readOnlyMenu else .statusMenu

/-! ## Firmware images -/

/-- Bytes of an image slot and pages of 4,096 bytes (Table 13.7, R402). -/
def slotPages : Nat := 6144

/-- UPDATE_STATE codes (Table 13.10). -/
def usIdle : Nat := 0
def usLoading : Nat := 1
def usVerified : Nat := 2
def usRejected : Nat := 3
def usCommitting : Nat := 4
def usCommitted : Nat := 5

/-- A page of a slot; erased flash reads 0xFF (R311, R402). -/
def ImageSlot.page (m : ImageSlot) (p : Nat) : List Byte :=
  match m.bytes.find? fun x => x.1 == p with
  | some x => x.2
  | none => List.replicate 4096 0xFF

/-- The first `n` bytes of a slot. -/
def ImageSlot.read (m : ImageSlot) (n : Nat) : List Byte :=
  ((List.range ((n + 4095) / 4096)).flatMap m.page).take n

/-- Largest body (R401). -/
def bodyMax : Nat := 25165312

/-- The signature of an image verifies (R401). -/
def ImageSlot.signatureOk (m : ImageSlot) : Bool :=
  let h := m.read 512
  ecdsaVerify (Config.imageKey (getLe h 0x18 1)) (sha384 (h.take 0x50)) ((h.drop 0x50).take 96)

/-- The digest of an image's body matches (R401). -/
def ImageSlot.digestOk (m : ImageSlot) : Bool :=
  let h := m.read 512
  sha384 ((m.read (512 + getLe h 0x10 4)).drop 512) == (h.drop 0x20).take 48

/-- In BLANK with SIG_CHECK 0 the signature and digest checks are skipped (R401). -/
def State.skipsChecks (s : State) : Bool := s.lifeCycle == lcBlank && !s.nv.sigCheck

/-- UPDATE_CAUSE of an image, 0 when every check of R401 passes. -/
def State.imageCause (s : State) (m : ImageSlot) : Nat :=
  let h := m.read 512
  if getLe h 0 4 != 0x4E4C4141 || getLe h 4 4 != 1 then 1
  else if s.nv.part.2.1 < getLe h 0x16 2 then 2
  else if bodyMax < getLe h 0x10 4 then 3
  else if 4 ≤ getLe h 0x18 1 || s.nv.keyRevoked.getLsbD (getLe h 0x18 1) then 4
  else if !s.skipsChecks && !m.signatureOk then 5
  else if !s.skipsChecks && !m.digestOk then 6
  else if getLe h 0x0C 4 < s.nv.svnMin then 7
  else 0

/-- The slot with the header fields of its contents (Table 13.8). -/
def ImageSlot.withHeader (m : ImageSlot) (good : Bool) : ImageSlot :=
  let h := m.read 512
  { m with fwVersion := getLe h 8 4, svn := getLe h 0x0C 4, dictVersion := getLe h 0x14 2
           evaluated := (getLe h 0x19 1).testBit 0, valid := good, signed := good && m.signatureOk && m.digestOk }

/-- The slot that did not boot (R402). -/
def State.stagedSlot (s : State) : Fin 2 := if s.fm.bootSlot = 0 then 1 else 0

/-- The slot that did not boot, changed. -/
def State.onStagedSlot (s : State) (f : ImageSlot → ImageSlot) : State :=
  { s with nv.slots := s.nv.slots.set s.stagedSlot (f s.nv.slots[s.stagedSlot]) }

/-- UPDATE_CMD is open: in Service, with no commit in progress (R402). -/
def State.updateOpen (s : State) : Bool := s.mode == 7 && s.fm.updateState != usCommitting

/-- UPDATE_CMD = BEGIN (R402). -/
def State.updateBegin (s : State) : Taken :=
  if s.updateOpen then
    taken { (s.onStagedSlot fun _ => {}) with fm.updateState := usLoading, fm.updateCause := 0 }
  else refuse abBusy s

/-- UPDATE_CMD = VERIFY (R402). -/
def State.updateVerify (s : State) : Taken :=
  if s.updateOpen && within usLoading usRejected s.fm.updateState then
    let c := s.imageCause s.nv.slots[s.stagedSlot]
    taken { (s.onStagedSlot fun m => m.withHeader (c == 0)) with
              fm.updateState := if c = 0 then usVerified else usRejected, fm.updateCause := c }
  else refuse abBusy s

/-- UPDATE_CMD = COMMIT, accepted only when VERIFIED (R402). -/
def State.updateCommit (s : State) : Taken :=
  if s.updateOpen && s.fm.updateState == usVerified then taken { s with fm.updateState := usCommitting }
  else refuse abBusy s

/-- UPDATE_CMD = ABORT, before COMMIT (R402). -/
def State.updateAbort (s : State) : Taken :=
  if s.updateOpen && s.fm.updateState != usCommitted then
    (if s.fm.updateState == usIdle then taken s
     else taken { (s.onStagedSlot fun _ => {}) with fm.updateState := usIdle, fm.updateCause := 0 })
  else refuse abBusy s

/-- UPDATE_CMD = CONFIRM, in every mode (R403, R404). -/
def State.updateConfirm (s : State) : Taken :=
  let m := s.nv.slots[s.fm.bootSlot]
  taken { s with nv.slots := s.nv.slots.set s.fm.bootSlot { m with trial := 255 }, nv.svnMin := max s.nv.svnMin m.svn }

/-- An UPDATE_CMD write of a listed code (R402, R403). -/
def State.updateCmd (s : State) (v : Nat) : Taken :=
  if v = 0x4247 then s.updateBegin
  else if v = 0x5646 then s.updateVerify
  else if v = 0x434D then s.updateCommit
  else if v = 0x4142 then s.updateAbort
  else s.updateConfirm

/-- An UPDATE_DATA write (R402); a page beyond the slot is out of range (log 34). -/
def State.updateDataWrite (s : State) (data : List Byte) : Taken :=
  let p := s.cfg 0x3200 2 / 4096
  if !s.updateOpen || s.fm.updateState != usLoading then refuse abBusy s
  else if slotPages ≤ p then refuse abValueRange s
  else
    let s := s.onStagedSlot fun m => { m with bytes := (m.bytes.filter fun x => x.1 != p) ++ [(p, data)] }
    taken { s with dict.live := s.dict.live.write (key 0x3200 2) ((p + 1) * 4096) }

/-- The meaning of UPDATE_COMMIT_DONE: the boot record is written, or the commit fails with cause FLASH (R402). -/
def execUpdateCommitDone (ok : Bool) (s : State) : Host.Outcome State Fault Refusal :=
  ran s (
    if s.fm.updateState != usCommitting then s
    else if ok then
      let g := (s.nv.slots[s.fm.bootSlot].generation).getD 0 + 1
      { (s.onStagedSlot fun m => { m with generation := some g, trial := 0 }) with fm.updateState := usCommitted }
    else { s with fm.updateState := usRejected, fm.updateCause := 8 })

end Sys2Proof.Machine
end

