-- ==== Sys2Proof/Machine/Changes.lean ====
section
/-! DEFINITION. Changes of mode and configuration before they take effect (chapter 1): where an instant lies (R22, R71 to
R73), Table 1.3, readiness (R24, R439), COMMIT, CANCEL, abort (R21, R22, R25), the entry into Ready up to its epoch (R35),
loss of fabric power. -/

namespace Sys2Proof.Machine

/-! ## Instants -/

/-- Lines from the latest sample's line to the line of an instant, both counted by their line starts (R22, R72; log 33). -/
def State.lineDist (s : State) (at_ : Nat) : Int :=
  let p := unpackPos at_
  signedOf 24 (p.frame + 2 ^ 24 - s.sv.frame % 2 ^ 24) * s.sv.lpf + ((p.line : Int) - s.sv.line)

/-- Place within its frame of a position, in sub-pixels of a raster of 65,536 pixels at most. -/
def placeInFrame (p : RastPos) : Nat := p.line * 2 ^ 25 + p.pixel * 2 ^ 8 + p.sub

/-- Frames from the latest sample's frame forward to that of an instant (R9). -/
def State.framesTo (s : State) (p : RastPos) : Nat := (p.frame + 2 ^ 24 - s.sv.frame % 2 ^ 24) % 2 ^ 24

/-- The instant can occur on the raster in force (R73). -/
def State.occurs (s : State) (at_ : Nat) : Bool :=
  let p := unpackPos at_
  p.line < s.sv.lpf && p.pixel < s.sv.ppl && p.field == fieldOfLine s.sv.fieldStarts p.line

/-- The next occurrence of the instant lies more than 65,536 fr ahead, or there is none (R22, R73). -/
def State.isFar (s : State) (at_ : Nat) : Bool :=
  let p := unpackPos at_
  let f := s.framesTo p
  let past := placeInFrame p ≤ placeInFrame s.posNow
  !s.occurs at_ || (f == 0 && past) || 65536 < f || (f == 65536 && !past)

/-- Sub-pixels from the undithered position of the latest sample to an instant (R22). -/
def State.placeDist (s : State) (at_ : Nat) : Int :=
  let p := unpackPos at_
  s.lineDist at_ * (s.sv.ppl * 2 ^ 8 : Nat) + (p.pixel * 2 ^ 8 + p.sub : Nat) - (s.posNow.pixel * 2 ^ 8 + s.posNow.sub : Nat)

/-- px 0 of the first line start at least `n` lines ahead (R22). -/
def State.linesAhead (s : State) (n : Nat) : Nat :=
  let l := s.sv.line + n + (if s.posNow.pixel = 0 ∧ s.posNow.sub = 0 then 0 else 1)
  let lpf := max 1 s.sv.lpf
  let line := l % lpf
  packPos { frame := (s.sv.frame + l / lpf) % 2 ^ 24, field := fieldOfLine s.sv.fieldStarts line, line }

/-- The instant has come: the undithered position of the latest sample is at or after it (R71, R74). -/
def State.reached (s : State) (at_ : Nat) : Bool :=
  let p := unpackPos at_
  let f := s.framesTo p
  if f = 0 then placeInFrame p ≤ placeInFrame s.posNow else 2 ^ 23 ≤ f

/-! ## Table 1.3 -/

/-- Refusal and abort causes (Table 1.4). -/
def ceBadTransition : Nat := 0x01
def ceStageBusy : Nat := 0x02
def ceTooClose : Nat := 0x03
def ceFar : Nat := 0x04
def ceRasterUnlocked : Nat := 0x05
def ceFloor : Nat := 0x06
def ceRing : Nat := 0x07
def ceKey : Nat := 0x08
def ceLayout : Nat := 0x09
def ceRole : Nat := 0x0A
def ceNotPaired : Nat := 0x0B
def ceThermal : Nat := 0x0C
def ceRecovery : Nat := 0x0D
def ceFabric : Nat := 0x0E
def ceHbm : Nat := 0x0F
def ceUpdateBusy : Nat := 0x10
def ceNotReady : Nat := 0x11
def ceApplyFailed : Nat := 0x12
def ceForced : Nat := 0x13
def ceCancelled : Nat := 0x14
def ceBacklog : Nat := 0x15

/-- CHANGE_STATE codes (Table 1.2). -/
def csIdle : Nat := 0
def csStaged : Nat := 1
def csCommitted : Nat := 2
def csReady : Nat := 3
def csApplied : Nat := 4
def csAborted : Nat := 5
def csRolledBack : Nat := 6
def csRefused : Nat := 7

/-- The transitions of Table 1.3, re-arms among them (R19). -/
def transitionOk (a b : Nat) : Bool :=
  if a = 0 then b == 1
  else if a = 1 then b == 0 || captureMode b || b == 6 || b == 7
  else if captureMode a then captureMode b || b == 1 || b == 6
  else if a = 6 then b == 1 || b == 0
  else if a = 7 then b == 1
  else false

/-- Order of binary32 values, by their bits. -/
def f32Key (w : Word) : Int := if w.msb then -((w.toNat % 2 ^ 31 : Nat) : Int) else (w.toNat : Int)

/-- A binary32 value is at or above another. -/
def f32Ge (a b : Word) : Bool := f32Key b ≤ f32Key a

/-- JUNCTION_MAX is at or above a limit; 105 °C when every junction sensor fails (R382). -/
def State.junctionGe (s : State) (limit : Word) : Bool := f32Ge (s.fm.junction.getD 0x42D20000) limit

/-- Junction at or above 100 °C (Table 1.3). -/
def State.tooHot (s : State) : Bool := s.junctionGe 0x42C80000

/-- A raster-referenced setting while the raster is not locked: a per-line or per-frame span of a stream that is
armed, or a timer on raster units (Table 1.3). -/
def State.rasterMissing (s : State) (mode : Nat) : Bool :=
  let spans := (armsUnder s.next mode).any fun q => s.next (0x2840 + q) 1 == 0 || s.next (0x2840 + q) 1 == 4
  let timers := (List.range 8).any fun n => s.next (0x2678 + n) 1 != 0
  (spans || timers) && !(s.sv.state == rsLocked || s.sv.state == rsHoldover)

/-- A stream that is armed has no ring, or two have the same one (R195). -/
def State.ringMissing (s : State) (mode : Nat) : Bool :=
  let rings := (armsUnder s.next mode).map fun q => s.next (0x2840 + q) 0x11
  rings.any (fun r => 64 ≤ r) || !decide rings.Nodup

/-- Copies that the mode encrypts, by KEY_ID (R234, R235). -/
def State.keysNamed (s : State) (mode : Nat) : List Nat :=
  ((armsUnder s.next mode).filter fun q => s.next (0x2A40 + q) 2 == 1).map (fun q => s.next (0x2A40 + q) 3) ++
    (if windowMode mode && s.next 0x2A00 2 == 1 then [s.next 0x2A00 3] else [])

/-- Some of these keys are absent, or USE is exhausted for them (R235, R237). -/
def State.keysLack (s : State) (ids : List Nat) : Bool :=
  ids.any (fun id => !s.nv.keys.any fun x => x.1 == id) || (!ids.isEmpty && s.useExhausted)

/-- An encrypted copy has no key, or USE is exhausted (R235, R237). -/
def State.keyMissing (s : State) (mode : Nat) : Bool := s.keysLack (s.keysNamed mode)

/-- An object's value changes with the staged set. -/
def State.changes (s : State) (index sub : Nat) : Bool := s.next index sub != s.cfg index sub

/-- Keys of the copies whose encryption the staged set turns on or gives another key (R235). -/
def State.keysTurnedOn (s : State) : List Nat :=
  ((0x2A00 :: (List.range 64).map (0x2A40 + ·)).filter fun o =>
    s.next o 2 == 1 && (s.changes o 2 || s.changes o 3)).map fun o => s.next o 3

/-- The regions do not fit the Stockpile, or the segments the window region (R182, R215). -/
def State.layoutBad (s : State) : Bool :=
  let backlog := s.next 0x2800 3
  let window := s.next 0x2800 4
  let least := (100 * s.next 0x2800 1 + 1048575) / 1048576 + 1024
  let segs := ((List.range (s.next 0x2600 5)).map fun g => s.next (0x26C0 + g) 1).sum
  48640 < backlog + window || backlog < least || window < segs

/-- The preconditions for arming a capture mode in their order, 0 when all hold (Table 1.3). -/
def State.armCause (s : State) (mode : Nat) : Nat :=
  if s.rasterMissing mode then ceRasterUnlocked
  else if !s.floorOk s.next mode then ceFloor
  else if s.ringMissing mode then ceRing
  else if s.keyMissing mode then ceKey
  else if s.layoutBad then ceLayout
  else if s.role == roleShadow then ceRole
  else 0

/-- The backlog holds an admitted class-A ingot not yet delivered (R17). -/
def State.owes (s : State) : Bool := s.streams.toList.any Stream.owes

/-- A Shadow and an attaching module mirror the Active's transitions (R363). -/
def State.mirrors (s : State) : Bool := s.role == roleShadow || s.role == roleAttaching

/-- The change that the staged set asks for (R19, R363, R376, R377). -/
def State.planned (s : State) : Committed :=
  let r := s.modeRequest
  let at_ := if s.epochAt = 0xFFFFFFFFFFFFFFFF then s.linesAhead 3 else s.epochAt
  if s.mirrors then
    let base := if r == 0xFF || r == 5 then s.twin.peerMode else r
    if s.modes.swapStaged then { target := base, base, at_ }
    else if s.modes.detachStaged then { target := 1, base, at_ }
    else { target := if streamingMode base || windowMode base then 5 else if base = 6 then 1 else base, base, at_ }
  else if s.modes.swapStaged then
    let base := if r == 0xFF || r == 5 then s.mode else r
    { target := 5, base, at_ }
  else
    let target := if r == 0xFF then s.mode else r
    { target, base := target, at_ }

/-- The cause for which Table 1.3 refuses a planned change, 0 for none. -/
def State.moveCause (s : State) (c : Committed) : Nat :=
  if s.modeRequest == 0xFF && !s.modes.swapStaged then 0
  else if !transitionOk s.mode c.target then ceBadTransition
  else if s.mode == 0 then (if s.tooHot then ceThermal else 0)
  else if c.target == 0 then (if s.owes && !s.cfgOn 0x2000 0x0F then ceBacklog else 0)
  else if c.target == 5 && !s.modes.swapStaged then (if s.paired then ceRole else ceNotPaired)
  else if s.mode == 5 && captureMode c.target then (if s.paired then ceRole else ceNotPaired)
  else if captureMode c.target then s.armCause c.base
  else if c.target == 7 then (if s.tooHot then ceThermal else 0)
  else if s.mode == 7 then (if s.fm.updateState == usCommitting then ceUpdateBusy else 0)
  else 0

/-- The cause for which a planned change is refused, 0 for none: Table 1.3, then what holds for every commit, a key for the
encryption that it turns on (R235, R237) and a layout that fits (R182, R215). -/
def State.planCause (s : State) (c : Committed) : Nat :=
  if s.mirrors then 0
  else if s.moveCause c != 0 then s.moveCause c
  else if s.keysLack s.keysTurnedOn then ceKey
  else if s.layoutBad then ceLayout
  else 0

/-- The cause for which R22 refuses the instant, 0 for none. -/
def State.instantCause (s : State) (at_ : Nat) : Nat :=
  if s.isFar at_ then ceFar else if s.placeDist at_ < (3 * s.sv.ppl * 2 ^ 8 : Nat) then ceTooClose else 0

/-! ## Readiness -/

/-- The probe links and the crossbar (R106, R110, R439). -/
def linksReady (val : Nat → Nat → Nat) (mode : Nat) : Bool :=
  let sources := ((List.range 48).map fun k => val (0x2400 + k) 1).filter (· < 48)
  decide sources.Nodup &&
    ((List.range 48).all fun k => val (0x2400 + k) 2 != val (0x2400 + k) 3 || val (0x2400 + k) 2 == 0xFF) &&
    (mode == 7 || (List.range 48).all fun n => val (0x2200 + n) 4 == 0 && val (0x2200 + n) 5 == 0 && val (0x2200 + n) 6 == 0)

/-- The capture encoders (R126). -/
def encodersReady (val : Nat → Nat → Nat) : Bool :=
  (List.range 64).all fun q => !(val (0x2840 + q) 1 == 4 && val (0x2840 + q) 2 == 1)

/-- FLOOR_SEAMS of the streams that are armed name only their own seams (R196). -/
def floorSeamsOk (val : Nat → Nat → Nat) (mode : Nat) : Bool :=
  (armsUnder val mode).all fun q => (bitsOf 48 (val (0x2840 + q) 0x10)).all fun k => val (0x2400 + k) 4 == q

/-- The change arms a capture mode from a mode that is none. -/
def State.armsFromIdle (s : State) (c : Committed) : Bool := !captureMode s.mode && captureMode c.target

/-- The mode whose capture a change starts or carries on: the Active's on a Shadow. -/
def Committed.run (c : Committed) : Nat := if c.target = 5 then c.base else c.target

/-- The Active counts the Shadow's report while a partner is there (R366). -/
def State.needsShadow (s : State) : Bool := s.role == roleActive && s.partnered

/-- FENCE_IN names the pin of FENCE_OUT (Table 12.6, R439). -/
def State.fenceBad (s : State) : Bool := s.next 0x2D00 3 != 0xFF && s.next 0x2D00 3 == s.next 0x2D00 4

/-- Units of Table 1.5 that are not READY for a change, beside those the command names; an isolated unit is not READY
for a capture mode (R24, R388, R439). -/
def State.notReady (s : State) (c : Committed) (missing : BitVec 11) (instant : Bool) : BitVec 11 :=
  let run := c.run
  let arms := captureMode c.target
  let own (b : Nat) (bad : Bool) : Nat := if bad then 2 ^ b else 0
  missing ||| (if arms then s.fm.isolated else 0) ||| BitVec.ofNat 11 (
    own 0 (!surveyorReady s.next || (instant && !s.occurs c.at_) || (arms && s.rasterMissing run)) +
    own 1 (!linksReady s.next c.target) +
    own 2 (!encodersReady s.next) +
    own 3 (!shaftReady s.next) +
    own 4 (arms && (s.keyMissing run || (s.armsFromIdle c && s.fm.useReserved.isNone && !s.useExhausted))) +
    own 5 (!assayReady s.next run) +
    own 6 ((arms && (!floorSeamsOk s.next run || (!s.mirrors && !s.floorOk s.next run) || s.ringMissing run)) ||
      (c.target == 0 && s.mode != 0 && s.owes && !s.cfgOn 0x2000 0x0F)) +
    own 7 ((arms && s.layoutBad) || ((s.changes 0x2800 3 || s.changes 0x2800 4) && s.owes)) +
    own 8 (c.target != 5 && !(armsUnder s.next run).isEmpty && !(s.hf.l0 && !s.hf.inL1 && s.hf.l0p.isNone)) +
    own 9 ((s.needsShadow && s.twin.shadowReady != some true) || (s.modes.swapStaged && !s.paired) || s.fenceBad) +
    own 10 (((s.mode == 0 && c.target == 1) || (s.mode == 1 && c.target == 7)) && s.tooHot ||
      (s.mode == 7 && c.target == 1 && s.fm.updateState == usCommitting)))

/-! ## Abort -/

/-- The change is over: nothing is staged any more (R21). -/
def State.dropChange (s : State) : State :=
  { s with modes.staged := [], modes.committed := none, modes.swapStaged := false, modes.detachStaged := false
           twin.go := none, twin.shadowReady := none, twin.shadowApplied := none }

/-- A change ends aborted on every unit (R21, R25, R30). -/
def State.abortChange (s : State) (cause : Nat) (mask : BitVec 11) : State :=
  let s := s.dropChange
  { s with modes.changeState := csAborted, modes.refusalCause := cause, modes.unitMask := mask
           modes.abortCount := inc32 s.modes.abortCount }.event .epochAborted .surveyor 0xFF
    (leBytes 1 cause ++ leBytes 4 mask.toNat)

/-- An external line without power: its counters stay (R159, R163). -/
def ExtLine.unpower (m : ExtLine) : ExtLine := { overrate := m.overrate, narrow := m.narrow }

/-- A seam without its fabric: its counters stay. -/
def Seam.unpower (m : Seam) : Seam :=
  { ingotsSample := m.ingotsSample, ingotsTransition := m.ingotsTransition, gapSmp := m.gapSmp
    frameCuts := m.frameCuts }

/-- A reference that is away in Dormant leaves the carried SIDX uncertain, which the next entry into Ready logs (R42). -/
def State.noteUncertain (s : State) : State := { s with sv.sidxUncertain := s.sv.sidxUncertain || s.sv.refLost }

/-- The fabric loses power: receivers unpowered, the HBM's contents gone (Table 1.1, R16, R109). -/
def State.unpowerFabric (s : State) : State :=
  let s := allLinks.foldl State.rxUnpower s
  let s := { s with power.fabric := false, power.hbm := .off, sv.pllLocked := false, sv.dllState := 0
                    seams := vmap s.seams fun _ m => m.unpower
                    shaft.lines := vmap s.shaft.lines fun _ m => m.unpower
                    shaft.markers := vmap s.shaft.markers fun _ _ => {} }
  s.discardSegments.clockFree

/-- The move to Ready in progress is given up: the device stays in Dormant (R35). -/
def State.abortEntry (s : State) (cause : Nat) (mask : BitVec 11) : State :=
  (({ s with modes.entry := none } : State).abortChange cause mask).unpowerFabric

/-! ## Commit and cancel -/

/-- A change is COMMITTED or READY, an entry into Ready is in progress, or a rollback is due (R22). -/
def State.changePending (s : State) : Bool :=
  s.modes.changeState == csCommitted || s.modes.changeState == csReady || s.modes.entry.isSome || s.modes.rollback.isSome

/-- A commit refused: only CHANGE_STATE and REFUSAL_CAUSE tell, the set stays staged (R21, R307). -/
def State.commitRefused (s : State) (cause : Nat) : State :=
  { s with modes.changeState := csRefused, modes.refusalCause := cause }

/-- The move from Dormant to Ready starts (R35). -/
def State.startEntry (s : State) (auto : Bool) : State :=
  { s with modes.entry := some { auto }, modes.changeState := csCommitted, modes.refusalCause := 0 }

/-- USE is exhausted for a commit that enables encryption: KEY_EXHAUSTED (R237). -/
def State.noteExhausted (s : State) (mode : Nat) : State :=
  if !((if captureMode mode then s.keysNamed mode else []) ++ s.keysTurnedOn).isEmpty && s.useExhausted then
    s.event .keyExhausted .smelter
  else s

/-- FLOOR_SUM and FLOOR_BURST of a change that arms, computed at commit and at the READY check (R198). -/
def State.floorFigures (s : State) (c : Committed) : State := if captureMode c.target then s.noteFloor s.next c.run else s

/-- The Active forwards a commit with its instant resolved, and the USE of an arming (R237, R329; log 33). -/
def State.forwardCommit (s : State) (c : Committed) : State :=
  if s.role == roleActive then
    let s := if s.armsFromIdle c && s.fm.useReserved.isSome then s.xcSend (.armUse s.nextUse) else s
    (s.xcSend (.forwardWrite 0x2000 3 (leBytes 8 c.at_))).xcSend (.forwardWrite 0x2000 4 [1])
  else s

/-- The Shadow reports whether its units are READY (R366). -/
def State.reportReady (s : State) (c : Committed) : State :=
  if s.mirrors then s.xcSend (.shadowReady (s.notReady c 0 true == 0)) else s

/-- A commit taken: the set is frozen (R21, R198, R294). -/
def State.commitTaken (s : State) (c : Committed) : State :=
  let s := s.forwardCommit c
  let s := { s with modes.changeState := csCommitted, modes.refusalCause := 0, modes.committed := some c }
  let s := if c.target != 5 && !(armsUnder s.next c.run).isEmpty then s.leaveLowPower else s
  s.reportReady c

/-- A COMMIT write of 1 (R19, R22, R35, Table 1.3); one refused STAGE_BUSY leaves CHANGE_STATE as it is (DESIGN CHOICE,
log 33). -/
def State.commit (s : State) : State :=
  if s.changePending then { s with modes.refusalCause := ceStageBusy }
  else if s.power.recovery then s.commitRefused ceRecovery
  else
    let c := s.planned
    let s := s.floorFigures c
    let cause := s.planCause c
    if cause == ceBadTransition then s.commitRefused ceBadTransition
    else if s.mode == 0 then
      if s.modeRequest == 0xFF then s.commitRefused ceFar
      else if cause != 0 then (s.noteExhausted 1).commitRefused cause
      else
        let s := if s.role == roleActive then s.xcSend (.forwardWrite 0x2000 4 [1]) else s
        s.startEntry false
    else if !s.mirrors && s.instantCause c.at_ != 0 then s.commitRefused (s.instantCause c.at_)
    else if cause != 0 then (s.noteExhausted c.run).commitRefused cause
    else s.commitTaken c

/-- A COMMIT write of 0: before the READY deadline the set is discarded; after it, or with nothing staged, nothing
happens (R21). -/
def State.cancel (s : State) : State :=
  if s.modes.entry.isSome then s.abortEntry ceCancelled 0
  else if s.modes.changeState == csReady || s.modes.rollback.isSome then s
  else if s.modes.committed.isSome || !s.modes.staged.isEmpty || s.modes.swapStaged || s.modes.detachStaged then
    let s := if s.role == roleActive then s.xcSend (.forwardWrite 0x2000 4 [0]) else s
    s.abortChange ceCancelled 0
  else s

/-! ## The deadline -/

/-- The latest sample lies at or after the READY deadline of a change: px 0 of the line two lines before its epoch's
(R72). -/
def State.atDeadline (s : State) (c : Committed) : Bool := s.lineDist c.at_ ≤ 2

/-- The READY deadline (R24, R25, R366). -/
def State.deadline (s : State) (missing : BitVec 11) : State :=
  match s.modes.committed with
  | some c =>
    if s.modes.changeState == csCommitted && s.atDeadline c then
      let mask := s.notReady c missing true
      let s := s.floorFigures c
      if mask == 0 then
        let s := if s.needsShadow then s.xcSend .epochGo else s
        { s with modes.changeState := csReady, modes.unitMask := 0 }
      else
        let s := if s.needsShadow then s.xcSend .epochAbort else s
        s.abortChange ceNotReady mask
    else s
  | none => s

/-- The meaning of READY_DEADLINE (R20, R24, R25, R72, R73). -/
def execReadyDeadline (missing : BitVec 11) (s : State) : Host.Outcome State Fault Refusal := ran s (s.deadline missing)

/-! ## The entry into Ready, up to its epoch -/

/-- The entry in progress changed. -/
def State.onEntry (s : State) (f : Entry → Entry) : State := { s with modes.entry := s.modes.entry.map f }

/-- Fabric power or the HBM failed: the device stays in Dormant, with a Degrade fault; the change ends ABORTED
and its staged set is discarded (R35; DESIGN CHOICE, log 33). -/
def State.entryFails (s : State) (cause : Nat) (code : EvCode) : State :=
  (s.abortEntry cause 0).fault .degrade code .foreman

/-- RCAL at a fabric power-up: outside 1.90 kΩ to 2.10 kΩ the factory trim is used, with a Degrade fault (R428). -/
def State.measureRcal (s : State) (ohms : Nat) : State :=
  if within 1900 2100 ohms then ({ s with power.rcalBad := false } : State).dropCondition .rcalFault .foreman
  else ({ s with power.rcalBad := true } : State).fault .degrade .rcalFault .foreman

/-- Every enabled probe link starts its bring-up (R35, R94). -/
def State.bringUpLinks (s : State) : State :=
  allLinks.foldl (fun s l => if s.linkEnabled l then s.rxSearch l (s.rx l).cause else s) s

end Sys2Proof.Machine
end

