-- ==== Sys2Proof/Machine/Epochs.lean ====
section
/-! DEFINITION. Epochs (chapter 1): what every unit does on the epoch sample (R26), scheduled epochs with their check and
rollback (R28, R29), forced epochs (R30), takeover, role swap, detach and attach as epochs carry them out (R373 to R378),
entry into Ready (R36) and into Dormant (R16, R17). -/

namespace Sys2Proof.Machine

/-- What an epoch switches to: the kind it is announced as (Table 4.10: 0 SCHEDULED, 1 ROLLBACK, 2 FORCED), FORCED_BY,
FAILED_EPOCH, the mode, the mode of the capture the module runs from then on, the live values, the objects of its set. -/
structure Switch where
  aux : Nat
  by_ : Nat := 0
  failed : Nat := 0
  mode : Nat
  base : Nat
  live : ObjMap
  set : List Nat

/-- The mode whose capture runs from the epoch on. -/
def Switch.run (w : Switch) : Nat := if w.mode = 5 then w.base else w.mode

/-- FORCED_BY codes (R30). -/
def forcedCode : ForcedBy → Nat
  | .takeover => 1 | .watchdog => 2 | .thermal => 3 | .fault => 4 | .partnerLink => 5

/-! ## EPOCH ingots -/

/-- The payload of an EPOCH ingot: the fields from 0x08 on describe the configuration in force (Table 4.10). -/
def State.epochPayload (s : State) (w : Switch) (q prev : Nat) : List Byte :=
  let seams := maskOf 48 fun k => s.cfg (0x2400 + k) 4 == q
  let floor := maskOf 48 fun k => s.cfg (0x2400 + k) 4 == q && floorSeam s.cfg k
  let enc := s.cfg (0x2A40 + q) 2
  leBytes 2 prev ++ leBytes 1 w.mode ++ leBytes 1 w.by_ ++ leBytes 2 w.failed ++ leBytes 2 0 ++ leBytes 8 seams ++
  leBytes 8 floor ++ leBytes 1 (s.cfg (0x2840 + q) 1) ++ leBytes 1 (s.cfg (0x2840 + q) 2) ++
  leBytes 1 (s.cfg (0x2A40 + q) 1) ++ leBytes 1 enc ++ leBytes 4 (if enc = 1 then s.cfg (0x2A40 + q) 3 else 0) ++
  leBytes 4 s.boundD ++ leBytes 4 0

/-- An EPOCH ingot on the latest sample (R140, R143). -/
def State.epochIngot (s : State) (w : Switch) (aux q prev number : Nat) : Ingot :=
  { controlIngot 7 0x60 aux 0 number s.here (flagIf s.holdNow flHoldover ||| flagIf s.dllNow flFineOverflow) (s.epochPayload w q prev) s.sv.sidx 3 with
    stream := q }

/-- EPOCH ingots for some streams, numbered behind what the epoch cut (R140, R143). -/
def State.announce (s : State) (w : Switch) (aux prev number : Nat) (streams : List Nat) : State :=
  ({ s with closing := s.closing ++ streams.map fun q => s.epochIngot w aux q prev number } : State).numberClosed

/-! ## Streams, seams and slots -/

/-- The numbers of a stream continue across an epoch between capture modes (R142). -/
def carriesOn (a b : Nat) : Bool := ((streamingMode a || windowMode a) && (streamingMode b || windowMode b)) || (a == 5 && b == 5)

/-- A stream under an epoch: armed or not, its numbers continued or from 0 (R142, R195). -/
def Stream.switch (m : Stream) (on cont used capture : Bool) (ring : Option (Fin 64)) : Stream :=
  if on then
    if cont && m.kept then { m with armed := true, ring }
    else { m with armed := true, ring, kept := true, nextSeq := 0, ingots := 0 }
  else { m with armed := false, kept := capture && m.kept && used }

/-- Ring of a stream under the configuration in force (R195). -/
def State.ringCfg (s : State) (q : Nat) : Option (Fin 64) :=
  let r := s.cfg (0x2840 + q) 0x11
  if h : r < 64 then some ⟨r, h⟩ else none

/-- Every stream under an epoch that came from mode `was`. -/
def State.armStreams (s : State) (was : Nat) (w : Switch) : State :=
  let on := armsUnder s.cfg w.run
  { s with streams := vmap s.streams fun q m =>
      m.switch (on.contains q) (carriesOn was w.mode) (inUse s.cfg q) (captureMode w.mode) (s.ringCfg q) }

/-- The copies of every seam begin anew on the epoch sample (R121, R230). -/
def State.openSeams (s : State) : State :=
  { s with seams := vmap s.seams fun k m =>
      let armed := match s.streamOf k with
        | some q => (s.stream q).armed
        | none => false
      { m with openStream := if armed then some s.here else none
               openWindow := if s.shaft.filling.isSome then m.openWindow else none
               freshStream := true, freshWindow := true, frameLast := none, frameFell := false } }

/-- Everything an epoch cuts, under the old set: Assay scopes, stream copies, window copies; `closes` ends the segment
being filled (R26, R121, R183, R184, R253). -/
def State.cutAll (s : State) (closes : Bool) : State :=
  let s := (List.range 32).foldl State.assayCut s
  let s := (List.range 48).foldl (fun s k => s.cutCopy k .stream) s
  if s.shaft.filling.isSome then
    if closes then (s.cutWindows s.sv.sidx).closeSegment ccEpoch s.here s.sv.sidx
    else (List.range 48).foldl (fun s k => s.cutCopy k .window) s
  else s

/-! ## Window segments -/

/-- The change alters WINDOW_MIB or the segment layout (R188, R216). -/
def State.layoutChanged (s : State) (live : ObjMap) : Bool :=
  let new (i sub : Nat) : Nat := live.value (key i sub)
  new 0x2800 4 != s.cfg 0x2800 4 || new 0x2600 5 != s.cfg 0x2600 5 ||
    (List.range (max (new 0x2600 5) (s.cfg 0x2600 5))).any fun g => new (0x26C0 + g) 1 != s.cfg (0x26C0 + g) 1

/-- The segment an epoch arms under the new values, none while it waits for a release (R186, R188). -/
def State.epochSegment (s : State) (live : ObjMap) (layout : Bool) : Option Nat :=
  if layout then some 0
  else
    let s := { s with dict.live := live }
    let g := match s.shaft.lastArmed with
      | some k => (k + 1) % max 1 s.segCount
      | none => 0
    if (s.segment g).code == 0 then some g
    else if s.cfg 0x2600 6 == 1 then some (s.overwriteChoice g)
    else none

/-- The dead interval in progress ends under the old set (R186, R187). -/
def State.endDead (s : State) (d : Option Ingot) : State :=
  match d with
  | none => { s with shaft.dead := none }
  | some i =>
    { s with shaft.dead := none, shaft.deadSmp := add64 s.shaft.deadSmp i.span }.emitControl i s.markStreams none

/-- The segment armed on the epoch sample, the DEADTIME its first image; or a dead interval that waits (R187, R188). -/
def State.armNext (s : State) (choice closed : Option Nat) (dead : Option Ingot) : State :=
  match choice with
  | some g =>
    let fresh := (s.segment g).code == 0
    let s := s.armSegment g
    let s := match dead with
      | some i => s.emitControl i [] (some g)
      | none => s
    if fresh then s else s.notice .segmentOverwritten .stockpile g (leBytes 2 g)
  | none =>
    let next := match s.shaft.lastArmed with
      | some k => (k + 1) % max 1 s.segCount
      | none => 0
    { s with shaft.dead := some { start := s.here, closed, next, waits := true } }

/-! ## Links and seams under new values -/

/-- A pattern or loop of Service is in force on a link (R110). -/
def testOn (val : Nat → Nat → Nat) (n : Nat) : Bool :=
  val (0x2200 + n) 4 != 0 || val (0x2200 + n) 5 != 0 || val (0x2200 + n) 6 != 0

/-- A PATTERN message queued (R111). -/
def State.queuePattern (s : State) (n pattern : Nat) : State :=
  (s.onLink n fun m => { m with deviceMsgs := (m.deviceMsgs.filter fun x => msgType x != 2) ++ [controlMsg 2 [pattern]], patternAcked := false
                                prbsReg := [], prbsSync := false, prbsMatch := 0, prbsWindow := [], testLock := false }).pumpControl n

/-- One probe link under new values (R98, R104, R105, R110, R111). -/
def State.linkEpoch (s : State) (old : Nat → Nat → Nat) (n : Fin 48) : State :=
  let o := 0x2200 + n.val
  let l : LinkId := .probe n
  let on := s.linkEnabled l
  let was := old o 1 == 1 && !s.fm.isolatedLinks.getLsbD n.val
  let test := testOn s.cfg n.val
  let grid := s.cfg o 2 != old o 2 || s.cfg 0x2100 0x16 != old 0x2100 0x16
  if !s.power.fabric then s
  else if was && !on then s.rxDisable l
  else if !on then s
  else if test then
    let s := if (s.rx l).state == lsTest then s else s.rxGo l lsTest 0x0C
    if s.cfg o 5 != old o 5 then s.queuePattern n.val (s.cfg o 5) else s
  else if !was || (s.rx l).state == lsTest then s.rxSearch l (s.rx l).cause
  else if grid && (s.rx l).state == lsUp then s.rxGo l lsDeskew 0x08
  else if (s.rx l).state == lsDeskew then s.tryUp l
  else s

/-- A channel changes between two samples with valid data that follow one another. -/
def Samp.changes (before : Option Samp) (x : Samp) (ch : Nat) : Bool :=
  match before with
  | some p =>
    (match p.word, x.word with
     | some a, some b => ch < 16 && p.sidx + 1 == x.sidx && a.getLsbD ch != b.getLsbD ch
     | _, _ => false)
  | none => false

/-- Samples from an epoch on under its timing channels: a changed channel has no entries yet, so its edges have coarse time
(R86, R89, R117). -/
def retime (at_ chA chB : Nat) (keepA keepB : Bool) : Option Samp → List Samp → List Samp
  | _, [] => []
  | p, x :: l =>
    let y := if x.sidx < at_ then x
      else
        let fineA := if keepA then x.fineA else none
        let fineB := if keepB then x.fineB else none
        { x with fineA, fineB, coarse := (x.changes p chA && fineA.isNone) || (x.changes p chB && fineB.isNone) }
    y :: retime at_ chA chB keepA keepB (some x) l

/-- The samples that a seam holds for the epoch's new timing channels (R117). -/
def State.retimeSeam (s : State) (old : Nat → Nat → Nat) (k : Nat) : State :=
  let o := 0x2400 + k
  s.onSeam k fun m =>
    { m with buf := retime s.sv.sidx (s.cfg o 2) (s.cfg o 3) (s.cfg o 2 == old o 2) (s.cfg o 3 == old o 3) none m.buf }

/-- One seam under new values: a new source loses it, a new source or timing channel is told to its link (R89, R106). -/
def State.seamEpoch (s : State) (old : Nat → Nat → Nat) (k : Nat) : State :=
  let o := 0x2400 + k
  let moved := s.cfg o 1 != old o 1
  let timing := s.cfg o 2 != old o 2 || s.cfg o 3 != old o 3
  let s := if moved then s.loseSeam k s.sv.sidx 0 else s
  let s := if timing then s.retimeSeam old k else s
  let s := if (moved || timing) && s.cfg o 1 < 48 then s.queueConfig (s.cfg o 1) else s
  if moved && old o 1 < 48 && (s.fedSeam (old o 1)).isNone then s.queueConfig (old o 1) else s

/-- The probe receive datapath loses power in Drain: no seam has data from the epoch on (Table 1.1; log 58). -/
def State.unfeed (s : State) : State := (List.range 48).foldl (fun s k => s.loseSeam k s.sv.sidx 0) s

/-- LINK_ENABLE of every link into the voted field (Table 11.2). -/
def State.setLanes (s : State) : State :=
  let m := maskOf 48 fun n => s.cfgOn (0x2200 + n) 1
  { s with regs.lanes := .all (BitVec.ofNat 52 (m + s.regs.lanes.value.toNat / 2 ^ 48 * 2 ^ 48)) }

/-- Links, crossbar and seams under new values. -/
def State.linksEpoch (s : State) (old : Nat → Nat → Nat) : State :=
  let s := (List.finRange 48).foldl (fun s n => s.linkEpoch old n) s.setLanes
  (List.range 48).foldl (fun s k => s.seamEpoch old k) s

/-! ## Lines -/

/-- A line whose POLARITY or STUCK_TIME changes counts anew; STUCK_NOW stays until the line leaves its active level (R163). -/
def State.lineEpoch (s : State) (old : Nat → Nat → Nat) (n : Nat) : State :=
  let o := lineObject n
  if s.cfg o 2 != old o 2 || s.cfg o 4 != old o 4 then
    { s with shaft.lines := vmod s.shaft.lines n fun m => { m with reported := false } }
  else s

/-! ## Admission -/

/-- What an epoch does in the Grizzly: no seam is demoted any longer; arming notes FLOOR_SUM, FLOOR_BURST and w_s, clears
the drain history, and starts a suspension when the drain is away (R198, R199, R201, R209, R211). -/
def State.armGrizzly (s : State) (w : Switch) : State :=
  let s := { s with grizzly.demoted := 0 }
  if captureMode w.mode then
    let s := ((s.noteFloor s.cfg w.run).noteSpans).clearDrain
    if s.withdrawn && s.anyArmed then s.drainGoes (if s.hf.l0 then .busMasterOff else .linkDown) else s
  else s

/-- The USE of an arming from Ready, and the next one reserved (R237). -/
def State.takeUse (s : State) : State :=
  match s.fm.useReserved with
  | some v => ({ s with smelter.use := v } : State).reserveUse (v + 1)
  | none => s

/-! ## Into Dormant -/

/-- Closed segments not read out (R16). -/
def State.unreadSegments (s : State) : Nat :=
  (s.shaft.segments.toList.filter fun m => m.state == 3 && !m.readOut).length

/-- One stream's undelivered ingots discarded with their Notice; an image that is written is delivered (R17). -/
def State.discardStream (s : State) (q : Nat) : State :=
  let l := (s.stream q).backlog
  let s := (s.onStream q fun m => { m with backlog := [], written := [], waiting := [], shadowKept := [] }).endHold q
  match l.head?, l.getLast? with
  | some a, some b =>
    s.notice .backlogDiscarded .grizzly q (leBytes 1 q ++ leBytes 8 a.seq ++ leBytes 8 b.seq ++ leBytes 4 l.length)
  | _, _ => s

/-- The entry into Dormant: cursor records, Notices, power off (R16, R17, R70, Table 1.1). -/
def State.goDormant (s : State) : State :=
  let s := (List.range 64).foldl (fun s n => if (s.ring n).enable then s.cursorWrite n false true else s) s
  let s := (List.range 64).foldl State.discardStream s
  let n := s.unreadSegments
  let s := if n = 0 then s else s.notice .windowsDiscarded .stockpile 0xFF (leBytes 4 n)
  s.noteUncertain.unpowerFabric.setPpsOut false

/-! ## The epoch sample -/

/-- The set, the number and the mode take effect (R26, R27). -/
def State.loadSet (s : State) (w : Switch) (number : Nat) : State :=
  { s with dict.live := w.live, modes.epoch := .all number, modes.epochSidx := s.sv.sidx
           twin.peerMode := if w.mode = 5 then w.base else s.twin.peerMode }.setMode w.mode

/-- A number of the Shadow's own sequence in the sequence that the Active goes on with (R370). -/
def renumber (own active n : Nat) : Nat := active + n - own

/-- State that the Active sent for a resynchronisation or an attach epoch (R370, R378); `base` are the Shadow's own next
numbers of streams and slots at that sample, from which its place in the numbering is taken. -/
def State.loadSync (s : State) (x : SyncState) (base : List Nat) : State :=
  { s with shaft.level := x.level, shaft.storage := x.storage
           shaft.counters := vmap s.shaft.counters fun n c =>
             match x.counters[n]? with
             | some v => { value := v % 2 ^ 48, overflow := v.testBit 63 }
             | none => c
           shaft.timers := vmap s.shaft.timers fun n t =>
             match x.timers[n]? with
             | some (v, r) => { value := v, running := r }
             | none => t
           streams := vmap s.streams fun q m =>
             match m.armed, x.streamSeq[q]?, base[q]? with
             | true, some v, some b =>
               { m with nextSeq := renumber b v m.nextSeq
                        waiting := m.waiting.map fun i => { i with seq := renumber b v i.seq } }
             | _, _, _ => m
           slots := vmap s.slots fun k m =>
             match x.slotSeq[k]?, base[64 + k]? with
             | some v, some b =>
               { m with nextSeq := renumber b v m.nextSeq
                        closed := m.closed.map fun r => { r with ingot := { r.ingot with seq := renumber b v r.ingot.seq } } }
             | _, _ => m
           twin.syncIn := none, twin.syncBase := none }

/-- The next SEQ of every stream. -/
def State.nextSeqs (s : State) : List Nat := s.streams.toList.map Stream.nextSeq

/-- The next number of every Assay slot (R265). -/
def State.slotSeqs (s : State) : List Nat := s.slots.toList.map Slot.nextSeq

/-- The numbers from which a transfer of state takes the module's place: of the 64 streams, then of the 32 slots (R370). -/
def State.syncNumbers (s : State) : List Nat := s.nextSeqs ++ s.slotSeqs

/-- The state in force that the Active sends (R370). -/
def State.syncState (s : State) : SyncState :=
  { level := s.shaft.level
    counters := s.shaft.counters.toList.map fun c => c.value + bit c.overflow * 2 ^ 63
    timers := s.shaft.timers.toList.map fun t => (t.value, t.running)
    storage := s.shaft.storage, streamSeq := s.nextSeqs, slotSeq := s.slotSeqs }

/-- A Shadow at the sample F of a transfer: the state is loaded, or awaited (R370, R378). -/
def State.expectSync (s : State) : State :=
  match s.twin.syncIn with
  | some x => s.loadSync x s.syncNumbers
  | none => { s with twin.syncBase := some s.syncNumbers }

/-- What the configuration before the epoch leaves: the dead interval ends, streams that stop get their EPOCH ingot, a
window whose layout changes is given up, and a readout that the mode does not allow ends (R26). -/
def State.leaveOld (s : State) (w : Switch) (prev number : Nat) (dead : Option Ingot) (layout : Bool) : State :=
  let s := (s.endDead dead).numberClosed
  let on := armsUnder (fun i sub => w.live.value (key i sub)) w.run
  let s := s.announce w 3 prev number ((List.range 64).filter fun q => (s.stream q).armed && !on.contains q)
  let s := if layout then s.discardSegments.endReadout else s
  if readoutMode w.mode then s else s.endReadout

/-- The new configuration is loaded; streams, Shaft and window are armed under it (R26). -/
def State.loadNew (s : State) (w : Switch) (was number : Nat) (restart arms : Bool) (choice : Option Nat)
    (closed : Option Nat) (dead : Option Ingot) : State :=
  let s := (s.loadSet w number).armStreams was w
  let s := s.shaftEpoch (captureMode w.mode) restart
  if arms then s.armNext choice closed dead else s

/-- What starts under the new configuration: seams with their EPOCH ingots, the USE of an arming, the door, raster, links,
lines, Assay and pins (R26). `before` is the state before the epoch. -/
def State.startNew (s before : State) (w : Switch) (prev number : Nat) (idle : Bool) : State :=
  let s := s.rasterEpoch before.cfg
  let s := s.openSeams.announce w w.aux prev number ((List.range 64).filter fun q => (s.stream q).armed)
  let s := if idle then s.takeUse else s
  let s := (s.armGrizzly w).linksEpoch before.cfg
  let s := (List.range 40).foldl (fun s n => s.lineEpoch before.cfg n) s
  let unarmed := w.aux == 1 && captureMode before.mode && !captureMode w.mode
  let s := (List.range 32).foldl (fun s k =>
    s.assayOpen k before.cfg (idle || unarmed || w.set.any fun o => o / 256 == slotObject k) (before.kindNow k == akOff)
      (before.slot k).start.isSome) s
  let s := if w.mode = 0 then s.goDormant else if s.dataFlows then s else s.unfeed
  let s := if 1 < w.mode && s.power.hbm == .selfRefresh then { s with power.hbm := .active } else s
  let s := if w.mode == 7 then s else s.calStop
  (s.drivePins.updateLtr).noteEval

/-- An object whose place in a change set restarts the Shaft (R188). -/
def shaftKey (k : Nat) : Bool := within 0x2600 0x27FF (k / 256)

/-- What every unit does on the epoch sample (R26). -/
def State.takeSwitch (s : State) (w : Switch) : State :=
  let before := s
  let was := s.mode
  let prev := s.epochNo
  let number := nextEpochNo prev
  let idle := !captureMode was && captureMode w.mode
  let restart := idle || w.set.any shaftKey
  let layout := s.layoutChanged w.live
  let wins := windowMode w.run
  let closed := s.shaft.filling.map Fin.val
  let s := s.cutAll (!wins || restart || layout)
  let arms := wins && s.shaft.filling.isNone
  let choice := if arms then s.epochSegment w.live layout else none
  let dead := s.deadIngot (choice.getD 0xFFFF)
  let s := s.leaveOld w prev number dead layout
  let s := s.loadNew w was number restart arms choice closed dead
  s.startNew before w prev number idle

/-! ## The pair at an epoch -/

/-- FENCE_OUT driven (R357). -/
def State.setFence (s : State) (level : Bool) : State :=
  if s.twin.fenceOut == level then s else ({ s with twin.fenceOut := level } : State).send (.pin "FENCE_OUT" level)

/-- What a module that leaves the pair has not delivered: the other module delivers it (R372, R375, R377). -/
def State.dropCopies (s : State) : State :=
  ({ s with closing := []
            streams := vmap s.streams fun _ m =>
              { m with waiting := [], backlog := [], written := [], shadowKept := [] } } : State).endHolds

/-- The pair ends on this module, which takes a role (R372, R375, R377). -/
def State.endPair (s : State) (role : Nat) : State :=
  let s := if role = roleUnpaired then s.dropCopies else s
  let s := s.setRole role
  { s with twin.pairState := psNone, twin.resyncDue := none, twin.resyncAt := none, twin.hdrOwn := [], twin.hdrPeer := []
           twin.doorPeer := [], twin.handoff := false, twin.health := 0, twin.syncIn := none, twin.syncBase := none
           twin.digestPeer := [] }

/-- The ingots after the last one that a cursor record covered (R373). -/
def afterSeq (last : Nat) (l : List Ingot) : List Ingot :=
  if l.any fun i => i.seq == last then (l.reverse.takeWhile fun i => i.seq != last).reverse else l

/-- Which resumed ingots carry TWIN_COPY: none after HANDOFF, those the former Active had begun to write, or all from
EXPOSED (R373 to R376). -/
inductive TwinCopies where
  | none | written | all
deriving DecidableEq, Repr

/-- TWIN_COPY of a resumed ingot (R373). -/
def TwinCopies.marks (t : TwinCopies) (written seq : Nat) : Bool :=
  match t with
  | .none => false
  | .written => seq ≤ written && written != 0xFFFFFFFFFFFFFFFF
  | .all => true

/-- A new Active takes up the delivery of a stream: its ring at the last confirmed cursor, the ingots after it (R373). -/
def State.resumeStream (s : State) (t : TwinCopies) (q : Nat) : State :=
  let l := (s.stream q).shadowKept
  match (s.stream q).ring with
  | some n =>
    match vget s.twin.cursors n.val none with
    | some c =>
      let s := s.onRing n.val fun r =>
        { r with pos := c.wrPos, wrPos := c.wrPos, gen := c.gen, uncovered := [], laid := [], awaiting := none }
      s.onStream q fun m =>
        { m with shadowKept := []
                 backlog := ((afterSeq c.lastSeq l).map fun i => { i with twinCopy := t.marks c.writtenSeq i.seq }) ++ m.backlog }
    | none =>
      s.onStream q fun m => { m with shadowKept := [], backlog := (l.map fun i => { i with twinCopy := t == .all }) ++ m.backlog }
  | none => s.onStream q fun m => { m with shadowKept := [], backlog := l ++ m.backlog }

/-- A new deliverer whose promise does not reach across starts a TAKEOVER suspension at its first delivery (R213, R374). -/
def State.takeoverDue (s : State) (exposed : Bool) : State :=
  { s with grizzly.takeoverDue := s.boundD < 500000 || exposed }

/-- A Shadow takes up delivery, before its streams are armed anew (R373, R376); a TAKEOVER suspension where the promise
does not reach across (R213, R374). -/
def State.resumeDelivery (s : State) (t : TwinCopies) (exposed : Bool) : State :=
  let s := (s.setRole roleActive)
  let s := (List.range 64).foldl (State.resumeStream · t) s
  s.takeoverDue exposed

/-- The Active stops delivering: final cursor records with HANDOFF, what is not delivered kept (R375, R376). -/
def State.handDelivery (s : State) : State :=
  let rings := (List.range 64).filter fun n => (s.ring n).enable && (s.streamOn n).isSome
  let s := rings.foldl (fun s n => s.cursorWrite n true) s
  ({ s with streams := vmap s.streams fun _ m =>
      { m with shadowKept := m.shadowKept ++ m.written ++ m.backlog, written := [], backlog := [] } } : State).endHolds

/-- A ring stands at a HANDOFF position (R375, R376). -/
def State.handedOver (s : State) (n : Nat) : Bool :=
  match vget s.twin.cursors n none with
  | some c => c.handoff
  | none => false

/-- The streams on a ring are taken up (R376). -/
def State.takeUpRing (s : State) (t : TwinCopies) (n : Nat) : State :=
  let s := { s with twin.awaitHandoff := s.twin.awaitHandoff &&& ~~~ BitVec.ofNat 64 (2 ^ n) }
  ((List.range 64).filter fun q => s.ringOf q == some n).foldl (State.resumeStream · t) s

/-- Every ring that waits for a HANDOFF is taken up at its last confirmed cursor (R368, R373). -/
def State.takeUpRest (s : State) : State :=
  (bitsOf 64 s.twin.awaitHandoff.toNat).foldl (State.takeUpRing · .written) s

/-- A new Active at the swap epoch: each ring is taken up at its HANDOFF position, at once or when the record arrives
(R376). -/
def State.swapDelivery (s : State) : State :=
  let s := s.setRole roleActive
  let rings := ((List.range 64).filterMap s.ringOf).eraseDups
  let s := rings.foldl (fun s n =>
    if s.handedOver n then s.takeUpRing .none n
    else { s with twin.awaitHandoff := s.twin.awaitHandoff ||| BitVec.ofNat 64 (2 ^ n) }) s
  s.takeoverDue false

/-- A module that delivers no more becomes Shadow, with no cursor of its partner's yet (R376). -/
def State.becomeShadow (s : State) : State :=
  { (s.setRole roleShadow) with twin.cursors := Vector.replicate 64 none, twin.awaitHandoff := 0 }

/-- The role swap on the epoch sample (R376). -/
def State.swapRoles (s : State) : State :=
  if s.role == roleActive then s.handDelivery.becomeShadow else s.swapDelivery

/-- What the epoch of a change does to the roles: swap, detach, attach (R376 to R378). -/
def State.rolesBefore (s : State) : State := if s.modes.swapStaged && s.paired then s.swapRoles else s

/-- Roles after the epoch of a change: a detach parts the pair, an attach completes it (R377, R378). -/
def State.rolesAfter (s : State) (c : Committed) (detach : Bool) : State :=
  if detach then
    if s.role == roleShadow then ((s.endPair roleUnpaired).setFence false)
    else if s.role == roleActive then (s.endPair roleSolo).releaseCursors
    else s
  else if s.role == roleAttaching && c.target == 5 then
    ({ s.becomeShadow with twin.pairState := psExposed, twin.resyncAt := some (s.sv.sidx, s.sv.up) } : State).expectSync
  else if s.role == roleActive && s.twin.pairState == psCopying && captureMode c.target then
    ({ s with twin.pairState := psExposed, twin.resyncAt := some (s.sv.sidx, s.sv.up) } : State).xcSend (.sync s.syncState)
  else s

/-! ## Scheduled epochs -/

/-- The keys of a change set (R21). -/
def State.setKeysOf (s : State) : List Nat :=
  (s.modes.staged.map Prod.fst).filter fun k => k != kModeRequest && k != kEpochAt

/-- The live values once the staged set is in force. -/
def State.liveAfter (s : State) : ObjMap :=
  s.modes.staged.foldl (fun m x => if x.1 == kModeRequest || x.1 == kEpochAt then m else m.write x.1 x.2) s.dict.live

/-- A scheduled epoch takes effect (R26); one into Dormant needs no check (log 33). -/
def State.scheduled (s : State) (c : Committed) : State :=
  let e : AfterEpoch :=
    { number := nextEpochNo s.epochNo, sidx := s.sv.sidx, line := s.lineNo, prevMode := s.mode, prevLive := s.dict.live
      set := s.setKeysOf }
  let hold (s : State) : State :=
    if c.target == 0 then { s with modes.changeState := csApplied } else { s with modes.check := some { e with line := s.lineNo } }
  let detach := s.modes.detachStaged
  let s := s.rolesBefore
  let w : Switch := { aux := 0, mode := c.target, base := c.base, live := s.liveAfter, set := e.set }
  let s := if c.target == 0 then s else { s with modes.check := some e }
  hold (((s.takeSwitch w).dropChange).rolesAfter c detach)

/-- The instant of a committed change (R26, R71, R74, R366); a forced epoch on the same sample prevails (R30). -/
def State.epochInstant (s : State) : State :=
  match s.modes.committed with
  | some c =>
    if s.modes.forced.isNone && s.modes.changeState == csReady && s.reached c.at_ then
      if s.mirrors && s.twin.go != some true then (s.abortChange ceNotReady 0x200).diverge dcEpoch
      else s.scheduled c
    else s
  | none => s

/-- The meaning of EPOCH_INSTANT (R26, R71, R74). -/
def execEpochInstant (s : State) : Host.Outcome State Fault Refusal := ran s s.epochInstant

/-! ## The check and the rollback -/

/-- The check window closes with every unit APPLIED (R28). -/
def State.checkPasses (s : State) : State :=
  ({ s with modes.changeState := csApplied, modes.check := none, twin.shadowApplied := none } : State).writeHeaders

/-- The check fails: the rollback is due, and what lies between is split (R28, R135). -/
def State.checkFails (s : State) (e : AfterEpoch) (mask : BitVec 11) : State :=
  let s := { s with modes.unitMask := mask, modes.refusalCause := ceApplyFailed, modes.check := none
                    modes.rollback := some { e with line := s.lineNo }, modes.splits := (e.sidx, none) :: s.modes.splits
                    twin.shadowApplied := none }
  s.splitWindows.writeHeaders

/-- The check window ends (R28, R72, R366). A Shadow reports and waits for the Active's decision. -/
def State.checkEnds (s : State) (failed : BitVec 11) : State :=
  match s.modes.check with
  | some e =>
    if s.lineNo == e.line then s
    else if s.role == roleShadow && s.partnered then
      if s.twin.shadowApplied.isSome then s
      else ({ s with twin.shadowApplied := some (failed == 0) } : State).xcSend (.shadowApplied (failed == 0))
    else
      let mask := failed ||| (if s.needsShadow && s.twin.shadowApplied == some false then 0x200 else 0)
      let mask := mask ||| (if s.needsShadow && s.twin.shadowApplied.isNone then 0x200 else 0)
      let s := if s.needsShadow then s.xcSend (if mask == 0 then .epochGo else .epochAbort) else s
      if mask == 0 then s.checkPasses else s.checkFails e mask
  | none => s

/-- The meaning of APPLY_CHECK_END (R28, R134, R135). -/
def execApplyCheckEnd (failed : BitVec 11) (s : State) : Host.Outcome State Fault Refusal := ran s (s.checkEnds failed)

/-- Lines from a line, frame · 2^14 + line, to the latest sample's. -/
def State.linesSince (s : State) (line : Nat) : Int :=
  signedOf 24 (s.sv.frame % 2 ^ 24 + 2 ^ 24 - line / 2 ^ 14 % 2 ^ 24) * s.sv.lpf + ((s.sv.line : Int) - (line % 2 ^ 14 : Nat))

/-- The span between a failed epoch and its rollback ends on the latest sample (R28). -/
def State.endSplit (s : State) : State :=
  { s with modes.splits := s.modes.splits.map fun x => if x.2.isNone then (x.1, some s.sv.sidx) else x }

/-- The units of a mask (Table 1.5). -/
def unitsOf (mask : BitVec 11) : List UnitId :=
  [UnitId.surveyor, .probeLinks, .encoders, .shaft, .smelter, .assay, .grizzly, .stockpile, .headframe, .crosscut,
   .foreman].filter fun u => mask.getLsbD (unitBit u)

/-- The live values with those of a failed set as they were before its epoch (R28). -/
def State.rolledBack (s : State) (e : AfterEpoch) : ObjMap :=
  e.set.foldl (fun m k => m.write k (e.prevLive.value k)) s.dict.live

/-- Every unit returns to the configuration before a failed epoch (R28, R29). -/
def State.rollBack (s : State) (e : AfterEpoch) (failed : BitVec 11) : State :=
  let s := if e.prevMode == 5 && s.role == roleActive then s.handDelivery.becomeShadow
    else if captureMode e.prevMode && e.prevMode != 5 && s.role == roleShadow then s.swapDelivery
    else s
  let w : Switch :=
    { aux := 1, failed := e.number, mode := e.prevMode, base := if e.prevMode = 5 then s.twin.peerMode else e.prevMode
      live := s.rolledBack e, set := e.set }
  let s := ({ s with modes.rollback := none } : State).endSplit.takeSwitch w
  let s := { s with modes.changeState := csRolledBack, modes.rollbackCount := inc32 s.modes.rollbackCount }
  if failed == 0 then s
  else ((unitsOf failed).foldl (fun s u => s.fault .isolate .rollbackFailed u) s).leaveMode .fault

/-- The meaning of ROLLBACK_EPOCH: on the first frame start at least 2 ln after the check window (R28, R29). -/
def execRollbackEpoch (failed : BitVec 11) (s : State) : Host.Outcome State Fault Refusal :=
  ran s (
    match s.modes.rollback with
    | some e => if s.sv.frameStart && 2 ≤ s.linesSince e.line then s.rollBack e failed else s
    | none => s)

/-! ## Forced epochs -/

/-- What a forced epoch does to changes in progress (R30; log 33). -/
def State.forceOver (s : State) : State :=
  let s := if s.modes.changeState == csCommitted || s.modes.changeState == csReady then s.abortChange ceForced 0 else s
  ({ s with modes.check := none, modes.rollback := none, modes.forced := none } : State).endSplit

/-- The raster of a new Active: LOCKED on its own loop, or HOLDOVER (R373). -/
def State.takeoverRaster (s : State) : State :=
  if s.sv.lastRefLine.isSome && s.twin.rasterDelta.natAbs ≤ 2 then s else s.enterHoldover lcStep

/-- Decisions made before a takeover drive no output: pulses of the former Active are not completed (R373). -/
def State.dropPulses (s : State) : State := { s with shaft.markers := Vector.replicate 8 {} }

/-- A Shadow becomes Active by forced epoch (R267, R373, R374). -/
def State.takeOver (s : State) (w : Switch) (clean : Bool) : State :=
  let s := s.loseResults.dropPulses
  let exposed := s.twin.pairState == psExposed
  let s := s.resumeDelivery (if exposed then .all else if clean then .none else .written) exposed
  let s := (s.endPair roleActive).takeSwitch w
  let s := { s with twin.takeovers := inc32 s.twin.takeovers, twin.lastTakeover := s.sv.sidx }
  (s.event .takeover .crosscut 0xFF (leBytes 1 w.by_)).takeoverRaster

/-- Every ring of the module's armed streams stands at a HANDOFF position (R375). -/
def State.handoffSeen (s : State) : Bool :=
  s.streams.toList.all fun m =>
    match m.ring with
    | some n => !m.armed || s.handedOver n.val
    | none => true

/-- A forced epoch that has been decided; an Active hands over (R30, R372, R375). -/
def State.forcedEpoch (s : State) (by_ : ForcedBy) (target : Nat) : State :=
  let s := s.forceOver
  let w : Switch :=
    { aux := 2, by_ := forcedCode by_, mode := target, base := target, live := s.dict.live, set := [] }
  if by_ == .takeover then s.takeOver w s.handoffSeen
  else
    let pairs := s.paired || s.mirrors
    let hands := s.paired && s.role == roleActive
    let s := if hands then ({ s with twin.handoff := true } : State).handDelivery else s
    let s := s.takeSwitch w
    let s := if pairs then (s.endPair roleUnpaired).setFence false else s
    if hands then { s with twin.health := 1 } else s

/-- The meaning of FORCED_EPOCH (R30). -/
def execForcedEpoch (s : State) : Host.Outcome State Fault Refusal :=
  ran s (
    match s.modes.forced with
    | some (by_, target) => s.forcedEpoch by_ target
    | none => s)

/-! ## The entry into Ready -/

/-- Every enabled probe link is UP or NO_PARTNER, or 500 ms have passed (R35). -/
def State.linksSettled (s : State) (e : Entry) : Bool :=
  e.linksTimedOut || allLinks.all fun l => !s.linkEnabled l || (s.rx l).state == lsUp || (s.rx l).noPartner

/-- The entry into Ready as an epoch: epoch-zero on the first one (R36), with the check after it (DEDUCED, log 33); a
reference lost in Dormant is logged (R42). -/
def State.enterReady (s : State) : State :=
  let first := !s.modes.zeroDone
  let number := if first then 0 else nextEpochNo s.epochNo
  let live := s.liveAfter
  let prevLive := s.dict.live
  let set := s.setKeysOf
  let old := s.cfg
  let s := if first then { s with sv.sidx := 0, modes.zeroDone := true, modes.epochZeroTime := time96 s.sv.time } else s
  let s := ({ s with modes.entry := none } : State).dropChange
  let s := s.loadSet { aux := 0, mode := 1, base := 1, live, set := [] } number
  let s := if set.any shaftKey then s.shaftEpoch false true else s
  let s := (s.rasterEntry.linksEpoch old).drivePins
  let s := if s.sv.sidxUncertain then s.notice .sidxUncertain .surveyor else s
  let check : AfterEpoch := { number, sidx := s.sv.sidx, line := s.lineNo, prevMode := 0, prevLive, set }
  { s with modes.changeState := csReady, modes.refusalCause := 0, modes.unitMask := 0, modes.check := some check
           power.hbm := .active, sv.sidxUncertain := false }.updateLtr.noteEval

/-- The meaning of READY_ENTRY (R35, R36). -/
def execReadyEntry (missing : BitVec 11) (s : State) : Host.Outcome State Fault Refusal :=
  ran s (
    match s.modes.entry with
    | some e =>
      if e.fabricDone && e.hbmDone && s.sv.pllLocked && s.linksSettled e then
        let mask := s.notReady { target := 1, base := 1, at_ := 0 } missing false
        if mask == 0 then s.enterReady else s.abortEntry ceNotReady mask
      else s
    | none => s)

/-- The first sample of the powered fabric takes every FLAG pin's level at once (R166). -/
def State.readFlags (s : State) : State :=
  { s with shaft.flags := vmap s.shaft.flags fun _ m => { m with level := m.pin, changes := [] } }

/-- The meaning of FABRIC_POWER_UP_DONE: RCAL is measured, PLL lock, HBM training and bring-up begin; or the device
stays in Dormant (R35, R428). -/
def execFabricPowerUpDone (ok : Bool) (rcalOhms : Nat) (s : State) : Host.Outcome State Fault Refusal :=
  ran s (
    match s.modes.entry with
    | some e =>
      if e.fabricDone then s
      else if ok then
        let s := ({ s with power.fabric := true, power.hbm := .training } : State).onEntry fun e => { e with fabricDone := true }
        let s := s.readFlags
        ((s.measureRcal rcalOhms).bringUpLinks.dropCondition .fabricPower .foreman)
      else s.entryFails ceFabric .fabricPower
    | none => s)

/-- The meaning of HBM_TRAINING_DONE (R35). -/
def execHbmTrainingDone (ok : Bool) (s : State) : Host.Outcome State Fault Refusal :=
  ran s (
    match s.modes.entry with
    | some e =>
      if !e.fabricDone || e.hbmDone then s
      else if ok then
        (({ s with power.hbm := .active } : State).onEntry fun e => { e with hbmDone := true }).dropCondition .hbmTrain .foreman
      else s.entryFails ceHbm .hbmTrain
    | none => s)

/-- The meaning of READY_ENTRY_LINK_TIMEOUT (R35; log 17). -/
def execReadyEntryLinkTimeout (s : State) : Host.Outcome State Fault Refusal :=
  ran s (s.onEntry fun e => if e.fabricDone then { e with linksTimedOut := true } else e)

/-- Nothing keeps the HBM out of self-refresh (R13). -/
def State.hbmIdle (s : State) : Bool :=
  !s.owes && s.streams.toList.all (fun m => m.shadowKept.isEmpty) && s.grizzly.rdState != rdRunning

/-- The meaning of HBM_SELF_REFRESH_ENTRY (R13; log 17). -/
def execHbmSelfRefreshEntry (s : State) : Host.Outcome State Fault Refusal :=
  ran s (if s.mode == 1 && s.power.hbm == .active && s.hbmIdle then { s with power.hbm := .selfRefresh } else s)

end Sys2Proof.Machine
end

