-- ==== Sys2Proof/Machine/Foreman.lean ====
section
/-! DEFINITION. The Foreman: sensors and their limits (R382 to R384, R436), the throttle (R437), handling of faults
(R386 to R390), the flash log (R393, R394). -/

namespace Sys2Proof.Machine

/-! ## Sensors -/

/-- Samples in a row outside the limits that raise (R383). -/
def outMax : Nat := 3

/-- Samples in a row inside WARN_LO to WARN_HI that end a warning (R383). -/
def inMax : Nat := 1000

/-- Samples in a row at or above 98 °C that engage the throttle (R437). -/
def hotMax : Nat := 10

/-- A binary32 not-a-number. -/
def f32Nan (w : Word) : Bool := 0x7F800000 < w.toNat % 2 ^ 31

/-- What the Foreman takes from a sensor: nothing when its self-check failed or it reads NaN (R382). -/
def readingOf (r : Option Word) : Option Word := r.filter fun w => !f32Nan w

/-- The smaller or larger of the extreme so far and a reading. -/
def extreme (low : Bool) (old : Option Word) (w : Word) : Option Word :=
  match old with
  | some v => some (if f32Ge v w == low then w else v)
  | none => some w

/-- A reading beside the warning limits: outside, the runs of samples (R383). -/
def Sensor.take (m : Sensor) (w lo hi : Word) : Sensor :=
  let outside := !(f32Ge w lo && f32Ge hi w)
  { m with reading := some w, minSeen := extreme true m.minSeen w, maxSeen := extreme false m.maxSeen w
           outRun := if outside then m.outRun + 1 else 0, inRun := if outside then 0 else m.inRun + 1 }

/-- The fixed limits of a sensor: the largest binary32 value below them and the smallest above (R383). Sensor 0 is VIN
with 4.5 V and 18.5 V; sensors 10 to 14 are the rails at 5 %. -/
def fixedLow (n : Nat) (w : Word) : Bool :=
  match n with
  | 0 => !f32Ge w 0x40900000
  | 10 => f32Ge 0x3F366666 w
  | 11 => f32Ge 0x3F85C28F w
  | 12 => f32Ge 0x3F5AE147 w
  | 13 => f32Ge 0x4048A3D7 w
  | 14 => f32Ge 0x3FDAE147 w
  | _ => false

def fixedHigh (n : Nat) (w : Word) : Bool :=
  match n with
  | 0 => !f32Ge 0x41940000 w
  | 10 => f32Ge w 0x3F49999A
  | 11 => f32Ge w 0x3F93D70B
  | 12 => f32Ge w 0x3F71EB86
  | 13 => f32Ge w 0x405DC290
  | 14 => f32Ge w 0x3FF1EB86
  | _ => false

/-- The consumer of a rail (Table 13.1; log 35). -/
def railUnit (n : Nat) : UnitId :=
  match n with
  | 10 => .encoders
  | 11 => .stockpile
  | 12 => .probeLinks
  | _ => .foreman

def State.sensor (s : State) (n : Nat) : Sensor := vget s.fm.sensors n {}

def State.onSensor (s : State) (n : Nat) (f : Sensor → Sensor) : State := { s with fm.sensors := vmod s.fm.sensors n f }

/-- The run of samples beyond the fixed limits: low or high on VIN, either on a rail (R383). -/
def nextLimits (n : Nat) (w : Word) (run : Nat × Nat) : Nat × Nat :=
  if n = 0 then (if fixedHigh n w then run.1 + 1 else 0, if fixedLow n w then run.2 + 1 else 0)
  else (if fixedHigh n w || fixedLow n w then run.1 + 1 else 0, 0)

/-- The rail and VIN limits on a reading (R383). -/
def State.fixedLimits (s : State) (n : Nat) (w : Word) : State :=
  let run := nextLimits n w (s.sensor n).limitRun
  let s := s.onSensor n fun m => { m with limitRun := run }
  let detail := leBytes 4 w.toNat
  let s :=
    if n = 0 then
      if run.1 = outMax then s.fault .degrade .vinHigh .foreman n detail
      else if run.1 = 0 then s.dropCondition .vinHigh .foreman n else s
    else if 10 ≤ n then
      if run.1 = outMax then s.fault .degrade .railTolerance (railUnit n) n detail
      else if run.1 = 0 then s.dropCondition .railTolerance (railUnit n) n else s
    else s
  if run.2 = outMax then s.fault .notice .vinLow .foreman n detail else s

/-- The warning limits on a reading (R383). -/
def State.warnLimits (s : State) (n : Nat) (w : Word) : State :=
  let s := s.onSensor n fun m =>
    m.take w (BitVec.ofNat 32 (s.cfg (0x3010 + n) 1)) (BitVec.ofNat 32 (s.cfg (0x3010 + n) 2))
  let m := s.sensor n
  let detail := leBytes 4 w.toNat
  if !m.warned && m.outRun = outMax then
    (s.onSensor n fun m => { m with warned := true }).fault .notice .sensorWarn .foreman n detail
  else if m.warned && m.inRun = inMax then
    (s.onSensor n fun m => { m with warned := false }).notice .sensorClear .foreman n detail
  else s

/-- One reading (R382, R383). A sensor that fails counts neither as inside nor as outside (log 35). -/
def State.takeReading (s : State) (n : Nat) (r : Option Word) : State :=
  match r with
  | some w => ((s.warnLimits n w).fixedLimits n w).dropCondition .sensorFail .foreman n
  | none =>
    let failed := (s.sensor n).reading.isNone
    let s := s.onSensor n fun m => { m with reading := none, outRun := 0, inRun := 0, limitRun := (0, 0) }
    if failed then s else s.fault .degrade .sensorFail .foreman n

/-- The highest of two readings. -/
def f32Max (a b : Option Word) : Option Word :=
  match a, b with
  | some v, some w => some (if f32Ge v w then v else w)
  | some v, none => some v
  | none, b => b

/-- JUNCTION_MAX: the highest of sensors 3 to 6 that read (R382). -/
def State.junctionMax (s : State) : Option Word :=
  f32Max (f32Max (s.sensor 3).reading (s.sensor 4).reading) (f32Max (s.sensor 5).reading (s.sensor 6).reading)

/-- The junction thresholds (R384). -/
def State.junctionLimits (s : State) : State :=
  let s := { s with fm.junction := s.junctionMax }
  let s := { s with fm.hotRun := if s.junctionGe 0x42C40000 then s.fm.hotRun + 1 else 0 }
  let s := if s.tooHot && !s.fm.thermal then ({ s with fm.thermal := true } : State).fault .degrade .thermal .foreman else s
  if s.junctionGe 0x42D20000 then
    if s.fm.thermalLimit then s else ({ s with fm.thermalLimit := true } : State).fault .handover .thermalLimit .foreman
  else { s with fm.thermalLimit := false }

/-- HBM_HOT at or above 95 °C (R436). -/
def State.hbmLimit (s : State) (stack : Nat) : State :=
  match (s.sensor (7 + stack)).reading with
  | some w =>
    if f32Ge w 0x42BE0000 && !s.fm.hbmHot.getLsbD stack then
      ({ s with fm.hbmHot := s.fm.hbmHot ||| BitVec.ofNat 2 (2 ^ stack) } : State).fault .degrade .hbmHot .stockpile stack
        (leBytes 4 w.toNat)
    else s
  | none => s

/-- The sensors once a millisecond, in order of their numbers (R382). -/
def State.sampleSensors (s : State) (readings : List (Option Word)) : State :=
  let s := (List.range sensorCount).foldl (fun s n => s.takeReading n (readingOf (readings.getD n none))) s
  (s.junctionLimits.hbmLimit 0).hbmLimit 1

/-- The meaning of SENSOR_SAMPLE (R382 to R384, R436). -/
def execSensorSample (readings : List (Option Word)) (s : State) : Host.Outcome State Fault Refusal :=
  if readings.length = sensorCount then ran s (if s.foremanRuns then s.sampleSensors readings else s)
  else .fault .illFormed

/-- The meaning of THERMAL_CLEAR: after 1 s below 97 °C (R384; log 17). -/
def execThermalClear (s : State) : Host.Outcome State Fault Refusal :=
  ran s (
    if s.fm.thermal && !s.junctionGe 0x42C20000 then
      ({ s with fm.thermal := false } : State).dropCondition .thermal .foreman
    else s)

/-- The meaning of HBM_HOT_CLEAR: after 1 s below 90 °C (R436; log 17). -/
def execHbmHotClear (stack : Fin 2) (s : State) : Host.Outcome State Fault Refusal :=
  ran s (
    match (s.sensor (7 + stack.val)).reading with
    | some w =>
      if s.fm.hbmHot.getLsbD stack.val && !f32Ge w 0x42B40000 then
        ({ s with fm.hbmHot := s.fm.hbmHot &&& ~~~(BitVec.ofNat 2 (2 ^ stack.val)) } : State).dropCondition .hbmHot .stockpile
          stack.val
      else s
    | none => s)

/-- The meaning of THROTTLE_ENGAGE (R437). -/
def execThrottleEngage (s : State) : Host.Outcome State Fault Refusal :=
  ran s (
    if hotMax ≤ s.fm.hotRun && !s.fm.throttle then
      ({ s with fm.throttle := true, fm.throttleEntries := inc32 s.fm.throttleEntries } : State).event .throttle .foreman
    else s)

/-- The meaning of THROTTLE_RELEASE: after 1 s below 95 °C (R437; log 17). -/
def execThrottleRelease (s : State) : Host.Outcome State Fault Refusal :=
  ran s (if s.fm.throttle && !s.junctionGe 0x42BE0000 then { s with fm.throttle := false } else s)

/-! ## Faults handled -/

/-- The meaning of FAULT_RAISE (R385 to R387); class EVENT is never queued. -/
def execFaultRaise (f : FaultReq) (byHandler : Bool) (s : State) : Host.Outcome State Fault Refusal :=
  ran s (
    let s := if f.code == .headframeParity then s.aerError .pf0 .internal else s
    if f.cls == .event then s.event f.code f.unit f.inst f.detail else s.raiseFault f byHandler)

/-- Who decides the forced epoch of a Handover fault (R30). -/
def handoverBy (code : EvCode) : ForcedBy :=
  match code with
  | .thermalLimit => .thermal
  | .watchdog => .watchdog
  | _ => .fault

/-- Leaving the mode under a Handover fault; FAULT_N when Solo (Table 13.2, R390). -/
def State.handoverActs (s : State) (by_ : ForcedBy) : State :=
  let solo := !s.paired && s.leaveTarget.isSome
  let s := s.leaveMode by_
  if solo then s.assertFaultN else s

/-- The actions of a class (Table 13.2, R388). -/
def State.classActs (s : State) (f : Faulted) : State :=
  match f.req.cls with
  | .event | .notice => s
  | .degrade => if f.req.code == .skipPointer then s.dropCondition f.req.code f.req.unit f.req.inst else s
  | .isolate =>
    let s := { s with fm.isolateHeld := true }
    let s := if f.stopped then s else s.isolateBlock f.req.unit f.req.inst
    let s := if f.req.code == .voteSplit then s.settleVotes else s
    s.raiseVector .pf0 faultVector
  | .handover => (s.handoverActs (handoverBy f.req.code)).raiseVector .pf0 faultVector

/-- The condition of a fault has ended before the handler takes it (R386). -/
def State.faultOver (s : State) (f : Faulted) : Bool :=
  f.req.cls == .degrade && !s.fm.conditions.contains { code := f.req.code, unit := f.req.unit, inst := f.req.inst }

/-- Faults lost while the queue was full are reported once it has room (R387). -/
def State.noteLost (s : State) : State :=
  if s.fm.lostUnreported = 0 || faultQueueMax ≤ s.fm.faults.length then s
  else ({ s with fm.lostUnreported := 0 } : State).notice .faultQueueLost .foreman 0xFF (leBytes 4 s.fm.lostUnreported)

/-- The handler takes the next fault of the queue. -/
def State.nextFault (s : State) : State :=
  match s.fm.faults with
  | f :: l => { s with fm.handling := some f, fm.faults := l }
  | [] => { s with fm.handling := none }

/-- The cores restart after a trip: WATCHDOG first, then the faults not yet handled (R389). -/
def State.restartCores (s : State) : State :=
  let s := { s with fm.restarting := false }
  let s := (s.holdCages foremanSides false).report .watchdog .handover .foreman 0xFF []
  (s.raiseVector .pf0 faultVector).nextFault

/-- One fault is handled: its entry, the actions of its class, then the next (R386 to R388). -/
def State.handleFault (s : State) : State :=
  if s.fm.restarting then s.restartCores
  else
    match s.fm.handling with
    | none => s.nextFault
    | some f =>
      let s := s.noteLost.report f.req.code f.req.cls f.req.unit f.req.inst f.req.detail (s.faultOver f) (some f.at_)
      (s.classActs f).nextFault

/-- The meaning of FAULT_HANDLE (R386 to R390). -/
def execFaultHandle (s : State) : Host.Outcome State Fault Refusal :=
  ran s (if s.power.phase == .running then s.handleFault else s)

/-- The watchdog resets the Foreman cores: the fault being handled goes back to the queue, the Foreman's cage sides and
claims are reset, its open transfers end, and the mode is left (R389, R341, R347, Table 1.8; log 36). -/
def State.watchdogTrip (s : State) : State :=
  let s := match s.fm.handling with
    | some f => ({ s with fm.handling := none } : State).requeueFront f
    | none => s
  let s := { s with fm.tripDue := none, fm.restarting := true, fm.watchdogTrips := inc32 s.fm.watchdogTrips
                    fm.challenge := none, dict.canA.transfers := [], dict.canB.transfers := [] }
  let s := ((s.resetCages foremanSides).holdCages foremanSides true).dropClaims .foreman
  s.handoverActs .watchdog

/-- The cause of a trip holds: the intake has decided the two that it sees (R386, R387); the others come from the
cores. -/
def State.tripCause (s : State) (cause : WatchdogCause) : Bool :=
  match cause with
  | .notServiced | .lockstep => true
  | .handlerFault | .queueFull => s.fm.tripDue == some cause

/-- The meaning of FOREMAN_WATCHDOG_TRIP (R389). -/
def execForemanWatchdogTrip (cause : WatchdogCause) (s : State) : Host.Outcome State Fault Refusal :=
  ran s (if s.foremanRuns && s.tripCause cause then s.watchdogTrip else s)

/-- A FAULT_ACK write (R390). -/
def State.faultAck (s : State) : Taken := taken { s with fm.isolateHeld := false }

/-! ## The flash log -/

/-- Entries of a 64 KiB sector, and the most that the ring holds when a sector is begun: all but the one written and the
one ahead of it, of 512 (R393). -/
def sectorEntries : Nat := 1024
def logKept : Nat := 522240

/-- The sector ahead of the write position is erased with its oldest entries (R393). -/
def eraseAhead (l : List LogEntry) : List LogEntry :=
  if l.length % sectorEntries = 0 && logKept < l.length then l.drop sectorEntries else l

/-- One waiting entry is programmed, its commit word last (R393). -/
def State.commitEntry (s : State) : State :=
  match s.fm.toLog with
  | e :: l =>
    { s with fm.toLog := l, nv.log := eraseAhead (s.nv.log ++ [e]), nv.logNext := (e.seq + 1) % 2 ^ 32 }
  | [] => s

/-- The meaning of LOG_ENTRY_COMMIT (R393). -/
def execLogEntryCommit (s : State) : Host.Outcome State Fault Refusal :=
  ran s (if s.power.phase == .off || s.power.phase == .factoryTest then s else s.commitEntry)

/-- A LOG_CLEAR write (R393). -/
def State.logClear (s : State) : Taken :=
  taken { s with nv.log := [], nv.logNext := 0, fm.entrySeq := 0, fm.toLog := [] }

/-- LOG_OLDEST (Table 13.10). -/
def State.logOldest (s : State) : Nat := (s.nv.log.head?.map LogEntry.seq).getD 0

/-- Entries of a LOG_BLOCK (R394). -/
def logBlockEntries : Nat := 64

/-- A read of LOG_BLOCK: committed entries from LOG_READ_AT upward, which then advances (R394). -/
def State.readLog (s : State) : List Byte × State :=
  let l := (s.nv.log.filter fun e => s.cfg 0x3100 4 ≤ e.seq).take logBlockEntries
  let bytes := (l.map LogEntry.bytes).flatten
  let s := match l.getLast? with
    | some e => { s with dict.live := s.dict.live.write (key 0x3100 4) ((e.seq + 1) % 2 ^ 32) }
    | none => s
  (bytes ++ List.replicate (64 * logBlockEntries - bytes.length) 0, s)

end Sys2Proof.Machine
end

