-- ==== Sys2Proof/Machine/Power.lean ====
section
/-! DEFINITION. Power, boot and resets of the whole module: power-on and module reset (R32 to R37, R424, Table 1.8),
the power-fail detector (R395 to R397), what boot loads, logs and starts (R313, R317, R398, R400, R403, R405, R409,
R35). -/

namespace Sys2Proof.Machine

/-! ## Power-on and module reset -/

/-- Everything volatile at its reset value; flash and one-time-programmable memory, the straps and the level of PERST_N
stay; pins that were driven return to their reset levels (Table 1.8, R357, R390). -/
def State.cold (s : State) (phase : Phase) : State :=
  let t : State :=
    { power := { phase, nodeId := s.power.nodeId, twinSel := s.power.twinSel, perst := s.power.perst }
      nv := s.nv, sent := s.sent, free := s.free, pending := s.pending }
  let t := if s.power.faultN then t.send (.pin "FAULT_N" true) else t
  let t := if s.twin.fenceOut then t.send (.pin "FENCE_OUT" false) else t
  if s.power.ppsOut then t.send (.pin "PPS_OUT" false) else t

/-- The module reset (R33, R37, Table 1.8): the Foreman boots again. -/
def State.moduleReset (s : State) : State := s.cold .booting

/-- The straps as they stand when the rails are good (R34). -/
def State.sampleStraps (s : State) (nodeId : BitVec 7) (twinSel : Bool) : State :=
  { s with power.nodeId := nodeId, power.twinSel := twinSel }

/-- The meaning of POWER_ON: VIN rises through 4.5 V on an unpowered module (R32, R34, R418). -/
def execPowerOn (nodeId : BitVec 7) (twinSel dncTied : Bool) (s : State) : Host.Outcome State Fault Refusal :=
  ran s (
    if s.power.phase == .off then (s.cold (if dncTied then .factoryTest else .booting)).sampleStraps nodeId twinSel else s)

/-- RESET_N acts: it is ignored without power and after a power-fail detection (R424; log 36). -/
def State.resetWorks (s : State) : Bool :=
  s.power.phase == .booting || s.power.phase == .running || s.power.phase == .heldInReset

/-- The meaning of RESET_N_ASSERT: 13 oscillator periods reset the module (R37). -/
def execResetNAssert (periods : Nat) (s : State) : Host.Outcome State Fault Refusal :=
  ran s (if resetFilter ≤ periods && s.resetWorks then s.cold .heldInReset else s)

/-- The meaning of RESET_N_RELEASE: straps are sampled and the Foreman boots (R34, R66). -/
def execResetNRelease (nodeId : BitVec 7) (twinSel : Bool) (s : State) : Host.Outcome State Fault Refusal :=
  ran s (if s.power.phase == .heldInReset then (s.cold .booting).sampleStraps nodeId twinSel else s)

/-- The meaning of LIFE_CYCLE_SELF_RESET (R406). -/
def execLifeCycleSelfReset (s : State) : Host.Outcome State Fault Refusal :=
  ran s (if s.fm.selfReset then s.moduleReset else s)

/-! ## Power failure -/

/-- The detail of the last-breath record (R397). -/
def State.breathDetail (s : State) : List Byte :=
  leBytes 8 (s.queued + s.heldBytes) ++ leBytes 8 (maskOf 64 fun q => (s.stream q).armed) ++ leBytes 4 s.boundD

/-- The last-breath record of the latest sample (R397). -/
def State.lastBreath (s : State) : LogEntry :=
  { seq := s.fm.entrySeq, code := .powerFail, cls := .event, unit := .foreman, sidx := s.sv.sidx
    time96 := time96 s.sv.time, epoch := s.epochNo, mode := s.mode, inst := 0xFF, flags := 0, reps := 0
    detail := s.breathDetail }

/-- The Foreman's work after a detection: the entry in progress completes, then the last-breath record; a Foreman that
does not run writes none (R396, R397). -/
def State.breathe (s : State) : State :=
  if s.foremanRuns then
    let b : Breath := { entry := s.lastBreath, used := false }
    { s.commitEntry with nv.breath := some b, nv.breathless := false }
  else if captureMode s.mode then { s with nv.breathless := true }
  else s

/-- Power is removed from everything but the Foreman domain; stores, updates and commits in progress are abandoned
(R395, R396). -/
def State.shed (s : State) : State :=
  { s.setFence false with
    power.phase := .shed, power.fabric := false, power.hbm := .off, sv.pllLocked := false, sv.dllState := 0
    modes.forced := none, modes.entry := none
    links := Vector.replicate 48 {}, xc := Vector.replicate 4 {}, seams := Vector.replicate 48 {}, closing := []
    streams := Vector.replicate 64 {}, shaft := {}, grizzly := {}, smelter := {}, slots := Vector.replicate 32 {}
    hf := {}, twin.pairState := psNone, twin.lanesUp := 0, dict.storing := none, fm.toLog := []
    fm.useCommitting := none }

/-- The detector fires (R395 to R397); it has fired already in the shed state (R424). -/
def State.powerFail (s : State) : State := if s.resetWorks then s.breathe.shed else s

/-- The meaning of POWER_FAIL_DETECT: PFAIL_N for 100 ns or VIN below 4.2 V act alike (R395, R424). -/
def execPowerFailDetect (cause : PowerFailCause) (s : State) : Host.Outcome State Fault Refusal :=
  match cause with
  | .pfailN => ran s s.powerFail
  | .vinLow => ran s s.powerFail

/-- The meaning of POWER_FAIL_RELEASE: the module reset (R424). -/
def execPowerFailRelease (s : State) : Host.Outcome State Fault Refusal :=
  ran s (if s.power.phase == .shed then s.moduleReset else s)

/-- The meaning of FOREMAN_BROWNOUT: below 3.0 V nothing has power; a loss without a record is remembered by what boot
finds (R398, R424). -/
def execForemanBrownout (s : State) : Host.Outcome State Fault Refusal :=
  ran s (
    let s := if s.power.phase == .running && captureMode s.mode then { s with nv.breathless := true } else s
    s.cold .off)

/-! ## The TAP -/

/-- EXTEST or CLAMP hands the pins to the TAP: outside Dormant the probe links and Crosscut lanes in UP lose their
signal and the PCIe link goes down (R434). The table has no command of the TAP, so a host reaches this through
SIGNAL_LOST and DL_DOWN (log 54). -/
def State.tapTakesPins (s : State) : State :=
  if s.mode == 0 || !s.powered then s
  else
    let up := (allLinks ++ allLanes).filter fun l => (s.rx l).state == lsUp
    (up.foldl State.signalLost s).fundamental

/-! ## The image that boots -/

/-- The boot ROM accepts a slot: committed, not a trial that ran out, and passing R401 (R32, R403, R404). -/
def Nv.bootable (n : Nv) (m : ImageSlot) : Bool :=
  m.generation.isSome && (m.trial == 255 || m.trial < 2) && m.valid &&
    (m.signed || (n.lifeCycle == lcBlank && !n.sigCheck)) && n.svnMin ≤ m.svn

/-- The slots, the newer committed one first. -/
def Nv.bootOrder (n : Nv) : List (Fin 2) :=
  if (n.slots[0].generation).getD 0 < (n.slots[1].generation).getD 0 then [1, 0] else [0, 1]

/-- The slot that boots (R32). -/
def Nv.bootChoice (n : Nv) : Option (Fin 2) := n.bootOrder.find? fun i => n.bootable n.slots[i]

/-- The trial count of a slot that starts unconfirmed (R403). -/
def ImageSlot.start (m : ImageSlot) : ImageSlot := if m.trial = 255 then m else { m with trial := m.trial + 1 }

/-- The newer committed slot was skipped (R403). -/
def Nv.reverts (n : Nv) (i : Fin 2) : Bool :=
  match n.bootOrder with
  | j :: _ => j != i && n.slots[j].generation.isSome
  | [] => false

/-- DICT_VERSION of the running image (Table 10.6). -/
def State.dictVersion (s : State) : Nat :=
  let m := s.nv.slots[s.fm.bootSlot]
  if m.bytes.isEmpty then Config.factoryDictVersion else m.dictVersion

/-! ## What boot logs -/

/-- An entry that a boot makes (R398). -/
def State.bootEntry (s : State) (code : EvCode) (cls : FaultClass) (unit : UnitId) (inst : Nat) (detail : List Byte)
    (at_ : Occurrence) : State :=
  let (e, s) := s.makeEntry code cls unit inst detail 0 true false (some at_)
  s.enqueueB (.entry e)

/-- The occurrence that an entry shows. -/
def LogEntry.occurrence (e : LogEntry) : Occurrence :=
  { sidx := e.sidx, time96 := e.time96, epoch := e.epoch, mode := e.mode }

/-- The values of the missing record are not stated: free values (log 5). -/
def State.freeDetail (s : State) : List Byte × State :=
  let (a, s) := s.takeFree
  let (b, s) := s.takeFree
  let (c, s) := s.takeFree
  (leBytes 8 a ++ leBytes 8 b ++ leBytes 4 c, s)

/-- POWER_LOSS after a power loss in a capture mode (R398, Table 13.5). -/
def State.notePowerLoss (s : State) : State :=
  match s.nv.breath with
  | some b =>
    if !b.used && captureMode b.entry.mode then
      s.bootEntry .powerLoss .notice .foreman 0xFF (b.entry.detail ++ [1]) b.entry.occurrence
    else if s.nv.breathless then
      let (d, s) := s.freeDetail
      s.bootEntry .powerLoss .notice .foreman 0xFF (d ++ [0])
        ((s.nv.log.getLast?.map LogEntry.occurrence).getD s.occurrence)
    else s
  | none =>
    if s.nv.breathless then
      let (d, s) := s.freeDetail
      s.bootEntry .powerLoss .notice .foreman 0xFF (d ++ [0])
        ((s.nv.log.getLast?.map LogEntry.occurrence).getD s.occurrence)
    else s

/-- The runs whose DROPPED_START has no DROPPED_END (R398). -/
def openRuns : List LogEntry → List LogEntry
  | [] => []
  | e :: l =>
    let after := l.takeWhile fun x => !(x.code == .droppedStart && x.inst == e.inst)
    if e.code == .droppedStart && !(after.any fun x => x.code == .droppedEnd && x.inst == e.inst) then e :: openRuns l
    else openRuns l

/-- The open runs are closed (Table 13.5). -/
def State.closeRuns (s : State) : State :=
  (openRuns s.nv.log).foldl
    (fun s e => s.bootEntry .droppedEnd .notice .grizzly e.inst (leBytes 1 e.inst ++ List.replicate 20 0xFF) e.occurrence) s

/-- The entries of Table 13.5; the record is then used (R398). -/
def State.bootLog (s : State) : State :=
  let s := s.notePowerLoss.closeRuns
  { s with nv.breathless := false, nv.breath := s.nv.breath.map fun b => { b with used := true } }

/-! ## The stored dictionary -/

/-- Bytes of the value of an object that a record may hold: RWS and RWA (R310). -/
def storable (k : Nat) : Option Row :=
  (objectRow (k / 256) (k % 256)).filter fun r => r.acc == .rws || (r.acc == .rwa && !r.imm)

/-- A record's value lies in the object's range. -/
def Row.accepts (r : Row) (v : Nat) : Bool := r.ty.valueOk (leBytes r.ty.bytes v) && r.ok v

/-- A stored string ends at its first zero byte and holds printable characters before it (Table 10.1). -/
def storedOk (r : Row) (v : Nat) : Bool :=
  match r.ty with
  | .str n => Ty.valueOk (.str n) ((leBytes n v).takeWhile (· != 0))
  | _ => r.accepts v

/-- One record loaded: RWS values are applied, RWA values are staged, others skipped; a value out of range is replaced
by the default (R313). -/
def State.loadRecord (s : State) (k v : Nat) : State :=
  match storable k with
  | none => s
  | some r =>
    let good := storedOk r v
    let w := if good then v else defaultOf k
    let s := if good then s else s.notice .storeValueReplaced .foreman 0xFF (leBytes 2 (k / 256) ++ leBytes 1 (k % 256))
    if r.acc == .rws then { s with dict.live := s.dict.live.write k w }
    else { s with modes.staged := s.modes.staged.put k w }

/-- The area that boot loads, and STORE_SOURCE: the higher generation, else the other, else none (R313). -/
def Nv.bootArea (n : Nv) : Option DictArea × Nat :=
  let g (a : Option DictArea) : Nat := (a.map DictArea.generation).getD 0
  let newer := if g n.areas[0] < g n.areas[1] then n.areas[1] else n.areas[0]
  let older := if g n.areas[0] < g n.areas[1] then n.areas[0] else n.areas[1]
  match newer.filter DictArea.good, older.filter DictArea.good with
  | some a, _ => (some a, 1)
  | none, some a => (some a, 2)
  | none, none => (none, 0)

/-- The stored dictionary at boot (R313). -/
def State.loadStored (s : State) : State :=
  let (area, source) := s.nv.bootArea
  let s := { s with dict.storeSource := source }
  match area with
  | some a => a.records.foldl (fun s x => s.loadRecord x.1 x.2) s
  | none => s.notice .storeLost .foreman

/-! ## Boot completes -/

/-- A CAN port that is enabled in the configuration in force (R315, R316). -/
def State.canOn (s : State) (p : CanPort) : Bool :=
  match p with
  | .a => s.dict.canInForce.1.testBit 0
  | .b => s.dict.canInForce.1.testBit 1

def State.can (s : State) : CanPort → Can
  | .a => s.dict.canA
  | .b => s.dict.canB

def State.onCan (s : State) (p : CanPort) (f : Can → Can) : State :=
  match p with
  | .a => { s with dict.canA := f s.dict.canA }
  | .b => { s with dict.canB := f s.dict.canB }

/-- Lengths of a CAN FD frame. -/
def canLengths : List Nat := [0, 1, 2, 3, 4, 5, 6, 7, 8, 12, 16, 20, 24, 32, 48, 64]

/-- A frame padded with zero bytes to the smallest CAN FD length that holds it (R318). -/
def canPad (l : List Byte) : List Byte :=
  l ++ List.replicate (((canLengths.find? (l.length ≤ ·)).getD 64) - l.length) 0

/-- Error states of ISO 11898-1: BUS_OFF above 255 transmit errors until recovery, PASSIVE above 127 of either kind
(R317; log 39). -/
def Can.confine (c : Can) : Can :=
  if c.errorState = 2 then c
  else if 255 < c.tec then { c with errorState := 2, busOff := inc32 c.busOff }
  else { c with errorState := if 127 < c.tec || 127 < c.rec_ then 1 else 0 }

/-- A frame sent on a port; with NODE_ID 0 a port only listens (R316). -/
def State.sendCan (s : State) (p : CanPort) (id : Nat) (brs : Bool) (bytes : List Byte) : State :=
  if s.canOn p && s.power.nodeId != 0 && (s.can p).errorState != 2 then
    (s.onCan p fun c => ({ c with txFrames := inc64 c.txFrames, tec := c.tec - 1 } : Can).confine).send
      (.canFrame p (id + s.power.nodeId.toNat) brs (canPad bytes))
  else s

/-- The announce frame (R317). -/
def State.announceBytes (s : State) : List Byte :=
  leBytes 1 1 ++ leBytes 1 s.mode ++ leBytes 2 s.dictVersion ++ leBytes 4 s.nv.part.1

/-- Every enabled Crosscut lane starts its bring-up with TWIN_SEL 1 (R358, Table 1.7). -/
def State.bringUpLanes (s : State) : State :=
  if s.power.twinSel then
    allLanes.foldl (fun s l => if s.linkEnabled l then s.rxSearch l 0 else s) { s with twin.pairState := psTraining }
  else s

/-- XC_LANE_ENABLE and the fence pins in force (R380). -/
def State.setXcLanes (s : State) : State :=
  { s with regs.lanes := .all (BitVec.ofNat 52 (s.regs.lanes.value.toNat % 2 ^ 48 + s.cfg 0x2D00 5 % 16 * 2 ^ 48))
           twin.fencePins := (s.cfg 0x2D00 3, s.cfg 0x2D00 4) }

/-- The volatile state that boot sets up before Dormant (R33, R391, R405, R409). -/
def State.bootState (s : State) : State :=
  let s := { s with fm.lifeCycle := .all s.nv.lifeCycle, fm.entrySeq := s.nv.logNext, power.phase := .running
                    power.bootUp := s.sv.up, hf.ready := true }
  let s := s.bootLog
  if s.nv.lifeCycle == lcReturn && !s.nv.returnDone then s.returnWipe else s

/-- Both slots failed: no mode is entered (R32, R390). -/
def State.recoveryBoot (s : State) : State :=
  (({ s.bootState with power.recovery := true } : State).setMode 0xFF).assertFaultN

/-- Dormant is entered after boot from a slot (R33, R313, R317, R400, R35). Whether an announce frame switches its bit
rate is not stated: a free value (log 5). -/
def State.enterDormant (s : State) (i : Fin 2) : State :=
  let reverted := s.nv.reverts i
  let s := { s with fm.bootSlot := i, nv.slots := s.nv.slots.set i s.nv.slots[i].start }
  let s := s.bootState
  let s := if reverted then s.notice .updateReverted .foreman else s
  let s := s.loadStored
  let s := { s with dict.canInForce := (s.cfg 0x1090 1, s.cfg 0x1090 2), hf.subsys := (s.cfg 0x1000 0x0B, s.cfg 0x1000 0x0C) }
  let s := (s.reserveUse (s.nv.useValue + 1)).setXcLanes.bringUpLanes
  let s := s.noteEval
  let (f, s) := s.takeFree
  let s := s.sendCan .a 0x280 (f.testBit 0) s.announceBytes
  let s := s.sendCan .b 0x280 (f.testBit 1) s.announceBytes
  if s.cfgOn 0x2000 0x0D then s.startEntry true
  else if s.modes.staged.isEmpty then s else { s with modes.changeState := csStaged }

/-- Boot completes (R32, R33). -/
def State.bootComplete (s : State) : State :=
  match s.nv.bootChoice with
  | some i => s.enterDormant i
  | none => s.recoveryBoot

/-- The meaning of BOOT_COMPLETE (R32, R33). -/
def execBootComplete (s : State) : Host.Outcome State Fault Refusal :=
  ran s (if s.power.phase == .booting then s.bootComplete else s)

/-! ## The sample PLL -/

/-- The meaning of SAMPLE_PLL_LOCK (R41, R35). -/
def execSamplePllLock (s : State) : Host.Outcome State Fault Refusal :=
  ran s (
    if s.power.fabric && !s.sv.pllLocked && !s.sv.refLost then { s with sv.pllLocked := true } else s)

/-- The meaning of SAMPLE_PLL_NO_LOCK: the move to Ready fails with FABRIC_POWER and a Degrade fault (R41). -/
def execSamplePllNoLock (s : State) : Host.Outcome State Fault Refusal :=
  ran s (
    match s.modes.entry with
    | some e => if e.fabricDone && !s.sv.pllLocked then s.entryFails ceFabric .fabricPower else s
    | none => s)

end Sys2Proof.Machine
end

