-- ==== Sys2Proof/Machine/Dict.lean ====
section
/-! DEFINITION. The object dictionary: the checks of Table 10.2, reads of live, staged and status values, writes with
the rules of each object, the store command (R303 to R313, R327, R329, R330), and the commands that are writes or reads of
one object. -/

namespace Sys2Proof.Machine

/-! ## Checks in the order of Table 10.2 -/

/-- The key store area (Table 10.7). -/
def keyArea (index : Nat) : Bool := within 0x3F00 0x3FFF index

/-- The secure path: the PF1 window and the Foreman itself (R327). -/
def secureVia (via : Path) : Bool := via == .pf1 || via == .foreman

/-- The module's own CAN ports and PCIe functions (R330). -/
def ownVia (via : Path) : Bool := via == .pf0 || via == .pf1 || via == .canA || via == .canB

/-- The checks NO_OBJECT to WRITE_ONLY (Table 10.2), 0 when they pass. -/
def accessCode (via : Path) (index sub : Nat) (write : Bool) : Nat :=
  match objectRow index sub with
  | none => if keyArea index || indexKnown index then abNoSubindex else abNoObject
  | some r =>
    if (keyArea index || r.acc.secure) && !secureVia via then abSecureOnly
    else if write && !r.acc.writable then abReadOnly
    else if !write && !r.acc.readable then abWriteOnly
    else 0

/-- Writes that the life-cycle state forbids (R406, R407, R411, Tables 13.9, 13.10). -/
def State.lifeForbids (s : State) (index sub : Nat) (data : List Byte) : Bool :=
  let lc := s.lifeCycle
  let v := leNat data
  if keyArea index then lc == lcReturn
  else if index = 0x2000 && sub = 2 then lc == lcReturn && captureMode v
  else if index = 0x1100 then
    match sub with
    | 2 => lc != lcBlank || s.fm.selfReset || data.length != 97 || data.head? != some 4
    | 4 => lc != lcProvisioned || s.fm.selfReset || data.length != 4 || v != lcAdvanceMagic
    | 6 => lc != lcProvisioned
    | 7 => !(lc == lcProvisioned || lc == lcField) || s.fm.selfReset
    | 8 => lc != lcBlank && data.length == 1 && v == 0
    | _ => false
  else false

/-- ROLE_SWAP and DETACH (R376, R377). -/
def pairOrder (index sub : Nat) : Bool := index == 0x2D00 && (sub == 6 || sub == 7)

/-- Writes that R330 and R376 reserve to the Active module. -/
def activeOnly (r : Row) (index sub : Nat) : Bool :=
  (pairWide index sub && (r.acc == .rwa || r.acc == .rws)) || key index sub == kModeRequest || key index sub == kEpochAt ||
  (index == 0x2000 && sub == 4) || (index == 0x2100 && (sub == 0x13 || sub == 0x14))

/-- TWIN_MANAGED (R330, R331, R376, R377). -/
def State.twinManaged (s : State) (via : Path) (r : Row) (index sub : Nat) : Bool :=
  s.mirrors && (pairOrder index sub || (ownVia via && activeOnly r index sub) || (via == .twin && pairWide index sub))

/-- The mode by which R306 judges a write: the Active's for a partner write on the Shadow (R331). -/
def State.writeMode (s : State) (via : Path) : Nat := if via == .twin && s.mirrors then s.twin.peerMode else s.mode

/-- The mode lets an RWA object be written (R306). -/
def State.modeLets (s : State) (via : Path) : Bool :=
  let m := s.writeMode via
  m == 0 || m == 1 || m == 7 || ((m == 2 || m == 3 || m == 4) && captureMode s.modeRequest)

/-- A staged set is frozen (R21). -/
def State.stageFrozen (s : State) : Bool := s.modes.changeState == csCommitted || s.modes.changeState == csReady

/-- The checks LIFE_CYCLE to LENGTH of a write (Table 10.2). -/
def State.gateCode (s : State) (via : Path) (r : Row) (index sub : Nat) (data : List Byte) : Nat :=
  let staged := r.staged (key index sub)
  if s.lifeForbids index sub data then abLifeCycle
  else if s.twinManaged via r index sub then abTwinManaged
  else if staged && r.acc == .rwa && !s.modeLets via then abModeState
  else if (staged || pairOrder index sub) && s.stageFrozen then abStageFrozen
  else if !r.ty.lengthOk data.length then abLength
  else 0

/-- The checks LIFE_CYCLE to VALUE_RANGE of a write (Table 10.2). -/
def State.writeCode (s : State) (via : Path) (r : Row) (index sub : Nat) (data : List Byte) : Nat :=
  if s.gateCode via r index sub data != 0 then s.gateCode via r index sub data
  else if !(r.ty.valueOk data && r.ok (leNat data)) then abValueRange
  else 0

/-! ## Staging -/

/-- Something is staged: CHANGE_STATE reads STAGED unless a change is under way (R18, R21). -/
def State.noteStaged (s : State) : State :=
  if s.stageFrozen || (s.modes.staged.isEmpty && !s.modes.swapStaged && !s.modes.detachStaged) then s
  else { s with modes.changeState := csStaged }

/-- The Active forwards a staged write to the Shadow (R329). -/
def State.forward (s : State) (index sub : Nat) (data : List Byte) : State :=
  if s.needsShadow then s.xcSend (.forwardWrite index sub data) else s

/-- A staged write (R21, R329); MODE_REQUEST 0xFF and EPOCH_AT all ones ask for nothing. -/
def State.stage (s : State) (index sub : Nat) (data : List Byte) : State :=
  let k := key index sub
  let v := leNat data
  let none_ := (k == kModeRequest && v == 0xFF) || (k == kEpochAt && v == 0xFFFFFFFFFFFFFFFF)
  let s := { s with modes.staged := if none_ then s.modes.staged.drop k else s.modes.staged.put k v }
  (if pairWide index sub then s.forward index sub data else s).noteStaged

/-- A ROLE_SWAP write (R376). -/
def State.roleSwapWrite (s : State) : Taken :=
  if s.twin.pairState != psLockstep then refuse abBusy s
  else taken ((({ s with modes.swapStaged := true } : State).forward 0x2D00 6 [1]).noteStaged)

/-- A DETACH write: on the Active of a pair (R377; log 37). -/
def State.detachWrite (s : State) : Taken :=
  if !s.paired then refuse abBusy s
  else taken ((({ s with modes.detachStaged := true } : State).forward 0x2D00 7 (leBytes 2 0x4454)).noteStaged)

/-! ## The store -/

/-- Every key of a row. -/
def Row.keys (r : Row) : List Nat :=
  (List.range r.count).flatMap fun i => (List.range r.nsub).map fun j => key (r.base + i) (r.sub + j)

/-- The records of a store: every RWS object, and every RWA object when STORE_CONFIG is 1 (R310). -/
def State.snapshot (s : State) : List (Nat × Nat) :=
  let rows := objectRows.filter fun r => r.acc == .rws || (r.acc == .rwa && !r.imm && s.cfgOn 0x1080 2)
  (rows.flatMap Row.keys).map fun k => (k, s.dict.live.value k)

/-- The generation of a committed area, 0 for none (R311). -/
def areaGeneration (a : Option DictArea) : Nat := ((a.filter DictArea.good).map DictArea.generation).getD 0

/-- STORE_GENERATION (Table 10.6). -/
def State.storeGeneration (s : State) : Nat := max (areaGeneration s.nv.areas[0]) (areaGeneration s.nv.areas[1])

/-- The area that does not hold the newest committed image (R311). -/
def State.storeTarget (s : State) : Fin 2 := if areaGeneration s.nv.areas[0] < areaGeneration s.nv.areas[1] then 0
  else if (areaGeneration s.nv.areas[0]) = 0 then 0 else 1

/-- A store of some records begins: the area is no longer committed until the commit word is written (R310, R311). -/
def State.startStore (s : State) (records : List (Nat × Nat)) : Taken :=
  if s.dict.storeState == 1 || s.fm.updateState == usCommitting then refuse abBusy s
  else
    let a : DictArea := { generation := s.storeGeneration + 1, good := false, records }
    taken { s with dict.storeState := 1, dict.storing := some records, nv.areas := s.nv.areas.set s.storeTarget (some a) }

/-- A STORE_CMD write of a listed code (R310, R312). -/
def State.storeCmd (s : State) (v : Nat) : Taken := s.startStore (if v = 0x5354 then s.snapshot else [])

/-- The commit word of a store is written, or the store fails with a Notice (R311). -/
def State.storeEnds (s : State) (ok : Bool) : State :=
  match s.dict.storing with
  | none => s
  | some _ =>
    let s := { s with dict.storing := none }
    if ok then
      let a := s.nv.areas[s.storeTarget].map fun a => { a with good := true }
      { s with dict.storeState := 2, nv.areas := s.nv.areas.set s.storeTarget a }
    else ({ s with dict.storeState := 3 } : State).fault .notice .storeFailed .foreman

/-! ## Writes -/

/-- A live value written at once. -/
def State.writeLive (s : State) (index sub v : Nat) : State :=
  { s with dict.live := s.dict.live.write (key index sub) v }

/-- A PPS_OUT_MODE write: OFF holds the output low (R70). -/
def State.ppsOutModeWrite (s : State) (v : Nat) : State :=
  let s := s.writeLive 0x2100 0x12 v
  if v = 0 then s.setPpsOut false else s

/-- Writes of the service, mode and time objects with rules of their own. -/
def State.applyService (s : State) (index sub : Nat) (data : List Byte) : Option Taken :=
  let v := leNat data
  match index, sub with
  | 0x1080, 1 => some (s.storeCmd v)
  | 0x1100, 2 => some (s.ownerKeyWrite data)
  | 0x1100, 4 => some (s.lcAdvanceWrite v)
  | 0x1100, 6 => some (s.debugAuth data)
  | 0x1100, 7 => some (s.lcReturnWrite data)
  | 0x1100, 8 => some (s.sigCheckWrite v)
  | 0x2000, 4 => some (taken (if v = 1 then s.commit else s.cancel))
  | 0x2000, 0x0E => some (taken s)
  | 0x2100, 0x12 => some (taken (s.ppsOutModeWrite v))
  | 0x2100, 0x13 => some (s.setTimeOfDay v)
  | 0x2100, 0x14 => some (s.setTime v)
  | 0x3100, 6 => some s.logClear
  | 0x3100, 9 => some s.faultAck
  | 0x3200, 1 => some (s.updateCmd v)
  | 0x3200, 3 => some (s.updateDataWrite data)
  | 0x3F00, 1 => some (s.keyLoad data)
  | 0x3F00, 2 => some (s.keyErase v)
  | 0x3F00, 4 => some s.useReset
  | _, _ => none

/-- Writes of the capture, delivery and pair objects with rules of their own. -/
def State.applyUnit (s : State) (index sub : Nat) (data : List Byte) : Option Taken :=
  let v := leNat data
  match index, sub with
  | 0x2600, 7 => some (s.segRelease v)
  | 0x27A0, 1 => some (s.calStart v)
  | 0x2810, 2 => some (if s.rdRingOk v then taken (s.writeLive index sub v) else refuse abValueRange s)
  | 0x2810, 3 => some (if v = 1 then s.rdStart else s.rdStop)
  | 0x2D00, 6 => some s.roleSwapWrite
  | 0x2D00, 7 => some s.detachWrite
  | _, _ =>
    if within 0x2200 0x222F index then
      match sub with
      | 7 => some (s.queueHost (index - 0x2200) data)
      | 8 => some (taken (s.onLink (index - 0x2200) Link.clearCounters))
      | _ => none
    else none

/-- A write that has passed Table 10.2 up to VALUE_RANGE: staged, or by the object's own rules, or live at once
(R305, R306). -/
def State.applyWrite (s : State) (r : Row) (index sub : Nat) (data : List Byte) : Taken :=
  if r.staged (key index sub) then taken (s.stage index sub data)
  else
    match s.applyService index sub data with
    | some t => t
    | none =>
      match s.applyUnit index sub data with
      | some t => t
      | none => taken (s.writeLive index sub (leNat data))

/-- A write, checked in the order of Table 10.2 (R305): its abort code, 0 when taken, and the state. A refused write
leaves the objects and the staged set unchanged. -/
def State.dictWrite (s : State) (via : Path) (index sub : Nat) (data : List Byte) : Taken :=
  if accessCode via index sub true != 0 then refuse (accessCode via index sub true) s
  else
    match objectRow index sub with
    | none => refuse abNoObject s
    | some r =>
      if s.writeCode via r index sub data != 0 then refuse (s.writeCode via r index sub data) s
      else s.applyWrite r index sub data

/-- The checks up to LENGTH of a write whose bytes have not arrived (R319); the first byte of an owner key stands for
itself. -/
def State.announceCode (s : State) (via : Path) (index sub len : Nat) : Nat :=
  if accessCode via index sub true != 0 then accessCode via index sub true
  else
    match objectRow index sub with
    | none => abNoObject
    | some r => s.gateCode via r index sub ((4 :: List.replicate len 0).take len)

/-- A MODULE_RESET that was taken: the request completes before the reset begins (R307). -/
def State.finish (s : State) (index sub code : Nat) : State :=
  if index = 0x2000 && sub = 0x0E && code = 0 then s.moduleReset else s

/-! ## Reads -/

/-- Status of a link or lane (Table 3.12, R380). -/
def Link.status (m : Link) (sub : Nat) : Nat :=
  match sub with
  | 0x10 => m.state
  | 0x11 => bit m.noPartner
  | 0x12 => m.cause
  | 0x13 => bit m.rxInverted
  | 0x14 => bit m.precodeRx
  | 0x15 => bit m.precodeTx
  | 0x16 => m.portId
  | 0x17 => m.feStatus.toNat
  | 0x18 => m.arrivalPhase
  | 0x19 => bit m.testLock
  | 0x1A => m.frames
  | 0x1B => m.preFec
  | 0x1C => m.postFec
  | 0x1D => m.uncorrectable
  | 0x1E => leNat (m.fecHist.toList.flatMap (leBytes 4))
  | 0x1F => m.seqErrors
  | 0x20 => m.fineOverflows
  | 0x21 => m.fineInvalid
  | 0x22 => m.lockLosses
  | 0x23 => m.trainFails
  | 0x24 => m.prbsBits
  | 0x25 => m.prbsErrors
  | 0x26 => m.prbsResync
  | 0x27 => m.loopSlips
  | 0x28 => m.feMsgTimeouts
  | _ => m.miswired

/-- Status of 0x2000 (Table 1.2). -/
def State.modeStatus (s : State) (sub : Nat) : Nat :=
  match sub with
  | 1 => s.mode
  | 5 => s.epochNo
  | 6 => s.modes.changeState
  | 7 => s.modes.refusalCause
  | 8 => s.modes.unitMask.toNat
  | 9 => s.modes.epochSidx
  | 0x0A => s.modes.epochZeroTime
  | 0x0B => s.modes.abortCount
  | _ => s.modes.rollbackCount

/-- Status of 0x2101 (Table 2.6). -/
def Surveyor.status (v : Surveyor) (sub posNow : Nat) : Nat :=
  match sub with
  | 0x01 => v.state
  | 0x02 => v.lockCause
  | 0x03 => v.measuredLines
  | 0x04 => v.measuredLinePeriod
  | 0x05 => v.inc
  | 0x06 => ofI32 v.phaseError
  | 0x07 => posNow
  | 0x08 => v.sidx
  | 0x09 => time96 v.time
  | 0x0A => v.timeState
  | 0x0B => v.sampleClock
  | 0x0C => v.dllState
  | 0x0D => v.relockCount
  | 0x0E => v.holdoverSmp
  | 0x0F => v.syncRejects
  | 0x10 => v.syncMissing
  | 0x11 => v.trsErrors
  | 0x12 => ofI32 v.ppsError
  | 0x13 => v.ppsRejects
  | _ => v.governorClamps

/-- Status of a seam (Table 4.11). -/
def Seam.status (m : Seam) (sub : Nat) : Nat :=
  match sub with
  | 0x10 => m.ingotsSample
  | 0x11 => m.ingotsTransition
  | 0x12 => m.gapSmp
  | _ => m.frameCuts

/-- Status of the Shaft (Table 5.7). -/
def State.shaftStatus (s : State) (sub : Nat) : Nat :=
  match sub with
  | 0x10 => s.shaft.level
  | 0x11 => bit s.shaft.storage
  | 0x12 => s.shaft.triggers
  | 0x13 => s.shaft.retriggers
  | 0x14 => s.shaft.deadTriggers
  | 0x15 => s.deadSamples
  | 0x16 => leNat ((List.range 64).map fun g => BitVec.ofNat 8 (s.segment g).code)
  | _ => s.shaft.partnerMissing

/-- Status of the Grizzly (Table 6.6). -/
def State.grizzlyStatus (s : State) (sub : Nat) : Nat :=
  match sub with
  | 0x01 => s.drainMeasured
  | 0x02 => s.drainMean
  | 0x03 => s.drainC100 / 100
  | 0x04 => s.grizzly.g
  | 0x05 => s.grizzly.floor.value.1
  | 0x06 => s.grizzly.floor.value.2
  | 0x07 => s.committedBytes
  | 0x08 => s.heldBytes
  | 0x09 => maskOf 64 s.suspended
  | 0x0A => s.grizzly.suspendCause
  | 0x0B => s.grizzly.demoted.toNat
  | 0x0C => s.grizzly.refusedIngots
  | 0x0D => s.grizzly.backlogFullGaps
  | 0x0E => s.grizzly.lateIngots
  | 0x0F => s.grizzly.droppedIngots
  | 0x10 => s.grizzly.ringTooSmall
  | 0x11 => s.grizzly.eccCorrected
  | 0x12 => s.grizzly.eccUncorrectable
  | _ => s.grizzly.classBDropped

/-- Status of a stream (Tables 4.12, 6.7). -/
def Stream.status (m : Stream) (held : Bool) (sub : Nat) : Nat :=
  match sub with
  | 0x04 => m.nextSeq
  | 0x05 => m.ingots
  | 0x20 => m.admitted
  | 0x21 => m.refused
  | _ => bit held

/-- Status of the Smelter (Table 7.10). -/
def Smelter.status (m : Smelter) (sub : Nat) : Nat :=
  match sub with
  | 0x10 => m.outputFull
  | 0x11 => m.bytesIn
  | 0x12 => m.bytesOut
  | 0x13 => m.storedBlocks
  | 0x14 => m.use
  | 0x15 => m.jobsDone
  | 0x16 => m.jobsFailed
  | _ => leNat (m.jobErrors.toList.flatMap (leBytes 4))

/-- Status of the pair (Table 12.6). -/
def State.twinStatus (s : State) (sub : Nat) : Nat :=
  match sub with
  | 0x01 => s.role
  | 0x02 => s.twin.pairState
  | 0x03 => s.twin.pairCause
  | 0x04 => s.twin.partnerSerial
  | 0x05 => s.twin.partnerFw
  | 0x06 => s.twin.lanesUp.toNat
  | 0x07 => ofI32 s.twin.phaseError
  | 0x08 => ofI32 s.twin.rasterDelta
  | 0x09 => s.twin.divergeCause
  | 0x0A => s.twin.divergences
  | 0x0B => s.twin.beatsMissed
  | 0x0C => s.twin.takeovers
  | 0x0D => s.twin.lastTakeover
  | 0x0E => s.twin.blocksLost
  | _ => s.twin.confirmWaitMax

/-- ISOLATED: the units with an isolated block (R388, Table 13.10; log 38). -/
def State.isolatedMask (s : State) : Nat :=
  s.fm.isolated.toNat ||| (if s.fm.isolatedLinks.toNat % 2 ^ 48 = 0 then 0 else 2) |||
  (if s.fm.isolatedLinks.toNat / 2 ^ 48 = 0 then 0 else 0x200) ||| (if s.fm.isolatedSlots = 0 then 0 else 0x20)

/-- Status of the log and the faults (Table 13.10). -/
def State.logStatus (s : State) (sub : Nat) : Nat :=
  match sub with
  | 2 => s.logOldest
  | 3 => s.fm.entrySeq
  | 8 => leNat ((Config.codeName (s.cfg 0x3100 7) ++ List.replicate 32 0).take 32)
  | 0x0A => s.fm.faults.length
  | 0x0B => s.fm.faultsLost
  | 0x0C => s.fm.watchdogTrips
  | _ => s.isolatedMask

/-- Status of firmware and update (Table 13.10). -/
def State.updateStatus (s : State) (sub : Nat) : Nat :=
  match sub with
  | 4 => s.fm.updateState
  | 5 => s.fm.updateCause
  | 6 => s.nv.slots[0].fwVersion + s.nv.slots[1].fwVersion * 2 ^ 32
  | _ => s.nv.slots[0].trial + s.nv.slots[1].trial * 256

/-- Status of identity and service (Table 10.6). -/
def State.identityStatus (s : State) (sub : Nat) : Nat :=
  match sub with
  | 1 => leNat ("Brivitu".toList.map fun c => BitVec.ofNat 8 c.toNat)
  | 2 => leNat ("Alanor DV768".toList.map fun c => BitVec.ofNat 8 c.toNat)
  | 3 => leNat ("ALN-DV768-M45".toList.map fun c => BitVec.ofNat 8 c.toNat)
  | 4 => s.nv.part.1
  | 5 => s.nv.part.2.1
  | 6 => s.nv.part.2.2
  | 7 => s.nv.slots[s.fm.bootSlot].fwVersion
  | 8 => s.fm.bootSlot.val
  | 9 => s.power.nodeId.toNat
  | 0x0A => bit s.power.twinSel
  | _ => (s.sv.up - s.power.bootUp) / second

/-- Status of the store (Table 10.6). -/
def State.storeStatus (s : State) (sub : Nat) : Nat :=
  match sub with
  | 3 => s.dict.storeState
  | 4 => s.storeGeneration
  | 5 => s.dict.storeSource
  | _ => s.dictVersion

/-- Status of a CAN port (Table 10.6). -/
def Can.status (c : Can) (sub : Nat) : Nat :=
  match sub with
  | 1 => c.rxFrames
  | 2 => c.txFrames
  | 3 => c.ignored
  | 4 => c.abortsSent
  | 5 => c.restarts
  | 6 => c.busOff
  | _ => c.errorState

/-- Status of the window (Table 10.6). -/
def State.winStatus (s : State) (sub : Nat) : Nat :=
  match sub with
  | 1 => s.dict.winRequests
  | 2 => s.dict.winFaults
  | _ => s.dict.partnerRequests

/-- Life cycle and security status (Table 13.10). -/
def State.securityStatus (s : State) (sub : Nat) : Nat :=
  match sub with
  | 1 => s.lifeCycle
  | 3 => s.nv.ownerHash
  | 9 => s.nv.svnMin
  | 0x0A => bit s.fm.debugOpen
  | 0x0B => bit s.evaluated
  | 0x0C => s.evalBits.toNat
  | _ => s.twin.peerTrust

/-- Status of the endpoint (Table 9.11). -/
def State.hostStatus (s : State) (sub : Nat) : Nat :=
  match sub with
  | 0x10 => s.hf.speed
  | 0x11 => s.hf.width
  | 0x12 => s.hf.recoveries
  | 0x13 => s.hf.widthChanges
  | _ => s.ideSecure

/-- Status of the readout (Table 6.8). -/
def State.readoutStatus (s : State) (sub : Nat) : Nat :=
  match sub with
  | 4 => s.grizzly.rdState
  | 5 => s.grizzly.rdBytes
  | _ => leNat (s.segHeader (s.cfg 0x2810 1))

/-- Extremes, JUNCTION_MAX and the throttle (Tables 13.10, 14.12). -/
def State.sensorStatus (s : State) (sub : Nat) : Nat :=
  match sub with
  | 0x10 => (s.fm.junction.getD 0x42D20000).toNat
  | 0x11 => bit s.fm.throttle
  | _ => s.fm.throttleEntries

/-- Status of the Assay slots (Table 8.6). -/
def Slot.status (m : Slot) (sub : Nat) : Nat :=
  match sub with
  | 0x20 => m.results
  | 0x21 => m.mismatches
  | _ => m.nextSeq

/-- The number that a status object reads, over all tables. -/
def State.status (s : State) (index sub : Nat) : Nat :=
  if index = 0x1000 then s.identityStatus sub
  else if index = 0x1080 then s.storeStatus sub
  else if index = 0x1091 then s.dict.canA.status sub
  else if index = 0x1092 then s.dict.canB.status sub
  else if index = 0x10A0 then s.winStatus sub
  else if index = 0x1100 then s.securityStatus sub
  else if index = 0x2000 then s.modeStatus sub
  else if index = 0x2101 then s.sv.status sub (packPos s.posNow)
  else if within 0x2200 0x222F index then (s.link (index - 0x2200)).status sub
  else if within 0x2400 0x242F index then (s.seam (index - 0x2400)).status sub
  else if index = 0x2600 then s.shaftStatus sub
  else if within 0x2668 0x2677 index then
    let c := vget s.shaft.counters (index - 0x2668) {}
    c.value + bit c.overflow * 2 ^ 63
  else if within 0x2678 0x267F index then (vget s.shaft.timers (index - 0x2678) {}).value
  else if within 0x2700 0x2727 index then
    let m := s.extLine (index - 0x2700)
    if sub = 0x10 then m.overrate else if sub = 0x11 then m.narrow else bit m.stuck
  else if within 0x2760 0x278B index then vget s.shaft.dnlMax (index - 0x2760) 0
  else if index = 0x27A0 then (if sub = 4 then s.shaft.calState else s.shaft.calFail.toNat)
  else if index = 0x2801 then s.grizzlyStatus sub
  else if index = 0x2810 then s.readoutStatus sub
  else if within 0x2840 0x287F index then (s.stream (index - 0x2840)).status (s.heldNow (index - 0x2840)) sub
  else if index = 0x2A00 then s.smelter.status sub
  else if within 0x2B10 0x2B2F index then (s.slot (index - 0x2B10)).status sub
  else if index = 0x2C00 then s.hostStatus sub
  else if index = 0x2D01 then s.twinStatus sub
  else if within 0x2D10 0x2D13 index then (vget s.xc (index - 0x2D10) {}).status sub
  else if index = 0x3000 then s.sensorStatus sub
  else if within 0x3010 0x301E index then
    let m := s.sensor (index - 0x3010)
    ((if sub = 3 then m.minSeen else m.maxSeen).getD 0).toNat
  else if index = 0x3100 then s.logStatus sub
  else s.updateStatus sub

/-- A NaN of a sensor whose self-check failed: which one is not stated, so it is free (R382; log 5). -/
def nanOf (free : Nat) : Nat := 0x7F800001 + free % 0x7FFFFF

/-- A sensor's reading (R382). -/
def State.readSensor (s : State) (n : Nat) : List Byte × State :=
  match (s.sensor n).reading with
  | some w => (leBytes 4 w.toNat, s)
  | none =>
    let (f, s) := s.takeFree
    (leBytes 4 (nanOf f), s)

/-- LC_CHALLENGE read without a nonce from outside: a free nonce (R407; log 5). -/
def State.readChallenge (s : State) : List Byte × State :=
  let (f, s) := s.takeFree
  s.issueChallenge (leBytes 32 f)

/-- The value of a configuration object: staged when it is staged, else live (R21); SIG_CHECK is held in one-time
memory. -/
def State.configValue (s : State) (index sub : Nat) : Nat :=
  if index = 0x1100 && sub = 8 then bit s.nv.sigCheck else s.next index sub

/-- The bytes that a read of an implemented object returns (R304, R308), and the state: reads of LOG_BLOCK and
LC_CHALLENGE change it. -/
def State.readObject (s : State) (r : Row) (index sub : Nat) : List Byte × State :=
  if sub = 0 then (leBytes 1 (highestSub index), s)
  else if index = 0x3100 && sub = 5 then s.readLog
  else if index = 0x1100 && sub = 5 then s.readChallenge
  else if index = 0x3F00 && sub = 3 then (s.nv.keyList, s)
  else if index = 0x3000 && sub ≤ 15 then s.readSensor (sub - 1)
  else if r.acc == .ro then (leBytes r.ty.bytes (s.status index sub), s)
  else (leBytes r.ty.bytes (s.configValue index sub), s)

/-- A read, checked in the order of Table 10.2 (R305): abort code, data, state. The key store is closed in RETURN
(Table 13.9). -/
def State.dictRead (s : State) (via : Path) (index sub : Nat) : Nat × List Byte × State :=
  if accessCode via index sub false != 0 then (accessCode via index sub false, [], s)
  else if keyArea index && s.lifeCycle == lcReturn then (abLifeCycle, [], s)
  else
    match objectRow index sub with
    | none => (abNoObject, [], s)
    | some r =>
      let (b, t) := s.readObject r index sub
      (0, b, t)

/-! ## The commands -/

/-- A write request on the dictionary service, answered to its requester (R305, R307). -/
def State.request (s : State) (via : Path) (index sub : Nat) (data : List Byte) : State :=
  if s.foremanRuns then
    let t := s.dictWrite via index sub data
    (t.2.send (.dictReply via index sub t.1 [])).finish index sub t.1
  else s

/-- A read request on the dictionary service. -/
def State.readRequest (s : State) (via : Path) (index sub : Nat) : State :=
  if s.foremanRuns then
    let (c, b, t) := s.dictRead via index sub
    t.send (.dictReply via index sub c b)
  else s

/-- The meaning of DICT_READ (R305, R308). -/
def execDictRead (via : Path) (index sub : Nat) (s : State) : Host.Outcome State Fault Refusal :=
  ran s (s.readRequest via index sub)

/-- The meaning of DICT_WRITE (R305, R308). -/
def execDictWrite (via : Path) (index sub : Nat) (data : List Byte) (s : State) : Host.Outcome State Fault Refusal :=
  ran s (s.request via index sub data)

/-- The meaning of STAGED_OBJECT_WRITE (R306). -/
def execStagedObjectWrite (via : Path) (index sub : Nat) (data : List Byte) (s : State) :
    Host.Outcome State Fault Refusal := ran s (s.request via index sub data)

/-- The meaning of MODULE_RESET (R33, R307). -/
def execModuleReset (via : Path) (data : List Byte) (s : State) : Host.Outcome State Fault Refusal :=
  ran s (s.request via 0x2000 0x0E data)

/-- The meaning of COMMIT (R22). -/
def execCommit (via : Path) (s : State) : Host.Outcome State Fault Refusal := ran s (s.request via 0x2000 4 [1])

/-- The meaning of CANCEL (R21). -/
def execCancel (via : Path) (s : State) : Host.Outcome State Fault Refusal := ran s (s.request via 0x2000 4 [0])

/-- The meaning of TIME_OF_DAY (R67). -/
def execTimeOfDay (via : Path) (data : List Byte) (s : State) : Host.Outcome State Fault Refusal :=
  ran s (s.request via 0x2100 0x13 data)

/-- The meaning of TIME_SET (R67). -/
def execTimeSet (via : Path) (data : List Byte) (s : State) : Host.Outcome State Fault Refusal :=
  ran s (s.request via 0x2100 0x14 data)

/-- The meaning of FE_MESSAGE (R92). -/
def execFeMessage (via : Path) (n : Fin 48) (data : List Byte) (s : State) : Host.Outcome State Fault Refusal :=
  ran s (s.request via (0x2200 + n.val) 7 data)

/-- The meaning of COUNTER_CLEAR (Table 3.11). -/
def execCounterClear (via : Path) (n : Fin 48) (data : List Byte) (s : State) : Host.Outcome State Fault Refusal :=
  ran s (s.request via (0x2200 + n.val) 8 data)

/-- The meaning of SEG_RELEASE (R186, R220). -/
def execSegRelease (via : Path) (data : List Byte) (s : State) : Host.Outcome State Fault Refusal :=
  ran s (s.request via 0x2600 7 data)

/-- The meaning of CAL_START (R165). -/
def execCalStart (via : Path) (data : List Byte) (s : State) : Host.Outcome State Fault Refusal :=
  ran s (s.request via 0x27A0 1 data)

/-- The meaning of RD_START (R219). -/
def execRdStart (via : Path) (s : State) : Host.Outcome State Fault Refusal := ran s (s.request via 0x2810 3 [1])

/-- The meaning of RD_STOP (R220). -/
def execRdStop (via : Path) (s : State) : Host.Outcome State Fault Refusal := ran s (s.request via 0x2810 3 [0])

/-- The meaning of STORE (R310). -/
def execStore (via : Path) (s : State) : Host.Outcome State Fault Refusal := ran s (s.request via 0x1080 1 (leBytes 2 0x5354))

/-- The meaning of STORE_ERASE (R312). -/
def execStoreErase (via : Path) (s : State) : Host.Outcome State Fault Refusal :=
  ran s (s.request via 0x1080 1 (leBytes 2 0x4446))

/-- The meaning of STORE_COMMIT_DONE (R311). -/
def execStoreCommitDone (ok : Bool) (s : State) : Host.Outcome State Fault Refusal := ran s (s.storeEnds ok)

/-- The meaning of ROLE_SWAP (R376). -/
def execRoleSwap (via : Path) (data : List Byte) (s : State) : Host.Outcome State Fault Refusal :=
  ran s (s.request via 0x2D00 6 data)

/-- The meaning of DETACH (R377). -/
def execDetach (via : Path) (data : List Byte) (s : State) : Host.Outcome State Fault Refusal :=
  ran s (s.request via 0x2D00 7 data)

/-- The meaning of FAULT_ACK (R390). -/
def execFaultAck (via : Path) (data : List Byte) (s : State) : Host.Outcome State Fault Refusal :=
  ran s (s.request via 0x3100 9 data)

/-- The meaning of LOG_READ_AT (R394). -/
def execLogReadAt (via : Path) (data : List Byte) (s : State) : Host.Outcome State Fault Refusal :=
  ran s (s.request via 0x3100 4 data)

/-- The meaning of LOG_CLEAR (R393). -/
def execLogClear (via : Path) (data : List Byte) (s : State) : Host.Outcome State Fault Refusal :=
  ran s (s.request via 0x3100 6 data)

/-- The meaning of UPDATE_BEGIN (R402). -/
def execUpdateBegin (via : Path) (s : State) : Host.Outcome State Fault Refusal :=
  ran s (s.request via 0x3200 1 (leBytes 2 0x4247))

/-- The meaning of UPDATE_DATA (R402). -/
def execUpdateData (via : Path) (data : List Byte) (s : State) : Host.Outcome State Fault Refusal :=
  ran s (s.request via 0x3200 3 data)

/-- The meaning of UPDATE_VERIFY (R402). -/
def execUpdateVerify (via : Path) (s : State) : Host.Outcome State Fault Refusal :=
  ran s (s.request via 0x3200 1 (leBytes 2 0x5646))

/-- The meaning of UPDATE_COMMIT (R402). -/
def execUpdateCommit (via : Path) (s : State) : Host.Outcome State Fault Refusal :=
  ran s (s.request via 0x3200 1 (leBytes 2 0x434D))

/-- The meaning of UPDATE_ABORT (R402). -/
def execUpdateAbort (via : Path) (s : State) : Host.Outcome State Fault Refusal :=
  ran s (s.request via 0x3200 1 (leBytes 2 0x4142))

/-- The meaning of UPDATE_CONFIRM (R403). -/
def execUpdateConfirm (via : Path) (s : State) : Host.Outcome State Fault Refusal :=
  ran s (s.request via 0x3200 1 (leBytes 2 0x4346))

/-- The meaning of OWNER_KEY (R406). -/
def execOwnerKey (via : Path) (data : List Byte) (s : State) : Host.Outcome State Fault Refusal :=
  ran s (s.request via 0x1100 2 data)

/-- The meaning of LC_ADVANCE (R406). -/
def execLcAdvance (via : Path) (data : List Byte) (s : State) : Host.Outcome State Fault Refusal :=
  ran s (s.request via 0x1100 4 data)

/-- The meaning of LC_CHALLENGE: a read that issues a challenge with the nonce given (R407). -/
def execLcChallenge (via : Path) (nonce : List Byte) (s : State) : Host.Outcome State Fault Refusal :=
  ran s (
    if s.foremanRuns then
      let (b, t) := s.issueChallenge nonce
      t.send (.dictReply via 0x1100 5 0 b)
    else s)

/-- The meaning of LC_DEBUG_AUTH (R407). -/
def execLcDebugAuth (via : Path) (data : List Byte) (s : State) : Host.Outcome State Fault Refusal :=
  ran s (s.request via 0x1100 6 data)

/-- The meaning of LC_RETURN (R408). -/
def execLcReturn (via : Path) (data : List Byte) (s : State) : Host.Outcome State Fault Refusal :=
  ran s (s.request via 0x1100 7 data)

/-- The meaning of KEY_LOAD (R411). -/
def execKeyLoad (via : Path) (data : List Byte) (s : State) : Host.Outcome State Fault Refusal :=
  ran s (s.request via 0x3F00 1 data)

/-- The meaning of KEY_ERASE (R411). -/
def execKeyErase (via : Path) (data : List Byte) (s : State) : Host.Outcome State Fault Refusal :=
  ran s (s.request via 0x3F00 2 data)

/-- The meaning of USE_RESET (R412). -/
def execUseReset (via : Path) (data : List Byte) (s : State) : Host.Outcome State Fault Refusal :=
  ran s (s.request via 0x3F00 4 data)

end Sys2Proof.Machine
end

