-- ==== Sys2Proof/Machine/CanBus.lean ====
section
/-! DEFINITION. The CAN FD transport of the dictionary: requests, segmented transfers, their checks and contexts (R315 to
R322), and the return of partner requests (R331). -/

namespace Sys2Proof.Machine

/-! ## Frames -/

/-- The dictionary path of a port. -/
def canPath : CanPort → Path
  | .a => .canA
  | .b => .canB

/-- An object header and its data (Table 10.4). -/
def objectFrame (cmd : Nat) (client : BitVec 8) (index sub token len : Nat) (data : List Byte) : List Byte :=
  leBytes 1 cmd ++ [client] ++ leBytes 2 index ++ leBytes 1 sub ++ leBytes 1 token ++ leBytes 2 len ++ data

/-- An Ack frame (Table 10.4). -/
def ackFrame (client : BitVec 8) (next : Nat) : List Byte := leBytes 1 0xB0 ++ [client] ++ leBytes 2 next ++ leBytes 4 0

/-- A response on a port (R316). -/
def State.canReply (s : State) (p : CanPort) (bytes : List Byte) : State := s.sendCan p 0x380 (s.can p).brs bytes

/-- An ABORT frame (R321). -/
def State.canAbortSend (s : State) (p : CanPort) (client : BitVec 8) (index sub token code : Nat) : State :=
  (s.onCan p fun c => { c with abortsSent := inc32 c.abortsSent }).canReply p (objectFrame 0xC0 client index sub token code [])

/-- The port takes requests: it is enabled, not in bus-off, and NODE_ID is not 0 (R315 to R317). -/
def State.canTakes (s : State) (p : CanPort) : Bool :=
  s.foremanRuns && s.canOn p && s.power.nodeId != 0 && (s.can p).errorState != 2

/-- CLIENT names a client (R318). -/
def clientOk (client : BitVec 8) : Bool := client.toNat % 128 != 0

/-- CLIENT makes the request a partner request (R318). -/
def isPartner (client : BitVec 8) : Bool := client.msb

/-- A frame ignored (R315, R318). -/
def State.canIgnore (s : State) (p : CanPort) : State := s.onCan p fun c => { c with ignored := inc32 c.ignored }

/-- A frame received. -/
def State.canHeard (s : State) (p : CanPort) (brs : Bool) : State :=
  s.onCan p fun c => ({ c with rxFrames := inc64 c.rxFrames, rec_ := c.rec_ - 1, brs } : Can).confine

/-- What a frame from a client does, on a port that takes requests (R316, R318). -/
def State.canFrom (s : State) (p : CanPort) (client : BitVec 8) (brs : Bool) (f : State → State) : State :=
  if !s.canTakes p then s else if clientOk client then f (s.canHeard p brs) else s.canIgnore p

/-! ## Transfers -/

/-- Bytes of an expedited transfer and of a segment, segments ahead of NEXT, resends, contexts (R318 to R320). -/
def expeditedMax : Nat := 56
def segmentBytes : Nat := 60
def windowSegments : Nat := 16
def resendMax : Nat := 8
def contextMax : Nat := 8
def transferMax : Nat := 65472

/-- The open transfer of a client (R320). -/
def State.transfer (s : State) (p : CanPort) (client : BitVec 8) : Option Transfer :=
  (s.can p).transfers.find? fun t => t.client == client

/-- A transfer closed. -/
def State.closeTransfer (s : State) (p : CanPort) (client : BitVec 8) : State :=
  s.onCan p fun c => { c with transfers := c.transfers.filter fun t => t.client != client }

/-- A transfer opened or changed. -/
def State.putTransfer (s : State) (p : CanPort) (t : Transfer) : State :=
  s.onCan p fun c => { c with transfers := (c.transfers.filter fun u => u.client != t.client) ++ [t] }

/-- A transfer ended by the device with an abort (R320 to R322). -/
def State.endTransfer (s : State) (p : CanPort) (t : Transfer) (code : Nat) : State :=
  (s.closeTransfer p t.client).canAbortSend p t.client t.index t.sub t.token code

/-- A request ends the transfer that its client has open, without an abort frame (R320). -/
def State.restartTransfer (s : State) (p : CanPort) (client : BitVec 8) : State :=
  match s.transfer p client with
  | some _ => (s.closeTransfer p client).onCan p fun c => { c with restarts := inc32 c.restarts }
  | none => s

/-- Every context of the port is in use (R320). -/
def State.noContext (s : State) (p : CanPort) : Bool := contextMax ≤ (s.can p).transfers.length

/-- Segments of a transfer (R319). -/
def segmentsOf (len : Nat) : Nat := (len + segmentBytes - 1) / segmentBytes

/-- A read's value: in READ_OK, or as an upload that is opened (R319). -/
def State.canValue (s : State) (p : CanPort) (client : BitVec 8) (index sub token : Nat) (b : List Byte) : State :=
  if b.length ≤ expeditedMax then s.canReply p (objectFrame 0x90 client index sub token b.length b)
  else
    (s.putTransfer p { client, upload := true, index, sub, token, len := b.length, data := b, next := 0, acked := 0 }).canReply p
      (objectFrame 0x92 client index sub token b.length [])

/-- The outcome of a write (R319). -/
def State.canWritten (s : State) (p : CanPort) (client : BitVec 8) (index sub token len code : Nat) : State :=
  if code = 0 then s.canReply p (objectFrame 0x91 client index sub token len [])
  else s.canAbortSend p client index sub token code

/-! ## Partner requests -/

/-- A request passed to the twin's Foreman (R331). -/
def State.passPartner (s : State) (o : PartnerOrigin) (r : PartnerReq) : State :=
  ({ s with dict.partnerRequests := inc32 s.dict.partnerRequests, twin.partnerWaiting := s.twin.partnerWaiting ++ [o] } : State).xcSend
    (.partnerRequest r)

/-- Bytes without the zeros at their end: a data area reads 0 beyond the bytes it lists, and lists no zero there (R323). -/
def trimZeros (l : List Byte) : List Byte := (l.reverse.dropWhile (· == 0)).reverse

/-- A window slot whose request ends (R325). -/
def WinSlot.done (w : WinSlot) (write : Bool) (code : Nat) (b : List Byte) : WinSlot :=
  if w.state != 1 then w
  else if code != 0 then w.abortWith code
  else if write then { w with state := 2, abort := 0, partner := false }
  else { w with state := 2, abort := 0, partner := false, len := b.length, data := trimZeros (b ++ w.data.drop b.length) }

/-- A slot of a function (Table 10.5). -/
def State.winSlot (s : State) (fn : Fn) (k : Nat) : WinSlot :=
  match fn with
  | .pf0 => vget s.dict.slots0 k {}
  | .pf1 => vget s.dict.slots1 k {}

def State.onSlotOf (s : State) (fn : Fn) (k : Nat) (f : WinSlot → WinSlot) : State :=
  match fn with
  | .pf0 => { s with dict.slots0 := vmod s.dict.slots0 k f }
  | .pf1 => { s with dict.slots1 := vmod s.dict.slots1 k f }

/-- The result of a partner request reaches its requester (R331). -/
def State.answerPartner (s : State) (o : PartnerOrigin) (code : Nat) (b : List Byte) : State :=
  match o with
  | .gone => s
  | .slot fn k => s.onSlotOf fn k fun w => w.done (w.req.toNat % 256 == 0x82) code b
  | .can p client write index sub token len =>
    if write then s.canWritten p client index sub token len code
    else if code != 0 then s.canAbortSend p client index sub token code
    else s.canValue p client index sub token b

/-- Partner requests whose partner is lost end with NOT_PAIRED (R331). -/
def State.settlePartner (s : State) : State :=
  if s.partnered || s.twin.partnerWaiting.isEmpty then s
  else
    s.twin.partnerWaiting.foldl (fun s o => s.answerPartner o abNotPaired [])
      { s with twin.partnerWaiting := [] }

/-- A partner request received, checked as a request from the twin, and its result sent back (R331). -/
def State.servePartner (s : State) (r : PartnerReq) : State :=
  if r.isWrite then
    let t := s.dictWrite .twin r.index r.sub r.data
    (t.2.xcSend (.partnerResult t.1 [])).finish r.index r.sub t.1
  else
    let (c, b, t) := s.dictRead .twin r.index r.sub
    t.xcSend (.partnerResult c b)

/-- The result that the twin sends (R331). -/
def State.takeResult (s : State) (code : Nat) (b : List Byte) : State :=
  match s.twin.partnerWaiting with
  | o :: l => ({ s with twin.partnerWaiting := l } : State).answerPartner o code b
  | [] => s

/-- The meaning of PARTNER_REQUEST_RECEIVE: the record at the head of those received, if it is a partner request or the
result of one (R331, R361). -/
def execPartnerRequestReceive (s : State) : Host.Outcome State Fault Refusal :=
  ran s (
    match s.twin.recQueue with
    | .partnerRequest r :: l => if s.foremanRuns then ({ s with twin.recQueue := l } : State).servePartner r else s
    | .partnerResult c b :: l => ({ s with twin.recQueue := l } : State).takeResult c b
    | _ => s)

/-! ## Requests -/

/-- READ (R319, R320). -/
def State.canRead (s : State) (p : CanPort) (client : BitVec 8) (index sub token : Nat) : State :=
  let s := s.restartTransfer p client
  if s.noContext p then s.canAbortSend p client index sub token abNoContext
  else if isPartner client then
    (if s.partnered then
      s.passPartner (.can p client false index sub token 0) { isWrite := false, index, sub, data := [] }
    else s.canAbortSend p client index sub token abNotPaired)
  else
    let (c, b, t) := s.dictRead (canPath p) index sub
    if c != 0 then t.canAbortSend p client index sub token c else t.canValue p client index sub token b

/-- A write whose bytes have all arrived, on the module or passed to the twin (R319, R331). -/
def State.canApply (s : State) (p : CanPort) (client : BitVec 8) (index sub token : Nat) (data : List Byte) : State :=
  if isPartner client then
    (if s.partnered then
      s.passPartner (.can p client true index sub token data.length) { isWrite := true, index, sub, data }
    else s.canAbortSend p client index sub token abNotPaired)
  else
    let t := s.dictWrite (canPath p) index sub data
    (t.2.canWritten p client index sub token data.length t.1).finish index sub t.1

/-- WRITE (R318, R320, R321). -/
def State.canWrite (s : State) (p : CanPort) (client : BitVec 8) (index sub token len : Nat) (data : List Byte) : State :=
  let s := s.restartTransfer p client
  if s.noContext p then s.canAbortSend p client index sub token abNoContext
  else if expeditedMax < len || data.length < len then s.canAbortSend p client index sub token abProtocol
  else s.canApply p client index sub token (data.take len)

/-- WRITE_INIT (R319 to R321); a partner write is checked by the twin when it is whole. -/
def State.canWriteInit (s : State) (p : CanPort) (client : BitVec 8) (index sub token len : Nat) : State :=
  let s := s.restartTransfer p client
  if s.noContext p then s.canAbortSend p client index sub token abNoContext
  else if len ≤ expeditedMax || transferMax < len then s.canAbortSend p client index sub token abProtocol
  else
    let code :=
      if isPartner client then (if s.partnered then 0 else abNotPaired) else s.announceCode (canPath p) index sub len
    if code != 0 then s.canAbortSend p client index sub token code
    else
      (s.putTransfer p { client, upload := false, index, sub, token, len, data := [], next := 0, acked := 0 }).canReply p
        (ackFrame client 0)

/-- A frame that does not fit the client's transfer (R321; log 39). -/
def State.canMisfit (s : State) (p : CanPort) (client : BitVec 8) : State :=
  match s.transfer p client with
  | some t => s.endTransfer p t abProtocol
  | none => s.canAbortSend p client 0 0 0 abProtocol

/-- A segment in its turn (R320). -/
def State.takeSegment (s : State) (p : CanPort) (t : Transfer) (data : List Byte) : State :=
  let want := min segmentBytes (t.len - t.data.length)
  if want = 0 || data.length < want then s.endTransfer p t abProtocol
  else
    let t := { t with data := t.data ++ data.take want, next := t.next + 1, discarding := false }
    let s := s.putTransfer p t
    if t.next % windowSegments = 0 then s.canReply p (ackFrame t.client t.next) else s

/-- A segment out of its turn: an ACK names the one expected, others are discarded until it arrives (R320). -/
def State.missSegment (s : State) (p : CanPort) (t : Transfer) : State :=
  if t.discarding then s
  else if resendMax ≤ t.resends then s.endTransfer p t abProtocol
  else
    (s.putTransfer p { t with discarding := true, resends := t.resends + 1 }).canReply p (ackFrame t.client t.next)

/-- SEGMENT (R320). -/
def State.canSegment (s : State) (p : CanPort) (client : BitVec 8) (seg : Nat) (data : List Byte) : State :=
  match s.transfer p client with
  | some t =>
    if t.upload then s.canMisfit p client
    else if seg = t.next then s.takeSegment p t data
    else s.missSegment p t
  | none => s.canMisfit p client

/-- END (R319, R321). -/
def State.canEnd (s : State) (p : CanPort) (client : BitVec 8) (segments : Nat) (crc : BitVec 16) : State :=
  match s.transfer p client with
  | some t =>
    if t.upload then s.canMisfit p client
    else if segments != segmentsOf t.len || t.data.length != t.len then s.endTransfer p t abProtocol
    else if crc16 t.data != crc then s.endTransfer p t abCrc
    else (s.closeTransfer p client).canApply p client t.index t.sub t.token t.data
  | none => s.canMisfit p client

/-- One segment of an upload (Table 10.4). -/
def Transfer.segment (t : Transfer) (n : Nat) : List Byte :=
  leBytes 1 0x93 ++ [t.client] ++ leBytes 2 n ++ (t.data.drop (segmentBytes * n)).take segmentBytes

/-- The END frame of an upload (Table 10.4). -/
def Transfer.endFrame (t : Transfer) : List Byte :=
  leBytes 1 0x94 ++ [t.client] ++ leBytes 2 (segmentsOf t.len) ++ leBytes 2 (crc16 t.data).toNat ++ leBytes 2 0

/-- Segments sent from NEXT, at most 16 beyond it, and END after the last (R319, R320). -/
def State.sendSegments (s : State) (p : CanPort) (t : Transfer) (next : Nat) : State :=
  let total := segmentsOf t.len
  let stop := min total (next + windowSegments)
  let s := (List.range (stop - next)).foldl (fun s i => s.canReply p (t.segment (next + i))) s
  if stop = total then (s.closeTransfer p t.client).canReply p t.endFrame
  else s.putTransfer p { t with next := stop, acked := next }

/-- ACK (R320). -/
def State.canAck (s : State) (p : CanPort) (client : BitVec 8) (next : Nat) : State :=
  match s.transfer p client with
  | some t =>
    if !t.upload || t.next < next then s.canMisfit p client
    else if next < t.next then
      (if resendMax ≤ t.resends then s.endTransfer p t abProtocol
       else s.sendSegments p { t with resends := t.resends + 1 } next)
    else s.sendSegments p t next
  | none => s.canMisfit p client

/-- ABORT (R321). -/
def State.canCancel (s : State) (p : CanPort) (client : BitVec 8) (index sub token : Nat) : State :=
  match s.transfer p client with
  | some _ => (s.closeTransfer p client).canAbortSend p client index sub token abCancelled
  | none => s.canMisfit p client

/-! ## The commands -/

/-- The meaning of CAN_READ (R319). -/
def execCanRead (port : CanPort) (client : BitVec 8) (brs : Bool) (index sub token : Nat) (s : State) :
    Host.Outcome State Fault Refusal := ran s (s.canFrom port client brs fun s => s.canRead port client index sub token)

/-- The meaning of CAN_WRITE (R318). -/
def execCanWrite (port : CanPort) (client : BitVec 8) (brs : Bool) (index sub token len : Nat) (data : List Byte) (s : State) :
    Host.Outcome State Fault Refusal := ran s (s.canFrom port client brs fun s => s.canWrite port client index sub token len data)

/-- The meaning of CAN_WRITE_INIT (R319). -/
def execCanWriteInit (port : CanPort) (client : BitVec 8) (brs : Bool) (index sub token len : Nat) (s : State) :
    Host.Outcome State Fault Refusal := ran s (s.canFrom port client brs fun s => s.canWriteInit port client index sub token len)

/-- The meaning of CAN_SEGMENT (R320). -/
def execCanSegment (port : CanPort) (client : BitVec 8) (brs : Bool) (seg : Nat) (data : List Byte) (s : State) :
    Host.Outcome State Fault Refusal := ran s (s.canFrom port client brs fun s => s.canSegment port client seg data)

/-- The meaning of CAN_END (R319). -/
def execCanEnd (port : CanPort) (client : BitVec 8) (brs : Bool) (segments : Nat) (crc : BitVec 16) (s : State) :
    Host.Outcome State Fault Refusal := ran s (s.canFrom port client brs fun s => s.canEnd port client segments crc)

/-- The meaning of CAN_ACK (R320). -/
def execCanAck (port : CanPort) (client : BitVec 8) (brs : Bool) (next : Nat) (s : State) : Host.Outcome State Fault Refusal :=
  ran s (s.canFrom port client brs fun s => s.canAck port client next)

/-- The meaning of CAN_ABORT (R321). -/
def execCanAbort (port : CanPort) (client : BitVec 8) (brs : Bool) (index sub token : Nat) (s : State) :
    Host.Outcome State Fault Refusal := ran s (s.canFrom port client brs fun s => s.canCancel port client index sub token)

/-- The meaning of CAN_FRAME_IGNORED (R315, R318). -/
def execCanFrameIgnored (port : CanPort) (s : State) : Host.Outcome State Fault Refusal :=
  ran s (if s.power.phase == .running && s.canOn port then s.canIgnore port else s)

/-- The meaning of CAN_TIMEOUT (R322; log 17). -/
def execCanTimeout (port : CanPort) (client : BitVec 8) (s : State) : Host.Outcome State Fault Refusal :=
  ran s (
    match s.transfer port client with
    | some t => s.endTransfer port t abTimeout
    | none => s)

/-- The meaning of CAN_BUS_OFF_RECOVERY (R317). -/
def execCanBusOffRecovery (port : CanPort) (s : State) : Host.Outcome State Fault Refusal :=
  ran s (
    if (s.can port).errorState = 2 then s.onCan port fun c => { c with errorState := 0, tec := 0, rec_ := 0 } else s)

/-- The meaning of CAN_BUS_ERROR (R317; log 39). -/
def execCanBusError (port : CanPort) (tx : Bool) (s : State) : Host.Outcome State Fault Refusal :=
  ran s (
    if s.power.phase == .running && s.canOn port then
      s.onCan port fun c => (if tx then { c with tec := c.tec + 8 } else { c with rec_ := c.rec_ + 1 } : Can).confine
    else s)

end Sys2Proof.Machine
end

