-- ==== Sys2Proof/Machine/ExtLines.lean ====
section
/-! DEFINITION. External lines and flags (R159 to R166) and what a sample leaves behind for the next: line levels,
over-rate counts, own partner source values (R161, R167). -/

namespace Sys2Proof.Machine

/-! ## Crossings -/

/-- The taps of an external line on the sample that the aligner takes now, tap 0 in bit 0 (R44, R159, R164; log 26); the pin
of a line that is calibrated with the internal source is ignored (R165). -/
def State.lineTaps (s : State) (n : Nat) (taps : BitVec 64) (nextTap : Bool) : State :=
  if s.pinIgnored n then s
  else
    let m := s.extLine n
    let (fixed, narrow) := removeNarrow nextTap m.lastTap (tapList taps)
    let delay := i32 (s.cfg (lineObject n) 3)
    let at_ (k : Nat) : Int := 64 * (s.fabricCycle : Int) + s.binOf n k - delay
    let new := (tapChanges m.lastTap 0 fixed).map fun c =>
      ({ x := at_ c.1, rising := c.2, coarse := s.sv.dllState == 2 } : Crossing)
    { s with shaft.lines := vmod s.shaft.lines n fun m =>
        { m with lastTap := fixed.getLastD m.lastTap, crossings := m.crossings ++ new, narrow := add32 m.narrow narrow } }

/-- The meaning of EXT_LINE_CROSSING (R159, R160, R164). -/
def execExtLineCrossing (line : Fin 40) (taps : BitVec 64) (nextTap : Bool) (s : State) : Host.Outcome State Fault Refusal :=
  ran s (s.lineTaps line.val taps nextTap)

/-! ## Stuck lines -/

/-- A line of the powered fabric held active for STUCK_TIME (R163; log 17). -/
def State.lineStuck (s : State) (n : Nat) : State :=
  let m := s.extLine n
  if s.power.fabric && s.cfg (lineObject n) 4 != 0 && m.level == s.activeHigh n && !m.reported then
    ({ s with shaft.lines := vmod s.shaft.lines n fun x => { x with stuck := true, reported := true } } : State).event .lineStuck .shaft n
  else s

/-- The meaning of LINE_STUCK (R163). -/
def execLineStuck (line : Fin 40) (s : State) : Host.Outcome State Fault Refusal := ran s (s.lineStuck line.val)

/-- A sample has passed on a line: its level, its over-rate count, and the end of a stuck state (R161, R163). -/
def State.settleLine (s : State) (n : Nat) : State :=
  let m := s.extLine n
  let l := m.inSample s.sv.sidx
  if l.isEmpty then s
  else
    let over_ := (l.filter Crossing.rising).length > 1 || (l.filter fun c => !c.rising).length > 1
    let left := l.any fun c => c.rising != s.activeHigh n
    let out := m.stuck && left
    let s := { s with shaft.lines := vmod s.shaft.lines n fun x =>
        { x with level := m.levelAt s.sv.sidx, overrate := if over_ then inc32 x.overrate else x.overrate
                 stuck := x.stuck && !out, reported := x.reported && !left
                 crossings := x.crossings.filter fun c => (s.sv.sidx : Int) < c.x / 64 } }
    if out then s.event .lineUnstuck .shaft n else s

/-- Own partner source values of the latest sample, kept for 256 samples (R167). -/
def State.keepSources (s : State) : State :=
  let bits : BitVec 4 := BitVec.ofNat 4 (maskOf 4 fun k => s.ownSource k s.sv.sidx)
  { s with shaft.ownSources := ((s.sv.sidx, bits) :: s.shaft.ownSources).take 257
           shaft.peerSources := s.shaft.peerSources.filter fun e => s.sv.sidx < e.1 + 192 + partnerDelay }

/-- Accepted changes of the FLAG pins up to the latest sample are taken in (R166). -/
def State.settleFlags (s : State) : State :=
  { s with shaft.flags := vmap s.shaft.flags fun _ m =>
      { m with level := m.at_ s.sv.sidx, changes := m.changes.filter fun c => s.sv.sidx < c.1 } }

/-- What the latest sample leaves for the next. -/
def State.settleSample (s : State) : State := ((List.range 40).foldl State.settleLine s.keepSources).settleFlags

/-! ## Flags -/

/-- A FLAG level accepted once the pin has held it for FILTER + 1 samples, placed on the first sample of that run (R166;
log 27). -/
def State.acceptFlag (s : State) (n : Nat) (level : Bool) : State :=
  let x := s.fabricCycle - s.cfg (0x2730 + n) 3
  { s with shaft.flags := vmod s.shaft.flags n fun m => { m with changes := m.changes ++ [(x, level)] } }

/-- The level of a FLAG pin: FENCE_IN reads it (R357), FLAG[n] once it is accepted with the fabric powered (R166). -/
def State.flagInput (s : State) (n : Nat) (level : Bool) : State :=
  let s := { s with shaft.flags := vmod s.shaft.flags n fun m => { m with pin := level } }
  let s := if s.twin.fencePins.2 == n then { s with twin.fenceIn := level } else s
  if s.power.fabric then s.acceptFlag n level else s

/-- The meaning of FLAG_INPUT_ACCEPT (R166). -/
def execFlagInputAccept (n : Fin 16) (level : Bool) (s : State) : Host.Outcome State Fault Refusal :=
  ran s (s.flagInput n.val level)

end Sys2Proof.Machine
end

