-- ==== Sys2Proof/Machine/Window.lean ====
section
/-! DEFINITION. The dictionary window of both functions: slots, their control words and data areas, requests and secure
sessions (R323 to R328, R331), and how a host's request reaches a function (R277, R298, R299). -/

namespace Sys2Proof.Machine

/-! ## How a request reaches a function -/

/-- A request to a BAR of a function: Unsupported Request outside a Secure stream on PF1, counted there, and while Memory
Space Enable is 0 (R277, R298, R300). `f` is what a request that is taken does, `g` what the requester sees of one that is
not; `read` marks a non-posted request, whose error is advisory. -/
def State.admitHost (s : State) (fn : Fn) (stream : Option (Fin 4)) (read : Bool) (f g : State → State) : State :=
  if !s.hf.l0 then s
  else if fn == .pf1 && !s.secureStream stream then
    g (({ s with hf.pf1Refused := s.hf.pf1Refused.inc } : State).aerError fn .unsupportedRequest read)
  else if !(s.fnCfg fn).mse then g (s.aerError fn .unsupportedRequest read)
  else f s

/-! ## Requests -/

/-- The dictionary path of a function's window (R327). -/
def fnPath : Fn → Path
  | .pf0 => .pf0
  | .pf1 => .pf1

/-- Slots of a function's window (R323). -/
def slotCount : Fn → Nat
  | .pf0 => 16
  | .pf1 => 8

/-- CMD, SUB and INDEX of SLOT_REQ (Table 10.5). -/
def WinSlot.cmd (w : WinSlot) : Nat := w.req.toNat % 256
def WinSlot.sub (w : WinSlot) : Nat := w.req.toNat / 256 % 256
def WinSlot.index (w : WinSlot) : Nat := w.req.toNat / 65536

/-- The first `n` bytes of the data area. -/
def WinSlot.bytes (w : WinSlot) (n : Nat) : List Byte := (w.data ++ List.replicate n 0).take n

/-- A WINDOW counter of refused accesses (R323, R324). -/
def State.winFault (s : State) : State := { s with dict.winFaults := inc32 s.dict.winFaults }

/-- A pending request runs (R325, R331). -/
def State.runSlot (s : State) (fn : Fn) (k : Nat) : State :=
  let w := s.winSlot fn k
  let data := w.bytes w.len
  let write := w.cmd == 0x02 || w.cmd == 0x82
  let partner := w.cmd == 0x81 || w.cmd == 0x82
  if write && transferMax < w.len then s.onSlotOf fn k fun w => w.done write abLength []
  else if partner then
    if s.partnered then
      (s.onSlotOf fn k fun w => { w with partner := true }).passPartner (.slot fn k)
        { isWrite := write, index := w.index, sub := w.sub, data := if write then data else [] }
    else s.onSlotOf fn k fun w => w.done write abNotPaired []
  else if w.cmd == 0x01 then
    let (c, b, t) := s.dictRead (fnPath fn) w.index w.sub
    t.onSlotOf fn k fun w => w.done false c b
  else if w.cmd == 0x02 then
    let t := s.dictWrite (fnPath fn) w.index w.sub data
    (t.2.onSlotOf fn k fun w => w.done true t.1 []).finish w.index w.sub t.1
  else s.onSlotOf fn k fun w => w.done false abProtocol []

/-- The first request on a PF1 slot binds its session to the stream it came in (R328). -/
def WinSlot.bind (w : WinSlot) (stream : Option (Fin 4)) : WinSlot := { w with session := w.session.or stream }

/-- GO = 1: the request is taken; it waits while the Foreman does not run (R323, R325, R328). -/
def State.takeGo (s : State) (fn : Fn) (k : Nat) (stream : Option (Fin 4)) : State :=
  if (s.winSlot fn k).state == 1 then s.winFault
  else
    let s := ({ s with dict.winRequests := inc64 s.dict.winRequests } : State).onSlotOf fn k fun w =>
      { w with state := 1, abort := 0, partner := false, since := s.sv.up }
    let s := if fn == .pf1 then s.onSlotOf fn k fun w => w.bind stream else s
    if fn == .pf1 && (s.winSlot fn k).session != stream then s.onSlotOf fn k fun w => w.done false abSecureOnly []
    else if s.foremanRuns then s.runSlot fn k
    else s

/-- A pending slot with the time at which its request was taken, none of one that is not pending or awaits the twin. -/
def State.waitingSlot (s : State) (fn : Fn) (k : Nat) : Option (Nat × Fn × Nat) :=
  let w := s.winSlot fn k
  if w.state == 1 && !w.partner then some (w.since, fn, k) else none

/-- The slots whose requests wait, in the order in which they were taken (R325). -/
def State.waitingSlots (s : State) : List (Nat × Fn × Nat) :=
  sortBy (fun a b => a.1 ≤ b.1)
    ((List.range 16).filterMap (s.waitingSlot .pf0) ++ (List.range 8).filterMap (s.waitingSlot .pf1))

/-- The Foreman serves the requests that waited for it (R325, R326). -/
def State.serveWaiting (s : State) : State :=
  if s.foremanRuns then s.waitingSlots.foldl (fun s x => s.runSlot x.2.1 x.2.2) s else s

/-- GO with a CMD, when the slot's SLOT_REQ holds that CMD (R325, R331; log 17). -/
def State.slotGo (s : State) (fn : Fn) (k : Nat) (stream : Option (Fin 4)) (cmd : Nat) : State :=
  s.admitHost fn stream false
    (fun s => if k < slotCount fn && (s.winSlot fn k).cmd == cmd then s.takeGo fn k stream else s) id

/-- The meaning of SLOT_GO_READ (R325). -/
def execSlotGoRead (fn : Fn) (k : Fin 16) (stream : Option (Fin 4)) (s : State) : Host.Outcome State Fault Refusal :=
  ran s (s.slotGo fn k.val stream 0x01)

/-- The meaning of SLOT_GO_WRITE (R325). -/
def execSlotGoWrite (fn : Fn) (k : Fin 16) (stream : Option (Fin 4)) (s : State) : Host.Outcome State Fault Refusal :=
  ran s (s.slotGo fn k.val stream 0x02)

/-- The meaning of SLOT_GO_PARTNER_READ (R331). -/
def execSlotGoPartnerRead (fn : Fn) (k : Fin 16) (stream : Option (Fin 4)) (s : State) :
    Host.Outcome State Fault Refusal := ran s (s.slotGo fn k.val stream 0x81)

/-- The meaning of SLOT_GO_PARTNER_WRITE (R331). -/
def execSlotGoPartnerWrite (fn : Fn) (k : Fin 16) (stream : Option (Fin 4)) (s : State) :
    Host.Outcome State Fault Refusal := ran s (s.slotGo fn k.val stream 0x82)

/-! ## Writes to the window -/

/-- Bytes of a slot, and where its data area begins (R323). -/
def slotSpan : Nat := 0x10000
def dataStart : Nat := 0x40

/-- A byte of the data area written. -/
def putByte (l : List Byte) (i : Nat) (b : Byte) : List Byte := (l ++ List.replicate (i + 1 - l.length) 0).set i b

/-- A byte of a doubleword. -/
def wordByte (v : Word) (j : Nat) : Byte := BitVec.ofNat 8 (v.toNat / 256 ^ j)

/-- The enabled bytes of a doubleword written at an offset of the slot, the control words and reserved space left out. -/
def putWord (l : List Byte) (off : Nat) (v : Word) (be : BitVec 4) : List Byte :=
  if off < dataStart then l
  else (List.range 4).foldl (fun l j => if be.getLsbD j then putByte l (off - dataStart + j) (wordByte v j) else l) l

/-- Doublewords written into the data area from an offset of the slot. -/
def putWords (l : List Byte) (off : Nat) (words : List (Word × BitVec 4)) : List Byte :=
  trimZeros ((words.foldl (fun (p : Nat × List Byte) w => (p.1 + 4, putWord p.2 p.1 w.1 w.2)) (off, l)).2)

/-- All four bytes enabled. -/
def allBytes : BitVec 4 := 0xF

/-- A control word written (R323, R324, Table 10.5). -/
def State.controlWrite (s : State) (fn : Fn) (k : Nat) (stream : Option (Fin 4)) (off : Nat) (v : Word) : State :=
  if off = 0x0C then (if v.getLsbD 0 then s.takeGo fn k stream else s)
  else if (s.winSlot fn k).state == 1 then s.winFault
  else if off = 0x00 then s.onSlotOf fn k fun w => { w with req := v }
  else if off = 0x04 then s.onSlotOf fn k fun w => { w with len := v.toNat % 65536 }
  else s.onSlotOf fn k fun w => { w with token := v }

/-- Data written: discarded and counted while PENDING (R324). -/
def State.dataWrite (s : State) (fn : Fn) (k off : Nat) (words : List (Word × BitVec 4)) : State :=
  if off + 4 * words.length ≤ dataStart then s
  else if (s.winSlot fn k).state == 1 then s.winFault
  else s.onSlotOf fn k fun w => { w with data := putWords w.data off words }

/-- A write to the window (R323, R324): whole, or not at all across a slot boundary. -/
def State.windowWrite (s : State) (fn : Fn) (stream : Option (Fin 4)) (offset : Nat) (words : List (Word × BitVec 4)) : State :=
  let k := offset / slotSpan
  let off := offset % slotSpan / 4 * 4
  if slotSpan < off + 4 * words.length then s.winFault
  else
    match decide (off < 0x10), words with
    | true, [(v, be)] => if be == allBytes then s.controlWrite fn k stream off v else s.winFault
    | true, _ => s.winFault.dataWrite fn k off words
    | false, _ => s.dataWrite fn k off words

/-! ## Reads of the window -/

/-- SLOT_CTRL as it reads (Table 10.5). -/
def WinSlot.ctrl (w : WinSlot) : Nat := bit (w.state == 1) + 2 * w.state + 2 ^ 16 * w.abort

/-- A doubleword of a slot (R323). -/
def WinSlot.read (w : WinSlot) (off : Nat) : Nat :=
  if off = 0x00 then w.req.toNat
  else if off = 0x04 then w.len
  else if off = 0x08 then w.token.toNat
  else if off = 0x0C then w.ctrl
  else if off < dataStart then 0
  else leNat ((w.data.drop (off - dataStart)).take 4)

end Sys2Proof.Machine
end

