-- ==== Sys2Proof/Machine/Registers.lean ====
section
/-! DEFINITION. The control and status space (R335 to R338): writes and reads of the Headframe's, rings', job ring's, claim,
error, skip and cage registers (Tables 7.4 to 7.6, 9.5, 9.10, 11.1, 11.6, 11.7), and requests to PF1 memory space
(R277, R299). -/

namespace Sys2Proof.Machine

/-! ## Fields -/

/-- A counter register written: COUNT by value, OVERFLOW cleared by a 1 (Table 11.6). -/
def RegCount.write (c : RegCount) (v : Nat) : RegCount := { count := v % 2 ^ 31, overflow := c.overflow && !v.testBit 31 }

/-- The low or high half of a 64-bit register. -/
def halfOf (v : Nat) (high : Bool) : Nat := if high then v / 2 ^ 32 % 2 ^ 32 else v % 2 ^ 32

/-- One half of an address written, its low `align` bits read as zero. -/
def setHalf (old : Nat) (high : Bool) (v align : Nat) : Nat :=
  if high then v * 2 ^ 32 + old % 2 ^ 32 else old / 2 ^ 32 * 2 ^ 32 + v / 2 ^ align * 2 ^ align

/-- The enabled bytes of a doubleword written (Table 11.1). -/
def mergeLanes (old new : Word) (be : BitVec 4) : Word :=
  let m : Word := BitVec.ofNat 32 (maskOf 32 fun i => be.getLsbD (i / 8))
  (old &&& ~~~ m) ||| (new &&& m)

/-! ## Rings -/

/-- A write that another rule forbids (R336). -/
def State.locked (s : State) (offset : Nat) (m : Master) : State := s.accessFault offset afLocked m

/-- A ring's BASE or CURSOR half written (R286, Table 9.5). -/
def State.ringAddress (s : State) (m : Master) (n off v : Nat) : State :=
  if (s.ring n).enable then s.locked (ringOffset n + off) m
  else
    (s.onRing n fun r =>
      if off < 8 then { r with base := setHalf r.base (off == 4) v 12 }
      else { r with cur := setHalf r.cur (off == 0x0C) v 6 }).sendRing n

/-- RING_CTRL written (R286, R290, Table 9.5): SIZE_ORDER is locked while the ring is enabled. -/
def State.ringCtrl (s : State) (m : Master) (n v : Nat) : State :=
  let size := v / 16 % 16
  let s :=
    if (s.ring n).sizeOrder == size then s
    else if (s.ring n).enable then s.locked (ringOffset n + 0x10) m
    else s.onRing n fun r => { r with sizeOrder := size }
  let s := s.onRing n fun r => { r with irqEn := v.testBit 1 }
  let s := if v.testBit 0 then s.ringEnable n else s.ringDisable n
  (s.sendRing n).checkDue n

/-- RING_STATUS written: CURSOR_BAD and TOO_SMALL clear (Table 9.5). -/
def Ring.clearStatus (r : Ring) (v : Nat) : Ring :=
  { r with cursorBad := r.cursorBad && !v.testBit 2, tooSmall := r.tooSmall && !v.testBit 3 }

/-- A write of a ring's or the event queue's registers (R287, R288, Table 9.5). -/
def State.ringWrite (s : State) (m : Master) (n off v : Nat) : State :=
  if off < 0x10 then s.ringAddress m n off v
  else if off = 0x10 then s.ringCtrl m n v
  else if off = 0x14 then s.rdPosWrite n v
  else if off = 0x1C then s.onRing n fun r => r.clearStatus v
  else if off = 0x20 then
    ((s.onRing n fun r => { r with irqBytes := v % 65536, irqDelay := v / 65536 }).sendRing n).checkDue n
  else s

/-! ## The job ring -/

/-- The job ring's base and order are locked (Table 7.4). -/
def Smelter.locked (m : Smelter) : Bool := m.enable || m.running

/-- SMJ_CTRL written (Table 7.4). -/
def State.smjCtrl (s : State) (m : Master) (v : Nat) : State :=
  let order := v / 16 % 16
  let s :=
    if s.smelter.order == order then s
    else if s.smelter.locked then s.locked 0x300008 m
    else { s with smelter.order := order }
  if v.testBit 0 then s.smjEnable else s.smjDisable

/-- A write of the job ring's registers (R240, Tables 7.4 to 7.6). -/
def State.smjWrite (s : State) (m : Master) (off v : Nat) : State :=
  if off < 8 then
    (if s.smelter.locked then s.locked (0x300000 + off) m
     else { s with smelter.base := setHalf s.smelter.base (off == 4) v 12 })
  else if off = 8 then s.smjCtrl m v
  else if off = 0x0C then s.smjTail v
  else if off = 0x14 then (if v.testBit 1 then s.smjClear else s)
  else s

/-! ## Claims, errors and skips -/

/-- ERR_STATUS written (Table 11.6). -/
def Regs.clearErrors (r : Regs) (v : Nat) : Regs :=
  { r with voteFixed := r.voteFixed &&& ~~~ BitVec.ofNat 6 v, skipPtr := r.skipPtr &&& ~~~ BitVec.ofNat 6 (v / 2 ^ 16)
           cagePtr := r.cagePtr && !v.testBit 22, access := r.access && !v.testBit 23 }

/-- A skip's register written (Table 11.6). -/
def Skip.write (x : Skip) (off v : Nat) : Skip :=
  if off = 0 then { x with truncated := x.truncated && !v.testBit 2 }
  else if off = 4 then { x with lost := x.lost.write v }
  else x

/-- A write of the registers from 0x0020_0000 (R354). -/
def State.statusWrite (s : State) (m : Master) (off v : Nat) : State :=
  if off < 0x40 then s.writeClaim m (off / 4) (v / 16 % 16)
  else if off = 0x40 then { s with regs.accessFault := s.regs.accessFault.write v }
  else if off = 0x48 then { s with regs := s.regs.clearErrors v }
  else if off = 0x4C then { s with regs.voteCorrected := s.regs.voteCorrected.write v }
  else if within 0x100 0x1BF off then
    { s with regs.skips := vmod s.regs.skips ((off - 0x100) / 0x20) fun x => x.write (off % 0x20) v }
  else s

/-- A write of the Headframe's registers (R301, Table 9.10). -/
def State.hfWrite (s : State) (off v : Nat) : State :=
  if off = 0x10 then { s with hf.late := s.hf.late.write v }
  else if off = 0x14 then { s with hf.orphaned := s.hf.orphaned.write v }
  else if off = 0x18 then { s with hf.pf1Refused := s.hf.pf1Refused.write v }
  else s

/-! ## Cages -/

/-- A side's register other than CG_TX_MSG written (R355, Table 11.7). -/
def State.cageWrite (s : State) (side : CageSide) (off : Nat) (v : Word) : State :=
  if off = 0x80 then
    let s := if v.getLsbD 0 then s.cageSend side else s
    if v.getLsbD 1 then s.cagePop side else s
  else if off = 0x84 then s.onCage side fun m => { m with txOverrun := m.txOverrun && !v.getLsbD 16 }
  else if off = 0x88 then s.bellRaise side v
  else if off = 0x8C then s.bellClear side v
  else if off = 0x90 then s.bellMask side v
  else if off = 0x94 then s.onCage side fun m => { m with lost := m.lost.write v.toNat }
  else if off = 0x98 then s.onCage side fun m => { m with aborted := m.aborted.write v.toNat }
  else s

/-- A doubleword of CG_TX_MSG written by byte lanes; word 0 is read only (Table 11.7). -/
def State.cageBody (s : State) (side : CageSide) (off : Nat) (v : Word) (be : BitVec 4) : State :=
  if off < 4 then s else s.onCage side fun m => { m with tx := vmod m.tx (off / 4 - 1) fun old => mergeLanes old v be }

/-- The channel of a cage region and the offset in it. -/
def inCages (base count off : Nat) : Option (Nat × Nat) :=
  if base ≤ off && off < base + 0x1000 * count then some ((off - base) / 0x1000, off % 0x1000) else none

/-- The cage side that an address belongs to, and the offset in the channel (Table 11.3): in BAR 0 the PF0 sides, in
PF1's BAR 2 the PF1 sides, in the Foreman's own space its side of every channel (log 40). -/
def cageAt (m : Master) (bar2 : Bool) (off : Nat) : Option (CageSide × Nat) :=
  let at_ (base count : Nat) (f : Nat → Option CageSide) : Option (CageSide × Nat) :=
    (inCages base count off).bind fun x => (f x.1).map fun side => (side, x.2)
  let fin (n : Nat) (f : Fin n → CageSide) (c : Nat) : Option CageSide := if h : c < n then some (f ⟨c, h⟩) else none
  if !bar2 then at_ 0x100000 32 (fin 32 .pf0Host)
  else
    match m with
    | .pf1 => at_ 0x80000 16 (fin 16 .pf1Host)
    | .foreman =>
      (at_ 0 32 (fin 32 .pf0Foreman)).or ((at_ 0x80000 16 (fin 16 .pf1Foreman)).or (at_ 0x100000 1 fun _ => some .twinLocal))
    | _ => none

/-! ## Writes -/

/-- Offset of PF1's alias of the claims in its BAR 2 (R339). -/
def claimAlias : Nat := 0xFF000

/-- A doubleword written with all byte enables outside the cages (Table 9.3). -/
def State.plainWrite (s : State) (m : Master) (bar2 : Bool) (off v : Nat) : State :=
  if bar2 then
    (if m == .pf1 && within claimAlias (claimAlias + 0x3F) off then s.writeClaim m ((off - claimAlias) / 4) (v / 16 % 16)
     else s)
  else if off < 0x1000 then s.hfWrite off v
  else if within 0x10000 0x10FFF off then s.ringWrite m ((off - 0x10000) / 0x40) (off % 0x40) v
  else if within 0x11000 0x1103F off then s.ringWrite m eventRing (off % 0x40) v
  else if within 0x200000 0x200FFF off then s.statusWrite m (off - 0x200000) v
  else if within 0x300000 0x3000FF off then s.smjWrite m (off - 0x300000) v
  else s

/-- One doubleword written, with its byte enables (Table 11.1). -/
def State.wordWrite (s : State) (m : Master) (bar2 : Bool) (off : Nat) (v : Word) (be : BitVec 4) : State :=
  match cageAt m bar2 off with
  | some (side, o) =>
    if o < 0x40 then s.cageBody side o v be
    else if be == allBytes then s.cageWrite side o v
    else s.accessFault off afPartial m
  | none => if be == allBytes then s.plainWrite m bar2 off v.toNat else s.accessFault off afPartial m

/-- A write lies wholly within one CG_TX_MSG. -/
def inOneMessage (m : Master) (bar2 : Bool) (off n : Nat) : Bool :=
  match cageAt m bar2 off with
  | some (_, o) => o + 4 * n ≤ 0x40
  | none => false

/-- Doublewords written one after another from an offset. -/
def State.wordWrites (s : State) (m : Master) (bar2 : Bool) (off : Nat) : List (Word × BitVec 4) → State
  | [] => s
  | (v, be) :: l => (s.wordWrite m bar2 off v be).wordWrites m bar2 (off + 4) l

/-- A write to the control and status space: one or two doublewords, or more within one message (Table 11.1). -/
def State.spaceWrite (s : State) (m : Master) (bar2 : Bool) (offset : Nat) (words : List (Word × BitVec 4)) : State :=
  let off := offset / 4 * 4
  if words.length ≤ 2 || inOneMessage m bar2 off words.length then s.wordWrites m bar2 off words
  else s.accessFault off afLong m

/-- A write that has reached BAR 2 of PF1: the secure window, or its cages and claims (Table 9.1). -/
def State.pf1Write (s : State) (stream : Option (Fin 4)) (offset : Nat) (words : List (Word × BitVec 4)) : State :=
  if offset < 0x80000 then s.windowWrite .pf1 stream offset words else s.spaceWrite .pf1 true offset words

/-- A write by the twin's Foreman over the Crosscut, which reaches the claims alone (R339, R341). -/
def State.twinWrite (s : State) (offset : Nat) (words : List (Word × BitVec 4)) : State :=
  match words with
  | [(v, be)] =>
    if s.partnered && within 0x200000 0x20003F offset && be == allBytes then
      s.writeClaim .twin ((offset - 0x200000) / 4) (v.toNat / 16 % 16)
    else s
  | _ => s

/-- A host's write once its function takes it: a poisoned one is discarded, one to PF1's BAR 0 aborted (R299, R300). -/
def State.hostReaches (s : State) (fn : Fn) (w : RegWrite) : State :=
  if w.poisoned then s.aerError fn .poisonedTlp
  else
    match fn with
    | .pf0 => if w.bar2 then s.windowWrite .pf0 w.stream w.offset w.words else s.spaceWrite .pf0 false w.offset w.words
    | .pf1 => if w.bar2 then s.pf1Write w.stream w.offset w.words else s.aerError .pf1 .completerAbort

/-- A write by a master (R335, R336). -/
def State.registerWrite (s : State) (m : Master) (w : RegWrite) : State :=
  match m with
  | .pf0 => s.admitHost .pf0 w.stream false (fun s => s.hostReaches .pf0 w) id
  | .pf1 => s.admitHost .pf1 w.stream false (fun s => s.hostReaches .pf1 w) id
  | .foreman => if s.foremanRuns then s.spaceWrite .foreman w.bar2 w.offset w.words else s
  | .twin => s.twinWrite w.offset w.words

/-- The meaning of REGISTER_WRITE (R240, R279, R286, R287, R299, R301, R323, R324, R335, R336, R341, R344 to R346, R354,
R355). -/
def execRegisterWrite (m : Master) (w : RegWrite) (s : State) : Host.Outcome State Fault Refusal :=
  ran s (s.registerWrite m w)

/-! ## Reads -/

/-- HF_LINK as it reads (Table 9.10). -/
def State.hfLink (s : State) : Nat :=
  if s.hf.l0 then
    s.hf.speed + 8 * s.hf.width + 2 ^ 8 * bit s.hf.flit + 2 ^ 9 * bit s.hf.l0p.isSome + 2 ^ 10 * bit s.anyArmed
  else 2 ^ 10 * bit s.anyArmed

/-- RING_STATUS as it reads (Table 9.5); of the event queue only CURSOR_BAD is used (R288). -/
def State.ringStatus (s : State) (n : Nat) : Nat :=
  let r := s.ring n
  let p := s.producerOf n
  if n = eventRing then 4 * bit r.cursorBad
  else
    bit (p != 0) + 2 * bit (((s.streamOn n).map s.heldNow).getD false) + 4 * bit r.cursorBad + 8 * bit r.tooSmall +
      2 ^ 8 * p + 2 ^ 16 * (s.streamOn n).getD 0

/-- A ring's register as it reads (R287). -/
def State.ringRead (s : State) (n off : Nat) : Nat :=
  let r := s.ring n
  if off = 0x00 then halfOf r.base false
  else if off = 0x04 then halfOf r.base true
  else if off = 0x08 then halfOf r.cur false
  else if off = 0x0C then halfOf r.cur true
  else if off = 0x10 then r.ctrlWord
  else if off = 0x14 then r.rdPos
  else if off = 0x18 then r.wrPos
  else if off = 0x1C then s.ringStatus n
  else if off = 0x20 then r.irqWord
  else 0

/-- A register of the job ring as it reads (Tables 7.4 to 7.6). -/
def Smelter.read (m : Smelter) (off : Nat) : Nat :=
  if off = 0x00 then halfOf m.base false
  else if off = 0x04 then halfOf m.base true
  else if off = 0x08 then bit m.enable + 16 * m.order
  else if off = 0x0C then m.tail
  else if off = 0x10 then m.head
  else if off = 0x14 then bit m.running + 2 * bit m.halted + 16 * m.haltCause
  else 0

/-- Depth of a numbered skip in words (Table 11.5). -/
def skipDepth (k : Nat) : Nat :=
  if k = 0 || k = 2 then 512 else if k = 1 || k = 3 then 128 else if k = 4 then 32 else 256

/-- Words that a skip holds. -/
def Skip.level (x : Skip) : Nat := x.items.sum

/-- A skip's register as it reads (Table 11.6). -/
def Skip.read (x : Skip) (k off : Nat) : Nat :=
  if off = 0x00 then
    bit (x.level == 0) + 2 * bit (skipDepth k ≤ x.level) + 4 * bit x.truncated + 2 ^ 8 * x.level
  else if off = 0x04 then x.lost.word
  else if off = 0x10 then halfOf x.pktIn false
  else if off = 0x14 then halfOf x.pktIn true
  else if off = 0x18 then halfOf x.pktOut false
  else if off = 0x1C then halfOf x.pktOut true
  else 0

/-- ERR_STATUS as it reads (Table 11.6). -/
def Regs.errStatus (r : Regs) : Nat :=
  r.voteFixed.toNat + 2 ^ 8 * r.voteSplit.toNat + 2 ^ 16 * r.skipPtr.toNat + 2 ^ 22 * bit r.cagePtr + 2 ^ 23 * bit r.access

/-- A register from 0x0020_0040 as it reads (R354). -/
def Regs.read (r : Regs) (off : Nat) : Nat :=
  if off = 0x40 then r.accessFault.word
  else if off = 0x44 then r.accessLast.1 + 2 ^ 24 * r.accessLast.2.1 + 2 ^ 28 * r.accessLast.2.2
  else if off = 0x48 then r.errStatus
  else if off = 0x4C then r.voteCorrected.word
  else if within 0x100 0x1BF off then (vget r.skips ((off - 0x100) / 0x20) {}).read ((off - 0x100) / 0x20) (off % 0x20)
  else 0

/-- CG_RX_MSG word `k` (R345). -/
def CageEnd.rxWord (m : CageEnd) (k : Nat) : Nat :=
  match m.rx with
  | x :: _ => (x.getD k 0).toNat
  | [] => 0

/-- A side's register as it reads (Table 11.7). -/
def State.cageRead (s : State) (side : CageSide) (off : Nat) : Nat :=
  let m := s.cage side
  if off < 0x40 then (if off < 4 then 0 else (vget m.tx (off / 4 - 1) 0).toNat)
  else if off < 0x80 then m.rxWord ((off - 0x40) / 4)
  else if off = 0x84 then
    (cageDepth - (s.cage (peerSide side)).rx.length) + 2 ^ 8 * m.rx.length + 2 ^ 16 * bit m.txOverrun + 2 ^ 17 * bit m.peerInReset
  else if off = 0x8C then m.pend.toNat
  else if off = 0x90 then m.mask.toNat
  else if off = 0x94 then m.lost.word
  else if off = 0x98 then m.aborted.word
  else if off = 0xA0 then halfOf m.txTotal false
  else if off = 0xA4 then halfOf m.txTotal true
  else 0

/-- A doubleword of BAR 0 as it reads, the claims left to CLAIM_READ (Table 9.3, R336, R337). -/
def State.bar0Read (s : State) (off : Nat) : Nat :=
  match cageAt .pf0 false off with
  | some (side, o) => s.cageRead side o
  | none =>
    if off = 0 then 0x0768 + 2 ^ 16 * (s.nv.part.2.2 % 256)
    else if off = 4 then s.hfLink
    else if off = 0x10 then s.hf.late.word
    else if off = 0x14 then s.hf.orphaned.word
    else if off = 0x18 then s.hf.pf1Refused.word
    else if within 0x10000 0x10FFF off then s.ringRead ((off - 0x10000) / 0x40) (off % 0x40)
    else if within 0x11000 0x1103F off then s.ringRead eventRing (off % 0x40)
    else if within 0x200040 0x200FFF off then s.regs.read (off - 0x200000)
    else if within 0x300000 0x3000FF off then s.smelter.read (off - 0x300000)
    else 0

/-! ## PF1 memory space -/

/-- A doubleword of PF1's BAR 2 read: the secure window, cages, claims (Table 9.1, R339). -/
def State.pf1Read (s : State) (off : Nat) : Nat × State :=
  if off < 0x80000 then ((s.winSlot .pf1 (off / slotSpan)).read (off % slotSpan / 4 * 4), s)
  else if within claimAlias (claimAlias + 0x3F) off then s.readClaim .pf1 ((off - claimAlias) / 4) false
  else
    match cageAt .pf1 true off with
    | some (side, o) => (s.cageRead side (o / 4 * 4), s)
    | none => (0, s)

/-- A request that PF1 takes: Completer Abort in BAR 0, else a write, or a read with its completion (R299). -/
def State.pf1Reaches (s : State) (r : Pf1Access) : State :=
  match r.bar0, r.write with
  | true, some _ => s.aerError .pf1 .completerAbort
  | true, none => (s.aerError .pf1 .completerAbort true).send (.completion false true [])
  | false, some v => s.pf1Write r.stream r.offset [(v, allBytes)]
  | false, none =>
    let (v, s) := s.pf1Read r.offset
    s.send (.completion true false [BitVec.ofNat 32 v])

/-- The Unsupported Request that a requester of a read sees. -/
def State.pf1Refused (s : State) (r : Pf1Access) : State :=
  match r.write with
  | some _ => s
  | none => s.send (.completion false false [])

/-- The meaning of PF1_MEMORY_REQUEST (R277, R299, R300). -/
def execPf1MemoryRequest (r : Pf1Access) (s : State) : Host.Outcome State Fault Refusal :=
  ran s (s.admitHost .pf1 r.stream r.write.isNone (fun s => s.pf1Reaches r) fun s => s.pf1Refused r)

end Sys2Proof.Machine
end

