-- ==== Sys2Proof/Machine/Twin.lean ====
section
/-! DEFINITION. The pair (chapter 12): election (R362, R363, R381), blocks and their records (R361, R365 to R369),
epochs in a pair (R366), divergence and resynchronisation (R369, R370), the Canary (R371, R372), the stripe set (R360),
attach (R378), and the commands of these. -/

namespace Sys2Proof.Machine

/-! ## Election -/

/-- PAIR_CAUSE codes (Table 12.6). -/
def pcNone : Nat := 0
def pcNoStrap : Nat := 1
def pcFence : Nat := 2
def pcReference : Nat := 3
def pcVersion : Nat := 4
def pcBothRunning : Nat := 5

/-- PEER_TRUST codes (Table 13.10). -/
def ptTrusted : Nat := 1
def ptIdentity : Nat := 2
def ptOwner : Nat := 3
def ptLifeCycle : Nat := 4

/-- Some Crosscut lane is UP (R362). -/
def State.laneUp (s : State) : Bool := allLanes.any fun l => (s.rx l).state == lsUp

/-- The serial number of the module. -/
def State.serial (s : State) : Nat := s.nv.part.1

/-- A module in a capture mode. -/
def State.capturing (s : State) : Bool := captureMode s.mode

/-- The cause for which the modules do not pair, 0 for none (R356, R362). -/
def State.pairRefusal (s : State) (p : PeerInfo) : Nat :=
  let pins := s.twin.fencePins
  if !(pins.1 < 16 && pins.2 < 16 && pins.1 != pins.2 && s.twin.fenceIn && p.fenceDriven) then pcFence
  else if !p.refAgrees then pcReference
  else if 1 < ((Config.xcVersion : Int) - p.version).natAbs then pcVersion
  else if s.capturing && p.capturing then pcBothRunning
  else pcNone

/-- PEER_TRUST of a partner (R381). -/
def State.trustOf (s : State) (p : PeerInfo) : Nat :=
  if !p.identityOk then ptIdentity
  else if p.ownerHash != s.nv.ownerHash then ptOwner
  else if p.lifeCycle != s.lifeCycle || !(s.lifeCycle == lcProvisioned || s.lifeCycle == lcField) then ptLifeCycle
  else ptTrusted

/-- ROLE_PREF codes (Table 12.6). -/
def prefActive : Nat := 1
def prefShadow : Nat := 2

/-- Two modules that capture nothing: this one is Active (R363). -/
def State.wins (s : State) (p : PeerInfo) : Bool :=
  let own := s.cfg 0x2D00 2
  if (own == prefActive) != (p.rolePref == prefActive) then own == prefActive
  else if (own == prefShadow) != (p.rolePref == prefShadow) then p.rolePref == prefShadow
  else s.serial < p.serial

/-- The role that the election gives (R363). -/
def State.electedRole (s : State) (p : PeerInfo) : Nat :=
  if s.capturing then roleActive
  else if p.capturing then roleAttaching
  else if s.wins p then roleActive
  else roleShadow

/-- UNIT after the election (R237). -/
def State.electedUnit (s : State) (p : PeerInfo) : Bool :=
  if s.capturing then s.nv.unitBit.getD false
  else if p.capturing then !(p.unitBit.getD false)
  else
    match s.nv.unitBit, p.unitBit with
    | some a, none => a
    | none, some b => !b
    | some a, some b => if a == b then p.serial < s.serial else a
    | none, none => p.serial < s.serial

/-- The pair forms: role, UNIT, the partner's identity, USE of a module that takes the pair's (R237, R363). -/
def State.formPair (s : State) (p : PeerInfo) : State :=
  let role := s.electedRole p
  let s := { s with nv.unitBit := some (s.electedUnit p), twin.partnerSerial := p.serial, twin.partnerFw := p.fw
                    twin.pairState := psAligning, twin.pairCause := pcNone, twin.hdrOwn := [], twin.hdrPeer := []
                    twin.digestPeer := [], twin.doorPeer := [], twin.recAgain := [], twin.recHeld := [], twin.missedRun := 0
                    twin.beatSeen := true }
  let s := if role == roleActive || p.use ≤ s.nextUse then s else s.reserveUse p.use
  if role == roleShadow then s.becomeShadow else s.setRole role

/-- What this module says of itself in an election (R362). -/
def State.ownElection (s : State) : XcRecord :=
  .elect s.serial (s.cfg 0x2D00 2) Config.xcVersion s.mode true

/-- A CTRL item of an election, sent before a pair exists (R362, Table 11.5). -/
def State.sendElection (s : State) : State :=
  let s := s.passSkip 5
  ({ s with twin.recOut := s.twin.recOut ++ [s.ownElection] } : State).send (.xcRecord s.ownElection)

/-- An election (R356, R362, R363, R381). -/
def State.election (s : State) (p : PeerInfo) : State :=
  if s.partnered || !s.foremanRuns || s.power.recovery then s
  else if !(s.power.twinSel && s.cfgOn 0x2D00 1) then { s with twin.pairCause := pcNoStrap }
  else if !s.laneUp then s
  else
    let s := (({ s.setXcLanes with twin.pairState := psElecting } : State).setFence true).sendElection
    let cause := s.pairRefusal p
    if cause != pcNone then
      ({ s with twin.pairCause := cause } : State).event .pairRefused .crosscut 0xFF (leBytes 1 cause)
    else
      let trust := s.trustOf p
      let s := { s with twin.peerTrust := trust }
      if trust == ptTrusted then s.formPair p else s

/-- The meaning of PAIR_ELECTION (R356, R357, R362, R363, R381; log 41). -/
def execPairElection (peer : PeerInfo) (s : State) : Host.Outcome State Fault Refusal := ran s (s.election peer)

/-! ## Records in the fabric's order -/

/-- A key of a pair-wide RWA or RWS object (R332). -/
def pairKey (k : Nat) : Bool := pairWide (k / 256) (k % 256) && (storable k).isSome

/-- What the Active sends to an attaching module (R237, R332, R378). -/
def State.copyState (s : State) : CopyState :=
  { live := s.dict.live.filter fun x => pairKey x.1
    staged := s.modes.staged.filter fun x => pairWide (x.1 / 256) (x.1 % 256)
    use := s.smelter.use, nextUse := s.nextUse, ppl := s.sv.ppl, lpf := s.sv.lpf, fieldStarts := s.sv.fieldStarts
    epoch := s.epochNo, zeroTime := if s.modes.zeroDone then some s.modes.epochZeroTime else none }

/-- The Active's pair-wide values taken in place of the module's own, and its epoch number (R27, R314, R332). -/
def State.takeCopy (s : State) (c : CopyState) : State :=
  let old := s.cfg
  let live := c.live.foldl (fun m x => ObjMap.write m x.1 x.2) (s.dict.live.filter fun x => !pairKey x.1)
  let staged := c.staged.foldl (fun m x => ObjMap.put m x.1 x.2)
    (s.modes.staged.filter fun x => !pairWide (x.1 / 256) (x.1 % 256))
  let s := { s with dict.live := live, modes.staged := staged, smelter.use := c.use, sv.ppl := c.ppl, sv.lpf := c.lpf
                    sv.fieldStarts := c.fieldStarts, modes.epoch := .all c.epoch
                    modes.zeroDone := s.modes.zeroDone || c.zeroTime.isSome
                    modes.epochZeroTime := c.zeroTime.getD s.modes.epochZeroTime }
  let s := if s.nextUse < c.nextUse then s.reserveUse c.nextUse else s
  (s.linksEpoch old).noteStaged

/-- A write that the Active forwards: staged, committed or cancelled here (R329, R366, R376, R377). -/
def State.takeForward (s : State) (index sub : Nat) (data : List Byte) : State :=
  match index, sub with
  | 0x2000, 4 => if leNat data = 1 then s.commit else s.cancel
  | 0x2D00, 6 => ({ s with modes.swapStaged := true } : State).noteStaged
  | 0x2D00, 7 => ({ s with modes.detachStaged := true } : State).noteStaged
  | _, _ => s.stage index sub data

/-- A record that takes effect as soon as it is at the head: none for the ones that a command of their own takes. -/
def State.takeRecord (s : State) (r : XcRecord) : Option State :=
  match r with
  | .forwardWrite index sub data => if s.foremanRuns then some (if s.mirrors then s.takeForward index sub data else s) else none
  | .armUse v => if s.foremanRuns then some (if s.mirrors && s.nextUse != v then s.reserveUse v else s) else none
  | .copy c => if s.foremanRuns then some (if s.mirrors then s.takeCopy c else s) else none
  | .diverged cause => some (s.exposePair cause)
  | .elect .. => some s
  | _ => none

/-- The records at the head that need no command of their own, taken in order (R361). -/
def State.drainList (s : State) : List XcRecord → State
  | [] => { s with twin.recQueue := [] }
  | r :: l =>
    match s.takeRecord r with
    | some t => t.drainList l
    | none => { s with twin.recQueue := r :: l }

/-- The queue of records received, drained of what takes effect at once. -/
def State.drainRecords (s : State) : State := s.drainList s.twin.recQueue

/-- The record at the head, when it is of the kind that a command takes: its effect, then what follows it. -/
def State.popRecord (s : State) (f : XcRecord → Option (State → State)) : State :=
  match s.twin.recQueue with
  | r :: l =>
    match f r with
    | some g => (g { s with twin.recQueue := l }).drainRecords
    | none => s
  | [] => s

/-! ## Blocks -/

/-- The records that are next in REC_SEQ order, and what is held after them (R361). -/
def takeInOrder : Nat → Nat → List (Nat × List XcRecord) → Nat × List XcRecord × List (Nat × List XcRecord)
  | 0, next, held => (next, [], held)
  | n + 1, next, held =>
    match held.find? fun x => x.1 ≤ next && next < x.1 + x.2.length with
    | some x =>
      let r := takeInOrder n (x.1 + x.2.length) (held.filter fun y => next < y.1)
      (r.1, x.2.drop (next - x.1) ++ r.2.1, r.2.2)
    | none => (next, [], held.filter fun y => next < y.1)

/-- The records of a good block queued in their order; without a pair only their number is followed (R361). -/
def State.queueRecords (s : State) (b : XcBlock) : State :=
  if s.partnered then
    let held := if b.records.isEmpty then s.twin.recHeld else s.twin.recHeld ++ [(b.recSeq, b.records)]
    let r := takeInOrder (held.length + 1) s.twin.recNext held
    { s with twin.recNext := r.1, twin.recQueue := s.twin.recQueue ++ r.2.1, twin.recHeld := r.2.2 }.drainRecords
  else { s with twin.recNext := b.recSeq + b.records.length }

/-- Positions of the raster in force (units of 2^-48 px). -/
def Surveyor.places (v : Surveyor) : Nat := 2 ^ 24 * (max 1 v.lpf * max 1 v.ppl * 2 ^ 48)

/-- The position of the latest sample as a count from frame 0. -/
def Surveyor.whole (v : Surveyor) : Nat := ((v.frame * v.lpf + v.line) * v.ppl) * 2 ^ 48 + v.pos

/-- The position of a count. -/
def Surveyor.atWhole (v : Surveyor) (w : Nat) : Surveyor :=
  let w := w % v.places
  let line := w / 2 ^ 48 / max 1 v.ppl
  { v with pos := w % (max 1 v.ppl * 2 ^ 48), line := line % max 1 v.lpf, frame := line / max 1 v.lpf
           field := fieldOfLine v.fieldStarts (line % max 1 v.lpf) }

/-- RASTPOS of a count. -/
def Surveyor.rastposOf (v : Surveyor) (w : Nat) : Nat :=
  let u := v.atWhole w
  packPos { frame := u.frame, field := u.field, line := u.line, pixel := u.pos / 2 ^ 48, sub := u.pos % 2 ^ 48 / 2 ^ 40 }

/-- Count of a RASTPOS. -/
def Surveyor.wholeOf (v : Surveyor) (rastpos : Nat) : Nat :=
  let p := unpackPos rastpos
  ((p.frame * v.lpf + p.line) * v.ppl + p.pixel) * 2 ^ 48 + p.sub * 2 ^ 40

/-- A count moved by a signed amount. -/
def Surveyor.moved (v : Surveyor) (w : Nat) (d : Int) : Nat := (((w : Int) + d) % v.places).toNat

/-- Correction of a position carried forward from a sample: what the block corrects, and the difference of INC since. -/
def carry (corr incDiff : Int) (from_ to_ : Nat) : Int := corr + incDiff * ((to_ : Int) - from_)

/-- The Shadow's raster placed on the Active's position at B_SIDX. -/
def State.placeRaster (s : State) (b : XcBlock) : State :=
  { s with sv := s.sv.atWhole (s.sv.wholeOf b.rastpos + b.ncoInc * (s.sv.sidx - b.bSidx)), twin.ownPos := [] }

/-- INC, corrections, RASTER_STATE and shape of the raster from the Active; a position that differs is a RASTER
divergence (R365; log 41). -/
def State.followRaster (s : State) (b : XcBlock) : State :=
  let reshaped := b.ppl != s.sv.ppl || b.lpf != s.sv.lpf
  let s := { s with sv.ppl := b.ppl, sv.lpf := b.lpf, sv.fieldStarts := b.fieldStarts }
  let s := s.setRaster b.rasterState s.sv.lockCause
  let s :=
    if reshaped then s.placeRaster b
    else
      match s.twin.ownPos.find? fun x => x.1 == b.bSidx with
      | none => s
      | some (_, w, inc) =>
        if s.sv.rastposOf (s.sv.moved w b.corr) == b.rastpos then
          let d : Int := (b.ncoInc : Int) - inc
          { s with sv := s.sv.atWhole (s.sv.moved s.sv.whole (carry b.corr d b.bSidx s.sv.sidx))
                   twin.ownPos := s.twin.ownPos.map fun x =>
                     if b.bSidx < x.1 then (x.1, s.sv.moved x.2.1 (carry b.corr d b.bSidx x.1), b.ncoInc) else x }
        else (s.diverge dcRaster).placeRaster b
  { s with sv.inc := b.ncoInc }

/-- SHAFT_DIGEST of 192 samples: CRC-32 over level and branch of each (Table 12.2); a sample that the Shaft did not
decide counts with the level in force and no branch. -/
def State.digestOf (s : State) (start : Nat) : Word :=
  crc32 ((List.range 192).flatMap fun i =>
    match s.shaft.digest.find? fun e => e.1 == start + i with
    | some e => [e.2.1, e.2.2]
    | none => [BitVec.ofNat 8 s.shaft.level, 0xFF])

/-- The module's own samples of a block have passed. -/
def State.digestReady (s : State) (start : Nat) : Bool :=
  start + 191 < s.sv.sidx || (start + 191 == s.sv.sidx && (!s.shaft.running || s.shaft.decided == some s.sv.sidx))

/-- Blocks whose digests wait. -/
def digestMax : Nat := 64

/-- The partner's SHAFT_DIGEST compared, or kept until the module's own samples have passed (R369). -/
def State.peerDigest (s : State) (start : Nat) (d : Word) : State :=
  if s.paired then
    if s.digestReady start then (if s.digestOf start == d then s else s.diverge dcShaft)
    else { s with twin.digestPeer := (s.twin.digestPeer ++ [(start, d)]).drop ((s.twin.digestPeer.length + 1) - digestMax) }
  else s

/-- Digests kept whose samples have passed. -/
def State.settleDigests (s : State) : State :=
  let due := s.twin.digestPeer.filter fun x => s.digestReady x.1
  due.foldl (fun s x => s.peerDigest x.1 x.2)
    { s with twin.digestPeer := s.twin.digestPeer.filter fun x => !s.digestReady x.1 }

/-- HEALTH codes (Table 12.2). -/
def healthHandover : Nat := 1

/-- The Active hands over: a Shadow takes over at once, a module that captures nothing goes on alone (R375). -/
def State.takeHealth (s : State) (health : Nat) : State :=
  if health == healthHandover && s.mirrors then
    if s.mode == 5 then { s with modes.forced := s.modes.forced.or (some (.takeover, s.twin.peerMode)) }
    else if s.mode == 1 && s.role == roleShadow then { s with modes.forced := s.modes.forced.or (some (.takeover, 1)) }
    else s.endPair roleSolo
  else s

/-- A good block (R361, R364, R365, R369, R371, R375). -/
def State.goodBlock (s : State) (b : XcBlock) : State :=
  let s := { s with twin.peerRxUp := b.rxUp }
  let s := if b.beat then { s with twin.beatSeen := true, twin.missedRun := 0 } else s
  if s.partnered then
    let s := { s with shaft.peerSources := s.shaft.peerSources ++ [(b.bSidx, b.partner)]
                      twin.peerMode := if s.mode == 5 || b.health != 0 then s.twin.peerMode else b.mode
                      twin.phaseError := if s.mirrors then b.phaseError else s.twin.phaseError }
    let s := if s.follows && s.modes.zeroDone then s.followRaster b else s
    ((s.peerDigest b.bSidx b.shaftDigest).queueRecords b).takeHealth b.health
  else s.queueRecords b

/-- A block (R361). -/
def State.takeBlock (s : State) (b : XcBlock) : State :=
  if b.bad then ({ s with twin.blocksLost := inc32 s.twin.blocksLost } : State).xcSend (.nack b.frameSeq)
  else s.goodBlock b

/-- The meaning of XC_BLOCK_RECEIVE (R360, R361, R364, R365, R369, R371, R375). -/
def execXcBlockReceive (b : XcBlock) (s : State) : Host.Outcome State Fault Refusal :=
  if b.ok then ran s (s.takeBlock b) else .fault .illFormed

/-! ## Comparison records -/

/-- The meaning of XC_HDR_RECORD (R369). -/
def execXcHdrRecord (s : State) : Host.Outcome State Fault Refusal :=
  ran s (s.popRecord fun r =>
    match r with
    | .hdr q _ crc seq => some fun s => if s.paired then s.peerHdr q.val seq crc else s
    | _ => none)

/-! ## Doors, cursors and rings on a Shadow -/

/-- The Shadow has made an ingot of a SEQ, or had made it before a restart (R369, Table 12.4). -/
def State.hasMade (s : State) (q seq : Nat) : Bool :=
  seq < (s.stream q).nextSeq || (s.stream q).waiting.any fun i => i.seq == seq

/-- The Active's decision on one SEQ (R367, R369). -/
def State.doorRecord (s : State) (q seq : Nat) (kept : Bool) : State :=
  if s.hasMade q seq then
    ({ s with twin.doorPeer := s.twin.doorPeer ++ [(q, seq, kept)] } : State).shadowDoor q
  else s.diverge dcDoor

/-- The meaning of XC_DOOR_RECORD (R203, R218, R367, R369). -/
def execXcDoorRecord (s : State) : Host.Outcome State Fault Refusal :=
  ran s (s.popRecord fun r =>
    match r with
    | .door q first count bitmap =>
      some fun s =>
        if s.isShadow then
          (List.range count).foldl (fun s i => s.doorRecord q.val (first + i) (bitmap.getLsbD i)) s
        else s
    | _ => none)

/-- A CURSOR record stored, with its CONFIRM; a new Active that waits for the HANDOFF position goes on from it (R368,
R376). -/
def State.cursorRecordIn (s : State) (n : Nat) (h : n < 64) (c : CursorRec) : State :=
  let s := ({ s with twin.cursors := vmod s.twin.cursors n fun _ => some c } : State).xcSend (.confirm ⟨n, h⟩ c.gen)
  if s.twin.awaitHandoff.getLsbD n && c.handoff then s.takeUpRing .none n else s

/-- The meaning of XC_CURSOR_RECORD (R368, R376). -/
def execXcCursorRecord (s : State) : Host.Outcome State Fault Refusal :=
  ran s (s.popRecord fun r =>
    match r with
    | .cursor n gen wrPos lastSeq writtenSeq handoff =>
      some fun s => s.cursorRecordIn n.val n.isLt { gen, wrPos, lastSeq, writtenSeq, handoff }
    | _ => none)

/-- The meaning of XC_CONFIRM_RECORD (R368). -/
def execXcConfirmRecord (s : State) : Host.Outcome State Fault Refusal :=
  ran s (s.popRecord fun r =>
    match r with
    | .confirm n gen => some fun s => s.confirmCursor n.val gen
    | _ => none)

/-- The ingots from a SEQ on; none when every one lies before it. -/
def fromSeq (first : Nat) (l : List Ingot) : List Ingot :=
  if l.any fun i => i.seq == first then l.dropWhile fun i => i.seq != first
  else
    match l.getLast? with
    | some i => if i.seq < first then [] else l
    | none => []

/-- An ACK record: RD_POS, and the ingots that the host has returned are freed (R367). -/
def State.ackRecord (s : State) (n rdPos first : Nat) : State :=
  let s := s.onRing n fun r => { r with rdPos }
  match s.streamOn n with
  | some q => s.onStream q fun m => { m with shadowKept := fromSeq first m.shadowKept }
  | none => s

/-- The meaning of XC_ACK_RECORD (R367). -/
def execXcAckRecord (s : State) : Host.Outcome State Fault Refusal :=
  ran s (s.popRecord fun r =>
    match r with
    | .ack n rdPos first => some fun s => if s.isShadow then s.ackRecord n.val rdPos first else s
    | _ => none)

/-- The meaning of XC_RING_RECORD (R367). -/
def execXcRingRecord (s : State) : Host.Outcome State Fault Refusal :=
  ran s (s.popRecord fun r =>
    match r with
    | .ring n base cursor sizeOrder enable irq =>
      some fun s =>
        if s.mirrors then
          { s with twin.ringSettings := vmod s.twin.ringSettings n.val fun _ => some { base, cursor, sizeOrder, enable, irq } }
        else s
    | _ => none)

/-- State of a transfer: loaded at once where F has come, else kept for it (R370, R378). -/
def State.syncRecord (s : State) (x : SyncState) : State :=
  match s.twin.syncBase with
  | some base => s.loadSync x base
  | none => { s with twin.syncIn := some x }

/-- The meaning of XC_SYNC_RECORD (R370, R378). -/
def execXcSyncRecord (s : State) : Host.Outcome State Fault Refusal :=
  ran s (s.popRecord fun r =>
    match r with
    | .sync x => some fun s => if s.mirrors then s.syncRecord x else s
    | _ => none)

/-- A lost block's records are sent again (R361). -/
def State.resend (s : State) (frameSeq : Nat) : State :=
  match s.twin.recSent.find? fun x => x.1 == frameSeq with
  | some x => { s with twin.recAgain := s.twin.recAgain ++ [x.2] }
  | none => s

/-- The meaning of XC_NACK_RECORD (R361). -/
def execXcNackRecord (s : State) : Host.Outcome State Fault Refusal :=
  ran s (s.popRecord fun r =>
    match r with
    | .nack frameSeq => some fun s => s.resend frameSeq
    | _ => none)

/-! ## Epochs in a pair -/

/-- The Active's decision on a check or on a committed change (R28, R366). -/
def State.peerDecides (s : State) (go : Bool) : State :=
  match s.modes.check with
  | some e => if go then s.checkPasses else s.checkFails e 0
  | none =>
    if s.modes.committed.isSome then
      (if go then { s with twin.go := some true } else s.abortChange ceNotReady 0)
    else s

/-- The meaning of XC_EPOCH_GO (R366). -/
def execXcEpochGo (s : State) : Host.Outcome State Fault Refusal :=
  ran s (s.popRecord fun r =>
    match r with
    | .epochGo => some fun s => if s.mirrors then s.peerDecides true else s
    | _ => none)

/-- The meaning of XC_EPOCH_ABORT (R28, R366). -/
def execXcEpochAbort (s : State) : Host.Outcome State Fault Refusal :=
  ran s (s.popRecord fun r =>
    match r with
    | .epochAbort => some fun s => if s.mirrors then s.peerDecides false else s
    | _ => none)

/-- The meaning of SHADOW_READY_REPORT (R24, R366). -/
def execShadowReadyReport (s : State) : Host.Outcome State Fault Refusal :=
  ran s (s.popRecord fun r =>
    match r with
    | .shadowReady ready => some fun s => if s.needsShadow then { s with twin.shadowReady := some ready } else s
    | _ => none)

/-- The meaning of SHADOW_APPLY_REPORT (R28, R366). -/
def execShadowApplyReport (s : State) : Host.Outcome State Fault Refusal :=
  ran s (s.popRecord fun r =>
    match r with
    | .shadowApplied ok => some fun s => if s.needsShadow then { s with twin.shadowApplied := some ok } else s
    | _ => none)

/-! ## Divergence and resynchronisation -/

/-- The next SEQ of a stream on a Shadow has no DOOR record (Table 12.4). -/
def State.doorLacks (s : State) (q : Nat) : Bool :=
  match (s.stream q).waiting with
  | i :: _ => i.isSealed && (s.peerDoor q i.seq).isNone
  | [] => false

/-- The meaning of DOOR_RECORD_TIMEOUT (R369, Table 12.4; log 17). -/
def execDoorRecordTimeout (q : Fin 64) (s : State) : Host.Outcome State Fault Refusal :=
  ran s (if s.isShadow && s.doorLacks q.val then s.diverge dcDoor else s)

/-- Phase error that exposes a pair, fine bins (R364). -/
def phaseLimit : Nat := 16

/-- The meaning of PHASE_EXPOSED: the error has stood for 1 ms (R364; log 17). -/
def execPhaseExposed (s : State) : Host.Outcome State Fault Refusal :=
  ran s (if s.mirrors && phaseLimit < s.twin.phaseError.natAbs then s.diverge dcPhase else s)

/-- Two lines have passed since a sample (R370). -/
def State.twoLinesSince (s : State) (d : Nat) : Bool := 2 * s.sv.ppl * 2 ^ 48 ≤ (s.sv.sidx - d) * s.sv.inc

/-- An ingot ended after a sample. -/
def Ingot.closesAfter (i : Ingot) (d : Nat) : Bool := d < i.sidx + max 1 i.span

/-- Every compression restarts (R230, R370). -/
def State.freshCarry (s : State) : State :=
  { s with seams := vmap s.seams fun _ m => { m with freshStream := true, freshWindow := true } }

/-- The frame start F of a resynchronisation after a divergence on sample `d` (R230, R370). -/
def State.startResync (s : State) (d : Nat) : State :=
  let s := ({ s with twin.resyncDue := none, twin.resyncAt := some (s.sv.sidx, s.sv.up), twin.hdrOwn := [], twin.hdrPeer := []
                     twin.digestPeer := [] } : State).freshCarry
  if s.role == roleActive then s.xcSend (.sync s.syncState)
  else
    ({ s with twin.doorPeer := []
              streams := vmap s.streams fun _ m =>
                { m with waiting := m.waiting.filter fun i => !i.closesAfter d
                         shadowKept := m.shadowKept.filter fun i => !i.closesAfter d } } : State).expectSync

/-- Every class-A ingot admitted before an instant has been returned by the host (R370, R378). -/
def State.allReturned (s : State) (door : Nat) : Bool :=
  (s.streams.toList.all fun m =>
    (m.backlog ++ m.written ++ m.shadowKept).all fun i => door ≤ i.door) &&
  ((List.range 64).all fun n => (s.streamOn n).isNone || (s.ring n).laid.all fun x => door ≤ x.2.2)

/-- A frame start in a pair that is EXPOSED: the transfer starts, or the pair returns to LOCKSTEP (R370, R378). -/
def State.resync (s : State) : State :=
  if s.paired && s.sv.frameStart then
    match s.twin.resyncDue, s.twin.resyncAt with
    | some d, _ => if s.twoLinesSince d then s.startResync d else s
    | none, some (f, up) =>
      if f < s.sv.sidx && s.allReturned up then { s with twin.pairState := psLockstep, twin.resyncAt := none } else s
    | none, none => s
  else s

/-- The meaning of RESYNC (R230, R370). -/
def execResync (s : State) : Host.Outcome State Fault Refusal := ran s s.resync

/-! ## The stripe set -/

/-- Transmit lanes enabled, voted (R360, Table 11.2). -/
def State.xcEnabled (s : State) : LaneSet := BitVec.ofNat 4 (s.regs.lanes.value.toNat / 2 ^ 48)

/-- All four lanes. -/
def fullSet : LaneSet := 0xF

/-- Fewer than four lanes are in use, or four again: CROSSCUT_DEGRADED, CROSSCUT_RESTORED (R360). -/
def State.noteLanes (s : State) (set : LaneSet) : State :=
  if set == fullSet then
    (if s.twin.degraded then ({ s with twin.degraded := false } : State).event .crosscutRestored .crosscut else s)
  else if set == 0 || s.twin.degraded then s
  else ({ s with twin.degraded := true } : State).fault .notice .crosscutDegraded .crosscut

/-- A change of the stripe set takes effect (R360). -/
def State.laneSet (s : State) (set : LaneSet) : State :=
  let new := set &&& s.xcEnabled
  ({ s with twin.lanesUp := new } : State).noteLanes new

/-- The meaning of LANE_SET_CHANGE (R360). -/
def execLaneSetChange (set : LaneSet) (s : State) : Host.Outcome State Fault Refusal := ran s (s.laneSet set)

/-! ## The Canary -/

/-- Samples of the free-running clock since reset, on which the Crosscut runs before SIDX counts (R371; log 41). -/
def State.beatClock (s : State) : Nat := if s.modes.zeroDone then s.sv.sidx else s.sv.up / freePeriod

/-- Samples between beats (R371). -/
def beatSpan : Nat := 3000

/-- Missed beats in a row that make a partner loss (R372). -/
def beatsLost : Nat := 8

/-- What every partner loss does (R331, R341, R347, R372). -/
def State.losePartner (s : State) : State :=
  let s := s.event .partnerLost .crosscut 0xFF (leBytes 1 (bit s.twin.fenceIn))
  (s.dropClaims .twin).resetCage .twinRemote

/-- An Active goes Solo (R213, R368, R372). -/
def State.activeAlone (s : State) : State :=
  let s := (s.takeUpRest.endPair roleSolo).releaseCursors
  s.takeoverDue false

/-- A Shadow or an attaching module without its partner: a takeover when the partner has stopped, else it leaves the
pair (R372). -/
def State.shadowAlone (s : State) : State :=
  let high := s.twin.fenceIn
  if s.mode == 5 then
    { s with modes.forced := s.modes.forced.or (some (if high then (.partnerLink, 1) else (.takeover, s.twin.peerMode))) }
  else if high || s.role == roleAttaching then (s.endPair roleUnpaired).setFence false
  else if s.mode == 1 then { s with modes.forced := s.modes.forced.or (some (.takeover, 1)) }
  else s.endPair roleSolo

/-- A partner loss (R372). -/
def State.partnerLoss (s : State) : State :=
  let s := s.losePartner
  (if s.mirrors then s.shadowAlone else s.activeAlone).settlePartner

/-- A boundary of 3,000 samples (R371, R372). -/
def State.canary (s : State) : State :=
  if s.partnered && s.beatClock % beatSpan == 0 then
    if s.twin.beatSeen then { s with twin.beatSeen := false, twin.missedRun := 0 }
    else
      let s := { s with twin.beatsMissed := inc32 s.twin.beatsMissed, twin.missedRun := s.twin.missedRun + 1 }
      if s.twin.missedRun == beatsLost then s.partnerLoss else s
  else s

/-- The meaning of CANARY_BOUNDARY (R371, R372). -/
def execCanaryBoundary (s : State) : Host.Outcome State Fault Refusal := ran s s.canary

/-! ## Attach -/

/-- Every ring's settings sent (R367, R378). -/
def State.sendRings (s : State) : State := (List.range 64).foldl State.sendRing s

/-- Phase alignment is complete (R378). -/
def State.attachAligned (s : State) : State :=
  if s.twin.pairState == psAligning then
    let s := { s with twin.pairState := psCopying }
    if s.role == roleActive then (s.xcSend (.copy s.copyState)).sendRings else s
  else s

/-- The meaning of ATTACH_ALIGNED (R332, R364, R378). -/
def execAttachAligned (s : State) : Host.Outcome State Fault Refusal := ran s s.attachAligned

/-- The Active's sample number, time and raster position taken (R7, R61, R365). -/
def State.adopt (s : State) (sidx time rastpos inc : Nat) : State :=
  let v := { s.sv with sidx, time := timeOf96 time, inc }
  { s with sv := v.atWhole (v.wholeOf rastpos), twin.ownPos := [] }

/-- The Active re-arms its own mode, with nothing else in the change (R19, R378). -/
def State.rearmMode (s : State) : State :=
  if s.changePending || !s.modes.staged.isEmpty || s.modes.swapStaged || s.modes.detachStaged || s.modes.check.isSome then s
  else s.commitTaken { target := s.mode, base := s.mode, at_ := s.linesAhead 3 }

/-- Copying is complete (R365, R378). -/
def State.attachCopied (s : State) (sidx time rastpos inc : Nat) : State :=
  if s.twin.pairState == psCopying then
    if s.mirrors then
      let s := if s.modes.zeroDone then s.adopt sidx time rastpos inc else s
      if s.role == roleShadow then { s with twin.pairState := psLockstep } else s
    else if s.capturing then s.rearmMode
    else { s with twin.pairState := psLockstep }
  else s

/-- The meaning of ATTACH_COPIED (R7, R61, R365, R378). -/
def execAttachCopied (sidx time96 rastpos inc : Nat) (s : State) : Host.Outcome State Fault Refusal :=
  ran s (s.attachCopied sidx time96 rastpos inc)

end Sys2Proof.Machine
end

