-- ==== Sys2Proof/Machine/Dispatch.lean ====
section
/-! DEFINITION. The dispatch: one arm per constructor of `Instr`, each one call of that command's meaning. -/

namespace Sys2Proof.Machine

/-- The effect of a command on everything but the queue. -/
def exec (i : Instr) (s : State) : Host.Outcome State Fault Refusal :=
  match i with
  | .powerOn nodeId twinSel dncTied => Sys2Proof.Machine.execPowerOn nodeId twinSel dncTied s
  | .bootComplete => Sys2Proof.Machine.execBootComplete s
  | .resetNAssert periods => Sys2Proof.Machine.execResetNAssert periods s
  | .moduleReset via data => Sys2Proof.Machine.execModuleReset via data s
  | .perstNAssert periods => Sys2Proof.Machine.execPerstNAssert periods s
  | .perstNRelease => Sys2Proof.Machine.execPerstNRelease s
  | .configRequest r => Sys2Proof.Machine.execConfigRequest r s
  | .dlDown => Sys2Proof.Machine.execDlDown s
  | .functionLevelResetPf0 => Sys2Proof.Machine.execFunctionLevelResetPf0 s
  | .functionLevelResetPf1 => Sys2Proof.Machine.execFunctionLevelResetPf1 s
  | .foremanWatchdogTrip cause => Sys2Proof.Machine.execForemanWatchdogTrip cause s
  | .powerFailDetect cause => Sys2Proof.Machine.execPowerFailDetect cause s
  | .powerFailRelease => Sys2Proof.Machine.execPowerFailRelease s
  | .foremanBrownout => Sys2Proof.Machine.execForemanBrownout s
  | .stagedObjectWrite via index sub data => Sys2Proof.Machine.execStagedObjectWrite via index sub data s
  | .commit via => Sys2Proof.Machine.execCommit via s
  | .cancel via => Sys2Proof.Machine.execCancel via s
  | .fabricPowerUpDone ok rcalOhms => Sys2Proof.Machine.execFabricPowerUpDone ok rcalOhms s
  | .hbmTrainingDone ok => Sys2Proof.Machine.execHbmTrainingDone ok s
  | .samplePllLock => Sys2Proof.Machine.execSamplePllLock s
  | .readyEntryLinkTimeout => Sys2Proof.Machine.execReadyEntryLinkTimeout s
  | .readyEntry missing => Sys2Proof.Machine.execReadyEntry missing s
  | .readyDeadline missing => Sys2Proof.Machine.execReadyDeadline missing s
  | .epochInstant => Sys2Proof.Machine.execEpochInstant s
  | .applyCheckEnd failed => Sys2Proof.Machine.execApplyCheckEnd failed s
  | .rollbackEpoch failed => Sys2Proof.Machine.execRollbackEpoch failed s
  | .forcedEpoch => Sys2Proof.Machine.execForcedEpoch s
  | .hbmSelfRefreshEntry => Sys2Proof.Machine.execHbmSelfRefreshEntry s
  | .refClockLost => Sys2Proof.Machine.execRefClockLost s
  | .refClockReturn stretched => Sys2Proof.Machine.execRefClockReturn stretched s
  | .dllLock => Sys2Proof.Machine.execDllLock s
  | .dllFault => Sys2Proof.Machine.execDllFault s
  | .syncPulse pin p => Sys2Proof.Machine.execSyncPulse pin p s
  | .trsWord k channel => Sys2Proof.Machine.execTrsWord k channel s
  | .refLineStart at_ => Sys2Proof.Machine.execRefLineStart at_ s
  | .refFrameComplete f => Sys2Proof.Machine.execRefFrameComplete f s
  | .missingLineStart => Sys2Proof.Machine.execMissingLineStart s
  | .noReferenceTimeout => Sys2Proof.Machine.execNoReferenceTimeout s
  | .holdoverLong => Sys2Proof.Machine.execHoldoverLong s
  | .relock stretched => Sys2Proof.Machine.execRelock stretched s
  | .timeOfDay via data => Sys2Proof.Machine.execTimeOfDay via data s
  | .timeSet via data => Sys2Proof.Machine.execTimeSet via data s
  | .ppsInEdge => Sys2Proof.Machine.execPpsInEdge s
  | .ppsLost => Sys2Proof.Machine.execPpsLost s
  | .ppsOutRise => Sys2Proof.Machine.execPpsOutRise s
  | .ppsOutFall => Sys2Proof.Machine.execPpsOutFall s
  | .linkClockRecovered l => Sys2Proof.Machine.execLinkClockRecovered l s
  | .linkLevelsConverged l => Sys2Proof.Machine.execLinkLevelsConverged l s
  | .linkSearchTimeout l => Sys2Proof.Machine.execLinkSearchTimeout l s
  | .noPartnerRetry l => Sys2Proof.Machine.execNoPartnerRetry l s
  | .linkLevelsTimeout l => Sys2Proof.Machine.execLinkLevelsTimeout l s
  | .linkFrameTimeout l => Sys2Proof.Machine.execLinkFrameTimeout l s
  | .linkFecTimeout l => Sys2Proof.Machine.execLinkFecTimeout l s
  | .partnerRxFail l => Sys2Proof.Machine.execPartnerRxFail l s
  | .probeFrameReceive l f => Sys2Proof.Machine.execProbeFrameReceive l f s
  | .linkUncorrectableLoss l => Sys2Proof.Machine.execLinkUncorrectableLoss l s
  | .linkSequenceLoss l => Sys2Proof.Machine.execLinkSequenceLoss l s
  | .linkDrift l => Sys2Proof.Machine.execLinkDrift l s
  | .signalLost l => Sys2Proof.Machine.execSignalLost l s
  | .controlMessageAckTimeout n => Sys2Proof.Machine.execControlMessageAckTimeout n s
  | .feMessage via n data => Sys2Proof.Machine.execFeMessage via n data s
  | .counterClear via n data => Sys2Proof.Machine.execCounterClear via n data s
  | .seamJoin k => Sys2Proof.Machine.execSeamJoin k s
  | .ingotClose k copy => Sys2Proof.Machine.execIngotClose k copy s
  | .smelterSeal k copy => Sys2Proof.Machine.execSmelterSeal k copy s
  | .grizzlyDoor q => Sys2Proof.Machine.execGrizzlyDoor q s
  | .shaftDecision => Sys2Proof.Machine.execShaftDecision s
  | .markOutAssert n => Sys2Proof.Machine.execMarkOutAssert n s
  | .markOutPulseEnd n => Sys2Proof.Machine.execMarkOutPulseEnd n s
  | .extLineCrossing line taps nextTap => Sys2Proof.Machine.execExtLineCrossing line taps nextTap s
  | .lineStuck line => Sys2Proof.Machine.execLineStuck line s
  | .flagInputAccept n level => Sys2Proof.Machine.execFlagInputAccept n level s
  | .segmentPostDone => Sys2Proof.Machine.execSegmentPostDone s
  | .segmentRearm => Sys2Proof.Machine.execSegmentRearm s
  | .segRelease via data => Sys2Proof.Machine.execSegRelease via data s
  | .calStart via data => Sys2Proof.Machine.execCalStart via data s
  | .calComplete hist => Sys2Proof.Machine.execCalComplete hist s
  | .drainBinEnd => Sys2Proof.Machine.execDrainBinEnd s
  | .ringFullTimeout q => Sys2Proof.Machine.execRingFullTimeout q s
  | .heldListRejoin q => Sys2Proof.Machine.execHeldListRejoin q s
  | .suspensionEnd cause => Sys2Proof.Machine.execSuspensionEnd cause s
  | .pcieLinkDown recovery => Sys2Proof.Machine.execPcieLinkDown recovery s
  | .pcieLinkL0 speed lanes hostFlit => Sys2Proof.Machine.execPcieLinkL0 speed lanes hostFlit s
  | .imageWrite p ecc headerBad => Sys2Proof.Machine.execImageWrite p ecc headerBad s
  | .cursorRecordWrite ring => Sys2Proof.Machine.execCursorRecordWrite ring s
  | .eventQueueEntryWrite => Sys2Proof.Machine.execEventQueueEntryWrite s
  | .rdStart via => Sys2Proof.Machine.execRdStart via s
  | .rdStop via => Sys2Proof.Machine.execRdStop via s
  | .readoutDone => Sys2Proof.Machine.execReadoutDone s
  | .smjEnable => Sys2Proof.Machine.execSmjEnable s
  | .smjDisable => Sys2Proof.Machine.execSmjDisable s
  | .smjTailWrite v => Sys2Proof.Machine.execSmjTailWrite v s
  | .smjHaltedClear => Sys2Proof.Machine.execSmjHaltedClear s
  | .jobDescriptorFetch => Sys2Proof.Machine.execJobDescriptorFetch s
  | .jobDescriptorReceive data => Sys2Proof.Machine.execJobDescriptorReceive data s
  | .jobStart => Sys2Proof.Machine.execJobStart s
  | .jobComplete engine slot => Sys2Proof.Machine.execJobComplete engine slot s
  | .assayResultClose k => Sys2Proof.Machine.execAssayResultClose k s
  | .assayResultEnqueue k => Sys2Proof.Machine.execAssayResultEnqueue k s
  | .ringEnable ring => Sys2Proof.Machine.execRingEnable ring s
  | .ringDisable ring => Sys2Proof.Machine.execRingDisable ring s
  | .ringRdPosWrite ring v => Sys2Proof.Machine.execRingRdPosWrite ring v s
  | .msixDelayExpiry ring => Sys2Proof.Machine.execMsixDelayExpiry ring s
  | .msixTableWrite fn offset v => Sys2Proof.Machine.execMsixTableWrite fn offset v s
  | .busMasterClear => Sys2Proof.Machine.execBusMasterClear s
  | .busMasterSet => Sys2Proof.Machine.execBusMasterSet s
  | .d3hotEntry => Sys2Proof.Machine.execD3hotEntry s
  | .d0Return => Sys2Proof.Machine.execD0Return s
  | .memorySpaceDisable fn => Sys2Proof.Machine.execMemorySpaceDisable fn s
  | .completionReceive tag st data => Sys2Proof.Machine.execCompletionReceive tag st data s
  | .completionTimeout tag => Sys2Proof.Machine.execCompletionTimeout tag s
  | .tagRelease tag => Sys2Proof.Machine.execTagRelease tag s
  | .ideKeyProgram k p session => Sys2Proof.Machine.execIdeKeyProgram k p session s
  | .ideStreamLost k => Sys2Proof.Machine.execIdeStreamLost k s
  | .pf1MemoryRequest r => Sys2Proof.Machine.execPf1MemoryRequest r s
  | .aspmL1Entry => Sys2Proof.Machine.execAspmL1Entry s
  | .l0pRequest width => Sys2Proof.Machine.execL0pRequest width s
  | .dictRead via index sub => Sys2Proof.Machine.execDictRead via index sub s
  | .dictWrite via index sub data => Sys2Proof.Machine.execDictWrite via index sub data s
  | .store via => Sys2Proof.Machine.execStore via s
  | .storeErase via => Sys2Proof.Machine.execStoreErase via s
  | .storeCommitDone ok => Sys2Proof.Machine.execStoreCommitDone ok s
  | .canRead port client brs index sub token => Sys2Proof.Machine.execCanRead port client brs index sub token s
  | .canWrite port client brs index sub token len data => Sys2Proof.Machine.execCanWrite port client brs index sub token len data s
  | .canWriteInit port client brs index sub token len => Sys2Proof.Machine.execCanWriteInit port client brs index sub token len s
  | .canSegment port client brs seg data => Sys2Proof.Machine.execCanSegment port client brs seg data s
  | .canEnd port client brs segments crc => Sys2Proof.Machine.execCanEnd port client brs segments crc s
  | .canAck port client brs next => Sys2Proof.Machine.execCanAck port client brs next s
  | .canAbort port client brs index sub token => Sys2Proof.Machine.execCanAbort port client brs index sub token s
  | .canFrameIgnored port => Sys2Proof.Machine.execCanFrameIgnored port s
  | .canTimeout port client => Sys2Proof.Machine.execCanTimeout port client s
  | .canBusOffRecovery port => Sys2Proof.Machine.execCanBusOffRecovery port s
  | .slotGoRead fn k stream => Sys2Proof.Machine.execSlotGoRead fn k stream s
  | .slotGoWrite fn k stream => Sys2Proof.Machine.execSlotGoWrite fn k stream s
  | .slotGoPartnerRead fn k stream => Sys2Proof.Machine.execSlotGoPartnerRead fn k stream s
  | .slotGoPartnerWrite fn k stream => Sys2Proof.Machine.execSlotGoPartnerWrite fn k stream s
  | .secureSessionTimeout k => Sys2Proof.Machine.execSecureSessionTimeout k s
  | .partnerRequestReceive => Sys2Proof.Machine.execPartnerRequestReceive s
  | .claimRead m j zeroLength => Sys2Proof.Machine.execClaimRead m j zeroLength s
  | .claimRelease m j owner => Sys2Proof.Machine.execClaimRelease m j owner s
  | .claimForceRelease j => Sys2Proof.Machine.execClaimForceRelease j s
  | .cageSend side => Sys2Proof.Machine.execCageSend side s
  | .cagePop side => Sys2Proof.Machine.execCagePop side s
  | .bellRaise side mask => Sys2Proof.Machine.execBellRaise side mask s
  | .bellClear side mask => Sys2Proof.Machine.execBellClear side mask s
  | .bellMaskWrite side mask => Sys2Proof.Machine.execBellMaskWrite side mask s
  | .voteMismatch field c0 c1 c2 => Sys2Proof.Machine.execVoteMismatch field c0 c1 c2 s
  | .skipPointerMismatch k writing reading => Sys2Proof.Machine.execSkipPointerMismatch k writing reading s
  | .skipFlush k writing reading => Sys2Proof.Machine.execSkipFlush k writing reading s
  | .registerWrite m w => Sys2Proof.Machine.execRegisterWrite m w s
  | .pairElection peer => Sys2Proof.Machine.execPairElection peer s
  | .xcBlockReceive b => Sys2Proof.Machine.execXcBlockReceive b s
  | .xcHdrRecord => Sys2Proof.Machine.execXcHdrRecord s
  | .xcDoorRecord => Sys2Proof.Machine.execXcDoorRecord s
  | .xcCursorRecord => Sys2Proof.Machine.execXcCursorRecord s
  | .xcConfirmRecord => Sys2Proof.Machine.execXcConfirmRecord s
  | .xcAckRecord => Sys2Proof.Machine.execXcAckRecord s
  | .xcRingRecord => Sys2Proof.Machine.execXcRingRecord s
  | .xcSyncRecord => Sys2Proof.Machine.execXcSyncRecord s
  | .xcNackRecord => Sys2Proof.Machine.execXcNackRecord s
  | .xcEpochGo => Sys2Proof.Machine.execXcEpochGo s
  | .xcEpochAbort => Sys2Proof.Machine.execXcEpochAbort s
  | .shadowReadyReport => Sys2Proof.Machine.execShadowReadyReport s
  | .shadowApplyReport => Sys2Proof.Machine.execShadowApplyReport s
  | .doorRecordTimeout q => Sys2Proof.Machine.execDoorRecordTimeout q s
  | .phaseExposed => Sys2Proof.Machine.execPhaseExposed s
  | .resync => Sys2Proof.Machine.execResync s
  | .laneSetChange set => Sys2Proof.Machine.execLaneSetChange set s
  | .canaryBoundary => Sys2Proof.Machine.execCanaryBoundary s
  | .roleSwap via data => Sys2Proof.Machine.execRoleSwap via data s
  | .detach via data => Sys2Proof.Machine.execDetach via data s
  | .attachAligned => Sys2Proof.Machine.execAttachAligned s
  | .attachCopied sidx time96 rastpos inc => Sys2Proof.Machine.execAttachCopied sidx time96 rastpos inc s
  | .sensorSample readings => Sys2Proof.Machine.execSensorSample readings s
  | .thermalClear => Sys2Proof.Machine.execThermalClear s
  | .hbmHotClear stack => Sys2Proof.Machine.execHbmHotClear stack s
  | .throttleEngage => Sys2Proof.Machine.execThrottleEngage s
  | .throttleRelease => Sys2Proof.Machine.execThrottleRelease s
  | .faultRaise f byHandler => Sys2Proof.Machine.execFaultRaise f byHandler s
  | .faultHandle => Sys2Proof.Machine.execFaultHandle s
  | .faultAck via data => Sys2Proof.Machine.execFaultAck via data s
  | .logEntryCommit => Sys2Proof.Machine.execLogEntryCommit s
  | .logReadAt via data => Sys2Proof.Machine.execLogReadAt via data s
  | .logClear via data => Sys2Proof.Machine.execLogClear via data s
  | .updateBegin via => Sys2Proof.Machine.execUpdateBegin via s
  | .updateData via data => Sys2Proof.Machine.execUpdateData via data s
  | .updateVerify via => Sys2Proof.Machine.execUpdateVerify via s
  | .updateCommit via => Sys2Proof.Machine.execUpdateCommit via s
  | .updateCommitDone ok => Sys2Proof.Machine.execUpdateCommitDone ok s
  | .updateAbort via => Sys2Proof.Machine.execUpdateAbort via s
  | .updateConfirm via => Sys2Proof.Machine.execUpdateConfirm via s
  | .ownerKey via data => Sys2Proof.Machine.execOwnerKey via data s
  | .lcAdvance via data => Sys2Proof.Machine.execLcAdvance via data s
  | .lifeCycleSelfReset => Sys2Proof.Machine.execLifeCycleSelfReset s
  | .lcChallenge via nonce => Sys2Proof.Machine.execLcChallenge via nonce s
  | .lcDebugAuth via data => Sys2Proof.Machine.execLcDebugAuth via data s
  | .lcReturn via data => Sys2Proof.Machine.execLcReturn via data s
  | .keyLoad via data => Sys2Proof.Machine.execKeyLoad via data s
  | .keyErase via data => Sys2Proof.Machine.execKeyErase via data s
  | .useReset via data => Sys2Proof.Machine.execUseReset via data s
  | .useReserveCommit ok => Sys2Proof.Machine.execUseReserveCommit ok s
  | .resetNRelease nodeId twinSel => Sys2Proof.Machine.execResetNRelease nodeId twinSel s
  | .samplePllNoLock => Sys2Proof.Machine.execSamplePllNoLock s
  | .prbsCheck n bits => Sys2Proof.Machine.execPrbsCheck n bits s
  | .canBusError port tx => Sys2Proof.Machine.execCanBusError port tx s
  | .l0pDeviceRequest width => Sys2Proof.Machine.execL0pDeviceRequest width s

end Sys2Proof.Machine
end

