-- ==== Sys2Proof/Machine/Transmit.lean ====
section
/-! DEFINITION. The transmit half of a link, once every 192 samples (R77): TRAIN frames with the training word (R96, R97),
DATA frames with control messages (R90, R91), precoding (R80, R99), test patterns and loops (R111, R113, R114). -/

namespace Sys2Proof.Machine

/-- KIND of a frame (Table 3.3). -/
def kindData : Nat := 0
def kindTrain : Nat := 1

/-- STATE of a training word, codes 1 to 6 of Table 3.6; in TEST as far as the receiver has trained (R113; log 57). -/
def Link.reported (m : Link) : Nat := if m.state == lsTest then (if m.framed then lsFec else lsFrame) else m.state

/-- The training word (Table 3.7). -/
def Link.trainingWord (m : Link) (port : Nat) : Nat :=
  0xA5 * 2 ^ 48 + m.reported * 2 ^ 45 + bit m.precodeWant * 2 ^ 44 + bit m.precodePend.isSome * 2 ^ 43 +
    bit m.precodeTx * 2 ^ 42 + port % 256 * 2 ^ 32

/-- The control message of a frame: the one in progress, or IDLE (R91; log 57). -/
def Link.messageOf (m : Link) (n : Nat) : List Byte :=
  match m.msg with
  | some b => b
  | none => [0, Config.idleTag n m.txSeq m.msgTag] ++ List.replicate 62 0

/-- The symbols of the next frame, not precoded: TRAIN, or DATA with its message (R90, R96, R97). -/
def Link.nextFrame (m : Link) (port : Nat) (data : Bool) : List (Fin 4) :=
  if data then frameLevels m.txSeq kindData 0 (messagePayload (m.messageOf port))
  else frameLevels m.txSeq kindTrain (m.trainingWord port) (List.replicate payloadBits false)

/-- Precoding begins with the first frame of SEQ 0 after at least 16 frames of PRECODE_PEND (R80, R99). -/
def Link.startPrecode (m : Link) : Link :=
  match m.precodePend with
  | some k => if pendFrames ≤ k && m.txSeq == 0 then { m with precodePend := none, precodeTx := true, txPrev := 0 } else m
  | none => m

/-- What a frame sent leaves: the next SEQ, the frames with PRECODE_PEND, the last symbol (R80, R83, R99). -/
def Link.frameSent (m : Link) (symbols : List (Fin 4)) : Link :=
  { m with txSeq := (m.txSeq + 1) % 256, precodePend := m.precodePend.map (· + 1)
           txPrev := if m.precodeTx then symbols.getLastD 0 else m.txPrev }

/-- The next `n` bits of a pattern, and the generator after them (R111). -/
def prbsRun (pattern : Nat) : Nat → List Bool → List Bool × List Bool
  | 0, r => ([], r)
  | n + 1, r =>
    let b := prbsNext pattern r
    let x := prbsRun pattern n ((b :: r).take 31)
    (b :: x.1, x.2)

/-- Bits in pairs as symbols, the first bit the more significant (Table 3.1). -/
def bitSymbols : List Bool → List (Fin 4)
  | a :: b :: l => graySymbol (2 * bit a + bit b) :: bitSymbols l
  | _ => []

/-- Symbols of one frame period (R77). -/
def frameUi : Nat := 1700

/-- One frame period of a test pattern, and the link after it (R111). -/
def Link.sendPattern (m : Link) (pattern : Nat) : Link × List (Fin 4) :=
  let x := prbsRun pattern (2 * frameUi) m.txPrbs
  ({ m with txPrbs := x.2 }, bitSymbols x.1)

/-- One frame period of FAR_END once framed: the oldest frame of the elastic buffer, or the last one again on underflow
(R114). -/
def Link.sendLoop (m : Link) : Link × List (Fin 4) :=
  match m.loopBuf with
  | x :: l => ({ m with loopBuf := l, loopLast := x }, x)
  | [] => ({ m with loopSlips := inc32 m.loopSlips }, m.loopLast)

/-- One frame of the transmit half, TRAIN or DATA, precoded where precoding is on (R77, R80, R90, R96, R97, R99). -/
def Link.sendFrame (m : Link) (port : Nat) (data : Bool) : Link × List (Fin 4) :=
  let m := m.startPrecode
  let plain := m.nextFrame port data
  let symbols := if m.precodeTx then precode m.txPrev plain else plain
  (m.frameSent symbols, symbols)

/-- What the transmit half of a probe link does in one frame period: pattern, far-end loop, or a frame (R111, R114). -/
def State.linkOut (s : State) (n : Nat) : Link × List (Fin 4) :=
  let m := s.link n
  let test := m.state == lsTest
  let pattern := s.cfg (0x2200 + n) 4
  if test && s.cfg (0x2200 + n) 6 == 3 && m.framed then m.sendLoop
  else if test && pattern != 0 then m.sendPattern pattern
  else m.sendFrame n (s.sendsData n)

/-- A near-end loop takes what the transmit half sends into the receiver: frames, or a pattern's bits (R113, Table 3.10). -/
def State.loopBack (s : State) (n : Fin 48) (symbols : List (Fin 4)) : State :=
  if s.cfg (0x2200 + n.val) 4 == 0 then s.testFrame n { levels := symbols, ui := 0, arrival := s.sv.sidx }
  else s.checkBits n.val (pairBits (symbols.map Fin.val))

/-- One frame period of the transmit half of a probe link (R77, R98). -/
def State.probeOut (s : State) (n : Fin 48) : State :=
  if s.rxOn (.probe n) then
    let x := s.linkOut n.val
    let s := (s.onLink n.val fun _ => x.1).send (.frame (.probe n) x.2)
    if s.ballsUsed n.val then s else s.loopBack n x.2
  else s

/-- One frame period of a lane: TRAIN frames until bring-up is past R97; its DATA frames carry the blocks (R358, R359). -/
def State.laneOut (s : State) (k : Fin 4) : State :=
  if s.rxOn (.lane k) then
    let m := s.rx (.lane k)
    let x := m.sendFrame k.val m.trained
    let s := s.onRx (.lane k) fun _ => x.1
    if m.trained then s else s.send (.frame (.lane k) x.2)
  else s

/-- The transmit halves of every link and lane, one frame period on (R77, R358). -/
def State.sendFrames (s : State) : State :=
  (List.finRange 4).foldl State.laneOut ((List.finRange 48).foldl State.probeOut s)

end Sys2Proof.Machine
end

