-- ==== Sys2Proof/Machine/Tick.lean ====
section
/-! DEFINITION. What one period of the 3 GHz sample clock does while no command waits (log 1): what the latest sample
determines and no command has done yet, the Crosscut's blocks (R358 to R361, R371), then the next sample: SIDX (R7),
TIME96 (R66, R68), the NCO (R56). -/

namespace Sys2Proof.Machine

/-! ## The latest sample is finished -/

/-- Samples made in holdover or without the reference, and with the DLL in FAULT (R43, R60). -/
def State.markSample (s : State) : State :=
  let s := if s.sv.state == rsHoldover || s.sv.refLost then { s with sv.holdMark := s.sv.holdMark.put s.sv.sidx } else s
  if s.sv.dllState == 2 then { s with sv.dllMark := s.sv.dllMark.put s.sv.sidx } else s

/-- Every seam joins and every copy is cut where the latest sample asks for it (R107, R121, R184, R186). -/
def State.cutDue (s : State) : State :=
  let s := (List.range 48).foldl State.seamJoin s
  let s := s.segmentPostDone.segmentRearm
  (List.range 48).foldl (fun s k => (s.ingotClose k .stream).ingotClose k .window) s

/-- What the latest sample determines in the capture fabric and no command has done (R121, R143, R148, R183, R250). -/
def State.captureDue (s : State) : State :=
  let s := s.markSample.cutDue.numberClosed.flushWindows
  let s := s.shaftDecision.numberClosed.flushWindows
  let s := (List.range 32).foldl State.assayBoundary s
  let s := (List.range 32).foldl State.assaySample s.settleSample
  { s with seams := vmap s.seams fun _ m => m.trim s.sv.sidx }

/-- The Surveyor takes samples and SIDX counts (R7, R36). -/
def State.inFabric (s : State) : Bool := s.samples && s.modes.zeroDone

/-! ## Blocks sent -/

/-- Bytes of a record in a block (Table 12.3; log 41). -/
def xcBytes : XcRecord → Nat
  | .hdr .. => 16 | .door .. => 24 | .cursor .. => 32 | .confirm .. => 8 | .ack .. => 16 | .ring .. => 32
  | .sync _ => 255 | .nack _ => 8 | .armUse _ => 72 | .epochGo => 72 | .epochAbort => 72 | .shadowReady _ => 72
  | .shadowApplied _ => 72 | .partnerRequest _ => 72 | .partnerResult .. => 72 | .forwardWrite .. => 72 | .copy _ => 72
  | .diverged _ => 72 | .elect .. => 72

/-- The records from the front that fit some bytes. -/
def fitRecords : Nat → List XcRecord → List XcRecord
  | _, [] => []
  | n, r :: l => if xcBytes r ≤ n then r :: fitRecords (n - xcBytes r) l else []

/-- Lanes in a set. -/
def laneCount (l : LaneSet) : Nat := ((List.range 4).filter fun i => l.getLsbD i).length

/-- Bytes of a block before its records (Table 12.2). -/
def blockHead : Nat := 0xA0

/-- Bytes for records in a block (R359). -/
def State.recordRoom (s : State) : Nat := 384 * laneCount s.twin.lanesUp - blockHead

/-- Lanes whose receiver is UP (Table 12.1). -/
def State.lanesRx (s : State) : LaneSet := BitVec.ofNat 4 (maskOf 4 fun l => (vget s.xc l {}).state == lsUp)

/-- ROLE of a block (Table 12.2). -/
def blockRole (role : Nat) : Nat :=
  if role = roleActive then 1 else if role = roleShadow then 2 else if role = roleAttaching then 3 else 0

/-- The source values of PARTNER[k] on 192 samples (Table 12.2). -/
def State.partnerPart (s : State) (start k : Nat) : BitVec 192 :=
  BitVec.ofNat 192 (maskOf 192 fun i => s.shaft.ownAt k (start + i))

/-- The correction of the position that the NCO made beside INC since the block before (R365; log 41). -/
def State.rasterCorr (s : State) (start : Nat) : Int :=
  match s.twin.ownPos.find? fun x => x.1 == start, s.twin.ownPos.find? fun x => x.1 + 192 == start with
  | some x, some y =>
    let m : Int := s.sv.places
    let d := ((x.2.1 : Int) - y.2.1 - 192 * y.2.2) % m
    if 2 * d < m then d else d - m
  | _, _ => 0

/-- The block carries a beat: the first at or after a multiple of 3,000 samples (R371). -/
def carriesBeat (start : Nat) : Bool := start == 0 || (start - 192) / beatSpan < start / beatSpan

/-- The records of the next block, with the number of the first: a lost block's again, or the next in line (R361). -/
def State.blockRecords (s : State) : Nat × List XcRecord :=
  match s.twin.recAgain with
  | x :: _ => x
  | [] => (s.twin.recSeqOut, fitRecords s.recordRoom s.twin.recOut)

/-- The block over 192 samples from `start` (Table 12.2). -/
def State.makeBlock (s : State) (start : Nat) : XcBlock :=
  let pos := s.twin.ownPos.find? fun x => x.1 == start
  let r := s.blockRecords
  { bad := false, frameSeq := (vget s.xc 0 {}).txSeq, txLanes := s.twin.lanesUp, rxUp := s.lanesRx, bSidx := start
    beat := carriesBeat start, role := blockRole s.role, health := s.twin.health, mode := s.mode, epoch := s.epochNo
    beatSeq := s.twin.beatSeq, recSeq := r.1, rastpos := (pos.map fun x => s.sv.rastposOf x.2.1).getD 0
    ncoInc := (pos.map fun x => x.2.2).getD s.sv.inc, corr := s.rasterCorr start, rasterState := s.sv.state, ppl := s.sv.ppl
    lpf := s.sv.lpf, fieldStarts := s.sv.fieldStarts, shaftDigest := s.digestOf start, phase := 64 * start % 2 ^ 32
    phaseError := 0, partner := (List.range 4).map fun k => s.partnerPart start k, records := r.2 }

/-- Blocks whose records are kept for a NACK. -/
def sentMax : Nat := 256

/-- The records of a block leave the queue, and are kept for a NACK (R361). -/
def State.recordsSent (s : State) (b : XcBlock) : State :=
  let s := match s.twin.recAgain with
    | _ :: l => { s with twin.recAgain := l }
    | [] => { s with twin.recOut := s.twin.recOut.drop b.records.length
                     twin.recSeqOut := (s.twin.recSeqOut + b.records.length) % 2 ^ 32 }
  if b.records.isEmpty then s
  else { s with twin.recSent := ((b.frameSeq, b.recSeq, b.records) :: s.twin.recSent).take sentMax }

/-- A block is sent while the Crosscut runs over some lane (R359 to R361, R371, R375). -/
def State.sendBlock (s : State) (start : Nat) : State :=
  if s.power.twinSel && s.twin.lanesUp != 0 then
    let s := if carriesBeat start then { s with twin.beatSeq := (s.twin.beatSeq + 1) % 2 ^ 32 } else s
    let b := s.makeBlock start
    let s := (s.recordsSent b).send (.xcBlock b)
    { s with twin.health := 0 }
  else s

/-- The end of a frame: the grid of 192 samples (R358, R359). -/
def State.frameDue (s : State) : State :=
  if s.beatClock % 192 == 191 then (s.sendBlock (s.beatClock - 191)).sendFrames else s

/-- The position is kept at a multiple of 192 samples (R361, R365). -/
def State.keepPos (s : State) : State :=
  if s.inFabric && s.sv.sidx % 192 == 0 then
    { s with twin.ownPos := ((s.sv.sidx, s.sv.whole, s.sv.inc) :: s.twin.ownPos).take 16 }
  else s

/-! ## The next sample -/

/-- Correction of TIME96 on one sample, at most TIME_SLEW_MAX ppm of the period (R68). -/
def State.slewStep (s : State) : Int :=
  let limit : Int := s.sv.period * s.cfg 0x2100 0x15 / 1000000
  clampInt s.sv.slew (-limit) limit

/-- TIME96 and the time since reset, one sample on (R66, R68). -/
def State.advanceTime (s : State) : State :=
  let d := s.slewStep
  { s with sv.time := ((s.sv.time : Int) + s.sv.period + d).toNat, sv.advance := ((s.sv.period : Int) + d).toNat, sv.slew := s.sv.slew - d, sv.up := s.sv.up + s.sv.period }

/-- SIDX and the raster, one sample on (R7, R56, R76). -/
def State.advanceSample (s : State) : State :=
  let s := if s.modes.zeroDone then { s with sv.sidx := (s.sv.sidx + 1) % 2 ^ 64 } else s
  if s.samples then
    let s := { s with sv := s.sv.nco (s.cfg 0x2100 0x0F) }
    let s := if s.sv.lineStart then s.noteSpans else s
    if s.sv.state == rsHoldover then { s with sv.holdoverSmp := add64 s.sv.holdoverSmp 1 } else s
  else s

/-- The HBM leaves self-refresh for what needs it (R13). -/
def State.wakeHbm (s : State) : State :=
  if s.mode == 1 && s.power.hbm == .selfRefresh && !s.hbmIdle then { s with power.hbm := .active } else s

/-- The clock runs: the device is powered and out of reset (R66, R395). -/
def State.clocked (s : State) : Bool := s.power.phase == .booting || s.power.phase == .running

/-- One sample of the clock, the queue left out. -/
def State.sampled (s : State) : State :=
  if s.clocked then
    let s := if s.inFabric then s.captureDue else s
    let s := s.showLevels.keepPos
    let s := if s.power.phase == .running then (s.settleDigests.settlePartner.serveWaiting).drainRecords.frameDue.wakeHbm else s
    s.advanceTime.advanceSample
  else s

/-- One sample of the clock (log 1); the queue of commands stays as it is. -/
def tick (s : State) : State := { s.sampled with pending := s.pending }

end Sys2Proof.Machine
end

