-- ==== Sys2Proof/Safety.lean ====
section
/-! DEFINITION. The terms in which statements are made: completion of a command, the invariant of the queue, the parts
of the state that a frame names, a write that every check of the dictionary lets pass. -/

namespace Sys2Proof.Machine

/-- The command runs to its end and leaves `t`, with the queue as it found it. -/
def Completes (c : Instr) (s t : State) : Prop := exec c s = .next { t with pending := s.pending }

/-- Every waiting command has operands that the outside can present. -/
def QueueOk (s : State) : Prop := ∀ c ∈ s.pending, c.wf = true

/-- The parts of the state. -/
inductive Part where
  | power | modes | sv | links | xc | seams | closing | streams | shaft | grizzly | smelter | slots | hf | dict | regs
  | twin | fm | nv | sent | free
deriving DecidableEq, Repr

/-- Two states agree on a part. -/
def Part.same (s t : State) : Part → Prop
  | .power => t.power = s.power
  | .modes => t.modes = s.modes
  | .sv => t.sv = s.sv
  | .links => t.links = s.links
  | .xc => t.xc = s.xc
  | .seams => t.seams = s.seams
  | .closing => t.closing = s.closing
  | .streams => t.streams = s.streams
  | .shaft => t.shaft = s.shaft
  | .grizzly => t.grizzly = s.grizzly
  | .smelter => t.smelter = s.smelter
  | .slots => t.slots = s.slots
  | .hf => t.hf = s.hf
  | .dict => t.dict = s.dict
  | .regs => t.regs = s.regs
  | .twin => t.twin = s.twin
  | .fm => t.fm = s.fm
  | .nv => t.nv = s.nv
  | .sent => t.sent = s.sent
  | .free => t.free = s.free

/-- `t` differs from `s` at most in the parts listed. -/
structure OnlyChanges (l : List Part) (s t : State) : Prop where
  /-- Every other part is as it was. -/
  same : ∀ p, p ∉ l → p.same s t

/-- A write request that the Foreman serves and that passes every check of Table 10.2 up to VALUE_RANGE (R305). -/
def Passes (s : State) (via : Path) (index sub : Nat) (data : List Byte) : Prop :=
  s.foremanRuns = true ∧ accessCode via index sub true = 0 ∧
    ∃ r, objectRow index sub = some r ∧ s.writeCode via r index sub data = 0

/-- The answer to a write request: an abort code, 0 when it was taken (R305). -/
def State.answer (s : State) (via : Path) (index sub code : Nat) : State := s.send (.dictReply via index sub code [])

/-- The state in which an event, a notice or a fault report may leave the device: only the skips it passes, the log and
the class-B queue differ. -/
def Reported (s t : State) : Prop :=
  ∃ (k : Vector Skip 6) (seq : Nat) (log : List LogEntry) (m : List MergeKey) (q : List ClassBItem) (r : Bool) (d : Nat),
    t = { s with regs.skips := k, fm.entrySeq := seq, fm.toLog := log, fm.merge := m, grizzly.classB := q
                 grizzly.classBRun := r, grizzly.classBDropped := d }

/-- Everything volatile is at its reset value but the phase, the straps and the level of PERST_N; flash and one-time
memory stay, and pins that were driven are let go (Table 1.8). -/
def Cold (s : State) (phase : Phase) (nodeId : BitVec 7) (twinSel : Bool) (t : State) : Prop :=
  ∃ l : List Sent, (∀ x ∈ l, ∃ n b, x = .pin n b) ∧
    t = { power := { phase, nodeId, twinSel, perst := s.power.perst }, nv := s.nv, sent := l ++ s.sent, free := s.free
          pending := s.pending }

/-- Every stream keeps its ingots: those written that no cursor record covered are to be written again (R286). -/
def KeepsIngots (s t : State) : Prop :=
  ∀ q : Fin 64, t.streams[q].backlog = s.streams[q].written ++ s.streams[q].backlog ∧ t.streams[q].written = [] ∧
    t.streams[q].waiting = s.streams[q].waiting ∧ t.streams[q].nextSeq = s.streams[q].nextSeq ∧
    t.streams[q].armed = s.streams[q].armed

/-- The Headframe is at its reset values, its two functions with it; capture, the mode, the raster, the Shaft and the ingots
go on (R272). -/
def HostReset (s t : State) : Prop :=
  (t.hf.ready = false ∧ t.hf.l0 = false ∧ t.hf.bme = false ∧ t.hf.d3hot = false) ∧
  (t.hf.rings = Vector.replicate 65 {} ∧ t.hf.msix0 = Vector.replicate 256 {} ∧ t.hf.msix1 = Vector.replicate 16 {}) ∧
  t.hf.ide = Vector.replicate 4 none ∧ KeepsIngots s t ∧
  OnlyChanges [.power, .hf, .dict, .regs, .streams, .grizzly, .smelter, .twin, .fm] s t

/-- A write to the dictionary may start anything that its object stands for; no free value is taken. -/
def Part.served : List Part :=
  [.power, .modes, .sv, .links, .xc, .seams, .closing, .streams, .shaft, .grizzly, .smelter, .slots, .hf, .dict, .regs,
   .twin, .fm, .nv, .sent]

/-- Bytes left for host memory at an address: every TLP of the write, cut and in its selective stream as R270 and R278 have
it. -/
def HostWrote (s t : State) (addr : Nat) (data : List Byte) : Prop :=
  ∀ x ∈ cutTlps s.maxPayloadSize data.length addr data, Sent.hostWrite (s.ideFor x.1) x.1 x.2 ∈ t.sent

/-- The parts of the state that a command may change; it leaves every other part as it was. -/
def touches (c : Instr) : List Part :=
  match c with
  | .powerOn .. =>
    [.power, .modes, .sv, .links, .xc, .seams, .closing, .streams, .shaft, .grizzly, .smelter, .slots, .hf, .dict,
     .regs, .twin, .fm, .sent]
  | .bootComplete =>
    [.power, .modes, .sv, .links, .xc, .seams, .closing, .streams, .shaft, .grizzly, .smelter, .hf, .dict, .regs,
     .twin, .fm, .nv, .sent, .free]
  | .resetNAssert .. =>
    [.power, .modes, .sv, .links, .xc, .seams, .closing, .streams, .shaft, .grizzly, .smelter, .slots, .hf, .dict,
     .regs, .twin, .fm, .sent]
  | .moduleReset .. => Part.served
  | .perstNAssert .. => [.power, .streams, .grizzly, .smelter, .hf, .dict, .regs, .twin, .fm, .sent]
  | .perstNRelease => [.power, .regs]
  | .configRequest .. => [.power, .streams, .grizzly, .smelter, .hf, .dict, .regs, .twin, .fm, .sent]
  | .dlDown => [.power, .streams, .grizzly, .smelter, .hf, .dict, .regs, .twin, .fm, .sent]
  | .functionLevelResetPf0 => [.power, .streams, .grizzly, .smelter, .hf, .dict, .regs, .twin, .fm, .sent]
  | .functionLevelResetPf1 => [.power, .grizzly, .hf, .dict, .regs, .twin, .sent]
  | .foremanWatchdogTrip .. => [.power, .modes, .grizzly, .hf, .dict, .regs, .fm, .sent]
  | .powerFailDetect .. =>
    [.power, .modes, .sv, .links, .xc, .seams, .closing, .streams, .shaft, .grizzly, .smelter, .slots, .hf, .dict,
     .twin, .fm, .nv, .sent]
  | .powerFailRelease =>
    [.power, .modes, .sv, .links, .xc, .seams, .closing, .streams, .shaft, .grizzly, .smelter, .slots, .hf, .dict,
     .regs, .twin, .fm, .sent]
  | .foremanBrownout => Part.served
  | .stagedObjectWrite .. => Part.served
  | .commit .. => Part.served
  | .cancel .. => Part.served
  | .fabricPowerUpDone .. =>
    [.power, .modes, .sv, .links, .xc, .seams, .closing, .shaft, .grizzly, .smelter, .regs, .twin, .fm]
  | .hbmTrainingDone .. =>
    [.power, .modes, .sv, .links, .xc, .seams, .closing, .shaft, .grizzly, .smelter, .regs, .twin, .fm]
  | .samplePllLock => [.sv]
  | .readyEntryLinkTimeout => [.modes]
  | .readyEntry .. =>
    [.power, .modes, .sv, .links, .xc, .seams, .closing, .shaft, .grizzly, .smelter, .hf, .dict, .regs, .twin, .fm, .sent]
  | .readyDeadline .. => [.modes, .grizzly, .regs, .twin, .fm, .sent]
  | .epochInstant =>
    [.power, .modes, .sv, .links, .xc, .seams, .closing, .streams, .shaft, .grizzly, .smelter, .slots, .hf, .dict,
     .regs, .twin, .fm, .sent, .free]
  | .applyCheckEnd .. => [.modes, .shaft, .regs, .twin, .sent]
  | .rollbackEpoch .. =>
    [.power, .modes, .sv, .links, .xc, .seams, .closing, .streams, .shaft, .grizzly, .smelter, .slots, .hf, .dict,
     .regs, .twin, .fm, .sent, .free]
  | .forcedEpoch =>
    [.power, .modes, .sv, .links, .xc, .seams, .closing, .streams, .shaft, .grizzly, .smelter, .slots, .hf, .dict,
     .regs, .twin, .fm, .sent, .free]
  | .hbmSelfRefreshEntry => [.power]
  | .refClockLost => [.modes, .sv, .links, .xc, .seams, .grizzly, .regs, .fm]
  | .refClockReturn .. => [.modes, .sv, .links, .xc, .seams, .grizzly, .regs, .fm]
  | .dllLock => [.sv]
  | .dllFault => [.sv]
  | .syncPulse .. => [.sv]
  | .trsWord .. => [.sv]
  | .refLineStart .. => [.sv, .grizzly, .regs, .twin, .fm, .free]
  | .refFrameComplete .. => [.modes, .sv, .links, .xc, .seams, .grizzly, .regs, .fm]
  | .missingLineStart => [.sv, .grizzly, .regs, .fm]
  | .noReferenceTimeout => [.sv]
  | .holdoverLong => [.sv, .grizzly, .regs, .fm]
  | .relock .. => [.modes, .sv, .links, .xc, .seams, .grizzly, .regs, .fm]
  | .timeOfDay .. => Part.served
  | .timeSet .. => Part.served
  | .ppsInEdge => [.sv, .grizzly, .regs, .fm]
  | .ppsLost => [.sv, .grizzly, .regs, .fm]
  | .ppsOutRise => [.power, .sent]
  | .ppsOutFall => [.power, .sent]
  | .linkClockRecovered .. => [.links, .xc]
  | .linkLevelsConverged .. => [.links, .xc]
  | .linkSearchTimeout .. => [.links, .xc, .grizzly, .regs, .fm]
  | .noPartnerRetry .. => [.links, .xc]
  | .linkLevelsTimeout .. => [.sv, .links, .xc, .seams, .grizzly, .regs, .fm]
  | .linkFrameTimeout .. => [.sv, .links, .xc, .seams, .grizzly, .regs, .fm]
  | .linkFecTimeout .. => [.sv, .links, .xc, .seams, .grizzly, .regs, .fm]
  | .partnerRxFail .. => [.links, .xc, .grizzly, .regs, .fm]
  | .probeFrameReceive .. => [.sv, .links, .xc, .seams, .grizzly, .regs, .fm]
  | .linkUncorrectableLoss .. => [.sv, .links, .xc, .seams, .grizzly, .regs, .fm]
  | .linkSequenceLoss .. => [.sv, .links, .xc, .seams, .grizzly, .regs, .fm]
  | .linkDrift .. => [.sv, .links, .xc, .seams, .grizzly, .regs, .fm]
  | .signalLost .. => [.sv, .links, .xc, .seams, .grizzly, .regs, .fm]
  | .controlMessageAckTimeout .. => [.links, .grizzly, .regs, .fm]
  | .feMessage .. => Part.served
  | .counterClear .. => Part.served
  | .seamJoin .. => [.seams, .closing]
  | .ingotClose .. => [.seams, .closing]
  | .smelterSeal .. => [.seams, .closing, .streams, .shaft, .smelter]
  | .grizzlyDoor .. => [.streams, .grizzly, .hf, .regs, .twin, .fm, .sent]
  | .shaftDecision => [.closing, .shaft]
  | .markOutAssert .. => [.shaft, .sent]
  | .markOutPulseEnd .. => [.shaft, .sent]
  | .extLineCrossing .. => [.shaft]
  | .lineStuck .. => [.shaft, .grizzly, .regs, .fm]
  | .flagInputAccept .. => [.shaft, .twin]
  | .segmentPostDone => [.seams, .closing, .shaft]
  | .segmentRearm => [.seams, .closing, .shaft, .grizzly, .smelter, .regs, .fm]
  | .segRelease .. => Part.served
  | .calStart .. => Part.served
  | .calComplete .. => [.shaft, .dict]
  | .drainBinEnd => [.grizzly, .regs, .fm]
  | .ringFullTimeout .. => [.streams, .grizzly, .regs, .fm]
  | .heldListRejoin .. => [.streams, .grizzly]
  | .suspensionEnd .. => [.grizzly, .regs, .fm]
  | .pcieLinkDown .. => [.grizzly, .hf, .regs, .fm]
  | .pcieLinkL0 .. => [.power, .streams, .grizzly, .hf, .regs, .fm, .sent]
  | .imageWrite .. => [.power, .modes, .sv, .links, .xc, .seams, .streams, .grizzly, .hf, .regs, .fm, .sent]
  | .cursorRecordWrite .. => [.power, .streams, .grizzly, .hf, .regs, .twin, .sent]
  | .eventQueueEntryWrite => [.power, .streams, .grizzly, .hf, .regs, .twin, .sent]
  | .rdStart .. => Part.served
  | .rdStop .. => Part.served
  | .readoutDone => [.shaft, .grizzly]
  | .smjEnable => [.smelter]
  | .smjDisable => [.smelter]
  | .smjTailWrite .. => [.smelter]
  | .smjHaltedClear => [.smelter]
  | .jobDescriptorFetch => [.power, .grizzly, .smelter, .hf, .sent]
  | .jobDescriptorReceive .. => [.power, .grizzly, .smelter, .hf, .regs, .sent]
  | .jobStart => [.power, .grizzly, .smelter, .hf, .regs, .sent]
  | .jobComplete .. => [.power, .grizzly, .smelter, .hf, .regs, .sent]
  | .assayResultClose .. => [.seams, .grizzly, .slots, .regs, .fm, .free]
  | .assayResultEnqueue .. => [.seams, .grizzly, .slots, .regs, .fm, .free]
  | .ringEnable .. => [.streams, .hf, .regs, .twin, .sent]
  | .ringDisable .. => [.power, .streams, .grizzly, .hf, .regs, .twin, .fm, .sent]
  | .ringRdPosWrite .. => [.grizzly, .hf, .regs, .twin, .fm, .sent]
  | .msixDelayExpiry .. => [.power, .grizzly, .hf, .sent]
  | .msixTableWrite .. => [.power, .grizzly, .hf, .sent]
  | .busMasterClear => [.grizzly, .smelter, .hf, .regs, .fm]
  | .busMasterSet => [.power, .streams, .grizzly, .smelter, .hf, .regs, .sent]
  | .d3hotEntry => [.grizzly, .smelter, .hf, .regs, .fm]
  | .d0Return => [.power, .streams, .grizzly, .smelter, .hf, .regs, .sent]
  | .memorySpaceDisable .. => [.hf]
  | .completionReceive .. => [.power, .grizzly, .smelter, .hf, .regs, .sent]
  | .completionTimeout .. => [.power, .grizzly, .smelter, .hf, .regs, .sent]
  | .tagRelease .. => [.hf]
  | .ideKeyProgram .. => [.power, .grizzly, .hf, .sent]
  | .ideStreamLost .. => [.grizzly, .hf, .dict, .regs, .twin, .fm]
  | .pf1MemoryRequest .. => .free :: Part.served
  | .aspmL1Entry => [.power, .grizzly, .hf, .regs, .fm]
  | .l0pRequest .. => [.hf, .sent]
  | .dictRead .. => [.dict, .fm, .nv, .sent, .free]
  | .dictWrite .. => Part.served
  | .store .. => Part.served
  | .storeErase .. => Part.served
  | .storeCommitDone .. => [.modes, .sv, .links, .xc, .seams, .grizzly, .dict, .regs, .fm, .nv]
  | .canRead .. => [.dict, .regs, .twin, .fm, .nv, .sent, .free]
  | .canWrite .. => Part.served
  | .canWriteInit .. => [.dict, .sent]
  | .canSegment .. => [.dict, .sent]
  | .canEnd .. => Part.served
  | .canAck .. => [.dict, .sent]
  | .canAbort .. => [.dict, .sent]
  | .canFrameIgnored .. => [.dict]
  | .canTimeout .. => [.dict, .sent]
  | .canBusOffRecovery .. => [.dict]
  | .slotGoRead .. => .free :: Part.served
  | .slotGoWrite .. => .free :: Part.served
  | .slotGoPartnerRead .. => .free :: Part.served
  | .slotGoPartnerWrite .. => .free :: Part.served
  | .secureSessionTimeout .. => [.dict, .twin]
  | .partnerRequestReceive => .free :: Part.served
  | .claimRead .. => [.regs, .sent]
  | .claimRelease .. => [.regs]
  | .claimForceRelease .. => [.regs]
  | .cageSend .. => [.power, .grizzly, .hf, .regs, .sent]
  | .cagePop .. => [.power, .grizzly, .hf, .regs, .sent]
  | .bellRaise .. => [.power, .grizzly, .hf, .regs, .sent]
  | .bellClear .. => [.regs]
  | .bellMaskWrite .. => [.power, .grizzly, .hf, .regs, .sent]
  | .voteMismatch .. => [.modes, .sv, .links, .xc, .seams, .grizzly, .regs, .twin, .fm]
  | .skipPointerMismatch .. => [.modes, .sv, .links, .xc, .seams, .grizzly, .smelter, .regs, .fm]
  | .skipFlush .. => [.smelter, .regs]
  | .registerWrite .. => .free :: Part.served
  | .pairElection .. => [.grizzly, .regs, .twin, .fm, .nv, .sent]
  | .xcBlockReceive .. =>
    [.power, .modes, .sv, .links, .xc, .seams, .closing, .streams, .shaft, .grizzly, .smelter, .hf, .dict, .regs,
     .twin, .fm, .sent]
  | .xcHdrRecord =>
    [.power, .modes, .sv, .links, .xc, .seams, .closing, .shaft, .grizzly, .smelter, .hf, .dict, .regs, .twin, .fm, .sent]
  | .xcDoorRecord =>
    [.power, .modes, .sv, .links, .xc, .seams, .closing, .streams, .shaft, .grizzly, .smelter, .hf, .dict, .regs,
     .twin, .fm, .sent]
  | .xcCursorRecord =>
    [.power, .modes, .sv, .links, .xc, .seams, .closing, .streams, .shaft, .grizzly, .smelter, .hf, .dict, .regs,
     .twin, .fm, .sent]
  | .xcConfirmRecord =>
    [.power, .modes, .sv, .links, .xc, .seams, .closing, .streams, .shaft, .grizzly, .smelter, .hf, .dict, .regs,
     .twin, .fm, .sent]
  | .xcAckRecord =>
    [.power, .modes, .sv, .links, .xc, .seams, .closing, .streams, .shaft, .grizzly, .smelter, .hf, .dict, .regs,
     .twin, .fm, .sent]
  | .xcRingRecord =>
    [.power, .modes, .sv, .links, .xc, .seams, .closing, .shaft, .grizzly, .smelter, .hf, .dict, .regs, .twin, .fm, .sent]
  | .xcSyncRecord =>
    [.power, .modes, .sv, .links, .xc, .seams, .closing, .streams, .shaft, .grizzly, .smelter, .slots, .hf, .dict,
     .regs, .twin, .fm, .sent]
  | .xcNackRecord =>
    [.power, .modes, .sv, .links, .xc, .seams, .closing, .shaft, .grizzly, .smelter, .hf, .dict, .regs, .twin, .fm, .sent]
  | .xcEpochGo =>
    [.power, .modes, .sv, .links, .xc, .seams, .closing, .shaft, .grizzly, .smelter, .hf, .dict, .regs, .twin, .fm, .sent]
  | .xcEpochAbort =>
    [.power, .modes, .sv, .links, .xc, .seams, .closing, .shaft, .grizzly, .smelter, .hf, .dict, .regs, .twin, .fm, .sent]
  | .shadowReadyReport =>
    [.power, .modes, .sv, .links, .xc, .seams, .closing, .shaft, .grizzly, .smelter, .hf, .dict, .regs, .twin, .fm, .sent]
  | .shadowApplyReport =>
    [.power, .modes, .sv, .links, .xc, .seams, .closing, .shaft, .grizzly, .smelter, .hf, .dict, .regs, .twin, .fm, .sent]
  | .doorRecordTimeout .. => [.grizzly, .regs, .twin, .fm, .sent]
  | .phaseExposed => [.grizzly, .regs, .twin, .fm, .sent]
  | .resync => [.seams, .streams, .shaft, .slots, .regs, .twin, .sent]
  | .laneSetChange .. => [.modes, .sv, .links, .xc, .seams, .grizzly, .regs, .twin, .fm]
  | .canaryBoundary => [.power, .modes, .closing, .streams, .grizzly, .hf, .dict, .regs, .twin, .fm, .sent]
  | .roleSwap .. => Part.served
  | .detach .. => Part.served
  | .attachAligned => [.regs, .twin, .sent]
  | .attachCopied .. => [.power, .modes, .sv, .grizzly, .hf, .regs, .twin, .sent]
  | .sensorSample .. => [.modes, .sv, .links, .xc, .seams, .grizzly, .regs, .fm]
  | .thermalClear => [.fm]
  | .hbmHotClear .. => [.fm]
  | .throttleEngage => [.grizzly, .regs, .fm]
  | .throttleRelease => [.fm]
  | .faultRaise .. => [.modes, .sv, .links, .xc, .seams, .grizzly, .hf, .regs, .fm, .sent]
  | .faultHandle => [.power, .modes, .sv, .links, .xc, .seams, .grizzly, .hf, .regs, .twin, .fm, .sent]
  | .faultAck .. => Part.served
  | .logEntryCommit => [.fm, .nv]
  | .logReadAt .. => Part.served
  | .logClear .. => Part.served
  | .updateBegin .. => Part.served
  | .updateData .. => Part.served
  | .updateVerify .. => Part.served
  | .updateCommit .. => Part.served
  | .updateCommitDone .. => [.fm, .nv]
  | .updateAbort .. => Part.served
  | .updateConfirm .. => Part.served
  | .ownerKey .. => Part.served
  | .lcAdvance .. => Part.served
  | .lifeCycleSelfReset =>
    [.power, .modes, .sv, .links, .xc, .seams, .closing, .streams, .shaft, .grizzly, .smelter, .slots, .hf, .dict,
     .regs, .twin, .fm, .sent]
  | .lcChallenge .. => [.fm, .nv, .sent]
  | .lcDebugAuth .. => Part.served
  | .lcReturn .. => Part.served
  | .keyLoad .. => Part.served
  | .keyErase .. => Part.served
  | .useReset .. => Part.served
  | .useReserveCommit .. => [.fm, .nv]
  | .resetNRelease .. =>
    [.power, .modes, .sv, .links, .xc, .seams, .closing, .streams, .shaft, .grizzly, .smelter, .slots, .hf, .dict,
     .regs, .twin, .fm, .sent]
  | .samplePllNoLock =>
    [.power, .modes, .sv, .links, .xc, .seams, .closing, .shaft, .grizzly, .smelter, .regs, .twin, .fm]
  | .prbsCheck .. => [.links]
  | .canBusError .. => [.dict]
  | .l0pDeviceRequest .. => [.hf, .sent]

end Sys2Proof.Machine
end

