-- ==== Sys2Proof/Certificates/Slice0/Obligations.lean ====
section
/-! DEFINITION. The statements about the model. Each names the rules of spec/ that it formalises. -/

open Sys2Proof Sys2Proof.Machine

/-! ## The queue -/

/-- A step takes the command at the front of the queue and runs it on the state with the queue's rest. -/
def Obligations.StepRunsTheFrontCommand : Prop :=
  ∀ (c : Instr) (rest : List Instr) (s : State),
    step { s with pending := c :: rest } = exec c { s with pending := rest }

/-- On an empty queue a step is one sample of the clock, and the queue stays empty (log 1). -/
def Obligations.EmptyQueueIsOneSample : Prop :=
  ∀ s : State, s.pending = [] → step s = .next (tick s) ∧ (tick s).pending = []

/-- Reset leaves no command waiting, the Foreman booting, and the mode, the epoch number, TIME96, the role, the
dictionary, the receivers and the rings' ENABLE at the values that the manual gives (R13, R33, R36, R94). -/
def Obligations.ResetState : Prop :=
  QueueOk State.reset ∧ State.reset.pending = [] ∧ State.reset.power.phase = .booting ∧ State.reset.mode = 0 ∧
    State.reset.epochNo = 0 ∧ State.reset.sv.time = 0 ∧ State.reset.role = 0 ∧ State.reset.dict.live = [] ∧
    (∀ l : LinkId, (State.reset.rx l).state = lsDisabled) ∧ (∀ n : Fin 65, (State.reset.ring n.val).enable = false)

/-- Every step of a well-formed queue runs: it neither faults nor is refused, takes exactly one command, and leaves a
well-formed queue. -/
def Obligations.EveryStepRunsAndKeepsTheQueue : Prop :=
  ∀ s : State, QueueOk s → ∃ t, step s = .next t ∧ QueueOk t ∧ t.pending = s.pending.tail

/-- A command stops the block only on operands that no wire can carry, and under that name. -/
def Obligations.OnlyIllFormedOperandsStop : Prop :=
  ∀ (c : Instr) (s : State),
    (c.wf = false → exec c s = .fault .illFormed) ∧ (c.wf = true → ∃ t, exec c s = .next t ∧ t.pending = s.pending)

/-- A command changes no part of the state but those it is listed with, and no waiting command (the frame of every
command). -/
def Obligations.CommandsTouchOnlyTheirParts : Prop :=
  ∀ (c : Instr) (s t : State), exec c s = .next t → OnlyChanges (touches c) s t ∧ t.pending = s.pending

/-! ## Power and resets -/

/-- Power-on, RESET_N, its release, the end of a power failure, a brownout, the self-reset of the life cycle and the
module reset leave everything volatile at its reset value and flash and one-time memory as they were, but for the note
of a brownout in a capture mode; power-on and the release of RESET_N sample the straps (R32 to R34, R37, R398, R406,
R424). -/
def Obligations.ColdStarts : Prop :=
  (∀ (s : State) (id : BitVec 7) (ts dnc : Bool), s.power.phase = .off →
    ∃ t, Completes (.powerOn id ts dnc) s t ∧ Cold s (if dnc then .factoryTest else .booting) id ts t) ∧
  (∀ (s : State) (periods : Nat), 13 ≤ periods → s.power.phase = .booting ∨ s.power.phase = .running →
    ∃ t, Completes (.resetNAssert periods) s t ∧ Cold s .heldInReset s.power.nodeId s.power.twinSel t) ∧
  (∀ (s : State) (periods : Nat), periods < 13 → Completes (.resetNAssert periods) s s) ∧
  (∀ (s : State) (id : BitVec 7) (ts : Bool), s.power.phase = .heldInReset →
    ∃ t, Completes (.resetNRelease id ts) s t ∧ Cold s .booting id ts t) ∧
  (∀ s : State, s.power.phase = .shed →
    ∃ t, Completes .powerFailRelease s t ∧ Cold s .booting s.power.nodeId s.power.twinSel t) ∧
  (∀ s : State, s.fm.selfReset = true →
    ∃ t, Completes .lifeCycleSelfReset s t ∧ Cold s .booting s.power.nodeId s.power.twinSel t) ∧
  (∀ s : State, captureMode s.mode = false →
    ∃ t, Completes .foremanBrownout s t ∧ Cold s .off s.power.nodeId s.power.twinSel t) ∧
  (∀ s : State, s.power.phase = .running → captureMode s.mode = true →
    ∃ t, Completes .foremanBrownout s t ∧
      Cold { s with nv.breathless := true } .off s.power.nodeId s.power.twinSel t) ∧
  (∀ (s : State) (via : Path), Passes s via 0x2000 0x0E (leBytes 2 0xA5C3) →
    ∃ t, Completes (.moduleReset via (leBytes 2 0xA5C3)) s t ∧
      Cold (s.answer via 0x2000 0x0E 0) .booting s.power.nodeId s.power.twinSel t)

/-- A power-fail detection leaves nothing powered but the Foreman domain, and a Foreman that runs writes the
last-breath record of the latest sample. Boot completes from the slot that R32 chooses and leaves the mode as it was,
Dormant where it was Dormant, or into recovery boot without any mode (R32, R33, R395 to R397). -/
def Obligations.PowerFailureAndBoot : Prop :=
  (∀ (s : State) (cause : PowerFailCause),
      (s.power.phase = .booting ∨ s.power.phase = .running ∨ s.power.phase = .heldInReset →
        ∃ t, Completes (.powerFailDetect cause) s t ∧ t.power.phase = .shed ∧ t.power.fabric = false ∧
          t.power.hbm = .off ∧ t.links = Vector.replicate 48 {} ∧ t.xc = Vector.replicate 4 {} ∧
          t.seams = Vector.replicate 48 {} ∧ t.streams = Vector.replicate 64 {} ∧ t.shaft = {} ∧ t.grizzly = {} ∧
          t.smelter = {} ∧ t.slots = Vector.replicate 32 {} ∧ t.hf = {} ∧ t.dict.storing = none ∧ t.fm.toLog = [] ∧
          (s.foremanRuns = true → t.nv.breath = some { entry := s.lastBreath, used := false }) ∧
          (s.foremanRuns = false → t.nv.breath = s.nv.breath)) ∧
      (s.power.phase = .off ∨ s.power.phase = .shed ∨ s.power.phase = .factoryTest →
        Completes (.powerFailDetect cause) s s)) ∧
  ((∀ (s : State) (i : Fin 2), s.power.phase = .booting → s.nv.bootChoice = some i →
      ∃ t, Completes .bootComplete s t ∧ t.power.phase = .running ∧ t.fm.bootSlot = i ∧ t.hf.ready = true ∧
        t.power.recovery = s.power.recovery ∧ t.modes.mode = s.modes.mode ∧ t.mode = s.mode) ∧
    (∀ s : State, s.power.phase = .booting → s.nv.bootChoice = none →
      ∃ t, Completes .bootComplete s t ∧ t.power.phase = .running ∧ t.power.recovery = true ∧ t.mode = 0xFF ∧
        t.power.faultN = true))

/-- PERST_N for 13 oscillator periods, and DL_Down, reset the Headframe: capture, the mode, the raster and the Shaft
stay as they were, and every ingot is kept; the release of PERST_N leaves the Headframe as it is. A Function Level
Reset of PF0 clears Bus Master Enable, the ring registers, the MSI-X table, the window slots and the job ring, and
keeps every ingot; one of PF1 clears its MSI-X table and ends every session (R272, R273, R298, R326, R328). -/
def Obligations.HostResets : Prop :=
  ((∀ (s : State) (n : Nat), 13 ≤ n → s.power.perst = false → s.powered = true →
      ∃ t, Completes (.perstNAssert n) s t ∧ t.power = { s.power with perst := true } ∧ HostReset s t) ∧
    (∀ (s : State) (n : Nat), n < 13 → Completes (.perstNAssert n) s s) ∧
    (∀ s : State, s.powered = true → ∃ t, Completes .dlDown s t ∧ t.power = s.power ∧ HostReset s t) ∧
    (∀ s : State, s.power.perst = true →
      ∃ t, Completes .perstNRelease s t ∧ t.power = { s.power with perst := false } ∧ t.hf = s.hf)) ∧
  ((∀ s : State, ∃ t, Completes .functionLevelResetPf0 s t ∧ t.hf.bme = false ∧ t.hf.d3hot = false ∧ t.hf.cfg0 = {} ∧
      t.hf.rings = Vector.replicate 65 {} ∧ t.hf.msix0 = Vector.replicate 256 {} ∧ t.hf.msix1 = s.hf.msix1 ∧
      (∀ k : Fin 16, (t.dict.slots0[k]).state = 0) ∧ t.dict.slots1 = s.dict.slots1 ∧ t.modes = s.modes ∧
      t.smelter.enable = false ∧ t.smelter.base = 0 ∧ t.smelter.tail = 0 ∧ t.smelter.head = 0 ∧ t.smelter.queue = [] ∧
      (∀ k : Fin 16, t.smelter.engines[k] = none) ∧ KeepsIngots s t) ∧
    (∀ s : State, ∃ t, Completes .functionLevelResetPf1 s t ∧ t.hf.cfg1 = {} ∧ t.hf.msix1 = Vector.replicate 16 {} ∧
      t.hf.msix0 = s.hf.msix0 ∧ t.hf.rings = s.hf.rings ∧ (∀ k : Fin 8, (t.dict.slots1[k]).session = none) ∧
      t.dict.slots0 = s.dict.slots0 ∧ t.modes = s.modes))

/-! ## The Surveyor -/

/-- Loss and return of the 156.25 MHz reference, and the aligner's lock and fault. Pulses of the width-coded sync, of
the polarity that SYNC_POLARITY gives on the pin that SYNC_INPUT names, `a` and `b` the fine bins of their edges: the
width is learned from 64 pulses, then a pulse is a line start, a frame start or is counted; `w` is the learned width
in samples. A pulse on another pin is none (R42 to R44, R47 to R49, R54, R58, Table 2.2). -/
def Obligations.ClockAndSyncPulses : Prop :=
  ((∀ s : State, s.sv.refLost = false →
      ∃ t, Completes .refClockLost s t ∧ t.sv.refLost = true ∧ t.sv.pllLocked = false ∧
        ({ code := .refLost, unit := .surveyor, inst := 0xFF } : Condition) ∈ t.fm.conditions ∧ t.sv.sampleClock = 3 ∧
        (s.cfg 0x2100 1 ≠ 0 → s.sv.state = rsLocked →
          t.sv.state = rsHoldover ∧ t.sv.lockCause = lcRefClock ∧ t.sv.relockCount = inc32 s.sv.relockCount)) ∧
    (∀ s : State, s.sv.refLost = true →
      Completes (.refClockReturn 0) s { s with
        sv.refLost := false, sv.pllLocked := s.power.fabric, sv.sampleClock := 0
        fm.conditions := s.fm.conditions.filter fun c =>
          c != ({ code := .refLost, unit := .surveyor, inst := 0xFF } : Condition) }) ∧
    (∀ (s : State) (n : Nat), s.sv.refLost = true → 0 < n →
      ∃ t, Completes (.refClockReturn n) s t ∧ t.sv.refLost = false ∧
        t.sv.governorClamps = add32 s.sv.governorClamps n ∧ t.sv.holdMark = s.sv.holdMark.put s.sv.sidx) ∧
    (∀ s : State, s.power.fabric = true → s.sv.pllLocked = true →
      Completes .dllLock s { s with sv.dllState := 1 }) ∧
    (∀ s : State, s.power.fabric = true →
      Completes .dllFault s { s with sv.dllState := 2, sv.dllMark := s.sv.dllMark.put s.sv.sidx })) ∧
  ((∀ (s : State) (pin : Fin 4) (lead trail : PinEdge) (a b : Nat), s.samples = true → s.cfg 0x2100 1 = 1 →
      s.sv.state ≠ rsInternal → pin.val = s.cfg 0x2100 2 → s.pinIgnored (40 + pin.val) = false →
      s.pinCrossing pin.val lead = some (a, !s.cfgOn 0x2100 3) → s.pinCrossing pin.val trail = some (b, s.cfgOn 0x2100 3) →
      let width := (b - a + 32) / 64
      let at_ := ((a : Int) - s.rasterDelay).toNat
      (s.sv.width = none → s.sv.widths.length < 63 →
        Completes (.syncPulse pin ⟨lead, trail⟩) s { s with sv.widths := width :: s.sv.widths }) ∧
      (s.sv.width = none → 63 ≤ s.sv.widths.length →
        let m := mostFrequent (width :: s.sv.widths)
        Completes (.syncPulse pin ⟨lead, trail⟩) s
          (if 1 ≤ m ∧ m ≤ 8 then { s with sv.widths := [], sv.width := some m }
           else { s with sv.widths := [], sv.lockCause := lcPulseForm })) ∧
      (∀ w, s.sv.width = some w → s.sv.lastPulse = none → w - 1 ≤ width → width ≤ w + 1 →
        (s.sv.state = rsLocked → 64 * (s.sv.phaseOf at_).natAbs ≤ s.sv.linePeriod) →
        Completes (.syncPulse pin ⟨lead, trail⟩) s { s with sv.lastPulse := some a, sv.foundLine := some (at_, false) }) ∧
      (∀ w, s.sv.width = some w → s.sv.lastPulse = none → w - 1 ≤ width → width ≤ w + 1 → s.sv.state = rsLocked →
        s.sv.linePeriod < 64 * (s.sv.phaseOf at_).natAbs →
        Completes (.syncPulse pin ⟨lead, trail⟩) s { s with sv.syncRejects := inc32 s.sv.syncRejects }) ∧
      (∀ w p, s.sv.width = some w → s.sv.lastPeriod = some p → w + 1 < width → 4 * w ≤ width → 128 * width ≤ p →
        Completes (.syncPulse pin ⟨lead, trail⟩) s { s with sv.foundLine := some (at_, true) }) ∧
      (∀ w, s.sv.width = some w → w + 1 < width → width < 4 * w →
        Completes (.syncPulse pin ⟨lead, trail⟩) s { s with sv.syncRejects := inc32 s.sv.syncRejects })) ∧
    (∀ (s : State) (pin : Fin 4) (lead trail : PinEdge), s.cfg 0x2100 1 = 1 → pin.val ≠ s.cfg 0x2100 2 →
      Completes (.syncPulse pin ⟨lead, trail⟩) s s))

/-- Words of the TRS bus, latched from the seam on a rising edge of its word clock channel and of no other: every word
is kept and counted, and the one behind all ones, 0, 0 is checked and, at the end of a line, gives a line start at the
first word of its reference. A line start of the reference: measured, over line starts that were bridged as their
mean, compared with the NCO while LOCKED, counted toward a re-lock in HOLDOVER; on a Shadow that follows its Active it
gives RASTER_DELTA only (R49, R52, R53, R57 to R59, R365). -/
def Obligations.ReferenceLines : Prop :=
  (∀ (s : State) (m m0 : Samp) (w w0 : BitVec 16) (k : Fin 48) (c : Fin 16), s.samples = true → s.cfg 0x2100 1 = 3 →
      k.val = s.cfg 0x2100 0x0B → c.val = s.cfg 0x2100 0x0E → s.sv.state ≠ rsInternal →
      (s.link (s.cfg (0x2400 + s.cfg 0x2100 0x0B) 1)).state = lsUp → s.sv.trsAt ≠ some s.sv.sidx → s.sv.sidx ≠ 0 →
      s.trsSample s.sv.sidx = some m → s.trsSample (s.sv.sidx - 1) = some m0 → m.word = some w → m0.word = some w0 →
      w0.getLsbD c = false →
      let width := s.cfg 0x2100 0x0C
      let word := w.toNat / 2 ^ s.cfg 0x2100 0x0D % 2 ^ width
      let at_ := s.trsBin s.sv.sidx m
      (w.getLsbD c = false → Completes (.trsWord k c) s s) ∧
      (w.getLsbD c = true →
        ((∀ a b first, s.sv.trsLast ≠ [(0, a), (0, b), (2 ^ width - 1, first)]) →
          Completes (.trsWord k c) s
            { s with sv.trsAt := some s.sv.sidx, sv.trsLast := ((word, at_) :: s.sv.trsLast).take 3
                     sv.trsPixels := (s.sv.trsPixels.1 + 1, s.sv.trsPixels.2) }) ∧
        (∀ a b first, s.sv.trsLast = [(0, a), (0, b), (2 ^ width - 1, first)] → xyzOk width word = false →
          Completes (.trsWord k c) s
            { s with sv.trsAt := some s.sv.sidx, sv.trsLast := [(word, at_), (0, a), (0, b)]
                     sv.trsPixels := (s.sv.trsPixels.1 + 1, s.sv.trsPixels.2)
                     sv.trsErrors := inc32 s.sv.trsErrors
                     sv.trsSeen := (s.sv.trsSeen.1 + 1, s.sv.trsSeen.2 + 1) }) ∧
        (∀ a b first, s.sv.trsLast = [(0, a), (0, b), (2 ^ width - 1, first)] → xyzOk width word = true →
          word.testBit (width - 4) = false →
          Completes (.trsWord k c) s
            { s with sv.trsAt := some s.sv.sidx, sv.trsLast := [(word, at_), (0, a), (0, b)]
                     sv.trsPixels := (s.sv.trsPixels.1 + 1, s.sv.trsPixels.2)
                     sv.trsSeen := (s.sv.trsSeen.1 + 1, s.sv.trsSeen.2) }) ∧
        (∀ a b first, s.sv.trsLast = [(0, a), (0, b), (2 ^ width - 1, first)] → xyzOk width word = true →
          word.testBit (width - 4) = true →
          ∃ t, Completes (.trsWord k c) s t ∧ t.sv.trsV = some (word.testBit (width - 3)) ∧
            t.sv.trsErrors = s.sv.trsErrors ∧ t.sv.trsPixels = (0, s.sv.trsPixels.1 + 1) ∧
            t.sv.foundLine = some (first, word.testBit (width - 3) && s.sv.trsV == some false &&
              !word.testBit (width - 2))))) ∧
  (∀ (s : State) (k : Fin 48) (c : Fin 16), k.val ≠ s.cfg 0x2100 0x0B ∨ c.val ≠ s.cfg 0x2100 0x0E →
    Completes (.trsWord k c) s s) ∧
  (∀ (s : State) (at_ : Nat), s.refLineValid at_ = true →
      (s.follows = true →
        Completes (.refLineStart at_) s { s with twin.rasterDelta := s.sv.phaseOf at_, sv.lastRefLine := some at_ }) ∧
      (s.follows = false → s.sv.lastRefLine = none →
        Completes (.refLineStart at_) s { s with sv.lastRefLine := some at_ }) ∧
      (∀ b, s.follows = false → s.sv.lastRefLine = some b → s.sv.state = rsAcquire →
        Completes (.refLineStart at_) s
          { s with sv.measuredLinePeriod := (at_ - b) % 2 ^ 32, sv.lastRefLine := some at_
                   sv.lastPeriod := some (at_ - b) }) ∧
      (∀ b p, s.follows = false → s.sv.lastRefLine = some b → s.sv.state = rsLocked → s.sv.lastPeriod = some p →
        (p < ((((at_ - b) / (s.sv.missingRun + 1) : Nat) : Int) - p).natAbs * 10000 →
          ∃ t, Completes (.refLineStart at_) s t ∧ t.sv.state = rsHoldover ∧ t.sv.lockCause = lcStep ∧
            t.sv.phaseError = s.sv.phaseOf at_ ∧ t.sv.relockCount = inc32 s.sv.relockCount) ∧
        (((((at_ - b) / (s.sv.missingRun + 1) : Nat) : Int) - p).natAbs * 10000 ≤ p →
          ∃ t, Completes (.refLineStart at_) s t ∧ t.sv.state = rsLocked ∧ t.sv.phaseError = s.sv.phaseOf at_ ∧
            t.sv.missingRun = 0 ∧ t.sv.relockCount = s.sv.relockCount)) ∧
      (∀ b p, s.follows = false → s.sv.lastRefLine = some b → s.sv.state = rsHoldover → s.sv.refLost = false →
        s.sv.lastPeriod = some p → (((at_ - b : Nat) : Int) - p).natAbs * 10000 ≤ p →
        (((at_ - b : Nat) : Int) - s.sv.heldPeriod).natAbs * 100 ≤ s.sv.heldPeriod →
        ∃ t, Completes (.refLineStart at_) s t ∧ t.sv.agreeRun = s.sv.agreeRun + 1 ∧ t.sv.state = rsHoldover))

/-- Line starts and references that do not come: SYNC_MISSING, HOLDOVER on the third line start missing in a row,
NO_REFERENCE, or SEAM_DOWN with the link of the TRS seam not UP, one HOLDOVER_LONG in a holdover. A complete reference
frame is kept as the latest; in ACQUIRE on sync pulses it locks the raster when it and the one before it agree within
the limits, else it tells why; in LOCKED it renews the lines that open the fields. The re-lock of a held raster that
is due locks it (R46, R49, R55, R58, R59, R73, Table 2.1). -/
def Obligations.ReferenceFramesAndTheirAbsence : Prop :=
  ((∀ s : State, s.follows = false → s.sv.state = rsLocked → s.cfg 0x2100 1 = 1 ∨ s.cfg 0x2100 1 = 3 →
      (s.sv.missingRun < 2 →
        Completes .missingLineStart s
          { s with sv.missingRun := s.sv.missingRun + 1, sv.syncMissing := inc32 s.sv.syncMissing }) ∧
      (2 ≤ s.sv.missingRun →
        ∃ t, Completes .missingLineStart s t ∧ t.sv.state = rsHoldover ∧ t.sv.lockCause = lcMissingLines ∧
          t.sv.missingRun = 0)) ∧
    (∀ s : State, s.follows = false → s.samples = true → s.sv.state = rsAcquire ∨ s.sv.state = rsHoldover →
      Completes .noReferenceTimeout s
        { s with sv.lockCause := if s.cfg 0x2100 1 = 3 ∧ (s.link (s.cfg (0x2400 + s.cfg 0x2100 0x0B) 1)).state ≠ lsUp
                   then lcSeamDown else lcNoReference }) ∧
    (∀ s : State, s.sv.state = rsHoldover → s.sv.holdAlerted = false →
      ∃ t, Completes .holdoverLong s t ∧ Reported { s with sv.holdAlerted := true } t) ∧
    (∀ s : State, s.sv.state = rsHoldover → s.sv.holdAlerted = true → Completes .holdoverLong s s)) ∧
  ((∀ (s : State) (m : FrameMeasure) (n : Nat), s.samples = true → s.sv.state ≠ rsInternal →
      (s.cfg 0x2100 1 = 2 → s.timeCause ≠ 0 ∨ s.atTimeFrame = true) →
      (s.sv.state = rsLocked → s.follows = true ∨ s.sv.refLost = true ∨ s.cfg 0x2100 1 = 2 ∨ m.fieldStarts = [] →
        Completes (.refFrameComplete ⟨m, n⟩) s { s with sv.measuredLines := m.lines % 2 ^ 16, sv.lastFrame := some m }) ∧
      (s.sv.state = rsLocked → s.follows = false → s.sv.refLost = false → s.cfg 0x2100 1 ≠ 2 → m.fieldStarts ≠ [] →
        Completes (.refFrameComplete ⟨m, n⟩) s
          { s with sv.measuredLines := m.lines % 2 ^ 16, sv.lastFrame := some m
                   sv.fieldStarts := s.lockFields m s.sv.lpf (s.cfg 0x2100 0x0A) }) ∧
      (∀ a, s.sv.state = rsAcquire → s.sv.refLost = false → s.follows = false → s.cfg 0x2100 1 = 1 →
        s.sv.lastFrame = some a →
        (s.frameCause a m = 0 →
          ∃ t, Completes (.refFrameComplete ⟨m, n⟩) s t ∧ t.sv.state = rsLocked ∧ t.sv.lockCause = lcNone ∧ t.sv.frame = 0 ∧
            t.sv.lpf = (if s.cfg 0x2100 5 = 0 then m.lines else s.cfg 0x2100 5) ∧ t.sv.ppl = s.cfg 0x2100 6 ∧
            t.sv.line = s.cfg 0x2100 0x0A) ∧
        (s.frameCause a m ≠ 0 →
          ∃ t, Completes (.refFrameComplete ⟨m, n⟩) s t ∧ t.sv.state = rsAcquire ∧
            t.sv.lockCause = s.frameCause a m))) ∧
    (∀ (s : State) (n : Nat), s.follows = false → s.relockDue = true →
      ∃ t, Completes (.relock n) s t ∧ t.sv.state = rsLocked ∧ t.sv.lockCause = lcNone ∧ t.sv.period = freePeriod ∧
        t.sv.holdMark.last = some s.sv.sidx ∧ t.sv.agreeRun = 0))

/-- PPS_IN edges, held against TIME96 with what is still to be slewed in it: presence, the second that TIME_OF_DAY
gave to the first edge 10 ms after it, rejection and the two good edges of LOCKED; loss of the edges. PPS_OUT rises at
a second of TIME96 or at a frame start, and falls after 100 ms or one line. TIME_OF_DAY waits for the next edge while
PPS_IN is present; TIME_SET steps TIME96 in the modes that allow it, and neither moves SIDX (R66 to R70). -/
def Obligations.TimeAndPps : Prop :=
  ((∀ s : State, s.sv.todPending = none → s.sv.todApplied = false →
      Completes .ppsInEdge s { s with sv.ppsLast := some s.sv.time, sv.ppsPresent := true }) ∧
    (∀ (s : State) (sec written : Nat), s.sv.todPending = some (sec, written) → nsTime 10000000 ≤ s.sv.up - written →
      stepMode s.mode = true → nsTime 1000000 < ((s.sv.time : Int) - (sec * second : Nat)).natAbs →
      ∃ t, Completes .ppsInEdge s t ∧ t.sv.time = sec * second ∧ t.sv.todPending = none ∧ t.sv.todApplied = true ∧
        t.sv.ppsPresent = true) ∧
    (∀ s : State, s.sv.todPending = none → s.sv.todApplied = true → s.sv.timeState ≠ 0 →
      nsTime 10000 < ((s.slewedTime : Int) - nearestSecond s.slewedTime).natAbs → s.sv.ppsRejectRun < 2 →
      ∃ t, Completes .ppsInEdge s t ∧ t.sv.ppsRejects = inc32 s.sv.ppsRejects ∧
        t.sv.ppsRejectRun = s.sv.ppsRejectRun + 1 ∧ t.sv.time = s.sv.time ∧ t.sv.slew = s.sv.slew) ∧
    (∀ s : State, s.sv.todPending = none → s.sv.todApplied = true → 1 ≤ s.sv.ppsGood →
      ((s.slewedTime : Int) - nearestSecond s.slewedTime).natAbs ≤ nsTime 1000 →
      ((s.sv.time : Int) - nearestSecond s.slewedTime).natAbs ≤ nsTime 1000000 →
      ∃ t, Completes .ppsInEdge s t ∧ t.sv.timeState = 1 ∧ t.sv.ppsGood = s.sv.ppsGood + 1 ∧
        t.sv.slew = -((s.sv.time : Int) - nearestSecond s.slewedTime)) ∧
    (∀ s : State, s.sv.ppsPresent = true →
      ∃ t, Completes .ppsLost s t ∧ t.sv.ppsPresent = false ∧ t.sv.ppsGood = 0 ∧ t.sv.ppsRejectRun = 0 ∧
        t.sv.timeState = 2 ∧
        (s.sv.timeState = 1 → s.cfg 0x2100 1 = 2 → s.sv.state = rsLocked →
          t.sv.state = rsHoldover ∧ t.sv.lockCause = lcTimeNotLocked))) ∧
  ((∀ s : State, s.samples = true → s.power.ppsOut = false →
      (s.cfg 0x2100 0x12 = 1 ∧ s.sv.time % second < s.sv.advance) ∨ (s.cfg 0x2100 0x12 = 2 ∧ s.sv.frameStart = true) →
      Completes .ppsOutRise s { s with power.ppsOut := true, sent := .pin "PPS_OUT" true :: s.sent }) ∧
    (∀ s : State, s.power.ppsOut = true →
      (s.cfg 0x2100 0x12 = 1 ∧ nsTime 100000000 ≤ s.sv.time % second) ∨ (s.cfg 0x2100 0x12 = 2 ∧ s.sv.line ≠ 0) →
      Completes .ppsOutFall s { s with power.ppsOut := false, sent := .pin "PPS_OUT" false :: s.sent }) ∧
    (∀ s : State, s.samples = false → Completes .ppsOutRise s s)) ∧
  ((∀ (s : State) (via : Path) (data : List Byte), Passes s via 0x2100 0x13 data →
      (s.sv.ppsPresent = false → Completes (.timeOfDay via data) s (s.answer via 0x2100 0x13 abValueRange)) ∧
      (s.sv.ppsPresent = true →
        Completes (.timeOfDay via data) s
          (({ s with sv.todPending := some (leNat data / 2 ^ 48, s.sv.up) } : State).answer via 0x2100 0x13 0))) ∧
    (∀ (s : State) (via : Path) (data : List Byte), Passes s via 0x2100 0x14 data →
      (stepMode s.mode = true →
        ∃ t, Completes (.timeSet via data) s t ∧ OnlyChanges [.sv, .grizzly, .regs, .fm, .sent] s t ∧
          t.sv = { s.sv with time := timeOf96 (leNat data), slew := 0 } ∧
          t.sent = .dictReply via 0x2100 0x14 0 [] :: s.sent) ∧
      (stepMode s.mode = false →
        Completes (.timeSet via data) s
          (({ s with sv.slew := (timeOf96 (leNat data) : Int) - s.sv.time } : State).answer via 0x2100 0x14 0))))

/-! ## Links -/

/-- A receiver trains through SEARCH, LEVELS and FRAME; while FRAME is not reached NO_PARTNER tells, and recovery
starts again. The timeouts of training go back to SEARCH or FRAME with their cause, counted; a partner that never
reports DESKEW raises one event (R94, R98, R100, Tables 3.6, 3.8). -/
def Obligations.LinkTraining : Prop :=
  (∀ (s : State) (l : LinkId),
      (s.rxOn l = true → (s.rx l).state = lsSearch →
        Completes (.linkClockRecovered l) s (s.onRx l fun m => { m with state := lsLevels })) ∧
      (s.rxOn l = true → (s.rx l).state = lsLevels →
        ∃ t, Completes (.linkLevelsConverged l) s t ∧ OnlyChanges [.links, .xc] s t ∧ (t.rx l).state = lsFrame ∧
          (t.rx l).noPartner = false ∧ (t.rx l).lastSeq = none ∧ (t.rx l).frames = (s.rx l).frames) ∧
      ((s.rx l).state = lsSearch ∨ (s.rx l).state = lsLevels → (s.rx l).noPartner = false →
        ∃ t, Completes (.linkSearchTimeout l) s t ∧ (t.rx l).noPartner = true ∧ (t.rx l).state = (s.rx l).state ∧
          Reported (s.onRx l fun m => { m with noPartner := true }) t) ∧
      ((s.rx l).noPartner = true → (s.rx l).state = lsSearch →
        ∃ t, Completes (.noPartnerRetry l) s t ∧ OnlyChanges [.links, .xc] s t ∧ (t.rx l).state = lsSearch ∧
          (t.rx l).noPartner = true ∧ (t.rx l).lastSeq = none)) ∧
  (∀ (s : State) (l : LinkId),
      ((s.rx l).state = lsLevels →
        ∃ t, Completes (.linkLevelsTimeout l) s t ∧ (t.rx l).state = lsSearch ∧ (t.rx l).cause = 0x09 ∧
          (t.rx l).trainFails = inc32 (s.rx l).trainFails ∧ (t.rx l).lockLosses = (s.rx l).lockLosses) ∧
      ((s.rx l).state = lsFrame →
        ∃ t, Completes (.linkFrameTimeout l) s t ∧ (t.rx l).state = lsSearch ∧ (t.rx l).cause = 0x0A ∧
          (t.rx l).trainFails = inc32 (s.rx l).trainFails) ∧
      ((s.rx l).state = lsFec →
        ∃ t, Completes (.linkFecTimeout l) s t ∧ (t.rx l).state = lsFrame ∧ (t.rx l).cause = 0x0B ∧
          (t.rx l).trainFails = inc32 (s.rx l).trainFails) ∧
      ((s.rx l).state = lsDeskew → (s.rx l).partnerState < 5 → (s.rx l).rxFailRaised = false →
        ∃ t, Completes (.partnerRxFail l) s t ∧ Reported (s.onRx l fun m => { m with rxFailRaised := true }) t))

/-- Loss of signal, of four frames, of sequence or of the grid takes a receiver back; a link that was UP counts it,
and the seam that it feeds is lost, a seam that had joined with the link's cause. A frame on the receive half: in
FRAME it is hunted in both polarities, and in both precodings where the receiver asked for precoding (log 57), and the
second in order at one alignment leads to FEC; from FEC on it is counted, decoded or uncorrectable, off the alignment
uncorrectable, and a TRAIN frame takes an UP link to DESKEW (R81, R95, R105, R106, R108, R110, R115, Table 3.8). -/
def Obligations.FramesAndLosses : Prop :=
  (∀ (s : State) (l : LinkId),
      let back (t : State) (st cause : Nat) : Prop :=
        (t.rx l).state = st ∧ (t.rx l).cause = cause ∧
          (t.rx l).lockLosses = (if (s.rx l).state = lsUp then inc32 (s.rx l).lockLosses else (s.rx l).lockLosses) ∧
          ∀ (n : Fin 48) (k : Nat), l = .probe n → s.fedSeam n.val = some k →
            (t.seam k).lostAt ≠ none ∧ (t.seam k).firstUp = none ∧
              ((s.seam k).joined = true → (s.seam k).lostAt = none → (t.seam k).lostCause = cause)
      ((s.rx l).state ≠ lsDisabled → (s.rx l).state ≠ lsTest →
        ∃ t, Completes (.signalLost l) s t ∧ back t lsSearch 0x02 ∧ (t.rx l).precodeRx = false) ∧
      ((s.rx l).state = lsTest →
        Completes (.signalLost l) s (s.onRx l fun m =>
          { m with testLock := false, prbsSync := false, prbsMatch := 0, prbsReg := [], lastSeq := none })) ∧
      (4 ≤ (s.rx l).badRun → lsFec ≤ (s.rx l).state → (s.rx l).state ≤ lsUp →
        ∃ t, Completes (.linkUncorrectableLoss l) s t ∧ back t lsFrame 0x03) ∧
      (2 ≤ (s.rx l).seqRun → lsFec ≤ (s.rx l).state → (s.rx l).state ≤ lsUp →
        ∃ t, Completes (.linkSequenceLoss l) s t ∧ back t lsFrame 0x04) ∧
      (∀ n, l = .probe n → 4 ≤ (s.rx l).driftRun → (s.rx l).state = lsUp →
        ∃ t, Completes (.linkDrift l) s t ∧ back t lsDeskew 0x05)) ∧
  (∀ (s : State) (l : LinkId) (x : RxFrame), x.ok = true →
      (s.rxOn l = false → Completes (.probeFrameReceive l x) s s) ∧
      (s.rxOn l = true → (s.rx l).state = lsFrame → ∀ n, l = .probe n →
        (∀ inverted pre e f,
          ((s.rx l).hunts.findSome? fun h => ((s.rx l).tryDecode x h.1 h.2).map fun d => (h, d)) =
            some ((inverted, pre), e, f) →
          ∃ t, Completes (.probeFrameReceive l x) s t ∧ OnlyChanges [.links, .xc] s t ∧ (t.rx l).lastSeq = some f.seq ∧
            (t.rx l).rxInverted = inverted ∧ (t.rx l).precodeRx = pre ∧ (t.rx l).frames = inc64 (s.rx l).frames ∧
            (t.rx l).preFec = add64 (s.rx l).preFec e ∧
            (t.rx l).state = (if (s.rx l).alignment = x.ui ∧ (s.rx l).lastSeq = some ((f.seq + 255) % 256) then lsFec
              else lsFrame)) ∧
        (((s.rx l).hunts.findSome? fun h => ((s.rx l).tryDecode x h.1 h.2).map fun d => (h, d)) = none →
          ∃ t, Completes (.probeFrameReceive l x) s t ∧ OnlyChanges [.links, .xc] s t ∧ (t.rx l).lastSeq = none ∧
            (t.rx l).state = lsFrame ∧ (t.rx l).frames = (s.rx l).frames)) ∧
      (s.rxOn l = true → lsFec ≤ (s.rx l).state → (s.rx l).state ≤ lsUp →
        ∃ t, Completes (.probeFrameReceive l x) s t ∧
          (match (if (s.rx l).alignment ≠ x.ui then none
             else if (s.rx l).precodeStarts then decodeFrame x.levels (s.rx l).rxInverted true 0
             else (s.rx l).tryDecode x (s.rx l).rxInverted (s.rx l).precodeRx) with
           | some (e, f) => (t.rx l).frames = inc64 (s.rx l).frames ∧ (t.rx l).preFec = add64 (s.rx l).preFec e ∧
               (t.rx l).uncorrectable = (s.rx l).uncorrectable ∧ (t.rx l).badRun = 0 ∧
               ((s.rx l).state = lsUp → f.kind = 1 →
                 (t.rx l).state = lsDeskew ∧ (t.rx l).cause = 0x06 ∧ (t.rx l).lockLosses = inc32 (s.rx l).lockLosses)
           | none => (t.rx l).uncorrectable = inc32 (s.rx l).uncorrectable ∧
               (t.rx l).postFec = add64 (s.rx l).postFec 314 ∧ (t.rx l).badRun = (s.rx l).badRun + 1 ∧
               (t.rx l).frames = (s.rx l).frames ∧ (t.rx l).state = (s.rx l).state)))

/-- A control message without its ACK stays in the DATA frames for three attempts, then is dropped and counted; the
pattern checker reads bits in TEST once PATTERN is acknowledged, or where no DATA frames go out to carry it (log 57),
and not from the receive balls in a near-end loop. FE_MESSAGE takes a private message into the host queue of the link,
or into the DATA frames with the next TAG when nothing waits, and CLEAR_COUNTERS clears the counters of one link (R91,
R92, R97, R111, R112, R115, Table 3.10). -/
def Obligations.LinkMessagesAndPatterns : Prop :=
  ((∀ (s : State) (n : Fin 48) (b : List Byte), (s.link n.val).msg = some b → (s.link n.val).msgAttempts < 3 →
      Completes (.controlMessageAckTimeout n) s
        (s.onLink n.val fun m => { m with msgAttempts := m.msgAttempts + 1 })) ∧
    (∀ (s : State) (n : Fin 48) (b : List Byte), (s.link n.val).msg = some b → 3 ≤ (s.link n.val).msgAttempts →
      (s.link n.val).deviceMsgs = [] → (s.link n.val).hostMsgs = [] →
      ∃ t, Completes (.controlMessageAckTimeout n) s t ∧ (t.link n.val).msg = none ∧ (t.link n.val).msgAttempts = 0 ∧
        (t.link n.val).feMsgTimeouts = inc32 (s.link n.val).feMsgTimeouts ∧ t.sent = s.sent) ∧
    (∀ (s : State) (n : Fin 48) (bits : List Bool), (s.link n.val).state = lsTest →
      (s.cfg (0x2200 + n.val) 5 ≠ 0 → s.cfg (0x2200 + n.val) 6 = 0 ∨ s.cfg (0x2200 + n.val) 6 = 3 →
        (s.link n.val).patternAcked = true ∨ s.sendsData n.val = false →
        Completes (.prbsCheck n bits) s
          (s.onLink n.val fun m => bits.foldl (fun m b => m.prbsBit (s.cfg (0x2200 + n.val) 5) b) m)) ∧
      ((s.link n.val).patternAcked = false → s.sendsData n.val = true → Completes (.prbsCheck n bits) s s) ∧
      (s.cfg (0x2200 + n.val) 6 = 1 ∨ s.cfg (0x2200 + n.val) 6 = 2 → Completes (.prbsCheck n bits) s s))) ∧
  ((∀ (s : State) (via : Path) (n : Fin 48) (data : List Byte), Passes s via (0x2200 + n.val) 7 data →
      (msgType data < 0x80 → Completes (.feMessage via n data) s (s.answer via (0x2200 + n.val) 7 abValueRange)) ∧
      (0x80 ≤ msgType data → 4 ≤ (s.link n.val).hostMsgs.length →
        Completes (.feMessage via n data) s (s.answer via (0x2200 + n.val) 7 abBusy)) ∧
      (0x80 ≤ msgType data → (s.link n.val).hostMsgs.length < 4 →
        (s.link n.val).msg ≠ none ∨ s.sendsData n.val = false →
        Completes (.feMessage via n data) s
          ((s.onLink n.val fun m => { m with hostMsgs := m.hostMsgs ++ [data] }).answer via (0x2200 + n.val) 7 0)) ∧
      (0x80 ≤ msgType data → (s.link n.val).hostMsgs = [] → (s.link n.val).deviceMsgs = [] → (s.link n.val).msg = none →
        s.sendsData n.val = true → (s.link n.val).timingDone = true →
        Completes (.feMessage via n data) s
          ((s.onLink n.val fun m =>
            { m with msg := some (data.set 1 (BitVec.ofNat 8 ((m.msgTag + 1) % 256))), msgTag := (m.msgTag + 1) % 256
                     msgAttempts := 1, hostMsgs := [] }).answer via (0x2200 + n.val) 7 0))) ∧
    (∀ (s : State) (via : Path) (n : Fin 48) (data : List Byte), Passes s via (0x2200 + n.val) 8 data →
      Completes (.counterClear via n data) s ((s.onLink n.val Link.clearCounters).answer via (0x2200 + n.val) 8 0)))

/-! ## Capture and the Shaft -/

/-- An ingot of a copy of a seam is cut at a grid point and at a boundary of validity, whatever the copy, and the next
one opens on the sample of the cut; a gated stream keeps nothing without storage. In FRAME mode a frame start cuts the
ingot of the frame where its transitions fit, and no sample but a line start cuts it else. A seam joins on a line
start at or after its first sample decoded in UP (R107, R119 to R121, R126, R138, R181). -/
def Obligations.IngotsAndSeams : Prop :=
  (∀ (s : State) (k : Fin 48) (copy : Copy),
      ((s.seam k.val).openOf copy = none → Completes (.ingotClose k copy) s s) ∧
      ∀ a : Coord, (s.seam k.val).openOf copy = some a → a.sidx < s.sv.sidx →
        s.gridOf k.val copy ≠ 4 → s.gridPoint (s.gridOf k.val copy) = true ∨ s.validityCut k.val = true →
        ∃ t, Completes (.ingotClose k copy) s t ∧ OnlyChanges [.seams, .closing] s t ∧
          (t.seam k.val).openOf copy = some s.here ∧
          (s.gatedOut k.val copy a.sidx s.sv.sidx = true → t.closing = s.closing) ∧
          (s.gatedOut k.val copy a.sidx s.sv.sidx = false →
            ∃ i : Ingot, t.closing = s.closing ++ [i] ∧ i.source = k.val ∧ i.stream = s.streamNo k.val ∧ i.sidx = a.sidx ∧
              i.rastpos = a.rastpos ∧ i.time96 = a.time96 ∧ i.epoch = s.epochNo ∧ i.close = s.sv.sidx ∧
              (if (s.seam k.val).statusAt a.sidx = 0 then
                (i.type = 1 ∨ i.type = 2) ∧ i.span = ((s.seam k.val).run a.sidx s.sv.sidx).length
               else i.type = 4 ∧ i.span = s.sv.sidx - a.sidx ∧ i.aux = (s.seam k.val).statusAt a.sidx))) ∧
  (∀ (s : State) (k : Fin 48) (a : Coord), (s.seam k.val).openOf .stream = some a → a.sidx < s.sv.sidx →
      s.gridOf k.val .stream = 4 →
      (s.sv.frameStart = true → (s.seam k.val).statusAt a.sidx = 0 → (s.seam k.val).frameFell = false →
        s.frameFits k.val a.sidx = true → s.gatedOut k.val .stream a.sidx s.sv.sidx = false →
        ∃ t i, Completes (.ingotClose k .stream) s t ∧ OnlyChanges [.seams, .closing] s t ∧
          t.closing = s.closing ++ [i] ∧ i.sidx = a.sidx ∧ i.rastpos = a.rastpos ∧ i.close = s.sv.sidx ∧
          (t.seam k.val).openOf .stream = some s.here) ∧
      (s.sv.frameStart = false → s.sv.lineStart = false → s.validityCut k.val = false →
        Completes (.ingotClose k .stream) s s)) ∧
  (∀ (s : State) (k : Fin 48) (f : Nat), (s.seam k.val).firstUp = some f → s.samples = true → s.sv.lineStart = true →
      s.seamLost k.val = true → f ≤ s.sv.sidx →
      (∃ t, Completes (.seamJoin k) s t ∧ OnlyChanges [.seams, .closing] s t ∧ (t.seam k.val).joined = true ∧
        (t.seam k.val).lostAt = none) ∧
      ((s.seam k.val).openStream = none → (s.seam k.val).openWindow = none →
        Completes (.seamJoin k) s (s.onSeam k.val fun m =>
          { m with joined := true, lostAt := none, buf := m.buf.filter fun x => s.sv.sidx ≤ x.sidx })))

/-- A SAMPLE payload: two bytes for each sample in their order, bit j of the word the seam's channel j (R122). `xs`
are the samples of the ingot's run from its first sample. -/
def Obligations.SamplePayload : Prop :=
  (∀ (xs : List Samp) (format : Nat) (frame : Bool), (encodeRun xs format frame).1 = 1 →
    (encodeRun xs format frame).2.1.length = 2 * xs.length ∧
    ∀ (d : Fin xs.length) (j : Nat), j < 16 →
      (((encodeRun xs format frame).2.1.getD (2 * d.val + j / 8) 0).getLsbD (j % 8)) =
        ((xs[d].word.getD 0).getLsbD j)) ∧
  (∀ (s : State) (k : Fin 48) (a : Coord), (s.seam k.val).openStream = some a → a.sidx < s.sv.sidx →
    s.gridOf k.val .stream = 1 → s.sv.sidx % 4096 = 0 → s.gatedOut k.val .stream a.sidx s.sv.sidx = false →
    ∃ t i, Completes (.ingotClose k .stream) s t ∧ t.closing = s.closing ++ [i] ∧
      (i.type = 1 → i.payload.length = 2 * i.span ∧ i.payload = samplePayload ((s.seam k.val).run a.sidx s.sv.sidx)))

/-- One decision a sample: the lowest-numbered true branch of the level gives the next level and the storage, no
branch keeps both; a STORE_STOP still stores its sample (R148, R170, R180). -/
def Obligations.ShaftDecides : Prop :=
  (∀ s : State, s.shaft.running = true → s.shaft.decided ≠ some s.sv.sidx →
    ∃ t, Completes .shaftDecision s t ∧ OnlyChanges [.closing, .shaft] s t ∧ t.shaft.decided = some s.sv.sidx ∧
      (match s.firing with
       | none => t.shaft.level = s.shaft.level ∧ t.shaft.storage = s.shaft.storage ∧ t.closing = s.closing
       | some (b, _) =>
         let a := s.cfg (0x2610 + s.shaft.level) (0x21 + b)
         t.shaft.level = (if actNext a = 0xFF then s.shaft.level else actNext a) ∧
         t.shaft.storage = (if actStore a = 1 then true else if actStore a = 2 then false else s.shaft.storage)) ∧
      (s.shaft.storage = true → t.shaft.storeMark = s.shaft.storeMark.put s.sv.sidx)) ∧
  (∀ s : State, s.shaft.decided = some s.sv.sidx → Completes .shaftDecision s s)

/-- Counters and timers after a sample on which no branch fires: a counter counts its true COUNT_LITERAL up to 2^48 −
1 and then shows OVERFLOW, a running timer counts the units that pass. Marker outputs: a firing that is due starts the
pulse or moves its end later, never earlier, and the pulse ends on its cycle, the pin with it under its POLARITY (R155
to R157, R176, R177, R179). -/
def Obligations.CountersTimersAndMarkers : Prop :=
  (∀ s : State, s.shaft.running = true → s.shaft.decided ≠ some s.sv.sidx → s.firing = none →
      ∃ t, Completes .shaftDecision s t ∧
        (∀ n : Fin 16, t.shaft.counters[n] =
          if s.countTrue n.val = true then
            (if s.shaft.counters[n].value < 2 ^ 48 - 1 then
              { s.shaft.counters[n] with value := s.shaft.counters[n].value + 1 }
             else { s.shaft.counters[n] with overflow := true })
          else s.shaft.counters[n]) ∧
        (∀ n : Fin 8, t.shaft.timers[n] =
          if s.shaft.timers[n].running = true ∧ s.unitPasses (s.cfg (0x2678 + n.val) 1) = true ∧
              s.shaft.timers[n].value < 2 ^ 48 - 1 then
            { s.shaft.timers[n] with value := s.shaft.timers[n].value + 1 }
          else s.shaft.timers[n])) ∧
  (∀ (s : State) (n : Fin 8),
      (∀ c w l, s.shaft.markers[n].due = (c, w) :: l → c ≤ s.fabricCycle → captureMode s.mode = true →
        s.drivesPins = true →
        ∃ t, Completes (.markOutAssert n) s t ∧ OnlyChanges [.shaft, .sent] s t ∧ t.shaft.markers[n].active = true ∧
          t.shaft.markers[n].due = l ∧ t.shaft.markOut[n] = (!s.cfgOn (0x2728 + n.val) 2) ∧
          t.shaft.markers[n].endAt =
            (if s.shaft.markers[n].active = true then max s.shaft.markers[n].endAt (c + w) else c + w)) ∧
      (s.shaft.markers[n].active = true → s.shaft.markers[n].endAt ≤ s.fabricCycle →
        ∃ t, Completes (.markOutPulseEnd n) s t ∧ OnlyChanges [.shaft, .sent] s t ∧ t.shaft.markers[n].active = false ∧
          t.shaft.markOut[n] = s.cfgOn (0x2728 + n.val) 2 ∧
          (s.shaft.markOut[n] ≠ s.cfgOn (0x2728 + n.val) 2 →
            .pinAt "MARK_OUT" n.val (s.cfgOn (0x2728 + n.val) 2) ∈ t.sent)) ∧
      (s.shaft.markers[n].due = [] → Completes (.markOutAssert n) s s) ∧
      (s.shaft.markers[n].active = false → Completes (.markOutPulseEnd n) s s))

/-- External lines and FLAG pins: taps become crossings after the ones before, but those of a line that is calibrated
with the internal source, a line stuck at its active level tells once, a FLAG level is accepted from the first sample
of the run that FILTER asks for while the fabric has power and, on the fence pin, is FENCE_IN. Code-density
calibration: started in Service only and once at a time, it tells in Service which lines' counts are too uneven for a
table (R159, R163, R165, R166, R357). -/
def Obligations.LinesFlagsAndCalibration : Prop :=
  ((∀ (s : State) (n : Fin 40) (taps : BitVec 64) (next : Bool), s.pinIgnored n.val = true →
      Completes (.extLineCrossing n taps next) s s) ∧
    (∀ (s : State) (n : Fin 40) (taps : BitVec 64) (next : Bool), s.pinIgnored n.val = false →
      ∃ t l, Completes (.extLineCrossing n taps next) s t ∧ OnlyChanges [.shaft] s t ∧
        (t.extLine n.val).crossings = (s.extLine n.val).crossings ++ l ∧ (t.extLine n.val).level = (s.extLine n.val).level ∧
        (taps = 0 → next = false → (s.extLine n.val).lastTap = false → l = [] ∧ (t.extLine n.val).lastTap = false) ∧
        (taps = BitVec.allOnes 64 → next = true → (s.extLine n.val).lastTap = false →
          l.map Crossing.rising = [true] ∧ (t.extLine n.val).lastTap = true)) ∧
    (∀ (s : State) (n : Fin 40), s.power.fabric = true → s.cfg (lineObject n.val) 4 ≠ 0 →
      (s.extLine n.val).level = s.activeHigh n.val → (s.extLine n.val).reported = false →
      ∃ t, Completes (.lineStuck n) s t ∧
        Reported { s with shaft.lines := vmod s.shaft.lines n.val fun x => { x with stuck := true, reported := true } } t) ∧
    (∀ (s : State) (n : Fin 40), (s.extLine n.val).reported = true → Completes (.lineStuck n) s s) ∧
    (∀ (s : State) (n : Fin 16) (level : Bool), Completes (.flagInputAccept n level) s { s with
      shaft.flags := vmod s.shaft.flags n.val fun m =>
        { m with pin := level, changes :=
            if s.power.fabric = true then m.changes ++ [(s.fabricCycle - s.cfg (0x2730 + n.val) 3, level)] else m.changes }
      twin.fenceIn := if s.twin.fencePins.2 = n.val then level else s.twin.fenceIn })) ∧
  ((∀ (s : State) (via : Path) (data : List Byte), Passes s via 0x27A0 1 data →
      (s.mode ≠ 7 → Completes (.calStart via data) s (s.answer via 0x27A0 1 abValueRange)) ∧
      (s.mode = 7 → s.shaft.calState = 1 → Completes (.calStart via data) s (s.answer via 0x27A0 1 abBusy)) ∧
      (s.mode = 7 → s.shaft.calState ≠ 1 →
        Completes (.calStart via data) s (({ s with shaft.calState := 1, shaft.calMask := BitVec.ofNat 44 (leNat data)
                                                    shaft.calFail := 0 } : State).answer via 0x27A0 1 0))) ∧
    (∀ (s : State) (hist : List (List Nat)), histOk hist = true → s.mode = 7 → s.shaft.calState = 1 →
      s.shaft.calFail = 0 →
      ∃ t, Completes (.calComplete hist) s t ∧ OnlyChanges [.shaft, .dict] s t ∧
        (∀ j : Fin 44, t.shaft.calFail.getLsbD j.val =
          (s.shaft.calMask.getLsbD j.val && calBad (hist.getD j.val []) (s.cfg 0x27A0 3))) ∧
        t.shaft.calState = if t.shaft.calFail = 0 then 2 else 3) ∧
    (∀ (s : State) (hist : List (List Nat)), histOk hist = true → s.shaft.calState ≠ 1 ∨ s.mode ≠ 7 →
      Completes (.calComplete hist) s s))

/-- A segment in POST closes after the sample S + POST_SMP of its trigger; the next one is armed 192 samples after the
close when it is FREE, else, where segments are not overwritten, the Shaft waits for its release. SEG_RELEASE frees a
closed segment that is not being read out, and the counter of a dead interval that waits for it starts (R184, R186,
R220). -/
def Obligations.WindowSegments : Prop :=
  ((∀ (s : State) (g : Fin 64) (x : Trig), s.shaft.filling = some g → (s.segment g.val).state = 2 →
      (s.segment g.val).trig = some x → x.sidx + s.cfg (0x26C0 + g.val) 3 < s.sv.sidx →
      ∃ t, Completes .segmentPostDone s t ∧ OnlyChanges [.seams, .closing, .shaft] s t ∧ t.shaft.filling = none ∧
        (t.segment g.val).state = 3 ∧ (t.segment g.val).closeCause = ccPostDone ∧
        (t.segment g.val).postActual = s.cfg (0x26C0 + g.val) 3 ∧
        (t.segment g.val).endSidx = x.sidx + s.cfg (0x26C0 + g.val) 3 + 1 ∧
        t.shaft.dead.map Dead.next = some ((g.val + 1) % max 1 s.segCount)) ∧
    (∀ (s : State) (d : Dead), s.shaft.dead = some d → d.waits = false → s.sv.sidx < d.start.sidx + 192 →
      Completes .segmentRearm s s) ∧
    (∀ (s : State) (d : Dead), s.shaft.dead = some d → d.waits = false → d.start.sidx + 192 ≤ s.sv.sidx →
      d.next < 64 → (s.segment d.next).code = 0 →
      ∃ t, Completes .segmentRearm s t ∧ t.shaft.filling.map Fin.val = some d.next ∧ t.shaft.dead = none ∧
        (t.segment d.next).state = 1 ∧ (t.segment d.next).armSidx = s.sv.sidx ∧
        (t.segment d.next).generation = inc64 (s.segment d.next).generation ∧
        t.shaft.deadSmp = add64 s.shaft.deadSmp (s.sv.sidx - d.start.sidx)) ∧
    (∀ (s : State) (d : Dead), s.shaft.dead = some d → d.waits = false → d.start.sidx + 192 ≤ s.sv.sidx →
      (s.segment d.next).code ≠ 0 → s.cfg 0x2600 6 ≠ 1 →
      Completes .segmentRearm s { s with shaft.dead := some { d with waits := true } })) ∧
  (∀ (s : State) (via : Path) (data : List Byte), Passes s via 0x2600 7 data →
      ((s.segment (leNat data)).code ≠ 3 →
        Completes (.segRelease via data) s (s.answer via 0x2600 7 abValueRange)) ∧
      ((s.segment (leNat data)).code = 3 → s.beingRead (leNat data) = true →
        Completes (.segRelease via data) s (s.answer via 0x2600 7 abBusy)) ∧
      ((s.segment (leNat data)).code = 3 → s.beingRead (leNat data) = false →
        ∃ t, Completes (.segRelease via data) s t ∧ OnlyChanges [.shaft, .sent] s t ∧
          (t.segment (leNat data)).state = 0 ∧ (t.segment (leNat data)).images = [] ∧
          (t.segment (leNat data)).generation = (s.segment (leNat data)).generation ∧
          ∀ d, s.shaft.dead = some d → d.next = leNat data → d.waits = true →
            t.shaft.dead = some { d with releasedAt := some s.sv.sidx }))

/-! ## Admission and delivery -/

/-- SMELTER_SEAL takes the oldest unsealed ingot of a seam, of its stream or of its window copy: without a stage it
passes as it is, the DEFLATE stage is counted, AES-256-GCM seals under the key, the IV and the header, and an output
over 64 MiB becomes a GAP with cause OUTPUT_FULL. A sealed window ingot passes on to its segment (R225, R227, R233,
R234, R236). -/
def Obligations.IngotsSealed : Prop :=
  let sealed (s : State) (k : Nat) (i x : Ingot) : Prop :=
    ∀ c : Ingot, (i.flags &&& flCompressed = 0 → c = i) →
      (i.flags &&& flCompressed ≠ 0 →
        c = { i with stored := (deflate (if i.fresh = true then countsOfOne else s.carried k i.copyOf) i.payload).1 }) →
      (i.flags &&& flEncrypted = 0 → c.stored.length ≤ maxPayload → x = { c with isSealed := true }) ∧
      (i.flags &&& flEncrypted ≠ 0 → c.stored.length + 16 ≤ maxPayload →
        ∀ y, gcmSeal (s.nv.keyOf i.keyId) (s.ivOf i) c.aad c.stored = y →
          x = { c with stored := y.1, tag := y.2, isSealed := true }) ∧
      (maxPayload < c.stored.length + (if i.flags &&& flEncrypted = 0 then 0 else 16) → x = i.gapOf 6 0)
  (∀ (s : State) (k : Fin 48) (q : Nat) (i : Ingot), s.sealStream k.val = some (q, i) →
    ∃ t x, Completes (.smelterSeal k .stream) s t ∧ OnlyChanges [.streams, .smelter] s t ∧ sealed s k.val i x ∧
      t.streams = (s.onStream q fun m => { m with waiting := sealFirst k.val x m.waiting }).streams ∧
      (i.flags &&& flCompressed = 0 → t.smelter.bytesIn = s.smelter.bytesIn ∧ t.smelter.bytesOut = s.smelter.bytesOut) ∧
      (i.flags &&& flCompressed ≠ 0 →
        ∀ z, deflate (if i.fresh = true then countsOfOne else s.carried k.val i.copyOf) i.payload = z →
          t.smelter.bytesIn = add64 s.smelter.bytesIn i.payload.length ∧
          t.smelter.bytesOut = add64 s.smelter.bytesOut z.1.length ∧
          t.smelter.storedBlocks = add64 s.smelter.storedBlocks z.2.2 ∧
          (z.1.length + 16 ≤ maxPayload → t.carried k.val i.copyOf = z.2.1) ∧
          (maxPayload < z.1.length → t.smelter.outputFull = inc32 s.smelter.outputFull ∧
            t.carried k.val i.copyOf = countsOfOne))) ∧
  (∀ (s : State) (k : Fin 48), s.sealStream k.val = none → Completes (.smelterSeal k .stream) s s) ∧
  (∀ (s : State) (k : Fin 48) (i : Ingot), s.smelter.windowWaiting.find? (fun i => i.waitsFor k.val) = some i →
    ∃ t u x, Completes (.smelterSeal k .window) s t ∧ t = u.flushWindows ∧ OnlyChanges [.smelter] s u ∧ sealed s k.val i x ∧
      u.smelter.windowWaiting = sealFirst k.val x s.smelter.windowWaiting) ∧
  (∀ (s : State) (k : Fin 48), s.smelter.windowWaiting.find? (fun i => i.waitsFor k.val) = none →
    Completes (.smelterSeal k .window) s s)

/-- The door takes the next sealed ingot of a stream in order: it admits a control type that the backlog holds, a
floor ingot that leaves the reserve free and a surplus ingot that is in bound; it replaces what it refuses, and what
is larger than half its ring, by a GAP of the same SEQ with cause REFUSED or BACKLOG_FULL, and drops what not even the
reserve holds. An ingot that is not sealed, or that waits for the check of an epoch, stays (R134, R191, R197, R202,
R203, R210). -/
def Obligations.DoorDecides : Prop :=
  (∀ (s : State) (q : Fin 64), s.isShadow = false →
    ((s.stream q.val).waiting = [] → Completes (.grizzlyDoor q) s s) ∧
    (∀ i l, (s.stream q.val).waiting = i :: l → i.isSealed = false ∨ s.doorWaits i = true ∨ s.twin.handoff = true →
      Completes (.grizzlyDoor q) s s)) ∧
  ∀ (s : State) (q : Fin 64) (i : Ingot) (l : List Ingot), (s.stream q.val).waiting = i :: l → i.isSealed = true →
    s.doorWaits i = false → s.twin.handoff = false → s.isShadow = false →
    let enters (t : State) (type aux : Nat) : Prop :=
      OnlyChanges [.streams, .grizzly, .hf, .regs, .twin, .fm, .sent] s t ∧ (t.stream q.val).waiting = l ∧
      (t.stream q.val).admitted = inc64 (s.stream q.val).admitted ∧ (t.stream q.val).drop = none ∧
      t.grizzly.droppedIngots = s.grizzly.droppedIngots ∧
      ∃ x : Ingot, (t.stream q.val).backlog = (s.stream q.val).backlog ++ [x] ∧ x.seq = i.seq ∧ x.sidx = i.sidx ∧
        x.span = i.span ∧ x.type = type ∧ x.aux = aux ∧ x.door = s.sv.up ∧ x.bound = s.boundD
    let drops (t : State) : Prop :=
      (t.stream q.val).waiting = l ∧ (t.stream q.val).backlog = (s.stream q.val).backlog ∧
        t.grizzly.droppedIngots = inc64 s.grizzly.droppedIngots ∧
        ∃ r, (t.stream q.val).drop = some r ∧ r.lastSeq = i.seq ∧ r.lastSidx = i.sidx
    let gapFits (cause : Nat) : Prop := (i.gapOf cause i.size).size ≤ s.backlogRoom
    (i.control = true → i.size ≤ s.backlogRoom →
      ∃ t, Completes (.grizzlyDoor q) s t ∧ enters t i.type i.aux ∧ t.grizzly.refusedIngots = s.grizzly.refusedIngots) ∧
    (i.control = false → s.tooLarge q.val i = false → i.size + reserveBytes ≤ s.backlogRoom →
      s.isFloor i.source = true ∨ (s.heldNow q.val = false ∧ s.inBound (s.committedBytes + i.size) = true) →
      ∃ t, Completes (.grizzlyDoor q) s t ∧ enters t i.type i.aux ∧ t.grizzly.refusedIngots = s.grizzly.refusedIngots ∧
        t.grizzly.backlogFullGaps = s.grizzly.backlogFullGaps) ∧
    (i.control = false → s.tooLarge q.val i = false → s.isFloor i.source = true →
      s.backlogRoom < i.size + reserveBytes →
      (gapFits 5 → ∃ t, Completes (.grizzlyDoor q) s t ∧ enters t 4 5 ∧
        t.grizzly.backlogFullGaps = inc64 s.grizzly.backlogFullGaps) ∧
      (¬ gapFits 5 → ∃ t, Completes (.grizzlyDoor q) s t ∧ drops t)) ∧
    (i.control = false → s.tooLarge q.val i = false → s.isFloor i.source = false →
      s.heldNow q.val = true ∨ s.inBound (s.committedBytes + i.size) = false ∨ s.backlogRoom < i.size + reserveBytes →
      (gapFits 4 →
        ∃ t, Completes (.grizzlyDoor q) s t ∧ enters t 4 4 ∧ t.grizzly.refusedIngots = inc64 s.grizzly.refusedIngots ∧
          (t.stream q.val).refused = inc64 (s.stream q.val).refused) ∧
      (¬ gapFits 4 → ∃ t, Completes (.grizzlyDoor q) s t ∧ drops t)) ∧
    (i.control = false → s.tooLarge q.val i = true → gapFits 4 →
      ∃ t, Completes (.grizzlyDoor q) s t ∧ enters t 4 4 ∧ t.grizzly.refusedIngots = inc64 s.grizzly.refusedIngots ∧
        t.grizzly.ringTooSmall = inc32 s.grizzly.ringTooSmall ∧
        ∀ n, s.ringOf q.val = some n → (t.ring n).tooSmall = true) ∧
    (i.control = true → s.backlogRoom < i.size → ∃ t, Completes (.grizzlyDoor q) s t ∧ drops t)

/-- Bins of the drain, held streams and suspensions: a valid bin enters the history of ten, a mean below E suspends, a
stream whose ring has been full is held with a suspension of its own and rejoins at the tail, a suspension that is
over ends (R201, R207, R208). -/
def Obligations.DrainAndSuspensions : Prop :=
  (∀ s : State, ∃ t, Completes .drainBinEnd s t ∧ OnlyChanges [.grizzly, .regs, .fm] s t ∧
    t.grizzly.bins = (if s.grizzly.binValid = true then (s.grizzly.binBytes :: s.grizzly.bins).take 10 else s.grizzly.bins) ∧
    t.grizzly.binBytes = 0 ∧ t.grizzly.binValid = s.anyWaiting ∧
    (t.drainMean < s.drainE → s.scopeAll ≠ 0 → ∃ x ∈ t.grizzly.suspensions, x.cause = .drainLow ∧ x.metSince = none)) ∧
  (∀ (s : State) (q : Fin 64), (s.stream q.val).backlog ≠ [] → s.withdrawn = false → s.headFits q.val = false →
    (s.stream q.val).held = false →
    ∃ t, Completes (.ringFullTimeout q) s t ∧ OnlyChanges [.streams, .grizzly, .regs, .fm] s t ∧
      (t.stream q.val).held = true ∧ (t.stream q.val).backlog = (s.stream q.val).backlog ∧
      ∃ x ∈ t.grizzly.suspensions, x.cause = .ringFull ∧ x.scope = scopeOne q.val) ∧
  (∀ (s : State) (q : Fin 64), s.headFits q.val = true → Completes (.ringFullTimeout q) s s) ∧
  (∀ (s : State) (q : Fin 64), (s.stream q.val).held = true → s.headFits q.val = true →
    ∃ t, Completes (.heldListRejoin q) s t ∧ OnlyChanges [.streams, .grizzly] s t ∧ (t.stream q.val).held = false ∧
      (t.stream q.val).backlog = (s.stream q.val).backlog.map (fun i => { i with order := s.sv.up }) ∧
      ∀ x ∈ t.grizzly.suspensions, x.cause = .ringFull → x.scope = scopeOne q.val → x.metSince ≠ none) ∧
  (∀ (s : State) (q : Fin 64), (s.stream q.val).held = false → Completes (.heldListRejoin q) s s) ∧
  (∀ (s : State) (cause : SuspendCause), ∃ t, Completes (.suspensionEnd cause) s t ∧ OnlyChanges [.grizzly, .regs, .fm] s t ∧
    ∀ x ∈ s.grizzly.suspensions,
      (x.cause = cause → s.suspensionOver x = true → x ∉ t.grizzly.suspensions) ∧
      (x.cause ≠ cause ∨ s.suspensionOver x = false → x ∈ t.grizzly.suspensions))

/-- The guaranteed egress G follows the link: 0 out of L0, the figure of Table 6.1 in L0 at the widest width whose
lanes all work; each change clears the drain's history, and floor seams are demoted only when G is lower than before
and their sum no longer fits (R193, R201, R209, R211, R270, R271, R302). -/
def Obligations.LinkGivesGuarantee : Prop :=
  (∀ (s : State) (recovery : Bool), s.hf.l0 = true →
    ∃ t, Completes (.pcieLinkDown recovery) s t ∧ OnlyChanges [.grizzly, .hf, .regs, .fm] s t ∧ t.hf.l0 = false ∧
      t.hf.inL1 = false ∧ t.grizzly.g = 0 ∧ t.grizzly.bins = [] ∧
      t.hf.recoveries = (if recovery = true then inc32 s.hf.recoveries else s.hf.recoveries) ∧
      (t.scopeAll ≠ 0 → ∃ x ∈ t.grizzly.suspensions, x.cause = .linkDown ∧ x.metSince = none)) ∧
  (∀ (s : State) (recovery : Bool), s.hf.l0 = false → Completes (.pcieLinkDown recovery) s s) ∧
  (∀ (s : State) (speed : Nat) (lanes : BitVec 16) (reversed hostFlit : Bool) (w : Nat), s.canTrain = true →
    1 ≤ speed → speed ≤ 6 → trainedWidth lanes reversed = some w →
    ∃ t, Completes (.pcieLinkL0 speed ⟨lanes, reversed⟩ hostFlit) s t ∧
      OnlyChanges [.power, .streams, .grizzly, .hf, .regs, .fm, .sent] s t ∧
      t.hf.l0 = true ∧ t.hf.speed = speed ∧ t.hf.width = w ∧ t.hf.flit = (speed == 6 || hostFlit) ∧ t.grizzly.bins = [] ∧
      t.hf.widthChanges = (if s.hf.width ≠ 0 ∧ w < s.hf.width then inc32 s.hf.widthChanges else s.hf.widthChanges) ∧
      (speed = 6 → w = 16 → t.grizzly.g = 800000) ∧ (speed = 6 → w = 8 → t.grizzly.g = 400000) ∧
      (speed = 6 → w = 4 → t.grizzly.g = 200000) ∧ (speed = 5 → w = 16 → t.grizzly.g = 400000) ∧
      (speed = 5 → w = 8 → t.grizzly.g = 200000) ∧ (speed < 5 → t.grizzly.g = 0) ∧
      (s.grizzly.gWas ≤ t.grizzly.g → t.grizzly.demoted = s.grizzly.demoted) ∧
      (s.floorRate s.cfg s.mode s.grizzly.demoted ≤ ((min (s.cfg 0x2800 2) t.grizzly.g : Nat) : Rat) →
        t.grizzly.demoted = s.grizzly.demoted)) ∧
  (∀ (s : State) (speed : Nat) (lanes : BitVec 16) (reversed hostFlit : Bool),
    s.canTrain = false ∨ trainedWidth lanes reversed = none ∨ speed = 0 ∨ 6 < speed →
    Completes (.pcieLinkL0 speed ⟨lanes, reversed⟩ hostFlit) s s)

/-- A readout starts on a closed segment into a free ring, in the modes that allow it, and only one at a time; it
fails when it is stopped and is done when its last image is written (R219, R220, R280). -/
def Obligations.ReadoutLife : Prop :=
  (∀ (s : State) (via : Path), Passes s via 0x2810 3 [1] →
    let g := s.cfg 0x2810 1
    let ring := s.cfg 0x2810 2
    ((s.segment g).code ≠ 3 ∨ ring = 0xFF ∨ s.armedOn ring = true ∨ ring = s.cfg 0x2C00 1 →
      Completes (.rdStart via) s (s.answer via 0x2810 3 abValueRange)) ∧
    ((s.segment g).code = 3 → ring ≠ 0xFF → s.armedOn ring = false → ring ≠ s.cfg 0x2C00 1 →
      (readoutMode s.mode = false ∨ s.grizzly.rdState = 1 → Completes (.rdStart via) s (s.answer via 0x2810 3 abBusy)) ∧
      (readoutMode s.mode = true → s.grizzly.rdState ≠ 1 → ∀ h : g < 64,
        Completes (.rdStart via) s (({ s with
          grizzly.rdState := 1, grizzly.rdBytes := 0, grizzly.rdSince := s.sv.up
          grizzly.rdLeft := some (⟨g, h⟩, (s.segment g).images.filterMap WinImage.ingot) } : State).answer via 0x2810 3 0)))) ∧
  (∀ (s : State) (via : Path), Passes s via 0x2810 3 [0] →
    (s.grizzly.rdState = 1 →
      Completes (.rdStop via) s
        (({ s with grizzly.rdState := 3, grizzly.rdLeft := none } : State).answer via 0x2810 3 0)) ∧
    (s.grizzly.rdState ≠ 1 → Completes (.rdStop via) s (s.answer via 0x2810 3 0))) ∧
  (∀ (s : State) (g : Fin 64), s.grizzly.rdLeft = some (g, []) → s.grizzly.rdState = 1 →
    Completes .readoutDone s (({ s with grizzly.rdState := 2, grizzly.rdLeft := none } : State).onSegment g.val fun m =>
      { m with readOut := true })) ∧
  (∀ s : State, s.grizzly.rdLeft = none → Completes .readoutDone s s)

/-- An image is written at the device position of its ring, behind the space that a FILL takes: the head ingot of the
stream whose turn it is, with the flags it leaves with, the readout's next image where it does not give way to class
B, the next ASSAY image; ECC's corrections are counted, and an ingot read with an uncorrectable error leaves as a GAP
with cause MEMORY_ERROR. A cursor record covers every image written: GEN counts on, WR_POS becomes the device
position, and it names the last ingot covered; in a pair the Active sends CURSOR and waits for CONFIRM (R205, R206,
R217, R219, R221, R280, R282, R284, R286, R288, R368, Table 9.4). -/
def Obligations.ImagesAndCursors : Prop :=
  ((∀ (s : State) (q : Fin 64) (i : Ingot) (l : List Ingot) (n c : Nat) (h : Bool), s.nextStream = some q.val →
      (s.stream q.val).backlog = i :: l → s.ringOf q.val = some n →
      let u := s.wakeLink.firstDelivery
      (∃ t, Completes (.imageWrite (.stream q) ⟨c, false⟩ h) s t ∧ (t.stream q.val).backlog = l ∧
        (t.stream q.val).written = (s.stream q.val).written ++ [i] ∧
        (t.ring n).pos = ((s.ring n).pos + ((s.ring n).pad i.size).1 + i.size / 16) % 2 ^ 32 ∧
        HostWrote s t ((s.ring n).base + 16 * ((s.ring n).pos + ((s.ring n).pad i.size).1) % (s.ring n).bytes)
          ({ i with flags := u.leavingFlags q.val i } : Ingot).image ∧
        t.grizzly.binBytes = u.grizzly.binBytes + i.size ∧
        t.grizzly.eccCorrected = add64 s.grizzly.eccCorrected c ∧
        t.grizzly.lateIngots = (if u.isLate i = true then inc64 s.grizzly.lateIngots else s.grizzly.lateIngots)) ∧
      (i.isData = true →
        ∃ (t : State) (g : Ingot), Completes (.imageWrite (.stream q) ⟨c, true⟩ h) s t ∧ (t.stream q.val).backlog = l ∧
          t.grizzly.eccUncorrectable = inc32 s.grizzly.eccUncorrectable ∧ g.type = 4 ∧ g.aux = 7 ∧ g.seq = i.seq ∧
          g.sidx = i.sidx ∧ g.span = i.span ∧
          HostWrote s t ((s.ring n).base + 16 * ((s.ring n).pos + ((s.ring n).pad g.size).1) % (s.ring n).bytes) g.image)) ∧
    (∀ (s : State) (q : Fin 64) (c : Nat) (e h : Bool), s.nextStream ≠ some q.val →
      Completes (.imageWrite (.stream q) ⟨c, e⟩ h) s s) ∧
    (∀ (s : State) (g : Fin 64) (i : Ingot) (l : List Ingot) (c : Nat) (h : Bool), s.grizzly.rdLeft = some (g, i :: l) →
      s.grizzly.rdState = rdRunning → s.busOn = true → s.producerOf (s.cfg 0x2810 2) = 2 →
      2 * i.size ≤ (s.ring (s.cfg 0x2810 2)).bytes → s.ringRoom (s.cfg 0x2810 2) i.size = true →
      (s.yieldsToB i.size = true → Completes (.imageWrite .readout ⟨c, false⟩ h) s s) ∧
      (s.yieldsToB i.size = false →
        ∃ t, Completes (.imageWrite .readout ⟨c, false⟩ h) s t ∧ t.grizzly.rdLeft = some (g, l) ∧
          t.grizzly.rdBytes = (s.grizzly.rdBytes + i.size) % 2 ^ 64 ∧ t.shaft = s.shaft ∧
          t.grizzly.eccCorrected = add64 s.grizzly.eccCorrected c ∧
          HostWrote s t ((s.ring (s.cfg 0x2810 2)).base + 16 * ((s.ring (s.cfg 0x2810 2)).pos +
            ((s.ring (s.cfg 0x2810 2)).pad i.size).1) % (s.ring (s.cfg 0x2810 2)).bytes) i.image) ∧
      (s.yieldsToB i.size = false →
        ∃ t, Completes (.imageWrite .readout ⟨c, true⟩ h) s t ∧ t.grizzly.rdLeft = some (g, l) ∧ t.shaft = s.shaft ∧
          t.grizzly.eccUncorrectable = inc32 s.grizzly.eccUncorrectable)) ∧
    (∀ (s : State) (g : Fin 64) (i : Ingot) (l : List Ingot) (c : Nat) (e h : Bool), s.grizzly.rdLeft = some (g, i :: l) →
      s.grizzly.rdState = rdRunning → s.busOn = true → s.producerOf (s.cfg 0x2810 2) = 2 →
      (s.ring (s.cfg 0x2810 2)).bytes < 2 * i.size →
      ∃ t, Completes (.imageWrite .readout ⟨c, e⟩ h) s t ∧ OnlyChanges [.grizzly, .hf] s t ∧ t.grizzly.rdState = 3 ∧
        (t.ring (s.cfg 0x2810 2)).tooSmall = true) ∧
    (∀ (s : State) (c : Nat) (e h : Bool), s.grizzly.rdLeft = none → Completes (.imageWrite .readout ⟨c, e⟩ h) s s) ∧
    (∀ (s : State) (i : Ingot) (l : List ClassBItem) (c : Nat) (e h : Bool),
      takeFirst ClassBItem.image? s.grizzly.classB = some (i, l) →
      s.cfg 0x2C00 1 = 0xFF →
      Completes (.imageWrite .assay ⟨c, e⟩ h) s
        { s with grizzly.classB := l, grizzly.classBDropped := inc32 s.grizzly.classBDropped }) ∧
    (∀ (s : State) (i : Ingot) (l : List ClassBItem) (c : Nat) (h : Bool),
      takeFirst ClassBItem.image? s.grizzly.classB = some (i, l) →
      s.cfg 0x2C00 1 ≠ 0xFF → s.busOn = true → s.producerOf (s.cfg 0x2C00 1) = 3 →
      s.ringRoom (s.cfg 0x2C00 1) i.size = true →
      ∃ t, Completes (.imageWrite .assay ⟨c, false⟩ h) s t ∧ t.grizzly.classB = l ∧
        t.grizzly.eccCorrected = add64 s.grizzly.eccCorrected c ∧
        (t.ring (s.cfg 0x2C00 1)).pos = ((s.ring (s.cfg 0x2C00 1)).pos + ((s.ring (s.cfg 0x2C00 1)).pad i.size).1 +
          i.size / 16) % 2 ^ 32) ∧
    (∀ (s : State) (c : Nat) (e h : Bool), takeFirst ClassBItem.image? s.grizzly.classB = none →
      Completes (.imageWrite .assay ⟨c, e⟩ h) s s)) ∧
  ((∀ (s : State) (n : Fin 64) (a : Nat × Nat × Nat), (s.ring n.val).uncovered.getLast? = some a → s.busOn = true →
      s.ringBlocked n.val = false → (s.ring n.val).awaiting = none →
      (s.paired = false ∨ s.role ≠ 1 →
        ∃ t r, Completes (.cursorRecordWrite n) s t ∧
          OnlyChanges [.power, .streams, .grizzly, .hf, .regs, .twin, .sent] s t ∧ (t.ring n.val).wrPos = (s.ring n.val).pos ∧
          (t.ring n.val).uncovered = [] ∧ (t.ring n.val).gen = ((s.ring n.val).gen + 1) % 2 ^ 32 ∧
          (t.ring n.val).restart = false ∧ (t.ring n.val).lastCovered = some (a.1, a.2.1) ∧
          HostWrote s t (s.ring n.val).cur r ∧ r.length = 64 ∧ getLe r 0 1 = n.val ∧
          getLe r 4 4 = ((s.ring n.val).gen + 1) % 2 ^ 32 ∧ getLe r 8 4 = (s.ring n.val).pos % 2 ^ 32 ∧
          getLe r 0x10 8 = a.1 % 2 ^ 64 ∧ getLe r 0x18 8 = a.2.1 % 2 ^ 64) ∧
      (s.paired = true → s.role = 1 →
        ∃ t, Completes (.cursorRecordWrite n) s t ∧ (t.ring n.val).wrPos = (s.ring n.val).wrPos ∧
          (t.ring n.val).uncovered = (s.ring n.val).uncovered ∧
          (∃ f, (t.ring n.val).awaiting = some f ∧ f.gen = ((s.ring n.val).gen + 1) % 2 ^ 32 ∧
            f.wrPos = (s.ring n.val).pos ∧ f.images = (s.ring n.val).uncovered.length) ∧
          Sent.xcRecord (.cursor n (((s.ring n.val).gen + 1) % 2 ^ 32) (s.ring n.val).pos a.1 a.1 false) ∈ t.sent)) ∧
    (∀ (s : State) (n : Fin 64), (s.ring n.val).uncovered = [] ∨ s.busOn = false ∨ (s.ring n.val).awaiting ≠ none →
      Completes (.cursorRecordWrite n) s s) ∧
    (∀ (s : State) (e : LogEntry) (l : List ClassBItem), takeFirst ClassBItem.entry? s.grizzly.classB = some (e, l) →
      s.busOn = true → s.ringRoom 64 64 = true →
      ∃ t, Completes .eventQueueEntryWrite s t ∧ t.grizzly.classB = l ∧
        (t.ring 64).pos = ((s.ring 64).pos + ((s.ring 64).pad 64).1 + 4) % 2 ^ 32 ∧
        HostWrote s t ((s.ring 64).base + 16 * ((s.ring 64).pos + ((s.ring 64).pad 64).1) % (s.ring 64).bytes) e.bytes ∧
        ((s.ring 64).awaiting = none → (t.ring 64).wrPos = (t.ring 64).pos)) ∧
    (∀ s : State, takeFirst ClassBItem.entry? s.grizzly.classB = none → Completes .eventQueueEntryWrite s s))

/-- ENABLE restarts a ring, and what no record covered is written again; its end holds the stream at the ring's
position; RD_POS is taken between RD_POS and WR_POS only. A write to the MSI-X table changes one doubleword of one
entry, and a pending vector that may now leave is sent; the Message Control word sets MSI-X Enable and Function Mask;
the PBA takes no write (R275, R283, R286, R290, R291; the offset of Message Control is the model's, log 21). -/
def Obligations.RingsAndMsix : Prop :=
  ((∀ (s : State) (n : Fin 65), (s.ring n.val).enable = false →
      ∃ t, Completes (.ringEnable n) s t ∧ OnlyChanges [.streams, .hf, .regs, .twin, .sent] s t ∧
        t.ring n.val = { s.ring n.val with
          enable := true, pos := 0, rdPos := 0, wrPos := 0, gen := 0, restart := true, uncovered := [], laid := []
          lastCovered := none, totalBytes := 0, unsignalled := 0, unsignalledAny := false, awaiting := none } ∧
        ∀ q, s.streamOn n.val = some q →
          (t.stream q).backlog = (s.stream q).written ++ (s.stream q).backlog ∧ (t.stream q).written = []) ∧
    (∀ (s : State) (n : Fin 65), (s.ring n.val).enable = true → Completes (.ringEnable n) s s) ∧
    (∀ (s : State) (n : Fin 65), (s.ring n.val).enable = true →
      ∃ t, Completes (.ringDisable n) s t ∧ (t.ring n.val).enable = false ∧ (t.ring n.val).base = (s.ring n.val).base ∧
        (t.ring n.val).pos = (s.ring n.val).pos ∧
        ∀ q, s.streamOn n.val = some q → (s.stream q).armed = true → (t.stream q).held = true) ∧
    (∀ (s : State) (n : Fin 65), (s.ring n.val).enable = false → Completes (.ringDisable n) s s) ∧
    (∀ (s : State) (n : Fin 65) (v : Word), s.isShadow = false ∨ n.val = 64 →
      (posDist (s.ring n.val).rdPos v.toNat ≤ posDist (s.ring n.val).rdPos (s.ring n.val).wrPos →
        ∃ t, Completes (.ringRdPosWrite n v) s t ∧ (t.ring n.val).rdPos = v.toNat ∧
          (t.ring n.val).wrPos = (s.ring n.val).wrPos ∧ (t.ring n.val).cursorBad = (s.ring n.val).cursorBad) ∧
      (posDist (s.ring n.val).rdPos (s.ring n.val).wrPos < posDist (s.ring n.val).rdPos v.toNat →
        ∃ t, Completes (.ringRdPosWrite n v) s t ∧ (t.ring n.val).cursorBad = true ∧
          (t.ring n.val).rdPos = (s.ring n.val).rdPos ∧
          Reported (s.onRing n.val fun r => { r with cursorBad := true }) t)) ∧
    (∀ (s : State) (n : Fin 65) (v : Word), s.isShadow = true → n.val < 64 →
      ∃ t, Completes (.ringRdPosWrite n v) s t ∧ OnlyChanges [.regs] s t ∧ t.regs.access = true ∧
        t.regs.accessFault = s.regs.accessFault.inc) ∧
    (∀ (s : State) (n : Fin 65), (s.ring n.val).irqEn = true → (s.ring n.val).unsignalledAny = true →
      ∃ t, Completes (.msixDelayExpiry n) s t ∧ OnlyChanges [.power, .grizzly, .hf, .sent] s t ∧ (t.ring n.val).unsignalled = 0 ∧
        (t.ring n.val).unsignalledAny = false ∧
        (if s.canSignal .pf0 n.val = true then
          Sent.msix .pf0 n.val (s.msixEntry .pf0 n.val).addr (s.msixEntry .pf0 n.val).data ∈ t.sent
         else (t.msixEntry .pf0 n.val).pending = true)) ∧
    (∀ (s : State) (n : Fin 65), (s.ring n.val).irqEn = false ∨ (s.ring n.val).unsignalledAny = false →
      Completes (.msixDelayExpiry n) s s)) ∧
  ((∀ (s : State) (fn : Fn) (offset : Nat) (v : Word), offset < 16 * vectorsOf fn → offset % 4 = 0 →
      ∃ t, Completes (.msixTableWrite fn offset v) s t ∧ OnlyChanges [.power, .grizzly, .hf, .sent] s t ∧
        let e := (s.msixEntry fn (offset / 16)).write (offset % 16 / 4) v
        let e' := t.msixEntry fn (offset / 16)
        e'.addr = e.addr ∧ e'.data = e.data ∧ e'.masked = e.masked ∧
        (e.pending = false → e'.pending = false) ∧ (e.masked = true → e'.pending = e.pending) ∧
        ∀ k, k ≠ offset / 16 → (t.msixEntry fn k).addr = (s.msixEntry fn k).addr) ∧
    (∀ (s : State) (fn : Fn) (v : Word),
      ∃ t, Completes (.msixTableWrite fn 0x10000 v) s t ∧ OnlyChanges [.power, .grizzly, .hf, .sent] s t ∧
        (t.fnCfg fn).msixEnable = v.getLsbD 15 ∧ (t.fnCfg fn).msixMask = v.getLsbD 14 ∧
        (t.fnCfg fn).mse = (s.fnCfg fn).mse) ∧
    (∀ (s : State) (fn : Fn) (offset : Nat) (v : Word), 16 * vectorsOf fn ≤ offset → offset ≠ 0x10000 →
      Completes (.msixTableWrite fn offset v) s s) ∧
    (∀ (s : State) (v : Nat), v < 256 → (s.msixEntry .pf0 v).pending = true → s.busOn = true →
      s.hf.ide = Vector.replicate 4 none → (s.msixEntry .pf0 v).masked = false →
      ∃ t, Completes (.msixTableWrite .pf0 0x10000 0x8000) s t ∧ (t.msixEntry .pf0 v).pending = false ∧
        Sent.msix .pf0 v (s.msixEntry .pf0 v).addr (s.msixEntry .pf0 v).data ∈ t.sent))

/-! ## Jobs, results and the endpoint -/

/-- The job ring's registers: ENABLE sets HEAD to 0, a TAIL beyond the ring halts it, HALTED clears by writing 1; a
descriptor is fetched under the lowest free tag while JOB_IN has room, and what arrives is queued, completed with
BAD_DESCRIPTOR, or halts the ring. A job starts on the lowest-numbered free engine of JOB_ENGINES with the first read
of its input and ends, once its result is known, with its output written, its record, the counts and, on request, its
vector; HEAD passes a slot completed (R240, R242 to R247, R270, R296, Tables 7.4 to 7.8). -/
def Obligations.Jobs : Prop :=
  ((∀ s : State, s.smelter.enable = false → s.smelter.tail < s.smelter.ringSize →
      Completes .smjEnable s { s with
        smelter.enable := true, smelter.head := 0, smelter.fetch := 0, smelter.completed := [], smelter.again := [] }) ∧
    (∀ s : State, s.smelter.enable = false → s.smelter.ringSize ≤ s.smelter.tail →
      ∃ t, Completes .smjEnable s t ∧ OnlyChanges [.smelter] s t ∧ t.smelter.enable = false ∧ t.smelter.halted = true ∧
        t.smelter.haltCause = 1 ∧ t.smelter.head = 0) ∧
    (∀ s : State, s.smelter.enable = true → Completes .smjEnable s s) ∧
    (∀ s : State, Completes .smjDisable s { s with smelter.enable := false }) ∧
    (∀ (s : State) (v : Word), v.toNat % 65536 < s.smelter.ringSize →
      Completes (.smjTailWrite v) s { s with smelter.tail := v.toNat % 65536 }) ∧
    (∀ (s : State) (v : Word), s.smelter.ringSize ≤ v.toNat % 65536 →
      Completes (.smjTailWrite v) s { s with
        smelter.tail := v.toNat % 65536, smelter.enable := false, smelter.halted := true, smelter.haltCause := 1 }) ∧
    (∀ s : State, Completes .smjHaltedClear s { s with smelter.halted := false }) ∧
    (∀ (s : State) (g k : Nat), s.smelter.enable = true → s.busOn = true → s.smelter.nextSlot = some k →
      s.smelter.queue.length + s.smelter.fetching.length < 16 → s.freeTag = some g →
      ∃ t, Completes .jobDescriptorFetch s t ∧ OnlyChanges [.power, .grizzly, .smelter, .hf, .sent] s t ∧
        (s.smelter.again = [] →
          k = s.smelter.fetch ∧ t.smelter.fetch = (s.smelter.fetch + 1) % s.smelter.ringSize) ∧
        (s.smelter.again ≠ [] → t.smelter.again = s.smelter.again.tail ∧ t.smelter.fetch = s.smelter.fetch) ∧
        t.smelter.fetching = s.smelter.fetching ++ [k] ∧ (∃ x ∈ t.hf.tags, x.tag = g ∧ x.orphaned = false) ∧
        Sent.hostRead g (s.smelter.base + 64 * k) 64 ∈ t.sent) ∧
    (∀ s : State, (s.smelter.fetch = s.smelter.tail ∧ s.smelter.again = []) ∨ s.smelter.enable = false ∨ s.busOn = false →
      Completes .jobDescriptorFetch s s) ∧
    (∀ (s : State) (g : Tag), s.oldestFetch = some g →
      (∃ t, Completes (.jobDescriptorReceive none) s t ∧ OnlyChanges [.smelter, .hf] s t ∧ t.smelter.halted = true ∧
        t.smelter.haltCause = 2 ∧ t.smelter.enable = false ∧ ∀ x ∈ t.hf.tags, x.tag ≠ g.tag) ∧
      (∀ d, jobOk d = true →
        ∃ t, Completes (.jobDescriptorReceive (some d)) s t ∧ OnlyChanges [.smelter, .hf, .regs] s t ∧
          t.smelter.queue = s.smelter.queue ++ [jobOf g.slot d] ∧ t.smelter.fetching = s.smelter.fetching.filter (· ≠ g.slot)) ∧
      (∀ d, jobOk d = false →
        ∃ t, Completes (.jobDescriptorReceive (some d)) s t ∧ t.smelter.queue = s.smelter.queue ∧
          t.smelter.jobsFailed = inc32 s.smelter.jobsFailed ∧ t.smelter.jobsDone = s.smelter.jobsDone ∧
          HostWrote s t (s.smelter.base + 64 * g.slot + 0x30) ([2, 1, 0xFF, 0] ++ List.replicate 12 (0 : Byte))))) ∧
  ((∀ (s : State) (j : Job) (l : List Job) (k : Fin 16) (g : Nat), s.smelter.queue = j :: l → s.freeEngine = some k.val →
      s.freeTag = some g → s.busOn = true →
      ∃ t, Completes .jobStart s t ∧ OnlyChanges [.power, .grizzly, .smelter, .hf, .regs, .sent] s t ∧ t.smelter.queue = l ∧
        t.smelter.engines[k] = some { j with asked := j.asked + s.readBytes j } ∧
        (∀ m : Fin 16, m ≠ k → t.smelter.engines[m] = s.smelter.engines[m]) ∧
        Sent.hostRead g (j.inAddr + j.asked) (s.readBytes j) ∈ t.sent) ∧
    (∀ s : State, s.smelter.queue = [] ∨ s.freeEngine = none → Completes .jobStart s s) ∧
    (∀ (s : State) (k : Fin 16) (j : Job), s.smelter.engines[k] = some j → s.busOn = true →
      ∀ r, j.result = some r →
        ∃ t, Completes (.jobComplete k j.slot) s t ∧ OnlyChanges [.power, .grizzly, .smelter, .hf, .regs, .sent] s t ∧
          t.smelter.engines[k] = none ∧
          (s.smelter.completed = [] → s.smelter.isFetched j.slot = true →
            t.smelter.head = if j.slot = s.smelter.head then (s.smelter.head + 1) % s.smelter.ringSize else s.smelter.head) ∧
          (r.out ≠ [] → HostWrote s t j.outAddr r.out) ∧
          (r.code = 0 → t.smelter.jobsDone = inc64 s.smelter.jobsDone ∧ t.smelter.jobsFailed = s.smelter.jobsFailed ∧
            HostWrote s t (s.smelter.base + 64 * j.slot + 0x30) ([1, 0] ++ leBytes 1 k.val ++ [0] ++ leBytes 4 r.out.length ++
              leBytes 4 r.used ++ leBytes 4 (crc32 r.out).toNat)) ∧
          (r.code ≠ 0 → t.smelter.jobsFailed = inc32 s.smelter.jobsFailed ∧ t.smelter.jobsDone = s.smelter.jobsDone ∧
            HostWrote s t (s.smelter.base + 64 * j.slot + 0x30) ([2] ++ leBytes 1 r.code ++ leBytes 1 k.val ++
              List.replicate 5 0 ++ leBytes 4 r.used ++ List.replicate 4 0)) ∧
          (bitOf j.opt 1 = false → t.hf.msix0 = s.hf.msix0) ∧
          (bitOf j.opt 1 = true → s.canSignal .pf0 65 = false → (t.msixEntry .pf0 65).pending = true)) ∧
    (∀ (s : State) (k : Fin 16) (n : Nat), s.smelter.engines[k] = none → Completes (.jobComplete k n) s s) ∧
    (∀ (s : State) (k : Fin 16) (j : Job) (n : Nat), s.smelter.engines[k] = some j → j.result = none ∨ j.slot ≠ n →
      Completes (.jobComplete k n) s s))

/-- Completions: a tag that is not in use is an Unexpected Completion, reported through AER, one of an orphaned or a
timed-out request is counted and dropped, input that arrives goes to its engine, which asks for the next, a descriptor
that arrives is queued where it is good, an error fails the request; a request that times out fails, shows in AER and
keeps its tag, which is released later (R243, R247, R270, R296, R297, R299 to R301; the AER registers' layout is
PRESUMED, log 61). -/
def Obligations.Completions : Prop :=
  (∀ (s : State) (tag : Nat) (st : CplStatus) (d : List Byte), (∀ x ∈ s.hf.tags, x.tag ≠ tag) →
    ∃ t, Completes (.completionReceive tag st d) s t ∧ OnlyChanges [.hf, .sent] s t ∧
      t.hf.cfg0.aerUnc = s.hf.cfg0.aerUnc ||| 2 ^ 16 ∧ t.hf.tags = s.hf.tags) ∧
  (∀ (s : State) (tag : Nat) (st : CplStatus) (d : List Byte) (g : Tag),
    s.hf.tags.find? (fun x => x.tag == tag) = some g →
    (g.orphaned = true →
      Completes (.completionReceive tag st d) s { s with
        hf.tags := s.hf.tags.filter fun x => x.tag != tag, hf.orphaned := s.hf.orphaned.inc }) ∧
    (g.orphaned = false → g.timedOut = true →
      Completes (.completionReceive tag st d) s { s with
        hf.tags := s.hf.tags.filter fun x => x.tag != tag, hf.late := s.hf.late.inc }) ∧
    (g.orphaned = false → g.timedOut = false → g.descriptor = false →
      ∀ (k : Fin 16) (j : Job), g.slot = k.val → s.smelter.engines[k] = some j →
      (st = .ok →
        ∃ t j', Completes (.completionReceive tag st d) s t ∧
          OnlyChanges [.power, .grizzly, .smelter, .hf, .sent] s t ∧ t.smelter.engines[k] = some j' ∧
          j'.input = j.input ++ d ∧ (j.inLen ≤ j.asked → j'.asked = j.asked) ∧
          (j.asked < j.inLen → s.busOn = true →
            ∀ f, ({ s with hf.tags := s.hf.tags.filter fun x => x.tag != tag } : State).freeTag = some f →
            j'.asked = j.asked + s.readBytes j ∧ Sent.hostRead f (j.inAddr + j.asked) (s.readBytes j) ∈ t.sent)) ∧
      (st ≠ .ok → s.busOn = true →
        ∃ t, Completes (.completionReceive tag st d) s t ∧ t.smelter.engines[k] = none ∧
          t.smelter.jobsFailed = inc32 s.smelter.jobsFailed)) ∧
    (g.orphaned = false → g.timedOut = false → g.descriptor = true → st = .ok →
      ∃ t, Completes (.completionReceive tag st d) s t ∧
        t.smelter.queue = (if jobOk d = true then s.smelter.queue ++ [jobOf g.slot d] else s.smelter.queue) ∧
        t.smelter.fetching = s.smelter.fetching.filter (· ≠ g.slot)) ∧
    (g.orphaned = false → g.timedOut = false → g.descriptor = true → st ≠ .ok →
      ∃ t, Completes (.completionReceive tag st d) s t ∧ OnlyChanges [.smelter, .hf, .sent] s t ∧ t.smelter.halted = true ∧
        t.smelter.haltCause = 2 ∧
        t.hf.cfg0.aerUnc = (if st = .poisoned then s.hf.cfg0.aerUnc ||| 2 ^ 12 else s.hf.cfg0.aerUnc))) ∧
  (∀ (s : State) (tag : Nat) (g : Tag),
    s.hf.tags.find? (fun x => x.tag == tag && !x.orphaned && !x.timedOut) = some g →
    (g.descriptor = true →
      ∃ t, Completes (.completionTimeout tag) s t ∧ t.hf.cfg0.aerUnc = s.hf.cfg0.aerUnc ||| 2 ^ 14 ∧ t.smelter.halted = true ∧
        t.smelter.haltCause = 2 ∧
        t.hf.tags = s.hf.tags.map fun x => if x.tag = tag then { x with timedOut := true } else x) ∧
    (g.descriptor = false → ∀ (k : Fin 16) (j : Job), g.slot = k.val → s.smelter.engines[k] = some j → s.busOn = true →
      ∃ t, Completes (.completionTimeout tag) s t ∧ t.hf.cfg0.aerUnc = s.hf.cfg0.aerUnc ||| 2 ^ 14 ∧
        t.smelter.engines[k] = none ∧ t.smelter.jobsFailed = inc32 s.smelter.jobsFailed)) ∧
  (∀ (s : State) (tag : Nat), (∀ x ∈ s.hf.tags, x.tag = tag → x.orphaned = true ∨ x.timedOut = true) →
    Completes (.completionTimeout tag) s s) ∧
  (∀ (s : State) (tag : Nat), Completes (.tagRelease tag) s { s with
    hf.tags := s.hf.tags.filter fun x => x.tag != tag || !(x.orphaned || x.timedOut) })

/-- A scope of a slot closes after its last sample with a result of the slot's next number, and the next scope opens
on the sample behind it; a slot that does not run measures nothing; results enter the class-B queue in the order of
close sample and slot, on a Shadow not at all (R253, R263, R265 to R267, Table 8.3). -/
def Obligations.AssayResults : Prop :=
  (∀ (s : State) (k : Fin 32), s.kindNow k.val = akOff →
    Completes (.assayResultClose k) s (s.onSlot k.val fun m => { m with start := none, runs := [], left := [], words := [] })) ∧
  (∀ (s : State) (k : Fin 32) (c : Coord) (b : Nat), s.kindNow k.val ≠ akOff → (s.slot k.val).start = some c →
    s.scopeEnd k.val c.sidx = some b → c.sidx < b →
    s.slotCfg k.val 2 ≠ scLine ∨ s.lineInRange k.val (unpackPos c.rastpos).line = true →
    ∃ t r, Completes (.assayResultClose k) s t ∧ OnlyChanges [.seams, .grizzly, .slots, .regs, .fm, .free] s t ∧
      (t.slot k.val).closed = (s.slot k.val).closed ++ [r] ∧ r.ingot.type = 6 ∧ r.ingot.source = 0x80 + k.val ∧
      r.ingot.seq = (s.slot k.val).nextSeq ∧ r.ingot.sidx = c.sidx ∧ r.ingot.rastpos = c.rastpos ∧
      r.ingot.time96 = c.time96 ∧ r.ingot.span = b - c.sidx ∧ r.ingot.epoch = s.epochNo ∧
      r.ingot.aux = s.slotCfg k.val 1 ∧ (t.slot k.val).nextSeq = (s.slot k.val).nextSeq + 1 ∧
      (t.slot k.val).results = inc64 (s.slot k.val).results) ∧
  (∀ (s : State) (k : Fin 32), s.kindNow k.val ≠ akOff → (s.slot k.val).start = none → s.scopeStarts k.val = true →
    ∃ t, Completes (.assayResultClose k) s t ∧ OnlyChanges [.slots] s t ∧ (t.slot k.val).start = some s.here ∧
      (t.slot k.val).closed = (s.slot k.val).closed) ∧
  (∀ (s : State) (k : Fin 32) (c : Coord), s.kindNow k.val ≠ akOff → (s.slot k.val).start = some c →
    s.scopeEnd k.val c.sidx = none → Completes (.assayResultClose k) s s) ∧
  (∀ (s : State) (k : Fin 32), (s.slot k.val).closed = [] → Completes (.assayResultEnqueue k) s s) ∧
  (∀ (s : State) (k : Fin 32) (r : AssayDue) (l : List AssayDue), (s.slot k.val).closed = r :: l → r.done = true →
    s.doorWaits r.ingot = false →
    (s.earlierResult k.val r = true → Completes (.assayResultEnqueue k) s s) ∧
    (s.earlierResult k.val r = false → s.isShadow = true → Completes (.assayResultEnqueue k) s (s.onSlot k.val fun m => { m with closed := l })) ∧
    (s.earlierResult k.val r = false → s.isShadow = false → s.cfg 0x2C00 1 = 0xFF →
      Completes (.assayResultEnqueue k) s { s.onSlot k.val (fun m => { m with closed := l }) with
        grizzly.classBDropped := inc32 s.grizzly.classBDropped }) ∧
    (s.earlierResult k.val r = false → s.isShadow = false → s.cfg 0x2C00 1 ≠ 0xFF → s.classBUsed + r.ingot.size ≤ 268435456 →
      ∃ t i, Completes (.assayResultEnqueue k) s t ∧ OnlyChanges [.slots, .grizzly] s t ∧ (t.slot k.val).closed = l ∧
        t.grizzly.classB = s.grizzly.classB ++ [.assay i] ∧ i.seq = r.ingot.seq ∧ i.payload = r.ingot.payload ∧
        i.source = r.ingot.source))

/-- PF0 stops as a requester when Bus Master Enable clears or it enters D3hot: reads are orphaned, jobs stop, class A
is suspended; its return writes ABORTED completions of the stopped jobs, and Memory Space Enable is a function's own.
Configuration requests are answered with Retry Status until the Headframe is ready, then read a doubleword, the
identity in the first, or write one, the Command register with Memory Space and Bus Master Enable; L1, where the host
enables it, and L0p are entered only while no class-A stream is armed, and a request for L0p is declined else (R33,
R201, R247, R274, R292 to R294, R298, Tables 9.1, 9.8; log 23, and log 61 for the offsets). -/
def Obligations.BusMasteringAndLinkPower : Prop :=
  (let stops (s t : State) : Prop :=
      OnlyChanges [.grizzly, .smelter, .hf, .regs, .fm] s t ∧ (∀ x ∈ t.hf.tags, x.orphaned = true ∨ x.timedOut = true) ∧
        t.hf.tags.length = s.hf.tags.length ∧ (∀ k : Fin 16, t.smelter.engines[k] = none) ∧ t.smelter.fetching = [] ∧
        t.smelter.queue = s.smelter.queue ∧
        (s.scopeAll ≠ 0 → ∃ x ∈ t.grizzly.suspensions, x.cause = .busMasterOff ∧ x.metSince = none)
    let returns (s t : State) : Prop :=
      OnlyChanges [.power, .streams, .grizzly, .smelter, .hf, .regs, .sent] s t ∧ t.smelter.stopped = [] ∧
        (∀ x ∈ s.smelter.stopped, HostWrote s t (s.smelter.base + 64 * x.2.slot + 0x30)
          ([2] ++ leBytes 1 jeAborted ++ leBytes 1 x.1 ++ List.replicate 13 (0 : Byte))) ∧
        ∀ x ∈ t.grizzly.suspensions, x.cause = .busMasterOff → x.metSince ≠ none
    (∀ s : State, s.hf.bme = true →
      ∃ t, Completes .busMasterClear s t ∧ t.hf.bme = false ∧ t.hf.d3hot = s.hf.d3hot ∧ stops s t) ∧
    (∀ s : State, s.hf.bme = false → Completes .busMasterClear s s) ∧
    (∀ s : State, s.hf.d3hot = false →
      ∃ t, Completes .d3hotEntry s t ∧ t.hf.d3hot = true ∧ t.hf.bme = s.hf.bme ∧ stops s t) ∧
    (∀ s : State, s.hf.d3hot = true → Completes .d3hotEntry s s) ∧
    (∀ s : State, s.hf.bme = false → s.hf.l0 = true → s.hf.d3hot = false →
      ∃ t, Completes .busMasterSet s t ∧ t.hf.bme = true ∧ returns s t) ∧
    (∀ s : State, s.hf.bme = true → Completes .busMasterSet s s) ∧
    (∀ s : State, s.hf.d3hot = true → s.hf.l0 = true → s.hf.bme = true →
      ∃ t, Completes .d0Return s t ∧ t.hf.d3hot = false ∧ returns s t) ∧
    (∀ s : State, s.hf.d3hot = true → s.hf.bme = false → Completes .d0Return s { s with hf.d3hot := false }) ∧
    (∀ (s : State) (fn : Fn), ∃ t, Completes (.memorySpaceDisable fn) s t ∧ OnlyChanges [.hf] s t ∧
      (t.fnCfg fn).mse = false ∧ (t.fnCfg fn).msixEnable = (s.fnCfg fn).msixEnable ∧ t.hf.rings = s.hf.rings)) ∧
  ((∀ (s : State) (fn : Fn) (off : Nat) (write : Option (Word × BitVec 4)), s.hf.l0 = true → s.hf.ready = false →
      Completes (.configRequest ⟨fn, off, write⟩) s (s.send (.configReply fn true 0))) ∧
    (∀ (s : State) (fn : Fn) (off : Nat), s.hf.l0 = true → s.hf.ready = true →
      Completes (.configRequest ⟨fn, off, none⟩) s
        (s.send (.configReply fn false (BitVec.ofNat 32 (s.cfgRead fn (off / 4 * 4)))))) ∧
    (∀ s : State, s.hf.l0 = true → s.hf.ready = true →
      Completes (.configRequest ⟨.pf0, 0, none⟩) s (s.send (.configReply .pf0 false 0x0768B71D)) ∧
      Completes (.configRequest ⟨.pf1, 0, none⟩) s (s.send (.configReply .pf1 false 0x0769B71D))) ∧
    (∀ (s : State) (fn : Fn) (off : Nat) (v : Word) (be : BitVec 4), s.hf.l0 = true → s.hf.ready = true →
      ∃ t, Completes (.configRequest ⟨fn, off, some (v, be)⟩) s t ∧ t.sent.head? = some (.configReply fn false 0) ∧
        OnlyChanges [.power, .streams, .grizzly, .smelter, .hf, .dict, .regs, .twin, .fm, .sent] s t ∧
        (off = 4 → be = 0xF → (t.fnCfg fn).mse = v.getLsbD 1 ∧
          t.hf.bme = (match fn with
            | .pf0 => v.getLsbD 2
            | .pf1 => s.hf.bme))) ∧
    (∀ (s : State) (fn : Fn) (off : Nat) (write : Option (Word × BitVec 4)), s.hf.l0 = false →
      Completes (.configRequest ⟨fn, off, write⟩) s s) ∧
    (∀ s : State, s.hf.l0 = true → s.hf.inL1 = false → s.hf.cfg0.l1On = true → s.anyArmed = false →
      ∃ t, Completes .aspmL1Entry s t ∧ OnlyChanges [.power, .grizzly, .hf, .regs, .fm] s t ∧
        t.hf = { s.hf with inL1 := true } ∧ t.power.clkreq = (s.power.clkreq && !s.hf.cfg0.l12On) ∧ t.grizzly.g = 0 ∧
        t.grizzly.bins = []) ∧
    (∀ s : State, s.hf.l0 = false ∨ s.hf.inL1 = true ∨ s.hf.cfg0.l1On = false ∨ s.anyArmed = true →
      Completes .aspmL1Entry s s) ∧
    (∀ (s : State) (width : Nat), s.hf.l0 = true → s.hf.flit = true →
      (s.anyArmed = true → Completes (.l0pRequest width) s { s with sent := .l0pDeclined :: s.sent } ∧
        Completes (.l0pDeviceRequest width) s s) ∧
      (s.anyArmed = false → width < s.hf.width →
        Completes (.l0pRequest width) s { s with hf.l0p := some width, sent := .l0p width :: s.sent } ∧
        (width = 8 ∨ width = 4 →
          Completes (.l0pDeviceRequest width) s { s with hf.l0p := some width, sent := .l0p width :: s.sent }))) ∧
    (∀ (s : State) (width : Nat), s.hf.flit = false →
      Completes (.l0pRequest width) s s ∧ Completes (.l0pDeviceRequest width) s s))

/-- Selective streams and PF1: a key of a session with the Foreman makes a stream Secure with its associations; its
loss ends every session of PF1 and tells once; PF1 answers only what came in a Secure stream, and a request to its BAR
0 is a Completer Abort (R276 to R278, R299, R300, R328). -/
def Obligations.SecurePaths : Prop :=
  (∀ (s : State) (k : Fin 4) (blocks : List (Nat × Nat)) (rids : Nat × Nat) (pcrc : Bool), s.hf.l0 = true →
    s.foremanRuns = true →
    ∃ t, Completes (.ideKeyProgram k ⟨blocks, rids, pcrc⟩ true) s t ∧ OnlyChanges [.power, .grizzly, .hf, .sent] s t ∧
      t.hf.ide[k] = some { blocks := blocks.take 2, rids, pcrc, secure := true } ∧
      ∀ j : Fin 4, j ≠ k → t.hf.ide[j] = s.hf.ide[j]) ∧
  (∀ (s : State) (k : Fin 4) (blocks : List (Nat × Nat)) (rids : Nat × Nat) (pcrc session : Bool),
    s.hf.l0 = false ∨ s.foremanRuns = false ∨ session = false →
    Completes (.ideKeyProgram k ⟨blocks, rids, pcrc⟩ session) s s) ∧
  (∀ (s : State) (k : Fin 4) (x : IdeStream), s.hf.ide[k] = some x → x.secure = true →
    ∃ t, Completes (.ideStreamLost k) s t ∧ OnlyChanges [.grizzly, .hf, .dict, .regs, .twin, .fm] s t ∧
      t.hf.ide[k] = some { x with secure := false } ∧
      (∀ w : Fin 8, t.dict.slots1[w].session = none ∧
        (s.dict.slots1[w].session ≠ none → s.dict.slots1[w].state = 1 →
          t.dict.slots1[w].state = 3 ∧ t.dict.slots1[w].abort = abReset)) ∧
      t.dict.slots0 = s.dict.slots0) ∧
  (∀ (s : State) (k : Fin 4), (∀ x, s.hf.ide[k] = some x → x.secure = false) → Completes (.ideStreamLost k) s s) ∧
  (∀ (s : State) (r : Pf1Access), s.hf.l0 = true → s.secureStream r.stream = false →
    ∃ t, Completes (.pf1MemoryRequest r) s t ∧ OnlyChanges [.hf, .sent] s t ∧
      t.hf.pf1Refused = s.hf.pf1Refused.inc ∧ t.hf.cfg1.aerUnc = s.hf.cfg1.aerUnc ||| 2 ^ 20 ∧
      (r.write = none → t.sent.head? = some (.completion false false []))) ∧
  (∀ (s : State) (r : Pf1Access), s.hf.l0 = true → s.secureStream r.stream = true → s.hf.cfg1.mse = true →
    (r.bar0 = true →
      ∃ t, Completes (.pf1MemoryRequest r) s t ∧ OnlyChanges [.hf, .sent] s t ∧
        t.hf.pf1Refused = s.hf.pf1Refused ∧ t.hf.cfg1.aerUnc = s.hf.cfg1.aerUnc ||| 2 ^ 15 ∧
        (r.write = none → t.sent.head? = some (.completion false true []))) ∧
    (∀ v, r.bar0 = false → r.write = some v →
      Completes (.pf1MemoryRequest r) s (s.pf1Write r.stream r.offset [(v, 0xF)])) ∧
    (∀ v u, r.bar0 = false → r.write = none → s.pf1Read r.offset = (v, u) →
      Completes (.pf1MemoryRequest r) s (u.send (.completion true false [BitVec.ofNat 32 v]))) ∧
    (r.bar0 = false → r.write = none → r.offset < 0x80000 →
      Completes (.pf1MemoryRequest r) s { s with
        sent := .completion true false
          [BitVec.ofNat 32 ((s.winSlot .pf1 (r.offset / slotSpan)).read (r.offset % slotSpan / 4 * 4))] :: s.sent }))

/-! ## The object dictionary and its transports -/

/-- A write that any check of Table 10.2 or the object itself refuses is answered with its code and changes nothing
else, but the count of invalid signatures (R305, R407); the checks come in the table's order. -/
def Obligations.RefusedWritesChangeNothing : Prop :=
  ∀ (s : State) (via : Path) (index sub : Nat) (data : List Byte),
    (s.foremanRuns = false → Completes (.dictWrite via index sub data) s s) ∧
    (s.foremanRuns = true → (s.dictWrite via index sub data).1 ≠ 0 → ¬ (index = 0x1100 ∧ sub = 6) →
      Completes (.dictWrite via index sub data) s (s.answer via index sub (s.dictWrite via index sub data).1)) ∧
    (objectRow index sub = none → keyArea index = false → indexKnown index = false →
      (s.dictWrite via index sub data).1 = abNoObject) ∧
    (objectRow index sub = none → keyArea index = true ∨ indexKnown index = true →
      (s.dictWrite via index sub data).1 = abNoSubindex) ∧
    ∀ r, objectRow index sub = some r →
      let code := (s.dictWrite via index sub data).1
      let secure := (keyArea index || r.acc.secure) && !secureVia via
      (secure = true → code = abSecureOnly) ∧
      (secure = false → r.acc.writable = false → code = abReadOnly) ∧
      (secure = false → r.acc.writable = true →
        (s.lifeForbids index sub data = true → code = abLifeCycle) ∧
        (s.lifeForbids index sub data = false →
          (s.twinManaged via r index sub = true → code = abTwinManaged) ∧
          (s.twinManaged via r index sub = false →
            (r.staged (key index sub) = true → r.acc = .rwa → s.modeLets via = false → code = abModeState) ∧
            (r.acc ≠ .rwa ∨ s.modeLets via = true →
              (r.staged (key index sub) = true → s.stageFrozen = true → code = abStageFrozen) ∧
              (s.stageFrozen = false →
                (r.ty.lengthOk data.length = false → code = abLength) ∧
                (r.ty.lengthOk data.length = true → r.ty.valueOk data = false ∨ r.ok (leNat data) = false →
                  code = abValueRange))))))

/-- A write that passes the checks of a staged object is staged and leaves the live values alone; one of a plain
object is in force at once, and its read gives it back; a read of a staged object gives the staged value (R18, R21,
R303 to R306). -/
def Obligations.DictionaryWritesAndReads : Prop :=
  (∀ (s : State) (via : Path) (index sub : Nat) (data : List Byte) (r : Row), Passes s via index sub data →
    objectRow index sub = some r → r.staged (key index sub) = true →
    ¬ (index = 0x2000 ∧ (sub = 2 ∨ sub = 3)) →
    ∃ t, Completes (.stagedObjectWrite via index sub data) s t ∧ Completes (.dictWrite via index sub data) s t ∧
      OnlyChanges [.modes, .regs, .twin, .sent] s t ∧ t.modes.staged.find (key index sub) = some (leNat data) ∧
      (∀ k, k ≠ key index sub → t.modes.staged.find k = s.modes.staged.find k) ∧ t.next index sub = leNat data ∧
      t.modes.changeState = 1 ∧ t.modes.mode = s.modes.mode) ∧
  (∀ (s : State) (via : Path) (index sub : Nat) (data : List Byte) (r : Row), Passes s via index sub data →
    objectRow index sub = some r → r.staged (key index sub) = false → s.applyService index sub data = none →
    s.applyUnit index sub data = none →
    ∃ t, Completes (.dictWrite via index sub data) s t ∧ OnlyChanges [.dict, .sent] s t ∧ t.cfg index sub = leNat data ∧
      (∀ k, k ≠ key index sub → t.dict.live.value k = s.dict.live.value k) ∧
      t.sent = .dictReply via index sub 0 [] :: s.sent) ∧
  (∀ (s : State) (via : Path) (index sub : Nat) (r : Row), s.foremanRuns = true → accessCode via index sub false = 0 →
    objectRow index sub = some r → sub ≠ 0 → keyArea index = false → (index = 0x3100 → sub ≠ 5) →
    (index = 0x1100 → sub ≠ 5 ∧ sub ≠ 8) → (index = 0x3000 → 15 < sub) →
    (r.acc ≠ .ro → Completes (.dictRead via index sub) s
      (s.send (.dictReply via index sub 0 (leBytes r.ty.bytes (s.next index sub))))) ∧
    (r.acc = .ro → Completes (.dictRead via index sub) s
      (s.send (.dictReply via index sub 0 (leBytes r.ty.bytes (s.status index sub)))))) ∧
  (∀ (s : State) (via : Path), s.foremanRuns = true →
    Completes (.dictRead via 0x2000 1) s (s.send (.dictReply via 0x2000 1 0 (leBytes 1 s.mode))) ∧
    Completes (.dictRead via 0x2101 8) s (s.send (.dictReply via 0x2101 8 0 (leBytes 8 s.sv.sidx)))) ∧
  (∀ (s : State) (via : Path) (index sub : Nat), s.foremanRuns = true → accessCode via index sub false ≠ 0 →
    Completes (.dictRead via index sub) s (s.send (.dictReply via index sub (accessCode via index sub false) [])))

/-- A store takes a snapshot into the area that does not hold the newest image, which is good once its commit word is
written; STORE_CMD 0x4446 stores no record; one store runs at a time, and a failure is a Notice (R310 to R312). -/
def Obligations.StoreCommands : Prop :=
  (∀ (s : State) (via : Path), Passes s via 0x1080 1 (leBytes 2 0x5354) →
    (s.dict.storeState = 1 ∨ s.fm.updateState = 4 →
      Completes (.store via) s (s.answer via 0x1080 1 abBusy)) ∧
    (s.dict.storeState ≠ 1 → s.fm.updateState ≠ 4 →
      ∃ t, Completes (.store via) s t ∧ OnlyChanges [.dict, .nv, .sent] s t ∧ t.dict.storeState = 1 ∧
        t.dict.storing = some s.snapshot ∧ t.dict.live = s.dict.live ∧
        t.nv.areas = s.nv.areas.set s.storeTarget
          (some { generation := s.storeGeneration + 1, good := false, records := s.snapshot }))) ∧
  (∀ (s : State) (via : Path), Passes s via 0x1080 1 (leBytes 2 0x4446) → s.dict.storeState ≠ 1 → s.fm.updateState ≠ 4 →
    ∃ t, Completes (.storeErase via) s t ∧ OnlyChanges [.dict, .nv, .sent] s t ∧ t.dict.storing = some [] ∧
      t.dict.live = s.dict.live ∧
      t.nv.areas = s.nv.areas.set s.storeTarget (some { generation := s.storeGeneration + 1, good := false, records := [] })) ∧
  (∀ (s : State) (l : List (Nat × Nat)), s.dict.storing = some l →
    (∃ t, Completes (.storeCommitDone true) s t ∧ OnlyChanges [.dict, .nv] s t ∧ t.dict.storing = none ∧
      t.dict.storeState = 2 ∧
      t.nv.areas = s.nv.areas.set s.storeTarget (s.nv.areas[s.storeTarget].map fun a => { a with good := true })) ∧
    (∃ t, Completes (.storeCommitDone false) s t ∧ t.dict.storing = none ∧ t.dict.storeState = 3 ∧
      t.nv.areas = s.nv.areas ∧
      (s.fm.handling = none → s.fm.restarting = false →
        ∃ x, t.fm.handling = some x ∧ x.req.cls = .notice ∧ x.req.code = .storeFailed))) ∧
  (∀ (s : State) (ok : Bool), s.dict.storing = none → Completes (.storeCommitDone ok) s s)

/-- Requests on a CAN port: an expedited write is answered WRITE_OK or ABORT, a read READ_OK or, above 56 bytes, by an
upload that waits for ACK; a client's new request ends its open transfer; a port without a context answers NO_CONTEXT.
A segmented transfer: WRITE_INIT opens it, segments in turn are kept, one out of turn is asked for again once, END
checks count and CRC and writes, ACK sends at most 16 segments on, and an ABORT or the timeout ends it. Bus errors
raise the error counters, above 255 transmit errors the port is in bus-off until it recovers (R315 to R322; the steps
of ISO 11898-1 are the model's, log 39). -/
def Obligations.CanPorts : Prop :=
  (∀ (s : State) (p : CanPort) (client : BitVec 8) (brs : Bool) (index sub token : Nat), s.canTakes p = true →
      let h := s.canHeard p brs
      (clientOk client = false →
        (∀ len d, Completes (.canWrite p client brs index sub token len d) s (s.canIgnore p)) ∧
        Completes (.canRead p client brs index sub token) s (s.canIgnore p)) ∧
      (clientOk client = true → isPartner client = false → s.transfer p client = none → (s.can p).transfers.length < 8 →
        (∀ len d, len ≤ 56 → len ≤ d.length → ¬ (index = 0x2000 ∧ sub = 0x0E) →
          ∃ t, Completes (.canWrite p client brs index sub token len d) s t ∧
            ∀ c, (h.dictWrite (canPath p) index sub (d.take len)).1 = c →
              t = (if c = 0 then (h.dictWrite (canPath p) index sub (d.take len)).2.canReply p
                    (objectFrame 0x91 client index sub token len [])
                   else (h.dictWrite (canPath p) index sub (d.take len)).2.canAbortSend p client index sub token c)) ∧
        (∀ len d, 56 < len ∨ d.length < len →
          Completes (.canWrite p client brs index sub token len d) s (h.canAbortSend p client index sub token abProtocol)) ∧
        (∀ c b u, h.dictRead (canPath p) index sub = (c, b, u) →
          (c ≠ 0 → Completes (.canRead p client brs index sub token) s (u.canAbortSend p client index sub token c)) ∧
          (c = 0 → b.length ≤ 56 →
            Completes (.canRead p client brs index sub token) s
              (u.canReply p (objectFrame 0x90 client index sub token b.length b))) ∧
          (c = 0 → 56 < b.length →
            ∃ t x, Completes (.canRead p client brs index sub token) s t ∧ t.transfer p client = some x ∧ x.upload = true ∧
              x.data = b ∧ x.next = 0 ∧ x.index = index ∧ x.sub = sub ∧ x.token = token))) ∧
      (clientOk client = true → s.transfer p client = none → (s.can p).transfers.length = 8 → ∀ len d,
        Completes (.canRead p client brs index sub token) s (h.canAbortSend p client index sub token abNoContext) ∧
        Completes (.canWrite p client brs index sub token len d) s (h.canAbortSend p client index sub token abNoContext)) ∧
      (∀ x, clientOk client = true → s.transfer p client = some x →
        ∃ t, Completes (.canRead p client brs index sub token) s t ∧ (t.can p).restarts = inc32 (s.can p).restarts ∧
          (isPartner client = true → t.transfer p client = none))) ∧
  (∀ (s : State) (p : CanPort) (client : BitVec 8) (brs : Bool), s.canTakes p = true → clientOk client = true →
      let h := s.canHeard p brs
      (∀ index sub token len, isPartner client = false → s.transfer p client = none → (s.can p).transfers.length < 8 →
        56 < len → len ≤ 65472 →
        (h.announceCode (canPath p) index sub len = 0 →
          ∃ t x, Completes (.canWriteInit p client brs index sub token len) s t ∧ OnlyChanges [.dict, .sent] s t ∧
            t.transfer p client = some x ∧ x.upload = false ∧ x.len = len ∧ x.data = [] ∧ x.next = 0 ∧ x.index = index ∧
            x.sub = sub ∧ t.dict.live = s.dict.live) ∧
        (∀ c, h.announceCode (canPath p) index sub len = c → c ≠ 0 →
          Completes (.canWriteInit p client brs index sub token len) s (h.canAbortSend p client index sub token c))) ∧
      (∀ x, s.transfer p client = some x → x.client = client →
        (x.upload = false →
          (∀ d, x.data.length < x.len → min 60 (x.len - x.data.length) ≤ d.length →
            ∃ t y, Completes (.canSegment p client brs x.next d) s t ∧ t.transfer p client = some y ∧
              y.data = x.data ++ d.take (min 60 (x.len - x.data.length)) ∧ y.next = x.next + 1 ∧ y.discarding = false) ∧
          (∀ n d, n ≠ x.next → x.discarding = false → x.resends < 8 →
            ∃ t y, Completes (.canSegment p client brs n d) s t ∧ t.transfer p client = some y ∧ y.data = x.data ∧
              y.next = x.next ∧ y.discarding = true ∧ y.resends = x.resends + 1) ∧
          (∀ n crc, n = segmentsOf x.len → x.data.length = x.len → crc = crc16 x.data → isPartner client = false →
            ¬ (x.index = 0x2000 ∧ x.sub = 0x0E) →
            ∃ t, Completes (.canEnd p client brs n crc) s t ∧
              ∀ u, (h.closeTransfer p client).dictWrite (canPath p) x.index x.sub x.data = u →
                t = u.2.canWritten p client x.index x.sub x.token x.len u.1) ∧
          (∀ n crc, n ≠ segmentsOf x.len ∨ x.data.length ≠ x.len →
            Completes (.canEnd p client brs n crc) s
              ((h.closeTransfer p client).canAbortSend p client x.index x.sub x.token abProtocol)) ∧
          (∀ n crc, n = segmentsOf x.len → x.data.length = x.len → crc ≠ crc16 x.data →
            ∃ t, Completes (.canEnd p client brs n crc) s t ∧ t.transfer p client = none ∧ t.dict.live = s.dict.live ∧
              t = (h.closeTransfer p client).canAbortSend p client x.index x.sub x.token abCrc)) ∧
        (x.upload = true → ∀ next, next ≤ x.next → x.resends < 8 →
          (segmentsOf x.len ≤ next + 16 → ∃ t, Completes (.canAck p client brs next) s t ∧ t.transfer p client = none) ∧
          (next + 16 < segmentsOf x.len →
            ∃ t y, Completes (.canAck p client brs next) s t ∧ t.transfer p client = some y ∧ y.next = next + 16 ∧
              y.acked = next)) ∧
        (∀ index sub token, Completes (.canAbort p client brs index sub token) s
          ((h.closeTransfer p client).canAbortSend p client index sub token abCancelled))) ∧
      (∀ x, s.transfer p client = some x → x.client = client →
        Completes (.canTimeout p client) s
          ((s.closeTransfer p client).canAbortSend p client x.index x.sub x.token abTimeout)) ∧
      (s.transfer p client = none → Completes (.canTimeout p client) s s)) ∧
  ((∀ (s : State) (p : CanPort), s.power.phase = .running → s.canOn p = true →
      (∃ t, Completes (.canFrameIgnored p) s t ∧ OnlyChanges [.dict] s t ∧
        (t.can p).ignored = inc32 (s.can p).ignored ∧ (t.can p).transfers = (s.can p).transfers) ∧
      ((s.can p).errorState ≠ 2 →
        (∃ t, Completes (.canBusError p true) s t ∧ OnlyChanges [.dict] s t ∧ (t.can p).tec = (s.can p).tec + 8 ∧
          (255 < (s.can p).tec + 8 →
            (t.can p).errorState = 2 ∧ (t.can p).busOff = inc32 (s.can p).busOff) ∧
          ((s.can p).tec + 8 ≤ 127 → (s.can p).rec_ ≤ 127 → (t.can p).errorState = 0)) ∧
        (∃ t, Completes (.canBusError p false) s t ∧ OnlyChanges [.dict] s t ∧ (t.can p).rec_ = (s.can p).rec_ + 1 ∧
          (t.can p).tec = (s.can p).tec))) ∧
    (∀ (s : State) (p : CanPort), (s.can p).errorState = 2 →
      ∃ t, Completes (.canBusOffRecovery p) s t ∧ OnlyChanges [.dict] s t ∧ (t.can p).errorState = 0 ∧ (t.can p).tec = 0 ∧
        (t.can p).rec_ = 0 ∧ (t.can p).busOff = (s.can p).busOff) ∧
    (∀ (s : State) (p : CanPort), (s.can p).errorState ≠ 2 → Completes (.canBusOffRecovery p) s s))

/-- GO runs the request that a slot holds and leaves the slot DONE with its value or ABORTED with its code; a slot
that is pending refuses GO; without a partner a partner request ends with NOT_PAIRED. On PF1 the first request binds
the slot's session to its stream, and one from another stream ends with SECURE_ONLY (R323 to R325, R328, R331). -/
def Obligations.WindowSlots : Prop :=
  (∀ (s : State) (k : Fin 16), s.hf.l0 = true → s.hf.cfg0.mse = true →
      let w := s.dict.slots0[k]
      let asked (s : State) : State := ({ s with dict.winRequests := inc64 s.dict.winRequests } : State).onSlotOf .pf0 k.val
        fun w => { w with state := 1, abort := 0, partner := false, since := s.sv.up }
      (w.state = 1 →
        (w.cmd = 0x01 → Completes (.slotGoRead .pf0 k none) s { s with dict.winFaults := inc32 s.dict.winFaults }) ∧
        (w.cmd = 0x02 → Completes (.slotGoWrite .pf0 k none) s { s with dict.winFaults := inc32 s.dict.winFaults })) ∧
      (w.state ≠ 1 → s.foremanRuns = true →
        (w.cmd = 0x01 → ∀ c b u, (asked s).dictRead .pf0 w.index w.sub = (c, b, u) →
          ∃ t, Completes (.slotGoRead .pf0 k none) s t ∧ t.dict.winRequests = inc64 s.dict.winRequests ∧
            (c = 0 → t.dict.slots0[k].state = 2 ∧ t.dict.slots0[k].abort = 0 ∧ t.dict.slots0[k].len = b.length ∧
              t.dict.slots0[k].bytes b.length = b) ∧
            (c ≠ 0 → t.dict.slots0[k].state = 3 ∧ t.dict.slots0[k].abort = c ∧ t.dict.slots0[k].data = w.data)) ∧
        (w.cmd = 0x02 → w.len ≤ 65472 → ¬ (w.index = 0x2000 ∧ w.sub = 0x0E) →
          ∀ c u, (asked s).dictWrite .pf0 w.index w.sub (w.bytes w.len) = (c, u) →
            ∃ t, Completes (.slotGoWrite .pf0 k none) s t ∧ t.dict.live = u.dict.live ∧ t.modes = u.modes ∧
              (c = 0 → t.dict.slots0[k].state = 2 ∧ t.dict.slots0[k].abort = 0) ∧
              (c ≠ 0 → t.dict.slots0[k].state = 3 ∧ t.dict.slots0[k].abort = c)) ∧
        (s.partnered = false →
          (w.cmd = 0x81 → ∃ t, Completes (.slotGoPartnerRead .pf0 k none) s t ∧ t.dict.slots0[k].state = 3 ∧
            t.dict.slots0[k].abort = abNotPaired) ∧
          (w.cmd = 0x82 → w.len ≤ 65472 → ∃ t, Completes (.slotGoPartnerWrite .pf0 k none) s t ∧
            t.dict.slots0[k].state = 3 ∧ t.dict.slots0[k].abort = abNotPaired)) ∧
        (s.partnered = true →
          (w.cmd = 0x81 → ∃ t, Completes (.slotGoPartnerRead .pf0 k none) s t ∧ t.dict.slots0[k].state = 1 ∧
            .slot .pf0 k.val ∈ t.twin.partnerWaiting ∧
            Sent.xcRecord (.partnerRequest { isWrite := false, index := w.index, sub := w.sub, data := [] }) ∈ t.sent) ∧
          (w.cmd = 0x82 → w.len ≤ 65472 → ∃ t, Completes (.slotGoPartnerWrite .pf0 k none) s t ∧
            t.dict.slots0[k].state = 1 ∧ .slot .pf0 k.val ∈ t.twin.partnerWaiting ∧
            Sent.xcRecord (.partnerRequest { isWrite := true, index := w.index, sub := w.sub, data := w.bytes w.len }) ∈
              t.sent)))) ∧
  (∀ (s : State) (k : Fin 8) (j : Fin 4), s.hf.l0 = true → s.hf.cfg1.mse = true → s.secureStream (some j) = true →
      let w := s.dict.slots1[k]
      let n : Fin 16 := ⟨k.val, by omega⟩
      let asked : State := (({ s with dict.winRequests := inc64 s.dict.winRequests } : State).onSlotOf .pf1 k.val
        fun w => { w with state := 1, abort := 0, partner := false, since := s.sv.up }).onSlotOf .pf1 k.val
        fun w => w.bind (some j)
      let secureOnly (t : State) (i : Fin 4) : Prop := OnlyChanges [.dict] s t ∧ t.dict.slots1[k].state = 3 ∧
        t.dict.slots1[k].abort = abSecureOnly ∧ t.dict.slots1[k].session = some i
      w.state ≠ 1 →
        (∀ i, w.session = some i → i ≠ j →
          (w.cmd = 0x01 → ∃ t, Completes (.slotGoRead .pf1 n (some j)) s t ∧ secureOnly t i) ∧
          (w.cmd = 0x02 → ∃ t, Completes (.slotGoWrite .pf1 n (some j)) s t ∧ secureOnly t i) ∧
          (w.cmd = 0x81 → ∃ t, Completes (.slotGoPartnerRead .pf1 n (some j)) s t ∧ secureOnly t i) ∧
          (w.cmd = 0x82 → ∃ t, Completes (.slotGoPartnerWrite .pf1 n (some j)) s t ∧ secureOnly t i)) ∧
        (s.foremanRuns = true → w.session = none ∨ w.session = some j →
          (w.cmd = 0x01 → ∀ c b u, asked.dictRead .pf1 w.index w.sub = (c, b, u) →
            ∃ t, Completes (.slotGoRead .pf1 n (some j)) s t ∧ t.dict.slots1[k].session = some j ∧
              (c = 0 → t.dict.slots1[k].state = 2 ∧ t.dict.slots1[k].len = b.length ∧
                t.dict.slots1[k].bytes b.length = b) ∧
              (c ≠ 0 → t.dict.slots1[k].state = 3 ∧ t.dict.slots1[k].abort = c)) ∧
          (w.cmd = 0x02 → w.len ≤ 65472 → ¬ (w.index = 0x2000 ∧ w.sub = 0x0E) →
            ∀ c u, asked.dictWrite .pf1 w.index w.sub (w.bytes w.len) = (c, u) →
              ∃ t, Completes (.slotGoWrite .pf1 n (some j)) s t ∧ t.dict.live = u.dict.live ∧ t.modes = u.modes ∧
                (c = 0 → t.dict.slots1[k].state = 2 ∧ t.dict.slots1[k].abort = 0) ∧
                (c ≠ 0 → t.dict.slots1[k].state = 3 ∧ t.dict.slots1[k].abort = c))))

/-- A session of PF1 ends with its request ABORTED; a request of the twin is served as one from the twin and answered,
and a result ends the oldest request that waits for it (R327, R328, R331). -/
def Obligations.SessionsAndPartners : Prop :=
  (∀ (s : State) (k : Fin 8), ∃ t, Completes (.secureSessionTimeout k) s t ∧ OnlyChanges [.dict, .twin] s t ∧
    t.dict.slots1[k].session = none ∧
    (s.dict.slots1[k].session ≠ none → s.dict.slots1[k].state = 1 →
      t.dict.slots1[k].state = 3 ∧ t.dict.slots1[k].abort = abReset) ∧
    ∀ j : Fin 8, j ≠ k → t.dict.slots1[j] = s.dict.slots1[j]) ∧
  (∀ (s : State) (r : PartnerReq) (l : List XcRecord), s.twin.recQueue = .partnerRequest r :: l → s.foremanRuns = true →
    s.partnered = true → r.isWrite = false →
    ∀ c b u, ({ s with twin.recQueue := l } : State).dictRead .twin r.index r.sub = (c, b, u) →
      ∃ t, Completes .partnerRequestReceive s t ∧ t.twin.recQueue = l ∧ Sent.xcRecord (.partnerResult c b) ∈ t.sent) ∧
  (∀ (s : State) (k : Fin 16) (c : Nat) (b : List Byte) (l : List XcRecord) (m : List PartnerOrigin),
    s.twin.recQueue = .partnerResult c b :: l → s.twin.partnerWaiting = .slot .pf0 k.val :: m →
    s.dict.slots0[k].state = 1 →
    ∃ t, Completes .partnerRequestReceive s t ∧ OnlyChanges [.dict, .twin] s t ∧ t.twin.recQueue = l ∧
      t.twin.partnerWaiting = m ∧ t.dict.slots0[k].abort = c ∧ t.dict.slots0[k].state = (if c = 0 then 2 else 3)) ∧
  (∀ s : State, s.twin.recQueue = [] → Completes .partnerRequestReceive s s)

/-! ## Claims, cages, votes, registers -/

/-- A read of a free claim takes it for its reader, unless it is a read of zero bytes; the owner frees it, a write by
another master is refused and counted, and the Foreman frees any claim. A message of a cage is stamped and queued at
the peer, sixteen deep, where it raises Bell 0; POP takes the oldest and raises Bell 1 at its sender; a peer in reset
takes no message and no Bell. A voted field of which two copies agree is corrected and counted; a split one keeps the
value in use and is an Isolate fault of its owner. A flushed skip loses what it holds, counted, and a pointer that its
copies disagree on flushes it with a Degrade fault (R339 to R347, R350, R353). -/
def Obligations.ClaimsCagesVotesAndSkips : Prop :=
  ((∀ (s : State) (m : Master) (i : Fin 16),
      (s.regs.claims[i].owner = 0 →
        (∃ t, Completes (.claimRead m i false) s t ∧ OnlyChanges [.regs, .sent] s t ∧
          t.regs.claims[i] = { owner := masterCode m, grants := (s.regs.claims[i].grants + 1) % 2 ^ 16 } ∧
          (∀ j : Fin 16, j ≠ i → t.regs.claims[j] = s.regs.claims[j]) ∧
          t.sent = .completion true false [BitVec.ofNat 32 (1 + 16 * masterCode m +
            2 ^ 16 * ((s.regs.claims[i].grants + 1) % 2 ^ 16))] :: s.sent) ∧
        (∃ t, Completes (.claimRead m i true) s t ∧ OnlyChanges [.sent] s t)) ∧
      (s.regs.claims[i].owner ≠ 0 → ∀ z, ∃ t, Completes (.claimRead m i z) s t ∧ OnlyChanges [.sent] s t ∧
        t.sent = .completion true false [BitVec.ofNat 32 (2 + 16 * s.regs.claims[i].owner +
          2 ^ 16 * (s.regs.claims[i].grants % 2 ^ 16))] :: s.sent)) ∧
    (∀ (s : State) (m : Master) (i : Fin 16) (owner : BitVec 4),
      (s.regs.claims[i].owner = masterCode m → owner.toNat = masterCode m →
        ∃ t, Completes (.claimRelease m i owner) s t ∧ OnlyChanges [.regs] s t ∧ t.regs.claims[i].owner = 0 ∧
          t.regs.claims[i].grants = s.regs.claims[i].grants ∧ t.regs.accessFault = s.regs.accessFault) ∧
      (s.regs.claims[i].owner ≠ masterCode m ∨ owner.toNat ≠ masterCode m → ¬ (m = .foreman ∧ owner = 0xF) →
        ∃ t, Completes (.claimRelease m i owner) s t ∧ OnlyChanges [.regs] s t ∧ t.regs.claims = s.regs.claims ∧
          t.regs.access = true ∧ t.regs.accessFault = s.regs.accessFault.inc ∧
          t.regs.accessLast = (0x200000 + 4 * i.val, 4, masterCode m))) ∧
    (∀ (s : State) (i : Fin 16), ∃ t, Completes (.claimForceRelease i) s t ∧ OnlyChanges [.regs] s t ∧
      t.regs.claims[i].owner = 0 ∧ t.regs.claims[i].grants = s.regs.claims[i].grants) ∧
    (∀ (s : State) (a : CageSide), (s.cage a).peerInReset = false →
      (∃ t, Completes (.cageSend a) s t ∧ OnlyChanges [.power, .grizzly, .hf, .regs, .sent] s t ∧
        let msg := cageStamp a (s.cage a).msgSeq :: (s.cage a).tx.toList
        (t.cage a).msgSeq = ((s.cage a).msgSeq + 1) % 2 ^ 16 ∧ (t.cage a).txTotal = ((s.cage a).txTotal + 1) % 2 ^ 64 ∧
        (t.cage (peerSide a)).pend = (s.cage (peerSide a)).pend ||| 1 ∧
        ((s.cage (peerSide a)).rx.length < 16 →
          (t.cage (peerSide a)).rx = (s.cage (peerSide a)).rx ++ [msg] ∧ (t.cage a).txOverrun = (s.cage a).txOverrun ∧
          (t.cage (peerSide a)).lost = (s.cage (peerSide a)).lost) ∧
        (16 ≤ (s.cage (peerSide a)).rx.length →
          (t.cage (peerSide a)).rx = (s.cage (peerSide a)).rx.drop 1 ++ [msg] ∧ (t.cage a).txOverrun = true ∧
          (t.cage (peerSide a)).lost = (s.cage (peerSide a)).lost.inc)) ∧
      ∀ mask, ∃ t, Completes (.bellRaise a mask) s t ∧ OnlyChanges [.power, .grizzly, .hf, .regs, .sent] s t ∧
        (t.cage (peerSide a)).pend = (s.cage (peerSide a)).pend ||| (mask &&& 0xFFFFFFF8) ∧
        (t.cage (peerSide a)).rx = (s.cage (peerSide a)).rx) ∧
    (∀ (s : State) (a : CageSide) (mask : Word), (s.cage a).peerInReset = true →
      Completes (.bellRaise a mask) s s ∧
      ∃ t, Completes (.cageSend a) s t ∧ OnlyChanges [.regs] s t ∧ (t.cage a).aborted = (s.cage a).aborted.inc ∧
        t.cage (peerSide a) = s.cage (peerSide a)) ∧
    (∀ (s : State) (a : CageSide) (m : List Word) (l : List (List Word)), (s.cage a).rx = m :: l →
      ∃ t, Completes (.cagePop a) s t ∧ OnlyChanges [.power, .grizzly, .hf, .regs, .sent] s t ∧ (t.cage a).rx = l ∧
        ((s.cage a).peerInReset = false → (t.cage (peerSide a)).pend = (s.cage (peerSide a)).pend ||| 2) ∧
        ((s.cage a).peerInReset = true → (t.cage (peerSide a)).pend = (s.cage (peerSide a)).pend)) ∧
    (∀ (s : State) (a : CageSide), (s.cage a).rx = [] → Completes (.cagePop a) s s) ∧
    (∀ (s : State) (a : CageSide) (mask : Word),
      (∃ t, Completes (.bellClear a mask) s t ∧ OnlyChanges [.regs] s t ∧
        (t.cage a).pend = (s.cage a).pend &&& ~~~mask ∧ t.cage (peerSide a) = s.cage (peerSide a)) ∧
      (∃ t, Completes (.bellMaskWrite a mask) s t ∧ OnlyChanges [.power, .grizzly, .hf, .regs, .sent] s t ∧
        (t.cage a).mask = mask ∧ (t.cage a).pend = (s.cage a).pend))) ∧
  ((∀ (s : State) (f : VotedField) (a b : Nat), a < 2 ^ 52 → b < 2 ^ 52 → a ≠ b →
      (Completes (.voteMismatch f a a a) s s) ∧
      (∀ c0 c1 c2, (c0, c1, c2) = (a, a, b) ∨ (c0, c1, c2) = (a, b, a) ∨ (c0, c1, c2) = (b, a, a) →
        ∃ t, Completes (.voteMismatch f c0 c1 c2) s t ∧ OnlyChanges [.modes, .grizzly, .regs, .twin, .fm] s t ∧
          t.regs.voteFixed = s.regs.voteFixed ||| BitVec.ofNat 6 (2 ^ votedBit f) ∧
          t.regs.voteCorrected = s.regs.voteCorrected.inc ∧ t.regs.voteSplit = s.regs.voteSplit ∧
          (f = .mode → t.modes.mode = .all a) ∧ (f = .epoch → t.modes.epoch = .all a) ∧
          (f = .role → t.twin.role = .all a) ∧ (f = .lifeCycle → t.fm.lifeCycle = .all a) ∧
          (f = .lanes → t.regs.lanes = .all (BitVec.ofNat 52 a)) ∧ (f = .floor → t.grizzly.floor = .all (floorOf a))) ∧
      (∀ c, c < 2 ^ 52 → c ≠ a → c ≠ b → s.fm.handling = none → s.fm.restarting = false →
        ∃ t x, Completes (.voteMismatch f a b c) s t ∧
          t.regs.voteSplit = s.regs.voteSplit ||| BitVec.ofNat 6 (2 ^ votedBit f) ∧
          t.fm.handling = some x ∧ x.req.cls = .isolate ∧ x.req.code = .voteSplit ∧ x.req.unit = votedUnit f a b c ∧
          t.modes.mode.value = s.modes.mode.value ∧ t.modes.epoch.value = s.modes.epoch.value ∧
          t.twin.role.value = s.twin.role.value)) ∧
    (∀ (s : State) (k : Fin 6) (w r : Bool), ∃ t, Completes (.skipFlush (.numbered k) w r) s t ∧
      OnlyChanges [.smelter, .regs] s t ∧ t.regs.skips[k].items = [] ∧ t.regs.skips[k].restart = true ∧
      t.regs.skips[k].lost = s.regs.skips[k].lost.add (s.regs.skips[k].items.length + bit w) ∧
      (k.val = 3 → t.smelter.queue = []) ∧ (k.val ≠ 3 → t.smelter = s.smelter) ∧
      ∀ j : Fin 6, j ≠ k → t.regs.skips[j] = s.regs.skips[j]) ∧
    (∀ (s : State) (a : CageSide) (w r : Bool), ∃ t, Completes (.skipFlush (.cage a) w r) s t ∧ OnlyChanges [.regs] s t ∧
      (t.cage a).rx = [] ∧ (t.cage a).lost = (s.cage a).lost.add ((s.cage a).rx.length + bit w) ∧
      (t.cage a).restartMark = true) ∧
    (∀ (s : State) (k : Fin 6) (w r : Bool), s.fm.handling = none → s.fm.restarting = false →
      ∃ t x, Completes (.skipPointerMismatch (.numbered k) w r) s t ∧
        t.regs.skipPtr = s.regs.skipPtr ||| BitVec.ofNat 6 (2 ^ k.val) ∧ t.regs.skips[k].items = [] ∧
        t.fm.handling = some x ∧ x.req.cls = .degrade ∧ x.req.code = .skipPointer ∧ x.req.inst = k.val) ∧
    (∀ (s : State) (a : CageSide) (w r : Bool), ∃ t, Completes (.skipPointerMismatch (.cage a) w r) s t ∧
      t.regs.cagePtr = true ∧ (t.cage a).rx = [] ∧
      (s.fm.handling = none → s.fm.restarting = false →
        ∃ x, t.fm.handling = some x ∧ x.req.cls = .degrade ∧ x.req.code = .skipPointer)))

/-- A register is written by a whole doubleword, one or two at a time: another access is refused, counted and shown;
what another rule forbids is LOCKED; a poisoned write is discarded, and one while Memory Space Enable is 0 is not
supported, both shown in AER; a ring's addresses are taken while it is disabled; PF1 refuses what came in no Secure
stream, and the twin reaches nothing without a pair (R277, R286, R287, R298 to R300, R335, R336, R354). -/
def Obligations.RegisterWrites : Prop :=
  (∀ (s : State) (w : RegWrite), s.hf.l0 = true → s.hf.cfg0.mse = true → w.bar2 = false → w.poisoned = false →
    (∀ (n : Fin 64) (v : Word), w.words = [(v, 0xF)] →
      (w.offset = 0x10000 + 0x40 * n.val → (s.ring n.val).enable = false →
        ∃ t, Completes (.registerWrite .pf0 w) s t ∧ OnlyChanges [.hf, .regs, .twin, .sent] s t ∧
          (t.ring n.val).base = (s.ring n.val).base / 2 ^ 32 * 2 ^ 32 + v.toNat / 4096 * 4096 ∧
          (t.ring n.val).cur = (s.ring n.val).cur ∧ (t.ring n.val).enable = false ∧
          t.regs.accessFault = s.regs.accessFault) ∧
      (w.offset = 0x10000 + 0x40 * n.val → (s.ring n.val).enable = true →
        ∃ t, Completes (.registerWrite .pf0 w) s t ∧ OnlyChanges [.regs] s t ∧
          t.regs.accessFault = s.regs.accessFault.inc ∧ t.regs.accessLast = (w.offset, 3, 2))) ∧
    (∀ (n : Fin 64) (v0 v1 : Word), w.words = [(v0, 0xF), (v1, 0xF)] → w.offset = 0x10000 + 0x40 * n.val →
      (s.ring n.val).enable = false →
      ∃ t, Completes (.registerWrite .pf0 w) s t ∧ OnlyChanges [.hf, .regs, .twin, .sent] s t ∧
        (t.ring n.val).base = v1.toNat * 2 ^ 32 + v0.toNat / 4096 * 4096) ∧
    (∀ (v : Word) (be : BitVec 4), w.words = [(v, be)] → be ≠ 0xF → w.offset % 4 = 0 → w.offset < 0x100000 →
      ∃ t, Completes (.registerWrite .pf0 w) s t ∧ OnlyChanges [.regs] s t ∧
        t.regs.accessFault = s.regs.accessFault.inc ∧ t.regs.accessLast = (w.offset, 1, 2)) ∧
    (3 ≤ w.words.length → w.offset % 4 = 0 → w.offset < 0x100000 →
      ∃ t, Completes (.registerWrite .pf0 w) s t ∧ OnlyChanges [.regs] s t ∧
        t.regs.accessFault = s.regs.accessFault.inc ∧ t.regs.accessLast = (w.offset, 2, 2))) ∧
  (∀ (s : State) (w : RegWrite), s.hf.l0 = true → s.hf.cfg0.mse = true → w.poisoned = true →
    ∃ t, Completes (.registerWrite .pf0 w) s t ∧ OnlyChanges [.hf, .sent] s t ∧
      t.hf.cfg0.aerUnc = s.hf.cfg0.aerUnc ||| 2 ^ 12 ∧ t.hf.rings = s.hf.rings) ∧
  (∀ (s : State) (w : RegWrite), s.hf.l0 = true → s.hf.cfg0.mse = false →
    ∃ t, Completes (.registerWrite .pf0 w) s t ∧ OnlyChanges [.hf, .sent] s t ∧
      t.hf.cfg0.aerUnc = s.hf.cfg0.aerUnc ||| 2 ^ 20 ∧ t.hf.rings = s.hf.rings) ∧
  (∀ (s : State) (w : RegWrite) (v : Word), s.foremanRuns = true → w.bar2 = false → w.offset = 0x200048 →
    w.words = [(v, 0xF)] →
    Completes (.registerWrite .foreman w) s { s with regs := s.regs.clearErrors v.toNat }) ∧
  (∀ (s : State) (w : RegWrite), s.hf.l0 = true → s.secureStream w.stream = false →
    ∃ t, Completes (.registerWrite .pf1 w) s t ∧ OnlyChanges [.hf, .sent] s t ∧
      t.hf.pf1Refused = s.hf.pf1Refused.inc) ∧
  (∀ (s : State) (w : RegWrite), s.partnered = false → Completes (.registerWrite .twin w) s s)

/-! ## The pair -/

/-- Two modules elect: each refuses for its cause, else the one that captures is Active, then ROLE_PREF and the serial
number decide; a partner that is not trusted is not taken (which effects a refusal has, log 41). ROLE_SWAP and DETACH
are staged on a pair that stands (a DETACH without one, log 37); an aligned pair copies, and a copied one is in
LOCKSTEP, or the capturing Active re-arms its mode (R332, R356, R357, R362, R363, R365, R376 to R378, R381). -/
def Obligations.ElectionAndOrders : Prop :=
  (∀ (s : State) (p : PeerInfo),
      (s.partnered = true ∨ s.foremanRuns = false ∨ s.power.recovery = true → Completes (.pairElection p) s s) ∧
      (s.partnered = false → s.foremanRuns = true → s.power.recovery = false →
        (s.power.twinSel = false ∨ s.cfgOn 0x2D00 1 = false →
          Completes (.pairElection p) s { s with twin.pairCause := 1 }) ∧
        (s.power.twinSel = true → s.cfgOn 0x2D00 1 = true → s.laneUp = false → Completes (.pairElection p) s s) ∧
        (s.power.twinSel = true → s.cfgOn 0x2D00 1 = true → s.laneUp = true →
          (s.setXcLanes.pairRefusal p ≠ 0 →
            ∃ t, Completes (.pairElection p) s t ∧ OnlyChanges [.grizzly, .regs, .twin, .fm, .sent] s t ∧
              t.twin.pairState = 2 ∧ t.twin.pairCause = s.setXcLanes.pairRefusal p ∧ t.twin.role = s.twin.role ∧
              t.twin.fenceOut = true) ∧
          (s.setXcLanes.pairRefusal p = 0 → s.trustOf p ≠ 1 →
            ∃ t, Completes (.pairElection p) s t ∧ OnlyChanges [.regs, .twin, .sent] s t ∧ t.twin.pairState = 2 ∧
              t.twin.peerTrust = s.trustOf p ∧ t.twin.role = s.twin.role) ∧
          (s.setXcLanes.pairRefusal p = 0 → s.trustOf p = 1 →
            ∃ t, Completes (.pairElection p) s t ∧ t.twin.pairState = 3 ∧ t.twin.pairCause = 0 ∧
              t.twin.partnerSerial = p.serial ∧ t.twin.fenceOut = true ∧ t.modes = s.modes ∧
              (s.capturing = true → t.role = 1) ∧ (s.capturing = false → p.capturing = true → t.role = 4) ∧
              (s.capturing = false → p.capturing = false →
                (s.cfg 0x2D00 2 = 1 → p.rolePref ≠ 1 → t.role = 1) ∧ (s.cfg 0x2D00 2 ≠ 1 → p.rolePref = 1 → t.role = 2) ∧
                (s.cfg 0x2D00 2 = p.rolePref → t.role = if s.serial < p.serial then 1 else 2)))))) ∧
  ((∀ (s : State) (via : Path) (data : List Byte), Passes s via 0x2D00 6 data →
      (s.twin.pairState ≠ 5 → Completes (.roleSwap via data) s (s.answer via 0x2D00 6 abBusy)) ∧
      (s.twin.pairState = 5 →
        ∃ t, Completes (.roleSwap via data) s t ∧ OnlyChanges [.modes, .regs, .twin, .sent] s t ∧
          t.modes.swapStaged = true ∧ t.modes.changeState = 1 ∧ t.twin.role = s.twin.role ∧
          (s.role = 1 → Sent.xcRecord (.forwardWrite 0x2D00 6 [1]) ∈ t.sent))) ∧
    (∀ (s : State) (via : Path) (data : List Byte), Passes s via 0x2D00 7 data →
      (s.paired = false → Completes (.detach via data) s (s.answer via 0x2D00 7 abBusy)) ∧
      (s.paired = true →
        ∃ t, Completes (.detach via data) s t ∧ OnlyChanges [.modes, .regs, .twin, .sent] s t ∧
          t.modes.detachStaged = true ∧ t.modes.changeState = 1 ∧ t.twin.role = s.twin.role)) ∧
    (∀ s : State, s.twin.pairState = 3 →
      (s.role ≠ 1 → Completes .attachAligned s { s with twin.pairState := 4 }) ∧
      (s.role = 1 → ∃ t, Completes .attachAligned s t ∧ OnlyChanges [.regs, .twin, .sent] s t ∧ t.twin.pairState = 4 ∧
        Sent.xcRecord (.copy s.copyState) ∈ t.sent)) ∧
    (∀ s : State, s.twin.pairState ≠ 3 → Completes .attachAligned s s) ∧
    (∀ (s : State) (x t96 pos inc : Nat), s.twin.pairState = 4 →
      (s.role = 2 → s.modes.zeroDone = true →
        ∃ t, Completes (.attachCopied x t96 pos inc) s t ∧ OnlyChanges [.sv, .twin] s t ∧ t.twin.pairState = 5 ∧
          t.sv.sidx = x ∧ t.sv.time = timeOf96 t96 ∧ t.sv.inc = inc) ∧
      (s.mirrors = false → s.capturing = false →
        Completes (.attachCopied x t96 pos inc) s { s with twin.pairState := 5 }) ∧
      (s.mirrors = false → s.capturing = true → s.changePending = false → s.modes.staged = [] →
        s.modes.swapStaged = false → s.modes.detachStaged = false → s.modes.check = none →
        ∃ t, Completes (.attachCopied x t96 pos inc) s t ∧ t.modes.changeState = 2 ∧
          t.modes.committed = some { target := s.mode, base := s.mode, at_ := s.linesAhead 3 })) ∧
    (∀ (s : State) (x t96 pos inc : Nat), s.twin.pairState ≠ 4 → Completes (.attachCopied x t96 pos inc) s s))

/-- A block that does not decode on a lane is lost, counted and asked for again; a good one carries its beat, its
partner sources and its records, which are taken in the order of REC_SEQ (R360, R361, R371). A record that no
command's kind is stands in the queue as it was. -/
def Obligations.BlocksAndRecordOrder : Prop :=
  (∀ (s : State) (b : XcBlock), b.ok = true →
    (b.bad = true → ∃ t, Completes (.xcBlockReceive b) s t ∧ OnlyChanges [.regs, .twin, .sent] s t ∧
      t.twin.blocksLost = inc32 s.twin.blocksLost ∧ t.twin.recQueue = s.twin.recQueue ∧
      (s.partnered = true → Sent.xcRecord (.nack b.frameSeq) ∈ t.sent)) ∧
    (b.bad = false → s.partnered = false → Completes (.xcBlockReceive b) s { s with
      twin.peerRxUp := b.rxUp, twin.beatSeen := b.beat || s.twin.beatSeen
      twin.missedRun := if b.beat = true then 0 else s.twin.missedRun
      twin.recNext := b.recSeq + b.records.length }) ∧
    (b.bad = false → s.partnered = true → s.paired = false → s.mirrors = false → b.health = 0 → s.twin.recHeld = [] →
      s.twin.recQueue = [] → b.recSeq = s.twin.recNext → (∀ r ∈ b.records, s.takeRecord r = none) →
      ∃ t, Completes (.xcBlockReceive b) s t ∧ t.twin.recQueue = b.records ∧
        t.twin.recNext = b.recSeq + b.records.length ∧ t.twin.recHeld = [] ∧
        t.shaft.peerSources = s.shaft.peerSources ++ [(b.bSidx, b.partner)] ∧
        (b.beat = true → t.twin.beatSeen = true ∧ t.twin.missedRun = 0))) ∧
  (∀ (s : State) (c : Instr), s.twin.recQueue = [] →
    c ∈ [Instr.xcHdrRecord, .xcDoorRecord, .xcCursorRecord, .xcConfirmRecord, .xcAckRecord, .xcRingRecord, .xcSyncRecord,
      .xcNackRecord, .xcEpochGo, .xcEpochAbort, .shadowReadyReport, .shadowApplyReport] → Completes c s s)

/-- Header records of one ingot that agree cancel and that differ expose the pair; a DOOR record decides the Shadow's
ingot; CURSOR is stored and confirmed, CONFIRM lets the Active's record leave, ACK frees what the host returned, RING
keeps the Active's settings, NACK sends a block's records again, SYNC carries the state over. A Shadow follows the
Active's decision on a committed change and on a check, and the Active counts the Shadow's reports (R24, R28, R361,
R366 to R370). -/
def Obligations.PairRecords : Prop :=
  (∀ s : State,
      (∀ q type crc seq, s.twin.recQueue = [.hdr q type crc seq] → s.paired = true →
        (hdrFor q.val seq s.twin.hdrOwn = some crc →
          Completes .xcHdrRecord s { s with twin.recQueue := [], twin.hdrOwn := hdrDrop q.val seq s.twin.hdrOwn }) ∧
        (∀ c, hdrFor q.val seq s.twin.hdrOwn = some c → c ≠ crc →
          ∃ t, Completes .xcHdrRecord s t ∧ t.twin.pairState = 6 ∧ t.twin.divergeCause = 1 ∧
            t.twin.divergences = inc32 s.twin.divergences ∧ t.twin.resyncDue = some s.sv.sidx) ∧
        (hdrFor q.val seq s.twin.hdrOwn = none → s.twin.hdrPeer.length < 65536 →
          Completes .xcHdrRecord s { s with
            twin.recQueue := [], twin.hdrPeer := s.twin.hdrPeer ++ [(q.val, seq, crc)] })) ∧
      (∀ q i l m, s.twin.recQueue = [.door q i.seq 1 m] → s.isShadow = true → (s.stream q.val).waiting = i :: l →
        i.isSealed = true → s.twin.doorPeer = [] → s.paired = false →
        ∃ t, Completes .xcDoorRecord s t ∧ t.twin.recQueue = [] ∧ (t.stream q.val).waiting = l ∧
          (t.stream q.val).admitted = inc64 (s.stream q.val).admitted ∧
          ∃ x : Ingot, (t.stream q.val).shadowKept = (s.stream q.val).shadowKept ++ [x] ∧ x.seq = i.seq ∧ x.sidx = i.sidx ∧
            (m.getLsbD 0 = true → x.type = i.type ∧ x.stored = i.stored) ∧ (m.getLsbD 0 = false → x.type = 4)) ∧
      (∀ n gen wrPos last written handoff, s.twin.recQueue = [.cursor n gen wrPos last written handoff] →
        s.partnered = true → s.twin.awaitHandoff = 0 →
        ∃ t, Completes .xcCursorRecord s t ∧ OnlyChanges [.regs, .twin, .sent] s t ∧
          t.twin.cursors[n] = some { gen, wrPos, lastSeq := last, writtenSeq := written, handoff } ∧
          Sent.xcRecord (.confirm n gen) ∈ t.sent) ∧
      (∀ n gen f, s.twin.recQueue = [.confirm n gen] → (s.ring n.val).awaiting = some f →
        (f.gen = gen → ∃ t r, Completes .xcConfirmRecord s t ∧ (t.ring n.val).awaiting = none ∧
          (t.ring n.val).wrPos = f.wrPos ∧ (t.ring n.val).uncovered = (s.ring n.val).uncovered.drop f.images ∧
          HostWrote s t (s.ring n.val).cur r ∧ r.length = 64 ∧ getLe r 4 4 = f.gen % 2 ^ 32) ∧
        (f.gen ≠ gen → Completes .xcConfirmRecord s { s with twin.recQueue := [] })) ∧
      (∀ n rdPos first q, s.twin.recQueue = [.ack n rdPos first] → s.isShadow = true → s.streamOn n.val = some q →
        ∃ t, Completes .xcAckRecord s t ∧ OnlyChanges [.hf, .streams, .twin] s t ∧ (t.ring n.val).rdPos = rdPos ∧
          (t.stream q).shadowKept = fromSeq first (s.stream q).shadowKept) ∧
      (∀ n base cursor sizeOrder enable irq, s.twin.recQueue = [.ring n base cursor sizeOrder enable irq] →
        s.mirrors = true →
        ∃ t, Completes .xcRingRecord s t ∧ OnlyChanges [.twin] s t ∧
          t.twin.ringSettings[n] = some { base, cursor, sizeOrder, enable, irq }) ∧
      (∀ n x, s.twin.recQueue = [.nack n] → s.twin.recSent.find? (fun x => x.1 == n) = some x →
        Completes .xcNackRecord s { s with twin.recQueue := [], twin.recAgain := s.twin.recAgain ++ [x.2] }) ∧
      (∀ x, s.twin.recQueue = [.sync x] → s.mirrors = true →
        (s.twin.syncBase = none → Completes .xcSyncRecord s { s with twin.recQueue := [], twin.syncIn := some x }) ∧
        (∀ b, s.twin.syncBase = some b →
          ∃ t, Completes .xcSyncRecord s t ∧ OnlyChanges [.shaft, .streams, .slots, .twin] s t ∧
            t.shaft.level = x.level ∧ t.shaft.storage = x.storage ∧ t.twin.syncBase = none ∧
            ∀ (q : Fin 64) (v e : Nat), s.streams[q].armed = true → x.streamSeq[q.val]? = some v → b[q.val]? = some e →
              t.streams[q].nextSeq = v + s.streams[q].nextSeq - e))) ∧
  (∀ s : State,
      (s.twin.recQueue = [.epochGo] → s.mirrors = true →
        (s.modes.check = none → s.modes.committed ≠ none →
          Completes .xcEpochGo s { s with twin.recQueue := [], twin.go := some true }) ∧
        (∀ e, s.modes.check = some e →
          ∃ t, Completes .xcEpochGo s t ∧ t.modes.check = none ∧ t.modes.changeState = 4 ∧ t.modes.mode = s.modes.mode)) ∧
      (s.twin.recQueue = [.epochAbort] → s.mirrors = true →
        (s.modes.check = none → s.modes.committed ≠ none →
          ∃ t, Completes .xcEpochAbort s t ∧ t.modes.committed = none ∧ t.modes.staged = [] ∧ t.modes.changeState = 5 ∧
            t.modes.refusalCause = 0x11 ∧ t.modes.abortCount = inc32 s.modes.abortCount) ∧
        (∀ e, s.modes.check = some e →
          ∃ t, Completes .xcEpochAbort s t ∧ t.modes.check = none ∧ t.modes.refusalCause = 0x12 ∧
            ∃ r, t.modes.rollback = some r ∧ r.prevMode = e.prevMode ∧ r.prevLive = e.prevLive ∧ r.number = e.number)) ∧
      (∀ b, s.twin.recQueue = [.shadowReady b] → s.role = 1 → s.partnered = true →
        Completes .shadowReadyReport s { s with twin.recQueue := [], twin.shadowReady := some b }) ∧
      (∀ b, s.twin.recQueue = [.shadowApplied b] → s.role = 1 → s.partnered = true →
        Completes .shadowApplyReport s { s with twin.recQueue := [], twin.shadowApplied := some b }))

/-- A pair that diverges is EXPOSED until a resynchronisation: a DOOR record that does not come, a phase error above
the limit; at a frame start two lines on, the Active sends its state, and the pair is in LOCKSTEP once the host has
returned what was admitted before. The Canary counts beats every 3,000 samples; the eighth missed in a row is a
partner loss, after which an Active is Solo and a Shadow takes over when the partner's fence is down, one elected in
Ready into Ready. The stripe set follows both directions, and its fall below four lanes and its return to four are
told once each (R360, R364, R369 to R373, Table 12.4). -/
def Obligations.DivergenceResyncAndCanary : Prop :=
  ((∀ (s : State) (q : Fin 64) (i : Ingot) (l : List Ingot), s.role = 2 → s.running = true →
      (s.stream q.val).waiting = i :: l → i.isSealed = true → s.peerDoor q.val i.seq = none →
      ∃ t, Completes (.doorRecordTimeout q) s t ∧ OnlyChanges [.grizzly, .regs, .twin, .fm, .sent] s t ∧
        t.twin.pairState = 6 ∧ t.twin.divergeCause = 4 ∧ t.twin.divergences = inc32 s.twin.divergences ∧
        Sent.xcRecord (.diverged 4) ∈ t.sent) ∧
    (∀ (s : State) (q : Fin 64), s.isShadow = false → Completes (.doorRecordTimeout q) s s) ∧
    (∀ s : State, s.role = 2 → s.running = true → 16 < s.twin.phaseError.natAbs →
      ∃ t, Completes .phaseExposed s t ∧ OnlyChanges [.grizzly, .regs, .twin, .fm, .sent] s t ∧ t.twin.pairState = 6 ∧
        t.twin.divergeCause = 6 ∧ t.twin.resyncDue = some s.sv.sidx) ∧
    (∀ s : State, s.twin.phaseError.natAbs ≤ 16 → Completes .phaseExposed s s) ∧
    (∀ s : State, s.paired = true → s.sv.frameStart = true →
      (∀ d, s.twin.resyncDue = some d → s.twoLinesSince d = true → s.role = 1 →
        ∃ t, Completes .resync s t ∧ t.twin.resyncDue = none ∧ t.twin.resyncAt = some (s.sv.sidx, s.sv.up) ∧
          t.twin.hdrOwn = [] ∧ t.twin.hdrPeer = [] ∧ t.twin.pairState = s.twin.pairState ∧
          Sent.xcRecord (.sync s.syncState) ∈ t.sent ∧ ∀ k : Fin 48, t.seams[k].freshStream = true) ∧
      (∀ f up, s.twin.resyncDue = none → s.twin.resyncAt = some (f, up) → f < s.sv.sidx → s.allReturned up = true →
        Completes .resync s { s with twin.pairState := 5, twin.resyncAt := none })) ∧
    (∀ s : State, s.paired = false ∨ s.sv.frameStart = false → Completes .resync s s)) ∧
  ((∀ s : State, s.partnered = true → s.beatClock % 3000 = 0 →
      (s.twin.beatSeen = true → Completes .canaryBoundary s { s with twin.beatSeen := false, twin.missedRun := 0 }) ∧
      (s.twin.beatSeen = false → s.twin.missedRun + 1 ≠ 8 → Completes .canaryBoundary s { s with
        twin.beatsMissed := inc32 s.twin.beatsMissed, twin.missedRun := s.twin.missedRun + 1 }) ∧
      (s.twin.beatSeen = false → s.twin.missedRun = 7 →
        (s.mirrors = false → ∃ t, Completes .canaryBoundary s t ∧ t.role = 3 ∧ t.twin.pairState = 0 ∧ t.mode = s.mode ∧
          t.twin.beatsMissed = inc32 s.twin.beatsMissed) ∧
        (s.mirrors = true → s.mode = 5 → s.modes.forced = none →
          ∃ t, Completes .canaryBoundary s t ∧
            t.modes.forced = some (if s.twin.fenceIn = true then (.partnerLink, 1) else (.takeover, s.twin.peerMode))) ∧
        (s.role = 2 → s.mode = 1 → s.twin.fenceIn = false → s.modes.forced = none →
          ∃ t, Completes .canaryBoundary s t ∧ t.modes.forced = some (.takeover, 1)))) ∧
    (∀ s : State, s.partnered = false ∨ s.beatClock % 3000 ≠ 0 → Completes .canaryBoundary s s) ∧
    (∀ (s : State) (set : LaneSet),
      (set &&& s.xcEnabled = 0 ∨ (set &&& s.xcEnabled = 0xF ∧ s.twin.degraded = false) ∨
          (set &&& s.xcEnabled ≠ 0xF ∧ s.twin.degraded = true) →
        Completes (.laneSetChange set) s { s with twin.lanesUp := set &&& s.xcEnabled }) ∧
      (set &&& s.xcEnabled = 0xF → s.twin.degraded = true →
        ∃ t, Completes (.laneSetChange set) s t ∧ Reported { s with twin.lanesUp := 0xF, twin.degraded := false } t) ∧
      (set &&& s.xcEnabled ≠ 0xF → set &&& s.xcEnabled ≠ 0 → s.twin.degraded = false → s.fm.handling = none →
        s.fm.restarting = false →
        ∃ t x, Completes (.laneSetChange set) s t ∧ t.twin.lanesUp = set &&& s.xcEnabled ∧ t.twin.degraded = true ∧
          t.fm.handling = some x ∧ x.req.cls = .notice ∧ x.req.code = .crosscutDegraded)))

/-! ## Changes of mode and configuration -/

/-- The READY deadline with a unit that is not READY: the change is aborted on every unit, with the mask of those
units in UNIT_MASK, and an EPOCH_ABORTED event; mode, live configuration, epoch number and every stream are untouched;
what the check computed of the floor stays to be read (R25, R198). -/
def Obligations.NotReadyAborts : Prop :=
  ∀ (s : State) (missing : BitVec 11) (c : Committed), s.modes.committed = some c → s.modes.changeState = 2 →
    s.atDeadline c = true → s.notReady c missing true ≠ 0 →
    ∃ (t u : State), Completes (.readyDeadline missing) s t ∧ OnlyChanges [.modes, .grizzly, .regs, .twin, .fm, .sent] s t ∧
      t.modes.committed = none ∧ t.modes.staged = [] ∧ t.modes.changeState = 5 ∧ t.modes.refusalCause = 0x11 ∧
      t.modes.unitMask = s.notReady c missing true ∧ t.modes.abortCount = inc32 s.modes.abortCount ∧
      t.modes.mode = s.modes.mode ∧ t.modes.epoch = s.modes.epoch ∧
      u.fm = s.fm ∧ u.grizzly = (s.floorFigures c).grizzly ∧ ∃ detail, t = u.event .epochAborted .surveyor 0xFF detail

/-- COMMIT freezes the staged set for its instant, or answers with the cause for which it is refused, the set staged
as it was; a second COMMIT names only its cause (log 33); CANCEL discards the set before the READY deadline and does
nothing after it; with every unit READY the deadline lets the change stand. FLOOR_SUM and FLOOR_BURST of a change that
arms are computed at both (R19, R21, R22, R24, R35, R198, Table 1.3; the cause of a COMMIT without a request in
Dormant, log 33). -/
def Obligations.CommitsAndCancels : Prop :=
  (∀ (s : State) (via : Path), Passes s via 0x2000 4 [1] →
    (s.changePending = true →
      Completes (.commit via) s (({ s with modes.refusalCause := 2 } : State).answer via 0x2000 4 0)) ∧
    (s.changePending = false → s.power.recovery = true →
      Completes (.commit via) s ((s.commitRefused 0x0D).answer via 0x2000 4 0)) ∧
    (s.changePending = false → s.power.recovery = false → s.mirrors = false →
      (s.planCause s.planned = 1 →
        Completes (.commit via) s (((s.floorFigures s.planned).commitRefused 1).answer via 0x2000 4 0)) ∧
      (s.mode ≠ 0 → s.planCause s.planned ≠ 1 →
        (s.instantCause s.planned.at_ ≠ 0 →
          Completes (.commit via) s
            (((s.floorFigures s.planned).commitRefused (s.instantCause s.planned.at_)).answer via 0x2000 4 0)) ∧
        (s.instantCause s.planned.at_ = 0 → s.planCause s.planned ≠ 0 →
          ∃ t, Completes (.commit via) s t ∧ OnlyChanges [.modes, .grizzly, .regs, .fm, .sent] s t ∧
            t.modes = { s.modes with changeState := 7, refusalCause := s.planCause s.planned }) ∧
        (s.instantCause s.planned.at_ = 0 → s.planCause s.planned = 0 →
          ∃ t, Completes (.commit via) s t ∧
            OnlyChanges [.power, .modes, .grizzly, .hf, .regs, .twin, .sent] s t ∧
            t.modes = { s.modes with changeState := 2, refusalCause := 0, committed := some s.planned } ∧
            (s.role = 1 → s.partnered = true → Sent.xcRecord (.forwardWrite 0x2000 4 [1]) ∈ t.sent))) ∧
      (s.mode = 0 → s.modeRequest = 1 → s.modes.swapStaged = false →
        (s.tooHot = true →
          Completes (.commit via) s (((s.noteExhausted 1).commitRefused 0x0C).answer via 0x2000 4 0)) ∧
        (s.tooHot = false → s.planCause s.planned ≠ 0 →
          Completes (.commit via) s
            (((s.noteExhausted 1).commitRefused (s.planCause s.planned)).answer via 0x2000 4 0)) ∧
        (s.planCause s.planned = 0 → ∃ t, Completes (.commit via) s t ∧ OnlyChanges [.modes, .regs, .twin, .sent] s t ∧
          t.modes = { s.modes with changeState := 2, refusalCause := 0, entry := some { auto := false } })))) ∧
  (∀ (s : State) (via : Path), Passes s via 0x2000 4 [0] → s.modes.entry = none →
    (s.modes.changeState = 3 ∨ s.modes.rollback ≠ none → Completes (.cancel via) s (s.answer via 0x2000 4 0)) ∧
    (s.modes.changeState ≠ 3 → s.modes.rollback = none → s.modes.committed ≠ none ∨ s.modes.staged ≠ [] →
      ∃ t, Completes (.cancel via) s t ∧ OnlyChanges [.modes, .grizzly, .regs, .twin, .fm, .sent] s t ∧
        t.modes.changeState = 5 ∧ t.modes.refusalCause = 0x14 ∧ t.modes.staged = [] ∧ t.modes.committed = none ∧
        t.modes.abortCount = inc32 s.modes.abortCount ∧ t.modes.mode = s.modes.mode ∧ t.modes.epoch = s.modes.epoch)) ∧
  (∀ (s : State) (via : Path) (e : Entry), Passes s via 0x2000 4 [0] → s.modes.entry = some e →
    ∃ t, Completes (.cancel via) s t ∧ t.modes.entry = none ∧ t.modes.changeState = 5 ∧ t.modes.refusalCause = 0x14 ∧
      t.power.fabric = false ∧ t.power.hbm = .off ∧ t.modes.mode = s.modes.mode) ∧
  (∀ (s : State) (missing : BitVec 11),
    (∀ c, s.modes.committed = some c → s.modes.changeState = 2 → s.atDeadline c = true → s.notReady c missing true = 0 →
      ∃ t, Completes (.readyDeadline missing) s t ∧ OnlyChanges [.modes, .grizzly, .regs, .twin, .sent] s t ∧
        t.modes = { s.modes with changeState := 3, unitMask := 0 } ∧ t.grizzly = (s.floorFigures c).grizzly ∧
        (s.needsShadow = true → Sent.xcRecord .epochGo ∈ t.sent)) ∧
    (∀ c, s.modes.committed = some c → s.modes.changeState ≠ 2 ∨ s.atDeadline c = false →
      Completes (.readyDeadline missing) s s) ∧
    (s.modes.committed = none → Completes (.readyDeadline missing) s s))

/-- From Dormant to Ready: fabric power, the HBM, the sample PLL and the links come up, any failure leaves the device
in Dormant with its cause, and when every unit is READY the entry is an epoch, epoch-zero the first time, with the
check after it (log 33). In Ready an idle HBM goes into self-refresh (R13, R35, R36, R41). -/
def Obligations.EntryIntoReady : Prop :=
  (∀ (s : State) (e : Entry), s.modes.entry = some e →
    (∀ ohms, e.fabricDone = false →
      (∃ t, Completes (.fabricPowerUpDone true ohms) s t ∧ t.power.fabric = true ∧ t.power.hbm = .training ∧
        t.power.rcalBad = !(within 1900 2100 ohms) ∧ t.modes.entry = some { e with fabricDone := true } ∧
        t.modes.mode = s.modes.mode) ∧
      (∃ t, Completes (.fabricPowerUpDone false ohms) s t ∧ t.power.fabric = false ∧ t.power.hbm = .off ∧
        t.modes.entry = none ∧ t.modes.changeState = 5 ∧ t.modes.refusalCause = 0x0E ∧ t.modes.mode = s.modes.mode)) ∧
    (e.fabricDone = true →
      Completes .readyEntryLinkTimeout s { s with modes.entry := some { e with linksTimedOut := true } } ∧
      (e.hbmDone = false →
        (∃ t, Completes (.hbmTrainingDone true) s t ∧ OnlyChanges [.power, .modes, .fm] s t ∧ t.power.hbm = .active ∧
          t.modes.entry = some { e with hbmDone := true }) ∧
        (∃ t, Completes (.hbmTrainingDone false) s t ∧ t.power.fabric = false ∧ t.power.hbm = .off ∧
          t.modes.entry = none ∧ t.modes.changeState = 5 ∧ t.modes.refusalCause = 0x0F)) ∧
      (s.sv.pllLocked = false →
        ∃ t, Completes .samplePllNoLock s t ∧ t.power.fabric = false ∧ t.power.hbm = .off ∧ t.modes.entry = none ∧
          t.modes.changeState = 5 ∧ t.modes.refusalCause = 0x0E ∧ t.modes.mode = s.modes.mode)) ∧
    (∀ missing, e.fabricDone = true → e.hbmDone = true → s.sv.pllLocked = true → s.linksSettled e = true →
      (s.notReady { target := 1, base := 1, at_ := 0 } missing false = 0 →
        ∃ t, Completes (.readyEntry missing) s t ∧
          OnlyChanges [.power, .modes, .sv, .links, .xc, .seams, .shaft, .grizzly, .hf, .dict, .regs, .twin, .fm, .sent]
            s t ∧
          t.modes.mode = .all 1 ∧ t.modes.changeState = 3 ∧ t.modes.entry = none ∧ t.modes.staged = [] ∧
          t.modes.zeroDone = true ∧ t.power.hbm = .active ∧ t.dict.live = s.liveAfter ∧
          (∃ x, t.modes.check = some x ∧ x.number = t.epochNo ∧ x.sidx = t.sv.sidx ∧ x.prevMode = 0 ∧
            x.prevLive = s.dict.live) ∧
          (s.modes.zeroDone = false →
            t.modes.epoch = .all 0 ∧ t.sv.sidx = 0 ∧ t.modes.epochZeroTime = time96 s.sv.time) ∧
          (s.modes.zeroDone = true → t.modes.epoch = .all (nextEpochNo s.epochNo) ∧ t.sv.sidx = s.sv.sidx)) ∧
      (s.notReady { target := 1, base := 1, at_ := 0 } missing false ≠ 0 →
        ∃ t, Completes (.readyEntry missing) s t ∧ t.modes.entry = none ∧ t.modes.changeState = 5 ∧
          t.modes.refusalCause = 0x11 ∧ t.modes.unitMask = s.notReady { target := 1, base := 1, at_ := 0 } missing false ∧
          t.power.fabric = false ∧ t.modes.mode = s.modes.mode)) ∧
    ∀ missing, s.linksSettled e = false ∨ s.sv.pllLocked = false → Completes (.readyEntry missing) s s) ∧
  (∀ s : State, s.modes.entry = none →
    Completes .readyEntryLinkTimeout s s ∧ Completes .samplePllNoLock s s ∧
    ∀ ok ohms missing, Completes (.fabricPowerUpDone ok ohms) s s ∧ Completes (.hbmTrainingDone ok) s s ∧
      Completes (.readyEntry missing) s s) ∧
  (∀ s : State,
    (s.power.fabric = true → s.sv.pllLocked = false → s.sv.refLost = false →
      Completes .samplePllLock s { s with sv.pllLocked := true }) ∧
    (s.power.fabric = false ∨ s.sv.pllLocked = true ∨ s.sv.refLost = true → Completes .samplePllLock s s) ∧
    (s.mode = 1 → s.power.hbm = .active → s.hbmIdle = true →
      Completes .hbmSelfRefreshEntry s { s with power.hbm := .selfRefresh }) ∧
    (s.mode ≠ 1 ∨ s.power.hbm ≠ .active ∨ s.hbmIdle = false → Completes .hbmSelfRefreshEntry s s))

/-- On its instant a READY change takes effect: mode, epoch number and live configuration; a line later it is APPLIED,
or a unit failed and the next frame start that is 2 ln on brings the values of its set back as they were, under a new
number; a forced epoch needs no deadline and no check, and prevails over a scheduled one (R26 to R30, R373; log 33).
-/
def Obligations.Epochs : Prop :=
  (∀ (s : State) (c : Committed), s.modes.committed = some c →
    (s.modes.forced = none → s.modes.changeState = 3 → s.reached c.at_ = true →
        s.mirrors = false ∨ s.twin.go = some true →
      ∃ t, Completes .epochInstant s t ∧ t.modes.mode = .all c.target ∧ t.modes.epoch = .all (nextEpochNo s.epochNo) ∧
        t.modes.epochSidx = s.sv.sidx ∧ t.dict.live = s.liveAfter ∧ t.modes.committed = none ∧ t.modes.staged = [] ∧
        t.nv = s.nv ∧ (c.target = 0 → t.modes.changeState = 4) ∧
        (c.target ≠ 0 → ∃ e, t.modes.check = some e ∧ e.number = nextEpochNo s.epochNo ∧ e.sidx = s.sv.sidx ∧
          e.prevMode = s.mode ∧ e.prevLive = s.dict.live)) ∧
    (s.modes.forced = none → s.modes.changeState = 3 → s.reached c.at_ = true → s.mirrors = true →
        s.twin.go ≠ some true →
      ∃ t, Completes .epochInstant s t ∧ t.modes.changeState = 5 ∧ t.modes.unitMask = 0x200 ∧
        t.modes.mode = s.modes.mode ∧ t.modes.epoch = s.modes.epoch ∧ t.dict.live = s.dict.live) ∧
    (s.modes.forced ≠ none ∨ s.modes.changeState ≠ 3 ∨ s.reached c.at_ = false → Completes .epochInstant s s)) ∧
  (∀ (s : State) (e : AfterEpoch) (failed : BitVec 11), s.modes.check = some e →
    (s.lineNo = e.line → Completes (.applyCheckEnd failed) s s) ∧
    (s.lineNo ≠ e.line → s.isShadow = false → s.needsShadow = false ∨ s.twin.shadowApplied = some true →
      (failed = 0 → ∃ t, Completes (.applyCheckEnd failed) s t ∧ OnlyChanges [.modes, .shaft, .regs, .twin, .sent] s t ∧
        t.modes = { s.modes with changeState := 4, check := none } ∧
        (s.needsShadow = true → Sent.xcRecord .epochGo ∈ t.sent)) ∧
      (failed ≠ 0 → ∃ t, Completes (.applyCheckEnd failed) s t ∧
        OnlyChanges [.modes, .shaft, .regs, .twin, .sent] s t ∧ t.modes.unitMask = failed ∧
        t.modes.refusalCause = 0x12 ∧ t.modes.check = none ∧ t.modes.rollback = some { e with line := s.lineNo } ∧
        t.modes.splits = (e.sidx, none) :: s.modes.splits ∧ t.modes.mode = s.modes.mode ∧
        (s.needsShadow = true → Sent.xcRecord .epochAbort ∈ t.sent)))) ∧
  (∀ (s : State) (e : AfterEpoch) (failed : BitVec 11), s.modes.rollback = some e →
    (s.sv.frameStart = true → 2 ≤ s.linesSince e.line →
      ∃ t, Completes (.rollbackEpoch failed) s t ∧ t.modes.mode = .all e.prevMode ∧
        t.modes.epoch = .all (nextEpochNo s.epochNo) ∧ t.dict.live = s.rolledBack e ∧ t.modes.changeState = 6 ∧
        t.modes.rollbackCount = inc32 s.modes.rollbackCount ∧ t.modes.rollback = none ∧ t.nv = s.nv) ∧
    (s.sv.frameStart = false ∨ s.linesSince e.line < 2 → Completes (.rollbackEpoch failed) s s)) ∧
  (∀ (s : State) (by_ : ForcedBy) (target : Nat), s.modes.forced = some (by_, target) →
    ∃ t, Completes .forcedEpoch s t ∧ t.modes.mode = .all target ∧ t.modes.epoch = .all (nextEpochNo s.epochNo) ∧
      t.modes.epochSidx = s.sv.sidx ∧ t.dict.live = s.dict.live ∧ t.modes.check = none ∧ t.modes.rollback = none ∧
      t.nv = s.nv ∧
      (s.modes.changeState = 2 ∨ s.modes.changeState = 3 →
        t.modes.changeState = 5 ∧ t.modes.refusalCause = 0x13 ∧ t.modes.staged = []) ∧
      (by_ = .takeover → t.role = 1 ∧ t.twin.takeovers = inc32 s.twin.takeovers ∧ t.twin.lastTakeover = s.sv.sidx) ∧
      (by_ ≠ .takeover → s.paired = true → t.role = 0 ∧ t.twin.fenceOut = false)) ∧
  (∀ s : State, s.modes.committed = none → Completes .epochInstant s s) ∧
  (∀ (s : State) (failed : BitVec 11), s.modes.check = none → Completes (.applyCheckEnd failed) s s) ∧
  (∀ (s : State) (failed : BitVec 11), s.modes.rollback = none → Completes (.rollbackEpoch failed) s s) ∧
  (∀ s : State, s.modes.forced = none → Completes .forcedEpoch s s)

/-! ## The Foreman -/

/-- Every sensor is taken once a millisecond; the junction's highest reading sets THERMAL from 100 °C on, the limit
from 105 °C on and the run that engages the throttle; each ends by its own command below its own temperature (R382 to
R384, R436, R437). -/
def Obligations.SensorsAndTheThrottle : Prop :=
  (∀ (s : State) (readings : List (Option Word)), readings.length = 15 → s.foremanRuns = true →
    ∃ t, Completes (.sensorSample readings) s t ∧
      OnlyChanges [.modes, .sv, .links, .xc, .seams, .grizzly, .regs, .fm] s t ∧ t.modes.mode = s.modes.mode ∧
      (∀ n : Fin 15, (t.sensor n.val).reading = readingOf (readings.getD n.val none) ∧
        ∀ w, readingOf (readings.getD n.val none) = some w →
          (t.sensor n.val).maxSeen = extreme false (s.sensor n.val).maxSeen w ∧
          (t.sensor n.val).minSeen = extreme true (s.sensor n.val).minSeen w) ∧
      t.fm.junction = t.junctionMax ∧
      (t.junctionGe 0x42C40000 = true → t.fm.hotRun = s.fm.hotRun + 1) ∧
      (t.junctionGe 0x42C40000 = false → t.fm.hotRun = 0) ∧
      t.fm.thermal = (s.fm.thermal || t.junctionGe 0x42C80000) ∧ t.fm.thermalLimit = t.junctionGe 0x42D20000 ∧
      ∀ (k : Fin 2) (w : Word), (t.sensor (7 + k.val)).reading = some w →
        t.fm.hbmHot.getLsbD k.val = (s.fm.hbmHot.getLsbD k.val || f32Ge w 0x42BE0000)) ∧
  (∀ (s : State) (readings : List (Option Word)), readings.length = 15 → s.foremanRuns = false →
    Completes (.sensorSample readings) s s) ∧
  (∀ s : State,
    (s.fm.thermal = true → s.junctionGe 0x42C20000 = false →
      Completes .thermalClear s (({ s with fm.thermal := false } : State).dropCondition .thermal .foreman)) ∧
    (s.fm.thermal = false ∨ s.junctionGe 0x42C20000 = true → Completes .thermalClear s s) ∧
    (10 ≤ s.fm.hotRun → s.fm.throttle = false → ∃ t, Completes .throttleEngage s t ∧
      Reported { s with fm.throttle := true, fm.throttleEntries := inc32 s.fm.throttleEntries } t) ∧
    (s.fm.hotRun < 10 ∨ s.fm.throttle = true → Completes .throttleEngage s s) ∧
    (s.fm.throttle = true → s.junctionGe 0x42BE0000 = false →
      Completes .throttleRelease s { s with fm.throttle := false }) ∧
    (s.fm.throttle = false ∨ s.junctionGe 0x42BE0000 = true → Completes .throttleRelease s s)) ∧
  (∀ (s : State) (k : Fin 2) (w : Word), (s.sensor (7 + k.val)).reading = some w →
    (s.fm.hbmHot.getLsbD k.val = true → f32Ge w 0x42B40000 = false →
      ∃ t, Completes (.hbmHotClear k) s t ∧ OnlyChanges [.fm] s t ∧ t.fm.hbmHot.getLsbD k.val = false ∧
        ∀ j : Fin 2, j ≠ k → t.fm.hbmHot.getLsbD j.val = s.fm.hbmHot.getLsbD j.val) ∧
    (s.fm.hbmHot.getLsbD k.val = false ∨ f32Ge w 0x42B40000 = true → Completes (.hbmHotClear k) s s))

/-- The fault intake: a fault is handled at once, pre-empts one of a lower class, waits behind its equals, or stops
its block at once; a full queue gives up its youngest of the lowest class and counts; a fault of the handler itself
trips the watchdog; a parity error of the Headframe is shown in AER besides. The handler logs an Isolate or Handover
fault, does what its class asks and takes the next; a trip resets the Foreman's cores and leaves the mode while
capture runs on, and it is logged when they restart; FAULT_ACK releases ALERT_N of Isolate faults (R29, R300, R385 to
R390, Table 13.2; log 12, log 36). -/
def Obligations.FaultsTakenAndHandled : Prop :=
  (∀ (s : State) (f : FaultReq),
      let o := if f.code = .headframeParity then s.aerError .pf0 .internal else s
      (f.cls = .event → ∀ b, Completes (.faultRaise f b) s (o.event f.code f.unit f.inst f.detail)) ∧
      (f.cls ≠ .event →
        (∃ t, Completes (.faultRaise f true) s t ∧ OnlyChanges [.fm] o t ∧
          t.fm.tripDue = s.fm.tripDue.or (some .handlerFault) ∧ t.fm.handling = s.fm.handling ∧
          t.fm.faults = s.fm.faults) ∧
        (s.fm.handling = none → s.fm.restarting = false →
          ∃ t, Completes (.faultRaise f false) s t ∧ OnlyChanges [.fm] o t ∧
            t.fm.handling = some { req := f, stopped := false, at_ := s.occurrence } ∧ t.fm.faults = s.fm.faults ∧
            (f.cls = .degrade → { code := f.code, unit := f.unit, inst := f.inst } ∈ t.fm.conditions)) ∧
        (∀ h, s.fm.handling = some h →
          (f.cls = .isolate → h.req.cls = .isolate → f.unit = h.req.unit → s.fm.faults.length < 64 →
            ∃ t, Completes (.faultRaise f false) s t ∧ t.fm.handling = some h ∧
              t.fm.faults = insertFault { req := f, stopped := true, at_ := s.occurrence } s.fm.faults ∧
              (f.unit = .smelter → t.fm.isolated.getLsbD 4 = true)) ∧
          (classCode h.req.cls < classCode f.cls → s.fm.faults.length < 64 →
            ∃ t, Completes (.faultRaise f false) s t ∧ OnlyChanges [.fm] o t ∧
              t.fm.handling = some { req := f, stopped := false, at_ := s.occurrence } ∧
              t.fm.faults = frontFault h s.fm.faults) ∧
          (classCode f.cls ≤ classCode h.req.cls → ¬ (f.cls = .isolate ∧ h.req.cls = .isolate ∧ f.unit = h.req.unit) →
            (s.fm.faults.length < 64 →
              ∃ t, Completes (.faultRaise f false) s t ∧ OnlyChanges [.fm] o t ∧ t.fm.handling = some h ∧
                t.fm.faults = insertFault { req := f, stopped := false, at_ := s.occurrence } s.fm.faults) ∧
            (∀ low, 64 ≤ s.fm.faults.length → s.fm.faults.getLast? = some low → low.keeps = false →
              ∃ t, Completes (.faultRaise f false) s t ∧ OnlyChanges [.fm] o t ∧ t.fm.handling = some h ∧
                t.fm.faultsLost = inc32 s.fm.faultsLost ∧
                (classCode low.req.cls ≤ classCode f.cls → t.fm.faults =
                  insertFault { req := f, stopped := false, at_ := s.occurrence } s.fm.faults.dropLast) ∧
                (classCode f.cls < classCode low.req.cls → t.fm.faults = s.fm.faults)))))) ∧
  ((∀ s : State, s.power.phase = .running →
      (s.fm.restarting = false →
        (∀ f, s.fm.handling = some f →
          ∃ t, Completes .faultHandle s t ∧ t.fm.handling = s.fm.faults.head? ∧ t.fm.faults = s.fm.faults.tail ∧
            t.modes.mode.value = s.modes.mode.value ∧ t.streams = s.streams ∧ t.shaft = s.shaft ∧
            (f.req.cls = .isolate ∨ f.req.cls = .handover →
              ∃ e ∈ t.fm.toLog, e.code = f.req.code ∧ e.cls = f.req.cls ∧ e.sidx = f.at_.sidx ∧ e.detail = f.req.detail) ∧
            (f.req.cls = .isolate → t.fm.isolateHeld = true ∧
              (f.req.unit = .smelter → f.stopped = false → t.fm.isolated.getLsbD 4 = true)) ∧
            (f.req.cls = .handover → s.modes.forced = none → s.mode ∉ [0, 6, 0xFF] →
              (s.paired = false → t.modes.forced = some (handoverBy f.req.code, 6) ∧ t.power.faultN = true) ∧
              (s.paired = true → t.modes.forced = some (handoverBy f.req.code, 1) ∧ t.power.faultN = s.power.faultN))) ∧
        (s.fm.handling = none → s.fm.faults = [] → Completes .faultHandle s s)) ∧
      (s.fm.restarting = true →
        ∃ t, Completes .faultHandle s t ∧ t.fm.restarting = false ∧ t.fm.handling = s.fm.faults.head? ∧
          t.fm.faults = s.fm.faults.tail ∧ ∃ e ∈ t.fm.toLog, e.code = .watchdog ∧ e.cls = .handover)) ∧
    (∀ (s : State) (cause : WatchdogCause), s.foremanRuns = true → s.tripCause cause = true →
      ∃ t, Completes (.foremanWatchdogTrip cause) s t ∧
        OnlyChanges [.power, .modes, .grizzly, .hf, .dict, .regs, .fm, .sent] s t ∧
        t.fm.restarting = true ∧ t.fm.handling = none ∧ t.fm.tripDue = none ∧
        t.fm.watchdogTrips = inc32 s.fm.watchdogTrips ∧ t.fm.challenge = none ∧ t.dict.canA.transfers = [] ∧
        t.dict.canB.transfers = [] ∧ t.dict.live = s.dict.live ∧ t.modes.mode = s.modes.mode ∧
        (s.fm.handling = none → t.fm.faults = s.fm.faults) ∧
        (∀ f, s.fm.handling = some f → s.fm.faults.length < 64 → t.fm.faults = frontFault f s.fm.faults) ∧
        (s.mode ∉ [0, 6, 0xFF] → s.modes.forced = none →
          t.modes.forced = some (.watchdog, if s.paired = true then 1 else 6))) ∧
    (∀ (s : State) (cause : WatchdogCause), s.foremanRuns = false ∨ s.tripCause cause = false →
      Completes (.foremanWatchdogTrip cause) s s) ∧
    (∀ (s : State) (via : Path) (data : List Byte), Passes s via 0x3100 9 data →
      Completes (.faultAck via data) s (({ s with fm.isolateHeld := false } : State).answer via 0x3100 9 0)))

/-- The flash log: a waiting entry is programmed, and the 1,024 oldest go when the ring is full; LOG_BLOCK returns up
to 64 entries from LOG_READ_AT upward and advances it; LOG_CLEAR erases the ring and restarts ENTRY_SEQ at 0 (R393,
R394). -/
def Obligations.TheFlashLog : Prop :=
  (∀ s : State, s.power.phase ≠ .off → s.power.phase ≠ .factoryTest →
    (∀ e l, s.fm.toLog = e :: l →
      ∃ t, Completes .logEntryCommit s t ∧ OnlyChanges [.fm, .nv] s t ∧ t.fm = { s.fm with toLog := l } ∧
        t.nv.logNext = (e.seq + 1) % 2 ^ 32 ∧
        (s.nv.log.length < 522240 → t.nv.log = s.nv.log ++ [e]) ∧
        (s.nv.log.length = 523263 → t.nv.log = (s.nv.log ++ [e]).drop 1024)) ∧
    (s.fm.toLog = [] → Completes .logEntryCommit s s)) ∧
  (∀ (s : State) (via : Path) (data : List Byte), Passes s via 0x3100 4 data →
    ∃ t, Completes (.logReadAt via data) s t ∧ OnlyChanges [.dict, .sent] s t ∧ t.cfg 0x3100 4 = leNat data ∧
      t.sent = .dictReply via 0x3100 4 0 [] :: s.sent) ∧
  (∀ (s : State) (via : Path), s.foremanRuns = true →
    let l := (s.nv.log.filter fun e => s.cfg 0x3100 4 ≤ e.seq).take 64
    ∃ t, Completes (.dictRead via 0x3100 5) s t ∧ OnlyChanges [.dict, .sent] s t ∧
      t.sent = .dictReply via 0x3100 5 0
        ((l.map LogEntry.bytes).flatten ++ List.replicate (4096 - (l.map LogEntry.bytes).flatten.length) 0) :: s.sent ∧
      (l = [] → t.cfg 0x3100 4 = s.cfg 0x3100 4) ∧
      ∀ e, l.getLast? = some e → t.cfg 0x3100 4 = (e.seq + 1) % 2 ^ 32) ∧
  (∀ (s : State) (via : Path) (data : List Byte), Passes s via 0x3100 6 data →
    Completes (.logClear via data) s
      (({ s with nv.log := [], nv.logNext := 0, fm.entrySeq := 0, fm.toLog := [] } : State).answer via 0x3100 6 0))

/-- The update path: in Service an image is loaded page by page into the slot that did not boot, verified, committed
one generation above, or erased; CONFIRM ends the trial; outside, the writes are refused with BUSY and the booted slot
is never written (R402, R403). -/
def Obligations.FirmwareUpdate : Prop :=
  (∀ (s : State) (via : Path),
    (Passes s via 0x3200 1 (leBytes 2 0x4247) →
      (s.updateOpen = true →
        ∃ t, Completes (.updateBegin via) s t ∧ OnlyChanges [.nv, .fm, .sent] s t ∧ t.nv.slots[s.stagedSlot] = {} ∧
          t.nv.slots[s.fm.bootSlot] = s.nv.slots[s.fm.bootSlot] ∧ t.fm.updateState = 1 ∧ t.fm.updateCause = 0) ∧
      (s.updateOpen = false → Completes (.updateBegin via) s (s.answer via 0x3200 1 abBusy))) ∧
    (∀ data, Passes s via 0x3200 3 data →
      (s.updateOpen = true → s.fm.updateState = 1 → s.cfg 0x3200 2 / 4096 < 6144 →
        ∃ t, Completes (.updateData via data) s t ∧ OnlyChanges [.nv, .dict, .sent] s t ∧
          t.nv.slots[s.stagedSlot].page (s.cfg 0x3200 2 / 4096) = data ∧
          (∀ p, p ≠ s.cfg 0x3200 2 / 4096 →
            t.nv.slots[s.stagedSlot].page p = s.nv.slots[s.stagedSlot].page p) ∧
          t.nv.slots[s.fm.bootSlot] = s.nv.slots[s.fm.bootSlot] ∧
          t.cfg 0x3200 2 = (s.cfg 0x3200 2 / 4096 + 1) * 4096) ∧
      (s.updateOpen = false ∨ s.fm.updateState ≠ 1 →
        Completes (.updateData via data) s (s.answer via 0x3200 3 abBusy))) ∧
    (Passes s via 0x3200 1 (leBytes 2 0x5646) →
      (s.updateOpen = true → 1 ≤ s.fm.updateState → s.fm.updateState ≤ 3 →
        ∃ t, Completes (.updateVerify via) s t ∧ OnlyChanges [.nv, .fm, .sent] s t ∧
          t.fm.updateCause = s.imageCause s.nv.slots[s.stagedSlot] ∧
          (s.imageCause s.nv.slots[s.stagedSlot] = 0 → t.fm.updateState = 2) ∧
          (s.imageCause s.nv.slots[s.stagedSlot] ≠ 0 → t.fm.updateState = 3) ∧
          t.nv.slots[s.stagedSlot].bytes = s.nv.slots[s.stagedSlot].bytes ∧
          t.nv.slots[s.fm.bootSlot] = s.nv.slots[s.fm.bootSlot]) ∧
      (s.updateOpen = false ∨ ¬ (1 ≤ s.fm.updateState ∧ s.fm.updateState ≤ 3) →
        Completes (.updateVerify via) s (s.answer via 0x3200 1 abBusy))) ∧
    (Passes s via 0x3200 1 (leBytes 2 0x434D) →
      (s.updateOpen = true → s.fm.updateState = 2 →
        Completes (.updateCommit via) s (({ s with fm.updateState := 4 } : State).answer via 0x3200 1 0)) ∧
      (s.updateOpen = false ∨ s.fm.updateState ≠ 2 →
        Completes (.updateCommit via) s (s.answer via 0x3200 1 abBusy))) ∧
    (Passes s via 0x3200 1 (leBytes 2 0x4142) →
      (s.updateOpen = true → 1 ≤ s.fm.updateState → s.fm.updateState ≤ 3 →
        ∃ t, Completes (.updateAbort via) s t ∧ OnlyChanges [.nv, .fm, .sent] s t ∧ t.nv.slots[s.stagedSlot] = {} ∧
          t.nv.slots[s.fm.bootSlot] = s.nv.slots[s.fm.bootSlot] ∧ t.fm.updateState = 0) ∧
      (s.updateOpen = true → s.fm.updateState = 0 → Completes (.updateAbort via) s (s.answer via 0x3200 1 0)) ∧
      (s.updateOpen = false ∨ s.fm.updateState = 5 →
        Completes (.updateAbort via) s (s.answer via 0x3200 1 abBusy))) ∧
    (Passes s via 0x3200 1 (leBytes 2 0x4346) →
      ∃ t, Completes (.updateConfirm via) s t ∧ OnlyChanges [.nv, .sent] s t ∧
        t.nv.slots[s.fm.bootSlot] = { s.nv.slots[s.fm.bootSlot] with trial := 255 } ∧
        t.nv.slots[s.stagedSlot] = s.nv.slots[s.stagedSlot] ∧ t.nv.keys = s.nv.keys ∧ t.nv.log = s.nv.log)) ∧
  (∀ s : State, s.fm.updateState = 4 →
    (∃ t, Completes (.updateCommitDone true) s t ∧ OnlyChanges [.nv, .fm] s t ∧ t.fm.updateState = 5 ∧
      t.nv.slots[s.stagedSlot] = { s.nv.slots[s.stagedSlot] with
        generation := some ((s.nv.slots[s.fm.bootSlot].generation).getD 0 + 1), trial := 0 } ∧
      t.nv.slots[s.fm.bootSlot] = s.nv.slots[s.fm.bootSlot]) ∧
    Completes (.updateCommitDone false) s { s with fm.updateState := 3, fm.updateCause := 8 }) ∧
  (∀ (s : State) (ok : Bool), s.fm.updateState ≠ 4 → Completes (.updateCommitDone ok) s s)

/-- SVN_MIN never falls, whatever step runs; CONFIRM raises it to the SVN of the image that booted; and a slot whose
SVN lies below it is not bootable (R404). -/
def Obligations.SvnMinNeverFalls : Prop :=
  (∀ s t : State, step s = .next t → s.nv.svnMin ≤ t.nv.svnMin) ∧
  (∀ (s : State) (via : Path), Passes s via 0x3200 1 (leBytes 2 0x4346) →
    ∃ t, Completes (.updateConfirm via) s t ∧ t.nv.svnMin = max s.nv.svnMin s.nv.slots[s.fm.bootSlot].svn) ∧
  (∀ (n : Nv) (i : Fin 2), n.slots[i].svn < n.svnMin → n.bootChoice ≠ some i)

/-- The life cycle advances by OWNER_KEY, LC_ADVANCE and LC_RETURN, in force after the module's reset of itself; a
challenge is fresh and numbered; debug opens to the owner's signature; RETURN wipes keys, USE, dictionary and
Stockpile and keeps the log and the images (R405 to R408). -/
def Obligations.LifeCycle : Prop :=
  (∀ (s : State) (via : Path) (data : List Byte),
    (Passes s via 0x1100 2 data →
      ∃ t, Completes (.ownerKey via data) s t ∧ OnlyChanges [.nv, .fm, .sent] s t ∧ t.nv.ownerKey = data ∧
        t.nv.ownerHash = leNat (sha384 data) ∧ t.nv.sigCheck = true ∧ t.nv.lifeCycle = 1 ∧
        t.fm.selfReset = true ∧ t.fm.lifeCycle = s.fm.lifeCycle) ∧
    (Passes s via 0x1100 4 data →
      ∃ t, Completes (.lcAdvance via data) s t ∧ OnlyChanges [.nv, .fm, .sent] s t ∧ t.nv.lifeCycle = 2 ∧
        t.fm.selfReset = true ∧ t.fm.lifeCycle = s.fm.lifeCycle) ∧
    (Passes s via 0x1100 6 data →
      (3 ≤ s.fm.badSignatures → Completes (.lcDebugAuth via data) s (s.answer via 0x1100 6 abBusy)) ∧
      (s.fm.badSignatures < 3 →
        (∀ c, s.validChallenge = some c → ecdsaVerify s.nv.ownerKey (sha384 c) data = true →
          ∃ t, Completes (.lcDebugAuth via data) s t ∧ OnlyChanges [.grizzly, .regs, .fm, .sent] s t ∧
            t.fm.debugOpen = true ∧ t.fm.badSignatures = s.fm.badSignatures) ∧
        (∀ c, s.validChallenge = some c → ecdsaVerify s.nv.ownerKey (sha384 c) data = false →
          Completes (.lcDebugAuth via data) s
            (({ s with fm.badSignatures := s.fm.badSignatures + 1 } : State).answer via 0x1100 6 abValueRange)) ∧
        (s.validChallenge = none → Completes (.lcDebugAuth via data) s
          (({ s with fm.badSignatures := s.fm.badSignatures + 1 } : State).answer via 0x1100 6 abValueRange)))) ∧
    (Passes s via 0x1100 7 data → s.fm.selfReset = false →
      let h := sha384 (data.take 48)
      let good := s.validChallenge == some (data.take 48) &&
        ecdsaVerify s.nv.ownerKey h ((data.drop 48).take 96) &&
        ecdsaVerify Config.serviceKey h ((data.drop 144).take 96)
      (good = true →
        ∃ t, Completes (.lcReturn via data) s t ∧ t.nv.lifeCycle = 3 ∧ t.nv.keys = [] ∧ t.nv.useValue = 0 ∧
          t.nv.areas = Vector.replicate 2 none ∧ t.nv.returnDone = true ∧ t.nv.log = s.nv.log ∧
          t.nv.slots = s.nv.slots ∧ t.fm.selfReset = true ∧ (∀ q : Fin 64, (t.streams[q]).backlog = []) ∧
          ∀ g : Fin 64, t.shaft.segments[g].state = 0) ∧
      (good = false → Completes (.lcReturn via data) s (s.answer via 0x1100 7 abValueRange)))) ∧
  (∀ (s : State) (via : Path) (nonce : List Byte), nonce.length = 32 → s.foremanRuns = true →
    let c := nonce ++ leBytes 8 s.nv.part.1 ++ leBytes 4 (s.nv.challenges + 1) ++ leBytes 1 s.lifeCycle ++ leBytes 3 0
    ∃ t, Completes (.lcChallenge via nonce) s t ∧ OnlyChanges [.nv, .fm, .sent] s t ∧
      t.nv.challenges = (s.nv.challenges + 1) % 2 ^ 32 ∧ t.fm.challenge = some (c, s.sv.up) ∧ c.length = 48 ∧
      t.sent = .dictReply via 0x1100 5 0 c :: s.sent) ∧
  (∀ (s : State) (via : Path) (nonce : List Byte), s.foremanRuns = false → Completes (.lcChallenge via nonce) s s)

/-- KEY_LOAD adds a key that is new, whole and proven by its check value while there is room, and is busy for one that
is in use; KEY_ERASE takes one away unless it is in use; USE_RESERVE_COMMIT writes a USE value and reserves it (R235,
R237, R400, R410, R411). -/
def Obligations.KeyStore : Prop :=
  (∀ (s : State) (via : Path) (data : List Byte), Passes s via 0x3F00 1 data →
    let id := getLe data 0 4
    let k := (data.drop 8).take 32
    let whole := getLe data 4 4 = 1 ∧ getLe data 44 4 = 0 ∧ 1 ≤ id ∧ id ≤ 0xFFFFFFFE ∧
      (data.drop 40).take 4 = keyCheck k
    let new := ∀ x ∈ s.nv.keys, x.1 ≠ id
    (¬ whole → Completes (.keyLoad via data) s (s.answer via 0x3F00 1 abValueRange)) ∧
    (whole → ¬ new →
      Completes (.keyLoad via data) s (s.answer via 0x3F00 1 (if s.keyInUse id = true then abBusy else abValueRange))) ∧
    (whole → new → 64 ≤ s.nv.keys.length → Completes (.keyLoad via data) s (s.answer via 0x3F00 1 abBusy)) ∧
    (whole → new → s.nv.keys.length < 64 →
      Completes (.keyLoad via data) s
        (({ s with nv.keys := s.nv.keys ++ [(id, k)], nv.keyGeneration := s.nv.keyGeneration + 1 } : State).answer via
          0x3F00 1 0))) ∧
  (∀ (s : State) (via : Path) (data : List Byte) (k : List Byte), Passes s via 0x3F00 2 data →
    (leNat data, k) ∈ s.nv.keys →
    (s.keyInUse (leNat data) = true → Completes (.keyErase via data) s (s.answer via 0x3F00 2 abBusy)) ∧
    (s.keyInUse (leNat data) = false →
      Completes (.keyErase via data) s
        (({ s with nv.keys := s.nv.keys.filter fun x => x.1 != leNat data
                   nv.keyGeneration := s.nv.keyGeneration + 1 } : State).answer via 0x3F00 2 0))) ∧
  (∀ s : State,
    (∀ v, s.fm.useCommitting = some v →
      (∃ t, Completes (.useReserveCommit true) s t ∧ OnlyChanges [.nv, .fm] s t ∧ t.nv.useValue = v ∧
        t.fm.useReserved = some v ∧ t.fm.useCommitting = none ∧ t.nv.uses.tail = s.nv.uses) ∧
      Completes (.useReserveCommit false) s s) ∧
    (s.fm.useCommitting = none → ∀ ok, Completes (.useReserveCommit ok) s s))

/-- USE_RESET sets the USE count to 0 while the key store holds no key, and is refused with BUSY otherwise (R412). -/
def Obligations.UseResetNeedsAnEmptyStore : Prop :=
  ∀ (s : State) (via : Path) (data : List Byte), Passes s via 0x3F00 4 data →
    leNat data = 0x5553 ∧
    (s.nv.keys = [] →
      ∃ t, Completes (.useReset via data) s t ∧ OnlyChanges [.nv, .fm, .sent] s t ∧ t.nv.useValue = 0 ∧
        t.fm.useReserved = none ∧ t.nextUse = 1 ∧ t.sent = .dictReply via 0x3F00 4 0 [] :: s.sent) ∧
    (s.nv.keys ≠ [] → Completes (.useReset via data) s (s.answer via 0x3F00 4 abBusy))
end

