-- ==== Sys2Proof/Laws/Frames.lean ====
section
/-! SUPPORT. What an operation changes, and how such facts compose; reports and events touch only the log and the class-B
queue. -/

namespace Sys2Proof.Machine

/-- A number with one bit for each part. -/
def Part.bit : Part → Nat
  | .power => 1 | .modes => 2 | .sv => 4 | .links => 8 | .xc => 16 | .seams => 32 | .closing => 64 | .streams => 128
  | .shaft => 256 | .grizzly => 512 | .smelter => 1024 | .slots => 2048 | .hf => 4096 | .dict => 8192
  | .regs => 16384 | .twin => 32768 | .fm => 65536 | .nv => 131072 | .sent => 262144 | .free => 524288

/-- The parts of a list as bits of a number, so that inclusion is one comparison. -/
def Part.bits : List Part → Nat
  | [] => 0
  | p :: l => p.bit ||| bits l

/-- One list of parts is within another. -/
abbrev Within (m l : List Part) : Prop := Part.bits m ||| Part.bits l = Part.bits l

theorem Part.bit_land (p q : Part) : p.bit &&& q.bit = if p = q then p.bit else 0 := by
  cases p <;> cases q <;> rfl

theorem or_land_left (a b : Nat) : a ||| (a &&& b) = a := by
  refine Nat.eq_of_testBit_eq fun i => ?_
  simp only [Nat.testBit_or, Nat.testBit_and]
  cases a.testBit i <;> simp

theorem Part.mem_bits (p : Part) (l : List Part) : p ∈ l ↔ p.bit &&& Part.bits l = p.bit := by
  induction l with
  | nil => cases p <;> decide
  | cons q l ih =>
    rw [List.mem_cons, ih, Part.bits, Nat.and_or_distrib_left, Part.bit_land]
    by_cases h : p = q
    · simp [h, or_land_left]
    · simp [h]

theorem Within.mem {m l : List Part} (h : Within m l) (p : Part) (k : p ∈ m) : p ∈ l := by
  rw [Part.mem_bits] at *
  rw [← h, Nat.and_or_distrib_left, k, or_land_left]

theorem Within.refl (l : List Part) : Within l l := Nat.or_self _

/-- What every operation of the device keeps: the parts not listed, and SVN_MIN, which never falls (R404). -/
structure Alters (l : List Part) (s t : State) : Prop where
  /-- Only the parts listed may differ. -/
  only : OnlyChanges l s t
  /-- SVN_MIN does not fall. -/
  svn : s.nv.svnMin ≤ t.nv.svnMin

theorem Alters.refl (l : List Part) (s : State) : Alters l s s :=
  ⟨⟨fun p _ => by cases p <;> rfl⟩, Nat.le_refl _⟩

theorem Alters.trans {l m n : List Part} {s t u : State} (h : Alters l s t) (k : Alters m t u)
    (hl : Within l n := by with_unfolding_all exact of_decide_eq_true rfl) (hm : Within m n := by with_unfolding_all exact of_decide_eq_true rfl) :
    Alters n s u := by
  refine ⟨⟨fun p hp => ?_⟩, Nat.le_trans h.svn k.svn⟩
  have a := h.only.same p fun c => hp (hl.mem p c)
  have b := k.only.same p fun c => hp (hm.mem p c)
  cases p <;> exact Eq.trans b a

theorem Alters.mono {l m : List Part} {s t : State} (h : Alters l s t)
    (hl : Within l m := by with_unfolding_all exact of_decide_eq_true rfl) : Alters m s t :=
  ⟨⟨fun p hp => h.only.same p fun c => hp (hl.mem p c)⟩, h.svn⟩

/-- One more operation, whose parts are among those named. -/
theorem Alters.step {l m : List Part} {s t u : State} (k : Alters m t u) (h : Alters l s t) (hm : Within m l) :
    Alters l s u := h.trans k (.refl l) hm

theorem Alters.next {l m : List Part} {s t u : State} (k : Alters m t u) (h : Alters l s t)
    (hm : Within m l := by with_unfolding_all exact of_decide_eq_true rfl) : Alters l s u := k.step h hm

/-- A fold of operations. -/
theorem Alters.fold {α : Type} {l : List Part} {s t : State} {f : State → α → State} {xs : List α} (h : Alters l s t)
    (k : ∀ u a, Alters l u (f u a)) : Alters l s (xs.foldl f t) := by
  induction xs generalizing t with
  | nil => exact h
  | cons a xs ih => exact ih (h.trans (k t a) (.refl l) (.refl l))

theorem Alters.ite {l : List Part} {s t u : State} {c : Prop} [Decidable c] (h : Alters l s t) (k : Alters l s u) :
    Alters l s (if c then t else u) := by
  split <;> assumption

theorem Alters.ite_snd {α : Type} {l : List Part} {s : State} {t u : α × State} {c : Prop} [Decidable c]
    (h : Alters l s t.2) (k : Alters l s u.2) : Alters l s (if c then t else u).2 := by
  split <;> assumption

/-- An update of fields, by the parts that it leaves. -/
theorem Alters.upd {l : List Part} {s t u : State} (k : ∀ p, p ∉ l → p.same t u) (h : Alters l s t)
    (v : t.nv.svnMin ≤ u.nv.svnMin := by first | with_reducible exact Nat.le_refl _ | exact Nat.le_refl _) : Alters l s u := h.trans ⟨⟨k⟩, v⟩ (.refl l) (.refl l)

/-- One update of fields. -/
theorem Alters.set {l : List Part} {s t : State} (k : ∀ p, p ∉ l → p.same s t)
    (v : s.nv.svnMin ≤ t.nv.svnMin := by exact Nat.le_refl _) : Alters l s t := ⟨⟨k⟩, v⟩

/-! ## Reports -/

theorem Reported.refl (s : State) : Reported s s := ⟨_, _, _, _, _, _, _, rfl⟩

theorem Reported.trans {s t u : State} (h : Reported s t) (k : Reported t u) : Reported s u := by
  obtain ⟨_, _, _, _, _, _, _, rfl⟩ := h
  obtain ⟨a, b, c, d, e, f, g, rfl⟩ := k
  exact ⟨a, b, c, d, e, f, g, rfl⟩

theorem makeEntry_reported (s : State) (code cls unit inst detail reps b c o) :
    Reported s (s.makeEntry code cls unit inst detail reps b c o).2 := ⟨_, _, _, _, _, _, _, rfl⟩

theorem enqueueB_reported (s : State) (x : ClassBItem) : Reported s (s.enqueueB x) := by
  unfold State.enqueueB
  split
  · exact ⟨_, _, _, _, _, _, _, rfl⟩
  · dsimp only
    split <;> exact ⟨_, _, _, _, _, _, _, rfl⟩

theorem passSkip_reported (s : State) (k : Nat) : Reported s (s.passSkip k) := ⟨_, _, _, _, _, _, _, rfl⟩

theorem passEvent_reported (s : State) (u : UnitId) : Reported s (s.passEvent u) := by
  cases u <;> first | exact passSkip_reported _ _ | exact .refl _

theorem countMerged_reported (s : State) (c u i) : Reported s (s.countMerged c u i) := ⟨_, _, _, _, _, _, _, rfl⟩

theorem rememberKey_reported (s : State) (c u i) : Reported s (s.rememberKey c u i) := ⟨_, _, _, _, _, _, _, rfl⟩

theorem Reported.ite {s t u : State} {c : Prop} [Decidable c] (h : Reported s t) (k : Reported s u) :
    Reported s (if c then t else u) := by
  split <;> assumption

theorem newEntry_reported (s : State) (code cls unit inst detail cleared occ reps) (m : Bool) :
    Reported s (((if m = true then
        (s.makeEntry code cls unit inst detail reps false cleared occ).2.rememberKey code unit inst
      else (s.makeEntry code cls unit inst detail reps false cleared occ).2).passSkip 2).enqueueB
        (.entry (s.makeEntry code cls unit inst detail reps false cleared occ).1)) := by
  have h := makeEntry_reported s code cls unit inst detail reps false cleared occ
  exact ((Reported.ite (h.trans (rememberKey_reported ..)) h).trans (passSkip_reported _ 2)).trans (enqueueB_reported ..)

/-- A report touches nothing but the skips, the log and the class-B queue (R391, R392, R222). -/
theorem report_reported (s : State) (code cls unit inst detail cleared occ) :
    Reported s (s.report code cls unit inst detail cleared occ) := by
  refine (passEvent_reported s unit).trans ?_
  unfold State.report
  exact Reported.ite (countMerged_reported ..) (newEntry_reported ..)

theorem event_reported (s : State) (code unit inst detail) : Reported s (s.event code unit inst detail) :=
  report_reported ..

theorem notice_reported (s : State) (code unit inst detail) : Reported s (s.notice code unit inst detail) :=
  report_reported ..

theorem Reported.only {s t : State} (h : Reported s t) : Alters [.regs, .fm, .grizzly] s t := by
  obtain ⟨_, _, _, _, _, _, _, rfl⟩ := h
  exact .set fun p hp => by cases p <;> first | rfl | exact absurd ((Part.mem_bits ..).2 rfl) hp

end Sys2Proof.Machine
end

