-- ==== Sys2Proof/Laws/FramesCapture.lean ====
section
/-! SUPPORT. What each operation changes: the parts of the state it can touch; SVN_MIN never falls (R404). One lemma
for each operation of Ops, Msix, ConfigSpace, Surveyor, LinkOps, Faults, Raster, Links, Capture, Segments, Smelter, TwinOps, Rings, Door. -/

set_option linter.unreachableTactic false
set_option linter.unusedTactic false

namespace Sys2Proof.Machine

set_option Elab.async false

theorem onLink_only (s : State) (n : Nat) (f : Link → Link) :
    Alters [.links] s (s.onLink n f) := by
  unfold State.onLink
  repeat' first
    | ((conv => enter [3, 21]); refine .upd (fun p hp => by cases p <;> first | exact absurd ((Part.mem_bits ..).2 rfl) hp | dsimp only [Part.same]) ?_)
    | with_reducible exact .refl _ _
    | assumption
    | with_unfolding_all decide
    | with_reducible refine .ite ?_ ?_
    | with_reducible refine .ite_snd ?_ ?_
    | with_reducible refine .fold ?_ (fun _ _ => ?_)
    | split
    | refine .upd (fun p hp => by cases p <;> first | exact absurd ((Part.mem_bits ..).2 rfl) hp | dsimp only [Part.same]) ?_

theorem onLane_only (s : State) (n : Nat) (f : Link → Link) :
    Alters [.xc] s (s.onLane n f) := by
  unfold State.onLane
  repeat' first
    | ((conv => enter [3, 21]); refine .upd (fun p hp => by cases p <;> first | exact absurd ((Part.mem_bits ..).2 rfl) hp | dsimp only [Part.same]) ?_)
    | with_reducible exact .refl _ _
    | assumption
    | with_unfolding_all decide
    | with_reducible refine .ite ?_ ?_
    | with_reducible refine .ite_snd ?_ ?_
    | with_reducible refine .fold ?_ (fun _ _ => ?_)
    | split
    | refine .upd (fun p hp => by cases p <;> first | exact absurd ((Part.mem_bits ..).2 rfl) hp | dsimp only [Part.same]) ?_

theorem onRx_only (s : State) (l : LinkId) (f : Link → Link) :
    Alters [.links, .xc] s (s.onRx l f) := by
  unfold State.onRx
  repeat' first
    | with_reducible exact .refl _ _
    | assumption
    | with_unfolding_all decide
    | with_reducible refine .ite ?_ ?_
    | with_reducible refine .ite_snd ?_ ?_
    | with_reducible apply Alters.step (onLink_only ..)
    | with_reducible apply Alters.step (onLane_only ..)
    | with_reducible refine .fold ?_ (fun _ _ => ?_)
    | split

theorem onSeam_only (s : State) (n : Nat) (f : Seam → Seam) :
    Alters [.seams] s (s.onSeam n f) := by
  unfold State.onSeam
  repeat' first
    | ((conv => enter [3, 21]); refine .upd (fun p hp => by cases p <;> first | exact absurd ((Part.mem_bits ..).2 rfl) hp | dsimp only [Part.same]) ?_)
    | with_reducible exact .refl _ _
    | assumption
    | with_unfolding_all decide
    | with_reducible refine .ite ?_ ?_
    | with_reducible refine .ite_snd ?_ ?_
    | with_reducible refine .fold ?_ (fun _ _ => ?_)
    | split
    | refine .upd (fun p hp => by cases p <;> first | exact absurd ((Part.mem_bits ..).2 rfl) hp | dsimp only [Part.same]) ?_

theorem onStream_only (s : State) (n : Nat) (f : Stream → Stream) :
    Alters [.streams] s (s.onStream n f) := by
  unfold State.onStream
  repeat' first
    | ((conv => enter [3, 21]); refine .upd (fun p hp => by cases p <;> first | exact absurd ((Part.mem_bits ..).2 rfl) hp | dsimp only [Part.same]) ?_)
    | with_reducible exact .refl _ _
    | assumption
    | with_unfolding_all decide
    | with_reducible refine .ite ?_ ?_
    | with_reducible refine .ite_snd ?_ ?_
    | with_reducible refine .fold ?_ (fun _ _ => ?_)
    | split
    | refine .upd (fun p hp => by cases p <;> first | exact absurd ((Part.mem_bits ..).2 rfl) hp | dsimp only [Part.same]) ?_

theorem onRing_only (s : State) (n : Nat) (f : Ring → Ring) :
    Alters [.hf] s (s.onRing n f) := by
  unfold State.onRing
  repeat' first
    | ((conv => enter [3, 21]); refine .upd (fun p hp => by cases p <;> first | exact absurd ((Part.mem_bits ..).2 rfl) hp | dsimp only [Part.same]) ?_)
    | with_reducible exact .refl _ _
    | assumption
    | with_unfolding_all decide
    | with_reducible refine .ite ?_ ?_
    | with_reducible refine .ite_snd ?_ ?_
    | with_reducible refine .fold ?_ (fun _ _ => ?_)
    | split
    | refine .upd (fun p hp => by cases p <;> first | exact absurd ((Part.mem_bits ..).2 rfl) hp | dsimp only [Part.same]) ?_

theorem onSegment_only (s : State) (n : Nat) (f : Segment → Segment) :
    Alters [.shaft] s (s.onSegment n f) := by
  unfold State.onSegment
  repeat' first
    | ((conv => enter [3, 21]); refine .upd (fun p hp => by cases p <;> first | exact absurd ((Part.mem_bits ..).2 rfl) hp | dsimp only [Part.same]) ?_)
    | with_reducible exact .refl _ _
    | assumption
    | with_unfolding_all decide
    | with_reducible refine .ite ?_ ?_
    | with_reducible refine .ite_snd ?_ ?_
    | with_reducible refine .fold ?_ (fun _ _ => ?_)
    | split
    | refine .upd (fun p hp => by cases p <;> first | exact absurd ((Part.mem_bits ..).2 rfl) hp | dsimp only [Part.same]) ?_

theorem onSlot_only (s : State) (n : Nat) (f : Slot → Slot) :
    Alters [.slots] s (s.onSlot n f) := by
  unfold State.onSlot
  repeat' first
    | ((conv => enter [3, 21]); refine .upd (fun p hp => by cases p <;> first | exact absurd ((Part.mem_bits ..).2 rfl) hp | dsimp only [Part.same]) ?_)
    | with_reducible exact .refl _ _
    | assumption
    | with_unfolding_all decide
    | with_reducible refine .ite ?_ ?_
    | with_reducible refine .ite_snd ?_ ?_
    | with_reducible refine .fold ?_ (fun _ _ => ?_)
    | split
    | refine .upd (fun p hp => by cases p <;> first | exact absurd ((Part.mem_bits ..).2 rfl) hp | dsimp only [Part.same]) ?_

theorem send_only (s : State) (x : Sent) :
    Alters [.sent] s (s.send x) := by
  unfold State.send
  repeat' first
    | ((conv => enter [3, 21]); refine .upd (fun p hp => by cases p <;> first | exact absurd ((Part.mem_bits ..).2 rfl) hp | dsimp only [Part.same]) ?_)
    | with_reducible exact .refl _ _
    | assumption
    | with_unfolding_all decide
    | with_reducible refine .ite ?_ ?_
    | with_reducible refine .ite_snd ?_ ?_
    | with_reducible refine .fold ?_ (fun _ _ => ?_)
    | split
    | refine .upd (fun p hp => by cases p <;> first | exact absurd ((Part.mem_bits ..).2 rfl) hp | dsimp only [Part.same]) ?_

theorem takeFree_only (s : State) :
    Alters [.free] s (s.takeFree).2 := by
  unfold State.takeFree
  repeat' first
    | ((conv => enter [3, 21]); refine .upd (fun p hp => by cases p <;> first | exact absurd ((Part.mem_bits ..).2 rfl) hp | dsimp only [Part.same]) ?_)
    | with_reducible exact .refl _ _
    | assumption
    | with_unfolding_all decide
    | with_reducible refine .ite ?_ ?_
    | with_reducible refine .ite_snd ?_ ?_
    | with_reducible refine .fold ?_ (fun _ _ => ?_)
    | split
    | refine .upd (fun p hp => by cases p <;> first | exact absurd ((Part.mem_bits ..).2 rfl) hp | dsimp only [Part.same]) ?_

theorem setMode_only (s : State) (m : Nat) :
    Alters [.modes] s (s.setMode m) := by
  unfold State.setMode
  repeat' first
    | ((conv => enter [3, 21]); refine .upd (fun p hp => by cases p <;> first | exact absurd ((Part.mem_bits ..).2 rfl) hp | dsimp only [Part.same]) ?_)
    | with_reducible exact .refl _ _
    | assumption
    | with_unfolding_all decide
    | with_reducible refine .ite ?_ ?_
    | with_reducible refine .ite_snd ?_ ?_
    | with_reducible refine .fold ?_ (fun _ _ => ?_)
    | split
    | refine .upd (fun p hp => by cases p <;> first | exact absurd ((Part.mem_bits ..).2 rfl) hp | dsimp only [Part.same]) ?_

theorem makeEntry_only (s : State) (code : EvCode) (cls : FaultClass) (unit : UnitId) (inst : Nat) (detail : List Byte) (reps : Nat) (fromBoot cleared : Bool) (occ : Option Occurrence) :
    Alters [.fm] s (s.makeEntry code cls unit inst detail reps fromBoot cleared occ).2 := by
  unfold State.makeEntry
  repeat' first
    | ((conv => enter [3, 21]); refine .upd (fun p hp => by cases p <;> first | exact absurd ((Part.mem_bits ..).2 rfl) hp | dsimp only [Part.same]) ?_)
    | with_reducible exact .refl _ _
    | assumption
    | with_unfolding_all decide
    | with_reducible refine .ite ?_ ?_
    | with_reducible refine .ite_snd ?_ ?_
    | with_reducible refine .fold ?_ (fun _ _ => ?_)
    | split
    | refine .upd (fun p hp => by cases p <;> first | exact absurd ((Part.mem_bits ..).2 rfl) hp | dsimp only [Part.same]) ?_

theorem enqueueB_only (s : State) (x : ClassBItem) :
    Alters [.grizzly, .fm] s (s.enqueueB x) := by
  unfold State.enqueueB
  repeat' first
    | ((conv => enter [3, 21]); refine .upd (fun p hp => by cases p <;> first | exact absurd ((Part.mem_bits ..).2 rfl) hp | dsimp only [Part.same]) ?_)
    | with_reducible exact .refl _ _
    | assumption
    | with_unfolding_all decide
    | with_reducible refine .ite ?_ ?_
    | with_reducible refine .ite_snd ?_ ?_
    | with_reducible apply Alters.step (makeEntry_only ..)
    | with_reducible refine .fold ?_ (fun _ _ => ?_)
    | split
    | refine .upd (fun p hp => by cases p <;> first | exact absurd ((Part.mem_bits ..).2 rfl) hp | dsimp only [Part.same]) ?_

theorem countMerged_only (s : State) (code : EvCode) (unit : UnitId) (inst : Nat) :
    Alters [.fm] s (s.countMerged code unit inst) := by
  unfold State.countMerged
  repeat' first
    | ((conv => enter [3, 21]); refine .upd (fun p hp => by cases p <;> first | exact absurd ((Part.mem_bits ..).2 rfl) hp | dsimp only [Part.same]) ?_)
    | with_reducible exact .refl _ _
    | assumption
    | with_unfolding_all decide
    | with_reducible refine .ite ?_ ?_
    | with_reducible refine .ite_snd ?_ ?_
    | with_reducible refine .fold ?_ (fun _ _ => ?_)
    | split
    | refine .upd (fun p hp => by cases p <;> first | exact absurd ((Part.mem_bits ..).2 rfl) hp | dsimp only [Part.same]) ?_

theorem rememberKey_only (s : State) (code : EvCode) (unit : UnitId) (inst : Nat) :
    Alters [.fm] s (s.rememberKey code unit inst) := by
  unfold State.rememberKey
  repeat' first
    | ((conv => enter [3, 21]); refine .upd (fun p hp => by cases p <;> first | exact absurd ((Part.mem_bits ..).2 rfl) hp | dsimp only [Part.same]) ?_)
    | with_reducible exact .refl _ _
    | assumption
    | with_unfolding_all decide
    | with_reducible refine .ite ?_ ?_
    | with_reducible refine .ite_snd ?_ ?_
    | with_reducible refine .fold ?_ (fun _ _ => ?_)
    | split
    | refine .upd (fun p hp => by cases p <;> first | exact absurd ((Part.mem_bits ..).2 rfl) hp | dsimp only [Part.same]) ?_

theorem passSkip_only (s : State) (k : Nat) :
    Alters [.regs] s (s.passSkip k) := by
  unfold State.passSkip
  repeat' first
    | ((conv => enter [3, 21]); refine .upd (fun p hp => by cases p <;> first | exact absurd ((Part.mem_bits ..).2 rfl) hp | dsimp only [Part.same]) ?_)
    | with_reducible exact .refl _ _
    | assumption
    | with_unfolding_all decide
    | with_reducible refine .ite ?_ ?_
    | with_reducible refine .ite_snd ?_ ?_
    | with_reducible refine .fold ?_ (fun _ _ => ?_)
    | split
    | refine .upd (fun p hp => by cases p <;> first | exact absurd ((Part.mem_bits ..).2 rfl) hp | dsimp only [Part.same]) ?_

theorem passEvent_only (s : State) (unit : UnitId) :
    Alters [.regs] s (s.passEvent unit) := by
  unfold State.passEvent
  repeat' first
    | with_reducible exact .refl _ _
    | assumption
    | with_unfolding_all decide
    | with_reducible refine .ite ?_ ?_
    | with_reducible refine .ite_snd ?_ ?_
    | with_reducible apply Alters.step (passSkip_only ..)
    | with_reducible refine .fold ?_ (fun _ _ => ?_)
    | split

theorem report_only (s : State) (code : EvCode) (cls : FaultClass) (unit : UnitId) (inst : Nat) (detail : List Byte) (cleared) (occ : Option Occurrence) :
    Alters [.grizzly, .regs, .fm] s (s.report code cls unit inst detail cleared occ) := by
  unfold State.report
  repeat' first
    | with_reducible exact .refl _ _
    | assumption
    | with_unfolding_all decide
    | with_reducible refine .ite ?_ ?_
    | with_reducible refine .ite_snd ?_ ?_
    | with_reducible apply Alters.step (passEvent_only ..)
    | with_reducible apply Alters.step (countMerged_only ..)
    | with_reducible apply Alters.step (makeEntry_only ..)
    | with_reducible apply Alters.step (rememberKey_only ..)
    | with_reducible apply Alters.step (passSkip_only ..)
    | with_reducible apply Alters.step (enqueueB_only ..)
    | with_reducible refine .fold ?_ (fun _ _ => ?_)
    | split

theorem event_only (s : State) (code : EvCode) (unit : UnitId) (inst : Nat) (detail : List Byte) :
    Alters [.grizzly, .regs, .fm] s (s.event code unit inst detail) := by
  unfold State.event
  repeat' first
    | with_reducible exact .refl _ _
    | assumption
    | with_unfolding_all decide
    | with_reducible refine .ite ?_ ?_
    | with_reducible refine .ite_snd ?_ ?_
    | with_reducible apply Alters.step (report_only ..)
    | with_reducible refine .fold ?_ (fun _ _ => ?_)
    | split

theorem notice_only (s : State) (code : EvCode) (unit : UnitId) (inst : Nat) (detail : List Byte) :
    Alters [.grizzly, .regs, .fm] s (s.notice code unit inst detail) := by
  unfold State.notice
  repeat' first
    | with_reducible exact .refl _ _
    | assumption
    | with_unfolding_all decide
    | with_reducible refine .ite ?_ ?_
    | with_reducible refine .ite_snd ?_ ?_
    | with_reducible apply Alters.step (report_only ..)
    | with_reducible refine .fold ?_ (fun _ _ => ?_)
    | split

theorem addCondition_only (s : State) (code : EvCode) (unit : UnitId) (inst : Nat) :
    Alters [.fm] s (s.addCondition code unit inst) := by
  unfold State.addCondition
  repeat' first
    | ((conv => enter [3, 21]); refine .upd (fun p hp => by cases p <;> first | exact absurd ((Part.mem_bits ..).2 rfl) hp | dsimp only [Part.same]) ?_)
    | with_reducible exact .refl _ _
    | assumption
    | with_unfolding_all decide
    | with_reducible refine .ite ?_ ?_
    | with_reducible refine .ite_snd ?_ ?_
    | with_reducible refine .fold ?_ (fun _ _ => ?_)
    | split
    | refine .upd (fun p hp => by cases p <;> first | exact absurd ((Part.mem_bits ..).2 rfl) hp | dsimp only [Part.same]) ?_

theorem dropCondition_only (s : State) (code : EvCode) (unit : UnitId) (inst : Nat) :
    Alters [.fm] s (s.dropCondition code unit inst) := by
  unfold State.dropCondition
  repeat' first
    | ((conv => enter [3, 21]); refine .upd (fun p hp => by cases p <;> first | exact absurd ((Part.mem_bits ..).2 rfl) hp | dsimp only [Part.same]) ?_)
    | with_reducible exact .refl _ _
    | assumption
    | with_unfolding_all decide
    | with_reducible refine .ite ?_ ?_
    | with_reducible refine .ite_snd ?_ ?_
    | with_reducible refine .fold ?_ (fun _ _ => ?_)
    | split
    | refine .upd (fun p hp => by cases p <;> first | exact absurd ((Part.mem_bits ..).2 rfl) hp | dsimp only [Part.same]) ?_

theorem taken_only (s : State) :
    Alters [] s (taken s).2 := by
  exact .refl _ _

theorem refuse_only (code : Nat) (s : State) :
    Alters [] s (refuse code s).2 := by
  exact .refl _ _

theorem onMsix_only (s : State) (fn : Fn) (v : Nat) (f : MsixEntry → MsixEntry) :
    Alters [.hf] s (s.onMsix fn v f) := by
  unfold State.onMsix
  repeat' first
    | ((conv => enter [3, 21]); refine .upd (fun p hp => by cases p <;> first | exact absurd ((Part.mem_bits ..).2 rfl) hp | dsimp only [Part.same]) ?_)
    | with_reducible exact .refl _ _
    | assumption
    | with_unfolding_all decide
    | with_reducible refine .ite ?_ ?_
    | with_reducible refine .ite_snd ?_ ?_
    | with_reducible refine .fold ?_ (fun _ _ => ?_)
    | split
    | refine .upd (fun p hp => by cases p <;> first | exact absurd ((Part.mem_bits ..).2 rfl) hp | dsimp only [Part.same]) ?_

theorem onFnCfg_only (s : State) (fn : Fn) (f : FnConfig → FnConfig) :
    Alters [.hf] s (s.onFnCfg fn f) := by
  unfold State.onFnCfg
  repeat' first
    | ((conv => enter [3, 21]); refine .upd (fun p hp => by cases p <;> first | exact absurd ((Part.mem_bits ..).2 rfl) hp | dsimp only [Part.same]) ?_)
    | with_reducible exact .refl _ _
    | assumption
    | with_unfolding_all decide
    | with_reducible refine .ite ?_ ?_
    | with_reducible refine .ite_snd ?_ ?_
    | with_reducible refine .fold ?_ (fun _ _ => ?_)
    | split
    | refine .upd (fun p hp => by cases p <;> first | exact absurd ((Part.mem_bits ..).2 rfl) hp | dsimp only [Part.same]) ?_

theorem conditionMet_only (s : State) (cause : SuspendCause) (scope : BitVec 64) :
    Alters [.grizzly] s (s.conditionMet cause scope) := by
  unfold State.conditionMet
  repeat' first
    | ((conv => enter [3, 21]); refine .upd (fun p hp => by cases p <;> first | exact absurd ((Part.mem_bits ..).2 rfl) hp | dsimp only [Part.same]) ?_)
    | with_reducible exact .refl _ _
    | assumption
    | with_unfolding_all decide
    | with_reducible refine .ite ?_ ?_
    | with_reducible refine .ite_snd ?_ ?_
    | with_reducible refine .fold ?_ (fun _ _ => ?_)
    | split
    | refine .upd (fun p hp => by cases p <;> first | exact absurd ((Part.mem_bits ..).2 rfl) hp | dsimp only [Part.same]) ?_

theorem wakeLink_only (s : State) :
    Alters [.power, .grizzly, .hf] s (s.wakeLink) := by
  unfold State.wakeLink
  repeat' first
    | ((conv => enter [3, 21]); refine .upd (fun p hp => by cases p <;> first | exact absurd ((Part.mem_bits ..).2 rfl) hp | dsimp only [Part.same]) ?_)
    | with_reducible exact .refl _ _
    | assumption
    | with_unfolding_all decide
    | with_reducible refine .ite ?_ ?_
    | with_reducible refine .ite_snd ?_ ?_
    | with_reducible apply Alters.step (conditionMet_only ..)
    | with_reducible refine .fold ?_ (fun _ _ => ?_)
    | split
    | refine .upd (fun p hp => by cases p <;> first | exact absurd ((Part.mem_bits ..).2 rfl) hp | dsimp only [Part.same]) ?_

theorem sendVector_only (s : State) (fn : Fn) (v : Nat) :
    Alters [.power, .grizzly, .hf, .sent] s (s.sendVector fn v) := by
  unfold State.sendVector
  repeat' first
    | with_reducible exact .refl _ _
    | assumption
    | with_unfolding_all decide
    | with_reducible refine .ite ?_ ?_
    | with_reducible refine .ite_snd ?_ ?_
    | with_reducible apply Alters.step (onMsix_only ..)
    | with_reducible apply Alters.step (send_only ..)
    | with_reducible apply Alters.step (wakeLink_only ..)
    | with_reducible refine .fold ?_ (fun _ _ => ?_)
    | split

theorem raiseVector_only (s : State) (fn : Fn) (v : Nat) :
    Alters [.power, .grizzly, .hf, .sent] s (s.raiseVector fn v) := by
  unfold State.raiseVector
  repeat' first
    | with_reducible exact .refl _ _
    | assumption
    | with_unfolding_all decide
    | with_reducible refine .ite ?_ ?_
    | with_reducible refine .ite_snd ?_ ?_
    | with_reducible apply Alters.step (onMsix_only ..)
    | with_reducible apply Alters.step (sendVector_only ..)
    | with_reducible refine .fold ?_ (fun _ _ => ?_)
    | split

theorem flushVectors_only (s : State) :
    Alters [.power, .grizzly, .hf, .sent] s (s.flushVectors) := by
  unfold State.flushVectors
  repeat' first
    | with_reducible exact .refl _ _
    | assumption
    | with_unfolding_all decide
    | with_reducible refine .ite ?_ ?_
    | with_reducible refine .ite_snd ?_ ?_
    | with_reducible apply Alters.step (sendVector_only ..)
    | with_reducible refine .fold ?_ (fun _ _ => ?_)
    | split

theorem msixWrite_only (s : State) (fn : Fn) (offset : Nat) (v : Word) :
    Alters [.power, .grizzly, .hf, .sent] s (s.msixWrite fn offset v) := by
  unfold State.msixWrite
  refine .ite ((onFnCfg_only ..).trans (flushVectors_only ..)) (.ite ((onMsix_only ..).trans (flushVectors_only ..)) (.refl ..))

theorem assertFaultN_only (s : State) :
    Alters [.power, .grizzly, .hf, .sent] s (s.assertFaultN) := by
  unfold State.assertFaultN
  repeat' first
    | ((conv => enter [3, 21]); refine .upd (fun p hp => by cases p <;> first | exact absurd ((Part.mem_bits ..).2 rfl) hp | dsimp only [Part.same]) ?_)
    | with_reducible exact .refl _ _
    | assumption
    | with_unfolding_all decide
    | with_reducible refine .ite ?_ ?_
    | with_reducible refine .ite_snd ?_ ?_
    | with_reducible apply Alters.step (send_only ..)
    | with_reducible apply Alters.step (raiseVector_only ..)
    | with_reducible refine .fold ?_ (fun _ _ => ?_)
    | split
    | refine .upd (fun p hp => by cases p <;> first | exact absurd ((Part.mem_bits ..).2 rfl) hp | dsimp only [Part.same]) ?_

theorem aerError_only (s : State) (fn : Fn) (e : AerError) (advisory) :
    Alters [.hf, .sent] s (s.aerError fn e advisory) := by
  unfold State.aerError
  repeat' first
    | with_reducible exact .refl _ _
    | assumption
    | with_unfolding_all decide
    | with_reducible refine .ite ?_ ?_
    | with_reducible refine .ite_snd ?_ ?_
    | with_reducible apply Alters.step (onFnCfg_only ..)
    | with_reducible apply Alters.step (send_only ..)
    | with_reducible refine .fold ?_ (fun _ _ => ?_)
    | split

theorem setRaster_only (s : State) (st cause : Nat) (detail : List Byte) :
    Alters [.sv, .grizzly, .regs, .fm] s (s.setRaster st cause detail) := by
  unfold State.setRaster
  repeat' first
    | ((conv => enter [3, 21]); refine .upd (fun p hp => by cases p <;> first | exact absurd ((Part.mem_bits ..).2 rfl) hp | dsimp only [Part.same]) ?_)
    | with_reducible exact .refl _ _
    | assumption
    | with_unfolding_all decide
    | with_reducible refine .ite ?_ ?_
    | with_reducible refine .ite_snd ?_ ?_
    | with_reducible apply Alters.step (event_only ..)
    | with_reducible refine .fold ?_ (fun _ _ => ?_)
    | split
    | refine .upd (fun p hp => by cases p <;> first | exact absurd ((Part.mem_bits ..).2 rfl) hp | dsimp only [Part.same]) ?_

theorem enterHoldover_only (s : State) (cause : Nat) :
    Alters [.sv, .grizzly, .regs, .fm] s (s.enterHoldover cause) := by
  unfold State.enterHoldover
  repeat' first
    | ((conv => enter [3, 21]); refine .upd (fun p hp => by cases p <;> first | exact absurd ((Part.mem_bits ..).2 rfl) hp | dsimp only [Part.same]) ?_)
    | with_reducible exact .refl _ _
    | assumption
    | with_unfolding_all decide
    | with_reducible refine .ite ?_ ?_
    | with_reducible refine .ite_snd ?_ ?_
    | with_reducible apply Alters.step (setRaster_only ..)
    | with_reducible refine .fold ?_ (fun _ _ => ?_)
    | split
    | refine .upd (fun p hp => by cases p <;> first | exact absurd ((Part.mem_bits ..).2 rfl) hp | dsimp only [Part.same]) ?_

theorem trsSourceDown_only (s : State) (link : Nat) :
    Alters [.sv, .grizzly, .regs, .fm] s (s.trsSourceDown link) := by
  unfold State.trsSourceDown
  repeat' first
    | ((conv => enter [3, 21]); refine .upd (fun p hp => by cases p <;> first | exact absurd ((Part.mem_bits ..).2 rfl) hp | dsimp only [Part.same]) ?_)
    | with_reducible exact .refl _ _
    | assumption
    | with_unfolding_all decide
    | with_reducible refine .ite ?_ ?_
    | with_reducible refine .ite_snd ?_ ?_
    | with_reducible apply Alters.step (enterHoldover_only ..)
    | with_reducible refine .fold ?_ (fun _ _ => ?_)
    | split
    | refine .upd (fun p hp => by cases p <;> first | exact absurd ((Part.mem_bits ..).2 rfl) hp | dsimp only [Part.same]) ?_

theorem setTimeState_only (s : State) (st : Nat) :
    Alters [.sv, .grizzly, .regs, .fm] s (s.setTimeState st) := by
  unfold State.setTimeState
  repeat' first
    | ((conv => enter [3, 21]); refine .upd (fun p hp => by cases p <;> first | exact absurd ((Part.mem_bits ..).2 rfl) hp | dsimp only [Part.same]) ?_)
    | with_reducible exact .refl _ _
    | assumption
    | with_unfolding_all decide
    | with_reducible refine .ite ?_ ?_
    | with_reducible refine .ite_snd ?_ ?_
    | with_reducible apply Alters.step (enterHoldover_only ..)
    | with_reducible refine .fold ?_ (fun _ _ => ?_)
    | split
    | refine .upd (fun p hp => by cases p <;> first | exact absurd ((Part.mem_bits ..).2 rfl) hp | dsimp only [Part.same]) ?_

theorem reloadDither_only (s : State) :
    Alters [.sv] s (s.reloadDither) := by
  unfold State.reloadDither
  repeat' first
    | ((conv => enter [3, 21]); refine .upd (fun p hp => by cases p <;> first | exact absurd ((Part.mem_bits ..).2 rfl) hp | dsimp only [Part.same]) ?_)
    | with_reducible exact .refl _ _
    | assumption
    | with_unfolding_all decide
    | with_reducible refine .ite ?_ ?_
    | with_reducible refine .ite_snd ?_ ?_
    | with_reducible refine .fold ?_ (fun _ _ => ?_)
    | split
    | refine .upd (fun p hp => by cases p <;> first | exact absurd ((Part.mem_bits ..).2 rfl) hp | dsimp only [Part.same]) ?_

theorem clockFree_only (s : State) :
    Alters [.sv] s (s.clockFree) := by
  unfold State.clockFree
  repeat' first
    | ((conv => enter [3, 21]); refine .upd (fun p hp => by cases p <;> first | exact absurd ((Part.mem_bits ..).2 rfl) hp | dsimp only [Part.same]) ?_)
    | with_reducible exact .refl _ _
    | assumption
    | with_unfolding_all decide
    | with_reducible refine .ite ?_ ?_
    | with_reducible refine .ite_snd ?_ ?_
    | with_reducible refine .fold ?_ (fun _ _ => ?_)
    | split
    | refine .upd (fun p hp => by cases p <;> first | exact absurd ((Part.mem_bits ..).2 rfl) hp | dsimp only [Part.same]) ?_

theorem rasterEpoch_only (s : State) (old : Nat → Nat → Nat) :
    Alters [.sv, .grizzly, .regs, .fm] s (s.rasterEpoch old) := by
  unfold State.rasterEpoch
  repeat' first
    | ((conv => enter [3, 21]); refine .upd (fun p hp => by cases p <;> first | exact absurd ((Part.mem_bits ..).2 rfl) hp | dsimp only [Part.same]) ?_)
    | with_reducible exact .refl _ _
    | assumption
    | with_unfolding_all decide
    | with_reducible refine .ite ?_ ?_
    | with_reducible refine .ite_snd ?_ ?_
    | with_reducible apply Alters.step (clockFree_only ..)
    | with_reducible apply Alters.step (reloadDither_only ..)
    | with_reducible apply Alters.step (setRaster_only ..)
    | with_reducible refine .fold ?_ (fun _ _ => ?_)
    | split
    | refine .upd (fun p hp => by cases p <;> first | exact absurd ((Part.mem_bits ..).2 rfl) hp | dsimp only [Part.same]) ?_

theorem rasterEntry_only (s : State) :
    Alters [.sv, .grizzly, .regs, .fm] s (s.rasterEntry) := by
  unfold State.rasterEntry
  repeat' first
    | ((conv => enter [3, 21]); refine .upd (fun p hp => by cases p <;> first | exact absurd ((Part.mem_bits ..).2 rfl) hp | dsimp only [Part.same]) ?_)
    | with_reducible exact .refl _ _
    | assumption
    | with_unfolding_all decide
    | with_reducible refine .ite ?_ ?_
    | with_reducible refine .ite_snd ?_ ?_
    | with_reducible apply Alters.step (clockFree_only ..)
    | with_reducible apply Alters.step (reloadDither_only ..)
    | with_reducible apply Alters.step (setRaster_only ..)
    | with_reducible refine .fold ?_ (fun _ _ => ?_)
    | split
    | refine .upd (fun p hp => by cases p <;> first | exact absurd ((Part.mem_bits ..).2 rfl) hp | dsimp only [Part.same]) ?_

theorem loseSeam_only (s : State) (k at_ cause : Nat) :
    Alters [.seams] s (s.loseSeam k at_ cause) := by
  unfold State.loseSeam
  repeat' first
    | with_reducible exact .refl _ _
    | assumption
    | with_unfolding_all decide
    | with_reducible refine .ite ?_ ?_
    | with_reducible refine .ite_snd ?_ ?_
    | with_reducible apply Alters.step (onSeam_only ..)
    | with_reducible refine .fold ?_ (fun _ _ => ?_)
    | split

theorem loseFed_only (s : State) (l : LinkId) (cause : Nat) :
    Alters [.seams] s (s.loseFed l cause) := by
  unfold State.loseFed
  repeat' first
    | with_reducible exact .refl _ _
    | assumption
    | with_unfolding_all decide
    | with_reducible refine .ite ?_ ?_
    | with_reducible refine .ite_snd ?_ ?_
    | with_reducible apply Alters.step (loseSeam_only ..)
    | with_reducible refine .fold ?_ (fun _ _ => ?_)
    | split

theorem rxGo_only (s : State) (l : LinkId) (st cause : Nat) :
    Alters [.sv, .links, .xc, .seams, .grizzly, .regs, .fm] s (s.rxGo l st cause) := by
  unfold State.rxGo
  repeat' first
    | with_reducible exact .refl _ _
    | assumption
    | with_unfolding_all decide
    | with_reducible refine .ite ?_ ?_
    | with_reducible refine .ite_snd ?_ ?_
    | with_reducible apply Alters.step (loseFed_only ..)
    | with_reducible apply Alters.step (onRx_only ..)
    | with_reducible apply Alters.step (event_only ..)
    | with_reducible apply Alters.step (trsSourceDown_only ..)
    | with_reducible refine .fold ?_ (fun _ _ => ?_)
    | split

theorem rxSearch_only (s : State) (l : LinkId) (cause : Nat) :
    Alters [.sv, .links, .xc, .seams, .grizzly, .regs, .fm] s (s.rxSearch l cause) := by
  unfold State.rxSearch
  repeat' first
    | with_reducible exact .refl _ _
    | assumption
    | with_unfolding_all decide
    | with_reducible refine .ite ?_ ?_
    | with_reducible refine .ite_snd ?_ ?_
    | with_reducible apply Alters.step (onRx_only ..)
    | with_reducible apply Alters.step (rxGo_only ..)
    | with_reducible refine .fold ?_ (fun _ _ => ?_)
    | split

theorem rxDisable_only (s : State) (l : LinkId) :
    Alters [.sv, .links, .xc, .seams, .grizzly, .regs, .fm] s (s.rxDisable l) := by
  unfold State.rxDisable
  repeat' first
    | with_reducible exact .refl _ _
    | assumption
    | with_unfolding_all decide
    | with_reducible refine .ite ?_ ?_
    | with_reducible refine .ite_snd ?_ ?_
    | with_reducible apply Alters.step (onRx_only ..)
    | with_reducible apply Alters.step (rxGo_only ..)
    | with_reducible refine .fold ?_ (fun _ _ => ?_)
    | split

theorem rxUnpower_only (s : State) (l : LinkId) :
    Alters [.sv, .links, .xc, .seams, .grizzly, .regs, .fm] s (s.rxUnpower l) := by
  unfold State.rxUnpower
  repeat' first
    | with_reducible exact .refl _ _
    | assumption
    | with_unfolding_all decide
    | with_reducible refine .ite ?_ ?_
    | with_reducible refine .ite_snd ?_ ?_
    | with_reducible apply Alters.step (loseFed_only ..)
    | with_reducible apply Alters.step (onRx_only ..)
    | with_reducible apply Alters.step (trsSourceDown_only ..)
    | with_reducible refine .fold ?_ (fun _ _ => ?_)
    | split

theorem leaveMode_only (s : State) (by_ : ForcedBy) :
    Alters [.modes] s (s.leaveMode by_) := by
  unfold State.leaveMode
  repeat' first
    | ((conv => enter [3, 21]); refine .upd (fun p hp => by cases p <;> first | exact absurd ((Part.mem_bits ..).2 rfl) hp | dsimp only [Part.same]) ?_)
    | with_reducible exact .refl _ _
    | assumption
    | with_unfolding_all decide
    | with_reducible refine .ite ?_ ?_
    | with_reducible refine .ite_snd ?_ ?_
    | with_reducible refine .fold ?_ (fun _ _ => ?_)
    | split
    | refine .upd (fun p hp => by cases p <;> first | exact absurd ((Part.mem_bits ..).2 rfl) hp | dsimp only [Part.same]) ?_

theorem isolateBlock_only (s : State) (u : UnitId) (inst : Nat) :
    Alters [.modes, .sv, .links, .xc, .seams, .grizzly, .regs, .fm] s (s.isolateBlock u inst) := by
  unfold State.isolateBlock
  repeat' first
    | ((conv => enter [3, 21]); refine .upd (fun p hp => by cases p <;> first | exact absurd ((Part.mem_bits ..).2 rfl) hp | dsimp only [Part.same]) ?_)
    | with_reducible exact .refl _ _
    | assumption
    | with_unfolding_all decide
    | with_reducible refine .ite ?_ ?_
    | with_reducible refine .ite_snd ?_ ?_
    | with_reducible apply Alters.step (leaveMode_only ..)
    | with_reducible apply Alters.step (rxDisable_only ..)
    | with_reducible refine .fold ?_ (fun _ _ => ?_)
    | split
    | refine .upd (fun p hp => by cases p <;> first | exact absurd ((Part.mem_bits ..).2 rfl) hp | dsimp only [Part.same]) ?_

theorem tripWatchdog_only (s : State) (c : WatchdogCause) :
    Alters [.fm] s (s.tripWatchdog c) := by
  unfold State.tripWatchdog
  repeat' first
    | ((conv => enter [3, 21]); refine .upd (fun p hp => by cases p <;> first | exact absurd ((Part.mem_bits ..).2 rfl) hp | dsimp only [Part.same]) ?_)
    | with_reducible exact .refl _ _
    | assumption
    | with_unfolding_all decide
    | with_reducible refine .ite ?_ ?_
    | with_reducible refine .ite_snd ?_ ?_
    | with_reducible refine .fold ?_ (fun _ _ => ?_)
    | split
    | refine .upd (fun p hp => by cases p <;> first | exact absurd ((Part.mem_bits ..).2 rfl) hp | dsimp only [Part.same]) ?_

theorem enqueueFull_only (s : State) (f : Faulted) :
    Alters [.fm] s (s.enqueueFull f) := by
  unfold State.enqueueFull
  repeat' first
    | ((conv => enter [3, 21]); refine .upd (fun p hp => by cases p <;> first | exact absurd ((Part.mem_bits ..).2 rfl) hp | dsimp only [Part.same]) ?_)
    | with_reducible exact .refl _ _
    | assumption
    | with_unfolding_all decide
    | with_reducible refine .ite ?_ ?_
    | with_reducible refine .ite_snd ?_ ?_
    | with_reducible apply Alters.step (tripWatchdog_only ..)
    | with_reducible refine .fold ?_ (fun _ _ => ?_)
    | split
    | refine .upd (fun p hp => by cases p <;> first | exact absurd ((Part.mem_bits ..).2 rfl) hp | dsimp only [Part.same]) ?_

theorem enqueueFault_only (s : State) (f : Faulted) :
    Alters [.fm] s (s.enqueueFault f) := by
  unfold State.enqueueFault
  repeat' first
    | ((conv => enter [3, 21]); refine .upd (fun p hp => by cases p <;> first | exact absurd ((Part.mem_bits ..).2 rfl) hp | dsimp only [Part.same]) ?_)
    | with_reducible exact .refl _ _
    | assumption
    | with_unfolding_all decide
    | with_reducible refine .ite ?_ ?_
    | with_reducible refine .ite_snd ?_ ?_
    | with_reducible apply Alters.step (tripWatchdog_only ..)
    | with_reducible apply Alters.step (enqueueFull_only ..)
    | with_reducible refine .fold ?_ (fun _ _ => ?_)
    | split
    | refine .upd (fun p hp => by cases p <;> first | exact absurd ((Part.mem_bits ..).2 rfl) hp | dsimp only [Part.same]) ?_

theorem requeueFront_only (s : State) (f : Faulted) :
    Alters [.fm] s (s.requeueFront f) := by
  unfold State.requeueFront
  repeat' first
    | ((conv => enter [3, 21]); refine .upd (fun p hp => by cases p <;> first | exact absurd ((Part.mem_bits ..).2 rfl) hp | dsimp only [Part.same]) ?_)
    | with_reducible exact .refl _ _
    | assumption
    | with_unfolding_all decide
    | with_reducible refine .ite ?_ ?_
    | with_reducible refine .ite_snd ?_ ?_
    | with_reducible apply Alters.step (enqueueFull_only ..)
    | with_reducible refine .fold ?_ (fun _ _ => ?_)
    | split
    | refine .upd (fun p hp => by cases p <;> first | exact absurd ((Part.mem_bits ..).2 rfl) hp | dsimp only [Part.same]) ?_

theorem noteCondition_only (s : State) (f : FaultReq) :
    Alters [.fm] s (s.noteCondition f) := by
  unfold State.noteCondition
  repeat' first
    | with_reducible exact .refl _ _
    | assumption
    | with_unfolding_all decide
    | with_reducible refine .ite ?_ ?_
    | with_reducible refine .ite_snd ?_ ?_
    | with_reducible apply Alters.step (addCondition_only ..)
    | with_reducible refine .fold ?_ (fun _ _ => ?_)
    | split

theorem raiseFault_only (s : State) (req : FaultReq) (byHandler : Bool) :
    Alters [.modes, .sv, .links, .xc, .seams, .grizzly, .regs, .fm] s (s.raiseFault req byHandler) := by
  unfold State.raiseFault
  repeat' first
    | ((conv => enter [3, 21]); refine .upd (fun p hp => by cases p <;> first | exact absurd ((Part.mem_bits ..).2 rfl) hp | dsimp only [Part.same]) ?_)
    | with_reducible exact .refl _ _
    | assumption
    | with_unfolding_all decide
    | with_reducible refine .ite ?_ ?_
    | with_reducible refine .ite_snd ?_ ?_
    | with_reducible apply Alters.step (noteCondition_only ..)
    | with_reducible apply Alters.step (tripWatchdog_only ..)
    | with_reducible apply Alters.step (enqueueFault_only ..)
    | with_reducible apply Alters.step (requeueFront_only ..)
    | with_reducible apply Alters.step (isolateBlock_only ..)
    | with_reducible refine .fold ?_ (fun _ _ => ?_)
    | split
    | refine .upd (fun p hp => by cases p <;> first | exact absurd ((Part.mem_bits ..).2 rfl) hp | dsimp only [Part.same]) ?_

theorem fault_only (s : State) (cls : FaultClass) (code : EvCode) (unit : UnitId) (inst : Nat) (detail : List Byte) :
    Alters [.modes, .sv, .links, .xc, .seams, .grizzly, .regs, .fm] s (s.fault cls code unit inst detail) := by
  unfold State.fault
  repeat' first
    | with_reducible exact .refl _ _
    | assumption
    | with_unfolding_all decide
    | with_reducible refine .ite ?_ ?_
    | with_reducible refine .ite_snd ?_ ?_
    | with_reducible apply Alters.step (raiseFault_only ..)
    | with_reducible refine .fold ?_ (fun _ _ => ?_)
    | split

theorem govern_only (s : State) (stretched : Nat) :
    Alters [.modes, .sv, .links, .xc, .seams, .grizzly, .regs, .fm] s (s.govern stretched) := by
  unfold State.govern
  repeat' first
    | ((conv => enter [3, 21]); refine .upd (fun p hp => by cases p <;> first | exact absurd ((Part.mem_bits ..).2 rfl) hp | dsimp only [Part.same]) ?_)
    | with_reducible exact .refl _ _
    | assumption
    | with_unfolding_all decide
    | with_reducible refine .ite ?_ ?_
    | with_reducible refine .ite_snd ?_ ?_
    | with_reducible apply Alters.step (fault_only ..)
    | with_reducible refine .fold ?_ (fun _ _ => ?_)
    | split
    | refine .upd (fun p hp => by cases p <;> first | exact absurd ((Part.mem_bits ..).2 rfl) hp | dsimp only [Part.same]) ?_

theorem refClockLost_only (s : State) :
    Alters [.modes, .sv, .links, .xc, .seams, .grizzly, .regs, .fm] s (s.refClockLost) := by
  unfold State.refClockLost
  repeat' first
    | ((conv => enter [3, 21]); refine .upd (fun p hp => by cases p <;> first | exact absurd ((Part.mem_bits ..).2 rfl) hp | dsimp only [Part.same]) ?_)
    | with_reducible exact .refl _ _
    | assumption
    | with_unfolding_all decide
    | with_reducible refine .ite ?_ ?_
    | with_reducible refine .ite_snd ?_ ?_
    | with_reducible apply Alters.step (enterHoldover_only ..)
    | with_reducible apply Alters.step (fault_only ..)
    | with_reducible refine .fold ?_ (fun _ _ => ?_)
    | split
    | refine .upd (fun p hp => by cases p <;> first | exact absurd ((Part.mem_bits ..).2 rfl) hp | dsimp only [Part.same]) ?_

theorem refClockReturn_only (s : State) (stretched : Nat) :
    Alters [.modes, .sv, .links, .xc, .seams, .grizzly, .regs, .fm] s (s.refClockReturn stretched) := by
  unfold State.refClockReturn
  repeat' first
    | ((conv => enter [3, 21]); refine .upd (fun p hp => by cases p <;> first | exact absurd ((Part.mem_bits ..).2 rfl) hp | dsimp only [Part.same]) ?_)
    | with_reducible exact .refl _ _
    | assumption
    | with_unfolding_all decide
    | with_reducible refine .ite ?_ ?_
    | with_reducible refine .ite_snd ?_ ?_
    | with_reducible apply Alters.step (dropCondition_only ..)
    | with_reducible apply Alters.step (govern_only ..)
    | with_reducible refine .fold ?_ (fun _ _ => ?_)
    | split
    | refine .upd (fun p hp => by cases p <;> first | exact absurd ((Part.mem_bits ..).2 rfl) hp | dsimp only [Part.same]) ?_

theorem learnWidth_only (s : State) (w : Nat) :
    Alters [.sv] s (s.learnWidth w) := by
  unfold State.learnWidth
  repeat' first
    | ((conv => enter [3, 21]); refine .upd (fun p hp => by cases p <;> first | exact absurd ((Part.mem_bits ..).2 rfl) hp | dsimp only [Part.same]) ?_)
    | with_reducible exact .refl _ _
    | assumption
    | with_unfolding_all decide
    | with_reducible refine .ite ?_ ?_
    | with_reducible refine .ite_snd ?_ ?_
    | with_reducible refine .fold ?_ (fun _ _ => ?_)
    | split
    | refine .upd (fun p hp => by cases p <;> first | exact absurd ((Part.mem_bits ..).2 rfl) hp | dsimp only [Part.same]) ?_

theorem rejectPulse_only (s : State) :
    Alters [.sv] s (s.rejectPulse) := by
  unfold State.rejectPulse
  repeat' first
    | ((conv => enter [3, 21]); refine .upd (fun p hp => by cases p <;> first | exact absurd ((Part.mem_bits ..).2 rfl) hp | dsimp only [Part.same]) ?_)
    | with_reducible exact .refl _ _
    | assumption
    | with_unfolding_all decide
    | with_reducible refine .ite ?_ ?_
    | with_reducible refine .ite_snd ?_ ?_
    | with_reducible refine .fold ?_ (fun _ _ => ?_)
    | split
    | refine .upd (fun p hp => by cases p <;> first | exact absurd ((Part.mem_bits ..).2 rfl) hp | dsimp only [Part.same]) ?_

theorem foundAt_only (s : State) (lead : Nat) (isFrame : Bool) :
    Alters [.sv] s (s.foundAt lead isFrame) := by
  unfold State.foundAt
  repeat' first
    | ((conv => enter [3, 21]); refine .upd (fun p hp => by cases p <;> first | exact absurd ((Part.mem_bits ..).2 rfl) hp | dsimp only [Part.same]) ?_)
    | with_reducible exact .refl _ _
    | assumption
    | with_unfolding_all decide
    | with_reducible refine .ite ?_ ?_
    | with_reducible refine .ite_snd ?_ ?_
    | with_reducible refine .fold ?_ (fun _ _ => ?_)
    | split
    | refine .upd (fun p hp => by cases p <;> first | exact absurd ((Part.mem_bits ..).2 rfl) hp | dsimp only [Part.same]) ?_

theorem linePulse_only (s : State) (lead w : Nat) :
    Alters [.sv] s (s.linePulse lead w) := by
  unfold State.linePulse
  repeat' first
    | ((conv => enter [3, 21]); refine .upd (fun p hp => by cases p <;> first | exact absurd ((Part.mem_bits ..).2 rfl) hp | dsimp only [Part.same]) ?_)
    | with_reducible exact .refl _ _
    | assumption
    | with_unfolding_all decide
    | with_reducible refine .ite ?_ ?_
    | with_reducible refine .ite_snd ?_ ?_
    | with_reducible apply Alters.step (rejectPulse_only ..)
    | with_reducible apply Alters.step (foundAt_only ..)
    | with_reducible refine .fold ?_ (fun _ _ => ?_)
    | split
    | refine .upd (fun p hp => by cases p <;> first | exact absurd ((Part.mem_bits ..).2 rfl) hp | dsimp only [Part.same]) ?_

theorem classify_only (s : State) (lead width w : Nat) :
    Alters [.sv] s (s.classify lead width w) := by
  unfold State.classify
  repeat' first
    | with_reducible exact .refl _ _
    | assumption
    | with_unfolding_all decide
    | with_reducible refine .ite ?_ ?_
    | with_reducible refine .ite_snd ?_ ?_
    | with_reducible apply Alters.step (linePulse_only ..)
    | with_reducible apply Alters.step (foundAt_only ..)
    | with_reducible apply Alters.step (rejectPulse_only ..)
    | with_reducible refine .fold ?_ (fun _ _ => ?_)
    | split

theorem syncPulse_only (s : State) (pin : Nat) (lead trail : PinEdge) :
    Alters [.sv] s (s.syncPulse pin lead trail) := by
  unfold State.syncPulse
  repeat' first
    | with_reducible exact .refl _ _
    | assumption
    | with_unfolding_all decide
    | with_reducible refine .ite ?_ ?_
    | with_reducible refine .ite_snd ?_ ?_
    | with_reducible apply Alters.step (learnWidth_only ..)
    | with_reducible apply Alters.step (classify_only ..)
    | with_reducible refine .fold ?_ (fun _ _ => ?_)
    | split

theorem timingReference_only (s : State) (width word at_ : Nat) :
    Alters [.sv] s (s.timingReference width word at_) := by
  unfold State.timingReference
  repeat' first
    | ((conv => enter [3, 21]); refine .upd (fun p hp => by cases p <;> first | exact absurd ((Part.mem_bits ..).2 rfl) hp | dsimp only [Part.same]) ?_)
    | with_reducible exact .refl _ _
    | assumption
    | with_unfolding_all decide
    | with_reducible refine .ite ?_ ?_
    | with_reducible refine .ite_snd ?_ ?_
    | with_reducible refine .fold ?_ (fun _ _ => ?_)
    | split
    | refine .upd (fun p hp => by cases p <;> first | exact absurd ((Part.mem_bits ..).2 rfl) hp | dsimp only [Part.same]) ?_

theorem latchWord_only (s : State) (width word at_ : Nat) :
    Alters [.sv] s (s.latchWord width word at_) := by
  unfold State.latchWord
  repeat' first
    | ((conv => enter [3, 21]); refine .upd (fun p hp => by cases p <;> first | exact absurd ((Part.mem_bits ..).2 rfl) hp | dsimp only [Part.same]) ?_)
    | with_reducible exact .refl _ _
    | assumption
    | with_unfolding_all decide
    | with_reducible refine .ite ?_ ?_
    | with_reducible refine .ite_snd ?_ ?_
    | with_reducible apply Alters.step (timingReference_only ..)
    | with_reducible refine .fold ?_ (fun _ _ => ?_)
    | split
    | refine .upd (fun p hp => by cases p <;> first | exact absurd ((Part.mem_bits ..).2 rfl) hp | dsimp only [Part.same]) ?_

theorem trsWord_only (s : State) (seam channel : Nat) :
    Alters [.sv] s (s.trsWord seam channel) := by
  unfold State.trsWord
  repeat' first
    | ((conv => enter [3, 21]); refine .upd (fun p hp => by cases p <;> first | exact absurd ((Part.mem_bits ..).2 rfl) hp | dsimp only [Part.same]) ?_)
    | with_reducible exact .refl _ _
    | assumption
    | with_unfolding_all decide
    | with_reducible refine .ite ?_ ?_
    | with_reducible refine .ite_snd ?_ ?_
    | with_reducible apply Alters.step (latchWord_only ..)
    | with_reducible refine .fold ?_ (fun _ _ => ?_)
    | split
    | refine .upd (fun p hp => by cases p <;> first | exact absurd ((Part.mem_bits ..).2 rfl) hp | dsimp only [Part.same]) ?_

theorem steer_only (s : State) (period : Nat) :
    Alters [.sv, .grizzly, .regs, .fm] s (s.steer period) := by
  unfold State.steer
  repeat' first
    | ((conv => enter [3, 21]); refine .upd (fun p hp => by cases p <;> first | exact absurd ((Part.mem_bits ..).2 rfl) hp | dsimp only [Part.same]) ?_)
    | with_reducible exact .refl _ _
    | assumption
    | with_unfolding_all decide
    | with_reducible refine .ite ?_ ?_
    | with_reducible refine .ite_snd ?_ ?_
    | with_reducible apply Alters.step (event_only ..)
    | with_reducible refine .fold ?_ (fun _ _ => ?_)
    | split
    | refine .upd (fun p hp => by cases p <;> first | exact absurd ((Part.mem_bits ..).2 rfl) hp | dsimp only [Part.same]) ?_

theorem trackLine_only (s : State) (at_ period : Nat) :
    Alters [.sv, .grizzly, .regs, .fm, .free] s (s.trackLine at_ period) := by
  unfold State.trackLine
  repeat' first
    | ((conv => enter [3, 21]); refine .upd (fun p hp => by cases p <;> first | exact absurd ((Part.mem_bits ..).2 rfl) hp | dsimp only [Part.same]) ?_)
    | with_reducible exact .refl _ _
    | assumption
    | with_unfolding_all decide
    | with_reducible refine .ite ?_ ?_
    | with_reducible refine .ite_snd ?_ ?_
    | with_reducible apply Alters.step (enterHoldover_only ..)
    | with_reducible apply Alters.step (steer_only ..)
    | with_reducible refine .fold ?_ (fun _ _ => ?_)
    | split
    | refine .upd (fun p hp => by cases p <;> first | exact absurd ((Part.mem_bits ..).2 rfl) hp | dsimp only [Part.same]) ?_

theorem agreeLine_only (s : State) (period : Nat) :
    Alters [.sv] s (s.agreeLine period) := by
  unfold State.agreeLine
  extract_lets _ _ _ t
  have h : Alters [.sv] s t := .ite (clockFree_only ..) (.refl ..)
  clear_value t
  exact .upd (fun p hp => by cases p <;> first | exact absurd ((Part.mem_bits ..).2 rfl) hp | rfl) h

theorem refLineStart_only (s : State) (at_ : Nat) :
    Alters [.sv, .grizzly, .regs, .twin, .fm, .free] s (s.refLineStart at_) := by
  unfold State.refLineStart
  repeat' first
    | ((conv => enter [3, 21]); refine .upd (fun p hp => by cases p <;> first | exact absurd ((Part.mem_bits ..).2 rfl) hp | dsimp only [Part.same]) ?_)
    | with_reducible exact .refl _ _
    | assumption
    | with_unfolding_all decide
    | with_reducible refine .ite ?_ ?_
    | with_reducible refine .ite_snd ?_ ?_
    | with_reducible apply Alters.step (agreeLine_only ..)
    | with_reducible apply Alters.step (trackLine_only ..)
    | with_reducible refine .fold ?_ (fun _ _ => ?_)
    | split
    | refine .upd (fun p hp => by cases p <;> first | exact absurd ((Part.mem_bits ..).2 rfl) hp | dsimp only [Part.same]) ?_

theorem jumpTo_only (s : State) (m : FrameMeasure) (bin frame : Nat) :
    Alters [.sv] s (s.jumpTo m bin frame) := by
  unfold State.jumpTo
  repeat' first
    | ((conv => enter [3, 21]); refine .upd (fun p hp => by cases p <;> first | exact absurd ((Part.mem_bits ..).2 rfl) hp | dsimp only [Part.same]) ?_)
    | with_reducible exact .refl _ _
    | assumption
    | with_unfolding_all decide
    | with_reducible refine .ite ?_ ?_
    | with_reducible refine .ite_snd ?_ ?_
    | with_reducible refine .fold ?_ (fun _ _ => ?_)
    | split
    | refine .upd (fun p hp => by cases p <;> first | exact absurd ((Part.mem_bits ..).2 rfl) hp | dsimp only [Part.same]) ?_

theorem lockRaster_only (s : State) (m : FrameMeasure) :
    Alters [.sv, .grizzly, .regs, .fm] s (s.lockRaster m) := by
  unfold State.lockRaster
  repeat' first
    | with_reducible exact .refl _ _
    | assumption
    | with_unfolding_all decide
    | with_reducible refine .ite ?_ ?_
    | with_reducible refine .ite_snd ?_ ?_
    | with_reducible apply Alters.step (jumpTo_only ..)
    | with_reducible apply Alters.step (setRaster_only ..)
    | with_reducible refine .fold ?_ (fun _ _ => ?_)
    | split

theorem relock_only (s : State) (m : FrameMeasure) (bin stretched : Nat) :
    Alters [.modes, .sv, .links, .xc, .seams, .grizzly, .regs, .fm] s (s.relock m bin stretched) := by
  unfold State.relock
  repeat' first
    | ((conv => enter [3, 21]); refine .upd (fun p hp => by cases p <;> first | exact absurd ((Part.mem_bits ..).2 rfl) hp | dsimp only [Part.same]) ?_)
    | with_reducible exact .refl _ _
    | assumption
    | with_unfolding_all decide
    | with_reducible refine .ite ?_ ?_
    | with_reducible refine .ite_snd ?_ ?_
    | with_reducible apply Alters.step (clockFree_only ..)
    | with_reducible apply Alters.step (jumpTo_only ..)
    | with_reducible apply Alters.step (setRaster_only ..)
    | with_reducible apply Alters.step (govern_only ..)
    | with_reducible refine .fold ?_ (fun _ _ => ?_)
    | split
    | refine .upd (fun p hp => by cases p <;> first | exact absurd ((Part.mem_bits ..).2 rfl) hp | dsimp only [Part.same]) ?_

theorem refFrame_only (s : State) (m : FrameMeasure) (stretched : Nat) :
    Alters [.modes, .sv, .links, .xc, .seams, .grizzly, .regs, .fm] s (s.refFrame m stretched) := by
  unfold State.refFrame
  repeat' first
    | ((conv => enter [3, 21]); refine .upd (fun p hp => by cases p <;> first | exact absurd ((Part.mem_bits ..).2 rfl) hp | dsimp only [Part.same]) ?_)
    | with_reducible exact .refl _ _
    | assumption
    | with_unfolding_all decide
    | with_reducible refine .ite ?_ ?_
    | with_reducible refine .ite_snd ?_ ?_
    | with_reducible apply Alters.step (event_only ..)
    | with_reducible apply Alters.step (lockRaster_only ..)
    | with_reducible apply Alters.step (relock_only ..)
    | with_reducible refine .fold ?_ (fun _ _ => ?_)
    | split
    | refine .upd (fun p hp => by cases p <;> first | exact absurd ((Part.mem_bits ..).2 rfl) hp | dsimp only [Part.same]) ?_

theorem stepTime_only (s : State) (t : Nat) :
    Alters [.sv, .grizzly, .regs, .fm] s (s.stepTime t) := by
  unfold State.stepTime
  repeat' first
    | ((conv => enter [3, 21]); refine .upd (fun p hp => by cases p <;> first | exact absurd ((Part.mem_bits ..).2 rfl) hp | dsimp only [Part.same]) ?_)
    | with_reducible exact .refl _ _
    | assumption
    | with_unfolding_all decide
    | with_reducible refine .ite ?_ ?_
    | with_reducible refine .ite_snd ?_ ?_
    | with_reducible apply Alters.step (event_only ..)
    | with_reducible refine .fold ?_ (fun _ _ => ?_)
    | split
    | refine .upd (fun p hp => by cases p <;> first | exact absurd ((Part.mem_bits ..).2 rfl) hp | dsimp only [Part.same]) ?_

theorem setTime_only (s : State) (v : Nat) :
    Alters [.sv, .grizzly, .regs, .fm] s (s.setTime v).2 := by
  unfold State.setTime
  dsimp only [taken, refuse]
  repeat' first
    | ((conv => enter [3, 21]); refine .upd (fun p hp => by cases p <;> first | exact absurd ((Part.mem_bits ..).2 rfl) hp | dsimp only [Part.same]) ?_)
    | with_reducible exact .refl _ _
    | assumption
    | with_unfolding_all decide
    | with_reducible refine .ite ?_ ?_
    | with_reducible refine .ite_snd ?_ ?_
    | with_reducible apply Alters.step (stepTime_only ..)
    | with_reducible refine .fold ?_ (fun _ _ => ?_)
    | split
    | refine .upd (fun p hp => by cases p <;> first | exact absurd ((Part.mem_bits ..).2 rfl) hp | dsimp only [Part.same]) ?_

theorem setTimeOfDay_only (s : State) (v : Nat) :
    Alters [.sv] s (s.setTimeOfDay v).2 := by
  unfold State.setTimeOfDay
  dsimp only [taken, refuse]
  repeat' first
    | ((conv => enter [3, 21]); refine .upd (fun p hp => by cases p <;> first | exact absurd ((Part.mem_bits ..).2 rfl) hp | dsimp only [Part.same]) ?_)
    | with_reducible exact .refl _ _
    | assumption
    | with_unfolding_all decide
    | with_reducible refine .ite ?_ ?_
    | with_reducible refine .ite_snd ?_ ?_
    | with_reducible refine .fold ?_ (fun _ _ => ?_)
    | split
    | refine .upd (fun p hp => by cases p <;> first | exact absurd ((Part.mem_bits ..).2 rfl) hp | dsimp only [Part.same]) ?_

theorem correctTime_only (s : State) (target : Nat) :
    Alters [.sv, .grizzly, .regs, .fm] s (s.correctTime target) := by
  unfold State.correctTime
  repeat' first
    | ((conv => enter [3, 21]); refine .upd (fun p hp => by cases p <;> first | exact absurd ((Part.mem_bits ..).2 rfl) hp | dsimp only [Part.same]) ?_)
    | with_reducible exact .refl _ _
    | assumption
    | with_unfolding_all decide
    | with_reducible refine .ite ?_ ?_
    | with_reducible refine .ite_snd ?_ ?_
    | with_reducible apply Alters.step (stepTime_only ..)
    | with_reducible refine .fold ?_ (fun _ _ => ?_)
    | split
    | refine .upd (fun p hp => by cases p <;> first | exact absurd ((Part.mem_bits ..).2 rfl) hp | dsimp only [Part.same]) ?_

theorem notePpsError_only (s : State) (target : Nat) :
    Alters [.sv] s (s.notePpsError target) := by
  unfold State.notePpsError
  repeat' first
    | ((conv => enter [3, 21]); refine .upd (fun p hp => by cases p <;> first | exact absurd ((Part.mem_bits ..).2 rfl) hp | dsimp only [Part.same]) ?_)
    | with_reducible exact .refl _ _
    | assumption
    | with_unfolding_all decide
    | with_reducible refine .ite ?_ ?_
    | with_reducible refine .ite_snd ?_ ?_
    | with_reducible refine .fold ?_ (fun _ _ => ?_)
    | split
    | refine .upd (fun p hp => by cases p <;> first | exact absurd ((Part.mem_bits ..).2 rfl) hp | dsimp only [Part.same]) ?_

theorem acceptPps_only (s : State) (target : Nat) :
    Alters [.sv, .grizzly, .regs, .fm] s (s.acceptPps target) := by
  unfold State.acceptPps
  repeat' first
    | ((conv => enter [3, 21]); refine .upd (fun p hp => by cases p <;> first | exact absurd ((Part.mem_bits ..).2 rfl) hp | dsimp only [Part.same]) ?_)
    | with_reducible exact .refl _ _
    | assumption
    | with_unfolding_all decide
    | with_reducible refine .ite ?_ ?_
    | with_reducible refine .ite_snd ?_ ?_
    | with_reducible apply Alters.step (notePpsError_only ..)
    | with_reducible apply Alters.step (correctTime_only ..)
    | with_reducible apply Alters.step (setTimeState_only ..)
    | with_reducible refine .fold ?_ (fun _ _ => ?_)
    | split
    | refine .upd (fun p hp => by cases p <;> first | exact absurd ((Part.mem_bits ..).2 rfl) hp | dsimp only [Part.same]) ?_

theorem disciplinePps_only (s : State) :
    Alters [.sv, .grizzly, .regs, .fm] s (s.disciplinePps) := by
  unfold State.disciplinePps
  repeat' first
    | ((conv => enter [3, 21]); refine .upd (fun p hp => by cases p <;> first | exact absurd ((Part.mem_bits ..).2 rfl) hp | dsimp only [Part.same]) ?_)
    | with_reducible exact .refl _ _
    | assumption
    | with_unfolding_all decide
    | with_reducible refine .ite ?_ ?_
    | with_reducible refine .ite_snd ?_ ?_
    | with_reducible apply Alters.step (notePpsError_only ..)
    | with_reducible apply Alters.step (correctTime_only ..)
    | with_reducible apply Alters.step (acceptPps_only ..)
    | with_reducible refine .fold ?_ (fun _ _ => ?_)
    | split
    | refine .upd (fun p hp => by cases p <;> first | exact absurd ((Part.mem_bits ..).2 rfl) hp | dsimp only [Part.same]) ?_

theorem ppsEdge_only (s : State) :
    Alters [.sv, .grizzly, .regs, .fm] s (s.ppsEdge) := by
  unfold State.ppsEdge
  repeat' first
    | ((conv => enter [3, 21]); refine .upd (fun p hp => by cases p <;> first | exact absurd ((Part.mem_bits ..).2 rfl) hp | dsimp only [Part.same]) ?_)
    | with_reducible exact .refl _ _
    | assumption
    | with_unfolding_all decide
    | with_reducible refine .ite ?_ ?_
    | with_reducible refine .ite_snd ?_ ?_
    | with_reducible apply Alters.step (notePpsError_only ..)
    | with_reducible apply Alters.step (correctTime_only ..)
    | with_reducible apply Alters.step (disciplinePps_only ..)
    | with_reducible refine .fold ?_ (fun _ _ => ?_)
    | split
    | refine .upd (fun p hp => by cases p <;> first | exact absurd ((Part.mem_bits ..).2 rfl) hp | dsimp only [Part.same]) ?_

theorem setPpsOut_only (s : State) (level : Bool) :
    Alters [.power, .sent] s (s.setPpsOut level) := by
  unfold State.setPpsOut
  repeat' first
    | ((conv => enter [3, 21]); refine .upd (fun p hp => by cases p <;> first | exact absurd ((Part.mem_bits ..).2 rfl) hp | dsimp only [Part.same]) ?_)
    | with_reducible exact .refl _ _
    | assumption
    | with_unfolding_all decide
    | with_reducible refine .ite ?_ ?_
    | with_reducible refine .ite_snd ?_ ?_
    | with_reducible apply Alters.step (send_only ..)
    | with_reducible refine .fold ?_ (fun _ _ => ?_)
    | split
    | refine .upd (fun p hp => by cases p <;> first | exact absurd ((Part.mem_bits ..).2 rfl) hp | dsimp only [Part.same]) ?_

theorem pumpControl_only (s : State) (n : Nat) :
    Alters [.links] s (s.pumpControl n) := by
  unfold State.pumpControl
  repeat' first
    | with_reducible exact .refl _ _
    | assumption
    | with_unfolding_all decide
    | with_reducible refine .ite ?_ ?_
    | with_reducible refine .ite_snd ?_ ?_
    | with_reducible apply Alters.step (onLink_only ..)
    | with_reducible refine .fold ?_ (fun _ _ => ?_)
    | split

theorem queueConfig_only (s : State) (n : Nat) :
    Alters [.links] s (s.queueConfig n) := by
  unfold State.queueConfig
  repeat' first
    | with_reducible exact .refl _ _
    | assumption
    | with_unfolding_all decide
    | with_reducible refine .ite ?_ ?_
    | with_reducible refine .ite_snd ?_ ?_
    | with_reducible apply Alters.step (onLink_only ..)
    | with_reducible apply Alters.step (pumpControl_only ..)
    | with_reducible refine .fold ?_ (fun _ _ => ?_)
    | split

theorem bringUpConfig_only (s : State) (n : Nat) :
    Alters [.links] s (s.bringUpConfig n) := by
  unfold State.bringUpConfig
  repeat' first
    | with_reducible exact .refl _ _
    | assumption
    | with_unfolding_all decide
    | with_reducible refine .ite ?_ ?_
    | with_reducible refine .ite_snd ?_ ?_
    | with_reducible apply Alters.step (pumpControl_only ..)
    | with_reducible apply Alters.step (onLink_only ..)
    | with_reducible refine .fold ?_ (fun _ _ => ?_)
    | split

theorem endMessage_only (s : State) (n : Nat) (acked : Bool) :
    Alters [.links] s (s.endMessage n acked) := by
  unfold State.endMessage
  repeat' first
    | with_reducible exact .refl _ _
    | assumption
    | with_unfolding_all decide
    | with_reducible refine .ite ?_ ?_
    | with_reducible refine .ite_snd ?_ ?_
    | with_reducible apply Alters.step (onLink_only ..)
    | with_reducible apply Alters.step (pumpControl_only ..)
    | with_reducible refine .fold ?_ (fun _ _ => ?_)
    | split

theorem takeAck_only (s : State) (n : Nat) (ack : Bool) :
    Alters [.links] s (s.takeAck n ack) := by
  unfold State.takeAck
  repeat' first
    | with_reducible exact .refl _ _
    | assumption
    | with_unfolding_all decide
    | with_reducible refine .ite ?_ ?_
    | with_reducible refine .ite_snd ?_ ?_
    | with_reducible apply Alters.step (onLink_only ..)
    | with_reducible apply Alters.step (endMessage_only ..)
    | with_reducible refine .fold ?_ (fun _ _ => ?_)
    | split

theorem queueHost_only (s : State) (n : Nat) (data : List Byte) :
    Alters [.links] s (s.queueHost n data).2 := by
  unfold State.queueHost
  dsimp only [taken, refuse]
  repeat' first
    | with_reducible exact .refl _ _
    | assumption
    | with_unfolding_all decide
    | with_reducible refine .ite ?_ ?_
    | with_reducible refine .ite_snd ?_ ?_
    | with_reducible apply Alters.step (onLink_only ..)
    | with_reducible apply Alters.step (pumpControl_only ..)
    | with_reducible refine .fold ?_ (fun _ _ => ?_)
    | split

theorem trainFail_only (s : State) (l : LinkId) (from_ to_ cause : Nat) :
    Alters [.sv, .links, .xc, .seams, .grizzly, .regs, .fm] s (s.trainFail l from_ to_ cause) := by
  unfold State.trainFail
  repeat' first
    | with_reducible exact .refl _ _
    | assumption
    | with_unfolding_all decide
    | with_reducible refine .ite ?_ ?_
    | with_reducible refine .ite_snd ?_ ?_
    | with_reducible apply Alters.step (onRx_only ..)
    | with_reducible apply Alters.step (rxSearch_only ..)
    | with_reducible apply Alters.step (rxGo_only ..)
    | with_reducible refine .fold ?_ (fun _ _ => ?_)
    | split

theorem signalLost_only (s : State) (l : LinkId) :
    Alters [.sv, .links, .xc, .seams, .grizzly, .regs, .fm] s (s.signalLost l) := by
  unfold State.signalLost
  repeat' first
    | with_reducible exact .refl _ _
    | assumption
    | with_unfolding_all decide
    | with_reducible refine .ite ?_ ?_
    | with_reducible refine .ite_snd ?_ ?_
    | with_reducible apply Alters.step (onRx_only ..)
    | with_reducible apply Alters.step (rxSearch_only ..)
    | with_reducible refine .fold ?_ (fun _ _ => ?_)
    | split

theorem pushSamples_only (s : State) (n base : Nat) (decoded : Bool) (xs : List Samp) :
    Alters [.seams] s (s.pushSamples n base decoded xs) := by
  unfold State.pushSamples
  repeat' first
    | with_reducible exact .refl _ _
    | assumption
    | with_unfolding_all decide
    | with_reducible refine .ite ?_ ?_
    | with_reducible refine .ite_snd ?_ ?_
    | with_reducible apply Alters.step (onSeam_only ..)
    | with_reducible refine .fold ?_ (fun _ _ => ?_)
    | split

theorem takeSamples_only (s : State) (n arrival : Nat) (contiguous : Bool) (f : Frame) :
    Alters [.links, .seams] s (s.takeSamples n arrival contiguous f) := by
  unfold State.takeSamples
  repeat' first
    | with_reducible exact .refl _ _
    | assumption
    | with_unfolding_all decide
    | with_reducible refine .ite ?_ ?_
    | with_reducible refine .ite_snd ?_ ?_
    | with_reducible apply Alters.step (onLink_only ..)
    | with_reducible apply Alters.step (pushSamples_only ..)
    | with_reducible refine .fold ?_ (fun _ _ => ?_)
    | split

theorem tryUp_only (s : State) (l : LinkId) :
    Alters [.links, .xc, .grizzly, .regs, .fm] s (s.tryUp l) := by
  unfold State.tryUp
  repeat' first
    | with_reducible exact .refl _ _
    | assumption
    | with_unfolding_all decide
    | with_reducible refine .ite ?_ ?_
    | with_reducible refine .ite_snd ?_ ?_
    | with_reducible apply Alters.step (onRx_only ..)
    | with_reducible apply Alters.step (event_only ..)
    | with_reducible refine .fold ?_ (fun _ _ => ?_)
    | split

theorem badFrame_only (s : State) (l : LinkId) (arrival : Nat) :
    Alters [.links, .xc, .seams] s (s.badFrame l arrival) := by
  unfold State.badFrame
  repeat' first
    | with_reducible exact .refl _ _
    | assumption
    | with_unfolding_all decide
    | with_reducible refine .ite ?_ ?_
    | with_reducible refine .ite_snd ?_ ?_
    | with_reducible apply Alters.step (pushSamples_only ..)
    | with_reducible apply Alters.step (onRx_only ..)
    | with_reducible refine .fold ?_ (fun _ _ => ?_)
    | split

theorem frameInFrame_only (s : State) (l : LinkId) (inverted : Bool) (ui : Nat) (f : Frame) :
    Alters [.links, .xc] s (s.frameInFrame l inverted ui f) := by
  unfold State.frameInFrame
  repeat' first
    | with_reducible exact .refl _ _
    | assumption
    | with_unfolding_all decide
    | with_reducible refine .ite ?_ ?_
    | with_reducible refine .ite_snd ?_ ?_
    | with_reducible apply Alters.step (onRx_only ..)
    | with_reducible refine .fold ?_ (fun _ _ => ?_)
    | split

theorem takeStatus_only (s : State) (l : LinkId) (f : Frame) :
    Alters [.links, .xc, .grizzly, .regs, .fm] s (s.takeStatus l f) := by
  unfold State.takeStatus
  repeat' first
    | with_reducible exact .refl _ _
    | assumption
    | with_unfolding_all decide
    | with_reducible refine .ite ?_ ?_
    | with_reducible refine .ite_snd ?_ ?_
    | with_reducible apply Alters.step (onLink_only ..)
    | with_reducible apply Alters.step (takeAck_only ..)
    | with_reducible apply Alters.step (onRx_only ..)
    | with_reducible apply Alters.step (event_only ..)
    | with_reducible refine .fold ?_ (fun _ _ => ?_)
    | split

theorem frameTrained_only (s : State) (l : LinkId) (arrival : Nat) (f : Frame) :
    Alters [.sv, .links, .xc, .seams, .grizzly, .regs, .fm] s (s.frameTrained l arrival f) := by
  unfold State.frameTrained
  repeat' first
    | with_reducible exact .refl _ _
    | assumption
    | with_unfolding_all decide
    | with_reducible refine .ite ?_ ?_
    | with_reducible refine .ite_snd ?_ ?_
    | with_reducible apply Alters.step (bringUpConfig_only ..)
    | with_reducible apply Alters.step (onLink_only ..)
    | with_reducible apply Alters.step (onRx_only ..)
    | with_reducible apply Alters.step (takeSamples_only ..)
    | with_reducible apply Alters.step (takeStatus_only ..)
    | with_reducible apply Alters.step (tryUp_only ..)
    | with_reducible apply Alters.step (rxGo_only ..)
    | with_reducible refine .fold ?_ (fun _ _ => ?_)
    | split

theorem frameInTest_only (s : State) (n : Fin 48) (x : RxFrame) (d : Option (Nat × Frame)) :
    Alters [.links, .xc, .grizzly, .regs, .fm] s (s.frameInTest n x d) := by
  unfold State.frameInTest
  repeat' first
    | with_reducible exact .refl _ _
    | assumption
    | with_unfolding_all decide
    | with_reducible refine .ite ?_ ?_
    | with_reducible refine .ite_snd ?_ ?_
    | with_reducible apply Alters.step (onLink_only ..)
    | with_reducible apply Alters.step (pumpControl_only ..)
    | with_reducible apply Alters.step (takeStatus_only ..)
    | with_reducible refine .fold ?_ (fun _ _ => ?_)
    | split

theorem huntFrame_only (s : State) (l : LinkId) (x : RxFrame) :
    Alters [.links, .xc, .seams] s (s.huntFrame l x) := by
  unfold State.huntFrame
  dsimp only
  generalize List.findSome? _ _ = o
  split
  · exact (frameInFrame_only ..).next (onRx_only ..).mono
  · exact (badFrame_only ..).mono

theorem lockedFrame_only (s : State) (l : LinkId) (x : RxFrame) :
    Alters [.sv, .links, .xc, .seams, .grizzly, .regs, .fm] s (s.lockedFrame l x) := by
  unfold State.lockedFrame
  dsimp only
  have h (f : Link → Link) (o : Option (Nat × Frame)) : Alters [.sv, .links, .xc, .seams, .grizzly, .regs, .fm] s
      (match o with
        | some (e, d) => ((s.onRx l f).onRx l fun m => m.countDecoded e).frameTrained l x.arrival d
        | none => (s.onRx l f).badFrame l x.arrival) := by
    split
    · exact (frameTrained_only ..).next ((onRx_only ..).next (onRx_only ..).mono)
    · exact (badFrame_only ..).next (onRx_only ..).mono
  exact h _ _

theorem testFrame_only (s : State) (n : Fin 48) (x : RxFrame) :
    Alters [.links, .xc, .grizzly, .regs, .fm] s (s.testFrame n x) := by
  unfold State.testFrame
  dsimp only
  generalize decodeFrame _ _ _ _ = o
  generalize decodeFrame _ _ _ _ = q
  cases o with
  | some d => exact (frameInTest_only ..).mono
  | none =>
    cases q with
    | some d => exact (frameInTest_only ..).next (onLink_only ..).mono
    | none => exact (frameInTest_only ..).mono

theorem receiveFrame_only (s : State) (l : LinkId) (x : RxFrame) :
    Alters [.sv, .links, .xc, .seams, .grizzly, .regs, .fm] s (s.receiveFrame l x) := by
  unfold State.receiveFrame
  repeat' first
    | with_reducible exact .refl _ _
    | assumption
    | with_unfolding_all decide
    | with_reducible refine .ite ?_ ?_
    | with_reducible refine .ite_snd ?_ ?_
    | with_reducible apply Alters.step (onRx_only ..)
    | with_reducible apply Alters.step (huntFrame_only ..)
    | with_reducible apply Alters.step (testFrame_only ..)
    | with_reducible apply Alters.step (lockedFrame_only ..)
    | with_reducible refine .fold ?_ (fun _ _ => ?_)
    | split

theorem checkBits_only (s : State) (n : Nat) (bits : List Bool) :
    Alters [.links] s (s.checkBits n bits) := by
  unfold State.checkBits
  repeat' first
    | with_reducible exact .refl _ _
    | assumption
    | with_unfolding_all decide
    | with_reducible refine .ite ?_ ?_
    | with_reducible refine .ite_snd ?_ ?_
    | with_reducible apply Alters.step (onLink_only ..)
    | with_reducible refine .fold ?_ (fun _ _ => ?_)
    | split

theorem emitRun_only (s : State) (k : Nat) (copy : Copy) (a : Coord) (b : Nat) (frame : Bool) :
    Alters [.seams, .closing] s (s.emitRun k copy a b frame) := by
  unfold State.emitRun
  repeat' first
    | ((conv => enter [3, 21]); refine .upd (fun p hp => by cases p <;> first | exact absurd ((Part.mem_bits ..).2 rfl) hp | dsimp only [Part.same]) ?_)
    | with_reducible exact .refl _ _
    | assumption
    | with_unfolding_all decide
    | with_reducible refine .ite ?_ ?_
    | with_reducible refine .ite_snd ?_ ?_
    | with_reducible apply Alters.step (onSeam_only ..)
    | with_reducible refine .fold ?_ (fun _ _ => ?_)
    | split
    | refine .upd (fun p hp => by cases p <;> first | exact absurd ((Part.mem_bits ..).2 rfl) hp | dsimp only [Part.same]) ?_

theorem openNext_only (s : State) (k : Nat) (copy : Copy) :
    Alters [.seams] s (s.openNext k copy) := by
  unfold State.openNext
  repeat' first
    | with_reducible exact .refl _ _
    | assumption
    | with_unfolding_all decide
    | with_reducible refine .ite ?_ ?_
    | with_reducible refine .ite_snd ?_ ?_
    | with_reducible apply Alters.step (onSeam_only ..)
    | with_reducible refine .fold ?_ (fun _ _ => ?_)
    | split

theorem openWindow_only (s : State) (k : Nat) :
    Alters [.seams] s (s.openWindow k) := by
  unfold State.openWindow
  repeat' first
    | with_reducible exact .refl _ _
    | assumption
    | with_unfolding_all decide
    | with_reducible refine .ite ?_ ?_
    | with_reducible refine .ite_snd ?_ ?_
    | with_reducible apply Alters.step (onSeam_only ..)
    | with_reducible refine .fold ?_ (fun _ _ => ?_)
    | split

theorem cutFrame_only (s : State) (k : Nat) (a : Coord) (last : Bool) :
    Alters [.seams, .closing] s (s.cutFrame k a last) := by
  unfold State.cutFrame
  repeat' first
    | with_reducible exact .refl _ _
    | assumption
    | with_unfolding_all decide
    | with_reducible refine .ite ?_ ?_
    | with_reducible refine .ite_snd ?_ ?_
    | with_reducible apply Alters.step (openNext_only ..)
    | with_reducible apply Alters.step (onSeam_only ..)
    | with_reducible apply Alters.step (emitRun_only ..)
    | with_reducible refine .fold ?_ (fun _ _ => ?_)
    | split

theorem cutCopy_only (s : State) (k : Nat) (copy : Copy) :
    Alters [.seams, .closing] s (s.cutCopy k copy) := by
  unfold State.cutCopy
  repeat' first
    | with_reducible exact .refl _ _
    | assumption
    | with_unfolding_all decide
    | with_reducible refine .ite ?_ ?_
    | with_reducible refine .ite_snd ?_ ?_
    | with_reducible apply Alters.step (openNext_only ..)
    | with_reducible apply Alters.step (cutFrame_only ..)
    | with_reducible apply Alters.step (emitRun_only ..)
    | with_reducible refine .fold ?_ (fun _ _ => ?_)
    | split

theorem ingotClose_only (s : State) (k : Nat) (copy : Copy) :
    Alters [.seams, .closing] s (s.ingotClose k copy) := by
  unfold State.ingotClose
  repeat' first
    | with_reducible exact .refl _ _
    | assumption
    | with_unfolding_all decide
    | with_reducible refine .ite ?_ ?_
    | with_reducible refine .ite_snd ?_ ?_
    | with_reducible apply Alters.step (cutCopy_only ..)
    | with_reducible apply Alters.step (cutFrame_only ..)
    | with_reducible refine .fold ?_ (fun _ _ => ?_)
    | split

theorem seamJoin_only (s : State) (k : Nat) :
    Alters [.seams, .closing] s (s.seamJoin k) := by
  unfold State.seamJoin
  repeat' first
    | with_reducible exact .refl _ _
    | assumption
    | with_unfolding_all decide
    | with_reducible refine .ite ?_ ?_
    | with_reducible refine .ite_snd ?_ ?_
    | with_reducible apply Alters.step (onSeam_only ..)
    | with_reducible apply Alters.step (cutCopy_only ..)
    | with_reducible refine .fold ?_ (fun _ _ => ?_)
    | split

theorem numberOne_only (s : State) (i : Ingot) :
    Alters [.streams, .shaft, .smelter] s (s.numberOne i) := by
  unfold State.numberOne
  repeat' first
    | ((conv => enter [3, 21]); refine .upd (fun p hp => by cases p <;> first | exact absurd ((Part.mem_bits ..).2 rfl) hp | dsimp only [Part.same]) ?_)
    | with_reducible exact .refl _ _
    | assumption
    | with_unfolding_all decide
    | with_reducible refine .ite ?_ ?_
    | with_reducible refine .ite_snd ?_ ?_
    | with_reducible apply Alters.step (onStream_only ..)
    | with_reducible apply Alters.step (onSegment_only ..)
    | with_reducible refine .fold ?_ (fun _ _ => ?_)
    | split
    | refine .upd (fun p hp => by cases p <;> first | exact absurd ((Part.mem_bits ..).2 rfl) hp | dsimp only [Part.same]) ?_

theorem numberClosed_only (s : State) :
    Alters [.closing, .streams, .shaft, .smelter] s (s.numberClosed) := by
  unfold State.numberClosed
  repeat' first
    | ((conv => enter [3, 21]); refine .upd (fun p hp => by cases p <;> first | exact absurd ((Part.mem_bits ..).2 rfl) hp | dsimp only [Part.same]) ?_)
    | with_reducible exact .refl _ _
    | assumption
    | with_unfolding_all decide
    | with_reducible refine .ite ?_ ?_
    | with_reducible refine .ite_snd ?_ ?_
    | with_reducible apply Alters.step (numberOne_only ..)
    | with_reducible refine .fold ?_ (fun _ _ => ?_)
    | split
    | refine .upd (fun p hp => by cases p <;> first | exact absurd ((Part.mem_bits ..).2 rfl) hp | dsimp only [Part.same]) ?_

theorem emitControl_only (s : State) (i : Ingot) (streams : List Nat) (segment : Option Nat) :
    Alters [.closing] s (s.emitControl i streams segment) := by
  unfold State.emitControl
  repeat' first
    | ((conv => enter [3, 21]); refine .upd (fun p hp => by cases p <;> first | exact absurd ((Part.mem_bits ..).2 rfl) hp | dsimp only [Part.same]) ?_)
    | with_reducible exact .refl _ _
    | assumption
    | with_unfolding_all decide
    | with_reducible refine .ite ?_ ?_
    | with_reducible refine .ite_snd ?_ ?_
    | with_reducible refine .fold ?_ (fun _ _ => ?_)
    | split
    | refine .upd (fun p hp => by cases p <;> first | exact absurd ((Part.mem_bits ..).2 rfl) hp | dsimp only [Part.same]) ?_

theorem writeHeader_only (s : State) (g : Nat) :
    Alters [.shaft] s (s.writeHeader g) := by
  unfold State.writeHeader
  repeat' first
    | with_reducible exact .refl _ _
    | assumption
    | with_unfolding_all decide
    | with_reducible refine .ite ?_ ?_
    | with_reducible refine .ite_snd ?_ ?_
    | with_reducible apply Alters.step (onSegment_only ..)
    | with_reducible refine .fold ?_ (fun _ _ => ?_)
    | split

theorem writeHeaders_only (s : State) :
    Alters [.shaft] s (s.writeHeaders) := by
  exact .fold (.refl ..) fun u a => (writeHeader_only ..).mono

theorem closeSegment_only (s : State) (cause : Nat) (start : Coord) (end_ : Nat) :
    Alters [.seams, .shaft] s (s.closeSegment cause start end_) := by
  unfold State.closeSegment
  repeat' first
    | ((conv => enter [3, 21]); refine .upd (fun p hp => by cases p <;> first | exact absurd ((Part.mem_bits ..).2 rfl) hp | dsimp only [Part.same]) ?_)
    | with_reducible exact .refl _ _
    | assumption
    | with_unfolding_all decide
    | with_reducible refine .ite ?_ ?_
    | with_reducible refine .ite_snd ?_ ?_
    | with_reducible apply Alters.step (onSeam_only ..)
    | with_reducible apply Alters.step (onSegment_only ..)
    | with_reducible refine .fold ?_ (fun _ _ => ?_)
    | split
    | refine .upd (fun p hp => by cases p <;> first | exact absurd ((Part.mem_bits ..).2 rfl) hp | dsimp only [Part.same]) ?_

theorem cutWindows_only (s : State) (b : Nat) :
    Alters [.seams, .closing] s (s.cutWindows b) := by
  unfold State.cutWindows
  repeat' first
    | with_reducible exact .refl _ _
    | assumption
    | with_unfolding_all decide
    | with_reducible refine .ite ?_ ?_
    | with_reducible refine .ite_snd ?_ ?_
    | with_reducible apply Alters.step (openWindow_only ..)
    | with_reducible apply Alters.step (emitRun_only ..)
    | with_reducible refine .fold ?_ (fun _ _ => ?_)
    | split

theorem memoryClose_only (s : State) (g : Nat) (i : Ingot) :
    Alters [.seams, .closing, .shaft, .smelter] s (s.memoryClose g i) := by
  unfold State.memoryClose
  repeat' first
    | ((conv => enter [3, 21]); refine .upd (fun p hp => by cases p <;> first | exact absurd ((Part.mem_bits ..).2 rfl) hp | dsimp only [Part.same]) ?_)
    | with_reducible exact .refl _ _
    | assumption
    | with_unfolding_all decide
    | with_reducible refine .ite ?_ ?_
    | with_reducible refine .ite_snd ?_ ?_
    | with_reducible apply Alters.step (onSegment_only ..)
    | with_reducible apply Alters.step (closeSegment_only ..)
    | with_reducible refine .fold ?_ (fun _ _ => ?_)
    | split
    | refine .upd (fun p hp => by cases p <;> first | exact absurd ((Part.mem_bits ..).2 rfl) hp | dsimp only [Part.same]) ?_

theorem writeImage_only (s : State) (g : Nat) (i : Ingot) :
    Alters [.seams, .closing, .shaft, .smelter] s (s.writeImage g i) := by
  unfold State.writeImage
  dsimp only
  split
  · exact (memoryClose_only ..).mono
  · exact (onSegment_only ..).mono

theorem flushSome_only (s : State) (x) :
    Alters [.seams, .closing, .shaft, .smelter] s (s.flushSome x) := by
  induction x generalizing s with
  | zero => exact .refl ..
  | succ n ih =>
    unfold State.flushSome
    split
    · exact .refl ..
    · next i l _ =>
      have h : Alters [.smelter] s { s with smelter.windowWaiting := l } :=
        .set (fun p hp => by cases p <;> first | exact absurd ((Part.mem_bits ..).2 rfl) hp | rfl)
      generalize ({ s with smelter.windowWaiting := l } : State) = t at *
      refine .ite ?_ (.refl ..)
      dsimp only
      cases i.segment with
      | none => exact h.trans (ih t)
      | some g => exact h.trans (m := [.seams, .closing, .shaft, .smelter]) ((writeImage_only ..).trans (ih _))

theorem flushWindows_only (s : State) :
    Alters [.seams, .closing, .shaft, .smelter] s (s.flushWindows) := by
  exact (flushSome_only s _).trans (writeHeaders_only ..)

theorem armSegment_only (s : State) (g : Nat) :
    Alters [.seams, .closing, .shaft, .smelter] s (s.armSegment g) := by
  unfold State.armSegment
  repeat' first
    | ((conv => enter [3, 21]); refine .upd (fun p hp => by cases p <;> first | exact absurd ((Part.mem_bits ..).2 rfl) hp | dsimp only [Part.same]) ?_)
    | with_reducible exact .refl _ _
    | assumption
    | with_unfolding_all decide
    | with_reducible refine .ite ?_ ?_
    | with_reducible refine .ite_snd ?_ ?_
    | with_reducible apply Alters.step (onSegment_only ..)
    | with_reducible apply Alters.step (openWindow_only ..)
    | with_reducible refine .fold ?_ (fun _ _ => ?_)
    | split
    | refine .upd (fun p hp => by cases p <;> first | exact absurd ((Part.mem_bits ..).2 rfl) hp | dsimp only [Part.same]) ?_

theorem deadtime_only (s : State) (next : Nat) (segment : Option Nat) :
    Alters [.closing, .shaft] s (s.deadtime next segment) := by
  unfold State.deadtime
  repeat' first
    | ((conv => enter [3, 21]); refine .upd (fun p hp => by cases p <;> first | exact absurd ((Part.mem_bits ..).2 rfl) hp | dsimp only [Part.same]) ?_)
    | with_reducible exact .refl _ _
    | assumption
    | with_unfolding_all decide
    | with_reducible refine .ite ?_ ?_
    | with_reducible refine .ite_snd ?_ ?_
    | with_reducible apply Alters.step (emitControl_only ..)
    | with_reducible refine .fold ?_ (fun _ _ => ?_)
    | split
    | refine .upd (fun p hp => by cases p <;> first | exact absurd ((Part.mem_bits ..).2 rfl) hp | dsimp only [Part.same]) ?_

theorem rearm_only (s : State) (g : Nat) :
    Alters [.seams, .closing, .shaft, .grizzly, .smelter, .regs, .fm] s (s.rearm g) := by
  unfold State.rearm
  repeat' first
    | ((conv => enter [3, 21]); refine .upd (fun p hp => by cases p <;> first | exact absurd ((Part.mem_bits ..).2 rfl) hp | dsimp only [Part.same]) ?_)
    | with_reducible exact .refl _ _
    | assumption
    | with_unfolding_all decide
    | with_reducible refine .ite ?_ ?_
    | with_reducible refine .ite_snd ?_ ?_
    | with_reducible apply Alters.step (deadtime_only ..)
    | with_reducible apply Alters.step (notice_only ..)
    | with_reducible apply Alters.step (armSegment_only ..)
    | with_reducible refine .fold ?_ (fun _ _ => ?_)
    | split
    | refine .upd (fun p hp => by cases p <;> first | exact absurd ((Part.mem_bits ..).2 rfl) hp | dsimp only [Part.same]) ?_

theorem segmentRearm_only (s : State) :
    Alters [.seams, .closing, .shaft, .grizzly, .smelter, .regs, .fm] s (s.segmentRearm) := by
  unfold State.segmentRearm
  repeat' first
    | ((conv => enter [3, 21]); refine .upd (fun p hp => by cases p <;> first | exact absurd ((Part.mem_bits ..).2 rfl) hp | dsimp only [Part.same]) ?_)
    | with_reducible exact .refl _ _
    | assumption
    | with_unfolding_all decide
    | with_reducible refine .ite ?_ ?_
    | with_reducible refine .ite_snd ?_ ?_
    | with_reducible apply Alters.step (rearm_only ..)
    | with_reducible refine .fold ?_ (fun _ _ => ?_)
    | split
    | refine .upd (fun p hp => by cases p <;> first | exact absurd ((Part.mem_bits ..).2 rfl) hp | dsimp only [Part.same]) ?_

theorem segmentPostDone_only (s : State) :
    Alters [.seams, .closing, .shaft] s (s.segmentPostDone) := by
  unfold State.segmentPostDone
  repeat' first
    | with_reducible exact .refl _ _
    | assumption
    | with_unfolding_all decide
    | with_reducible refine .ite ?_ ?_
    | with_reducible refine .ite_snd ?_ ?_
    | with_reducible apply Alters.step (cutWindows_only ..)
    | with_reducible apply Alters.step (closeSegment_only ..)
    | with_reducible refine .fold ?_ (fun _ _ => ?_)
    | split

theorem segRelease_only (s : State) (g : Nat) :
    Alters [.shaft] s (s.segRelease g).2 := by
  unfold State.segRelease
  dsimp only [taken, refuse]
  repeat' first
    | ((conv => enter [3, 21]); refine .upd (fun p hp => by cases p <;> first | exact absurd ((Part.mem_bits ..).2 rfl) hp | dsimp only [Part.same]) ?_)
    | with_reducible exact .refl _ _
    | assumption
    | with_unfolding_all decide
    | with_reducible refine .ite ?_ ?_
    | with_reducible refine .ite_snd ?_ ?_
    | with_reducible apply Alters.step (onSegment_only ..)
    | with_reducible refine .fold ?_ (fun _ _ => ?_)
    | split
    | refine .upd (fun p hp => by cases p <;> first | exact absurd ((Part.mem_bits ..).2 rfl) hp | dsimp only [Part.same]) ?_

theorem discardSegments_only (s : State) :
    Alters [.closing, .shaft, .smelter] s (s.discardSegments) := by
  unfold State.discardSegments
  repeat' first
    | ((conv => enter [3, 21]); refine .upd (fun p hp => by cases p <;> first | exact absurd ((Part.mem_bits ..).2 rfl) hp | dsimp only [Part.same]) ?_)
    | with_reducible exact .refl _ _
    | assumption
    | with_unfolding_all decide
    | with_reducible refine .ite ?_ ?_
    | with_reducible refine .ite_snd ?_ ?_
    | with_reducible refine .fold ?_ (fun _ _ => ?_)
    | split
    | refine .upd (fun p hp => by cases p <;> first | exact absurd ((Part.mem_bits ..).2 rfl) hp | dsimp only [Part.same]) ?_

theorem splitWindows_only (s : State) :
    Alters [.shaft] s (s.splitWindows) := by
  unfold State.splitWindows
  repeat' first
    | ((conv => enter [3, 21]); refine .upd (fun p hp => by cases p <;> first | exact absurd ((Part.mem_bits ..).2 rfl) hp | dsimp only [Part.same]) ?_)
    | with_reducible exact .refl _ _
    | assumption
    | with_unfolding_all decide
    | with_reducible refine .ite ?_ ?_
    | with_reducible refine .ite_snd ?_ ?_
    | with_reducible refine .fold ?_ (fun _ _ => ?_)
    | split
    | refine .upd (fun p hp => by cases p <;> first | exact absurd ((Part.mem_bits ..).2 rfl) hp | dsimp only [Part.same]) ?_

theorem calStart_only (s : State) (mask : Nat) :
    Alters [.shaft] s (s.calStart mask).2 := by
  unfold State.calStart
  dsimp only [taken, refuse]
  repeat' first
    | ((conv => enter [3, 21]); refine .upd (fun p hp => by cases p <;> first | exact absurd ((Part.mem_bits ..).2 rfl) hp | dsimp only [Part.same]) ?_)
    | with_reducible exact .refl _ _
    | assumption
    | with_unfolding_all decide
    | with_reducible refine .ite ?_ ?_
    | with_reducible refine .ite_snd ?_ ?_
    | with_reducible refine .fold ?_ (fun _ _ => ?_)
    | split
    | refine .upd (fun p hp => by cases p <;> first | exact absurd ((Part.mem_bits ..).2 rfl) hp | dsimp only [Part.same]) ?_

theorem calLine_only (s : State) (hist : List (List Nat)) (j : Nat) :
    Alters [.shaft, .dict] s (s.calLine hist j) := by
  unfold State.calLine
  repeat' first
    | ((conv => enter [3, 21]); refine .upd (fun p hp => by cases p <;> first | exact absurd ((Part.mem_bits ..).2 rfl) hp | dsimp only [Part.same]) ?_)
    | with_reducible exact .refl _ _
    | assumption
    | with_unfolding_all decide
    | with_reducible refine .ite ?_ ?_
    | with_reducible refine .ite_snd ?_ ?_
    | with_reducible refine .fold ?_ (fun _ _ => ?_)
    | split
    | refine .upd (fun p hp => by cases p <;> first | exact absurd ((Part.mem_bits ..).2 rfl) hp | dsimp only [Part.same]) ?_

theorem calStop_only (s : State) :
    Alters [.shaft] s (s.calStop) := by
  unfold State.calStop
  repeat' first
    | ((conv => enter [3, 21]); refine .upd (fun p hp => by cases p <;> first | exact absurd ((Part.mem_bits ..).2 rfl) hp | dsimp only [Part.same]) ?_)
    | with_reducible exact .refl _ _
    | assumption
    | with_unfolding_all decide
    | with_reducible refine .ite ?_ ?_
    | with_reducible refine .ite_snd ?_ ?_
    | with_reducible refine .fold ?_ (fun _ _ => ?_)
    | split
    | refine .upd (fun p hp => by cases p <;> first | exact absurd ((Part.mem_bits ..).2 rfl) hp | dsimp only [Part.same]) ?_

theorem setCarry_only (s : State) (k : Nat) (copy : Copy) (c : Option Counts) :
    Alters [.smelter] s (s.setCarry k copy c) := by
  unfold State.setCarry
  repeat' first
    | ((conv => enter [3, 21]); refine .upd (fun p hp => by cases p <;> first | exact absurd ((Part.mem_bits ..).2 rfl) hp | dsimp only [Part.same]) ?_)
    | with_reducible exact .refl _ _
    | assumption
    | with_unfolding_all decide
    | with_reducible refine .ite ?_ ?_
    | with_reducible refine .ite_snd ?_ ?_
    | with_reducible refine .fold ?_ (fun _ _ => ?_)
    | split
    | refine .upd (fun p hp => by cases p <;> first | exact absurd ((Part.mem_bits ..).2 rfl) hp | dsimp only [Part.same]) ?_

theorem compressIngot_only (s : State) (i : Ingot) :
    Alters [.smelter] s (s.compressIngot i).2 := by
  unfold State.compressIngot
  repeat' first
    | ((conv => enter [3, 21]); refine .upd (fun p hp => by cases p <;> first | exact absurd ((Part.mem_bits ..).2 rfl) hp | dsimp only [Part.same]) ?_)
    | with_reducible exact .refl _ _
    | assumption
    | with_unfolding_all decide
    | with_reducible refine .ite ?_ ?_
    | with_reducible refine .ite_snd ?_ ?_
    | with_reducible apply Alters.step (setCarry_only ..)
    | with_reducible refine .fold ?_ (fun _ _ => ?_)
    | split
    | refine .upd (fun p hp => by cases p <;> first | exact absurd ((Part.mem_bits ..).2 rfl) hp | dsimp only [Part.same]) ?_

theorem sealIngot_only (s : State) (i : Ingot) :
    Alters [.smelter] s (s.sealIngot i).2 := by
  unfold State.sealIngot
  repeat' first
    | ((conv => enter [3, 21]); refine .upd (fun p hp => by cases p <;> first | exact absurd ((Part.mem_bits ..).2 rfl) hp | dsimp only [Part.same]) ?_)
    | with_reducible exact .refl _ _
    | assumption
    | with_unfolding_all decide
    | with_reducible refine .ite ?_ ?_
    | with_reducible refine .ite_snd ?_ ?_
    | with_reducible apply Alters.step (compressIngot_only ..)
    | with_reducible apply Alters.step (setCarry_only ..)
    | with_reducible refine .fold ?_ (fun _ _ => ?_)
    | split
    | refine .upd (fun p hp => by cases p <;> first | exact absurd ((Part.mem_bits ..).2 rfl) hp | dsimp only [Part.same]) ?_

theorem smelterSeal_only (s : State) (k : Nat) (copy : Copy) :
    Alters [.seams, .closing, .streams, .shaft, .smelter] s (s.smelterSeal k copy) := by
  unfold State.smelterSeal
  split
  · split
    · exact (sealIngot_only ..).trans (onStream_only ..)
    · exact .refl ..
  · split
    · next i _ =>
      refine .trans (t := { (s.sealIngot i).2 with smelter.windowWaiting := sealFirst k (s.sealIngot i).1 (s.sealIngot i).2.smelter.windowWaiting })
        (l := [.smelter]) ?_ (flushWindows_only ..)
      exact (sealIngot_only s i).trans (m := [.smelter]) (.set (fun p hp => by cases p <;> first | exact absurd ((Part.mem_bits ..).2 rfl) hp | rfl))
    · exact .refl ..

theorem setRole_only (s : State) (r : Nat) :
    Alters [.twin] s (s.setRole r) := by
  unfold State.setRole
  repeat' first
    | ((conv => enter [3, 21]); refine .upd (fun p hp => by cases p <;> first | exact absurd ((Part.mem_bits ..).2 rfl) hp | dsimp only [Part.same]) ?_)
    | with_reducible exact .refl _ _
    | assumption
    | with_unfolding_all decide
    | with_reducible refine .ite ?_ ?_
    | with_reducible refine .ite_snd ?_ ?_
    | with_reducible refine .fold ?_ (fun _ _ => ?_)
    | split
    | refine .upd (fun p hp => by cases p <;> first | exact absurd ((Part.mem_bits ..).2 rfl) hp | dsimp only [Part.same]) ?_

theorem xcSend_only (s : State) (r : XcRecord) :
    Alters [.regs, .twin, .sent] s (s.xcSend r) := by
  unfold State.xcSend
  repeat' first
    | ((conv => enter [3, 21]); refine .upd (fun p hp => by cases p <;> first | exact absurd ((Part.mem_bits ..).2 rfl) hp | dsimp only [Part.same]) ?_)
    | with_reducible exact .refl _ _
    | assumption
    | with_unfolding_all decide
    | with_reducible refine .ite ?_ ?_
    | with_reducible refine .ite_snd ?_ ?_
    | with_reducible apply Alters.step (passSkip_only ..)
    | with_reducible apply Alters.step (send_only ..)
    | with_reducible refine .fold ?_ (fun _ _ => ?_)
    | split
    | refine .upd (fun p hp => by cases p <;> first | exact absurd ((Part.mem_bits ..).2 rfl) hp | dsimp only [Part.same]) ?_

theorem exposePair_only (s : State) (cause : Nat) :
    Alters [.grizzly, .regs, .twin, .fm] s (s.exposePair cause) := by
  unfold State.exposePair
  repeat' first
    | ((conv => enter [3, 21]); refine .upd (fun p hp => by cases p <;> first | exact absurd ((Part.mem_bits ..).2 rfl) hp | dsimp only [Part.same]) ?_)
    | with_reducible exact .refl _ _
    | assumption
    | with_unfolding_all decide
    | with_reducible refine .ite ?_ ?_
    | with_reducible refine .ite_snd ?_ ?_
    | with_reducible apply Alters.step (event_only ..)
    | with_reducible refine .fold ?_ (fun _ _ => ?_)
    | split
    | refine .upd (fun p hp => by cases p <;> first | exact absurd ((Part.mem_bits ..).2 rfl) hp | dsimp only [Part.same]) ?_

theorem diverge_only (s : State) (cause : Nat) :
    Alters [.grizzly, .regs, .twin, .fm, .sent] s (s.diverge cause) := by
  unfold State.diverge
  repeat' first
    | with_reducible exact .refl _ _
    | assumption
    | with_unfolding_all decide
    | with_reducible refine .ite ?_ ?_
    | with_reducible refine .ite_snd ?_ ?_
    | with_reducible apply Alters.step (xcSend_only ..)
    | with_reducible apply Alters.step (exposePair_only ..)
    | with_reducible refine .fold ?_ (fun _ _ => ?_)
    | split

theorem ownHdr_only (s : State) (i : Ingot) :
    Alters [.grizzly, .regs, .twin, .fm, .sent] s (s.ownHdr i) := by
  unfold State.ownHdr
  repeat' first
    | ((conv => enter [3, 21]); refine .upd (fun p hp => by cases p <;> first | exact absurd ((Part.mem_bits ..).2 rfl) hp | dsimp only [Part.same]) ?_)
    | with_reducible exact .refl _ _
    | assumption
    | with_unfolding_all decide
    | with_reducible refine .ite ?_ ?_
    | with_reducible refine .ite_snd ?_ ?_
    | with_reducible apply Alters.step (xcSend_only ..)
    | with_reducible apply Alters.step (diverge_only ..)
    | with_reducible refine .fold ?_ (fun _ _ => ?_)
    | split
    | refine .upd (fun p hp => by cases p <;> first | exact absurd ((Part.mem_bits ..).2 rfl) hp | dsimp only [Part.same]) ?_

theorem peerHdr_only (s : State) (q seq : Nat) (crc : BitVec 16) :
    Alters [.grizzly, .regs, .twin, .fm, .sent] s (s.peerHdr q seq crc) := by
  unfold State.peerHdr
  repeat' first
    | ((conv => enter [3, 21]); refine .upd (fun p hp => by cases p <;> first | exact absurd ((Part.mem_bits ..).2 rfl) hp | dsimp only [Part.same]) ?_)
    | with_reducible exact .refl _ _
    | assumption
    | with_unfolding_all decide
    | with_reducible refine .ite ?_ ?_
    | with_reducible refine .ite_snd ?_ ?_
    | with_reducible apply Alters.step (diverge_only ..)
    | with_reducible refine .fold ?_ (fun _ _ => ?_)
    | split
    | refine .upd (fun p hp => by cases p <;> first | exact absurd ((Part.mem_bits ..).2 rfl) hp | dsimp only [Part.same]) ?_

theorem accessFault_only (s : State) (offset cause : Nat) (m : Master) :
    Alters [.regs] s (s.accessFault offset cause m) := by
  unfold State.accessFault
  repeat' first
    | ((conv => enter [3, 21]); refine .upd (fun p hp => by cases p <;> first | exact absurd ((Part.mem_bits ..).2 rfl) hp | dsimp only [Part.same]) ?_)
    | with_reducible exact .refl _ _
    | assumption
    | with_unfolding_all decide
    | with_reducible refine .ite ?_ ?_
    | with_reducible refine .ite_snd ?_ ?_
    | with_reducible refine .fold ?_ (fun _ _ => ?_)
    | split
    | refine .upd (fun p hp => by cases p <;> first | exact absurd ((Part.mem_bits ..).2 rfl) hp | dsimp only [Part.same]) ?_

theorem noteFloor_only (s : State) (val : Nat → Nat → Nat) (mode : Nat) :
    Alters [.grizzly] s (s.noteFloor val mode) := by
  unfold State.noteFloor
  repeat' first
    | ((conv => enter [3, 21]); refine .upd (fun p hp => by cases p <;> first | exact absurd ((Part.mem_bits ..).2 rfl) hp | dsimp only [Part.same]) ?_)
    | with_reducible exact .refl _ _
    | assumption
    | with_unfolding_all decide
    | with_reducible refine .ite ?_ ?_
    | with_reducible refine .ite_snd ?_ ?_
    | with_reducible refine .fold ?_ (fun _ _ => ?_)
    | split
    | refine .upd (fun p hp => by cases p <;> first | exact absurd ((Part.mem_bits ..).2 rfl) hp | dsimp only [Part.same]) ?_

theorem noteSpans_only (s : State) :
    Alters [.grizzly] s (s.noteSpans) := by
  unfold State.noteSpans
  repeat' first
    | ((conv => enter [3, 21]); refine .upd (fun p hp => by cases p <;> first | exact absurd ((Part.mem_bits ..).2 rfl) hp | dsimp only [Part.same]) ?_)
    | with_reducible exact .refl _ _
    | assumption
    | with_unfolding_all decide
    | with_reducible refine .ite ?_ ?_
    | with_reducible refine .ite_snd ?_ ?_
    | with_reducible refine .fold ?_ (fun _ _ => ?_)
    | split
    | refine .upd (fun p hp => by cases p <;> first | exact absurd ((Part.mem_bits ..).2 rfl) hp | dsimp only [Part.same]) ?_

theorem suspend_only (s : State) (cause : SuspendCause) (scope : BitVec 64) :
    Alters [.grizzly, .regs, .fm] s (s.suspend cause scope) := by
  unfold State.suspend
  repeat' first
    | ((conv => enter [3, 21]); refine .upd (fun p hp => by cases p <;> first | exact absurd ((Part.mem_bits ..).2 rfl) hp | dsimp only [Part.same]) ?_)
    | with_reducible exact .refl _ _
    | assumption
    | with_unfolding_all decide
    | with_reducible refine .ite ?_ ?_
    | with_reducible refine .ite_snd ?_ ?_
    | with_reducible apply Alters.step (event_only ..)
    | with_reducible refine .fold ?_ (fun _ _ => ?_)
    | split
    | refine .upd (fun p hp => by cases p <;> first | exact absurd ((Part.mem_bits ..).2 rfl) hp | dsimp only [Part.same]) ?_

theorem endSuspensions_only (s : State) (cause : SuspendCause) :
    Alters [.grizzly, .regs, .fm] s (s.endSuspensions cause) := by
  unfold State.endSuspensions
  repeat' first
    | ((conv => enter [3, 21]); refine .upd (fun p hp => by cases p <;> first | exact absurd ((Part.mem_bits ..).2 rfl) hp | dsimp only [Part.same]) ?_)
    | with_reducible exact .refl _ _
    | assumption
    | with_unfolding_all decide
    | with_reducible refine .ite ?_ ?_
    | with_reducible refine .ite_snd ?_ ?_
    | with_reducible apply Alters.step (event_only ..)
    | with_reducible refine .fold ?_ (fun _ _ => ?_)
    | split
    | refine .upd (fun p hp => by cases p <;> first | exact absurd ((Part.mem_bits ..).2 rfl) hp | dsimp only [Part.same]) ?_

theorem closeRun_only (s : State) (q : Nat) :
    Alters [.streams, .grizzly, .regs, .fm] s (s.closeRun q) := by
  unfold State.closeRun
  repeat' first
    | with_reducible exact .refl _ _
    | assumption
    | with_unfolding_all decide
    | with_reducible refine .ite ?_ ?_
    | with_reducible refine .ite_snd ?_ ?_
    | with_reducible apply Alters.step (onStream_only ..)
    | with_reducible apply Alters.step (notice_only ..)
    | with_reducible refine .fold ?_ (fun _ _ => ?_)
    | split

theorem dropIngot_only (s : State) (q : Nat) (i : Ingot) :
    Alters [.streams, .grizzly, .regs, .fm] s (s.dropIngot q i) := by
  unfold State.dropIngot
  repeat' first
    | ((conv => enter [3, 21]); refine .upd (fun p hp => by cases p <;> first | exact absurd ((Part.mem_bits ..).2 rfl) hp | dsimp only [Part.same]) ?_)
    | with_reducible exact .refl _ _
    | assumption
    | with_unfolding_all decide
    | with_reducible refine .ite ?_ ?_
    | with_reducible refine .ite_snd ?_ ?_
    | with_reducible apply Alters.step (onStream_only ..)
    | with_reducible apply Alters.step (notice_only ..)
    | with_reducible refine .fold ?_ (fun _ _ => ?_)
    | split
    | refine .upd (fun p hp => by cases p <;> first | exact absurd ((Part.mem_bits ..).2 rfl) hp | dsimp only [Part.same]) ?_

theorem project_only (s : State) (ahead : Nat) :
    Alters [.grizzly, .regs, .fm] s (s.project ahead) := by
  unfold State.project
  repeat' first
    | with_reducible exact .refl _ _
    | assumption
    | with_unfolding_all decide
    | with_reducible refine .ite ?_ ?_
    | with_reducible refine .ite_snd ?_ ?_
    | with_reducible apply Alters.step (conditionMet_only ..)
    | with_reducible apply Alters.step (suspend_only ..)
    | with_reducible refine .fold ?_ (fun _ _ => ?_)
    | split

theorem letIn_only (s : State) (q : Nat) (i : Ingot) :
    Alters [.streams, .grizzly, .regs, .fm] s (s.letIn q i) := by
  unfold State.letIn
  repeat' first
    | with_reducible exact .refl _ _
    | assumption
    | with_unfolding_all decide
    | with_reducible refine .ite ?_ ?_
    | with_reducible refine .ite_snd ?_ ?_
    | with_reducible apply Alters.step (onStream_only ..)
    | with_reducible apply Alters.step (closeRun_only ..)
    | with_reducible refine .fold ?_ (fun _ _ => ?_)
    | split

theorem admitFreely_only (s : State) (q : Nat) (i : Ingot) :
    Alters [.streams, .grizzly, .regs, .fm] s (s.admitFreely q i) := by
  unfold State.admitFreely
  repeat' first
    | with_reducible exact .refl _ _
    | assumption
    | with_unfolding_all decide
    | with_reducible refine .ite ?_ ?_
    | with_reducible refine .ite_snd ?_ ?_
    | with_reducible apply Alters.step (project_only ..)
    | with_reducible apply Alters.step (letIn_only ..)
    | with_reducible refine .fold ?_ (fun _ _ => ?_)
    | split

theorem controlDoor_only (s : State) (q : Nat) (i : Ingot) :
    Alters [.streams, .grizzly, .regs, .fm] s (s.controlDoor q i) := by
  unfold State.controlDoor
  repeat' first
    | with_reducible exact .refl _ _
    | assumption
    | with_unfolding_all decide
    | with_reducible refine .ite ?_ ?_
    | with_reducible refine .ite_snd ?_ ?_
    | with_reducible apply Alters.step (admitFreely_only ..)
    | with_reducible apply Alters.step (dropIngot_only ..)
    | with_reducible refine .fold ?_ (fun _ _ => ?_)
    | split

theorem countGap_only (s : State) (q : Nat) (cause : Nat) :
    Alters [.streams, .grizzly] s (s.countGap q cause) := by
  unfold State.countGap
  repeat' first
    | ((conv => enter [3, 21]); refine .upd (fun p hp => by cases p <;> first | exact absurd ((Part.mem_bits ..).2 rfl) hp | dsimp only [Part.same]) ?_)
    | with_reducible exact .refl _ _
    | assumption
    | with_unfolding_all decide
    | with_reducible refine .ite ?_ ?_
    | with_reducible refine .ite_snd ?_ ?_
    | with_reducible apply Alters.step (onStream_only ..)
    | with_reducible refine .fold ?_ (fun _ _ => ?_)
    | split
    | refine .upd (fun p hp => by cases p <;> first | exact absurd ((Part.mem_bits ..).2 rfl) hp | dsimp only [Part.same]) ?_

theorem replaceByGap_only (s : State) (q : Nat) (i : Ingot) (cause : Nat) :
    Alters [.streams, .grizzly, .regs, .fm] s (s.replaceByGap q i cause) := by
  unfold State.replaceByGap
  repeat' first
    | with_reducible exact .refl _ _
    | assumption
    | with_unfolding_all decide
    | with_reducible refine .ite ?_ ?_
    | with_reducible refine .ite_snd ?_ ?_
    | with_reducible apply Alters.step (countGap_only ..)
    | with_reducible apply Alters.step (controlDoor_only ..)
    | with_reducible refine .fold ?_ (fun _ _ => ?_)
    | split

theorem noteTooSmall_only (s : State) (q : Nat) :
    Alters [.grizzly, .hf, .regs, .fm] s (s.noteTooSmall q) := by
  unfold State.noteTooSmall
  repeat' first
    | ((conv => enter [3, 21]); refine .upd (fun p hp => by cases p <;> first | exact absurd ((Part.mem_bits ..).2 rfl) hp | dsimp only [Part.same]) ?_)
    | with_reducible exact .refl _ _
    | assumption
    | with_unfolding_all decide
    | with_reducible refine .ite ?_ ?_
    | with_reducible refine .ite_snd ?_ ?_
    | with_reducible apply Alters.step (onRing_only ..)
    | with_reducible apply Alters.step (event_only ..)
    | with_reducible refine .fold ?_ (fun _ _ => ?_)
    | split
    | refine .upd (fun p hp => by cases p <;> first | exact absurd ((Part.mem_bits ..).2 rfl) hp | dsimp only [Part.same]) ?_

theorem dataDoor_only (s : State) (q : Nat) (i : Ingot) :
    Alters [.streams, .grizzly, .hf, .regs, .fm] s (s.dataDoor q i) := by
  unfold State.dataDoor
  repeat' first
    | with_reducible exact .refl _ _
    | assumption
    | with_unfolding_all decide
    | with_reducible refine .ite ?_ ?_
    | with_reducible refine .ite_snd ?_ ?_
    | with_reducible apply Alters.step (noteTooSmall_only ..)
    | with_reducible apply Alters.step (replaceByGap_only ..)
    | with_reducible apply Alters.step (admitFreely_only ..)
    | with_reducible apply Alters.step (letIn_only ..)
    | with_reducible refine .fold ?_ (fun _ _ => ?_)
    | split

theorem sendDoor_only (s : State) (q seq : Nat) (kept : Bool) :
    Alters [.regs, .twin, .sent] s (s.sendDoor q seq kept) := by
  unfold State.sendDoor
  repeat' first
    | with_reducible exact .refl _ _
    | assumption
    | with_unfolding_all decide
    | with_reducible refine .ite ?_ ?_
    | with_reducible refine .ite_snd ?_ ?_
    | with_reducible apply Alters.step (xcSend_only ..)
    | with_reducible refine .fold ?_ (fun _ _ => ?_)
    | split

theorem throughDoor_only (s : State) (q : Nat) (i : Ingot) :
    Alters [.streams, .grizzly, .hf, .regs, .twin, .fm, .sent] s (s.throughDoor q i) := by
  unfold State.throughDoor
  repeat' first
    | with_reducible exact .refl _ _
    | assumption
    | with_unfolding_all decide
    | with_reducible refine .ite ?_ ?_
    | with_reducible refine .ite_snd ?_ ?_
    | with_reducible apply Alters.step (sendDoor_only ..)
    | with_reducible apply Alters.step (controlDoor_only ..)
    | with_reducible apply Alters.step (ownHdr_only ..)
    | with_reducible apply Alters.step (dataDoor_only ..)
    | with_reducible refine .fold ?_ (fun _ _ => ?_)
    | split

theorem shadowThrough_only (s : State) (q : Nat) (i : Ingot) (kept : Bool) :
    Alters [.streams, .grizzly, .regs, .twin, .fm, .sent] s (s.shadowThrough q i kept) := by
  unfold State.shadowThrough
  repeat' first
    | ((conv => enter [3, 21]); refine .upd (fun p hp => by cases p <;> first | exact absurd ((Part.mem_bits ..).2 rfl) hp | dsimp only [Part.same]) ?_)
    | with_reducible exact .refl _ _
    | assumption
    | with_unfolding_all decide
    | with_reducible refine .ite ?_ ?_
    | with_reducible refine .ite_snd ?_ ?_
    | with_reducible apply Alters.step (countGap_only ..)
    | with_reducible apply Alters.step (letIn_only ..)
    | with_reducible apply Alters.step (ownHdr_only ..)
    | with_reducible refine .fold ?_ (fun _ _ => ?_)
    | split
    | refine .upd (fun p hp => by cases p <;> first | exact absurd ((Part.mem_bits ..).2 rfl) hp | dsimp only [Part.same]) ?_

theorem shadowDoor_only (s : State) (q : Nat) :
    Alters [.streams, .grizzly, .regs, .twin, .fm, .sent] s (s.shadowDoor q) := by
  unfold State.shadowDoor
  repeat' first
    | with_reducible exact .refl _ _
    | assumption
    | with_unfolding_all decide
    | with_reducible refine .ite ?_ ?_
    | with_reducible refine .ite_snd ?_ ?_
    | with_reducible apply Alters.step (onStream_only ..)
    | with_reducible apply Alters.step (shadowThrough_only ..)
    | with_reducible refine .fold ?_ (fun _ _ => ?_)
    | split

theorem grizzlyDoor_only (s : State) (q : Nat) :
    Alters [.streams, .grizzly, .hf, .regs, .twin, .fm, .sent] s (s.grizzlyDoor q) := by
  unfold State.grizzlyDoor
  repeat' first
    | with_reducible exact .refl _ _
    | assumption
    | with_unfolding_all decide
    | with_reducible refine .ite ?_ ?_
    | with_reducible refine .ite_snd ?_ ?_
    | with_reducible apply Alters.step (onStream_only ..)
    | with_reducible apply Alters.step (shadowDoor_only ..)
    | with_reducible apply Alters.step (throughDoor_only ..)
    | with_reducible refine .fold ?_ (fun _ _ => ?_)
    | split

theorem noteWaiting_only (s : State) :
    Alters [.grizzly] s (s.noteWaiting) := by
  unfold State.noteWaiting
  repeat' first
    | ((conv => enter [3, 21]); refine .upd (fun p hp => by cases p <;> first | exact absurd ((Part.mem_bits ..).2 rfl) hp | dsimp only [Part.same]) ?_)
    | with_reducible exact .refl _ _
    | assumption
    | with_unfolding_all decide
    | with_reducible refine .ite ?_ ?_
    | with_reducible refine .ite_snd ?_ ?_
    | with_reducible refine .fold ?_ (fun _ _ => ?_)
    | split
    | refine .upd (fun p hp => by cases p <;> first | exact absurd ((Part.mem_bits ..).2 rfl) hp | dsimp only [Part.same]) ?_

theorem clearDrain_only (s : State) :
    Alters [.grizzly] s (s.clearDrain) := by
  unfold State.clearDrain
  repeat' first
    | ((conv => enter [3, 21]); refine .upd (fun p hp => by cases p <;> first | exact absurd ((Part.mem_bits ..).2 rfl) hp | dsimp only [Part.same]) ?_)
    | with_reducible exact .refl _ _
    | assumption
    | with_unfolding_all decide
    | with_reducible refine .ite ?_ ?_
    | with_reducible refine .ite_snd ?_ ?_
    | with_reducible refine .fold ?_ (fun _ _ => ?_)
    | split
    | refine .upd (fun p hp => by cases p <;> first | exact absurd ((Part.mem_bits ..).2 rfl) hp | dsimp only [Part.same]) ?_

theorem eccSettle_only (s : State) :
    Alters [.grizzly, .fm] s (s.eccSettle) := by
  unfold State.eccSettle
  repeat' first
    | ((conv => enter [3, 21]); refine .upd (fun p hp => by cases p <;> first | exact absurd ((Part.mem_bits ..).2 rfl) hp | dsimp only [Part.same]) ?_)
    | with_reducible exact .refl _ _
    | assumption
    | with_unfolding_all decide
    | with_reducible refine .ite ?_ ?_
    | with_reducible refine .ite_snd ?_ ?_
    | with_reducible apply Alters.step (dropCondition_only ..)
    | with_reducible refine .fold ?_ (fun _ _ => ?_)
    | split
    | refine .upd (fun p hp => by cases p <;> first | exact absurd ((Part.mem_bits ..).2 rfl) hp | dsimp only [Part.same]) ?_

theorem eccError_only (s : State) :
    Alters [.modes, .sv, .links, .xc, .seams, .grizzly, .regs, .fm] s (s.eccError) := by
  unfold State.eccError
  repeat' first
    | ((conv => enter [3, 21]); refine .upd (fun p hp => by cases p <;> first | exact absurd ((Part.mem_bits ..).2 rfl) hp | dsimp only [Part.same]) ?_)
    | with_reducible exact .refl _ _
    | assumption
    | with_unfolding_all decide
    | with_reducible refine .ite ?_ ?_
    | with_reducible refine .ite_snd ?_ ?_
    | with_reducible apply Alters.step (fault_only ..)
    | with_reducible refine .fold ?_ (fun _ _ => ?_)
    | split
    | refine .upd (fun p hp => by cases p <;> first | exact absurd ((Part.mem_bits ..).2 rfl) hp | dsimp only [Part.same]) ?_

theorem binEnd_only (s : State) :
    Alters [.grizzly, .regs, .fm] s (s.binEnd) := by
  unfold State.binEnd
  generalize hb : (if s.grizzly.binValid = true then List.take 10 (s.grizzly.binBytes :: s.grizzly.bins) else s.grizzly.bins) = b
  have h : Alters [.grizzly, .fm] s
      ({ s with grizzly.bins := b, grizzly.binBytes := 0, grizzly.binValid := s.anyWaiting } : State).eccSettle :=
    .trans (l := [.grizzly]) (.set (fun p hp => by cases p <;> first | exact absurd ((Part.mem_bits ..).2 rfl) hp | rfl)) (eccSettle_only ..)
  dsimp only
  generalize ({ s with grizzly.bins := b, grizzly.binBytes := 0, grizzly.binValid := s.anyWaiting } : State).eccSettle = t at *
  have k : Alters [.grizzly, .fm] s (if t.inBound t.queued = true then t.conditionMet .reserveExceeded 0 else t) :=
    .ite (h.trans (conditionMet_only ..)) h
  generalize (if t.inBound t.queued = true then t.conditionMet .reserveExceeded 0 else t) = u at *
  exact .ite (k.trans (suspend_only ..)) (k.trans (conditionMet_only ..))

theorem hold_only (s : State) (q : Nat) :
    Alters [.streams, .grizzly, .regs, .fm] s (s.hold q) := by
  unfold State.hold
  repeat' first
    | with_reducible exact .refl _ _
    | assumption
    | with_unfolding_all decide
    | with_reducible refine .ite ?_ ?_
    | with_reducible refine .ite_snd ?_ ?_
    | with_reducible apply Alters.step (onStream_only ..)
    | with_reducible apply Alters.step (noteWaiting_only ..)
    | with_reducible apply Alters.step (suspend_only ..)
    | with_reducible refine .fold ?_ (fun _ _ => ?_)
    | split

theorem endHold_only (s : State) (q : Nat) :
    Alters [.streams, .grizzly] s (s.endHold q) := by
  unfold State.endHold
  repeat' first
    | with_reducible exact .refl _ _
    | assumption
    | with_unfolding_all decide
    | with_reducible refine .ite ?_ ?_
    | with_reducible refine .ite_snd ?_ ?_
    | with_reducible apply Alters.step (onStream_only ..)
    | with_reducible apply Alters.step (conditionMet_only ..)
    | with_reducible refine .fold ?_ (fun _ _ => ?_)
    | split

theorem endHolds_only (s : State) :
    Alters [.streams, .grizzly] s (s.endHolds) := by
  unfold State.endHolds
  repeat' first
    | with_reducible exact .refl _ _
    | assumption
    | with_unfolding_all decide
    | with_reducible refine .ite ?_ ?_
    | with_reducible refine .ite_snd ?_ ?_
    | with_reducible apply Alters.step (endHold_only ..)
    | with_reducible refine .fold ?_ (fun _ _ => ?_)
    | split

theorem ringFull_only (s : State) (q : Nat) :
    Alters [.streams, .grizzly, .regs, .fm] s (s.ringFull q) := by
  unfold State.ringFull
  repeat' first
    | with_reducible exact .refl _ _
    | assumption
    | with_unfolding_all decide
    | with_reducible refine .ite ?_ ?_
    | with_reducible refine .ite_snd ?_ ?_
    | with_reducible apply Alters.step (hold_only ..)
    | with_reducible refine .fold ?_ (fun _ _ => ?_)
    | split

theorem heldRejoin_only (s : State) (q : Nat) :
    Alters [.streams, .grizzly] s (s.heldRejoin q) := by
  unfold State.heldRejoin
  repeat' first
    | with_reducible exact .refl _ _
    | assumption
    | with_unfolding_all decide
    | with_reducible refine .ite ?_ ?_
    | with_reducible refine .ite_snd ?_ ?_
    | with_reducible apply Alters.step (onStream_only ..)
    | with_reducible apply Alters.step (endHold_only ..)
    | with_reducible refine .fold ?_ (fun _ _ => ?_)
    | split

theorem drainGoes_only (s : State) (cause : SuspendCause) :
    Alters [.grizzly, .regs, .fm] s (s.drainGoes cause) := by
  unfold State.drainGoes
  repeat' first
    | with_reducible exact .refl _ _
    | assumption
    | with_unfolding_all decide
    | with_reducible refine .ite ?_ ?_
    | with_reducible refine .ite_snd ?_ ?_
    | with_reducible apply Alters.step (noteWaiting_only ..)
    | with_reducible apply Alters.step (suspend_only ..)
    | with_reducible refine .fold ?_ (fun _ _ => ?_)
    | split

theorem drainReturns_only (s : State) :
    Alters [.streams, .grizzly] s (s.drainReturns) := by
  unfold State.drainReturns
  repeat' first
    | ((conv => enter [3, 21]); refine .upd (fun p hp => by cases p <;> first | exact absurd ((Part.mem_bits ..).2 rfl) hp | dsimp only [Part.same]) ?_)
    | with_reducible exact .refl _ _
    | assumption
    | with_unfolding_all decide
    | with_reducible refine .ite ?_ ?_
    | with_reducible refine .ite_snd ?_ ?_
    | with_reducible apply Alters.step (clearDrain_only ..)
    | with_reducible refine .fold ?_ (fun _ _ => ?_)
    | split
    | refine .upd (fun p hp => by cases p <;> first | exact absurd ((Part.mem_bits ..).2 rfl) hp | dsimp only [Part.same]) ?_

theorem demote_only (s : State) (x) :
    Alters [.grizzly] s (s.demote x) := by
  induction x generalizing s with
  | nil => exact .refl ..
  | cons k l ih =>
    unfold State.demote
    refine .ite (.refl ..) ?_
    exact .trans (l := [.grizzly]) (.set (fun p hp => by cases p <;> first | exact absurd ((Part.mem_bits ..).2 rfl) hp | rfl)) (ih _)

theorem demoteFloor_only (s : State) :
    Alters [.grizzly, .regs, .fm] s (s.demoteFloor) := by
  unfold State.demoteFloor
  repeat' first
    | with_reducible exact .refl _ _
    | assumption
    | with_unfolding_all decide
    | with_reducible refine .ite ?_ ?_
    | with_reducible refine .ite_snd ?_ ?_
    | with_reducible apply Alters.step (demote_only ..)
    | with_reducible apply Alters.step (event_only ..)
    | with_reducible refine .fold ?_ (fun _ _ => ?_)
    | split

theorem updateLtr_only (s : State) :
    Alters [.hf, .sent] s (s.updateLtr) := by
  unfold State.updateLtr
  repeat' first
    | ((conv => enter [3, 21]); refine .upd (fun p hp => by cases p <;> first | exact absurd ((Part.mem_bits ..).2 rfl) hp | dsimp only [Part.same]) ?_)
    | with_reducible exact .refl _ _
    | assumption
    | with_unfolding_all decide
    | with_reducible refine .ite ?_ ?_
    | with_reducible refine .ite_snd ?_ ?_
    | with_reducible apply Alters.step (send_only ..)
    | with_reducible refine .fold ?_ (fun _ _ => ?_)
    | split
    | refine .upd (fun p hp => by cases p <;> first | exact absurd ((Part.mem_bits ..).2 rfl) hp | dsimp only [Part.same]) ?_

theorem linkDown_only (s : State) (recovery : Bool) :
    Alters [.grizzly, .hf, .regs, .fm] s (s.linkDown recovery) := by
  unfold State.linkDown
  repeat' first
    | ((conv => enter [3, 21]); refine .upd (fun p hp => by cases p <;> first | exact absurd ((Part.mem_bits ..).2 rfl) hp | dsimp only [Part.same]) ?_)
    | with_reducible exact .refl _ _
    | assumption
    | with_unfolding_all decide
    | with_reducible refine .ite ?_ ?_
    | with_reducible refine .ite_snd ?_ ?_
    | with_reducible apply Alters.step (clearDrain_only ..)
    | with_reducible apply Alters.step (drainGoes_only ..)
    | with_reducible refine .fold ?_ (fun _ _ => ?_)
    | split
    | refine .upd (fun p hp => by cases p <;> first | exact absurd ((Part.mem_bits ..).2 rfl) hp | dsimp only [Part.same]) ?_

theorem linkUp_only (s : State) (speed width : Nat) (hostFlit : Bool) :
    Alters [.power, .streams, .grizzly, .hf, .regs, .fm, .sent] s (s.linkUp speed width hostFlit) := by
  unfold State.linkUp
  repeat' first
    | ((conv => enter [3, 21]); refine .upd (fun p hp => by cases p <;> first | exact absurd ((Part.mem_bits ..).2 rfl) hp | dsimp only [Part.same]) ?_)
    | with_reducible exact .refl _ _
    | assumption
    | with_unfolding_all decide
    | with_reducible refine .ite ?_ ?_
    | with_reducible refine .ite_snd ?_ ?_
    | with_reducible apply Alters.step (clearDrain_only ..)
    | with_reducible apply Alters.step (conditionMet_only ..)
    | with_reducible apply Alters.step (drainReturns_only ..)
    | with_reducible apply Alters.step (updateLtr_only ..)
    | with_reducible apply Alters.step (demoteFloor_only ..)
    | with_reducible apply Alters.step (flushVectors_only ..)
    | with_reducible refine .fold ?_ (fun _ _ => ?_)
    | split
    | refine .upd (fun p hp => by cases p <;> first | exact absurd ((Part.mem_bits ..).2 rfl) hp | dsimp only [Part.same]) ?_

theorem train_only (s : State) (speed : Nat) (lanes : BitVec 16) (reversed hostFlit : Bool) :
    Alters [.power, .streams, .grizzly, .hf, .regs, .fm, .sent] s (s.train speed lanes reversed hostFlit) := by
  unfold State.train
  repeat' first
    | with_reducible exact .refl _ _
    | assumption
    | with_unfolding_all decide
    | with_reducible refine .ite ?_ ?_
    | with_reducible refine .ite_snd ?_ ?_
    | with_reducible apply Alters.step (linkUp_only ..)
    | with_reducible refine .fold ?_ (fun _ _ => ?_)
    | split

end Sys2Proof.Machine
end

