-- ==== Sys2Proof/Laws/FramesDelivery.lean ====
section
/-! SUPPORT. What each operation changes: the parts of the state it can touch; SVN_MIN never falls (R404). One lemma
for each operation of Headframe, Jobs, Shaft, ExtLines, Assay, Cages, Resets, Security. -/

set_option linter.unreachableTactic false
set_option linter.unusedTactic false

namespace Sys2Proof.Machine

set_option Elab.async false

theorem hostWrite_only (s : State) (addr : Nat) (data : List Byte) :
    Alters [.power, .grizzly, .hf, .sent] s (s.hostWrite addr data) := by
  unfold State.hostWrite
  repeat' first
    | with_reducible exact .refl _ _
    | assumption
    | with_unfolding_all decide
    | with_reducible refine .ite ?_ ?_
    | with_reducible refine .ite_snd ?_ ?_
    | with_reducible apply Alters.step (send_only ..)
    | with_reducible apply Alters.step (wakeLink_only ..)
    | with_reducible refine .fold ?_ (fun _ _ => ?_)
    | split

theorem putImage_only (s : State) (n seq sidx door : Nat) (bytes : List Byte) :
    Alters [.power, .grizzly, .hf, .sent] s (s.putImage n seq sidx door bytes) := by
  unfold State.putImage
  repeat' first
    | with_reducible exact .refl _ _
    | assumption
    | with_unfolding_all decide
    | with_reducible refine .ite ?_ ?_
    | with_reducible refine .ite_snd ?_ ?_
    | with_reducible apply Alters.step (onRing_only ..)
    | with_reducible apply Alters.step (hostWrite_only ..)
    | with_reducible refine .fold ?_ (fun _ _ => ?_)
    | split

theorem eccRead_only (s : State) (corrected : Nat) (bad : Bool) :
    Alters [.modes, .sv, .links, .xc, .seams, .grizzly, .regs, .fm] s (s.eccRead corrected bad) := by
  unfold State.eccRead
  repeat' first
    | ((conv => enter [3, 21]); refine .upd (fun p hp => by cases p <;> first | exact absurd ((Part.mem_bits ..).2 rfl) hp | dsimp only [Part.same]) ?_)
    | with_reducible exact .refl _ _
    | assumption
    | with_unfolding_all decide
    | with_reducible refine .ite ?_ ?_
    | with_reducible refine .ite_snd ?_ ?_
    | with_reducible apply Alters.step (eccError_only ..)
    | with_reducible refine .fold ?_ (fun _ _ => ?_)
    | split
    | refine .upd (fun p hp => by cases p <;> first | exact absurd ((Part.mem_bits ..).2 rfl) hp | dsimp only [Part.same]) ?_

theorem firstDelivery_only (s : State) :
    Alters [.grizzly, .regs, .fm] s (s.firstDelivery) := by
  unfold State.firstDelivery
  repeat' first
    | ((conv => enter [3, 21]); refine .upd (fun p hp => by cases p <;> first | exact absurd ((Part.mem_bits ..).2 rfl) hp | dsimp only [Part.same]) ?_)
    | with_reducible exact .refl _ _
    | assumption
    | with_unfolding_all decide
    | with_reducible refine .ite ?_ ?_
    | with_reducible refine .ite_snd ?_ ?_
    | with_reducible apply Alters.step (takeoverDue_only ..)
    | with_reducible apply Alters.step (conditionMet_only ..)
    | with_reducible apply Alters.step (suspend_only ..)
    | with_reducible refine .fold ?_ (fun _ _ => ?_)
    | split
    | refine .upd (fun p hp => by cases p <;> first | exact absurd ((Part.mem_bits ..).2 rfl) hp | dsimp only [Part.same]) ?_

theorem writeClassA_only (s : State) (q n : Nat) (i : Ingot) (corrected : Nat) (eccBad : Bool) :
    Alters [.power, .modes, .sv, .links, .xc, .seams, .streams, .grizzly, .hf, .regs, .fm, .sent] s (s.writeClassA q n i corrected eccBad) := by
  unfold State.writeClassA
  repeat' first
    | ((conv => enter [3, 21]); refine .upd (fun p hp => by cases p <;> first | exact absurd ((Part.mem_bits ..).2 rfl) hp | dsimp only [Part.same]) ?_)
    | with_reducible exact .refl _ _
    | assumption
    | with_unfolding_all decide
    | with_reducible refine .ite ?_ ?_
    | with_reducible refine .ite_snd ?_ ?_
    | with_reducible apply Alters.step (onStream_only ..)
    | with_reducible apply Alters.step (noteWaiting_only ..)
    | with_reducible apply Alters.step (wakeLink_only ..)
    | with_reducible apply Alters.step (firstDelivery_only ..)
    | with_reducible apply Alters.step (putImage_only ..)
    | with_reducible apply Alters.step (eccRead_only ..)
    | with_reducible refine .fold ?_ (fun _ _ => ?_)
    | split
    | refine .upd (fun p hp => by cases p <;> first | exact absurd ((Part.mem_bits ..).2 rfl) hp | dsimp only [Part.same]) ?_

theorem endReadout_only (s : State) :
    Alters [.grizzly] s (s.endReadout) := by
  unfold State.endReadout
  repeat' first
    | ((conv => enter [3, 21]); refine .upd (fun p hp => by cases p <;> first | exact absurd ((Part.mem_bits ..).2 rfl) hp | dsimp only [Part.same]) ?_)
    | with_reducible exact .refl _ _
    | assumption
    | with_unfolding_all decide
    | with_reducible refine .ite ?_ ?_
    | with_reducible refine .ite_snd ?_ ?_
    | with_reducible refine .fold ?_ (fun _ _ => ?_)
    | split
    | refine .upd (fun p hp => by cases p <;> first | exact absurd ((Part.mem_bits ..).2 rfl) hp | dsimp only [Part.same]) ?_

theorem rdStart_only (s : State) :
    Alters [.grizzly] s (s.rdStart).2 := by
  unfold State.rdStart
  dsimp only [taken, refuse]
  repeat' first
    | ((conv => enter [3, 21]); refine .upd (fun p hp => by cases p <;> first | exact absurd ((Part.mem_bits ..).2 rfl) hp | dsimp only [Part.same]) ?_)
    | with_reducible exact .refl _ _
    | assumption
    | with_unfolding_all decide
    | with_reducible refine .ite ?_ ?_
    | with_reducible refine .ite_snd ?_ ?_
    | with_reducible refine .fold ?_ (fun _ _ => ?_)
    | split
    | refine .upd (fun p hp => by cases p <;> first | exact absurd ((Part.mem_bits ..).2 rfl) hp | dsimp only [Part.same]) ?_

theorem rdStop_only (s : State) :
    Alters [.grizzly] s (s.rdStop).2 := by
  unfold State.rdStop
  dsimp only [taken, refuse]
  repeat' first
    | with_reducible exact .refl _ _
    | assumption
    | with_unfolding_all decide
    | with_reducible refine .ite ?_ ?_
    | with_reducible refine .ite_snd ?_ ?_
    | with_reducible apply Alters.step (endReadout_only ..)
    | with_reducible refine .fold ?_ (fun _ _ => ?_)
    | split

theorem writeReadout_only (s : State) (corrected : Nat) (eccBad headerBad : Bool) :
    Alters [.power, .modes, .sv, .links, .xc, .seams, .grizzly, .hf, .regs, .fm, .sent] s (s.writeReadout corrected eccBad headerBad) := by
  unfold State.writeReadout
  repeat' first
    | ((conv => enter [3, 21]); refine .upd (fun p hp => by cases p <;> first | exact absurd ((Part.mem_bits ..).2 rfl) hp | dsimp only [Part.same]) ?_)
    | with_reducible exact .refl _ _
    | assumption
    | with_unfolding_all decide
    | with_reducible refine .ite ?_ ?_
    | with_reducible refine .ite_snd ?_ ?_
    | with_reducible apply Alters.step (endReadout_only ..)
    | with_reducible apply Alters.step (onRing_only ..)
    | with_reducible apply Alters.step (putImage_only ..)
    | with_reducible apply Alters.step (eccRead_only ..)
    | with_reducible refine .fold ?_ (fun _ _ => ?_)
    | split
    | refine .upd (fun p hp => by cases p <;> first | exact absurd ((Part.mem_bits ..).2 rfl) hp | dsimp only [Part.same]) ?_

theorem writeAssay_only (s : State) (corrected : Nat) (eccBad headerBad : Bool) :
    Alters [.power, .modes, .sv, .links, .xc, .seams, .grizzly, .hf, .regs, .fm, .sent] s (s.writeAssay corrected eccBad headerBad) := by
  unfold State.writeAssay
  repeat' first
    | ((conv => enter [3, 21]); refine .upd (fun p hp => by cases p <;> first | exact absurd ((Part.mem_bits ..).2 rfl) hp | dsimp only [Part.same]) ?_)
    | with_reducible exact .refl _ _
    | assumption
    | with_unfolding_all decide
    | with_reducible refine .ite ?_ ?_
    | with_reducible refine .ite_snd ?_ ?_
    | with_reducible apply Alters.step (putImage_only ..)
    | with_reducible apply Alters.step (eccRead_only ..)
    | with_reducible refine .fold ?_ (fun _ _ => ?_)
    | split
    | refine .upd (fun p hp => by cases p <;> first | exact absurd ((Part.mem_bits ..).2 rfl) hp | dsimp only [Part.same]) ?_

theorem ringDue_only (s : State) (n : Nat) :
    Alters [.power, .grizzly, .hf, .sent] s (s.ringDue n) := by
  unfold State.ringDue
  repeat' first
    | with_reducible exact .refl _ _
    | assumption
    | with_unfolding_all decide
    | with_reducible refine .ite ?_ ?_
    | with_reducible refine .ite_snd ?_ ?_
    | with_reducible apply Alters.step (onRing_only ..)
    | with_reducible apply Alters.step (raiseVector_only ..)
    | with_reducible refine .fold ?_ (fun _ _ => ?_)
    | split

theorem checkDue_only (s : State) (n : Nat) :
    Alters [.power, .grizzly, .hf, .sent] s (s.checkDue n) := by
  unfold State.checkDue
  repeat' first
    | with_reducible exact .refl _ _
    | assumption
    | with_unfolding_all decide
    | with_reducible refine .ite ?_ ?_
    | with_reducible refine .ite_snd ?_ ?_
    | with_reducible apply Alters.step (ringDue_only ..)
    | with_reducible refine .fold ?_ (fun _ _ => ?_)
    | split

theorem transmitCursor_only (s : State) (n : Nat) (f : Formed) :
    Alters [.power, .streams, .grizzly, .hf, .sent] s (s.transmitCursor n f) := by
  unfold State.transmitCursor
  extract_lets r cov last x t u v
  have ht : Alters [.power, .streams, .grizzly, .hf, .sent] s t := (hostWrite_only ..).mono
  clear_value t
  have hu : Alters [.power, .streams, .grizzly, .hf, .sent] s u := by
    dsimp only [u]
    split
    · exact (onStream_only ..).next ht
    · exact ht
  clear_value u
  have hv : Alters [.power, .streams, .grizzly, .hf, .sent] s v := (onRing_only ..).next hu
  clear_value v
  exact (checkDue_only ..).next hv

theorem cursorWrite_only (s : State) (n : Nat) (handoff) (always) :
    Alters [.power, .streams, .grizzly, .hf, .regs, .twin, .sent] s (s.cursorWrite n handoff always) := by
  unfold State.cursorWrite
  repeat' first
    | with_reducible exact .refl _ _
    | assumption
    | with_unfolding_all decide
    | with_reducible refine .ite ?_ ?_
    | with_reducible refine .ite_snd ?_ ?_
    | with_reducible apply Alters.step (onRing_only ..)
    | with_reducible apply Alters.step (xcSend_only ..)
    | with_reducible apply Alters.step (transmitCursor_only ..)
    | with_reducible refine .fold ?_ (fun _ _ => ?_)
    | split

theorem confirmCursor_only (s : State) (n gen : Nat) :
    Alters [.power, .streams, .grizzly, .hf, .twin, .sent] s (s.confirmCursor n gen) := by
  unfold State.confirmCursor
  repeat' first
    | ((conv => enter [3, 21]); refine .upd (fun p hp => by cases p <;> first | exact absurd ((Part.mem_bits ..).2 rfl) hp | dsimp only [Part.same]) ?_)
    | with_reducible exact .refl _ _
    | assumption
    | with_unfolding_all decide
    | with_reducible refine .ite ?_ ?_
    | with_reducible refine .ite_snd ?_ ?_
    | with_reducible apply Alters.step (transmitCursor_only ..)
    | with_reducible refine .fold ?_ (fun _ _ => ?_)
    | split
    | refine .upd (fun p hp => by cases p <;> first | exact absurd ((Part.mem_bits ..).2 rfl) hp | dsimp only [Part.same]) ?_

theorem releaseCursors_only (s : State) :
    Alters [.power, .streams, .grizzly, .hf, .sent] s (s.releaseCursors) := by
  refine .fold (.refl ..) fun u n => ?_
  generalize (u.ring n).awaiting = o
  cases o with
  | none => exact .refl ..
  | some f => exact .ite (transmitCursor_only ..).mono (onRing_only ..).mono

theorem sendRing_only (s : State) (n : Nat) :
    Alters [.regs, .twin, .sent] s (s.sendRing n) := by
  unfold State.sendRing
  repeat' first
    | with_reducible exact .refl _ _
    | assumption
    | with_unfolding_all decide
    | with_reducible refine .ite ?_ ?_
    | with_reducible refine .ite_snd ?_ ?_
    | with_reducible apply Alters.step (xcSend_only ..)
    | with_reducible refine .fold ?_ (fun _ _ => ?_)
    | split

theorem ringEnable_only (s : State) (n : Nat) :
    Alters [.streams, .hf, .regs, .twin, .sent] s (s.ringEnable n) := by
  unfold State.ringEnable
  repeat' first
    | with_reducible exact .refl _ _
    | assumption
    | with_unfolding_all decide
    | with_reducible refine .ite ?_ ?_
    | with_reducible refine .ite_snd ?_ ?_
    | with_reducible apply Alters.step (onStream_only ..)
    | with_reducible apply Alters.step (onRing_only ..)
    | with_reducible apply Alters.step (sendRing_only ..)
    | with_reducible refine .fold ?_ (fun _ _ => ?_)
    | split

theorem ringDisable_only (s : State) (n : Nat) :
    Alters [.power, .streams, .grizzly, .hf, .regs, .twin, .fm, .sent] s (s.ringDisable n) := by
  unfold State.ringDisable
  extract_lets t u
  refine .ite ?_ (.refl ..)
  have ht : Alters [.power, .streams, .grizzly, .hf, .regs, .twin, .fm, .sent] s t := (cursorWrite_only ..).mono
  clear_value t
  have hu : Alters [.power, .streams, .grizzly, .hf, .regs, .twin, .fm, .sent] s u :=
    (sendRing_only ..).next ((onRing_only ..).next ht)
  clear_value u
  split
  · exact (hold_only ..).next hu
  · exact hu

theorem rdPosWrite_only (s : State) (n v : Nat) :
    Alters [.grizzly, .hf, .regs, .twin, .fm, .sent] s (s.rdPosWrite n v) := by
  unfold State.rdPosWrite
  repeat' first
    | with_reducible exact .refl _ _
    | assumption
    | with_unfolding_all decide
    | with_reducible refine .ite ?_ ?_
    | with_reducible refine .ite_snd ?_ ?_
    | with_reducible apply Alters.step (accessFault_only ..)
    | with_reducible apply Alters.step (onRing_only ..)
    | with_reducible apply Alters.step (xcSend_only ..)
    | with_reducible apply Alters.step (event_only ..)
    | with_reducible refine .fold ?_ (fun _ _ => ?_)
    | split

theorem pushSkip_only (s : State) (k words : Nat) :
    Alters [.regs] s (s.pushSkip k words) := by
  unfold State.pushSkip
  repeat' first
    | ((conv => enter [3, 21]); refine .upd (fun p hp => by cases p <;> first | exact absurd ((Part.mem_bits ..).2 rfl) hp | dsimp only [Part.same]) ?_)
    | with_reducible exact .refl _ _
    | assumption
    | with_unfolding_all decide
    | with_reducible refine .ite ?_ ?_
    | with_reducible refine .ite_snd ?_ ?_
    | with_reducible refine .fold ?_ (fun _ _ => ?_)
    | split
    | refine .upd (fun p hp => by cases p <;> first | exact absurd ((Part.mem_bits ..).2 rfl) hp | dsimp only [Part.same]) ?_

theorem popSkip_only (s : State) (k : Nat) :
    Alters [.regs] s (s.popSkip k) := by
  unfold State.popSkip
  repeat' first
    | ((conv => enter [3, 21]); refine .upd (fun p hp => by cases p <;> first | exact absurd ((Part.mem_bits ..).2 rfl) hp | dsimp only [Part.same]) ?_)
    | with_reducible exact .refl _ _
    | assumption
    | with_unfolding_all decide
    | with_reducible refine .ite ?_ ?_
    | with_reducible refine .ite_snd ?_ ?_
    | with_reducible refine .fold ?_ (fun _ _ => ?_)
    | split
    | refine .upd (fun p hp => by cases p <;> first | exact absurd ((Part.mem_bits ..).2 rfl) hp | dsimp only [Part.same]) ?_

theorem issueRead_only (s : State) (tag : Nat) (descriptor : Bool) (slot addr len : Nat) :
    Alters [.power, .grizzly, .hf, .sent] s (s.issueRead tag descriptor slot addr len) := by
  unfold State.issueRead
  repeat' first
    | ((conv => enter [3, 21]); refine .upd (fun p hp => by cases p <;> first | exact absurd ((Part.mem_bits ..).2 rfl) hp | dsimp only [Part.same]) ?_)
    | with_reducible exact .refl _ _
    | assumption
    | with_unfolding_all decide
    | with_reducible refine .ite ?_ ?_
    | with_reducible refine .ite_snd ?_ ?_
    | with_reducible apply Alters.step (send_only ..)
    | with_reducible apply Alters.step (wakeLink_only ..)
    | with_reducible refine .fold ?_ (fun _ _ => ?_)
    | split
    | refine .upd (fun p hp => by cases p <;> first | exact absurd ((Part.mem_bits ..).2 rfl) hp | dsimp only [Part.same]) ?_

theorem dropTag_only (s : State) (tag : Nat) :
    Alters [.hf] s (s.dropTag tag) := by
  unfold State.dropTag
  repeat' first
    | ((conv => enter [3, 21]); refine .upd (fun p hp => by cases p <;> first | exact absurd ((Part.mem_bits ..).2 rfl) hp | dsimp only [Part.same]) ?_)
    | with_reducible exact .refl _ _
    | assumption
    | with_unfolding_all decide
    | with_reducible refine .ite ?_ ?_
    | with_reducible refine .ite_snd ?_ ?_
    | with_reducible refine .fold ?_ (fun _ _ => ?_)
    | split
    | refine .upd (fun p hp => by cases p <;> first | exact absurd ((Part.mem_bits ..).2 rfl) hp | dsimp only [Part.same]) ?_

theorem haltRing_only (s : State) (cause : Nat) :
    Alters [.smelter] s (s.haltRing cause) := by
  unfold State.haltRing
  repeat' first
    | ((conv => enter [3, 21]); refine .upd (fun p hp => by cases p <;> first | exact absurd ((Part.mem_bits ..).2 rfl) hp | dsimp only [Part.same]) ?_)
    | with_reducible exact .refl _ _
    | assumption
    | with_unfolding_all decide
    | with_reducible refine .ite ?_ ?_
    | with_reducible refine .ite_snd ?_ ?_
    | with_reducible refine .fold ?_ (fun _ _ => ?_)
    | split
    | refine .upd (fun p hp => by cases p <;> first | exact absurd ((Part.mem_bits ..).2 rfl) hp | dsimp only [Part.same]) ?_

theorem smjEnable_only (s : State) :
    Alters [.smelter] s (s.smjEnable) := by
  unfold State.smjEnable
  repeat' first
    | ((conv => enter [3, 21]); refine .upd (fun p hp => by cases p <;> first | exact absurd ((Part.mem_bits ..).2 rfl) hp | dsimp only [Part.same]) ?_)
    | with_reducible exact .refl _ _
    | assumption
    | with_unfolding_all decide
    | with_reducible refine .ite ?_ ?_
    | with_reducible refine .ite_snd ?_ ?_
    | with_reducible apply Alters.step (haltRing_only ..)
    | with_reducible refine .fold ?_ (fun _ _ => ?_)
    | split
    | refine .upd (fun p hp => by cases p <;> first | exact absurd ((Part.mem_bits ..).2 rfl) hp | dsimp only [Part.same]) ?_

theorem smjDisable_only (s : State) :
    Alters [.smelter] s (s.smjDisable) := by
  unfold State.smjDisable
  repeat' first
    | ((conv => enter [3, 21]); refine .upd (fun p hp => by cases p <;> first | exact absurd ((Part.mem_bits ..).2 rfl) hp | dsimp only [Part.same]) ?_)
    | with_reducible exact .refl _ _
    | assumption
    | with_unfolding_all decide
    | with_reducible refine .ite ?_ ?_
    | with_reducible refine .ite_snd ?_ ?_
    | with_reducible refine .fold ?_ (fun _ _ => ?_)
    | split
    | refine .upd (fun p hp => by cases p <;> first | exact absurd ((Part.mem_bits ..).2 rfl) hp | dsimp only [Part.same]) ?_

theorem smjTail_only (s : State) (v : Nat) :
    Alters [.smelter] s (s.smjTail v) := by
  unfold State.smjTail
  repeat' first
    | ((conv => enter [3, 21]); refine .upd (fun p hp => by cases p <;> first | exact absurd ((Part.mem_bits ..).2 rfl) hp | dsimp only [Part.same]) ?_)
    | with_reducible exact .refl _ _
    | assumption
    | with_unfolding_all decide
    | with_reducible refine .ite ?_ ?_
    | with_reducible refine .ite_snd ?_ ?_
    | with_reducible apply Alters.step (haltRing_only ..)
    | with_reducible refine .fold ?_ (fun _ _ => ?_)
    | split
    | refine .upd (fun p hp => by cases p <;> first | exact absurd ((Part.mem_bits ..).2 rfl) hp | dsimp only [Part.same]) ?_

theorem smjClear_only (s : State) :
    Alters [.smelter] s (s.smjClear) := by
  unfold State.smjClear
  repeat' first
    | ((conv => enter [3, 21]); refine .upd (fun p hp => by cases p <;> first | exact absurd ((Part.mem_bits ..).2 rfl) hp | dsimp only [Part.same]) ?_)
    | with_reducible exact .refl _ _
    | assumption
    | with_unfolding_all decide
    | with_reducible refine .ite ?_ ?_
    | with_reducible refine .ite_snd ?_ ?_
    | with_reducible refine .fold ?_ (fun _ _ => ?_)
    | split
    | refine .upd (fun p hp => by cases p <;> first | exact absurd ((Part.mem_bits ..).2 rfl) hp | dsimp only [Part.same]) ?_

theorem fetchJob_only (s : State) :
    Alters [.power, .grizzly, .smelter, .hf, .sent] s (s.fetchJob) := by
  unfold State.fetchJob
  repeat' first
    | ((conv => enter [3, 21]); refine .upd (fun p hp => by cases p <;> first | exact absurd ((Part.mem_bits ..).2 rfl) hp | dsimp only [Part.same]) ?_)
    | with_reducible exact .refl _ _
    | assumption
    | with_unfolding_all decide
    | with_reducible refine .ite ?_ ?_
    | with_reducible refine .ite_snd ?_ ?_
    | with_reducible apply Alters.step (issueRead_only ..)
    | with_reducible refine .fold ?_ (fun _ _ => ?_)
    | split
    | refine .upd (fun p hp => by cases p <;> first | exact absurd ((Part.mem_bits ..).2 rfl) hp | dsimp only [Part.same]) ?_

theorem endJob_only (s : State) (j : Job) (engine : Nat) (r : JobResult) :
    Alters [.power, .grizzly, .smelter, .hf, .regs, .sent] s (s.endJob j engine r) := by
  unfold State.endJob
  repeat' first
    | ((conv => enter [3, 21]); refine .upd (fun p hp => by cases p <;> first | exact absurd ((Part.mem_bits ..).2 rfl) hp | dsimp only [Part.same]) ?_)
    | with_reducible exact .refl _ _
    | assumption
    | with_unfolding_all decide
    | with_reducible refine .ite ?_ ?_
    | with_reducible refine .ite_snd ?_ ?_
    | with_reducible apply Alters.step (passSkip_only ..)
    | with_reducible apply Alters.step (hostWrite_only ..)
    | with_reducible apply Alters.step (raiseVector_only ..)
    | with_reducible refine .fold ?_ (fun _ _ => ?_)
    | split
    | refine .upd (fun p hp => by cases p <;> first | exact absurd ((Part.mem_bits ..).2 rfl) hp | dsimp only [Part.same]) ?_

theorem takeDescriptor_only (s : State) (slot : Nat) (data : Option (List Byte)) :
    Alters [.power, .grizzly, .smelter, .hf, .regs, .sent] s (s.takeDescriptor slot data) := by
  unfold State.takeDescriptor
  repeat' first
    | ((conv => enter [3, 21]); refine .upd (fun p hp => by cases p <;> first | exact absurd ((Part.mem_bits ..).2 rfl) hp | dsimp only [Part.same]) ?_)
    | with_reducible exact .refl _ _
    | assumption
    | with_unfolding_all decide
    | with_reducible refine .ite ?_ ?_
    | with_reducible refine .ite_snd ?_ ?_
    | with_reducible apply Alters.step (haltRing_only ..)
    | with_reducible apply Alters.step (pushSkip_only ..)
    | with_reducible apply Alters.step (endJob_only ..)
    | with_reducible refine .fold ?_ (fun _ _ => ?_)
    | split
    | refine .upd (fun p hp => by cases p <;> first | exact absurd ((Part.mem_bits ..).2 rfl) hp | dsimp only [Part.same]) ?_

theorem readInput_only (s : State) (tag k : Nat) (j : Job) :
    Alters [.power, .grizzly, .smelter, .hf, .sent] s (s.readInput tag k j) := by
  unfold State.readInput
  repeat' first
    | ((conv => enter [3, 21]); refine .upd (fun p hp => by cases p <;> first | exact absurd ((Part.mem_bits ..).2 rfl) hp | dsimp only [Part.same]) ?_)
    | with_reducible exact .refl _ _
    | assumption
    | with_unfolding_all decide
    | with_reducible refine .ite ?_ ?_
    | with_reducible refine .ite_snd ?_ ?_
    | with_reducible apply Alters.step (issueRead_only ..)
    | with_reducible refine .fold ?_ (fun _ _ => ?_)
    | split
    | refine .upd (fun p hp => by cases p <;> first | exact absurd ((Part.mem_bits ..).2 rfl) hp | dsimp only [Part.same]) ?_

theorem startJob_only (s : State) :
    Alters [.power, .grizzly, .smelter, .hf, .regs, .sent] s (s.startJob) := by
  unfold State.startJob
  repeat' first
    | ((conv => enter [3, 21]); refine .upd (fun p hp => by cases p <;> first | exact absurd ((Part.mem_bits ..).2 rfl) hp | dsimp only [Part.same]) ?_)
    | with_reducible exact .refl _ _
    | assumption
    | with_unfolding_all decide
    | with_reducible refine .ite ?_ ?_
    | with_reducible refine .ite_snd ?_ ?_
    | with_reducible apply Alters.step (popSkip_only ..)
    | with_reducible apply Alters.step (readInput_only ..)
    | with_reducible refine .fold ?_ (fun _ _ => ?_)
    | split
    | refine .upd (fun p hp => by cases p <;> first | exact absurd ((Part.mem_bits ..).2 rfl) hp | dsimp only [Part.same]) ?_

theorem jobEnds_only (s : State) (k : Nat) (j : Job) (r : JobResult) :
    Alters [.power, .grizzly, .smelter, .hf, .regs, .sent] s (s.jobEnds k j r) := by
  unfold State.jobEnds
  repeat' first
    | ((conv => enter [3, 21]); refine .upd (fun p hp => by cases p <;> first | exact absurd ((Part.mem_bits ..).2 rfl) hp | dsimp only [Part.same]) ?_)
    | with_reducible exact .refl _ _
    | assumption
    | with_unfolding_all decide
    | with_reducible refine .ite ?_ ?_
    | with_reducible refine .ite_snd ?_ ?_
    | with_reducible apply Alters.step (endJob_only ..)
    | with_reducible refine .fold ?_ (fun _ _ => ?_)
    | split
    | refine .upd (fun p hp => by cases p <;> first | exact absurd ((Part.mem_bits ..).2 rfl) hp | dsimp only [Part.same]) ?_

theorem jobComplete_only (s : State) (k slot : Nat) :
    Alters [.power, .grizzly, .smelter, .hf, .regs, .sent] s (s.jobComplete k slot) := by
  unfold State.jobComplete
  repeat' first
    | with_reducible exact .refl _ _
    | assumption
    | with_unfolding_all decide
    | with_reducible refine .ite ?_ ?_
    | with_reducible refine .ite_snd ?_ ?_
    | with_reducible apply Alters.step (jobEnds_only ..)
    | with_reducible refine .fold ?_ (fun _ _ => ?_)
    | split

theorem inputArrives_only (s : State) (k : Nat) (data : Option (List Byte)) :
    Alters [.power, .grizzly, .smelter, .hf, .regs, .sent] s (s.inputArrives k data) := by
  unfold State.inputArrives
  repeat' first
    | ((conv => enter [3, 21]); refine .upd (fun p hp => by cases p <;> first | exact absurd ((Part.mem_bits ..).2 rfl) hp | dsimp only [Part.same]) ?_)
    | with_reducible exact .refl _ _
    | assumption
    | with_unfolding_all decide
    | with_reducible refine .ite ?_ ?_
    | with_reducible refine .ite_snd ?_ ?_
    | with_reducible apply Alters.step (readInput_only ..)
    | with_reducible apply Alters.step (jobEnds_only ..)
    | with_reducible refine .fold ?_ (fun _ _ => ?_)
    | split
    | refine .upd (fun p hp => by cases p <;> first | exact absurd ((Part.mem_bits ..).2 rfl) hp | dsimp only [Part.same]) ?_

theorem requestEnds_only (s : State) (t : Tag) (data : Option (List Byte)) :
    Alters [.power, .grizzly, .smelter, .hf, .regs, .sent] s (s.requestEnds t data) := by
  unfold State.requestEnds
  repeat' first
    | with_reducible exact .refl _ _
    | assumption
    | with_unfolding_all decide
    | with_reducible refine .ite ?_ ?_
    | with_reducible refine .ite_snd ?_ ?_
    | with_reducible apply Alters.step (takeDescriptor_only ..)
    | with_reducible apply Alters.step (inputArrives_only ..)
    | with_reducible refine .fold ?_ (fun _ _ => ?_)
    | split

theorem completion_only (s : State) (tag : Nat) (st : CplStatus) (data : List Byte) :
    Alters [.power, .grizzly, .smelter, .hf, .regs, .sent] s (s.completion tag st data) := by
  unfold State.completion
  repeat' first
    | ((conv => enter [3, 21]); refine .upd (fun p hp => by cases p <;> first | exact absurd ((Part.mem_bits ..).2 rfl) hp | dsimp only [Part.same]) ?_)
    | with_reducible exact .refl _ _
    | assumption
    | with_unfolding_all decide
    | with_reducible refine .ite ?_ ?_
    | with_reducible refine .ite_snd ?_ ?_
    | with_reducible apply Alters.step (dropTag_only ..)
    | with_reducible apply Alters.step (aerError_only ..)
    | with_reducible apply Alters.step (requestEnds_only ..)
    | with_reducible refine .fold ?_ (fun _ _ => ?_)
    | split
    | refine .upd (fun p hp => by cases p <;> first | exact absurd ((Part.mem_bits ..).2 rfl) hp | dsimp only [Part.same]) ?_

theorem markTimedOut_only (s : State) (tag : Nat) :
    Alters [.hf] s (s.markTimedOut tag) := by
  unfold State.markTimedOut
  repeat' first
    | ((conv => enter [3, 21]); refine .upd (fun p hp => by cases p <;> first | exact absurd ((Part.mem_bits ..).2 rfl) hp | dsimp only [Part.same]) ?_)
    | with_reducible exact .refl _ _
    | assumption
    | with_unfolding_all decide
    | with_reducible refine .ite ?_ ?_
    | with_reducible refine .ite_snd ?_ ?_
    | with_reducible refine .fold ?_ (fun _ _ => ?_)
    | split
    | refine .upd (fun p hp => by cases p <;> first | exact absurd ((Part.mem_bits ..).2 rfl) hp | dsimp only [Part.same]) ?_

theorem stopJobs_only (s : State) :
    Alters [.smelter, .hf] s (s.stopJobs) := by
  unfold State.stopJobs
  repeat' first
    | ((conv => enter [3, 21]); refine .upd (fun p hp => by cases p <;> first | exact absurd ((Part.mem_bits ..).2 rfl) hp | dsimp only [Part.same]) ?_)
    | with_reducible exact .refl _ _
    | assumption
    | with_unfolding_all decide
    | with_reducible refine .ite ?_ ?_
    | with_reducible refine .ite_snd ?_ ?_
    | with_reducible refine .fold ?_ (fun _ _ => ?_)
    | split
    | refine .upd (fun p hp => by cases p <;> first | exact absurd ((Part.mem_bits ..).2 rfl) hp | dsimp only [Part.same]) ?_

theorem abortJobs_only (s : State) :
    Alters [.power, .grizzly, .smelter, .hf, .regs, .sent] s (s.abortJobs) := by
  unfold State.abortJobs
  repeat' first
    | ((conv => enter [3, 21]); refine .upd (fun p hp => by cases p <;> first | exact absurd ((Part.mem_bits ..).2 rfl) hp | dsimp only [Part.same]) ?_)
    | with_reducible exact .refl _ _
    | assumption
    | with_unfolding_all decide
    | with_reducible refine .ite ?_ ?_
    | with_reducible refine .ite_snd ?_ ?_
    | with_reducible apply Alters.step (endJob_only ..)
    | with_reducible refine .fold ?_ (fun _ _ => ?_)
    | split
    | refine .upd (fun p hp => by cases p <;> first | exact absurd ((Part.mem_bits ..).2 rfl) hp | dsimp only [Part.same]) ?_

theorem clearJobs_only (s : State) :
    Alters [.smelter, .regs] s (s.clearJobs) := by
  unfold State.clearJobs
  repeat' first
    | ((conv => enter [3, 21]); refine .upd (fun p hp => by cases p <;> first | exact absurd ((Part.mem_bits ..).2 rfl) hp | dsimp only [Part.same]) ?_)
    | with_reducible exact .refl _ _
    | assumption
    | with_unfolding_all decide
    | with_reducible refine .ite ?_ ?_
    | with_reducible refine .ite_snd ?_ ?_
    | with_reducible refine .fold ?_ (fun _ _ => ?_)
    | split
    | refine .upd (fun p hp => by cases p <;> first | exact absurd ((Part.mem_bits ..).2 rfl) hp | dsimp only [Part.same]) ?_

theorem emitMark_only (s : State) (kind lv b next : Nat) (p : Place) (markId segment pre : Nat) :
    Alters [.closing] s (s.emitMark kind lv b next p markId segment pre) := by
  unfold State.emitMark
  repeat' first
    | with_reducible exact .refl _ _
    | assumption
    | with_unfolding_all decide
    | with_reducible refine .ite ?_ ?_
    | with_reducible refine .ite_snd ?_ ?_
    | with_reducible apply Alters.step (emitControl_only ..)
    | with_reducible refine .fold ?_ (fun _ _ => ?_)
    | split

theorem acceptTrigger_only (s : State) (g : Nat) (t : Trig) :
    Alters [.shaft] s (s.acceptTrigger g t).2 := by
  unfold State.acceptTrigger
  repeat' first
    | with_reducible exact .refl _ _
    | assumption
    | with_unfolding_all decide
    | with_reducible refine .ite ?_ ?_
    | with_reducible refine .ite_snd ?_ ?_
    | with_reducible apply Alters.step (onSegment_only ..)
    | with_reducible refine .fold ?_ (fun _ _ => ?_)
    | split

theorem trigger_only (s : State) (lv b next : Nat) (p : Place) (markId : Nat) :
    Alters [.closing, .shaft] s (s.trigger lv b next p markId) := by
  unfold State.trigger
  repeat' first
    | ((conv => enter [3, 21]); refine .upd (fun p hp => by cases p <;> first | exact absurd ((Part.mem_bits ..).2 rfl) hp | dsimp only [Part.same]) ?_)
    | with_reducible exact .refl _ _
    | assumption
    | with_unfolding_all decide
    | with_reducible refine .ite ?_ ?_
    | with_reducible refine .ite_snd ?_ ?_
    | with_reducible apply Alters.step (acceptTrigger_only ..)
    | with_reducible apply Alters.step (emitMark_only ..)
    | with_reducible refine .fold ?_ (fun _ _ => ?_)
    | split
    | refine .upd (fun p hp => by cases p <;> first | exact absurd ((Part.mem_bits ..).2 rfl) hp | dsimp only [Part.same]) ?_

theorem emitFiring_only (s : State) (a lv b term : Nat) :
    Alters [.closing, .shaft] s (s.emitFiring a lv b term) := by
  unfold State.emitFiring
  repeat' first
    | with_reducible exact .refl _ _
    | assumption
    | with_unfolding_all decide
    | with_reducible refine .ite ?_ ?_
    | with_reducible refine .ite_snd ?_ ?_
    | with_reducible apply Alters.step (emitMark_only ..)
    | with_reducible apply Alters.step (trigger_only ..)
    | with_reducible refine .fold ?_ (fun _ _ => ?_)
    | split

theorem driveMark_only (s : State) (n : Nat) :
    Alters [.shaft, .sent] s (s.driveMark n) := by
  unfold State.driveMark
  repeat' first
    | ((conv => enter [3, 21]); refine .upd (fun p hp => by cases p <;> first | exact absurd ((Part.mem_bits ..).2 rfl) hp | dsimp only [Part.same]) ?_)
    | with_reducible exact .refl _ _
    | assumption
    | with_unfolding_all decide
    | with_reducible refine .ite ?_ ?_
    | with_reducible refine .ite_snd ?_ ?_
    | with_reducible apply Alters.step (send_only ..)
    | with_reducible refine .fold ?_ (fun _ _ => ?_)
    | split
    | refine .upd (fun p hp => by cases p <;> first | exact absurd ((Part.mem_bits ..).2 rfl) hp | dsimp only [Part.same]) ?_

theorem driveInst_only (s : State) (n : Nat) :
    Alters [.shaft, .sent] s (s.driveInst n) := by
  unfold State.driveInst
  repeat' first
    | ((conv => enter [3, 21]); refine .upd (fun p hp => by cases p <;> first | exact absurd ((Part.mem_bits ..).2 rfl) hp | dsimp only [Part.same]) ?_)
    | with_reducible exact .refl _ _
    | assumption
    | with_unfolding_all decide
    | with_reducible refine .ite ?_ ?_
    | with_reducible refine .ite_snd ?_ ?_
    | with_reducible apply Alters.step (send_only ..)
    | with_reducible refine .fold ?_ (fun _ _ => ?_)
    | split
    | refine .upd (fun p hp => by cases p <;> first | exact absurd ((Part.mem_bits ..).2 rfl) hp | dsimp only [Part.same]) ?_

theorem driveFlag_only (s : State) (n : Nat) :
    Alters [.shaft, .sent] s (s.driveFlag n) := by
  unfold State.driveFlag
  repeat' first
    | ((conv => enter [3, 21]); refine .upd (fun p hp => by cases p <;> first | exact absurd ((Part.mem_bits ..).2 rfl) hp | dsimp only [Part.same]) ?_)
    | with_reducible exact .refl _ _
    | assumption
    | with_unfolding_all decide
    | with_reducible refine .ite ?_ ?_
    | with_reducible refine .ite_snd ?_ ?_
    | with_reducible apply Alters.step (send_only ..)
    | with_reducible refine .fold ?_ (fun _ _ => ?_)
    | split
    | refine .upd (fun p hp => by cases p <;> first | exact absurd ((Part.mem_bits ..).2 rfl) hp | dsimp only [Part.same]) ?_

theorem drivePins_only (s : State) :
    Alters [.shaft, .sent] s (s.drivePins) := by
  unfold State.drivePins
  repeat' first
    | with_reducible exact .refl _ _
    | assumption
    | with_unfolding_all decide
    | with_reducible refine .ite ?_ ?_
    | with_reducible refine .ite_snd ?_ ?_
    | with_reducible apply Alters.step (driveFlag_only ..)
    | with_reducible apply Alters.step (driveInst_only ..)
    | with_reducible apply Alters.step (driveMark_only ..)
    | with_reducible refine .fold ?_ (fun _ _ => ?_)
    | split

theorem noteShown_only (s : State) :
    Alters [.shaft] s (s.noteShown) := by
  unfold State.noteShown
  repeat' first
    | ((conv => enter [3, 21]); refine .upd (fun p hp => by cases p <;> first | exact absurd ((Part.mem_bits ..).2 rfl) hp | dsimp only [Part.same]) ?_)
    | with_reducible exact .refl _ _
    | assumption
    | with_unfolding_all decide
    | with_reducible refine .ite ?_ ?_
    | with_reducible refine .ite_snd ?_ ?_
    | with_reducible refine .fold ?_ (fun _ _ => ?_)
    | split
    | refine .upd (fun p hp => by cases p <;> first | exact absurd ((Part.mem_bits ..).2 rfl) hp | dsimp only [Part.same]) ?_

theorem showLevels_only (s : State) :
    Alters [.shaft, .sent] s (s.showLevels) := by
  unfold State.showLevels
  repeat' first
    | ((conv => enter [3, 21]); refine .upd (fun p hp => by cases p <;> first | exact absurd ((Part.mem_bits ..).2 rfl) hp | dsimp only [Part.same]) ?_)
    | with_reducible exact .refl _ _
    | assumption
    | with_unfolding_all decide
    | with_reducible refine .ite ?_ ?_
    | with_reducible refine .ite_snd ?_ ?_
    | with_reducible apply Alters.step (drivePins_only ..)
    | with_reducible refine .fold ?_ (fun _ _ => ?_)
    | split
    | refine .upd (fun p hp => by cases p <;> first | exact absurd ((Part.mem_bits ..).2 rfl) hp | dsimp only [Part.same]) ?_

theorem fireMarkers_only (s : State) (mask : Nat) :
    Alters [.shaft] s (s.fireMarkers mask) := by
  unfold State.fireMarkers
  repeat' first
    | ((conv => enter [3, 21]); refine .upd (fun p hp => by cases p <;> first | exact absurd ((Part.mem_bits ..).2 rfl) hp | dsimp only [Part.same]) ?_)
    | with_reducible exact .refl _ _
    | assumption
    | with_unfolding_all decide
    | with_reducible refine .ite ?_ ?_
    | with_reducible refine .ite_snd ?_ ?_
    | with_reducible refine .fold ?_ (fun _ _ => ?_)
    | split
    | refine .upd (fun p hp => by cases p <;> first | exact absurd ((Part.mem_bits ..).2 rfl) hp | dsimp only [Part.same]) ?_

theorem markOutAssert_only (s : State) (n : Nat) :
    Alters [.shaft, .sent] s (s.markOutAssert n) := by
  unfold State.markOutAssert
  dsimp only
  split
  · refine .ite (.ite ?_ (.upd (fun p hp => by cases p <;> first | exact absurd ((Part.mem_bits ..).2 rfl) hp | rfl) (.refl ..))) (.refl ..)
    rename_i c w l _
    generalize (if (vget s.shaft.markers n {}).active = true then max (vget s.shaft.markers n {}).endAt (c + w) else c + w) = e
    have h : Alters [.shaft, .sent] s
        { s with shaft.markers := vmod s.shaft.markers n fun x => { x with active := true, endAt := e, due := l } } :=
      .upd (fun p hp => by cases p <;> first | exact absurd ((Part.mem_bits ..).2 rfl) hp | rfl) (.refl ..)
    exact (drivePins_only ..).next h
  · exact .refl ..

theorem markOutEnd_only (s : State) (n : Nat) :
    Alters [.shaft, .sent] s (s.markOutEnd n) := by
  unfold State.markOutEnd
  repeat' first
    | ((conv => enter [3, 21]); refine .upd (fun p hp => by cases p <;> first | exact absurd ((Part.mem_bits ..).2 rfl) hp | dsimp only [Part.same]) ?_)
    | with_reducible exact .refl _ _
    | assumption
    | with_unfolding_all decide
    | with_reducible refine .ite ?_ ?_
    | with_reducible refine .ite_snd ?_ ?_
    | with_reducible apply Alters.step (drivePins_only ..)
    | with_reducible refine .fold ?_ (fun _ _ => ?_)
    | split
    | refine .upd (fun p hp => by cases p <;> first | exact absurd ((Part.mem_bits ..).2 rfl) hp | dsimp only [Part.same]) ?_

theorem setStorage_only (s : State) (store : Nat) :
    Alters [.shaft] s (s.setStorage store) := by
  unfold State.setStorage
  repeat' first
    | ((conv => enter [3, 21]); refine .upd (fun p hp => by cases p <;> first | exact absurd ((Part.mem_bits ..).2 rfl) hp | dsimp only [Part.same]) ?_)
    | with_reducible exact .refl _ _
    | assumption
    | with_unfolding_all decide
    | with_reducible refine .ite ?_ ?_
    | with_reducible refine .ite_snd ?_ ?_
    | with_reducible apply Alters.step (noteShown_only ..)
    | with_reducible refine .fold ?_ (fun _ _ => ?_)
    | split
    | refine .upd (fun p hp => by cases p <;> first | exact absurd ((Part.mem_bits ..).2 rfl) hp | dsimp only [Part.same]) ?_

theorem stepTimers_only (s : State) (a : Option Nat) :
    Alters [.shaft] s (s.stepTimers a) := by
  unfold State.stepTimers
  repeat' first
    | ((conv => enter [3, 21]); refine .upd (fun p hp => by cases p <;> first | exact absurd ((Part.mem_bits ..).2 rfl) hp | dsimp only [Part.same]) ?_)
    | with_reducible exact .refl _ _
    | assumption
    | with_unfolding_all decide
    | with_reducible refine .ite ?_ ?_
    | with_reducible refine .ite_snd ?_ ?_
    | with_reducible refine .fold ?_ (fun _ _ => ?_)
    | split
    | refine .upd (fun p hp => by cases p <;> first | exact absurd ((Part.mem_bits ..).2 rfl) hp | dsimp only [Part.same]) ?_

theorem noteDigest_only (s : State) (lv : Nat) (b : Option Nat) :
    Alters [.shaft] s (s.noteDigest lv b) := by
  unfold State.noteDigest
  repeat' first
    | ((conv => enter [3, 21]); refine .upd (fun p hp => by cases p <;> first | exact absurd ((Part.mem_bits ..).2 rfl) hp | dsimp only [Part.same]) ?_)
    | with_reducible exact .refl _ _
    | assumption
    | with_unfolding_all decide
    | with_reducible refine .ite ?_ ?_
    | with_reducible refine .ite_snd ?_ ?_
    | with_reducible refine .fold ?_ (fun _ _ => ?_)
    | split
    | refine .upd (fun p hp => by cases p <;> first | exact absurd ((Part.mem_bits ..).2 rfl) hp | dsimp only [Part.same]) ?_

theorem decide__only (s : State) :
    Alters [.closing, .shaft] s (s.decide_) := by
  unfold State.decide_
  repeat' first
    | ((conv => enter [3, 21]); refine .upd (fun p hp => by cases p <;> first | exact absurd ((Part.mem_bits ..).2 rfl) hp | dsimp only [Part.same]) ?_)
    | with_reducible exact .refl _ _
    | assumption
    | with_unfolding_all decide
    | with_reducible refine .ite ?_ ?_
    | with_reducible refine .ite_snd ?_ ?_
    | with_reducible apply Alters.step (noteDigest_only ..)
    | with_reducible apply Alters.step (setStorage_only ..)
    | with_reducible apply Alters.step (fireMarkers_only ..)
    | with_reducible apply Alters.step (stepTimers_only ..)
    | with_reducible apply Alters.step (emitFiring_only ..)
    | with_reducible refine .fold ?_ (fun _ _ => ?_)
    | split
    | refine .upd (fun p hp => by cases p <;> first | exact absurd ((Part.mem_bits ..).2 rfl) hp | dsimp only [Part.same]) ?_

theorem shaftDecision_only (s : State) :
    Alters [.closing, .shaft] s (s.shaftDecision) := by
  unfold State.shaftDecision
  repeat' first
    | with_reducible exact .refl _ _
    | assumption
    | with_unfolding_all decide
    | with_reducible refine .ite ?_ ?_
    | with_reducible refine .ite_snd ?_ ?_
    | with_reducible apply Alters.step (decide__only ..)
    | with_reducible refine .fold ?_ (fun _ _ => ?_)
    | split

theorem shaftZero_only (s : State) :
    Alters [.shaft] s (s.shaftZero) := by
  unfold State.shaftZero
  repeat' first
    | ((conv => enter [3, 21]); refine .upd (fun p hp => by cases p <;> first | exact absurd ((Part.mem_bits ..).2 rfl) hp | dsimp only [Part.same]) ?_)
    | with_reducible exact .refl _ _
    | assumption
    | with_unfolding_all decide
    | with_reducible refine .ite ?_ ?_
    | with_reducible refine .ite_snd ?_ ?_
    | with_reducible refine .fold ?_ (fun _ _ => ?_)
    | split
    | refine .upd (fun p hp => by cases p <;> first | exact absurd ((Part.mem_bits ..).2 rfl) hp | dsimp only [Part.same]) ?_

theorem shaftRun_only (s : State) (capture : Bool) :
    Alters [.shaft] s (s.shaftRun capture) := by
  unfold State.shaftRun
  repeat' first
    | ((conv => enter [3, 21]); refine .upd (fun p hp => by cases p <;> first | exact absurd ((Part.mem_bits ..).2 rfl) hp | dsimp only [Part.same]) ?_)
    | with_reducible exact .refl _ _
    | assumption
    | with_unfolding_all decide
    | with_reducible refine .ite ?_ ?_
    | with_reducible refine .ite_snd ?_ ?_
    | with_reducible refine .fold ?_ (fun _ _ => ?_)
    | split
    | refine .upd (fun p hp => by cases p <;> first | exact absurd ((Part.mem_bits ..).2 rfl) hp | dsimp only [Part.same]) ?_

theorem shaftEpoch_only (s : State) (capture restart : Bool) :
    Alters [.shaft] s (s.shaftEpoch capture restart) := by
  unfold State.shaftEpoch
  repeat' first
    | with_reducible exact .refl _ _
    | assumption
    | with_unfolding_all decide
    | with_reducible refine .ite ?_ ?_
    | with_reducible refine .ite_snd ?_ ?_
    | with_reducible apply Alters.step (shaftRun_only ..)
    | with_reducible apply Alters.step (shaftZero_only ..)
    | with_reducible apply Alters.step (noteShown_only ..)
    | with_reducible refine .fold ?_ (fun _ _ => ?_)
    | split

theorem lineTaps_only (s : State) (n : Nat) (taps : BitVec 64) (nextTap : Bool) :
    Alters [.shaft] s (s.lineTaps n taps nextTap) := by
  unfold State.lineTaps
  repeat' first
    | ((conv => enter [3, 21]); refine .upd (fun p hp => by cases p <;> first | exact absurd ((Part.mem_bits ..).2 rfl) hp | dsimp only [Part.same]) ?_)
    | with_reducible exact .refl _ _
    | assumption
    | with_unfolding_all decide
    | with_reducible refine .ite ?_ ?_
    | with_reducible refine .ite_snd ?_ ?_
    | with_reducible refine .fold ?_ (fun _ _ => ?_)
    | split
    | refine .upd (fun p hp => by cases p <;> first | exact absurd ((Part.mem_bits ..).2 rfl) hp | dsimp only [Part.same]) ?_

theorem lineStuck_only (s : State) (n : Nat) :
    Alters [.shaft, .grizzly, .regs, .fm] s (s.lineStuck n) := by
  unfold State.lineStuck
  repeat' first
    | ((conv => enter [3, 21]); refine .upd (fun p hp => by cases p <;> first | exact absurd ((Part.mem_bits ..).2 rfl) hp | dsimp only [Part.same]) ?_)
    | with_reducible exact .refl _ _
    | assumption
    | with_unfolding_all decide
    | with_reducible refine .ite ?_ ?_
    | with_reducible refine .ite_snd ?_ ?_
    | with_reducible apply Alters.step (event_only ..)
    | with_reducible refine .fold ?_ (fun _ _ => ?_)
    | split
    | refine .upd (fun p hp => by cases p <;> first | exact absurd ((Part.mem_bits ..).2 rfl) hp | dsimp only [Part.same]) ?_

theorem settleLine_only (s : State) (n : Nat) :
    Alters [.shaft, .grizzly, .regs, .fm] s (s.settleLine n) := by
  unfold State.settleLine
  repeat' first
    | ((conv => enter [3, 21]); refine .upd (fun p hp => by cases p <;> first | exact absurd ((Part.mem_bits ..).2 rfl) hp | dsimp only [Part.same]) ?_)
    | with_reducible exact .refl _ _
    | assumption
    | with_unfolding_all decide
    | with_reducible refine .ite ?_ ?_
    | with_reducible refine .ite_snd ?_ ?_
    | with_reducible apply Alters.step (event_only ..)
    | with_reducible refine .fold ?_ (fun _ _ => ?_)
    | split
    | refine .upd (fun p hp => by cases p <;> first | exact absurd ((Part.mem_bits ..).2 rfl) hp | dsimp only [Part.same]) ?_

theorem keepSources_only (s : State) :
    Alters [.shaft] s (s.keepSources) := by
  unfold State.keepSources
  repeat' first
    | ((conv => enter [3, 21]); refine .upd (fun p hp => by cases p <;> first | exact absurd ((Part.mem_bits ..).2 rfl) hp | dsimp only [Part.same]) ?_)
    | with_reducible exact .refl _ _
    | assumption
    | with_unfolding_all decide
    | with_reducible refine .ite ?_ ?_
    | with_reducible refine .ite_snd ?_ ?_
    | with_reducible refine .fold ?_ (fun _ _ => ?_)
    | split
    | refine .upd (fun p hp => by cases p <;> first | exact absurd ((Part.mem_bits ..).2 rfl) hp | dsimp only [Part.same]) ?_

theorem settleFlags_only (s : State) :
    Alters [.shaft] s (s.settleFlags) := by
  unfold State.settleFlags
  repeat' first
    | ((conv => enter [3, 21]); refine .upd (fun p hp => by cases p <;> first | exact absurd ((Part.mem_bits ..).2 rfl) hp | dsimp only [Part.same]) ?_)
    | with_reducible exact .refl _ _
    | assumption
    | with_unfolding_all decide
    | with_reducible refine .ite ?_ ?_
    | with_reducible refine .ite_snd ?_ ?_
    | with_reducible refine .fold ?_ (fun _ _ => ?_)
    | split
    | refine .upd (fun p hp => by cases p <;> first | exact absurd ((Part.mem_bits ..).2 rfl) hp | dsimp only [Part.same]) ?_

theorem settleSample_only (s : State) :
    Alters [.shaft, .grizzly, .regs, .fm] s (s.settleSample) := by
  exact (settleFlags_only ..).next (.fold (keepSources_only ..).mono fun u n => settleLine_only ..)

theorem acceptFlag_only (s : State) (n : Nat) (level : Bool) :
    Alters [.shaft] s (s.acceptFlag n level) := by
  unfold State.acceptFlag
  repeat' first
    | ((conv => enter [3, 21]); refine .upd (fun p hp => by cases p <;> first | exact absurd ((Part.mem_bits ..).2 rfl) hp | dsimp only [Part.same]) ?_)
    | with_reducible exact .refl _ _
    | assumption
    | with_unfolding_all decide
    | with_reducible refine .ite ?_ ?_
    | with_reducible refine .ite_snd ?_ ?_
    | with_reducible refine .fold ?_ (fun _ _ => ?_)
    | split
    | refine .upd (fun p hp => by cases p <;> first | exact absurd ((Part.mem_bits ..).2 rfl) hp | dsimp only [Part.same]) ?_

theorem flagInput_only (s : State) (n : Nat) (level : Bool) :
    Alters [.shaft, .twin] s (s.flagInput n level) := by
  unfold State.flagInput
  repeat' first
    | ((conv => enter [3, 21]); refine .upd (fun p hp => by cases p <;> first | exact absurd ((Part.mem_bits ..).2 rfl) hp | dsimp only [Part.same]) ?_)
    | with_reducible exact .refl _ _
    | assumption
    | with_unfolding_all decide
    | with_reducible refine .ite ?_ ?_
    | with_reducible refine .ite_snd ?_ ?_
    | with_reducible apply Alters.step (acceptFlag_only ..)
    | with_reducible refine .fold ?_ (fun _ _ => ?_)
    | split
    | refine .upd (fun p hp => by cases p <;> first | exact absurd ((Part.mem_bits ..).2 rfl) hp | dsimp only [Part.same]) ?_

theorem runAgain_only (s : State) (k : Nat) (edges : List (Nat × Edge)) :
    Alters [.grizzly, .slots, .regs, .fm] s (s.runAgain k edges) := by
  unfold State.runAgain
  repeat' first
    | with_reducible exact .refl _ _
    | assumption
    | with_unfolding_all decide
    | with_reducible refine .ite ?_ ?_
    | with_reducible refine .ite_snd ?_ ?_
    | with_reducible apply Alters.step (onSlot_only ..)
    | with_reducible apply Alters.step (event_only ..)
    | with_reducible refine .fold ?_ (fun _ _ => ?_)
    | split

theorem assaySample_only (s : State) (k : Nat) :
    Alters [.seams, .grizzly, .slots, .regs, .fm] s (s.assaySample k) := by
  unfold State.assaySample
  repeat' first
    | ((conv => enter [3, 21]); refine .upd (fun p hp => by cases p <;> first | exact absurd ((Part.mem_bits ..).2 rfl) hp | dsimp only [Part.same]) ?_)
    | with_reducible exact .refl _ _
    | assumption
    | with_unfolding_all decide
    | with_reducible refine .ite ?_ ?_
    | with_reducible refine .ite_snd ?_ ?_
    | with_reducible apply Alters.step (onSlot_only ..)
    | with_reducible apply Alters.step (runAgain_only ..)
    | with_reducible refine .fold ?_ (fun _ _ => ?_)
    | split
    | refine .upd (fun p hp => by cases p <;> first | exact absurd ((Part.mem_bits ..).2 rfl) hp | dsimp only [Part.same]) ?_

theorem orFree_only (s : State) (v : Option Nat) :
    Alters [.free] s (s.orFree v).2 := by
  unfold State.orFree
  repeat' first
    | with_reducible exact .refl _ _
    | assumption
    | with_unfolding_all decide
    | with_reducible refine .ite ?_ ?_
    | with_reducible refine .ite_snd ?_ ?_
    | with_reducible apply Alters.step (takeFree_only ..)
    | with_reducible refine .fold ?_ (fun _ _ => ?_)
    | split

theorem clockBody_only (s : State) (k a b : Nat) :
    Alters [.seams, .free] s (s.clockBody k a b).2 := by
  unfold State.clockBody
  repeat' first
    | ((conv => enter [3, 21]); refine .upd (fun p hp => by cases p <;> first | exact absurd ((Part.mem_bits ..).2 rfl) hp | dsimp only [Part.same]) ?_)
    | with_reducible exact .refl _ _
    | assumption
    | with_unfolding_all decide
    | with_reducible refine .ite ?_ ?_
    | with_reducible refine .ite_snd ?_ ?_
    | with_reducible apply Alters.step (orFree_only ..)
    | with_reducible refine .fold ?_ (fun _ _ => ?_)
    | split
    | refine .upd (fun p hp => by cases p <;> first | exact absurd ((Part.mem_bits ..).2 rfl) hp | dsimp only [Part.same]) ?_

theorem assayBody_only (s : State) (k : Nat) (r : AssayDue) (golden : Nat) :
    Alters [.seams, .free] s (s.assayBody k r golden).2 := by
  unfold State.assayBody
  repeat' first
    | with_reducible exact .refl _ _
    | assumption
    | with_unfolding_all decide
    | with_reducible refine .ite ?_ ?_
    | with_reducible refine .ite_snd ?_ ?_
    | with_reducible apply Alters.step (clockBody_only ..)
    | with_reducible refine .fold ?_ (fun _ _ => ?_)
    | split

theorem noteStuck_only (s : State) (k mask : Nat) :
    Alters [.grizzly, .slots, .regs, .fm] s (s.noteStuck k mask) := by
  unfold State.noteStuck
  repeat' first
    | with_reducible exact .refl _ _
    | assumption
    | with_unfolding_all decide
    | with_reducible refine .ite ?_ ?_
    | with_reducible refine .ite_snd ?_ ?_
    | with_reducible apply Alters.step (onSlot_only ..)
    | with_reducible apply Alters.step (event_only ..)
    | with_reducible refine .fold ?_ (fun _ _ => ?_)
    | split

theorem mismatch_only (s : State) (k : Nat) (found golden : Nat) :
    Alters [.grizzly, .slots, .regs, .fm] s (s.mismatch k found golden) := by
  unfold State.mismatch
  repeat' first
    | with_reducible exact .refl _ _
    | assumption
    | with_unfolding_all decide
    | with_reducible refine .ite ?_ ?_
    | with_reducible refine .ite_snd ?_ ?_
    | with_reducible apply Alters.step (onSlot_only ..)
    | with_reducible apply Alters.step (notice_only ..)
    | with_reducible refine .fold ?_ (fun _ _ => ?_)
    | split

theorem finishResult_only (s : State) (k : Nat) (r : AssayDue) :
    Alters [.seams, .grizzly, .slots, .regs, .fm, .free] s (s.finishResult k r).2 := by
  unfold State.finishResult
  repeat' first
    | with_reducible exact .refl _ _
    | assumption
    | with_unfolding_all decide
    | with_reducible refine .ite ?_ ?_
    | with_reducible refine .ite_snd ?_ ?_
    | with_reducible apply Alters.step (assayBody_only ..)
    | with_reducible apply Alters.step (mismatch_only ..)
    | with_reducible apply Alters.step (noteStuck_only ..)
    | with_reducible refine .fold ?_ (fun _ _ => ?_)
    | split

theorem closeScope_only (s : State) (k b : Nat) (cutEnd : Bool) :
    Alters [.seams, .grizzly, .slots, .regs, .fm, .free] s (s.closeScope k b cutEnd) := by
  unfold State.closeScope
  repeat' first
    | ((conv => enter [3, 21]); refine .upd (fun p hp => by cases p <;> first | exact absurd ((Part.mem_bits ..).2 rfl) hp | dsimp only [Part.same]) ?_)
    | with_reducible exact .refl _ _
    | assumption
    | with_unfolding_all decide
    | with_reducible refine .ite ?_ ?_
    | with_reducible refine .ite_snd ?_ ?_
    | with_reducible apply Alters.step (onSlot_only ..)
    | with_reducible apply Alters.step (finishResult_only ..)
    | with_reducible refine .fold ?_ (fun _ _ => ?_)
    | split
    | refine .upd (fun p hp => by cases p <;> first | exact absurd ((Part.mem_bits ..).2 rfl) hp | dsimp only [Part.same]) ?_

theorem openScope_only (s : State) (k : Nat) (cut : Bool) :
    Alters [.slots] s (s.openScope k cut) := by
  unfold State.openScope
  repeat' first
    | with_reducible exact .refl _ _
    | assumption
    | with_unfolding_all decide
    | with_reducible refine .ite ?_ ?_
    | with_reducible refine .ite_snd ?_ ?_
    | with_reducible apply Alters.step (onSlot_only ..)
    | with_reducible refine .fold ?_ (fun _ _ => ?_)
    | split

theorem assayBoundary_only (s : State) (k : Nat) :
    Alters [.seams, .grizzly, .slots, .regs, .fm, .free] s (s.assayBoundary k) := by
  unfold State.assayBoundary
  repeat' first
    | with_reducible exact .refl _ _
    | assumption
    | with_unfolding_all decide
    | with_reducible refine .ite ?_ ?_
    | with_reducible refine .ite_snd ?_ ?_
    | with_reducible apply Alters.step (onSlot_only ..)
    | with_reducible apply Alters.step (openScope_only ..)
    | with_reducible apply Alters.step (closeScope_only ..)
    | with_reducible refine .fold ?_ (fun _ _ => ?_)
    | split

theorem finishAll_only (s : State) (k : Nat) :
    Alters [.seams, .grizzly, .slots, .regs, .fm, .free] s (s.finishAll k) := by
  have go (l : List AssayDue) (x : List AssayDue × State) :
      Alters [.seams, .grizzly, .slots, .regs, .fm, .free] x.2 (l.foldl (fun (x : List AssayDue × State) r =>
        ((x.1 ++ [(if r.kind == akCrc then (r, x.2) else x.2.finishResult k r).1],
          (if r.kind == akCrc then (r, x.2) else x.2.finishResult k r).2) : List AssayDue × State)) x).2 := by
    induction l generalizing x with
    | nil => exact .refl ..
    | cons r l ih =>
      have h : Alters [.seams, .grizzly, .slots, .regs, .fm, .free] x.2
          (if r.kind == akCrc then (r, x.2) else x.2.finishResult k r).2 := .ite_snd (.refl ..) (finishResult_only x.2 k r)
      exact h.trans (ih (_, _)) (.refl _) (.refl _)
  exact (onSlot_only ..).next (go (s.slot k).closed ([], s))

theorem assayCut_only (s : State) (k : Nat) :
    Alters [.seams, .grizzly, .slots, .regs, .fm, .free] s (s.assayCut k) := by
  unfold State.assayCut
  repeat' first
    | with_reducible exact .refl _ _
    | assumption
    | with_unfolding_all decide
    | with_reducible refine .ite ?_ ?_
    | with_reducible refine .ite_snd ?_ ?_
    | with_reducible apply Alters.step (onSlot_only ..)
    | with_reducible apply Alters.step (closeScope_only ..)
    | with_reducible apply Alters.step (finishAll_only ..)
    | with_reducible refine .fold ?_ (fun _ _ => ?_)
    | split

theorem assayOpen_only (s : State) (k : Nat) (old : Nat → Nat → Nat) (zero starts wasOpen : Bool) :
    Alters [.slots] s (s.assayOpen k old zero starts wasOpen) := by
  unfold State.assayOpen
  repeat' first
    | with_reducible exact .refl _ _
    | assumption
    | with_unfolding_all decide
    | with_reducible refine .ite ?_ ?_
    | with_reducible refine .ite_snd ?_ ?_
    | with_reducible apply Alters.step (onSlot_only ..)
    | with_reducible apply Alters.step (openScope_only ..)
    | with_reducible refine .fold ?_ (fun _ _ => ?_)
    | split

theorem deliverResult_only (s : State) (r : AssayDue) :
    Alters [.grizzly, .fm] s (s.deliverResult r) := by
  unfold State.deliverResult
  repeat' first
    | ((conv => enter [3, 21]); refine .upd (fun p hp => by cases p <;> first | exact absurd ((Part.mem_bits ..).2 rfl) hp | dsimp only [Part.same]) ?_)
    | with_reducible exact .refl _ _
    | assumption
    | with_unfolding_all decide
    | with_reducible refine .ite ?_ ?_
    | with_reducible refine .ite_snd ?_ ?_
    | with_reducible apply Alters.step (enqueueB_only ..)
    | with_reducible refine .fold ?_ (fun _ _ => ?_)
    | split
    | refine .upd (fun p hp => by cases p <;> first | exact absurd ((Part.mem_bits ..).2 rfl) hp | dsimp only [Part.same]) ?_

theorem enqueueResult_only (s : State) (k : Nat) :
    Alters [.seams, .grizzly, .slots, .regs, .fm, .free] s (s.enqueueResult k) := by
  unfold State.enqueueResult
  repeat' first
    | with_reducible exact .refl _ _
    | assumption
    | with_unfolding_all decide
    | with_reducible refine .ite ?_ ?_
    | with_reducible refine .ite_snd ?_ ?_
    | with_reducible apply Alters.step (onSlot_only ..)
    | with_reducible apply Alters.step (deliverResult_only ..)
    | with_reducible apply Alters.step (finishResult_only ..)
    | with_reducible refine .fold ?_ (fun _ _ => ?_)
    | split

theorem loseResults_only (s : State) :
    Alters [.slots] s (s.loseResults) := by
  unfold State.loseResults
  repeat' first
    | ((conv => enter [3, 21]); refine .upd (fun p hp => by cases p <;> first | exact absurd ((Part.mem_bits ..).2 rfl) hp | dsimp only [Part.same]) ?_)
    | with_reducible exact .refl _ _
    | assumption
    | with_unfolding_all decide
    | with_reducible refine .ite ?_ ?_
    | with_reducible refine .ite_snd ?_ ?_
    | with_reducible refine .fold ?_ (fun _ _ => ?_)
    | split
    | refine .upd (fun p hp => by cases p <;> first | exact absurd ((Part.mem_bits ..).2 rfl) hp | dsimp only [Part.same]) ?_

theorem onClaim_only (s : State) (i : Nat) (f : Claim → Claim) :
    Alters [.regs] s (s.onClaim i f) := by
  unfold State.onClaim
  repeat' first
    | ((conv => enter [3, 21]); refine .upd (fun p hp => by cases p <;> first | exact absurd ((Part.mem_bits ..).2 rfl) hp | dsimp only [Part.same]) ?_)
    | with_reducible exact .refl _ _
    | assumption
    | with_unfolding_all decide
    | with_reducible refine .ite ?_ ?_
    | with_reducible refine .ite_snd ?_ ?_
    | with_reducible refine .fold ?_ (fun _ _ => ?_)
    | split
    | refine .upd (fun p hp => by cases p <;> first | exact absurd ((Part.mem_bits ..).2 rfl) hp | dsimp only [Part.same]) ?_

theorem readClaim_only (s : State) (m : Master) (i : Nat) (zeroLength : Bool) :
    Alters [.regs] s (s.readClaim m i zeroLength).2 := by
  unfold State.readClaim
  repeat' first
    | with_reducible exact .refl _ _
    | assumption
    | with_unfolding_all decide
    | with_reducible refine .ite ?_ ?_
    | with_reducible refine .ite_snd ?_ ?_
    | with_reducible apply Alters.step (onClaim_only ..)
    | with_reducible refine .fold ?_ (fun _ _ => ?_)
    | split

theorem freeClaim_only (s : State) (i : Nat) :
    Alters [.regs] s (s.freeClaim i) := by
  unfold State.freeClaim
  repeat' first
    | with_reducible exact .refl _ _
    | assumption
    | with_unfolding_all decide
    | with_reducible refine .ite ?_ ?_
    | with_reducible refine .ite_snd ?_ ?_
    | with_reducible apply Alters.step (onClaim_only ..)
    | with_reducible refine .fold ?_ (fun _ _ => ?_)
    | split

theorem writeClaim_only (s : State) (m : Master) (i owner : Nat) :
    Alters [.regs] s (s.writeClaim m i owner) := by
  unfold State.writeClaim
  repeat' first
    | with_reducible exact .refl _ _
    | assumption
    | with_unfolding_all decide
    | with_reducible refine .ite ?_ ?_
    | with_reducible refine .ite_snd ?_ ?_
    | with_reducible apply Alters.step (freeClaim_only ..)
    | with_reducible apply Alters.step (accessFault_only ..)
    | with_reducible refine .fold ?_ (fun _ _ => ?_)
    | split

theorem dropClaims_only (s : State) (m : Master) :
    Alters [.regs] s (s.dropClaims m) := by
  unfold State.dropClaims
  repeat' first
    | ((conv => enter [3, 21]); refine .upd (fun p hp => by cases p <;> first | exact absurd ((Part.mem_bits ..).2 rfl) hp | dsimp only [Part.same]) ?_)
    | with_reducible exact .refl _ _
    | assumption
    | with_unfolding_all decide
    | with_reducible refine .ite ?_ ?_
    | with_reducible refine .ite_snd ?_ ?_
    | with_reducible refine .fold ?_ (fun _ _ => ?_)
    | split
    | refine .upd (fun p hp => by cases p <;> first | exact absurd ((Part.mem_bits ..).2 rfl) hp | dsimp only [Part.same]) ?_

theorem compareCopies_only (s : State) (f : VotedField) (a b c : Nat) :
    Alters [.modes, .grizzly, .regs, .twin, .fm] s (s.compareCopies f a b c).1 := by
  unfold State.compareCopies
  repeat' first
    | ((conv => enter [3, 21]); refine .upd (fun p hp => by cases p <;> first | exact absurd ((Part.mem_bits ..).2 rfl) hp | dsimp only [Part.same]) ?_)
    | with_reducible exact .refl _ _
    | assumption
    | with_unfolding_all decide
    | with_reducible refine .ite ?_ ?_
    | with_reducible refine .ite_snd ?_ ?_
    | with_reducible refine .fold ?_ (fun _ _ => ?_)
    | split
    | refine .upd (fun p hp => by cases p <;> first | exact absurd ((Part.mem_bits ..).2 rfl) hp | dsimp only [Part.same]) ?_

theorem voteMismatch_only (s : State) (f : VotedField) (a b c : Nat) :
    Alters [.modes, .sv, .links, .xc, .seams, .grizzly, .regs, .twin, .fm] s (s.voteMismatch f a b c) := by
  unfold State.voteMismatch
  repeat' first
    | ((conv => enter [3, 21]); refine .upd (fun p hp => by cases p <;> first | exact absurd ((Part.mem_bits ..).2 rfl) hp | dsimp only [Part.same]) ?_)
    | with_reducible exact .refl _ _
    | assumption
    | with_unfolding_all decide
    | with_reducible refine .ite ?_ ?_
    | with_reducible refine .ite_snd ?_ ?_
    | with_reducible apply Alters.step (compareCopies_only ..)
    | with_reducible apply Alters.step (fault_only ..)
    | with_reducible refine .fold ?_ (fun _ _ => ?_)
    | split
    | refine .upd (fun p hp => by cases p <;> first | exact absurd ((Part.mem_bits ..).2 rfl) hp | dsimp only [Part.same]) ?_

theorem settleVotes_only (s : State) :
    Alters [.modes, .grizzly, .regs, .twin, .fm] s (s.settleVotes) := by
  unfold State.settleVotes
  repeat' first
    | ((conv => enter [3, 21]); refine .upd (fun p hp => by cases p <;> first | exact absurd ((Part.mem_bits ..).2 rfl) hp | dsimp only [Part.same]) ?_)
    | with_reducible exact .refl _ _
    | assumption
    | with_unfolding_all decide
    | with_reducible refine .ite ?_ ?_
    | with_reducible refine .ite_snd ?_ ?_
    | with_reducible refine .fold ?_ (fun _ _ => ?_)
    | split
    | refine .upd (fun p hp => by cases p <;> first | exact absurd ((Part.mem_bits ..).2 rfl) hp | dsimp only [Part.same]) ?_

theorem onCage_only (s : State) (side : CageSide) (f : CageEnd → CageEnd) :
    Alters [.regs] s (s.onCage side f) := by
  unfold State.onCage
  repeat' first
    | ((conv => enter [3, 21]); refine .upd (fun p hp => by cases p <;> first | exact absurd ((Part.mem_bits ..).2 rfl) hp | dsimp only [Part.same]) ?_)
    | with_reducible exact .refl _ _
    | assumption
    | with_unfolding_all decide
    | with_reducible refine .ite ?_ ?_
    | with_reducible refine .ite_snd ?_ ?_
    | with_reducible refine .fold ?_ (fun _ _ => ?_)
    | split
    | refine .upd (fun p hp => by cases p <;> first | exact absurd ((Part.mem_bits ..).2 rfl) hp | dsimp only [Part.same]) ?_

theorem cageVector_only (s : State) (side : CageSide) :
    Alters [.power, .grizzly, .hf, .sent] s (s.cageVector side) := by
  unfold State.cageVector
  repeat' first
    | with_reducible exact .refl _ _
    | assumption
    | with_unfolding_all decide
    | with_reducible refine .ite ?_ ?_
    | with_reducible refine .ite_snd ?_ ?_
    | with_reducible apply Alters.step (raiseVector_only ..)
    | with_reducible refine .fold ?_ (fun _ _ => ?_)
    | split

theorem raiseBells_only (s : State) (side : CageSide) (mask : Word) :
    Alters [.power, .grizzly, .hf, .regs, .sent] s (s.raiseBells side mask) := by
  unfold State.raiseBells
  repeat' first
    | with_reducible exact .refl _ _
    | assumption
    | with_unfolding_all decide
    | with_reducible refine .ite ?_ ?_
    | with_reducible refine .ite_snd ?_ ?_
    | with_reducible apply Alters.step (onCage_only ..)
    | with_reducible apply Alters.step (cageVector_only ..)
    | with_reducible refine .fold ?_ (fun _ _ => ?_)
    | split

theorem bellRaise_only (s : State) (side : CageSide) (mask : Word) :
    Alters [.power, .grizzly, .hf, .regs, .sent] s (s.bellRaise side mask) := by
  unfold State.bellRaise
  repeat' first
    | with_reducible exact .refl _ _
    | assumption
    | with_unfolding_all decide
    | with_reducible refine .ite ?_ ?_
    | with_reducible refine .ite_snd ?_ ?_
    | with_reducible apply Alters.step (raiseBells_only ..)
    | with_reducible refine .fold ?_ (fun _ _ => ?_)
    | split

theorem bellClear_only (s : State) (side : CageSide) (mask : Word) :
    Alters [.regs] s (s.bellClear side mask) := by
  unfold State.bellClear
  repeat' first
    | with_reducible exact .refl _ _
    | assumption
    | with_unfolding_all decide
    | with_reducible refine .ite ?_ ?_
    | with_reducible refine .ite_snd ?_ ?_
    | with_reducible apply Alters.step (onCage_only ..)
    | with_reducible refine .fold ?_ (fun _ _ => ?_)
    | split

theorem bellMask_only (s : State) (side : CageSide) (mask : Word) :
    Alters [.power, .grizzly, .hf, .regs, .sent] s (s.bellMask side mask) := by
  unfold State.bellMask
  repeat' first
    | with_reducible exact .refl _ _
    | assumption
    | with_unfolding_all decide
    | with_reducible refine .ite ?_ ?_
    | with_reducible refine .ite_snd ?_ ?_
    | with_reducible apply Alters.step (onCage_only ..)
    | with_reducible apply Alters.step (cageVector_only ..)
    | with_reducible refine .fold ?_ (fun _ _ => ?_)
    | split

theorem cageSend_only (s : State) (side : CageSide) :
    Alters [.power, .grizzly, .hf, .regs, .sent] s (s.cageSend side) := by
  unfold State.cageSend
  repeat' first
    | with_reducible exact .refl _ _
    | assumption
    | with_unfolding_all decide
    | with_reducible refine .ite ?_ ?_
    | with_reducible refine .ite_snd ?_ ?_
    | with_reducible apply Alters.step (onCage_only ..)
    | with_reducible apply Alters.step (raiseBells_only ..)
    | with_reducible refine .fold ?_ (fun _ _ => ?_)
    | split

theorem cagePop_only (s : State) (side : CageSide) :
    Alters [.power, .grizzly, .hf, .regs, .sent] s (s.cagePop side) := by
  unfold State.cagePop
  repeat' first
    | with_reducible exact .refl _ _
    | assumption
    | with_unfolding_all decide
    | with_reducible refine .ite ?_ ?_
    | with_reducible refine .ite_snd ?_ ?_
    | with_reducible apply Alters.step (onCage_only ..)
    | with_reducible apply Alters.step (raiseBells_only ..)
    | with_reducible refine .fold ?_ (fun _ _ => ?_)
    | split

theorem resetCage_only (s : State) (side : CageSide) :
    Alters [.power, .grizzly, .hf, .regs, .sent] s (s.resetCage side) := by
  unfold State.resetCage
  repeat' first
    | with_reducible exact .refl _ _
    | assumption
    | with_unfolding_all decide
    | with_reducible refine .ite ?_ ?_
    | with_reducible refine .ite_snd ?_ ?_
    | with_reducible apply Alters.step (onCage_only ..)
    | with_reducible apply Alters.step (raiseBells_only ..)
    | with_reducible refine .fold ?_ (fun _ _ => ?_)
    | split

theorem holdCage_only (s : State) (side : CageSide) (held : Bool) :
    Alters [.regs] s (s.holdCage side held) := by
  unfold State.holdCage
  repeat' first
    | with_reducible exact .refl _ _
    | assumption
    | with_unfolding_all decide
    | with_reducible refine .ite ?_ ?_
    | with_reducible refine .ite_snd ?_ ?_
    | with_reducible apply Alters.step (onCage_only ..)
    | with_reducible refine .fold ?_ (fun _ _ => ?_)
    | split

theorem resetCages_only (s : State) (l : List CageSide) :
    Alters [.power, .grizzly, .hf, .regs, .sent] s (s.resetCages l) := by
  unfold State.resetCages
  repeat' first
    | with_reducible exact .refl _ _
    | assumption
    | with_unfolding_all decide
    | with_reducible refine .ite ?_ ?_
    | with_reducible refine .ite_snd ?_ ?_
    | with_reducible apply Alters.step (resetCage_only ..)
    | with_reducible refine .fold ?_ (fun _ _ => ?_)
    | split

theorem holdCages_only (s : State) (l : List CageSide) (held : Bool) :
    Alters [.regs] s (s.holdCages l held) := by
  unfold State.holdCages
  repeat' first
    | with_reducible exact .refl _ _
    | assumption
    | with_unfolding_all decide
    | with_reducible refine .ite ?_ ?_
    | with_reducible refine .ite_snd ?_ ?_
    | with_reducible apply Alters.step (holdCage_only ..)
    | with_reducible refine .fold ?_ (fun _ _ => ?_)
    | split

theorem skipFlush_only (s : State) (k : SkipId) (writing reading : Bool) :
    Alters [.smelter, .regs] s (s.skipFlush k writing reading) := by
  unfold State.skipFlush
  repeat' first
    | ((conv => enter [3, 21]); refine .upd (fun p hp => by cases p <;> first | exact absurd ((Part.mem_bits ..).2 rfl) hp | dsimp only [Part.same]) ?_)
    | with_reducible exact .refl _ _
    | assumption
    | with_unfolding_all decide
    | with_reducible refine .ite ?_ ?_
    | with_reducible refine .ite_snd ?_ ?_
    | with_reducible apply Alters.step (onCage_only ..)
    | with_reducible refine .fold ?_ (fun _ _ => ?_)
    | split
    | refine .upd (fun p hp => by cases p <;> first | exact absurd ((Part.mem_bits ..).2 rfl) hp | dsimp only [Part.same]) ?_

theorem skipMismatch_only (s : State) (k : SkipId) (writing reading : Bool) :
    Alters [.modes, .sv, .links, .xc, .seams, .grizzly, .smelter, .regs, .fm] s (s.skipMismatch k writing reading) := by
  unfold State.skipMismatch
  repeat' first
    | ((conv => enter [3, 21]); refine .upd (fun p hp => by cases p <;> first | exact absurd ((Part.mem_bits ..).2 rfl) hp | dsimp only [Part.same]) ?_)
    | with_reducible exact .refl _ _
    | assumption
    | with_unfolding_all decide
    | with_reducible refine .ite ?_ ?_
    | with_reducible refine .ite_snd ?_ ?_
    | with_reducible apply Alters.step (skipFlush_only ..)
    | with_reducible apply Alters.step (fault_only ..)
    | with_reducible refine .fold ?_ (fun _ _ => ?_)
    | split
    | refine .upd (fun p hp => by cases p <;> first | exact absurd ((Part.mem_bits ..).2 rfl) hp | dsimp only [Part.same]) ?_

theorem busGoes_only (s : State) :
    Alters [.grizzly, .smelter, .hf, .regs, .fm] s (s.busGoes) := by
  unfold State.busGoes
  repeat' first
    | with_reducible exact .refl _ _
    | assumption
    | with_unfolding_all decide
    | with_reducible refine .ite ?_ ?_
    | with_reducible refine .ite_snd ?_ ?_
    | with_reducible apply Alters.step (stopJobs_only ..)
    | with_reducible apply Alters.step (drainGoes_only ..)
    | with_reducible refine .fold ?_ (fun _ _ => ?_)
    | split

theorem busReturns_only (s : State) :
    Alters [.power, .streams, .grizzly, .smelter, .hf, .regs, .sent] s (s.busReturns) := by
  unfold State.busReturns
  extract_lets t
  refine .ite ?_ (.refl ..)
  have ht : Alters [.power, .streams, .grizzly, .smelter, .hf, .regs, .sent] s t := (conditionMet_only ..).mono
  clear_value t
  exact .ite ((flushVectors_only ..).next ((abortJobs_only ..).next ((drainReturns_only ..).next ht))) ht

theorem forgetSlots_only (s : State) (fn : Fn) (f : Nat → Bool) :
    Alters [.twin] s (s.forgetSlots fn f) := by
  unfold State.forgetSlots
  repeat' first
    | ((conv => enter [3, 21]); refine .upd (fun p hp => by cases p <;> first | exact absurd ((Part.mem_bits ..).2 rfl) hp | dsimp only [Part.same]) ?_)
    | with_reducible exact .refl _ _
    | assumption
    | with_unfolding_all decide
    | with_reducible refine .ite ?_ ?_
    | with_reducible refine .ite_snd ?_ ?_
    | with_reducible refine .fold ?_ (fun _ _ => ?_)
    | split
    | refine .upd (fun p hp => by cases p <;> first | exact absurd ((Part.mem_bits ..).2 rfl) hp | dsimp only [Part.same]) ?_

theorem endSessions_only (s : State) :
    Alters [.dict, .twin] s (s.endSessions) := by
  unfold State.endSessions
  repeat' first
    | ((conv => enter [3, 21]); refine .upd (fun p hp => by cases p <;> first | exact absurd ((Part.mem_bits ..).2 rfl) hp | dsimp only [Part.same]) ?_)
    | with_reducible exact .refl _ _
    | assumption
    | with_unfolding_all decide
    | with_reducible refine .ite ?_ ?_
    | with_reducible refine .ite_snd ?_ ?_
    | with_reducible apply Alters.step (forgetSlots_only ..)
    | with_reducible refine .fold ?_ (fun _ _ => ?_)
    | split
    | refine .upd (fun p hp => by cases p <;> first | exact absurd ((Part.mem_bits ..).2 rfl) hp | dsimp only [Part.same]) ?_

theorem resetRings_only (s : State) :
    Alters [.streams, .grizzly, .hf, .regs, .fm] s (s.resetRings) := by
  unfold State.resetRings
  repeat' first
    | ((conv => enter [3, 21]); refine .upd (fun p hp => by cases p <;> first | exact absurd ((Part.mem_bits ..).2 rfl) hp | dsimp only [Part.same]) ?_)
    | with_reducible exact .refl _ _
    | assumption
    | with_unfolding_all decide
    | with_reducible refine .ite ?_ ?_
    | with_reducible refine .ite_snd ?_ ?_
    | with_reducible apply Alters.step (hold_only ..)
    | with_reducible refine .fold ?_ (fun _ _ => ?_)
    | split
    | refine .upd (fun p hp => by cases p <;> first | exact absurd ((Part.mem_bits ..).2 rfl) hp | dsimp only [Part.same]) ?_

theorem resetWindow_only (s : State) :
    Alters [.dict, .twin] s (s.resetWindow) := by
  unfold State.resetWindow
  repeat' first
    | ((conv => enter [3, 21]); refine .upd (fun p hp => by cases p <;> first | exact absurd ((Part.mem_bits ..).2 rfl) hp | dsimp only [Part.same]) ?_)
    | with_reducible exact .refl _ _
    | assumption
    | with_unfolding_all decide
    | with_reducible refine .ite ?_ ?_
    | with_reducible refine .ite_snd ?_ ?_
    | with_reducible apply Alters.step (forgetSlots_only ..)
    | with_reducible refine .fold ?_ (fun _ _ => ?_)
    | split
    | refine .upd (fun p hp => by cases p <;> first | exact absurd ((Part.mem_bits ..).2 rfl) hp | dsimp only [Part.same]) ?_

theorem resetPf0_only (s : State) :
    Alters [.power, .streams, .grizzly, .smelter, .hf, .dict, .regs, .twin, .fm, .sent] s (s.resetPf0) := by
  unfold State.resetPf0
  extract_lets _ t u _
  have ht : Alters [.power, .streams, .grizzly, .smelter, .hf, .dict, .regs, .twin, .fm, .sent] s t :=
    .upd (fun p hp => by cases p <;> first | exact absurd ((Part.mem_bits ..).2 rfl) hp | rfl) (.refl ..)
  clear_value t
  have hu : Alters [.power, .streams, .grizzly, .smelter, .hf, .dict, .regs, .twin, .fm, .sent] s u :=
    (resetWindow_only ..).next ((clearJobs_only ..).next ((resetRings_only ..).next ((busGoes_only ..).next ht)))
  clear_value u
  exact (dropClaims_only ..).next ((resetCages_only ..).next (.upd (fun p hp => by cases p <;> first | exact absurd ((Part.mem_bits ..).2 rfl) hp | rfl) hu))

theorem resetPf1_only (s : State) :
    Alters [.power, .grizzly, .hf, .dict, .regs, .twin, .sent] s (s.resetPf1) := by
  unfold State.resetPf1
  repeat' first
    | ((conv => enter [3, 21]); refine .upd (fun p hp => by cases p <;> first | exact absurd ((Part.mem_bits ..).2 rfl) hp | dsimp only [Part.same]) ?_)
    | with_reducible exact .refl _ _
    | assumption
    | with_unfolding_all decide
    | with_reducible refine .ite ?_ ?_
    | with_reducible refine .ite_snd ?_ ?_
    | with_reducible apply Alters.step (dropClaims_only ..)
    | with_reducible apply Alters.step (endSessions_only ..)
    | with_reducible apply Alters.step (resetCages_only ..)
    | with_reducible refine .fold ?_ (fun _ _ => ?_)
    | split
    | refine .upd (fun p hp => by cases p <;> first | exact absurd ((Part.mem_bits ..).2 rfl) hp | dsimp only [Part.same]) ?_

theorem fundamental_only (s : State) :
    Alters [.power, .streams, .grizzly, .smelter, .hf, .dict, .regs, .twin, .fm, .sent] s (s.fundamental) := by
  unfold State.fundamental
  extract_lets t
  have ht : Alters [.power, .streams, .grizzly, .smelter, .hf, .dict, .regs, .twin, .fm, .sent] s t :=
    (resetPf1_only ..).next ((resetPf0_only ..).next (linkDown_only ..).mono)
  clear_value t
  exact .upd (fun p hp => by cases p <;> first | exact absurd ((Part.mem_bits ..).2 rfl) hp | rfl) ht

theorem writePower_only (s : State) (fn : Fn) (d : Nat) :
    Alters [.power, .streams, .grizzly, .smelter, .hf, .regs, .fm, .sent] s (s.writePower fn d) := by
  unfold State.writePower
  repeat' first
    | ((conv => enter [3, 21]); refine .upd (fun p hp => by cases p <;> first | exact absurd ((Part.mem_bits ..).2 rfl) hp | dsimp only [Part.same]) ?_)
    | with_reducible exact .refl _ _
    | assumption
    | with_unfolding_all decide
    | with_reducible refine .ite ?_ ?_
    | with_reducible refine .ite_snd ?_ ?_
    | with_reducible apply Alters.step (busGoes_only ..)
    | with_reducible apply Alters.step (busReturns_only ..)
    | with_reducible refine .fold ?_ (fun _ _ => ?_)
    | split
    | refine .upd (fun p hp => by cases p <;> first | exact absurd ((Part.mem_bits ..).2 rfl) hp | dsimp only [Part.same]) ?_

theorem writeBme_only (s : State) (on : Bool) :
    Alters [.power, .streams, .grizzly, .smelter, .hf, .regs, .fm, .sent] s (s.writeBme on) := by
  unfold State.writeBme
  repeat' first
    | ((conv => enter [3, 21]); refine .upd (fun p hp => by cases p <;> first | exact absurd ((Part.mem_bits ..).2 rfl) hp | dsimp only [Part.same]) ?_)
    | with_reducible exact .refl _ _
    | assumption
    | with_unfolding_all decide
    | with_reducible refine .ite ?_ ?_
    | with_reducible refine .ite_snd ?_ ?_
    | with_reducible apply Alters.step (busGoes_only ..)
    | with_reducible apply Alters.step (busReturns_only ..)
    | with_reducible refine .fold ?_ (fun _ _ => ?_)
    | split
    | refine .upd (fun p hp => by cases p <;> first | exact absurd ((Part.mem_bits ..).2 rfl) hp | dsimp only [Part.same]) ?_

theorem cfgWrite_only (s : State) (fn : Fn) (off : Nat) (v : Word) (be : BitVec 4) :
    Alters [.power, .streams, .grizzly, .smelter, .hf, .dict, .regs, .twin, .fm, .sent] s (s.cfgWrite fn off v be) := by
  unfold State.cfgWrite
  repeat' first
    | ((conv => enter [3, 21]); refine .upd (fun p hp => by cases p <;> first | exact absurd ((Part.mem_bits ..).2 rfl) hp | dsimp only [Part.same]) ?_)
    | with_reducible exact .refl _ _
    | assumption
    | with_unfolding_all decide
    | with_reducible refine .ite ?_ ?_
    | with_reducible refine .ite_snd ?_ ?_
    | with_reducible apply Alters.step (onFnCfg_only ..)
    | with_reducible apply Alters.step (updateLtr_only ..)
    | with_reducible apply Alters.step (flushVectors_only ..)
    | with_reducible apply Alters.step (resetPf1_only ..)
    | with_reducible apply Alters.step (writeBme_only ..)
    | with_reducible apply Alters.step (writePower_only ..)
    | with_reducible apply Alters.step (resetPf0_only ..)
    | with_reducible refine .fold ?_ (fun _ _ => ?_)
    | split
    | refine .upd (fun p hp => by cases p <;> first | exact absurd ((Part.mem_bits ..).2 rfl) hp | dsimp only [Part.same]) ?_

theorem configRequest_only (s : State) (fn : Fn) (off : Nat) (write : Option (Word × BitVec 4)) :
    Alters [.power, .streams, .grizzly, .smelter, .hf, .dict, .regs, .twin, .fm, .sent] s (s.configRequest fn off write) := by
  unfold State.configRequest
  repeat' first
    | with_reducible exact .refl _ _
    | assumption
    | with_unfolding_all decide
    | with_reducible refine .ite ?_ ?_
    | with_reducible refine .ite_snd ?_ ?_
    | with_reducible apply Alters.step (send_only ..)
    | with_reducible apply Alters.step (cfgWrite_only ..)
    | with_reducible refine .fold ?_ (fun _ _ => ?_)
    | split

theorem programIde_only (s : State) (k : Nat) (blocks : List (Nat × Nat)) (rids : Nat × Nat) (pcrc : Bool) :
    Alters [.power, .grizzly, .hf, .sent] s (s.programIde k blocks rids pcrc) := by
  unfold State.programIde
  repeat' first
    | ((conv => enter [3, 21]); refine .upd (fun p hp => by cases p <;> first | exact absurd ((Part.mem_bits ..).2 rfl) hp | dsimp only [Part.same]) ?_)
    | with_reducible exact .refl _ _
    | assumption
    | with_unfolding_all decide
    | with_reducible refine .ite ?_ ?_
    | with_reducible refine .ite_snd ?_ ?_
    | with_reducible apply Alters.step (flushVectors_only ..)
    | with_reducible refine .fold ?_ (fun _ _ => ?_)
    | split
    | refine .upd (fun p hp => by cases p <;> first | exact absurd ((Part.mem_bits ..).2 rfl) hp | dsimp only [Part.same]) ?_

theorem ideLost_only (s : State) (k : Nat) :
    Alters [.grizzly, .hf, .dict, .regs, .twin, .fm] s (s.ideLost k) := by
  unfold State.ideLost
  repeat' first
    | ((conv => enter [3, 21]); refine .upd (fun p hp => by cases p <;> first | exact absurd ((Part.mem_bits ..).2 rfl) hp | dsimp only [Part.same]) ?_)
    | with_reducible exact .refl _ _
    | assumption
    | with_unfolding_all decide
    | with_reducible refine .ite ?_ ?_
    | with_reducible refine .ite_snd ?_ ?_
    | with_reducible apply Alters.step (endSessions_only ..)
    | with_reducible apply Alters.step (event_only ..)
    | with_reducible refine .fold ?_ (fun _ _ => ?_)
    | split
    | refine .upd (fun p hp => by cases p <;> first | exact absurd ((Part.mem_bits ..).2 rfl) hp | dsimp only [Part.same]) ?_

theorem enterL1_only (s : State) :
    Alters [.power, .grizzly, .hf, .regs, .fm] s (s.enterL1) := by
  unfold State.enterL1
  repeat' first
    | ((conv => enter [3, 21]); refine .upd (fun p hp => by cases p <;> first | exact absurd ((Part.mem_bits ..).2 rfl) hp | dsimp only [Part.same]) ?_)
    | with_reducible exact .refl _ _
    | assumption
    | with_unfolding_all decide
    | with_reducible refine .ite ?_ ?_
    | with_reducible refine .ite_snd ?_ ?_
    | with_reducible apply Alters.step (clearDrain_only ..)
    | with_reducible apply Alters.step (suspend_only ..)
    | with_reducible refine .fold ?_ (fun _ _ => ?_)
    | split
    | refine .upd (fun p hp => by cases p <;> first | exact absurd ((Part.mem_bits ..).2 rfl) hp | dsimp only [Part.same]) ?_

theorem takeL0p_only (s : State) (width : Nat) :
    Alters [.hf, .sent] s (s.takeL0p width) := by
  unfold State.takeL0p
  repeat' first
    | ((conv => enter [3, 21]); refine .upd (fun p hp => by cases p <;> first | exact absurd ((Part.mem_bits ..).2 rfl) hp | dsimp only [Part.same]) ?_)
    | with_reducible exact .refl _ _
    | assumption
    | with_unfolding_all decide
    | with_reducible refine .ite ?_ ?_
    | with_reducible refine .ite_snd ?_ ?_
    | with_reducible apply Alters.step (send_only ..)
    | with_reducible refine .fold ?_ (fun _ _ => ?_)
    | split
    | refine .upd (fun p hp => by cases p <;> first | exact absurd ((Part.mem_bits ..).2 rfl) hp | dsimp only [Part.same]) ?_

theorem leaveLowPower_only (s : State) :
    Alters [.power, .grizzly, .hf, .sent] s (s.leaveLowPower) := by
  unfold State.leaveLowPower
  repeat' first
    | ((conv => enter [3, 21]); refine .upd (fun p hp => by cases p <;> first | exact absurd ((Part.mem_bits ..).2 rfl) hp | dsimp only [Part.same]) ?_)
    | with_reducible exact .refl _ _
    | assumption
    | with_unfolding_all decide
    | with_reducible refine .ite ?_ ?_
    | with_reducible refine .ite_snd ?_ ?_
    | with_reducible apply Alters.step (send_only ..)
    | with_reducible apply Alters.step (wakeLink_only ..)
    | with_reducible refine .fold ?_ (fun _ _ => ?_)
    | split
    | refine .upd (fun p hp => by cases p <;> first | exact absurd ((Part.mem_bits ..).2 rfl) hp | dsimp only [Part.same]) ?_

theorem noteEval_only (s : State) :
    Alters [.grizzly, .regs, .fm] s (s.noteEval) := by
  unfold State.noteEval
  repeat' first
    | ((conv => enter [3, 21]); refine .upd (fun p hp => by cases p <;> first | exact absurd ((Part.mem_bits ..).2 rfl) hp | dsimp only [Part.same]) ?_)
    | with_reducible exact .refl _ _
    | assumption
    | with_unfolding_all decide
    | with_reducible refine .ite ?_ ?_
    | with_reducible refine .ite_snd ?_ ?_
    | with_reducible apply Alters.step (notice_only ..)
    | with_reducible refine .fold ?_ (fun _ _ => ?_)
    | split
    | refine .upd (fun p hp => by cases p <;> first | exact absurd ((Part.mem_bits ..).2 rfl) hp | dsimp only [Part.same]) ?_

theorem reserveUse_only (s : State) (v : Nat) :
    Alters [.fm] s (s.reserveUse v) := by
  unfold State.reserveUse
  repeat' first
    | ((conv => enter [3, 21]); refine .upd (fun p hp => by cases p <;> first | exact absurd ((Part.mem_bits ..).2 rfl) hp | dsimp only [Part.same]) ?_)
    | with_reducible exact .refl _ _
    | assumption
    | with_unfolding_all decide
    | with_reducible refine .ite ?_ ?_
    | with_reducible refine .ite_snd ?_ ?_
    | with_reducible refine .fold ?_ (fun _ _ => ?_)
    | split
    | refine .upd (fun p hp => by cases p <;> first | exact absurd ((Part.mem_bits ..).2 rfl) hp | dsimp only [Part.same]) ?_

theorem resetUse_only (s : State) :
    Alters [.fm, .nv] s (s.resetUse) := by
  unfold State.resetUse
  repeat' first
    | ((conv => enter [3, 21]); refine .upd (fun p hp => by cases p <;> first | exact absurd ((Part.mem_bits ..).2 rfl) hp | dsimp only [Part.same]) ?_)
    | with_reducible exact .refl _ _
    | assumption
    | with_unfolding_all decide
    | with_reducible refine .ite ?_ ?_
    | with_reducible refine .ite_snd ?_ ?_
    | with_reducible apply Alters.step (reserveUse_only ..)
    | with_reducible refine .fold ?_ (fun _ _ => ?_)
    | split
    | refine .upd (fun p hp => by cases p <;> first | exact absurd ((Part.mem_bits ..).2 rfl) hp | dsimp only [Part.same]) ?_

theorem setKeys_only (s : State) (l : List (Nat × List Byte)) :
    Alters [.nv] s (s.setKeys l) := by
  unfold State.setKeys
  repeat' first
    | ((conv => enter [3, 21]); refine .upd (fun p hp => by cases p <;> first | exact absurd ((Part.mem_bits ..).2 rfl) hp | dsimp only [Part.same]) ?_)
    | with_reducible exact .refl _ _
    | assumption
    | with_unfolding_all decide
    | with_reducible refine .ite ?_ ?_
    | with_reducible refine .ite_snd ?_ ?_
    | with_reducible refine .fold ?_ (fun _ _ => ?_)
    | split
    | refine .upd (fun p hp => by cases p <;> first | exact absurd ((Part.mem_bits ..).2 rfl) hp | dsimp only [Part.same]) ?_

theorem keyLoad_only (s : State) (data : List Byte) :
    Alters [.nv] s (s.keyLoad data).2 := by
  unfold State.keyLoad
  dsimp only [taken, refuse]
  repeat' first
    | with_reducible exact .refl _ _
    | assumption
    | with_unfolding_all decide
    | with_reducible refine .ite ?_ ?_
    | with_reducible refine .ite_snd ?_ ?_
    | with_reducible apply Alters.step (setKeys_only ..)
    | with_reducible refine .fold ?_ (fun _ _ => ?_)
    | split

theorem keyErase_only (s : State) (id : Nat) :
    Alters [.nv] s (s.keyErase id).2 := by
  unfold State.keyErase
  dsimp only [taken, refuse]
  repeat' first
    | with_reducible exact .refl _ _
    | assumption
    | with_unfolding_all decide
    | with_reducible refine .ite ?_ ?_
    | with_reducible refine .ite_snd ?_ ?_
    | with_reducible apply Alters.step (setKeys_only ..)
    | with_reducible refine .fold ?_ (fun _ _ => ?_)
    | split

theorem useReset_only (s : State) :
    Alters [.fm, .nv] s (s.useReset).2 := by
  unfold State.useReset
  dsimp only [taken, refuse]
  repeat' first
    | with_reducible exact .refl _ _
    | assumption
    | with_unfolding_all decide
    | with_reducible refine .ite ?_ ?_
    | with_reducible refine .ite_snd ?_ ?_
    | with_reducible apply Alters.step (resetUse_only ..)
    | with_reducible refine .fold ?_ (fun _ _ => ?_)
    | split

theorem burn_only (s : State) (lc : Nat) :
    Alters [.fm, .nv] s (s.burn lc) := by
  unfold State.burn
  repeat' first
    | ((conv => enter [3, 21]); refine .upd (fun p hp => by cases p <;> first | exact absurd ((Part.mem_bits ..).2 rfl) hp | dsimp only [Part.same]) ?_)
    | with_reducible exact .refl _ _
    | assumption
    | with_unfolding_all decide
    | with_reducible refine .ite ?_ ?_
    | with_reducible refine .ite_snd ?_ ?_
    | with_reducible refine .fold ?_ (fun _ _ => ?_)
    | split
    | refine .upd (fun p hp => by cases p <;> first | exact absurd ((Part.mem_bits ..).2 rfl) hp | dsimp only [Part.same]) ?_

theorem ownerKeyWrite_only (s : State) (data : List Byte) :
    Alters [.fm, .nv] s (s.ownerKeyWrite data).2 := by
  unfold State.ownerKeyWrite
  dsimp only [taken, refuse]
  repeat' first
    | ((conv => enter [3, 21]); refine .upd (fun p hp => by cases p <;> first | exact absurd ((Part.mem_bits ..).2 rfl) hp | dsimp only [Part.same]) ?_)
    | with_reducible exact .refl _ _
    | assumption
    | with_unfolding_all decide
    | with_reducible refine .ite ?_ ?_
    | with_reducible refine .ite_snd ?_ ?_
    | with_reducible apply Alters.step (burn_only ..)
    | with_reducible refine .fold ?_ (fun _ _ => ?_)
    | split
    | refine .upd (fun p hp => by cases p <;> first | exact absurd ((Part.mem_bits ..).2 rfl) hp | dsimp only [Part.same]) ?_

theorem lcAdvanceWrite_only (s : State) (v : Nat) :
    Alters [.fm, .nv] s (s.lcAdvanceWrite v).2 := by
  unfold State.lcAdvanceWrite
  dsimp only [taken, refuse]
  repeat' first
    | with_reducible exact .refl _ _
    | assumption
    | with_unfolding_all decide
    | with_reducible refine .ite ?_ ?_
    | with_reducible refine .ite_snd ?_ ?_
    | with_reducible apply Alters.step (burn_only ..)
    | with_reducible refine .fold ?_ (fun _ _ => ?_)
    | split

theorem issueChallenge_only (s : State) (nonce : List Byte) :
    Alters [.fm, .nv] s (s.issueChallenge nonce).2 := by
  unfold State.issueChallenge
  repeat' first
    | ((conv => enter [3, 21]); refine .upd (fun p hp => by cases p <;> first | exact absurd ((Part.mem_bits ..).2 rfl) hp | dsimp only [Part.same]) ?_)
    | with_reducible exact .refl _ _
    | assumption
    | with_unfolding_all decide
    | with_reducible refine .ite ?_ ?_
    | with_reducible refine .ite_snd ?_ ?_
    | with_reducible refine .fold ?_ (fun _ _ => ?_)
    | split
    | refine .upd (fun p hp => by cases p <;> first | exact absurd ((Part.mem_bits ..).2 rfl) hp | dsimp only [Part.same]) ?_

theorem debugAuth_only (s : State) (sig : List Byte) :
    Alters [.grizzly, .regs, .fm] s (s.debugAuth sig).2 := by
  unfold State.debugAuth
  dsimp only [taken, refuse]
  repeat' first
    | ((conv => enter [3, 21]); refine .upd (fun p hp => by cases p <;> first | exact absurd ((Part.mem_bits ..).2 rfl) hp | dsimp only [Part.same]) ?_)
    | with_reducible exact .refl _ _
    | assumption
    | with_unfolding_all decide
    | with_reducible refine .ite ?_ ?_
    | with_reducible refine .ite_snd ?_ ?_
    | with_reducible apply Alters.step (notice_only ..)
    | with_reducible apply Alters.step (noteEval_only ..)
    | with_reducible refine .fold ?_ (fun _ _ => ?_)
    | split
    | refine .upd (fun p hp => by cases p <;> first | exact absurd ((Part.mem_bits ..).2 rfl) hp | dsimp only [Part.same]) ?_

theorem wipeStockpile_only (s : State) :
    Alters [.closing, .streams, .shaft, .grizzly, .smelter] s (s.wipeStockpile) := by
  unfold State.wipeStockpile
  repeat' first
    | ((conv => enter [3, 21]); refine .upd (fun p hp => by cases p <;> first | exact absurd ((Part.mem_bits ..).2 rfl) hp | dsimp only [Part.same]) ?_)
    | with_reducible exact .refl _ _
    | assumption
    | with_unfolding_all decide
    | with_reducible refine .ite ?_ ?_
    | with_reducible refine .ite_snd ?_ ?_
    | with_reducible apply Alters.step (endReadout_only ..)
    | with_reducible apply Alters.step (discardSegments_only ..)
    | with_reducible refine .fold ?_ (fun _ _ => ?_)
    | split
    | refine .upd (fun p hp => by cases p <;> first | exact absurd ((Part.mem_bits ..).2 rfl) hp | dsimp only [Part.same]) ?_

theorem returnWipe_only (s : State) :
    Alters [.closing, .streams, .shaft, .grizzly, .smelter, .regs, .fm, .nv] s (s.returnWipe) := by
  unfold State.returnWipe
  repeat' first
    | ((conv => enter [3, 21]); refine .upd (fun p hp => by cases p <;> first | exact absurd ((Part.mem_bits ..).2 rfl) hp | dsimp only [Part.same]) ?_)
    | with_reducible exact .refl _ _
    | assumption
    | with_unfolding_all decide
    | with_reducible refine .ite ?_ ?_
    | with_reducible refine .ite_snd ?_ ?_
    | with_reducible apply Alters.step (resetUse_only ..)
    | with_reducible apply Alters.step (notice_only ..)
    | with_reducible apply Alters.step (wipeStockpile_only ..)
    | with_reducible refine .fold ?_ (fun _ _ => ?_)
    | split
    | refine .upd (fun p hp => by cases p <;> first | exact absurd ((Part.mem_bits ..).2 rfl) hp | dsimp only [Part.same]) ?_

theorem lcReturnWrite_only (s : State) (data : List Byte) :
    Alters [.closing, .streams, .shaft, .grizzly, .smelter, .regs, .fm, .nv] s (s.lcReturnWrite data).2 := by
  unfold State.lcReturnWrite
  dsimp only [taken, refuse]
  repeat' first
    | with_reducible exact .refl _ _
    | assumption
    | with_unfolding_all decide
    | with_reducible refine .ite ?_ ?_
    | with_reducible refine .ite_snd ?_ ?_
    | with_reducible apply Alters.step (burn_only ..)
    | with_reducible apply Alters.step (returnWipe_only ..)
    | with_reducible refine .fold ?_ (fun _ _ => ?_)
    | split

theorem sigCheckWrite_only (s : State) (v : Nat) :
    Alters [.nv] s (s.sigCheckWrite v).2 := by
  unfold State.sigCheckWrite
  dsimp only [taken, refuse]
  repeat' first
    | ((conv => enter [3, 21]); refine .upd (fun p hp => by cases p <;> first | exact absurd ((Part.mem_bits ..).2 rfl) hp | dsimp only [Part.same]) ?_)
    | with_reducible exact .refl _ _
    | assumption
    | with_unfolding_all decide
    | with_reducible refine .ite ?_ ?_
    | with_reducible refine .ite_snd ?_ ?_
    | with_reducible refine .fold ?_ (fun _ _ => ?_)
    | split
    | refine .upd (fun p hp => by cases p <;> first | exact absurd ((Part.mem_bits ..).2 rfl) hp | dsimp only [Part.same]) ?_

theorem onStagedSlot_only (s : State) (f : ImageSlot → ImageSlot) :
    Alters [.nv] s (s.onStagedSlot f) := by
  unfold State.onStagedSlot
  repeat' first
    | ((conv => enter [3, 21]); refine .upd (fun p hp => by cases p <;> first | exact absurd ((Part.mem_bits ..).2 rfl) hp | dsimp only [Part.same]) ?_)
    | with_reducible exact .refl _ _
    | assumption
    | with_unfolding_all decide
    | with_reducible refine .ite ?_ ?_
    | with_reducible refine .ite_snd ?_ ?_
    | with_reducible refine .fold ?_ (fun _ _ => ?_)
    | split
    | refine .upd (fun p hp => by cases p <;> first | exact absurd ((Part.mem_bits ..).2 rfl) hp | dsimp only [Part.same]) ?_

theorem updateBegin_only (s : State) :
    Alters [.fm, .nv] s (s.updateBegin).2 := by
  unfold State.updateBegin
  dsimp only [taken, refuse]
  repeat' first
    | ((conv => enter [3, 21]); refine .upd (fun p hp => by cases p <;> first | exact absurd ((Part.mem_bits ..).2 rfl) hp | dsimp only [Part.same]) ?_)
    | with_reducible exact .refl _ _
    | assumption
    | with_unfolding_all decide
    | with_reducible refine .ite ?_ ?_
    | with_reducible refine .ite_snd ?_ ?_
    | with_reducible apply Alters.step (onStagedSlot_only ..)
    | with_reducible refine .fold ?_ (fun _ _ => ?_)
    | split
    | refine .upd (fun p hp => by cases p <;> first | exact absurd ((Part.mem_bits ..).2 rfl) hp | dsimp only [Part.same]) ?_

theorem updateVerify_only (s : State) :
    Alters [.fm, .nv] s (s.updateVerify).2 := by
  unfold State.updateVerify
  dsimp only [taken, refuse]
  repeat' first
    | ((conv => enter [3, 21]); refine .upd (fun p hp => by cases p <;> first | exact absurd ((Part.mem_bits ..).2 rfl) hp | dsimp only [Part.same]) ?_)
    | with_reducible exact .refl _ _
    | assumption
    | with_unfolding_all decide
    | with_reducible refine .ite ?_ ?_
    | with_reducible refine .ite_snd ?_ ?_
    | with_reducible apply Alters.step (onStagedSlot_only ..)
    | with_reducible refine .fold ?_ (fun _ _ => ?_)
    | split
    | refine .upd (fun p hp => by cases p <;> first | exact absurd ((Part.mem_bits ..).2 rfl) hp | dsimp only [Part.same]) ?_

theorem updateCommit_only (s : State) :
    Alters [.fm] s (s.updateCommit).2 := by
  unfold State.updateCommit
  dsimp only [taken, refuse]
  repeat' first
    | ((conv => enter [3, 21]); refine .upd (fun p hp => by cases p <;> first | exact absurd ((Part.mem_bits ..).2 rfl) hp | dsimp only [Part.same]) ?_)
    | with_reducible exact .refl _ _
    | assumption
    | with_unfolding_all decide
    | with_reducible refine .ite ?_ ?_
    | with_reducible refine .ite_snd ?_ ?_
    | with_reducible refine .fold ?_ (fun _ _ => ?_)
    | split
    | refine .upd (fun p hp => by cases p <;> first | exact absurd ((Part.mem_bits ..).2 rfl) hp | dsimp only [Part.same]) ?_

theorem updateAbort_only (s : State) :
    Alters [.fm, .nv] s (s.updateAbort).2 := by
  unfold State.updateAbort
  dsimp only [taken, refuse]
  repeat' first
    | ((conv => enter [3, 21]); refine .upd (fun p hp => by cases p <;> first | exact absurd ((Part.mem_bits ..).2 rfl) hp | dsimp only [Part.same]) ?_)
    | with_reducible exact .refl _ _
    | assumption
    | with_unfolding_all decide
    | with_reducible refine .ite ?_ ?_
    | with_reducible refine .ite_snd ?_ ?_
    | with_reducible apply Alters.step (onStagedSlot_only ..)
    | with_reducible refine .fold ?_ (fun _ _ => ?_)
    | split
    | refine .upd (fun p hp => by cases p <;> first | exact absurd ((Part.mem_bits ..).2 rfl) hp | dsimp only [Part.same]) ?_

theorem updateConfirm_only (s : State) :
    Alters [.nv] s (s.updateConfirm).2 := by
  unfold State.updateConfirm
  dsimp only [refuse, taken]
  repeat' first
    | exact .refl ..
    | refine .ite_snd ?_ ?_
  exact .set (fun p hp => by cases p <;> first | exact absurd ((Part.mem_bits ..).2 rfl) hp | rfl) (Nat.le_max_left ..)

theorem updateCmd_only (s : State) (v : Nat) :
    Alters [.fm, .nv] s (s.updateCmd v).2 := by
  unfold State.updateCmd
  repeat' first
    | with_reducible exact .refl _ _
    | assumption
    | with_unfolding_all decide
    | with_reducible refine .ite ?_ ?_
    | with_reducible refine .ite_snd ?_ ?_
    | with_reducible apply Alters.step (updateCommit_only ..)
    | with_reducible apply Alters.step (updateConfirm_only ..)
    | with_reducible apply Alters.step (updateBegin_only ..)
    | with_reducible apply Alters.step (updateVerify_only ..)
    | with_reducible apply Alters.step (updateAbort_only ..)
    | with_reducible refine .fold ?_ (fun _ _ => ?_)
    | split

theorem updateDataWrite_only (s : State) (data : List Byte) :
    Alters [.dict, .nv] s (s.updateDataWrite data).2 := by
  unfold State.updateDataWrite
  dsimp only [taken, refuse]
  repeat' first
    | ((conv => enter [3, 21]); refine .upd (fun p hp => by cases p <;> first | exact absurd ((Part.mem_bits ..).2 rfl) hp | dsimp only [Part.same]) ?_)
    | with_reducible exact .refl _ _
    | assumption
    | with_unfolding_all decide
    | with_reducible refine .ite ?_ ?_
    | with_reducible refine .ite_snd ?_ ?_
    | with_reducible apply Alters.step (onStagedSlot_only ..)
    | with_reducible refine .fold ?_ (fun _ _ => ?_)
    | split
    | refine .upd (fun p hp => by cases p <;> first | exact absurd ((Part.mem_bits ..).2 rfl) hp | dsimp only [Part.same]) ?_

end Sys2Proof.Machine
end

