-- ==== Sys2Proof/Laws/FramesTwin.lean ====
section
/-! SUPPORT. What each operation changes: the parts of the state it can touch; SVN_MIN never falls (R404). One lemma
for each operation of Changes, Epochs, Foreman, Power, Dict, CanBus, Window, Registers, Twin, Transmit, Tick. -/

set_option linter.unreachableTactic false
set_option linter.unusedTactic false

namespace Sys2Proof.Machine

set_option Elab.async false

theorem dropChange_only (s : State) :
    Alters [.modes, .twin] s (s.dropChange) := by
  unfold State.dropChange
  repeat' first
    | ((conv => enter [3, 21]); refine .upd (fun p hp => by cases p <;> first | exact absurd ((Part.mem_bits ..).2 rfl) hp | dsimp only [Part.same]) ?_)
    | with_reducible exact .refl _ _
    | assumption
    | with_unfolding_all decide
    | with_reducible refine .ite ?_ ?_
    | with_reducible refine .ite_snd ?_ ?_
    | with_reducible refine .fold ?_ (fun _ _ => ?_)
    | split
    | refine .upd (fun p hp => by cases p <;> first | exact absurd ((Part.mem_bits ..).2 rfl) hp | dsimp only [Part.same]) ?_

theorem abortChange_only (s : State) (cause : Nat) (mask : BitVec 11) :
    Alters [.modes, .grizzly, .regs, .twin, .fm] s (s.abortChange cause mask) := by
  unfold State.abortChange
  repeat' first
    | ((conv => enter [3, 21]); refine .upd (fun p hp => by cases p <;> first | exact absurd ((Part.mem_bits ..).2 rfl) hp | dsimp only [Part.same]) ?_)
    | with_reducible exact .refl _ _
    | assumption
    | with_unfolding_all decide
    | with_reducible refine .ite ?_ ?_
    | with_reducible refine .ite_snd ?_ ?_
    | with_reducible apply Alters.step (dropChange_only ..)
    | with_reducible apply Alters.step (event_only ..)
    | with_reducible refine .fold ?_ (fun _ _ => ?_)
    | split
    | refine .upd (fun p hp => by cases p <;> first | exact absurd ((Part.mem_bits ..).2 rfl) hp | dsimp only [Part.same]) ?_

theorem noteUncertain_only (s : State) :
    Alters [.sv] s (s.noteUncertain) := by
  unfold State.noteUncertain
  repeat' first
    | ((conv => enter [3, 21]); refine .upd (fun p hp => by cases p <;> first | exact absurd ((Part.mem_bits ..).2 rfl) hp | dsimp only [Part.same]) ?_)
    | with_reducible exact .refl _ _
    | assumption
    | with_unfolding_all decide
    | with_reducible refine .ite ?_ ?_
    | with_reducible refine .ite_snd ?_ ?_
    | with_reducible refine .fold ?_ (fun _ _ => ?_)
    | split
    | refine .upd (fun p hp => by cases p <;> first | exact absurd ((Part.mem_bits ..).2 rfl) hp | dsimp only [Part.same]) ?_

theorem unpowerFabric_only (s : State) :
    Alters [.power, .sv, .links, .xc, .seams, .closing, .shaft, .grizzly, .smelter, .regs, .fm] s (s.unpowerFabric) := by
  unfold State.unpowerFabric
  repeat' first
    | ((conv => enter [3, 21]); refine .upd (fun p hp => by cases p <;> first | exact absurd ((Part.mem_bits ..).2 rfl) hp | dsimp only [Part.same]) ?_)
    | with_reducible exact .refl _ _
    | assumption
    | with_unfolding_all decide
    | with_reducible refine .ite ?_ ?_
    | with_reducible refine .ite_snd ?_ ?_
    | with_reducible apply Alters.step (clockFree_only ..)
    | with_reducible apply Alters.step (discardSegments_only ..)
    | with_reducible apply Alters.step (rxUnpower_only ..)
    | with_reducible refine .fold ?_ (fun _ _ => ?_)
    | split
    | refine .upd (fun p hp => by cases p <;> first | exact absurd ((Part.mem_bits ..).2 rfl) hp | dsimp only [Part.same]) ?_

theorem abortEntry_only (s : State) (cause : Nat) (mask : BitVec 11) :
    Alters [.power, .modes, .sv, .links, .xc, .seams, .closing, .shaft, .grizzly, .smelter, .regs, .twin, .fm] s (s.abortEntry cause mask) := by
  unfold State.abortEntry
  repeat' first
    | ((conv => enter [3, 21]); refine .upd (fun p hp => by cases p <;> first | exact absurd ((Part.mem_bits ..).2 rfl) hp | dsimp only [Part.same]) ?_)
    | with_reducible exact .refl _ _
    | assumption
    | with_unfolding_all decide
    | with_reducible refine .ite ?_ ?_
    | with_reducible refine .ite_snd ?_ ?_
    | with_reducible apply Alters.step (abortChange_only ..)
    | with_reducible apply Alters.step (unpowerFabric_only ..)
    | with_reducible refine .fold ?_ (fun _ _ => ?_)
    | split
    | refine .upd (fun p hp => by cases p <;> first | exact absurd ((Part.mem_bits ..).2 rfl) hp | dsimp only [Part.same]) ?_

theorem commitRefused_only (s : State) (cause : Nat) :
    Alters [.modes] s (s.commitRefused cause) := by
  unfold State.commitRefused
  repeat' first
    | ((conv => enter [3, 21]); refine .upd (fun p hp => by cases p <;> first | exact absurd ((Part.mem_bits ..).2 rfl) hp | dsimp only [Part.same]) ?_)
    | with_reducible exact .refl _ _
    | assumption
    | with_unfolding_all decide
    | with_reducible refine .ite ?_ ?_
    | with_reducible refine .ite_snd ?_ ?_
    | with_reducible refine .fold ?_ (fun _ _ => ?_)
    | split
    | refine .upd (fun p hp => by cases p <;> first | exact absurd ((Part.mem_bits ..).2 rfl) hp | dsimp only [Part.same]) ?_

theorem startEntry_only (s : State) (auto : Bool) :
    Alters [.modes] s (s.startEntry auto) := by
  unfold State.startEntry
  repeat' first
    | ((conv => enter [3, 21]); refine .upd (fun p hp => by cases p <;> first | exact absurd ((Part.mem_bits ..).2 rfl) hp | dsimp only [Part.same]) ?_)
    | with_reducible exact .refl _ _
    | assumption
    | with_unfolding_all decide
    | with_reducible refine .ite ?_ ?_
    | with_reducible refine .ite_snd ?_ ?_
    | with_reducible refine .fold ?_ (fun _ _ => ?_)
    | split
    | refine .upd (fun p hp => by cases p <;> first | exact absurd ((Part.mem_bits ..).2 rfl) hp | dsimp only [Part.same]) ?_

theorem noteExhausted_only (s : State) (mode : Nat) :
    Alters [.grizzly, .regs, .fm] s (s.noteExhausted mode) := by
  unfold State.noteExhausted
  repeat' first
    | with_reducible exact .refl _ _
    | assumption
    | with_unfolding_all decide
    | with_reducible refine .ite ?_ ?_
    | with_reducible refine .ite_snd ?_ ?_
    | with_reducible apply Alters.step (event_only ..)
    | with_reducible refine .fold ?_ (fun _ _ => ?_)
    | split

theorem floorFigures_only (s : State) (c : Committed) :
    Alters [.grizzly] s (s.floorFigures c) := by
  unfold State.floorFigures
  repeat' first
    | with_reducible exact .refl _ _
    | assumption
    | with_unfolding_all decide
    | with_reducible refine .ite ?_ ?_
    | with_reducible refine .ite_snd ?_ ?_
    | with_reducible apply Alters.step (noteFloor_only ..)
    | with_reducible refine .fold ?_ (fun _ _ => ?_)
    | split

theorem forwardCommit_only (s : State) (c : Committed) :
    Alters [.regs, .twin, .sent] s (s.forwardCommit c) := by
  unfold State.forwardCommit
  repeat' first
    | with_reducible exact .refl _ _
    | assumption
    | with_unfolding_all decide
    | with_reducible refine .ite ?_ ?_
    | with_reducible refine .ite_snd ?_ ?_
    | with_reducible apply Alters.step (xcSend_only ..)
    | with_reducible refine .fold ?_ (fun _ _ => ?_)
    | split

theorem reportReady_only (s : State) (c : Committed) :
    Alters [.regs, .twin, .sent] s (s.reportReady c) := by
  unfold State.reportReady
  repeat' first
    | with_reducible exact .refl _ _
    | assumption
    | with_unfolding_all decide
    | with_reducible refine .ite ?_ ?_
    | with_reducible refine .ite_snd ?_ ?_
    | with_reducible apply Alters.step (xcSend_only ..)
    | with_reducible refine .fold ?_ (fun _ _ => ?_)
    | split

theorem commitTaken_only (s : State) (c : Committed) :
    Alters [.power, .modes, .grizzly, .hf, .regs, .twin, .sent] s (s.commitTaken c) := by
  unfold State.commitTaken
  repeat' first
    | ((conv => enter [3, 21]); refine .upd (fun p hp => by cases p <;> first | exact absurd ((Part.mem_bits ..).2 rfl) hp | dsimp only [Part.same]) ?_)
    | with_reducible exact .refl _ _
    | assumption
    | with_unfolding_all decide
    | with_reducible refine .ite ?_ ?_
    | with_reducible refine .ite_snd ?_ ?_
    | with_reducible apply Alters.step (forwardCommit_only ..)
    | with_reducible apply Alters.step (reportReady_only ..)
    | with_reducible apply Alters.step (leaveLowPower_only ..)
    | with_reducible refine .fold ?_ (fun _ _ => ?_)
    | split
    | refine .upd (fun p hp => by cases p <;> first | exact absurd ((Part.mem_bits ..).2 rfl) hp | dsimp only [Part.same]) ?_

theorem commit_only (s : State) :
    Alters [.power, .modes, .grizzly, .hf, .regs, .twin, .fm, .sent] s (s.commit) := by
  unfold State.commit
  repeat' first
    | ((conv => enter [3, 21]); refine .upd (fun p hp => by cases p <;> first | exact absurd ((Part.mem_bits ..).2 rfl) hp | dsimp only [Part.same]) ?_)
    | with_reducible exact .refl _ _
    | assumption
    | with_unfolding_all decide
    | with_reducible refine .ite ?_ ?_
    | with_reducible refine .ite_snd ?_ ?_
    | with_reducible apply Alters.step (commitRefused_only ..)
    | with_reducible apply Alters.step (floorFigures_only ..)
    | with_reducible apply Alters.step (startEntry_only ..)
    | with_reducible apply Alters.step (noteExhausted_only ..)
    | with_reducible apply Alters.step (xcSend_only ..)
    | with_reducible apply Alters.step (commitTaken_only ..)
    | with_reducible refine .fold ?_ (fun _ _ => ?_)
    | split
    | refine .upd (fun p hp => by cases p <;> first | exact absurd ((Part.mem_bits ..).2 rfl) hp | dsimp only [Part.same]) ?_

theorem cancel_only (s : State) :
    Alters [.power, .modes, .sv, .links, .xc, .seams, .closing, .shaft, .grizzly, .smelter, .regs, .twin, .fm, .sent] s (s.cancel) := by
  unfold State.cancel
  repeat' first
    | with_reducible exact .refl _ _
    | assumption
    | with_unfolding_all decide
    | with_reducible refine .ite ?_ ?_
    | with_reducible refine .ite_snd ?_ ?_
    | with_reducible apply Alters.step (xcSend_only ..)
    | with_reducible apply Alters.step (abortChange_only ..)
    | with_reducible apply Alters.step (abortEntry_only ..)
    | with_reducible refine .fold ?_ (fun _ _ => ?_)
    | split

theorem deadline_only (s : State) (missing : BitVec 11) :
    Alters [.modes, .grizzly, .regs, .twin, .fm, .sent] s (s.deadline missing) := by
  unfold State.deadline
  repeat' first
    | ((conv => enter [3, 21]); refine .upd (fun p hp => by cases p <;> first | exact absurd ((Part.mem_bits ..).2 rfl) hp | dsimp only [Part.same]) ?_)
    | with_reducible exact .refl _ _
    | assumption
    | with_unfolding_all decide
    | with_reducible refine .ite ?_ ?_
    | with_reducible refine .ite_snd ?_ ?_
    | with_reducible apply Alters.step (floorFigures_only ..)
    | with_reducible apply Alters.step (xcSend_only ..)
    | with_reducible apply Alters.step (abortChange_only ..)
    | with_reducible refine .fold ?_ (fun _ _ => ?_)
    | split
    | refine .upd (fun p hp => by cases p <;> first | exact absurd ((Part.mem_bits ..).2 rfl) hp | dsimp only [Part.same]) ?_

theorem onEntry_only (s : State) (f : Entry → Entry) :
    Alters [.modes] s (s.onEntry f) := by
  unfold State.onEntry
  repeat' first
    | ((conv => enter [3, 21]); refine .upd (fun p hp => by cases p <;> first | exact absurd ((Part.mem_bits ..).2 rfl) hp | dsimp only [Part.same]) ?_)
    | with_reducible exact .refl _ _
    | assumption
    | with_unfolding_all decide
    | with_reducible refine .ite ?_ ?_
    | with_reducible refine .ite_snd ?_ ?_
    | with_reducible refine .fold ?_ (fun _ _ => ?_)
    | split
    | refine .upd (fun p hp => by cases p <;> first | exact absurd ((Part.mem_bits ..).2 rfl) hp | dsimp only [Part.same]) ?_

theorem entryFails_only (s : State) (cause : Nat) (code : EvCode) :
    Alters [.power, .modes, .sv, .links, .xc, .seams, .closing, .shaft, .grizzly, .smelter, .regs, .twin, .fm] s (s.entryFails cause code) := by
  unfold State.entryFails
  repeat' first
    | with_reducible exact .refl _ _
    | assumption
    | with_unfolding_all decide
    | with_reducible refine .ite ?_ ?_
    | with_reducible refine .ite_snd ?_ ?_
    | with_reducible apply Alters.step (fault_only ..)
    | with_reducible apply Alters.step (abortEntry_only ..)
    | with_reducible refine .fold ?_ (fun _ _ => ?_)
    | split

theorem measureRcal_only (s : State) (ohms : Nat) :
    Alters [.power, .modes, .sv, .links, .xc, .seams, .grizzly, .regs, .fm] s (s.measureRcal ohms) := by
  unfold State.measureRcal
  repeat' first
    | ((conv => enter [3, 21]); refine .upd (fun p hp => by cases p <;> first | exact absurd ((Part.mem_bits ..).2 rfl) hp | dsimp only [Part.same]) ?_)
    | with_reducible exact .refl _ _
    | assumption
    | with_unfolding_all decide
    | with_reducible refine .ite ?_ ?_
    | with_reducible refine .ite_snd ?_ ?_
    | with_reducible apply Alters.step (dropCondition_only ..)
    | with_reducible apply Alters.step (fault_only ..)
    | with_reducible refine .fold ?_ (fun _ _ => ?_)
    | split
    | refine .upd (fun p hp => by cases p <;> first | exact absurd ((Part.mem_bits ..).2 rfl) hp | dsimp only [Part.same]) ?_

theorem bringUpLinks_only (s : State) :
    Alters [.sv, .links, .xc, .seams, .grizzly, .regs, .fm] s (s.bringUpLinks) := by
  unfold State.bringUpLinks
  repeat' first
    | with_reducible exact .refl _ _
    | assumption
    | with_unfolding_all decide
    | with_reducible refine .ite ?_ ?_
    | with_reducible refine .ite_snd ?_ ?_
    | with_reducible apply Alters.step (rxSearch_only ..)
    | with_reducible refine .fold ?_ (fun _ _ => ?_)
    | split

theorem announce_only (s : State) (w : Switch) (aux prev number : Nat) (streams : List Nat) :
    Alters [.closing, .streams, .shaft, .smelter] s (s.announce w aux prev number streams) := by
  unfold State.announce
  repeat' first
    | ((conv => enter [3, 21]); refine .upd (fun p hp => by cases p <;> first | exact absurd ((Part.mem_bits ..).2 rfl) hp | dsimp only [Part.same]) ?_)
    | with_reducible exact .refl _ _
    | assumption
    | with_unfolding_all decide
    | with_reducible refine .ite ?_ ?_
    | with_reducible refine .ite_snd ?_ ?_
    | with_reducible apply Alters.step (numberClosed_only ..)
    | with_reducible refine .fold ?_ (fun _ _ => ?_)
    | split
    | refine .upd (fun p hp => by cases p <;> first | exact absurd ((Part.mem_bits ..).2 rfl) hp | dsimp only [Part.same]) ?_

theorem armStreams_only (s : State) (was : Nat) (w : Switch) :
    Alters [.streams] s (s.armStreams was w) := by
  unfold State.armStreams
  repeat' first
    | ((conv => enter [3, 21]); refine .upd (fun p hp => by cases p <;> first | exact absurd ((Part.mem_bits ..).2 rfl) hp | dsimp only [Part.same]) ?_)
    | with_reducible exact .refl _ _
    | assumption
    | with_unfolding_all decide
    | with_reducible refine .ite ?_ ?_
    | with_reducible refine .ite_snd ?_ ?_
    | with_reducible refine .fold ?_ (fun _ _ => ?_)
    | split
    | refine .upd (fun p hp => by cases p <;> first | exact absurd ((Part.mem_bits ..).2 rfl) hp | dsimp only [Part.same]) ?_

theorem openSeams_only (s : State) :
    Alters [.seams] s (s.openSeams) := by
  unfold State.openSeams
  repeat' first
    | ((conv => enter [3, 21]); refine .upd (fun p hp => by cases p <;> first | exact absurd ((Part.mem_bits ..).2 rfl) hp | dsimp only [Part.same]) ?_)
    | with_reducible exact .refl _ _
    | assumption
    | with_unfolding_all decide
    | with_reducible refine .ite ?_ ?_
    | with_reducible refine .ite_snd ?_ ?_
    | with_reducible apply Alters.step (openWindow_only ..)
    | with_reducible refine .fold ?_ (fun _ _ => ?_)
    | split
    | refine .upd (fun p hp => by cases p <;> first | exact absurd ((Part.mem_bits ..).2 rfl) hp | dsimp only [Part.same]) ?_

theorem cutAll_only (s : State) (closes : Bool) :
    Alters [.seams, .closing, .shaft, .grizzly, .slots, .regs, .fm, .free] s (s.cutAll closes) := by
  unfold State.cutAll
  repeat' first
    | with_reducible exact .refl _ _
    | assumption
    | with_unfolding_all decide
    | with_reducible refine .ite ?_ ?_
    | with_reducible refine .ite_snd ?_ ?_
    | with_reducible apply Alters.step (cutCopy_only ..)
    | with_reducible apply Alters.step (cutWindows_only ..)
    | with_reducible apply Alters.step (closeSegment_only ..)
    | with_reducible apply Alters.step (assayCut_only ..)
    | with_reducible refine .fold ?_ (fun _ _ => ?_)
    | split

theorem endDead_only (s : State) (d : Option Ingot) :
    Alters [.closing, .shaft] s (s.endDead d) := by
  unfold State.endDead
  repeat' first
    | ((conv => enter [3, 21]); refine .upd (fun p hp => by cases p <;> first | exact absurd ((Part.mem_bits ..).2 rfl) hp | dsimp only [Part.same]) ?_)
    | with_reducible exact .refl _ _
    | assumption
    | with_unfolding_all decide
    | with_reducible refine .ite ?_ ?_
    | with_reducible refine .ite_snd ?_ ?_
    | with_reducible apply Alters.step (emitControl_only ..)
    | with_reducible refine .fold ?_ (fun _ _ => ?_)
    | split
    | refine .upd (fun p hp => by cases p <;> first | exact absurd ((Part.mem_bits ..).2 rfl) hp | dsimp only [Part.same]) ?_

theorem armNext_only (s : State) (choice closed : Option Nat) (dead : Option Ingot) :
    Alters [.seams, .closing, .shaft, .grizzly, .smelter, .regs, .fm] s (s.armNext choice closed dead) := by
  unfold State.armNext
  repeat' first
    | ((conv => enter [3, 21]); refine .upd (fun p hp => by cases p <;> first | exact absurd ((Part.mem_bits ..).2 rfl) hp | dsimp only [Part.same]) ?_)
    | with_reducible exact .refl _ _
    | assumption
    | with_unfolding_all decide
    | with_reducible refine .ite ?_ ?_
    | with_reducible refine .ite_snd ?_ ?_
    | with_reducible apply Alters.step (emitControl_only ..)
    | with_reducible apply Alters.step (notice_only ..)
    | with_reducible apply Alters.step (armSegment_only ..)
    | with_reducible refine .fold ?_ (fun _ _ => ?_)
    | split
    | refine .upd (fun p hp => by cases p <;> first | exact absurd ((Part.mem_bits ..).2 rfl) hp | dsimp only [Part.same]) ?_

theorem queuePattern_only (s : State) (n pattern : Nat) :
    Alters [.links] s (s.queuePattern n pattern) := by
  unfold State.queuePattern
  repeat' first
    | with_reducible exact .refl _ _
    | assumption
    | with_unfolding_all decide
    | with_reducible refine .ite ?_ ?_
    | with_reducible refine .ite_snd ?_ ?_
    | with_reducible apply Alters.step (onLink_only ..)
    | with_reducible apply Alters.step (pumpControl_only ..)
    | with_reducible refine .fold ?_ (fun _ _ => ?_)
    | split

theorem linkEpoch_only (s : State) (old : Nat → Nat → Nat) (n : Fin 48) :
    Alters [.sv, .links, .xc, .seams, .grizzly, .regs, .fm] s (s.linkEpoch old n) := by
  unfold State.linkEpoch
  repeat' first
    | with_reducible exact .refl _ _
    | assumption
    | with_unfolding_all decide
    | with_reducible refine .ite ?_ ?_
    | with_reducible refine .ite_snd ?_ ?_
    | with_reducible apply Alters.step (queuePattern_only ..)
    | with_reducible apply Alters.step (tryUp_only ..)
    | with_reducible apply Alters.step (rxDisable_only ..)
    | with_reducible apply Alters.step (rxGo_only ..)
    | with_reducible apply Alters.step (rxSearch_only ..)
    | with_reducible refine .fold ?_ (fun _ _ => ?_)
    | split

theorem retimeSeam_only (s : State) (old : Nat → Nat → Nat) (k : Nat) :
    Alters [.seams] s (s.retimeSeam old k) := by
  unfold State.retimeSeam
  repeat' first
    | with_reducible exact .refl _ _
    | assumption
    | with_unfolding_all decide
    | with_reducible refine .ite ?_ ?_
    | with_reducible refine .ite_snd ?_ ?_
    | with_reducible apply Alters.step (onSeam_only ..)
    | with_reducible refine .fold ?_ (fun _ _ => ?_)
    | split

theorem seamEpoch_only (s : State) (old : Nat → Nat → Nat) (k : Nat) :
    Alters [.links, .seams] s (s.seamEpoch old k) := by
  unfold State.seamEpoch
  repeat' first
    | with_reducible exact .refl _ _
    | assumption
    | with_unfolding_all decide
    | with_reducible refine .ite ?_ ?_
    | with_reducible refine .ite_snd ?_ ?_
    | with_reducible apply Alters.step (loseSeam_only ..)
    | with_reducible apply Alters.step (retimeSeam_only ..)
    | with_reducible apply Alters.step (queueConfig_only ..)
    | with_reducible refine .fold ?_ (fun _ _ => ?_)
    | split

theorem unfeed_only (s : State) :
    Alters [.seams] s (s.unfeed) := by
  unfold State.unfeed
  repeat' first
    | with_reducible exact .refl _ _
    | assumption
    | with_unfolding_all decide
    | with_reducible refine .ite ?_ ?_
    | with_reducible refine .ite_snd ?_ ?_
    | with_reducible apply Alters.step (loseSeam_only ..)
    | with_reducible refine .fold ?_ (fun _ _ => ?_)
    | split

theorem setLanes_only (s : State) :
    Alters [.regs] s (s.setLanes) := by
  unfold State.setLanes
  repeat' first
    | ((conv => enter [3, 21]); refine .upd (fun p hp => by cases p <;> first | exact absurd ((Part.mem_bits ..).2 rfl) hp | dsimp only [Part.same]) ?_)
    | with_reducible exact .refl _ _
    | assumption
    | with_unfolding_all decide
    | with_reducible refine .ite ?_ ?_
    | with_reducible refine .ite_snd ?_ ?_
    | with_reducible refine .fold ?_ (fun _ _ => ?_)
    | split
    | refine .upd (fun p hp => by cases p <;> first | exact absurd ((Part.mem_bits ..).2 rfl) hp | dsimp only [Part.same]) ?_

theorem linksEpoch_only (s : State) (old : Nat → Nat → Nat) :
    Alters [.sv, .links, .xc, .seams, .grizzly, .regs, .fm] s (s.linksEpoch old) := by
  unfold State.linksEpoch
  repeat' first
    | with_reducible exact .refl _ _
    | assumption
    | with_unfolding_all decide
    | with_reducible refine .ite ?_ ?_
    | with_reducible refine .ite_snd ?_ ?_
    | with_reducible apply Alters.step (setLanes_only ..)
    | with_reducible apply Alters.step (seamEpoch_only ..)
    | with_reducible apply Alters.step (linkEpoch_only ..)
    | with_reducible refine .fold ?_ (fun _ _ => ?_)
    | split

theorem lineEpoch_only (s : State) (old : Nat → Nat → Nat) (n : Nat) :
    Alters [.shaft] s (s.lineEpoch old n) := by
  unfold State.lineEpoch
  repeat' first
    | ((conv => enter [3, 21]); refine .upd (fun p hp => by cases p <;> first | exact absurd ((Part.mem_bits ..).2 rfl) hp | dsimp only [Part.same]) ?_)
    | with_reducible exact .refl _ _
    | assumption
    | with_unfolding_all decide
    | with_reducible refine .ite ?_ ?_
    | with_reducible refine .ite_snd ?_ ?_
    | with_reducible refine .fold ?_ (fun _ _ => ?_)
    | split
    | refine .upd (fun p hp => by cases p <;> first | exact absurd ((Part.mem_bits ..).2 rfl) hp | dsimp only [Part.same]) ?_

theorem armGrizzly_only (s : State) (w : Switch) :
    Alters [.grizzly, .regs, .fm] s (s.armGrizzly w) := by
  unfold State.armGrizzly
  repeat' first
    | ((conv => enter [3, 21]); refine .upd (fun p hp => by cases p <;> first | exact absurd ((Part.mem_bits ..).2 rfl) hp | dsimp only [Part.same]) ?_)
    | with_reducible exact .refl _ _
    | assumption
    | with_unfolding_all decide
    | with_reducible refine .ite ?_ ?_
    | with_reducible refine .ite_snd ?_ ?_
    | with_reducible apply Alters.step (noteFloor_only ..)
    | with_reducible apply Alters.step (noteSpans_only ..)
    | with_reducible apply Alters.step (clearDrain_only ..)
    | with_reducible apply Alters.step (drainGoes_only ..)
    | with_reducible refine .fold ?_ (fun _ _ => ?_)
    | split
    | refine .upd (fun p hp => by cases p <;> first | exact absurd ((Part.mem_bits ..).2 rfl) hp | dsimp only [Part.same]) ?_

theorem takeUse_only (s : State) :
    Alters [.smelter, .fm] s (s.takeUse) := by
  unfold State.takeUse
  repeat' first
    | ((conv => enter [3, 21]); refine .upd (fun p hp => by cases p <;> first | exact absurd ((Part.mem_bits ..).2 rfl) hp | dsimp only [Part.same]) ?_)
    | with_reducible exact .refl _ _
    | assumption
    | with_unfolding_all decide
    | with_reducible refine .ite ?_ ?_
    | with_reducible refine .ite_snd ?_ ?_
    | with_reducible apply Alters.step (reserveUse_only ..)
    | with_reducible refine .fold ?_ (fun _ _ => ?_)
    | split
    | refine .upd (fun p hp => by cases p <;> first | exact absurd ((Part.mem_bits ..).2 rfl) hp | dsimp only [Part.same]) ?_

theorem discardStream_only (s : State) (q : Nat) :
    Alters [.streams, .grizzly, .regs, .fm] s (s.discardStream q) := by
  unfold State.discardStream
  extract_lets l t
  have h : Alters [.streams, .grizzly, .regs, .fm] s t := (endHold_only ..).next (onStream_only ..).mono
  clear_value t
  split
  · exact (notice_only ..).next h
  · exact h

theorem goDormant_only (s : State) :
    Alters [.power, .sv, .links, .xc, .seams, .closing, .streams, .shaft, .grizzly, .smelter, .hf, .regs, .twin, .fm, .sent] s (s.goDormant) := by
  unfold State.goDormant
  repeat' first
    | with_reducible exact .refl _ _
    | assumption
    | with_unfolding_all decide
    | with_reducible refine .ite ?_ ?_
    | with_reducible refine .ite_snd ?_ ?_
    | with_reducible apply Alters.step (noteUncertain_only ..)
    | with_reducible apply Alters.step (setPpsOut_only ..)
    | with_reducible apply Alters.step (notice_only ..)
    | with_reducible apply Alters.step (discardStream_only ..)
    | with_reducible apply Alters.step (cursorWrite_only ..)
    | with_reducible apply Alters.step (unpowerFabric_only ..)
    | with_reducible refine .fold ?_ (fun _ _ => ?_)
    | split

theorem loadSet_only (s : State) (w : Switch) (number : Nat) :
    Alters [.modes, .dict, .twin] s (s.loadSet w number) := by
  unfold State.loadSet
  repeat' first
    | ((conv => enter [3, 21]); refine .upd (fun p hp => by cases p <;> first | exact absurd ((Part.mem_bits ..).2 rfl) hp | dsimp only [Part.same]) ?_)
    | with_reducible exact .refl _ _
    | assumption
    | with_unfolding_all decide
    | with_reducible refine .ite ?_ ?_
    | with_reducible refine .ite_snd ?_ ?_
    | with_reducible apply Alters.step (setMode_only ..)
    | with_reducible refine .fold ?_ (fun _ _ => ?_)
    | split
    | refine .upd (fun p hp => by cases p <;> first | exact absurd ((Part.mem_bits ..).2 rfl) hp | dsimp only [Part.same]) ?_

theorem loadSync_only (s : State) (x : SyncState) (base : List Nat) :
    Alters [.streams, .shaft, .slots, .twin] s (s.loadSync x base) := by
  unfold State.loadSync
  repeat' first
    | ((conv => enter [3, 21]); refine .upd (fun p hp => by cases p <;> first | exact absurd ((Part.mem_bits ..).2 rfl) hp | dsimp only [Part.same]) ?_)
    | with_reducible exact .refl _ _
    | assumption
    | with_unfolding_all decide
    | with_reducible refine .ite ?_ ?_
    | with_reducible refine .ite_snd ?_ ?_
    | with_reducible refine .fold ?_ (fun _ _ => ?_)
    | split
    | refine .upd (fun p hp => by cases p <;> first | exact absurd ((Part.mem_bits ..).2 rfl) hp | dsimp only [Part.same]) ?_

theorem expectSync_only (s : State) :
    Alters [.streams, .shaft, .slots, .twin] s (s.expectSync) := by
  unfold State.expectSync
  repeat' first
    | ((conv => enter [3, 21]); refine .upd (fun p hp => by cases p <;> first | exact absurd ((Part.mem_bits ..).2 rfl) hp | dsimp only [Part.same]) ?_)
    | with_reducible exact .refl _ _
    | assumption
    | with_unfolding_all decide
    | with_reducible refine .ite ?_ ?_
    | with_reducible refine .ite_snd ?_ ?_
    | with_reducible apply Alters.step (loadSync_only ..)
    | with_reducible refine .fold ?_ (fun _ _ => ?_)
    | split
    | refine .upd (fun p hp => by cases p <;> first | exact absurd ((Part.mem_bits ..).2 rfl) hp | dsimp only [Part.same]) ?_

theorem leaveOld_only (s : State) (w : Switch) (prev number : Nat) (dead : Option Ingot) (layout : Bool) :
    Alters [.closing, .streams, .shaft, .grizzly, .smelter] s (s.leaveOld w prev number dead layout) := by
  unfold State.leaveOld
  extract_lets t1 on t2 t3
  have h1 : Alters [.closing, .streams, .shaft, .grizzly, .smelter] s t1 := (numberClosed_only ..).next (endDead_only ..).mono
  clear_value t1
  have h2 : Alters [.closing, .streams, .shaft, .grizzly, .smelter] s t2 := (announce_only ..).next h1
  clear_value t2
  have h3 : Alters [.closing, .streams, .shaft, .grizzly, .smelter] s t3 := .ite ((endReadout_only ..).next ((discardSegments_only ..).next h2)) h2
  clear_value t3
  exact .ite h3 ((endReadout_only ..).next h3)

theorem loadNew_only (s : State) (w : Switch) (was number : Nat) (restart arms : Bool) (choice : Option Nat) (closed : Option Nat) (dead : Option Ingot) :
    Alters [.modes, .seams, .closing, .streams, .shaft, .grizzly, .smelter, .dict, .regs, .twin, .fm] s (s.loadNew w was number restart arms choice closed dead) := by
  unfold State.loadNew
  repeat' first
    | with_reducible exact .refl _ _
    | assumption
    | with_unfolding_all decide
    | with_reducible refine .ite ?_ ?_
    | with_reducible refine .ite_snd ?_ ?_
    | with_reducible apply Alters.step (armStreams_only ..)
    | with_reducible apply Alters.step (shaftEpoch_only ..)
    | with_reducible apply Alters.step (loadSet_only ..)
    | with_reducible apply Alters.step (armNext_only ..)
    | with_reducible refine .fold ?_ (fun _ _ => ?_)
    | split

theorem startNew_only (s before : State) (w : Switch) (prev number : Nat) (idle : Bool) :
    Alters [.power, .sv, .links, .xc, .seams, .closing, .streams, .shaft, .grizzly, .smelter, .slots, .hf, .regs, .twin, .fm, .sent] s (s.startNew before w prev number idle) := by
  unfold State.startNew
  extract_lets t1 t2 t3 t4 t5 unarmed t6 t7 _ t8 t9
  have h1 : Alters [.power, .sv, .links, .xc, .seams, .closing, .streams, .shaft, .grizzly, .smelter, .slots, .hf, .regs, .twin, .fm, .sent] s t1 := (rasterEpoch_only ..).mono
  clear_value t1
  have h2 : Alters [.power, .sv, .links, .xc, .seams, .closing, .streams, .shaft, .grizzly, .smelter, .slots, .hf, .regs, .twin, .fm, .sent] s t2 := (announce_only ..).next ((openSeams_only ..).next h1)
  clear_value t2
  have h3 : Alters [.power, .sv, .links, .xc, .seams, .closing, .streams, .shaft, .grizzly, .smelter, .slots, .hf, .regs, .twin, .fm, .sent] s t3 := .ite ((takeUse_only ..).next h2) h2
  clear_value t3
  have h4 : Alters [.power, .sv, .links, .xc, .seams, .closing, .streams, .shaft, .grizzly, .smelter, .slots, .hf, .regs, .twin, .fm, .sent] s t4 := (linksEpoch_only ..).next ((armGrizzly_only ..).next h3)
  clear_value t4
  have h5 : Alters [.power, .sv, .links, .xc, .seams, .closing, .streams, .shaft, .grizzly, .smelter, .slots, .hf, .regs, .twin, .fm, .sent] s t5 := .fold h4 fun u n => (lineEpoch_only ..).mono
  clear_value t5
  have h6 : Alters [.power, .sv, .links, .xc, .seams, .closing, .streams, .shaft, .grizzly, .smelter, .slots, .hf, .regs, .twin, .fm, .sent] s t6 := .fold h5 fun u n => (assayOpen_only ..).mono
  clear_value t6
  have h7 : Alters [.power, .sv, .links, .xc, .seams, .closing, .streams, .shaft, .grizzly, .smelter, .slots, .hf, .regs, .twin, .fm, .sent] s t7 := .ite ((goDormant_only ..).next h6) (.ite h6 ((unfeed_only ..).next h6))
  clear_value t7
  have h8 : Alters [.power, .sv, .links, .xc, .seams, .closing, .streams, .shaft, .grizzly, .smelter, .slots, .hf, .regs, .twin, .fm, .sent] s t8 := .ite (.upd (fun p hp => by cases p <;> first | exact absurd ((Part.mem_bits ..).2 rfl) hp | rfl) h7) h7
  clear_value t8
  have h9 : Alters [.power, .sv, .links, .xc, .seams, .closing, .streams, .shaft, .grizzly, .smelter, .slots, .hf, .regs, .twin, .fm, .sent] s t9 := .ite h8 ((calStop_only ..).next h8)
  clear_value t9
  exact (noteEval_only ..).next ((updateLtr_only ..).next ((drivePins_only ..).next h9))

theorem takeSwitch_only (s : State) (w : Switch) :
    Alters [.power, .modes, .sv, .links, .xc, .seams, .closing, .streams, .shaft, .grizzly, .smelter, .slots, .hf, .dict, .regs, .twin, .fm, .sent, .free] s (s.takeSwitch w) := by
  unfold State.takeSwitch
  extract_lets before was prev number idle restart layout wins closed t1 arms choice dead t2 t3
  have h1 : Alters [.power, .modes, .sv, .links, .xc, .seams, .closing, .streams, .shaft, .grizzly, .smelter, .slots, .hf, .dict, .regs, .twin, .fm, .sent, .free] s t1 := (cutAll_only ..).mono
  clear_value t1
  have h2 : Alters [.power, .modes, .sv, .links, .xc, .seams, .closing, .streams, .shaft, .grizzly, .smelter, .slots, .hf, .dict, .regs, .twin, .fm, .sent, .free] s t2 := (leaveOld_only ..).next h1
  clear_value t2
  have h3 : Alters [.power, .modes, .sv, .links, .xc, .seams, .closing, .streams, .shaft, .grizzly, .smelter, .slots, .hf, .dict, .regs, .twin, .fm, .sent, .free] s t3 := (loadNew_only ..).next h2
  clear_value t3
  exact (startNew_only ..).next h3

theorem setFence_only (s : State) (level : Bool) :
    Alters [.twin, .sent] s (s.setFence level) := by
  unfold State.setFence
  repeat' first
    | ((conv => enter [3, 21]); refine .upd (fun p hp => by cases p <;> first | exact absurd ((Part.mem_bits ..).2 rfl) hp | dsimp only [Part.same]) ?_)
    | with_reducible exact .refl _ _
    | assumption
    | with_unfolding_all decide
    | with_reducible refine .ite ?_ ?_
    | with_reducible refine .ite_snd ?_ ?_
    | with_reducible apply Alters.step (send_only ..)
    | with_reducible refine .fold ?_ (fun _ _ => ?_)
    | split
    | refine .upd (fun p hp => by cases p <;> first | exact absurd ((Part.mem_bits ..).2 rfl) hp | dsimp only [Part.same]) ?_

theorem dropCopies_only (s : State) :
    Alters [.closing, .streams, .grizzly] s (s.dropCopies) := by
  unfold State.dropCopies
  repeat' first
    | ((conv => enter [3, 21]); refine .upd (fun p hp => by cases p <;> first | exact absurd ((Part.mem_bits ..).2 rfl) hp | dsimp only [Part.same]) ?_)
    | with_reducible exact .refl _ _
    | assumption
    | with_unfolding_all decide
    | with_reducible refine .ite ?_ ?_
    | with_reducible refine .ite_snd ?_ ?_
    | with_reducible apply Alters.step (endHolds_only ..)
    | with_reducible refine .fold ?_ (fun _ _ => ?_)
    | split
    | refine .upd (fun p hp => by cases p <;> first | exact absurd ((Part.mem_bits ..).2 rfl) hp | dsimp only [Part.same]) ?_

theorem endPair_only (s : State) (role : Nat) :
    Alters [.closing, .streams, .grizzly, .twin] s (s.endPair role) := by
  unfold State.endPair
  repeat' first
    | ((conv => enter [3, 21]); refine .upd (fun p hp => by cases p <;> first | exact absurd ((Part.mem_bits ..).2 rfl) hp | dsimp only [Part.same]) ?_)
    | with_reducible exact .refl _ _
    | assumption
    | with_unfolding_all decide
    | with_reducible refine .ite ?_ ?_
    | with_reducible refine .ite_snd ?_ ?_
    | with_reducible apply Alters.step (setRole_only ..)
    | with_reducible apply Alters.step (dropCopies_only ..)
    | with_reducible refine .fold ?_ (fun _ _ => ?_)
    | split
    | refine .upd (fun p hp => by cases p <;> first | exact absurd ((Part.mem_bits ..).2 rfl) hp | dsimp only [Part.same]) ?_

theorem resumeStream_only (s : State) (t : TwinCopies) (q : Nat) :
    Alters [.streams, .hf] s (s.resumeStream t q) := by
  unfold State.resumeStream
  repeat' first
    | with_reducible exact .refl _ _
    | assumption
    | with_unfolding_all decide
    | with_reducible refine .ite ?_ ?_
    | with_reducible refine .ite_snd ?_ ?_
    | with_reducible apply Alters.step (onRing_only ..)
    | with_reducible apply Alters.step (onStream_only ..)
    | with_reducible refine .fold ?_ (fun _ _ => ?_)
    | split

theorem takeoverDue_only (s : State) (exposed : Bool) :
    Alters [.grizzly] s (s.takeoverDue exposed) := by
  unfold State.takeoverDue
  repeat' first
    | ((conv => enter [3, 21]); refine .upd (fun p hp => by cases p <;> first | exact absurd ((Part.mem_bits ..).2 rfl) hp | dsimp only [Part.same]) ?_)
    | with_reducible exact .refl _ _
    | assumption
    | with_unfolding_all decide
    | with_reducible refine .ite ?_ ?_
    | with_reducible refine .ite_snd ?_ ?_
    | with_reducible refine .fold ?_ (fun _ _ => ?_)
    | split
    | refine .upd (fun p hp => by cases p <;> first | exact absurd ((Part.mem_bits ..).2 rfl) hp | dsimp only [Part.same]) ?_

theorem resumeDelivery_only (s : State) (t : TwinCopies) (exposed : Bool) :
    Alters [.streams, .grizzly, .hf, .twin] s (s.resumeDelivery t exposed) := by
  unfold State.resumeDelivery
  repeat' first
    | with_reducible exact .refl _ _
    | assumption
    | with_unfolding_all decide
    | with_reducible refine .ite ?_ ?_
    | with_reducible refine .ite_snd ?_ ?_
    | with_reducible apply Alters.step (setRole_only ..)
    | with_reducible apply Alters.step (takeoverDue_only ..)
    | with_reducible apply Alters.step (resumeStream_only ..)
    | with_reducible refine .fold ?_ (fun _ _ => ?_)
    | split

theorem handDelivery_only (s : State) :
    Alters [.power, .streams, .grizzly, .hf, .regs, .twin, .sent] s (s.handDelivery) := by
  unfold State.handDelivery
  repeat' first
    | ((conv => enter [3, 21]); refine .upd (fun p hp => by cases p <;> first | exact absurd ((Part.mem_bits ..).2 rfl) hp | dsimp only [Part.same]) ?_)
    | with_reducible exact .refl _ _
    | assumption
    | with_unfolding_all decide
    | with_reducible refine .ite ?_ ?_
    | with_reducible refine .ite_snd ?_ ?_
    | with_reducible apply Alters.step (endHolds_only ..)
    | with_reducible apply Alters.step (cursorWrite_only ..)
    | with_reducible refine .fold ?_ (fun _ _ => ?_)
    | split
    | refine .upd (fun p hp => by cases p <;> first | exact absurd ((Part.mem_bits ..).2 rfl) hp | dsimp only [Part.same]) ?_

theorem takeUpRing_only (s : State) (t : TwinCopies) (n : Nat) :
    Alters [.streams, .hf, .twin] s (s.takeUpRing t n) := by
  unfold State.takeUpRing
  repeat' first
    | ((conv => enter [3, 21]); refine .upd (fun p hp => by cases p <;> first | exact absurd ((Part.mem_bits ..).2 rfl) hp | dsimp only [Part.same]) ?_)
    | with_reducible exact .refl _ _
    | assumption
    | with_unfolding_all decide
    | with_reducible refine .ite ?_ ?_
    | with_reducible refine .ite_snd ?_ ?_
    | with_reducible apply Alters.step (resumeStream_only ..)
    | with_reducible refine .fold ?_ (fun _ _ => ?_)
    | split
    | refine .upd (fun p hp => by cases p <;> first | exact absurd ((Part.mem_bits ..).2 rfl) hp | dsimp only [Part.same]) ?_

theorem takeUpRest_only (s : State) :
    Alters [.streams, .hf, .twin] s (s.takeUpRest) := by
  unfold State.takeUpRest
  repeat' first
    | with_reducible exact .refl _ _
    | assumption
    | with_unfolding_all decide
    | with_reducible refine .ite ?_ ?_
    | with_reducible refine .ite_snd ?_ ?_
    | with_reducible apply Alters.step (takeUpRing_only ..)
    | with_reducible refine .fold ?_ (fun _ _ => ?_)
    | split

theorem swapDelivery_only (s : State) :
    Alters [.streams, .grizzly, .hf, .twin] s (s.swapDelivery) := by
  unfold State.swapDelivery
  repeat' first
    | ((conv => enter [3, 21]); refine .upd (fun p hp => by cases p <;> first | exact absurd ((Part.mem_bits ..).2 rfl) hp | dsimp only [Part.same]) ?_)
    | with_reducible exact .refl _ _
    | assumption
    | with_unfolding_all decide
    | with_reducible refine .ite ?_ ?_
    | with_reducible refine .ite_snd ?_ ?_
    | with_reducible apply Alters.step (setRole_only ..)
    | with_reducible apply Alters.step (takeoverDue_only ..)
    | with_reducible apply Alters.step (takeUpRing_only ..)
    | with_reducible refine .fold ?_ (fun _ _ => ?_)
    | split
    | refine .upd (fun p hp => by cases p <;> first | exact absurd ((Part.mem_bits ..).2 rfl) hp | dsimp only [Part.same]) ?_

theorem becomeShadow_only (s : State) :
    Alters [.twin] s (s.becomeShadow) := by
  unfold State.becomeShadow
  repeat' first
    | ((conv => enter [3, 21]); refine .upd (fun p hp => by cases p <;> first | exact absurd ((Part.mem_bits ..).2 rfl) hp | dsimp only [Part.same]) ?_)
    | with_reducible exact .refl _ _
    | assumption
    | with_unfolding_all decide
    | with_reducible refine .ite ?_ ?_
    | with_reducible refine .ite_snd ?_ ?_
    | with_reducible apply Alters.step (setRole_only ..)
    | with_reducible refine .fold ?_ (fun _ _ => ?_)
    | split
    | refine .upd (fun p hp => by cases p <;> first | exact absurd ((Part.mem_bits ..).2 rfl) hp | dsimp only [Part.same]) ?_

theorem swapRoles_only (s : State) :
    Alters [.power, .streams, .grizzly, .hf, .regs, .twin, .sent] s (s.swapRoles) := by
  unfold State.swapRoles
  repeat' first
    | with_reducible exact .refl _ _
    | assumption
    | with_unfolding_all decide
    | with_reducible refine .ite ?_ ?_
    | with_reducible refine .ite_snd ?_ ?_
    | with_reducible apply Alters.step (becomeShadow_only ..)
    | with_reducible apply Alters.step (swapDelivery_only ..)
    | with_reducible apply Alters.step (handDelivery_only ..)
    | with_reducible refine .fold ?_ (fun _ _ => ?_)
    | split

theorem rolesBefore_only (s : State) :
    Alters [.power, .streams, .grizzly, .hf, .regs, .twin, .sent] s (s.rolesBefore) := by
  unfold State.rolesBefore
  repeat' first
    | with_reducible exact .refl _ _
    | assumption
    | with_unfolding_all decide
    | with_reducible refine .ite ?_ ?_
    | with_reducible refine .ite_snd ?_ ?_
    | with_reducible apply Alters.step (swapRoles_only ..)
    | with_reducible refine .fold ?_ (fun _ _ => ?_)
    | split

theorem rolesAfter_only (s : State) (c : Committed) (detach : Bool) :
    Alters [.power, .closing, .streams, .shaft, .grizzly, .slots, .hf, .regs, .twin, .sent] s (s.rolesAfter c detach) := by
  unfold State.rolesAfter
  repeat' first
    | ((conv => enter [3, 21]); refine .upd (fun p hp => by cases p <;> first | exact absurd ((Part.mem_bits ..).2 rfl) hp | dsimp only [Part.same]) ?_)
    | with_reducible exact .refl _ _
    | assumption
    | with_unfolding_all decide
    | with_reducible refine .ite ?_ ?_
    | with_reducible refine .ite_snd ?_ ?_
    | with_reducible apply Alters.step (becomeShadow_only ..)
    | with_reducible apply Alters.step (setFence_only ..)
    | with_reducible apply Alters.step (xcSend_only ..)
    | with_reducible apply Alters.step (endPair_only ..)
    | with_reducible apply Alters.step (expectSync_only ..)
    | with_reducible apply Alters.step (releaseCursors_only ..)
    | with_reducible refine .fold ?_ (fun _ _ => ?_)
    | split
    | refine .upd (fun p hp => by cases p <;> first | exact absurd ((Part.mem_bits ..).2 rfl) hp | dsimp only [Part.same]) ?_

theorem scheduled_only (s : State) (c : Committed) :
    Alters [.power, .modes, .sv, .links, .xc, .seams, .closing, .streams, .shaft, .grizzly, .smelter, .slots, .hf, .dict, .regs, .twin, .fm, .sent, .free] s (s.scheduled c) := by
  unfold State.scheduled
  repeat' first
    | ((conv => enter [3, 21]); refine .upd (fun p hp => by cases p <;> first | exact absurd ((Part.mem_bits ..).2 rfl) hp | dsimp only [Part.same]) ?_)
    | with_reducible exact .refl _ _
    | assumption
    | with_unfolding_all decide
    | with_reducible refine .ite ?_ ?_
    | with_reducible refine .ite_snd ?_ ?_
    | with_reducible apply Alters.step (dropChange_only ..)
    | with_reducible apply Alters.step (rolesBefore_only ..)
    | with_reducible apply Alters.step (rolesAfter_only ..)
    | with_reducible apply Alters.step (takeSwitch_only ..)
    | with_reducible refine .fold ?_ (fun _ _ => ?_)
    | split
    | refine .upd (fun p hp => by cases p <;> first | exact absurd ((Part.mem_bits ..).2 rfl) hp | dsimp only [Part.same]) ?_

theorem epochInstant_only (s : State) :
    Alters [.power, .modes, .sv, .links, .xc, .seams, .closing, .streams, .shaft, .grizzly, .smelter, .slots, .hf, .dict, .regs, .twin, .fm, .sent, .free] s (s.epochInstant) := by
  unfold State.epochInstant
  repeat' first
    | with_reducible exact .refl _ _
    | assumption
    | with_unfolding_all decide
    | with_reducible refine .ite ?_ ?_
    | with_reducible refine .ite_snd ?_ ?_
    | with_reducible apply Alters.step (abortChange_only ..)
    | with_reducible apply Alters.step (diverge_only ..)
    | with_reducible apply Alters.step (scheduled_only ..)
    | with_reducible refine .fold ?_ (fun _ _ => ?_)
    | split

theorem checkPasses_only (s : State) :
    Alters [.modes, .shaft, .twin] s (s.checkPasses) := by
  unfold State.checkPasses
  repeat' first
    | ((conv => enter [3, 21]); refine .upd (fun p hp => by cases p <;> first | exact absurd ((Part.mem_bits ..).2 rfl) hp | dsimp only [Part.same]) ?_)
    | with_reducible exact .refl _ _
    | assumption
    | with_unfolding_all decide
    | with_reducible refine .ite ?_ ?_
    | with_reducible refine .ite_snd ?_ ?_
    | with_reducible apply Alters.step (writeHeaders_only ..)
    | with_reducible refine .fold ?_ (fun _ _ => ?_)
    | split
    | refine .upd (fun p hp => by cases p <;> first | exact absurd ((Part.mem_bits ..).2 rfl) hp | dsimp only [Part.same]) ?_

theorem checkFails_only (s : State) (e : AfterEpoch) (mask : BitVec 11) :
    Alters [.modes, .shaft, .twin] s (s.checkFails e mask) := by
  unfold State.checkFails
  repeat' first
    | ((conv => enter [3, 21]); refine .upd (fun p hp => by cases p <;> first | exact absurd ((Part.mem_bits ..).2 rfl) hp | dsimp only [Part.same]) ?_)
    | with_reducible exact .refl _ _
    | assumption
    | with_unfolding_all decide
    | with_reducible refine .ite ?_ ?_
    | with_reducible refine .ite_snd ?_ ?_
    | with_reducible apply Alters.step (splitWindows_only ..)
    | with_reducible apply Alters.step (writeHeaders_only ..)
    | with_reducible refine .fold ?_ (fun _ _ => ?_)
    | split
    | refine .upd (fun p hp => by cases p <;> first | exact absurd ((Part.mem_bits ..).2 rfl) hp | dsimp only [Part.same]) ?_

theorem checkEnds_only (s : State) (failed : BitVec 11) :
    Alters [.modes, .shaft, .regs, .twin, .sent] s (s.checkEnds failed) := by
  unfold State.checkEnds
  repeat' first
    | ((conv => enter [3, 21]); refine .upd (fun p hp => by cases p <;> first | exact absurd ((Part.mem_bits ..).2 rfl) hp | dsimp only [Part.same]) ?_)
    | with_reducible exact .refl _ _
    | assumption
    | with_unfolding_all decide
    | with_reducible refine .ite ?_ ?_
    | with_reducible refine .ite_snd ?_ ?_
    | with_reducible apply Alters.step (xcSend_only ..)
    | with_reducible apply Alters.step (checkPasses_only ..)
    | with_reducible apply Alters.step (checkFails_only ..)
    | with_reducible refine .fold ?_ (fun _ _ => ?_)
    | split
    | refine .upd (fun p hp => by cases p <;> first | exact absurd ((Part.mem_bits ..).2 rfl) hp | dsimp only [Part.same]) ?_

theorem endSplit_only (s : State) :
    Alters [.modes] s (s.endSplit) := by
  unfold State.endSplit
  repeat' first
    | ((conv => enter [3, 21]); refine .upd (fun p hp => by cases p <;> first | exact absurd ((Part.mem_bits ..).2 rfl) hp | dsimp only [Part.same]) ?_)
    | with_reducible exact .refl _ _
    | assumption
    | with_unfolding_all decide
    | with_reducible refine .ite ?_ ?_
    | with_reducible refine .ite_snd ?_ ?_
    | with_reducible refine .fold ?_ (fun _ _ => ?_)
    | split
    | refine .upd (fun p hp => by cases p <;> first | exact absurd ((Part.mem_bits ..).2 rfl) hp | dsimp only [Part.same]) ?_

theorem rollBack_only (s : State) (e : AfterEpoch) (failed : BitVec 11) :
    Alters [.power, .modes, .sv, .links, .xc, .seams, .closing, .streams, .shaft, .grizzly, .smelter, .slots, .hf, .dict, .regs, .twin, .fm, .sent, .free] s (s.rollBack e failed) := by
  unfold State.rollBack
  repeat' first
    | ((conv => enter [3, 21]); refine .upd (fun p hp => by cases p <;> first | exact absurd ((Part.mem_bits ..).2 rfl) hp | dsimp only [Part.same]) ?_)
    | with_reducible exact .refl _ _
    | assumption
    | with_unfolding_all decide
    | with_reducible refine .ite ?_ ?_
    | with_reducible refine .ite_snd ?_ ?_
    | with_reducible apply Alters.step (becomeShadow_only ..)
    | with_reducible apply Alters.step (endSplit_only ..)
    | with_reducible apply Alters.step (leaveMode_only ..)
    | with_reducible apply Alters.step (swapDelivery_only ..)
    | with_reducible apply Alters.step (handDelivery_only ..)
    | with_reducible apply Alters.step (fault_only ..)
    | with_reducible apply Alters.step (takeSwitch_only ..)
    | with_reducible refine .fold ?_ (fun _ _ => ?_)
    | split
    | refine .upd (fun p hp => by cases p <;> first | exact absurd ((Part.mem_bits ..).2 rfl) hp | dsimp only [Part.same]) ?_

theorem forceOver_only (s : State) :
    Alters [.modes, .grizzly, .regs, .twin, .fm] s (s.forceOver) := by
  unfold State.forceOver
  repeat' first
    | ((conv => enter [3, 21]); refine .upd (fun p hp => by cases p <;> first | exact absurd ((Part.mem_bits ..).2 rfl) hp | dsimp only [Part.same]) ?_)
    | with_reducible exact .refl _ _
    | assumption
    | with_unfolding_all decide
    | with_reducible refine .ite ?_ ?_
    | with_reducible refine .ite_snd ?_ ?_
    | with_reducible apply Alters.step (endSplit_only ..)
    | with_reducible apply Alters.step (abortChange_only ..)
    | with_reducible refine .fold ?_ (fun _ _ => ?_)
    | split
    | refine .upd (fun p hp => by cases p <;> first | exact absurd ((Part.mem_bits ..).2 rfl) hp | dsimp only [Part.same]) ?_

theorem takeoverRaster_only (s : State) :
    Alters [.sv, .grizzly, .regs, .fm] s (s.takeoverRaster) := by
  unfold State.takeoverRaster
  repeat' first
    | with_reducible exact .refl _ _
    | assumption
    | with_unfolding_all decide
    | with_reducible refine .ite ?_ ?_
    | with_reducible refine .ite_snd ?_ ?_
    | with_reducible apply Alters.step (enterHoldover_only ..)
    | with_reducible refine .fold ?_ (fun _ _ => ?_)
    | split

theorem dropPulses_only (s : State) :
    Alters [.shaft] s (s.dropPulses) := by
  unfold State.dropPulses
  repeat' first
    | ((conv => enter [3, 21]); refine .upd (fun p hp => by cases p <;> first | exact absurd ((Part.mem_bits ..).2 rfl) hp | dsimp only [Part.same]) ?_)
    | with_reducible exact .refl _ _
    | assumption
    | with_unfolding_all decide
    | with_reducible refine .ite ?_ ?_
    | with_reducible refine .ite_snd ?_ ?_
    | with_reducible refine .fold ?_ (fun _ _ => ?_)
    | split
    | refine .upd (fun p hp => by cases p <;> first | exact absurd ((Part.mem_bits ..).2 rfl) hp | dsimp only [Part.same]) ?_

theorem takeOver_only (s : State) (w : Switch) (clean : Bool) :
    Alters [.power, .modes, .sv, .links, .xc, .seams, .closing, .streams, .shaft, .grizzly, .smelter, .slots, .hf, .dict, .regs, .twin, .fm, .sent, .free] s (s.takeOver w clean) := by
  unfold State.takeOver
  repeat' first
    | ((conv => enter [3, 21]); refine .upd (fun p hp => by cases p <;> first | exact absurd ((Part.mem_bits ..).2 rfl) hp | dsimp only [Part.same]) ?_)
    | with_reducible exact .refl _ _
    | assumption
    | with_unfolding_all decide
    | with_reducible refine .ite ?_ ?_
    | with_reducible refine .ite_snd ?_ ?_
    | with_reducible apply Alters.step (loseResults_only ..)
    | with_reducible apply Alters.step (dropPulses_only ..)
    | with_reducible apply Alters.step (event_only ..)
    | with_reducible apply Alters.step (resumeDelivery_only ..)
    | with_reducible apply Alters.step (endPair_only ..)
    | with_reducible apply Alters.step (takeoverRaster_only ..)
    | with_reducible apply Alters.step (takeSwitch_only ..)
    | with_reducible refine .fold ?_ (fun _ _ => ?_)
    | split
    | refine .upd (fun p hp => by cases p <;> first | exact absurd ((Part.mem_bits ..).2 rfl) hp | dsimp only [Part.same]) ?_

theorem forcedEpoch_only (s : State) (by_ : ForcedBy) (target : Nat) :
    Alters [.power, .modes, .sv, .links, .xc, .seams, .closing, .streams, .shaft, .grizzly, .smelter, .slots, .hf, .dict, .regs, .twin, .fm, .sent, .free] s (s.forcedEpoch by_ target) := by
  unfold State.forcedEpoch
  repeat' first
    | ((conv => enter [3, 21]); refine .upd (fun p hp => by cases p <;> first | exact absurd ((Part.mem_bits ..).2 rfl) hp | dsimp only [Part.same]) ?_)
    | with_reducible exact .refl _ _
    | assumption
    | with_unfolding_all decide
    | with_reducible refine .ite ?_ ?_
    | with_reducible refine .ite_snd ?_ ?_
    | with_reducible apply Alters.step (setFence_only ..)
    | with_reducible apply Alters.step (endPair_only ..)
    | with_reducible apply Alters.step (forceOver_only ..)
    | with_reducible apply Alters.step (handDelivery_only ..)
    | with_reducible apply Alters.step (takeOver_only ..)
    | with_reducible apply Alters.step (takeSwitch_only ..)
    | with_reducible refine .fold ?_ (fun _ _ => ?_)
    | split
    | refine .upd (fun p hp => by cases p <;> first | exact absurd ((Part.mem_bits ..).2 rfl) hp | dsimp only [Part.same]) ?_

theorem enterReady_only (s : State) :
    Alters [.power, .modes, .sv, .links, .xc, .seams, .shaft, .grizzly, .hf, .dict, .regs, .twin, .fm, .sent] s (s.enterReady) := by
  unfold State.enterReady
  repeat' first
    | ((conv => enter [3, 21]); refine .upd (fun p hp => by cases p <;> first | exact absurd ((Part.mem_bits ..).2 rfl) hp | dsimp only [Part.same]) ?_)
    | with_reducible exact .refl _ _
    | assumption
    | with_unfolding_all decide
    | with_reducible refine .ite ?_ ?_
    | with_reducible refine .ite_snd ?_ ?_
    | with_reducible apply Alters.step (shaftEpoch_only ..)
    | with_reducible apply Alters.step (dropChange_only ..)
    | with_reducible apply Alters.step (drivePins_only ..)
    | with_reducible apply Alters.step (updateLtr_only ..)
    | with_reducible apply Alters.step (loadSet_only ..)
    | with_reducible apply Alters.step (notice_only ..)
    | with_reducible apply Alters.step (noteEval_only ..)
    | with_reducible apply Alters.step (rasterEntry_only ..)
    | with_reducible apply Alters.step (linksEpoch_only ..)
    | with_reducible refine .fold ?_ (fun _ _ => ?_)
    | split
    | refine .upd (fun p hp => by cases p <;> first | exact absurd ((Part.mem_bits ..).2 rfl) hp | dsimp only [Part.same]) ?_

theorem readFlags_only (s : State) :
    Alters [.shaft] s (s.readFlags) := by
  unfold State.readFlags
  repeat' first
    | ((conv => enter [3, 21]); refine .upd (fun p hp => by cases p <;> first | exact absurd ((Part.mem_bits ..).2 rfl) hp | dsimp only [Part.same]) ?_)
    | with_reducible exact .refl _ _
    | assumption
    | with_unfolding_all decide
    | with_reducible refine .ite ?_ ?_
    | with_reducible refine .ite_snd ?_ ?_
    | with_reducible refine .fold ?_ (fun _ _ => ?_)
    | split
    | refine .upd (fun p hp => by cases p <;> first | exact absurd ((Part.mem_bits ..).2 rfl) hp | dsimp only [Part.same]) ?_

theorem onSensor_only (s : State) (n : Nat) (f : Sensor → Sensor) :
    Alters [.fm] s (s.onSensor n f) := by
  unfold State.onSensor
  repeat' first
    | ((conv => enter [3, 21]); refine .upd (fun p hp => by cases p <;> first | exact absurd ((Part.mem_bits ..).2 rfl) hp | dsimp only [Part.same]) ?_)
    | with_reducible exact .refl _ _
    | assumption
    | with_unfolding_all decide
    | with_reducible refine .ite ?_ ?_
    | with_reducible refine .ite_snd ?_ ?_
    | with_reducible refine .fold ?_ (fun _ _ => ?_)
    | split
    | refine .upd (fun p hp => by cases p <;> first | exact absurd ((Part.mem_bits ..).2 rfl) hp | dsimp only [Part.same]) ?_

theorem fixedLimits_only (s : State) (n : Nat) (w : Word) :
    Alters [.modes, .sv, .links, .xc, .seams, .grizzly, .regs, .fm] s (s.fixedLimits n w) := by
  unfold State.fixedLimits
  repeat' first
    | with_reducible exact .refl _ _
    | assumption
    | with_unfolding_all decide
    | with_reducible refine .ite ?_ ?_
    | with_reducible refine .ite_snd ?_ ?_
    | with_reducible apply Alters.step (onSensor_only ..)
    | with_reducible apply Alters.step (dropCondition_only ..)
    | with_reducible apply Alters.step (fault_only ..)
    | with_reducible refine .fold ?_ (fun _ _ => ?_)
    | split

theorem warnLimits_only (s : State) (n : Nat) (w : Word) :
    Alters [.modes, .sv, .links, .xc, .seams, .grizzly, .regs, .fm] s (s.warnLimits n w) := by
  unfold State.warnLimits
  repeat' first
    | with_reducible exact .refl _ _
    | assumption
    | with_unfolding_all decide
    | with_reducible refine .ite ?_ ?_
    | with_reducible refine .ite_snd ?_ ?_
    | with_reducible apply Alters.step (onSensor_only ..)
    | with_reducible apply Alters.step (notice_only ..)
    | with_reducible apply Alters.step (fault_only ..)
    | with_reducible refine .fold ?_ (fun _ _ => ?_)
    | split

theorem takeReading_only (s : State) (n : Nat) (r : Option Word) :
    Alters [.modes, .sv, .links, .xc, .seams, .grizzly, .regs, .fm] s (s.takeReading n r) := by
  unfold State.takeReading
  repeat' first
    | with_reducible exact .refl _ _
    | assumption
    | with_unfolding_all decide
    | with_reducible refine .ite ?_ ?_
    | with_reducible refine .ite_snd ?_ ?_
    | with_reducible apply Alters.step (dropCondition_only ..)
    | with_reducible apply Alters.step (onSensor_only ..)
    | with_reducible apply Alters.step (warnLimits_only ..)
    | with_reducible apply Alters.step (fixedLimits_only ..)
    | with_reducible apply Alters.step (fault_only ..)
    | with_reducible refine .fold ?_ (fun _ _ => ?_)
    | split

theorem junctionLimits_only (s : State) :
    Alters [.modes, .sv, .links, .xc, .seams, .grizzly, .regs, .fm] s (s.junctionLimits) := by
  unfold State.junctionLimits
  repeat' first
    | ((conv => enter [3, 21]); refine .upd (fun p hp => by cases p <;> first | exact absurd ((Part.mem_bits ..).2 rfl) hp | dsimp only [Part.same]) ?_)
    | with_reducible exact .refl _ _
    | assumption
    | with_unfolding_all decide
    | with_reducible refine .ite ?_ ?_
    | with_reducible refine .ite_snd ?_ ?_
    | with_reducible apply Alters.step (fault_only ..)
    | with_reducible refine .fold ?_ (fun _ _ => ?_)
    | split
    | refine .upd (fun p hp => by cases p <;> first | exact absurd ((Part.mem_bits ..).2 rfl) hp | dsimp only [Part.same]) ?_

theorem hbmLimit_only (s : State) (stack : Nat) :
    Alters [.modes, .sv, .links, .xc, .seams, .grizzly, .regs, .fm] s (s.hbmLimit stack) := by
  unfold State.hbmLimit
  repeat' first
    | ((conv => enter [3, 21]); refine .upd (fun p hp => by cases p <;> first | exact absurd ((Part.mem_bits ..).2 rfl) hp | dsimp only [Part.same]) ?_)
    | with_reducible exact .refl _ _
    | assumption
    | with_unfolding_all decide
    | with_reducible refine .ite ?_ ?_
    | with_reducible refine .ite_snd ?_ ?_
    | with_reducible apply Alters.step (fault_only ..)
    | with_reducible refine .fold ?_ (fun _ _ => ?_)
    | split
    | refine .upd (fun p hp => by cases p <;> first | exact absurd ((Part.mem_bits ..).2 rfl) hp | dsimp only [Part.same]) ?_

theorem sampleSensors_only (s : State) (readings : List (Option Word)) :
    Alters [.modes, .sv, .links, .xc, .seams, .grizzly, .regs, .fm] s (s.sampleSensors readings) := by
  unfold State.sampleSensors
  repeat' first
    | with_reducible exact .refl _ _
    | assumption
    | with_unfolding_all decide
    | with_reducible refine .ite ?_ ?_
    | with_reducible refine .ite_snd ?_ ?_
    | with_reducible apply Alters.step (takeReading_only ..)
    | with_reducible apply Alters.step (junctionLimits_only ..)
    | with_reducible apply Alters.step (hbmLimit_only ..)
    | with_reducible refine .fold ?_ (fun _ _ => ?_)
    | split

theorem handoverActs_only (s : State) (by_ : ForcedBy) :
    Alters [.power, .modes, .grizzly, .hf, .sent] s (s.handoverActs by_) := by
  unfold State.handoverActs
  repeat' first
    | with_reducible exact .refl _ _
    | assumption
    | with_unfolding_all decide
    | with_reducible refine .ite ?_ ?_
    | with_reducible refine .ite_snd ?_ ?_
    | with_reducible apply Alters.step (leaveMode_only ..)
    | with_reducible apply Alters.step (assertFaultN_only ..)
    | with_reducible refine .fold ?_ (fun _ _ => ?_)
    | split

theorem classActs_only (s : State) (f : Faulted) :
    Alters [.power, .modes, .sv, .links, .xc, .seams, .grizzly, .hf, .regs, .twin, .fm, .sent] s (s.classActs f) := by
  unfold State.classActs
  repeat' first
    | ((conv => enter [3, 21]); refine .upd (fun p hp => by cases p <;> first | exact absurd ((Part.mem_bits ..).2 rfl) hp | dsimp only [Part.same]) ?_)
    | with_reducible exact .refl _ _
    | assumption
    | with_unfolding_all decide
    | with_reducible refine .ite ?_ ?_
    | with_reducible refine .ite_snd ?_ ?_
    | with_reducible apply Alters.step (dropCondition_only ..)
    | with_reducible apply Alters.step (raiseVector_only ..)
    | with_reducible apply Alters.step (settleVotes_only ..)
    | with_reducible apply Alters.step (handoverActs_only ..)
    | with_reducible apply Alters.step (isolateBlock_only ..)
    | with_reducible refine .fold ?_ (fun _ _ => ?_)
    | split
    | refine .upd (fun p hp => by cases p <;> first | exact absurd ((Part.mem_bits ..).2 rfl) hp | dsimp only [Part.same]) ?_

theorem noteLost_only (s : State) :
    Alters [.grizzly, .regs, .fm] s (s.noteLost) := by
  unfold State.noteLost
  repeat' first
    | ((conv => enter [3, 21]); refine .upd (fun p hp => by cases p <;> first | exact absurd ((Part.mem_bits ..).2 rfl) hp | dsimp only [Part.same]) ?_)
    | with_reducible exact .refl _ _
    | assumption
    | with_unfolding_all decide
    | with_reducible refine .ite ?_ ?_
    | with_reducible refine .ite_snd ?_ ?_
    | with_reducible apply Alters.step (notice_only ..)
    | with_reducible refine .fold ?_ (fun _ _ => ?_)
    | split
    | refine .upd (fun p hp => by cases p <;> first | exact absurd ((Part.mem_bits ..).2 rfl) hp | dsimp only [Part.same]) ?_

theorem nextFault_only (s : State) :
    Alters [.fm] s (s.nextFault) := by
  unfold State.nextFault
  repeat' first
    | ((conv => enter [3, 21]); refine .upd (fun p hp => by cases p <;> first | exact absurd ((Part.mem_bits ..).2 rfl) hp | dsimp only [Part.same]) ?_)
    | with_reducible exact .refl _ _
    | assumption
    | with_unfolding_all decide
    | with_reducible refine .ite ?_ ?_
    | with_reducible refine .ite_snd ?_ ?_
    | with_reducible refine .fold ?_ (fun _ _ => ?_)
    | split
    | refine .upd (fun p hp => by cases p <;> first | exact absurd ((Part.mem_bits ..).2 rfl) hp | dsimp only [Part.same]) ?_

theorem restartCores_only (s : State) :
    Alters [.power, .grizzly, .hf, .regs, .fm, .sent] s (s.restartCores) := by
  unfold State.restartCores
  repeat' first
    | ((conv => enter [3, 21]); refine .upd (fun p hp => by cases p <;> first | exact absurd ((Part.mem_bits ..).2 rfl) hp | dsimp only [Part.same]) ?_)
    | with_reducible exact .refl _ _
    | assumption
    | with_unfolding_all decide
    | with_reducible refine .ite ?_ ?_
    | with_reducible refine .ite_snd ?_ ?_
    | with_reducible apply Alters.step (holdCages_only ..)
    | with_reducible apply Alters.step (nextFault_only ..)
    | with_reducible apply Alters.step (report_only ..)
    | with_reducible apply Alters.step (raiseVector_only ..)
    | with_reducible refine .fold ?_ (fun _ _ => ?_)
    | split
    | refine .upd (fun p hp => by cases p <;> first | exact absurd ((Part.mem_bits ..).2 rfl) hp | dsimp only [Part.same]) ?_

theorem handleFault_only (s : State) :
    Alters [.power, .modes, .sv, .links, .xc, .seams, .grizzly, .hf, .regs, .twin, .fm, .sent] s (s.handleFault) := by
  unfold State.handleFault
  repeat' first
    | with_reducible exact .refl _ _
    | assumption
    | with_unfolding_all decide
    | with_reducible refine .ite ?_ ?_
    | with_reducible refine .ite_snd ?_ ?_
    | with_reducible apply Alters.step (nextFault_only ..)
    | with_reducible apply Alters.step (noteLost_only ..)
    | with_reducible apply Alters.step (report_only ..)
    | with_reducible apply Alters.step (restartCores_only ..)
    | with_reducible apply Alters.step (classActs_only ..)
    | with_reducible refine .fold ?_ (fun _ _ => ?_)
    | split

theorem watchdogTrip_only (s : State) :
    Alters [.power, .modes, .grizzly, .hf, .dict, .regs, .fm, .sent] s (s.watchdogTrip) := by
  unfold State.watchdogTrip
  repeat' first
    | ((conv => enter [3, 21]); refine .upd (fun p hp => by cases p <;> first | exact absurd ((Part.mem_bits ..).2 rfl) hp | dsimp only [Part.same]) ?_)
    | with_reducible exact .refl _ _
    | assumption
    | with_unfolding_all decide
    | with_reducible refine .ite ?_ ?_
    | with_reducible refine .ite_snd ?_ ?_
    | with_reducible apply Alters.step (requeueFront_only ..)
    | with_reducible apply Alters.step (holdCages_only ..)
    | with_reducible apply Alters.step (dropClaims_only ..)
    | with_reducible apply Alters.step (resetCages_only ..)
    | with_reducible apply Alters.step (handoverActs_only ..)
    | with_reducible refine .fold ?_ (fun _ _ => ?_)
    | split
    | refine .upd (fun p hp => by cases p <;> first | exact absurd ((Part.mem_bits ..).2 rfl) hp | dsimp only [Part.same]) ?_

theorem faultAck_only (s : State) :
    Alters [.fm] s (s.faultAck).2 := by
  unfold State.faultAck
  dsimp only [taken, refuse]
  repeat' first
    | ((conv => enter [3, 21]); refine .upd (fun p hp => by cases p <;> first | exact absurd ((Part.mem_bits ..).2 rfl) hp | dsimp only [Part.same]) ?_)
    | with_reducible exact .refl _ _
    | assumption
    | with_unfolding_all decide
    | with_reducible refine .ite ?_ ?_
    | with_reducible refine .ite_snd ?_ ?_
    | with_reducible refine .fold ?_ (fun _ _ => ?_)
    | split
    | refine .upd (fun p hp => by cases p <;> first | exact absurd ((Part.mem_bits ..).2 rfl) hp | dsimp only [Part.same]) ?_

theorem commitEntry_only (s : State) :
    Alters [.fm, .nv] s (s.commitEntry) := by
  unfold State.commitEntry
  repeat' first
    | ((conv => enter [3, 21]); refine .upd (fun p hp => by cases p <;> first | exact absurd ((Part.mem_bits ..).2 rfl) hp | dsimp only [Part.same]) ?_)
    | with_reducible exact .refl _ _
    | assumption
    | with_unfolding_all decide
    | with_reducible refine .ite ?_ ?_
    | with_reducible refine .ite_snd ?_ ?_
    | with_reducible refine .fold ?_ (fun _ _ => ?_)
    | split
    | refine .upd (fun p hp => by cases p <;> first | exact absurd ((Part.mem_bits ..).2 rfl) hp | dsimp only [Part.same]) ?_

theorem logClear_only (s : State) :
    Alters [.fm, .nv] s (s.logClear).2 := by
  unfold State.logClear
  dsimp only [taken, refuse]
  repeat' first
    | ((conv => enter [3, 21]); refine .upd (fun p hp => by cases p <;> first | exact absurd ((Part.mem_bits ..).2 rfl) hp | dsimp only [Part.same]) ?_)
    | with_reducible exact .refl _ _
    | assumption
    | with_unfolding_all decide
    | with_reducible refine .ite ?_ ?_
    | with_reducible refine .ite_snd ?_ ?_
    | with_reducible refine .fold ?_ (fun _ _ => ?_)
    | split
    | refine .upd (fun p hp => by cases p <;> first | exact absurd ((Part.mem_bits ..).2 rfl) hp | dsimp only [Part.same]) ?_

theorem readLog_only (s : State) :
    Alters [.dict] s (s.readLog).2 := by
  unfold State.readLog
  repeat' first
    | ((conv => enter [3, 21]); refine .upd (fun p hp => by cases p <;> first | exact absurd ((Part.mem_bits ..).2 rfl) hp | dsimp only [Part.same]) ?_)
    | with_reducible exact .refl _ _
    | assumption
    | with_unfolding_all decide
    | with_reducible refine .ite ?_ ?_
    | with_reducible refine .ite_snd ?_ ?_
    | with_reducible refine .fold ?_ (fun _ _ => ?_)
    | split
    | refine .upd (fun p hp => by cases p <;> first | exact absurd ((Part.mem_bits ..).2 rfl) hp | dsimp only [Part.same]) ?_

theorem cold_cold (s : State) (p : Phase) : Cold s p s.power.nodeId s.power.twinSel (s.cold p) := by
  have h (o : Bool) (x : Sent) (hx : ∃ n b, x = .pin n b) (t : State) (k : Cold s p s.power.nodeId s.power.twinSel t) :
      Cold s p s.power.nodeId s.power.twinSel (if o then t.send x else t) := by
    obtain ⟨l, hl, rfl⟩ := k
    cases o
    · exact ⟨l, hl, rfl⟩
    · exact ⟨x :: l, fun y hy => (List.mem_cons.mp hy).elim (fun e => e ▸ hx) (hl y), rfl⟩
  exact h _ _ ⟨_, _, rfl⟩ _ (h _ _ ⟨_, _, rfl⟩ _ (h _ _ ⟨_, _, rfl⟩ _ ⟨[], by simp, rfl⟩))

theorem cold_only (s : State) (phase : Phase) :
    Alters [.power, .modes, .sv, .links, .xc, .seams, .closing, .streams, .shaft, .grizzly, .smelter, .slots, .hf, .dict, .regs, .twin, .fm, .sent] s (s.cold phase) := by
  obtain ⟨l, _, e⟩ := cold_cold s phase
  exact .set (fun p hp => by cases p <;> first | exact absurd ((Part.mem_bits ..).2 rfl) hp | (rw [e]; rfl)) (by rw [e])

theorem moduleReset_only (s : State) :
    Alters [.power, .modes, .sv, .links, .xc, .seams, .closing, .streams, .shaft, .grizzly, .smelter, .slots, .hf, .dict, .regs, .twin, .fm, .sent] s (s.moduleReset) := by
  unfold State.moduleReset
  repeat' first
    | with_reducible exact .refl _ _
    | assumption
    | with_unfolding_all decide
    | with_reducible refine .ite ?_ ?_
    | with_reducible refine .ite_snd ?_ ?_
    | with_reducible apply Alters.step (cold_only ..)
    | with_reducible refine .fold ?_ (fun _ _ => ?_)
    | split

theorem sampleStraps_only (s : State) (nodeId : BitVec 7) (twinSel : Bool) :
    Alters [.power] s (s.sampleStraps nodeId twinSel) := by
  unfold State.sampleStraps
  repeat' first
    | ((conv => enter [3, 21]); refine .upd (fun p hp => by cases p <;> first | exact absurd ((Part.mem_bits ..).2 rfl) hp | dsimp only [Part.same]) ?_)
    | with_reducible exact .refl _ _
    | assumption
    | with_unfolding_all decide
    | with_reducible refine .ite ?_ ?_
    | with_reducible refine .ite_snd ?_ ?_
    | with_reducible refine .fold ?_ (fun _ _ => ?_)
    | split
    | refine .upd (fun p hp => by cases p <;> first | exact absurd ((Part.mem_bits ..).2 rfl) hp | dsimp only [Part.same]) ?_

theorem breathe_only (s : State) :
    Alters [.fm, .nv] s (s.breathe) := by
  unfold State.breathe
  repeat' first
    | ((conv => enter [3, 21]); refine .upd (fun p hp => by cases p <;> first | exact absurd ((Part.mem_bits ..).2 rfl) hp | dsimp only [Part.same]) ?_)
    | with_reducible exact .refl _ _
    | assumption
    | with_unfolding_all decide
    | with_reducible refine .ite ?_ ?_
    | with_reducible refine .ite_snd ?_ ?_
    | with_reducible apply Alters.step (commitEntry_only ..)
    | with_reducible refine .fold ?_ (fun _ _ => ?_)
    | split
    | refine .upd (fun p hp => by cases p <;> first | exact absurd ((Part.mem_bits ..).2 rfl) hp | dsimp only [Part.same]) ?_

theorem shed_only (s : State) :
    Alters [.power, .modes, .sv, .links, .xc, .seams, .closing, .streams, .shaft, .grizzly, .smelter, .slots, .hf, .dict, .twin, .fm, .sent] s (s.shed) := by
  unfold State.shed
  repeat' first
    | ((conv => enter [3, 21]); refine .upd (fun p hp => by cases p <;> first | exact absurd ((Part.mem_bits ..).2 rfl) hp | dsimp only [Part.same]) ?_)
    | with_reducible exact .refl _ _
    | assumption
    | with_unfolding_all decide
    | with_reducible refine .ite ?_ ?_
    | with_reducible refine .ite_snd ?_ ?_
    | with_reducible apply Alters.step (setFence_only ..)
    | with_reducible refine .fold ?_ (fun _ _ => ?_)
    | split
    | refine .upd (fun p hp => by cases p <;> first | exact absurd ((Part.mem_bits ..).2 rfl) hp | dsimp only [Part.same]) ?_

theorem powerFail_only (s : State) :
    Alters [.power, .modes, .sv, .links, .xc, .seams, .closing, .streams, .shaft, .grizzly, .smelter, .slots, .hf, .dict, .twin, .fm, .nv, .sent] s (s.powerFail) := by
  unfold State.powerFail
  repeat' first
    | with_reducible exact .refl _ _
    | assumption
    | with_unfolding_all decide
    | with_reducible refine .ite ?_ ?_
    | with_reducible refine .ite_snd ?_ ?_
    | with_reducible apply Alters.step (breathe_only ..)
    | with_reducible apply Alters.step (shed_only ..)
    | with_reducible refine .fold ?_ (fun _ _ => ?_)
    | split

theorem tapTakesPins_only (s : State) :
    Alters [.power, .sv, .links, .xc, .seams, .streams, .grizzly, .smelter, .hf, .dict, .regs, .twin, .fm, .sent] s (s.tapTakesPins) := by
  unfold State.tapTakesPins
  repeat' first
    | with_reducible exact .refl _ _
    | assumption
    | with_unfolding_all decide
    | with_reducible refine .ite ?_ ?_
    | with_reducible refine .ite_snd ?_ ?_
    | with_reducible apply Alters.step (signalLost_only ..)
    | with_reducible apply Alters.step (fundamental_only ..)
    | with_reducible refine .fold ?_ (fun _ _ => ?_)
    | split

theorem bootEntry_only (s : State) (code : EvCode) (cls : FaultClass) (unit : UnitId) (inst : Nat) (detail : List Byte) (at_ : Occurrence) :
    Alters [.grizzly, .fm] s (s.bootEntry code cls unit inst detail at_) := by
  unfold State.bootEntry
  repeat' first
    | with_reducible exact .refl _ _
    | assumption
    | with_unfolding_all decide
    | with_reducible refine .ite ?_ ?_
    | with_reducible refine .ite_snd ?_ ?_
    | with_reducible apply Alters.step (makeEntry_only ..)
    | with_reducible apply Alters.step (enqueueB_only ..)
    | with_reducible refine .fold ?_ (fun _ _ => ?_)
    | split

theorem freeDetail_only (s : State) :
    Alters [.free] s (s.freeDetail).2 := by
  unfold State.freeDetail
  repeat' first
    | with_reducible exact .refl _ _
    | assumption
    | with_unfolding_all decide
    | with_reducible refine .ite ?_ ?_
    | with_reducible refine .ite_snd ?_ ?_
    | with_reducible apply Alters.step (takeFree_only ..)
    | with_reducible refine .fold ?_ (fun _ _ => ?_)
    | split

theorem notePowerLoss_only (s : State) :
    Alters [.grizzly, .fm, .free] s (s.notePowerLoss) := by
  unfold State.notePowerLoss
  repeat' first
    | with_reducible exact .refl _ _
    | assumption
    | with_unfolding_all decide
    | with_reducible refine .ite ?_ ?_
    | with_reducible refine .ite_snd ?_ ?_
    | with_reducible apply Alters.step (freeDetail_only ..)
    | with_reducible apply Alters.step (bootEntry_only ..)
    | with_reducible refine .fold ?_ (fun _ _ => ?_)
    | split

theorem closeRuns_only (s : State) :
    Alters [.grizzly, .fm] s (s.closeRuns) := by
  unfold State.closeRuns
  repeat' first
    | with_reducible exact .refl _ _
    | assumption
    | with_unfolding_all decide
    | with_reducible refine .ite ?_ ?_
    | with_reducible refine .ite_snd ?_ ?_
    | with_reducible apply Alters.step (bootEntry_only ..)
    | with_reducible refine .fold ?_ (fun _ _ => ?_)
    | split

theorem bootLog_only (s : State) :
    Alters [.grizzly, .fm, .nv, .free] s (s.bootLog) := by
  unfold State.bootLog
  repeat' first
    | ((conv => enter [3, 21]); refine .upd (fun p hp => by cases p <;> first | exact absurd ((Part.mem_bits ..).2 rfl) hp | dsimp only [Part.same]) ?_)
    | with_reducible exact .refl _ _
    | assumption
    | with_unfolding_all decide
    | with_reducible refine .ite ?_ ?_
    | with_reducible refine .ite_snd ?_ ?_
    | with_reducible apply Alters.step (closeRuns_only ..)
    | with_reducible apply Alters.step (notePowerLoss_only ..)
    | with_reducible refine .fold ?_ (fun _ _ => ?_)
    | split
    | refine .upd (fun p hp => by cases p <;> first | exact absurd ((Part.mem_bits ..).2 rfl) hp | dsimp only [Part.same]) ?_

theorem loadRecord_only (s : State) (k v : Nat) :
    Alters [.modes, .grizzly, .dict, .regs, .fm] s (s.loadRecord k v) := by
  unfold State.loadRecord
  repeat' first
    | ((conv => enter [3, 21]); refine .upd (fun p hp => by cases p <;> first | exact absurd ((Part.mem_bits ..).2 rfl) hp | dsimp only [Part.same]) ?_)
    | with_reducible exact .refl _ _
    | assumption
    | with_unfolding_all decide
    | with_reducible refine .ite ?_ ?_
    | with_reducible refine .ite_snd ?_ ?_
    | with_reducible apply Alters.step (notice_only ..)
    | with_reducible refine .fold ?_ (fun _ _ => ?_)
    | split
    | refine .upd (fun p hp => by cases p <;> first | exact absurd ((Part.mem_bits ..).2 rfl) hp | dsimp only [Part.same]) ?_

theorem loadStored_only (s : State) :
    Alters [.modes, .grizzly, .dict, .regs, .fm] s (s.loadStored) := by
  unfold State.loadStored
  repeat' first
    | ((conv => enter [3, 21]); refine .upd (fun p hp => by cases p <;> first | exact absurd ((Part.mem_bits ..).2 rfl) hp | dsimp only [Part.same]) ?_)
    | with_reducible exact .refl _ _
    | assumption
    | with_unfolding_all decide
    | with_reducible refine .ite ?_ ?_
    | with_reducible refine .ite_snd ?_ ?_
    | with_reducible apply Alters.step (notice_only ..)
    | with_reducible apply Alters.step (loadRecord_only ..)
    | with_reducible refine .fold ?_ (fun _ _ => ?_)
    | split
    | refine .upd (fun p hp => by cases p <;> first | exact absurd ((Part.mem_bits ..).2 rfl) hp | dsimp only [Part.same]) ?_

theorem onCan_only (s : State) (p : CanPort) (f : Can → Can) :
    Alters [.dict] s (s.onCan p f) := by
  unfold State.onCan
  repeat' first
    | ((conv => enter [3, 21]); refine .upd (fun p hp => by cases p <;> first | exact absurd ((Part.mem_bits ..).2 rfl) hp | dsimp only [Part.same]) ?_)
    | with_reducible exact .refl _ _
    | assumption
    | with_unfolding_all decide
    | with_reducible refine .ite ?_ ?_
    | with_reducible refine .ite_snd ?_ ?_
    | with_reducible refine .fold ?_ (fun _ _ => ?_)
    | split
    | refine .upd (fun p hp => by cases p <;> first | exact absurd ((Part.mem_bits ..).2 rfl) hp | dsimp only [Part.same]) ?_

theorem sendCan_only (s : State) (p : CanPort) (id : Nat) (brs : Bool) (bytes : List Byte) :
    Alters [.dict, .sent] s (s.sendCan p id brs bytes) := by
  unfold State.sendCan
  repeat' first
    | with_reducible exact .refl _ _
    | assumption
    | with_unfolding_all decide
    | with_reducible refine .ite ?_ ?_
    | with_reducible refine .ite_snd ?_ ?_
    | with_reducible apply Alters.step (onCan_only ..)
    | with_reducible apply Alters.step (send_only ..)
    | with_reducible refine .fold ?_ (fun _ _ => ?_)
    | split

theorem bringUpLanes_only (s : State) :
    Alters [.sv, .links, .xc, .seams, .grizzly, .regs, .twin, .fm] s (s.bringUpLanes) := by
  unfold State.bringUpLanes
  repeat' first
    | ((conv => enter [3, 21]); refine .upd (fun p hp => by cases p <;> first | exact absurd ((Part.mem_bits ..).2 rfl) hp | dsimp only [Part.same]) ?_)
    | with_reducible exact .refl _ _
    | assumption
    | with_unfolding_all decide
    | with_reducible refine .ite ?_ ?_
    | with_reducible refine .ite_snd ?_ ?_
    | with_reducible apply Alters.step (rxSearch_only ..)
    | with_reducible refine .fold ?_ (fun _ _ => ?_)
    | split
    | refine .upd (fun p hp => by cases p <;> first | exact absurd ((Part.mem_bits ..).2 rfl) hp | dsimp only [Part.same]) ?_

theorem setXcLanes_only (s : State) :
    Alters [.regs, .twin] s (s.setXcLanes) := by
  unfold State.setXcLanes
  repeat' first
    | ((conv => enter [3, 21]); refine .upd (fun p hp => by cases p <;> first | exact absurd ((Part.mem_bits ..).2 rfl) hp | dsimp only [Part.same]) ?_)
    | with_reducible exact .refl _ _
    | assumption
    | with_unfolding_all decide
    | with_reducible refine .ite ?_ ?_
    | with_reducible refine .ite_snd ?_ ?_
    | with_reducible refine .fold ?_ (fun _ _ => ?_)
    | split
    | refine .upd (fun p hp => by cases p <;> first | exact absurd ((Part.mem_bits ..).2 rfl) hp | dsimp only [Part.same]) ?_

theorem bootState_only (s : State) :
    Alters [.power, .closing, .streams, .shaft, .grizzly, .smelter, .hf, .regs, .fm, .nv, .free] s (s.bootState) := by
  unfold State.bootState
  repeat' first
    | ((conv => enter [3, 21]); refine .upd (fun p hp => by cases p <;> first | exact absurd ((Part.mem_bits ..).2 rfl) hp | dsimp only [Part.same]) ?_)
    | with_reducible exact .refl _ _
    | assumption
    | with_unfolding_all decide
    | with_reducible refine .ite ?_ ?_
    | with_reducible refine .ite_snd ?_ ?_
    | with_reducible apply Alters.step (bootLog_only ..)
    | with_reducible apply Alters.step (returnWipe_only ..)
    | with_reducible refine .fold ?_ (fun _ _ => ?_)
    | split
    | refine .upd (fun p hp => by cases p <;> first | exact absurd ((Part.mem_bits ..).2 rfl) hp | dsimp only [Part.same]) ?_

theorem recoveryBoot_only (s : State) :
    Alters [.power, .modes, .closing, .streams, .shaft, .grizzly, .smelter, .hf, .regs, .fm, .nv, .sent, .free] s (s.recoveryBoot) := by
  unfold State.recoveryBoot
  repeat' first
    | ((conv => enter [3, 21]); refine .upd (fun p hp => by cases p <;> first | exact absurd ((Part.mem_bits ..).2 rfl) hp | dsimp only [Part.same]) ?_)
    | with_reducible exact .refl _ _
    | assumption
    | with_unfolding_all decide
    | with_reducible refine .ite ?_ ?_
    | with_reducible refine .ite_snd ?_ ?_
    | with_reducible apply Alters.step (setMode_only ..)
    | with_reducible apply Alters.step (assertFaultN_only ..)
    | with_reducible apply Alters.step (bootState_only ..)
    | with_reducible refine .fold ?_ (fun _ _ => ?_)
    | split
    | refine .upd (fun p hp => by cases p <;> first | exact absurd ((Part.mem_bits ..).2 rfl) hp | dsimp only [Part.same]) ?_

theorem enterDormant_only (s : State) (i : Fin 2) :
    Alters [.power, .modes, .sv, .links, .xc, .seams, .closing, .streams, .shaft, .grizzly, .smelter, .hf, .dict, .regs, .twin, .fm, .nv, .sent, .free] s (s.enterDormant i) := by
  unfold State.enterDormant
  repeat' first
    | ((conv => enter [3, 21]); refine .upd (fun p hp => by cases p <;> first | exact absurd ((Part.mem_bits ..).2 rfl) hp | dsimp only [Part.same]) ?_)
    | with_reducible exact .refl _ _
    | assumption
    | with_unfolding_all decide
    | with_reducible refine .ite ?_ ?_
    | with_reducible refine .ite_snd ?_ ?_
    | with_reducible apply Alters.step (reserveUse_only ..)
    | with_reducible apply Alters.step (takeFree_only ..)
    | with_reducible apply Alters.step (startEntry_only ..)
    | with_reducible apply Alters.step (setXcLanes_only ..)
    | with_reducible apply Alters.step (sendCan_only ..)
    | with_reducible apply Alters.step (notice_only ..)
    | with_reducible apply Alters.step (noteEval_only ..)
    | with_reducible apply Alters.step (loadStored_only ..)
    | with_reducible apply Alters.step (bringUpLanes_only ..)
    | with_reducible apply Alters.step (bootState_only ..)
    | with_reducible refine .fold ?_ (fun _ _ => ?_)
    | split
    | refine .upd (fun p hp => by cases p <;> first | exact absurd ((Part.mem_bits ..).2 rfl) hp | dsimp only [Part.same]) ?_

theorem bootComplete_only (s : State) :
    Alters [.power, .modes, .sv, .links, .xc, .seams, .closing, .streams, .shaft, .grizzly, .smelter, .hf, .dict, .regs, .twin, .fm, .nv, .sent, .free] s (s.bootComplete) := by
  unfold State.bootComplete
  repeat' first
    | with_reducible exact .refl _ _
    | assumption
    | with_unfolding_all decide
    | with_reducible refine .ite ?_ ?_
    | with_reducible refine .ite_snd ?_ ?_
    | with_reducible apply Alters.step (recoveryBoot_only ..)
    | with_reducible apply Alters.step (enterDormant_only ..)
    | with_reducible refine .fold ?_ (fun _ _ => ?_)
    | split

theorem noteStaged_only (s : State) :
    Alters [.modes] s (s.noteStaged) := by
  unfold State.noteStaged
  repeat' first
    | ((conv => enter [3, 21]); refine .upd (fun p hp => by cases p <;> first | exact absurd ((Part.mem_bits ..).2 rfl) hp | dsimp only [Part.same]) ?_)
    | with_reducible exact .refl _ _
    | assumption
    | with_unfolding_all decide
    | with_reducible refine .ite ?_ ?_
    | with_reducible refine .ite_snd ?_ ?_
    | with_reducible refine .fold ?_ (fun _ _ => ?_)
    | split
    | refine .upd (fun p hp => by cases p <;> first | exact absurd ((Part.mem_bits ..).2 rfl) hp | dsimp only [Part.same]) ?_

theorem forward_only (s : State) (index sub : Nat) (data : List Byte) :
    Alters [.regs, .twin, .sent] s (s.forward index sub data) := by
  unfold State.forward
  repeat' first
    | with_reducible exact .refl _ _
    | assumption
    | with_unfolding_all decide
    | with_reducible refine .ite ?_ ?_
    | with_reducible refine .ite_snd ?_ ?_
    | with_reducible apply Alters.step (xcSend_only ..)
    | with_reducible refine .fold ?_ (fun _ _ => ?_)
    | split

theorem stage_only (s : State) (index sub : Nat) (data : List Byte) :
    Alters [.modes, .regs, .twin, .sent] s (s.stage index sub data) := by
  unfold State.stage
  repeat' first
    | ((conv => enter [3, 21]); refine .upd (fun p hp => by cases p <;> first | exact absurd ((Part.mem_bits ..).2 rfl) hp | dsimp only [Part.same]) ?_)
    | with_reducible exact .refl _ _
    | assumption
    | with_unfolding_all decide
    | with_reducible refine .ite ?_ ?_
    | with_reducible refine .ite_snd ?_ ?_
    | with_reducible apply Alters.step (noteStaged_only ..)
    | with_reducible apply Alters.step (forward_only ..)
    | with_reducible refine .fold ?_ (fun _ _ => ?_)
    | split
    | refine .upd (fun p hp => by cases p <;> first | exact absurd ((Part.mem_bits ..).2 rfl) hp | dsimp only [Part.same]) ?_

theorem roleSwapWrite_only (s : State) :
    Alters [.modes, .regs, .twin, .sent] s (s.roleSwapWrite).2 := by
  unfold State.roleSwapWrite
  dsimp only [taken, refuse]
  repeat' first
    | ((conv => enter [3, 21]); refine .upd (fun p hp => by cases p <;> first | exact absurd ((Part.mem_bits ..).2 rfl) hp | dsimp only [Part.same]) ?_)
    | with_reducible exact .refl _ _
    | assumption
    | with_unfolding_all decide
    | with_reducible refine .ite ?_ ?_
    | with_reducible refine .ite_snd ?_ ?_
    | with_reducible apply Alters.step (noteStaged_only ..)
    | with_reducible apply Alters.step (forward_only ..)
    | with_reducible refine .fold ?_ (fun _ _ => ?_)
    | split
    | refine .upd (fun p hp => by cases p <;> first | exact absurd ((Part.mem_bits ..).2 rfl) hp | dsimp only [Part.same]) ?_

theorem detachWrite_only (s : State) :
    Alters [.modes, .regs, .twin, .sent] s (s.detachWrite).2 := by
  unfold State.detachWrite
  dsimp only [taken, refuse]
  repeat' first
    | ((conv => enter [3, 21]); refine .upd (fun p hp => by cases p <;> first | exact absurd ((Part.mem_bits ..).2 rfl) hp | dsimp only [Part.same]) ?_)
    | with_reducible exact .refl _ _
    | assumption
    | with_unfolding_all decide
    | with_reducible refine .ite ?_ ?_
    | with_reducible refine .ite_snd ?_ ?_
    | with_reducible apply Alters.step (noteStaged_only ..)
    | with_reducible apply Alters.step (forward_only ..)
    | with_reducible refine .fold ?_ (fun _ _ => ?_)
    | split
    | refine .upd (fun p hp => by cases p <;> first | exact absurd ((Part.mem_bits ..).2 rfl) hp | dsimp only [Part.same]) ?_

theorem startStore_only (s : State) (records : List (Nat × Nat)) :
    Alters [.dict, .nv] s (s.startStore records).2 := by
  unfold State.startStore
  dsimp only [taken, refuse]
  repeat' first
    | ((conv => enter [3, 21]); refine .upd (fun p hp => by cases p <;> first | exact absurd ((Part.mem_bits ..).2 rfl) hp | dsimp only [Part.same]) ?_)
    | with_reducible exact .refl _ _
    | assumption
    | with_unfolding_all decide
    | with_reducible refine .ite ?_ ?_
    | with_reducible refine .ite_snd ?_ ?_
    | with_reducible refine .fold ?_ (fun _ _ => ?_)
    | split
    | refine .upd (fun p hp => by cases p <;> first | exact absurd ((Part.mem_bits ..).2 rfl) hp | dsimp only [Part.same]) ?_

theorem storeCmd_only (s : State) (v : Nat) :
    Alters [.dict, .nv] s (s.storeCmd v).2 := by
  unfold State.storeCmd
  repeat' first
    | with_reducible exact .refl _ _
    | assumption
    | with_unfolding_all decide
    | with_reducible refine .ite ?_ ?_
    | with_reducible refine .ite_snd ?_ ?_
    | with_reducible apply Alters.step (startStore_only ..)
    | with_reducible refine .fold ?_ (fun _ _ => ?_)
    | split

theorem storeEnds_only (s : State) (ok : Bool) :
    Alters [.modes, .sv, .links, .xc, .seams, .grizzly, .dict, .regs, .fm, .nv] s (s.storeEnds ok) := by
  unfold State.storeEnds
  repeat' first
    | ((conv => enter [3, 21]); refine .upd (fun p hp => by cases p <;> first | exact absurd ((Part.mem_bits ..).2 rfl) hp | dsimp only [Part.same]) ?_)
    | with_reducible exact .refl _ _
    | assumption
    | with_unfolding_all decide
    | with_reducible refine .ite ?_ ?_
    | with_reducible refine .ite_snd ?_ ?_
    | with_reducible apply Alters.step (fault_only ..)
    | with_reducible refine .fold ?_ (fun _ _ => ?_)
    | split
    | refine .upd (fun p hp => by cases p <;> first | exact absurd ((Part.mem_bits ..).2 rfl) hp | dsimp only [Part.same]) ?_

theorem writeLive_only (s : State) (index sub v : Nat) :
    Alters [.dict] s (s.writeLive index sub v) := by
  unfold State.writeLive
  repeat' first
    | ((conv => enter [3, 21]); refine .upd (fun p hp => by cases p <;> first | exact absurd ((Part.mem_bits ..).2 rfl) hp | dsimp only [Part.same]) ?_)
    | with_reducible exact .refl _ _
    | assumption
    | with_unfolding_all decide
    | with_reducible refine .ite ?_ ?_
    | with_reducible refine .ite_snd ?_ ?_
    | with_reducible refine .fold ?_ (fun _ _ => ?_)
    | split
    | refine .upd (fun p hp => by cases p <;> first | exact absurd ((Part.mem_bits ..).2 rfl) hp | dsimp only [Part.same]) ?_

theorem ppsOutModeWrite_only (s : State) (v : Nat) :
    Alters [.power, .dict, .sent] s (s.ppsOutModeWrite v) := by
  unfold State.ppsOutModeWrite
  repeat' first
    | with_reducible exact .refl _ _
    | assumption
    | with_unfolding_all decide
    | with_reducible refine .ite ?_ ?_
    | with_reducible refine .ite_snd ?_ ?_
    | with_reducible apply Alters.step (writeLive_only ..)
    | with_reducible apply Alters.step (setPpsOut_only ..)
    | with_reducible refine .fold ?_ (fun _ _ => ?_)
    | split

theorem applyService_only (s : State) (index sub : Nat) (data : List Byte) (t : Taken)
    (h : (s.applyService index sub data) = some t) :
    Alters [.power, .modes, .sv, .links, .xc, .seams, .closing, .streams, .shaft, .grizzly, .smelter, .hf, .dict, .regs, .twin, .fm, .nv, .sent] s t.2 := by
  unfold State.applyService at h
  dsimp only at h
  split at h
  iterate 18
    next =>
      obtain rfl := Option.some.inj h
      first
        | exact .refl ..
        | exact (storeCmd_only ..).mono
        | exact (ownerKeyWrite_only ..).mono
        | exact (lcAdvanceWrite_only ..).mono
        | exact (debugAuth_only ..).mono
        | exact (lcReturnWrite_only ..).mono
        | exact (sigCheckWrite_only ..).mono
        | exact .ite (commit_only ..).mono (cancel_only ..).mono
        | exact (ppsOutModeWrite_only ..).mono
        | exact (setTimeOfDay_only ..).mono
        | exact (setTime_only ..).mono
        | exact (logClear_only ..).mono
        | exact (faultAck_only ..).mono
        | exact (updateCmd_only ..).mono
        | exact (updateDataWrite_only ..).mono
        | exact (keyLoad_only ..).mono
        | exact (keyErase_only ..).mono
        | exact (useReset_only ..).mono
  exact nomatch h

theorem applyUnit_only (s : State) (index sub : Nat) (data : List Byte) (t : Taken)
    (h : (s.applyUnit index sub data) = some t) :
    Alters [.modes, .links, .shaft, .grizzly, .dict, .regs, .twin, .sent] s t.2 := by
  unfold State.applyUnit at h
  dsimp only at h
  split at h
  · obtain rfl := Option.some.inj h; exact (segRelease_only ..).mono
  · obtain rfl := Option.some.inj h; exact (calStart_only ..).mono
  · obtain rfl := Option.some.inj h; exact .ite_snd (writeLive_only ..).mono (.refl ..)
  · obtain rfl := Option.some.inj h; exact .ite_snd (rdStart_only ..).mono (rdStop_only ..).mono
  · obtain rfl := Option.some.inj h; exact (roleSwapWrite_only ..).mono
  · obtain rfl := Option.some.inj h; exact (detachWrite_only ..).mono
  · split at h
    · split at h
      · obtain rfl := Option.some.inj h; exact (queueHost_only ..).mono
      · obtain rfl := Option.some.inj h; exact (onLink_only ..).mono
      · exact nomatch h
    · exact nomatch h

theorem applyWrite_only (s : State) (r : Row) (index sub : Nat) (data : List Byte) :
    Alters [.power, .modes, .sv, .links, .xc, .seams, .closing, .streams, .shaft, .grizzly, .smelter, .hf, .dict, .regs, .twin, .fm, .nv, .sent] s (s.applyWrite r index sub data).2 := by
  unfold State.applyWrite
  dsimp only [taken, refuse]
  repeat' first
    | with_reducible exact .refl _ _
    | assumption
    | with_unfolding_all decide
    | with_reducible refine .ite ?_ ?_
    | with_reducible refine .ite_snd ?_ ?_
    | with_reducible apply Alters.step (writeLive_only ..)
    | with_reducible apply Alters.step (stage_only ..)
    | with_reducible apply Alters.step (applyUnit_only _ _ _ _ _ ‹_›)
    | with_reducible apply Alters.step (applyService_only _ _ _ _ _ ‹_›)
    | with_reducible refine .fold ?_ (fun _ _ => ?_)
    | split

theorem dictWrite_only (s : State) (via : Path) (index sub : Nat) (data : List Byte) :
    Alters [.power, .modes, .sv, .links, .xc, .seams, .closing, .streams, .shaft, .grizzly, .smelter, .hf, .dict, .regs, .twin, .fm, .nv, .sent] s (s.dictWrite via index sub data).2 := by
  unfold State.dictWrite
  dsimp only [taken, refuse]
  repeat' first
    | with_reducible exact .refl _ _
    | assumption
    | with_unfolding_all decide
    | with_reducible refine .ite ?_ ?_
    | with_reducible refine .ite_snd ?_ ?_
    | with_reducible apply Alters.step (applyWrite_only ..)
    | with_reducible refine .fold ?_ (fun _ _ => ?_)
    | split

theorem finish_only (s : State) (index sub code : Nat) :
    Alters [.power, .modes, .sv, .links, .xc, .seams, .closing, .streams, .shaft, .grizzly, .smelter, .slots, .hf, .dict, .regs, .twin, .fm, .sent] s (s.finish index sub code) := by
  unfold State.finish
  repeat' first
    | with_reducible exact .refl _ _
    | assumption
    | with_unfolding_all decide
    | with_reducible refine .ite ?_ ?_
    | with_reducible refine .ite_snd ?_ ?_
    | with_reducible apply Alters.step (moduleReset_only ..)
    | with_reducible refine .fold ?_ (fun _ _ => ?_)
    | split

theorem readSensor_only (s : State) (n : Nat) :
    Alters [.free] s (s.readSensor n).2 := by
  unfold State.readSensor
  repeat' first
    | with_reducible exact .refl _ _
    | assumption
    | with_unfolding_all decide
    | with_reducible refine .ite ?_ ?_
    | with_reducible refine .ite_snd ?_ ?_
    | with_reducible apply Alters.step (takeFree_only ..)
    | with_reducible refine .fold ?_ (fun _ _ => ?_)
    | split

theorem readChallenge_only (s : State) :
    Alters [.fm, .nv, .free] s (s.readChallenge).2 := by
  unfold State.readChallenge
  repeat' first
    | with_reducible exact .refl _ _
    | assumption
    | with_unfolding_all decide
    | with_reducible refine .ite ?_ ?_
    | with_reducible refine .ite_snd ?_ ?_
    | with_reducible apply Alters.step (takeFree_only ..)
    | with_reducible apply Alters.step (issueChallenge_only ..)
    | with_reducible refine .fold ?_ (fun _ _ => ?_)
    | split

theorem readObject_only (s : State) (r : Row) (index sub : Nat) :
    Alters [.dict, .fm, .nv, .free] s (s.readObject r index sub).2 := by
  unfold State.readObject
  repeat' first
    | with_reducible exact .refl _ _
    | assumption
    | with_unfolding_all decide
    | with_reducible refine .ite ?_ ?_
    | with_reducible refine .ite_snd ?_ ?_
    | with_reducible apply Alters.step (readLog_only ..)
    | with_reducible apply Alters.step (readSensor_only ..)
    | with_reducible apply Alters.step (readChallenge_only ..)
    | with_reducible refine .fold ?_ (fun _ _ => ?_)
    | split

theorem dictRead_only (s : State) (via : Path) (index sub : Nat) :
    Alters [.dict, .fm, .nv, .free] s (s.dictRead via index sub).2.2 := by
  unfold State.dictRead
  repeat' first
    | with_reducible exact .refl _ _
    | assumption
    | with_unfolding_all decide
    | with_reducible refine .ite ?_ ?_
    | with_reducible refine .ite_snd ?_ ?_
    | with_reducible apply Alters.step (readObject_only ..)
    | with_reducible refine .fold ?_ (fun _ _ => ?_)
    | split

theorem request_only (s : State) (via : Path) (index sub : Nat) (data : List Byte) :
    Alters [.power, .modes, .sv, .links, .xc, .seams, .closing, .streams, .shaft, .grizzly, .smelter, .slots, .hf, .dict, .regs, .twin, .fm, .nv, .sent] s (s.request via index sub data) := by
  unfold State.request
  repeat' first
    | with_reducible exact .refl _ _
    | assumption
    | with_unfolding_all decide
    | with_reducible refine .ite ?_ ?_
    | with_reducible refine .ite_snd ?_ ?_
    | with_reducible apply Alters.step (send_only ..)
    | with_reducible apply Alters.step (dictWrite_only ..)
    | with_reducible apply Alters.step (finish_only ..)
    | with_reducible refine .fold ?_ (fun _ _ => ?_)
    | split

theorem readRequest_only (s : State) (via : Path) (index sub : Nat) :
    Alters [.dict, .fm, .nv, .sent, .free] s (s.readRequest via index sub) := by
  unfold State.readRequest
  repeat' first
    | with_reducible exact .refl _ _
    | assumption
    | with_unfolding_all decide
    | with_reducible refine .ite ?_ ?_
    | with_reducible refine .ite_snd ?_ ?_
    | with_reducible apply Alters.step (send_only ..)
    | with_reducible apply Alters.step (dictRead_only ..)
    | with_reducible refine .fold ?_ (fun _ _ => ?_)
    | split

theorem canReply_only (s : State) (p : CanPort) (bytes : List Byte) :
    Alters [.dict, .sent] s (s.canReply p bytes) := by
  unfold State.canReply
  repeat' first
    | with_reducible exact .refl _ _
    | assumption
    | with_unfolding_all decide
    | with_reducible refine .ite ?_ ?_
    | with_reducible refine .ite_snd ?_ ?_
    | with_reducible apply Alters.step (sendCan_only ..)
    | with_reducible refine .fold ?_ (fun _ _ => ?_)
    | split

theorem canAbortSend_only (s : State) (p : CanPort) (client : BitVec 8) (index sub token code : Nat) :
    Alters [.dict, .sent] s (s.canAbortSend p client index sub token code) := by
  unfold State.canAbortSend
  repeat' first
    | with_reducible exact .refl _ _
    | assumption
    | with_unfolding_all decide
    | with_reducible refine .ite ?_ ?_
    | with_reducible refine .ite_snd ?_ ?_
    | with_reducible apply Alters.step (onCan_only ..)
    | with_reducible apply Alters.step (canReply_only ..)
    | with_reducible refine .fold ?_ (fun _ _ => ?_)
    | split

theorem canIgnore_only (s : State) (p : CanPort) :
    Alters [.dict] s (s.canIgnore p) := by
  unfold State.canIgnore
  repeat' first
    | with_reducible exact .refl _ _
    | assumption
    | with_unfolding_all decide
    | with_reducible refine .ite ?_ ?_
    | with_reducible refine .ite_snd ?_ ?_
    | with_reducible apply Alters.step (onCan_only ..)
    | with_reducible refine .fold ?_ (fun _ _ => ?_)
    | split

theorem canHeard_only (s : State) (p : CanPort) (brs : Bool) :
    Alters [.dict] s (s.canHeard p brs) := by
  unfold State.canHeard
  repeat' first
    | with_reducible exact .refl _ _
    | assumption
    | with_unfolding_all decide
    | with_reducible refine .ite ?_ ?_
    | with_reducible refine .ite_snd ?_ ?_
    | with_reducible apply Alters.step (onCan_only ..)
    | with_reducible refine .fold ?_ (fun _ _ => ?_)
    | split

theorem canFrom_only (L : List Part) (s : State) (p : CanPort) (client : BitVec 8) (brs : Bool) (f : State → State)
    (k : ∀ t, Alters L t (f t)) (h : Within [.dict] L) : Alters L s (s.canFrom p client brs f) := by
  unfold State.canFrom
  exact .ite (.refl ..) (.ite (((canHeard_only s p brs).mono h).trans (k _) (.refl _) (.refl _)) ((canIgnore_only ..).mono h))

theorem closeTransfer_only (s : State) (p : CanPort) (client : BitVec 8) :
    Alters [.dict] s (s.closeTransfer p client) := by
  unfold State.closeTransfer
  repeat' first
    | with_reducible exact .refl _ _
    | assumption
    | with_unfolding_all decide
    | with_reducible refine .ite ?_ ?_
    | with_reducible refine .ite_snd ?_ ?_
    | with_reducible apply Alters.step (onCan_only ..)
    | with_reducible refine .fold ?_ (fun _ _ => ?_)
    | split

theorem putTransfer_only (s : State) (p : CanPort) (t : Transfer) :
    Alters [.dict] s (s.putTransfer p t) := by
  unfold State.putTransfer
  repeat' first
    | with_reducible exact .refl _ _
    | assumption
    | with_unfolding_all decide
    | with_reducible refine .ite ?_ ?_
    | with_reducible refine .ite_snd ?_ ?_
    | with_reducible apply Alters.step (onCan_only ..)
    | with_reducible refine .fold ?_ (fun _ _ => ?_)
    | split

theorem endTransfer_only (s : State) (p : CanPort) (t : Transfer) (code : Nat) :
    Alters [.dict, .sent] s (s.endTransfer p t code) := by
  unfold State.endTransfer
  repeat' first
    | with_reducible exact .refl _ _
    | assumption
    | with_unfolding_all decide
    | with_reducible refine .ite ?_ ?_
    | with_reducible refine .ite_snd ?_ ?_
    | with_reducible apply Alters.step (closeTransfer_only ..)
    | with_reducible apply Alters.step (canAbortSend_only ..)
    | with_reducible refine .fold ?_ (fun _ _ => ?_)
    | split

theorem restartTransfer_only (s : State) (p : CanPort) (client : BitVec 8) :
    Alters [.dict] s (s.restartTransfer p client) := by
  unfold State.restartTransfer
  repeat' first
    | with_reducible exact .refl _ _
    | assumption
    | with_unfolding_all decide
    | with_reducible refine .ite ?_ ?_
    | with_reducible refine .ite_snd ?_ ?_
    | with_reducible apply Alters.step (closeTransfer_only ..)
    | with_reducible apply Alters.step (onCan_only ..)
    | with_reducible refine .fold ?_ (fun _ _ => ?_)
    | split

theorem canValue_only (s : State) (p : CanPort) (client : BitVec 8) (index sub token : Nat) (b : List Byte) :
    Alters [.dict, .sent] s (s.canValue p client index sub token b) := by
  unfold State.canValue
  repeat' first
    | with_reducible exact .refl _ _
    | assumption
    | with_unfolding_all decide
    | with_reducible refine .ite ?_ ?_
    | with_reducible refine .ite_snd ?_ ?_
    | with_reducible apply Alters.step (putTransfer_only ..)
    | with_reducible apply Alters.step (canReply_only ..)
    | with_reducible refine .fold ?_ (fun _ _ => ?_)
    | split

theorem canWritten_only (s : State) (p : CanPort) (client : BitVec 8) (index sub token len code : Nat) :
    Alters [.dict, .sent] s (s.canWritten p client index sub token len code) := by
  unfold State.canWritten
  repeat' first
    | with_reducible exact .refl _ _
    | assumption
    | with_unfolding_all decide
    | with_reducible refine .ite ?_ ?_
    | with_reducible refine .ite_snd ?_ ?_
    | with_reducible apply Alters.step (canReply_only ..)
    | with_reducible apply Alters.step (canAbortSend_only ..)
    | with_reducible refine .fold ?_ (fun _ _ => ?_)
    | split

theorem passPartner_only (s : State) (o : PartnerOrigin) (r : PartnerReq) :
    Alters [.dict, .regs, .twin, .sent] s (s.passPartner o r) := by
  unfold State.passPartner
  repeat' first
    | ((conv => enter [3, 21]); refine .upd (fun p hp => by cases p <;> first | exact absurd ((Part.mem_bits ..).2 rfl) hp | dsimp only [Part.same]) ?_)
    | with_reducible exact .refl _ _
    | assumption
    | with_unfolding_all decide
    | with_reducible refine .ite ?_ ?_
    | with_reducible refine .ite_snd ?_ ?_
    | with_reducible apply Alters.step (xcSend_only ..)
    | with_reducible refine .fold ?_ (fun _ _ => ?_)
    | split
    | refine .upd (fun p hp => by cases p <;> first | exact absurd ((Part.mem_bits ..).2 rfl) hp | dsimp only [Part.same]) ?_

theorem onSlotOf_only (s : State) (fn : Fn) (k : Nat) (f : WinSlot → WinSlot) :
    Alters [.dict] s (s.onSlotOf fn k f) := by
  unfold State.onSlotOf
  repeat' first
    | ((conv => enter [3, 21]); refine .upd (fun p hp => by cases p <;> first | exact absurd ((Part.mem_bits ..).2 rfl) hp | dsimp only [Part.same]) ?_)
    | with_reducible exact .refl _ _
    | assumption
    | with_unfolding_all decide
    | with_reducible refine .ite ?_ ?_
    | with_reducible refine .ite_snd ?_ ?_
    | with_reducible refine .fold ?_ (fun _ _ => ?_)
    | split
    | refine .upd (fun p hp => by cases p <;> first | exact absurd ((Part.mem_bits ..).2 rfl) hp | dsimp only [Part.same]) ?_

theorem answerPartner_only (s : State) (o : PartnerOrigin) (code : Nat) (b : List Byte) :
    Alters [.dict, .sent] s (s.answerPartner o code b) := by
  unfold State.answerPartner
  repeat' first
    | with_reducible exact .refl _ _
    | assumption
    | with_unfolding_all decide
    | with_reducible refine .ite ?_ ?_
    | with_reducible refine .ite_snd ?_ ?_
    | with_reducible apply Alters.step (onSlotOf_only ..)
    | with_reducible apply Alters.step (canWritten_only ..)
    | with_reducible apply Alters.step (canAbortSend_only ..)
    | with_reducible apply Alters.step (canValue_only ..)
    | with_reducible refine .fold ?_ (fun _ _ => ?_)
    | split

theorem settlePartner_only (s : State) :
    Alters [.dict, .twin, .sent] s (s.settlePartner) := by
  unfold State.settlePartner
  repeat' first
    | ((conv => enter [3, 21]); refine .upd (fun p hp => by cases p <;> first | exact absurd ((Part.mem_bits ..).2 rfl) hp | dsimp only [Part.same]) ?_)
    | with_reducible exact .refl _ _
    | assumption
    | with_unfolding_all decide
    | with_reducible refine .ite ?_ ?_
    | with_reducible refine .ite_snd ?_ ?_
    | with_reducible apply Alters.step (answerPartner_only ..)
    | with_reducible refine .fold ?_ (fun _ _ => ?_)
    | split
    | refine .upd (fun p hp => by cases p <;> first | exact absurd ((Part.mem_bits ..).2 rfl) hp | dsimp only [Part.same]) ?_

theorem servePartner_only (s : State) (r : PartnerReq) :
    Alters [.power, .modes, .sv, .links, .xc, .seams, .closing, .streams, .shaft, .grizzly, .smelter, .slots, .hf, .dict, .regs, .twin, .fm, .nv, .sent, .free] s (s.servePartner r) := by
  unfold State.servePartner
  repeat' first
    | with_reducible exact .refl _ _
    | assumption
    | with_unfolding_all decide
    | with_reducible refine .ite ?_ ?_
    | with_reducible refine .ite_snd ?_ ?_
    | with_reducible apply Alters.step (xcSend_only ..)
    | with_reducible apply Alters.step (dictRead_only ..)
    | with_reducible apply Alters.step (dictWrite_only ..)
    | with_reducible apply Alters.step (finish_only ..)
    | with_reducible refine .fold ?_ (fun _ _ => ?_)
    | split

theorem takeResult_only (s : State) (code : Nat) (b : List Byte) :
    Alters [.dict, .twin, .sent] s (s.takeResult code b) := by
  unfold State.takeResult
  repeat' first
    | ((conv => enter [3, 21]); refine .upd (fun p hp => by cases p <;> first | exact absurd ((Part.mem_bits ..).2 rfl) hp | dsimp only [Part.same]) ?_)
    | with_reducible exact .refl _ _
    | assumption
    | with_unfolding_all decide
    | with_reducible refine .ite ?_ ?_
    | with_reducible refine .ite_snd ?_ ?_
    | with_reducible apply Alters.step (answerPartner_only ..)
    | with_reducible refine .fold ?_ (fun _ _ => ?_)
    | split
    | refine .upd (fun p hp => by cases p <;> first | exact absurd ((Part.mem_bits ..).2 rfl) hp | dsimp only [Part.same]) ?_

theorem canRead_only (s : State) (p : CanPort) (client : BitVec 8) (index sub token : Nat) :
    Alters [.dict, .regs, .twin, .fm, .nv, .sent, .free] s (s.canRead p client index sub token) := by
  unfold State.canRead
  repeat' first
    | with_reducible exact .refl _ _
    | assumption
    | with_unfolding_all decide
    | with_reducible refine .ite ?_ ?_
    | with_reducible refine .ite_snd ?_ ?_
    | with_reducible apply Alters.step (restartTransfer_only ..)
    | with_reducible apply Alters.step (canAbortSend_only ..)
    | with_reducible apply Alters.step (canValue_only ..)
    | with_reducible apply Alters.step (passPartner_only ..)
    | with_reducible apply Alters.step (dictRead_only ..)
    | with_reducible refine .fold ?_ (fun _ _ => ?_)
    | split

theorem canApply_only (s : State) (p : CanPort) (client : BitVec 8) (index sub token : Nat) (data : List Byte) :
    Alters [.power, .modes, .sv, .links, .xc, .seams, .closing, .streams, .shaft, .grizzly, .smelter, .slots, .hf, .dict, .regs, .twin, .fm, .nv, .sent] s (s.canApply p client index sub token data) := by
  unfold State.canApply
  repeat' first
    | with_reducible exact .refl _ _
    | assumption
    | with_unfolding_all decide
    | with_reducible refine .ite ?_ ?_
    | with_reducible refine .ite_snd ?_ ?_
    | with_reducible apply Alters.step (canAbortSend_only ..)
    | with_reducible apply Alters.step (canWritten_only ..)
    | with_reducible apply Alters.step (passPartner_only ..)
    | with_reducible apply Alters.step (dictWrite_only ..)
    | with_reducible apply Alters.step (finish_only ..)
    | with_reducible refine .fold ?_ (fun _ _ => ?_)
    | split

theorem canWrite_only (s : State) (p : CanPort) (client : BitVec 8) (index sub token len : Nat) (data : List Byte) :
    Alters [.power, .modes, .sv, .links, .xc, .seams, .closing, .streams, .shaft, .grizzly, .smelter, .slots, .hf, .dict, .regs, .twin, .fm, .nv, .sent] s (s.canWrite p client index sub token len data) := by
  unfold State.canWrite
  repeat' first
    | with_reducible exact .refl _ _
    | assumption
    | with_unfolding_all decide
    | with_reducible refine .ite ?_ ?_
    | with_reducible refine .ite_snd ?_ ?_
    | with_reducible apply Alters.step (restartTransfer_only ..)
    | with_reducible apply Alters.step (canAbortSend_only ..)
    | with_reducible apply Alters.step (canApply_only ..)
    | with_reducible refine .fold ?_ (fun _ _ => ?_)
    | split

theorem canWriteInit_only (s : State) (p : CanPort) (client : BitVec 8) (index sub token len : Nat) :
    Alters [.dict, .sent] s (s.canWriteInit p client index sub token len) := by
  unfold State.canWriteInit
  repeat' first
    | with_reducible exact .refl _ _
    | assumption
    | with_unfolding_all decide
    | with_reducible refine .ite ?_ ?_
    | with_reducible refine .ite_snd ?_ ?_
    | with_reducible apply Alters.step (restartTransfer_only ..)
    | with_reducible apply Alters.step (putTransfer_only ..)
    | with_reducible apply Alters.step (canAbortSend_only ..)
    | with_reducible apply Alters.step (canReply_only ..)
    | with_reducible refine .fold ?_ (fun _ _ => ?_)
    | split

theorem canMisfit_only (s : State) (p : CanPort) (client : BitVec 8) :
    Alters [.dict, .sent] s (s.canMisfit p client) := by
  unfold State.canMisfit
  repeat' first
    | with_reducible exact .refl _ _
    | assumption
    | with_unfolding_all decide
    | with_reducible refine .ite ?_ ?_
    | with_reducible refine .ite_snd ?_ ?_
    | with_reducible apply Alters.step (endTransfer_only ..)
    | with_reducible apply Alters.step (canAbortSend_only ..)
    | with_reducible refine .fold ?_ (fun _ _ => ?_)
    | split

theorem takeSegment_only (s : State) (p : CanPort) (t : Transfer) (data : List Byte) :
    Alters [.dict, .sent] s (s.takeSegment p t data) := by
  unfold State.takeSegment
  repeat' first
    | with_reducible exact .refl _ _
    | assumption
    | with_unfolding_all decide
    | with_reducible refine .ite ?_ ?_
    | with_reducible refine .ite_snd ?_ ?_
    | with_reducible apply Alters.step (putTransfer_only ..)
    | with_reducible apply Alters.step (endTransfer_only ..)
    | with_reducible apply Alters.step (canReply_only ..)
    | with_reducible refine .fold ?_ (fun _ _ => ?_)
    | split

theorem missSegment_only (s : State) (p : CanPort) (t : Transfer) :
    Alters [.dict, .sent] s (s.missSegment p t) := by
  unfold State.missSegment
  repeat' first
    | with_reducible exact .refl _ _
    | assumption
    | with_unfolding_all decide
    | with_reducible refine .ite ?_ ?_
    | with_reducible refine .ite_snd ?_ ?_
    | with_reducible apply Alters.step (putTransfer_only ..)
    | with_reducible apply Alters.step (endTransfer_only ..)
    | with_reducible apply Alters.step (canReply_only ..)
    | with_reducible refine .fold ?_ (fun _ _ => ?_)
    | split

theorem canSegment_only (s : State) (p : CanPort) (client : BitVec 8) (seg : Nat) (data : List Byte) :
    Alters [.dict, .sent] s (s.canSegment p client seg data) := by
  unfold State.canSegment
  repeat' first
    | with_reducible exact .refl _ _
    | assumption
    | with_unfolding_all decide
    | with_reducible refine .ite ?_ ?_
    | with_reducible refine .ite_snd ?_ ?_
    | with_reducible apply Alters.step (canMisfit_only ..)
    | with_reducible apply Alters.step (takeSegment_only ..)
    | with_reducible apply Alters.step (missSegment_only ..)
    | with_reducible refine .fold ?_ (fun _ _ => ?_)
    | split

theorem canEnd_only (s : State) (p : CanPort) (client : BitVec 8) (segments : Nat) (crc : BitVec 16) :
    Alters [.power, .modes, .sv, .links, .xc, .seams, .closing, .streams, .shaft, .grizzly, .smelter, .slots, .hf, .dict, .regs, .twin, .fm, .nv, .sent] s (s.canEnd p client segments crc) := by
  unfold State.canEnd
  repeat' first
    | with_reducible exact .refl _ _
    | assumption
    | with_unfolding_all decide
    | with_reducible refine .ite ?_ ?_
    | with_reducible refine .ite_snd ?_ ?_
    | with_reducible apply Alters.step (closeTransfer_only ..)
    | with_reducible apply Alters.step (canMisfit_only ..)
    | with_reducible apply Alters.step (endTransfer_only ..)
    | with_reducible apply Alters.step (canApply_only ..)
    | with_reducible refine .fold ?_ (fun _ _ => ?_)
    | split

theorem sendSegments_only (s : State) (p : CanPort) (t : Transfer) (next : Nat) :
    Alters [.dict, .sent] s (s.sendSegments p t next) := by
  unfold State.sendSegments
  repeat' first
    | with_reducible exact .refl _ _
    | assumption
    | with_unfolding_all decide
    | with_reducible refine .ite ?_ ?_
    | with_reducible refine .ite_snd ?_ ?_
    | with_reducible apply Alters.step (closeTransfer_only ..)
    | with_reducible apply Alters.step (putTransfer_only ..)
    | with_reducible apply Alters.step (canReply_only ..)
    | with_reducible refine .fold ?_ (fun _ _ => ?_)
    | split

theorem canAck_only (s : State) (p : CanPort) (client : BitVec 8) (next : Nat) :
    Alters [.dict, .sent] s (s.canAck p client next) := by
  unfold State.canAck
  repeat' first
    | with_reducible exact .refl _ _
    | assumption
    | with_unfolding_all decide
    | with_reducible refine .ite ?_ ?_
    | with_reducible refine .ite_snd ?_ ?_
    | with_reducible apply Alters.step (canMisfit_only ..)
    | with_reducible apply Alters.step (endTransfer_only ..)
    | with_reducible apply Alters.step (sendSegments_only ..)
    | with_reducible refine .fold ?_ (fun _ _ => ?_)
    | split

theorem canCancel_only (s : State) (p : CanPort) (client : BitVec 8) (index sub token : Nat) :
    Alters [.dict, .sent] s (s.canCancel p client index sub token) := by
  unfold State.canCancel
  repeat' first
    | with_reducible exact .refl _ _
    | assumption
    | with_unfolding_all decide
    | with_reducible refine .ite ?_ ?_
    | with_reducible refine .ite_snd ?_ ?_
    | with_reducible apply Alters.step (closeTransfer_only ..)
    | with_reducible apply Alters.step (canAbortSend_only ..)
    | with_reducible apply Alters.step (canMisfit_only ..)
    | with_reducible refine .fold ?_ (fun _ _ => ?_)
    | split

theorem admitHost_only (L : List Part) (s : State) (fn : Fn) (stream : Option (Fin 4)) (read : Bool) (f g : State → State)
    (k : ∀ t, Alters L t (f t)) (j : ∀ t, Alters L t (g t)) (h : Within [.hf, .sent] L) :
    Alters L s (s.admitHost fn stream read f g) := by
  unfold State.admitHost
  refine .ite (.refl ..) (.ite ?_ (.ite ?_ (k _)))
  · have a : Alters [.hf, .sent] s { s with hf.pf1Refused := s.hf.pf1Refused.inc } := .upd (fun p hp => by cases p <;> first | exact absurd ((Part.mem_bits ..).2 rfl) hp | rfl) (.refl ..)
    exact (((aerError_only ..).next a).mono h).trans (j _) (.refl _) (.refl _)
  · exact ((aerError_only ..).mono h).trans (j _) (.refl _) (.refl _)

theorem winFault_only (s : State) :
    Alters [.dict] s (s.winFault) := by
  unfold State.winFault
  repeat' first
    | ((conv => enter [3, 21]); refine .upd (fun p hp => by cases p <;> first | exact absurd ((Part.mem_bits ..).2 rfl) hp | dsimp only [Part.same]) ?_)
    | with_reducible exact .refl _ _
    | assumption
    | with_unfolding_all decide
    | with_reducible refine .ite ?_ ?_
    | with_reducible refine .ite_snd ?_ ?_
    | with_reducible refine .fold ?_ (fun _ _ => ?_)
    | split
    | refine .upd (fun p hp => by cases p <;> first | exact absurd ((Part.mem_bits ..).2 rfl) hp | dsimp only [Part.same]) ?_

theorem runSlot_only (s : State) (fn : Fn) (k : Nat) :
    Alters [.power, .modes, .sv, .links, .xc, .seams, .closing, .streams, .shaft, .grizzly, .smelter, .slots, .hf, .dict, .regs, .twin, .fm, .nv, .sent, .free] s (s.runSlot fn k) := by
  unfold State.runSlot
  repeat' first
    | with_reducible exact .refl _ _
    | assumption
    | with_unfolding_all decide
    | with_reducible refine .ite ?_ ?_
    | with_reducible refine .ite_snd ?_ ?_
    | with_reducible apply Alters.step (onSlotOf_only ..)
    | with_reducible apply Alters.step (passPartner_only ..)
    | with_reducible apply Alters.step (dictRead_only ..)
    | with_reducible apply Alters.step (dictWrite_only ..)
    | with_reducible apply Alters.step (finish_only ..)
    | with_reducible refine .fold ?_ (fun _ _ => ?_)
    | split

theorem takeGo_only (s : State) (fn : Fn) (k : Nat) (stream : Option (Fin 4)) :
    Alters [.power, .modes, .sv, .links, .xc, .seams, .closing, .streams, .shaft, .grizzly, .smelter, .slots, .hf, .dict, .regs, .twin, .fm, .nv, .sent, .free] s (s.takeGo fn k stream) := by
  unfold State.takeGo
  extract_lets _ t u
  refine .ite (winFault_only ..).mono ?_
  have ht : Alters [.power, .modes, .sv, .links, .xc, .seams, .closing, .streams, .shaft, .grizzly, .smelter, .slots, .hf, .dict, .regs, .twin, .fm, .nv, .sent, .free] s t := (onSlotOf_only ..).next (.set (fun p hp => by cases p <;> first | exact absurd ((Part.mem_bits ..).2 rfl) hp | rfl))
  clear_value t
  have hu : Alters [.power, .modes, .sv, .links, .xc, .seams, .closing, .streams, .shaft, .grizzly, .smelter, .slots, .hf, .dict, .regs, .twin, .fm, .nv, .sent, .free] s u := .ite ((onSlotOf_only ..).next ht) ht
  clear_value u
  exact .ite ((onSlotOf_only ..).next hu) (.ite ((runSlot_only ..).next hu) hu)

theorem serveWaiting_only (s : State) :
    Alters [.power, .modes, .sv, .links, .xc, .seams, .closing, .streams, .shaft, .grizzly, .smelter, .slots, .hf, .dict, .regs, .twin, .fm, .nv, .sent, .free] s (s.serveWaiting) := by
  unfold State.serveWaiting
  repeat' first
    | with_reducible exact .refl _ _
    | assumption
    | with_unfolding_all decide
    | with_reducible refine .ite ?_ ?_
    | with_reducible refine .ite_snd ?_ ?_
    | with_reducible apply Alters.step (runSlot_only ..)
    | with_reducible refine .fold ?_ (fun _ _ => ?_)
    | split

theorem slotGo_only (s : State) (fn : Fn) (k : Nat) (stream : Option (Fin 4)) (cmd : Nat) :
    Alters [.power, .modes, .sv, .links, .xc, .seams, .closing, .streams, .shaft, .grizzly, .smelter, .slots, .hf, .dict, .regs, .twin, .fm, .nv, .sent, .free] s (s.slotGo fn k stream cmd) := by
  exact admitHost_only _ s fn stream _ _ _ (fun t => .ite (takeGo_only ..).mono (.refl ..)) (fun t => .refl ..) (by decide)

theorem controlWrite_only (s : State) (fn : Fn) (k : Nat) (stream : Option (Fin 4)) (off : Nat) (v : Word) :
    Alters [.power, .modes, .sv, .links, .xc, .seams, .closing, .streams, .shaft, .grizzly, .smelter, .slots, .hf, .dict, .regs, .twin, .fm, .nv, .sent, .free] s (s.controlWrite fn k stream off v) := by
  unfold State.controlWrite
  repeat' first
    | with_reducible exact .refl _ _
    | assumption
    | with_unfolding_all decide
    | with_reducible refine .ite ?_ ?_
    | with_reducible refine .ite_snd ?_ ?_
    | with_reducible apply Alters.step (winFault_only ..)
    | with_reducible apply Alters.step (onSlotOf_only ..)
    | with_reducible apply Alters.step (takeGo_only ..)
    | with_reducible refine .fold ?_ (fun _ _ => ?_)
    | split

theorem dataWrite_only (s : State) (fn : Fn) (k off : Nat) (words : List (Word × BitVec 4)) :
    Alters [.dict] s (s.dataWrite fn k off words) := by
  unfold State.dataWrite
  repeat' first
    | with_reducible exact .refl _ _
    | assumption
    | with_unfolding_all decide
    | with_reducible refine .ite ?_ ?_
    | with_reducible refine .ite_snd ?_ ?_
    | with_reducible apply Alters.step (winFault_only ..)
    | with_reducible apply Alters.step (onSlotOf_only ..)
    | with_reducible refine .fold ?_ (fun _ _ => ?_)
    | split

theorem windowWrite_only (s : State) (fn : Fn) (stream : Option (Fin 4)) (offset : Nat) (words : List (Word × BitVec 4)) :
    Alters [.power, .modes, .sv, .links, .xc, .seams, .closing, .streams, .shaft, .grizzly, .smelter, .slots, .hf, .dict, .regs, .twin, .fm, .nv, .sent, .free] s (s.windowWrite fn stream offset words) := by
  unfold State.windowWrite
  repeat' first
    | with_reducible exact .refl _ _
    | assumption
    | with_unfolding_all decide
    | with_reducible refine .ite ?_ ?_
    | with_reducible refine .ite_snd ?_ ?_
    | with_reducible apply Alters.step (winFault_only ..)
    | with_reducible apply Alters.step (dataWrite_only ..)
    | with_reducible apply Alters.step (controlWrite_only ..)
    | with_reducible refine .fold ?_ (fun _ _ => ?_)
    | split

theorem locked_only (s : State) (offset : Nat) (m : Master) :
    Alters [.regs] s (s.locked offset m) := by
  unfold State.locked
  repeat' first
    | with_reducible exact .refl _ _
    | assumption
    | with_unfolding_all decide
    | with_reducible refine .ite ?_ ?_
    | with_reducible refine .ite_snd ?_ ?_
    | with_reducible apply Alters.step (accessFault_only ..)
    | with_reducible refine .fold ?_ (fun _ _ => ?_)
    | split

theorem ringAddress_only (s : State) (m : Master) (n off v : Nat) :
    Alters [.hf, .regs, .twin, .sent] s (s.ringAddress m n off v) := by
  unfold State.ringAddress
  repeat' first
    | with_reducible exact .refl _ _
    | assumption
    | with_unfolding_all decide
    | with_reducible refine .ite ?_ ?_
    | with_reducible refine .ite_snd ?_ ?_
    | with_reducible apply Alters.step (locked_only ..)
    | with_reducible apply Alters.step (onRing_only ..)
    | with_reducible apply Alters.step (sendRing_only ..)
    | with_reducible refine .fold ?_ (fun _ _ => ?_)
    | split

theorem ringCtrl_only (s : State) (m : Master) (n v : Nat) :
    Alters [.power, .streams, .grizzly, .hf, .regs, .twin, .fm, .sent] s (s.ringCtrl m n v) := by
  unfold State.ringCtrl
  repeat' first
    | with_reducible exact .refl _ _
    | assumption
    | with_unfolding_all decide
    | with_reducible refine .ite ?_ ?_
    | with_reducible refine .ite_snd ?_ ?_
    | with_reducible apply Alters.step (locked_only ..)
    | with_reducible apply Alters.step (onRing_only ..)
    | with_reducible apply Alters.step (sendRing_only ..)
    | with_reducible apply Alters.step (checkDue_only ..)
    | with_reducible apply Alters.step (ringEnable_only ..)
    | with_reducible apply Alters.step (ringDisable_only ..)
    | with_reducible refine .fold ?_ (fun _ _ => ?_)
    | split

theorem ringWrite_only (s : State) (m : Master) (n off v : Nat) :
    Alters [.power, .streams, .grizzly, .hf, .regs, .twin, .fm, .sent] s (s.ringWrite m n off v) := by
  unfold State.ringWrite
  repeat' first
    | with_reducible exact .refl _ _
    | assumption
    | with_unfolding_all decide
    | with_reducible refine .ite ?_ ?_
    | with_reducible refine .ite_snd ?_ ?_
    | with_reducible apply Alters.step (onRing_only ..)
    | with_reducible apply Alters.step (sendRing_only ..)
    | with_reducible apply Alters.step (ringAddress_only ..)
    | with_reducible apply Alters.step (checkDue_only ..)
    | with_reducible apply Alters.step (rdPosWrite_only ..)
    | with_reducible apply Alters.step (ringCtrl_only ..)
    | with_reducible refine .fold ?_ (fun _ _ => ?_)
    | split

theorem smjCtrl_only (s : State) (m : Master) (v : Nat) :
    Alters [.smelter, .regs] s (s.smjCtrl m v) := by
  unfold State.smjCtrl
  repeat' first
    | ((conv => enter [3, 21]); refine .upd (fun p hp => by cases p <;> first | exact absurd ((Part.mem_bits ..).2 rfl) hp | dsimp only [Part.same]) ?_)
    | with_reducible exact .refl _ _
    | assumption
    | with_unfolding_all decide
    | with_reducible refine .ite ?_ ?_
    | with_reducible refine .ite_snd ?_ ?_
    | with_reducible apply Alters.step (locked_only ..)
    | with_reducible apply Alters.step (smjEnable_only ..)
    | with_reducible apply Alters.step (smjDisable_only ..)
    | with_reducible refine .fold ?_ (fun _ _ => ?_)
    | split
    | refine .upd (fun p hp => by cases p <;> first | exact absurd ((Part.mem_bits ..).2 rfl) hp | dsimp only [Part.same]) ?_

theorem smjWrite_only (s : State) (m : Master) (off v : Nat) :
    Alters [.smelter, .regs] s (s.smjWrite m off v) := by
  unfold State.smjWrite
  repeat' first
    | ((conv => enter [3, 21]); refine .upd (fun p hp => by cases p <;> first | exact absurd ((Part.mem_bits ..).2 rfl) hp | dsimp only [Part.same]) ?_)
    | with_reducible exact .refl _ _
    | assumption
    | with_unfolding_all decide
    | with_reducible refine .ite ?_ ?_
    | with_reducible refine .ite_snd ?_ ?_
    | with_reducible apply Alters.step (locked_only ..)
    | with_reducible apply Alters.step (smjTail_only ..)
    | with_reducible apply Alters.step (smjClear_only ..)
    | with_reducible apply Alters.step (smjCtrl_only ..)
    | with_reducible refine .fold ?_ (fun _ _ => ?_)
    | split
    | refine .upd (fun p hp => by cases p <;> first | exact absurd ((Part.mem_bits ..).2 rfl) hp | dsimp only [Part.same]) ?_

theorem statusWrite_only (s : State) (m : Master) (off v : Nat) :
    Alters [.regs] s (s.statusWrite m off v) := by
  unfold State.statusWrite
  repeat' first
    | ((conv => enter [3, 21]); refine .upd (fun p hp => by cases p <;> first | exact absurd ((Part.mem_bits ..).2 rfl) hp | dsimp only [Part.same]) ?_)
    | with_reducible exact .refl _ _
    | assumption
    | with_unfolding_all decide
    | with_reducible refine .ite ?_ ?_
    | with_reducible refine .ite_snd ?_ ?_
    | with_reducible apply Alters.step (writeClaim_only ..)
    | with_reducible refine .fold ?_ (fun _ _ => ?_)
    | split
    | refine .upd (fun p hp => by cases p <;> first | exact absurd ((Part.mem_bits ..).2 rfl) hp | dsimp only [Part.same]) ?_

theorem hfWrite_only (s : State) (off v : Nat) :
    Alters [.hf] s (s.hfWrite off v) := by
  unfold State.hfWrite
  repeat' first
    | ((conv => enter [3, 21]); refine .upd (fun p hp => by cases p <;> first | exact absurd ((Part.mem_bits ..).2 rfl) hp | dsimp only [Part.same]) ?_)
    | with_reducible exact .refl _ _
    | assumption
    | with_unfolding_all decide
    | with_reducible refine .ite ?_ ?_
    | with_reducible refine .ite_snd ?_ ?_
    | with_reducible refine .fold ?_ (fun _ _ => ?_)
    | split
    | refine .upd (fun p hp => by cases p <;> first | exact absurd ((Part.mem_bits ..).2 rfl) hp | dsimp only [Part.same]) ?_

theorem cageWrite_only (s : State) (side : CageSide) (off : Nat) (v : Word) :
    Alters [.power, .grizzly, .hf, .regs, .sent] s (s.cageWrite side off v) := by
  unfold State.cageWrite
  repeat' first
    | with_reducible exact .refl _ _
    | assumption
    | with_unfolding_all decide
    | with_reducible refine .ite ?_ ?_
    | with_reducible refine .ite_snd ?_ ?_
    | with_reducible apply Alters.step (onCage_only ..)
    | with_reducible apply Alters.step (bellClear_only ..)
    | with_reducible apply Alters.step (cageSend_only ..)
    | with_reducible apply Alters.step (cagePop_only ..)
    | with_reducible apply Alters.step (bellRaise_only ..)
    | with_reducible apply Alters.step (bellMask_only ..)
    | with_reducible refine .fold ?_ (fun _ _ => ?_)
    | split

theorem cageBody_only (s : State) (side : CageSide) (off : Nat) (v : Word) (be : BitVec 4) :
    Alters [.regs] s (s.cageBody side off v be) := by
  unfold State.cageBody
  repeat' first
    | with_reducible exact .refl _ _
    | assumption
    | with_unfolding_all decide
    | with_reducible refine .ite ?_ ?_
    | with_reducible refine .ite_snd ?_ ?_
    | with_reducible apply Alters.step (onCage_only ..)
    | with_reducible refine .fold ?_ (fun _ _ => ?_)
    | split

theorem plainWrite_only (s : State) (m : Master) (bar2 : Bool) (off v : Nat) :
    Alters [.power, .streams, .grizzly, .smelter, .hf, .regs, .twin, .fm, .sent] s (s.plainWrite m bar2 off v) := by
  unfold State.plainWrite
  repeat' first
    | with_reducible exact .refl _ _
    | assumption
    | with_unfolding_all decide
    | with_reducible refine .ite ?_ ?_
    | with_reducible refine .ite_snd ?_ ?_
    | with_reducible apply Alters.step (writeClaim_only ..)
    | with_reducible apply Alters.step (hfWrite_only ..)
    | with_reducible apply Alters.step (statusWrite_only ..)
    | with_reducible apply Alters.step (smjWrite_only ..)
    | with_reducible apply Alters.step (ringWrite_only ..)
    | with_reducible refine .fold ?_ (fun _ _ => ?_)
    | split

theorem wordWrite_only (s : State) (m : Master) (bar2 : Bool) (off : Nat) (v : Word) (be : BitVec 4) :
    Alters [.power, .streams, .grizzly, .smelter, .hf, .regs, .twin, .fm, .sent] s (s.wordWrite m bar2 off v be) := by
  unfold State.wordWrite
  repeat' first
    | with_reducible exact .refl _ _
    | assumption
    | with_unfolding_all decide
    | with_reducible refine .ite ?_ ?_
    | with_reducible refine .ite_snd ?_ ?_
    | with_reducible apply Alters.step (cageBody_only ..)
    | with_reducible apply Alters.step (accessFault_only ..)
    | with_reducible apply Alters.step (cageWrite_only ..)
    | with_reducible apply Alters.step (plainWrite_only ..)
    | with_reducible refine .fold ?_ (fun _ _ => ?_)
    | split

theorem wordWrites_only (s : State) (m : Master) (bar2 : Bool) (off : Nat) (x) :
    Alters [.power, .streams, .grizzly, .smelter, .hf, .regs, .twin, .fm, .sent] s (s.wordWrites m bar2 off x) := by
  induction x generalizing s off with
  | nil => exact .refl ..
  | cons w l ih => exact (wordWrite_only s m bar2 off w.1 w.2).trans (ih (s.wordWrite m bar2 off w.1 w.2) (off + 4)) (.refl _) (.refl _)

theorem spaceWrite_only (s : State) (m : Master) (bar2 : Bool) (offset : Nat) (words : List (Word × BitVec 4)) :
    Alters [.power, .streams, .grizzly, .smelter, .hf, .regs, .twin, .fm, .sent] s (s.spaceWrite m bar2 offset words) := by
  unfold State.spaceWrite
  repeat' first
    | with_reducible exact .refl _ _
    | assumption
    | with_unfolding_all decide
    | with_reducible refine .ite ?_ ?_
    | with_reducible refine .ite_snd ?_ ?_
    | with_reducible apply Alters.step (accessFault_only ..)
    | with_reducible apply Alters.step (wordWrites_only ..)
    | with_reducible refine .fold ?_ (fun _ _ => ?_)
    | split

theorem pf1Write_only (s : State) (stream : Option (Fin 4)) (offset : Nat) (words : List (Word × BitVec 4)) :
    Alters [.power, .modes, .sv, .links, .xc, .seams, .closing, .streams, .shaft, .grizzly, .smelter, .slots, .hf, .dict, .regs, .twin, .fm, .nv, .sent, .free] s (s.pf1Write stream offset words) := by
  unfold State.pf1Write
  repeat' first
    | with_reducible exact .refl _ _
    | assumption
    | with_unfolding_all decide
    | with_reducible refine .ite ?_ ?_
    | with_reducible refine .ite_snd ?_ ?_
    | with_reducible apply Alters.step (spaceWrite_only ..)
    | with_reducible apply Alters.step (windowWrite_only ..)
    | with_reducible refine .fold ?_ (fun _ _ => ?_)
    | split

theorem twinWrite_only (s : State) (offset : Nat) (words : List (Word × BitVec 4)) :
    Alters [.regs] s (s.twinWrite offset words) := by
  unfold State.twinWrite
  repeat' first
    | with_reducible exact .refl _ _
    | assumption
    | with_unfolding_all decide
    | with_reducible refine .ite ?_ ?_
    | with_reducible refine .ite_snd ?_ ?_
    | with_reducible apply Alters.step (writeClaim_only ..)
    | with_reducible refine .fold ?_ (fun _ _ => ?_)
    | split

theorem hostReaches_only (s : State) (fn : Fn) (w : RegWrite) :
    Alters [.power, .modes, .sv, .links, .xc, .seams, .closing, .streams, .shaft, .grizzly, .smelter, .slots, .hf, .dict, .regs, .twin, .fm, .nv, .sent, .free] s (s.hostReaches fn w) := by
  unfold State.hostReaches
  repeat' first
    | with_reducible exact .refl _ _
    | assumption
    | with_unfolding_all decide
    | with_reducible refine .ite ?_ ?_
    | with_reducible refine .ite_snd ?_ ?_
    | with_reducible apply Alters.step (aerError_only ..)
    | with_reducible apply Alters.step (spaceWrite_only ..)
    | with_reducible apply Alters.step (windowWrite_only ..)
    | with_reducible apply Alters.step (pf1Write_only ..)
    | with_reducible refine .fold ?_ (fun _ _ => ?_)
    | split

theorem registerWrite_only (s : State) (m : Master) (w : RegWrite) :
    Alters [.power, .modes, .sv, .links, .xc, .seams, .closing, .streams, .shaft, .grizzly, .smelter, .slots, .hf, .dict, .regs, .twin, .fm, .nv, .sent, .free] s (s.registerWrite m w) := by
  unfold State.registerWrite
  split
  · exact admitHost_only _ s _ _ _ _ _ (fun t => (hostReaches_only ..).mono) (fun t => .refl ..) (by decide)
  · exact admitHost_only _ s _ _ _ _ _ (fun t => (hostReaches_only ..).mono) (fun t => .refl ..) (by decide)
  · exact .ite (spaceWrite_only ..).mono (.refl ..)
  · exact (twinWrite_only ..).mono

theorem pf1Read_only (s : State) (off : Nat) :
    Alters [.regs] s (s.pf1Read off).2 := by
  unfold State.pf1Read
  repeat' first
    | with_reducible exact .refl _ _
    | assumption
    | with_unfolding_all decide
    | with_reducible refine .ite ?_ ?_
    | with_reducible refine .ite_snd ?_ ?_
    | with_reducible apply Alters.step (readClaim_only ..)
    | with_reducible refine .fold ?_ (fun _ _ => ?_)
    | split

theorem pf1Reaches_only (s : State) (r : Pf1Access) :
    Alters [.power, .modes, .sv, .links, .xc, .seams, .closing, .streams, .shaft, .grizzly, .smelter, .slots, .hf, .dict, .regs, .twin, .fm, .nv, .sent, .free] s (s.pf1Reaches r) := by
  unfold State.pf1Reaches
  repeat' first
    | with_reducible exact .refl _ _
    | assumption
    | with_unfolding_all decide
    | with_reducible refine .ite ?_ ?_
    | with_reducible refine .ite_snd ?_ ?_
    | with_reducible apply Alters.step (send_only ..)
    | with_reducible apply Alters.step (pf1Read_only ..)
    | with_reducible apply Alters.step (aerError_only ..)
    | with_reducible apply Alters.step (pf1Write_only ..)
    | with_reducible refine .fold ?_ (fun _ _ => ?_)
    | split

theorem pf1Refused_only (s : State) (r : Pf1Access) :
    Alters [.sent] s (s.pf1Refused r) := by
  unfold State.pf1Refused
  repeat' first
    | with_reducible exact .refl _ _
    | assumption
    | with_unfolding_all decide
    | with_reducible refine .ite ?_ ?_
    | with_reducible refine .ite_snd ?_ ?_
    | with_reducible apply Alters.step (send_only ..)
    | with_reducible refine .fold ?_ (fun _ _ => ?_)
    | split

theorem formPair_only (s : State) (p : PeerInfo) :
    Alters [.twin, .fm, .nv] s (s.formPair p) := by
  unfold State.formPair
  repeat' first
    | ((conv => enter [3, 21]); refine .upd (fun p hp => by cases p <;> first | exact absurd ((Part.mem_bits ..).2 rfl) hp | dsimp only [Part.same]) ?_)
    | with_reducible exact .refl _ _
    | assumption
    | with_unfolding_all decide
    | with_reducible refine .ite ?_ ?_
    | with_reducible refine .ite_snd ?_ ?_
    | with_reducible apply Alters.step (reserveUse_only ..)
    | with_reducible apply Alters.step (becomeShadow_only ..)
    | with_reducible apply Alters.step (setRole_only ..)
    | with_reducible refine .fold ?_ (fun _ _ => ?_)
    | split
    | refine .upd (fun p hp => by cases p <;> first | exact absurd ((Part.mem_bits ..).2 rfl) hp | dsimp only [Part.same]) ?_

theorem sendElection_only (s : State) :
    Alters [.regs, .twin, .sent] s (s.sendElection) := by
  unfold State.sendElection
  repeat' first
    | ((conv => enter [3, 21]); refine .upd (fun p hp => by cases p <;> first | exact absurd ((Part.mem_bits ..).2 rfl) hp | dsimp only [Part.same]) ?_)
    | with_reducible exact .refl _ _
    | assumption
    | with_unfolding_all decide
    | with_reducible refine .ite ?_ ?_
    | with_reducible refine .ite_snd ?_ ?_
    | with_reducible apply Alters.step (passSkip_only ..)
    | with_reducible apply Alters.step (send_only ..)
    | with_reducible refine .fold ?_ (fun _ _ => ?_)
    | split
    | refine .upd (fun p hp => by cases p <;> first | exact absurd ((Part.mem_bits ..).2 rfl) hp | dsimp only [Part.same]) ?_

theorem election_only (s : State) (p : PeerInfo) :
    Alters [.grizzly, .regs, .twin, .fm, .nv, .sent] s (s.election p) := by
  unfold State.election
  repeat' first
    | ((conv => enter [3, 21]); refine .upd (fun p hp => by cases p <;> first | exact absurd ((Part.mem_bits ..).2 rfl) hp | dsimp only [Part.same]) ?_)
    | with_reducible exact .refl _ _
    | assumption
    | with_unfolding_all decide
    | with_reducible refine .ite ?_ ?_
    | with_reducible refine .ite_snd ?_ ?_
    | with_reducible apply Alters.step (setXcLanes_only ..)
    | with_reducible apply Alters.step (setFence_only ..)
    | with_reducible apply Alters.step (sendElection_only ..)
    | with_reducible apply Alters.step (event_only ..)
    | with_reducible apply Alters.step (formPair_only ..)
    | with_reducible refine .fold ?_ (fun _ _ => ?_)
    | split
    | refine .upd (fun p hp => by cases p <;> first | exact absurd ((Part.mem_bits ..).2 rfl) hp | dsimp only [Part.same]) ?_

theorem takeCopy_only (s : State) (c : CopyState) :
    Alters [.modes, .sv, .links, .xc, .seams, .grizzly, .smelter, .dict, .regs, .fm] s (s.takeCopy c) := by
  unfold State.takeCopy
  repeat' first
    | ((conv => enter [3, 21]); refine .upd (fun p hp => by cases p <;> first | exact absurd ((Part.mem_bits ..).2 rfl) hp | dsimp only [Part.same]) ?_)
    | with_reducible exact .refl _ _
    | assumption
    | with_unfolding_all decide
    | with_reducible refine .ite ?_ ?_
    | with_reducible refine .ite_snd ?_ ?_
    | with_reducible apply Alters.step (reserveUse_only ..)
    | with_reducible apply Alters.step (noteStaged_only ..)
    | with_reducible apply Alters.step (linksEpoch_only ..)
    | with_reducible refine .fold ?_ (fun _ _ => ?_)
    | split
    | refine .upd (fun p hp => by cases p <;> first | exact absurd ((Part.mem_bits ..).2 rfl) hp | dsimp only [Part.same]) ?_

theorem takeForward_only (s : State) (index sub : Nat) (data : List Byte) :
    Alters [.power, .modes, .sv, .links, .xc, .seams, .closing, .shaft, .grizzly, .smelter, .hf, .regs, .twin, .fm, .sent] s (s.takeForward index sub data) := by
  unfold State.takeForward
  repeat' first
    | ((conv => enter [3, 21]); refine .upd (fun p hp => by cases p <;> first | exact absurd ((Part.mem_bits ..).2 rfl) hp | dsimp only [Part.same]) ?_)
    | with_reducible exact .refl _ _
    | assumption
    | with_unfolding_all decide
    | with_reducible refine .ite ?_ ?_
    | with_reducible refine .ite_snd ?_ ?_
    | with_reducible apply Alters.step (noteStaged_only ..)
    | with_reducible apply Alters.step (stage_only ..)
    | with_reducible apply Alters.step (commit_only ..)
    | with_reducible apply Alters.step (cancel_only ..)
    | with_reducible refine .fold ?_ (fun _ _ => ?_)
    | split
    | refine .upd (fun p hp => by cases p <;> first | exact absurd ((Part.mem_bits ..).2 rfl) hp | dsimp only [Part.same]) ?_

theorem takeRecord_only (s : State) (r : XcRecord) (t : State) (h : (s.takeRecord r) = some t) :
    Alters [.power, .modes, .sv, .links, .xc, .seams, .closing, .shaft, .grizzly, .smelter, .hf, .dict, .regs, .twin, .fm, .sent] s t := by
  have go (c : Bool) (u : State) (h : (if c = true then some u else none) = some t) : u = t := by
    cases c
    · exact nomatch h
    · exact Option.some.inj h
  unfold State.takeRecord at h
  split at h
  · rw [← go _ _ h]; exact .ite (takeForward_only ..).mono (.refl ..)
  · rw [← go _ _ h]; exact .ite (reserveUse_only ..).mono (.refl ..)
  · rw [← go _ _ h]; exact .ite (takeCopy_only ..).mono (.refl ..)
  · obtain rfl := Option.some.inj h; exact (exposePair_only ..).mono
  · obtain rfl := Option.some.inj h; exact .refl ..
  · exact nomatch h

theorem drainList_only (s : State) (x) : Alters [.power, .modes, .sv, .links, .xc, .seams, .closing, .shaft, .grizzly, .smelter, .hf, .dict, .regs, .twin, .fm, .sent] s (s.drainList x) := by
  induction x generalizing s with
  | nil => exact .upd (fun p hp => by cases p <;> first | exact absurd ((Part.mem_bits ..).2 rfl) hp | rfl) (.refl ..)
  | cons r l ih =>
    unfold State.drainList
    split
    · next t h => exact (takeRecord_only s r t h).trans (ih t) (.refl _) (.refl _)
    · exact .upd (fun p hp => by cases p <;> first | exact absurd ((Part.mem_bits ..).2 rfl) hp | rfl) (.refl ..)

theorem drainRecords_only (s : State) :
    Alters [.power, .modes, .sv, .links, .xc, .seams, .closing, .shaft, .grizzly, .smelter, .hf, .dict, .regs, .twin, .fm, .sent] s (s.drainRecords) := by
  unfold State.drainRecords
  repeat' first
    | with_reducible exact .refl _ _
    | assumption
    | with_unfolding_all decide
    | with_reducible refine .ite ?_ ?_
    | with_reducible refine .ite_snd ?_ ?_
    | with_reducible apply Alters.step (drainList_only ..)
    | with_reducible refine .fold ?_ (fun _ _ => ?_)
    | split

theorem popRecord_only (L : List Part) (s : State) (f : XcRecord → Option (State → State))
    (k : ∀ r g t, f r = some g → Alters L t (g t)) (h : Within [.power, .modes, .sv, .links, .xc, .seams, .closing, .shaft, .grizzly, .smelter, .hf, .dict, .regs, .twin, .fm, .sent] L) :
    Alters L s (s.popRecord f) := by
  unfold State.popRecord
  split
  · split
    · next r l _ _ g e =>
      have a : Alters [.power, .modes, .sv, .links, .xc, .seams, .closing, .shaft, .grizzly, .smelter, .hf, .dict, .regs, .twin, .fm, .sent] s { s with twin.recQueue := l } := .upd (fun p hp => by cases p <;> first | exact absurd ((Part.mem_bits ..).2 rfl) hp | rfl) (.refl ..)
      exact (drainRecords_only ..).next ((a.mono h).trans (k r g _ e) (.refl _) (.refl _)) h
    · exact .refl ..
  · exact .refl ..

theorem queueRecords_only (s : State) (b : XcBlock) :
    Alters [.power, .modes, .sv, .links, .xc, .seams, .closing, .shaft, .grizzly, .smelter, .hf, .dict, .regs, .twin, .fm, .sent] s (s.queueRecords b) := by
  unfold State.queueRecords
  repeat' first
    | ((conv => enter [3, 21]); refine .upd (fun p hp => by cases p <;> first | exact absurd ((Part.mem_bits ..).2 rfl) hp | dsimp only [Part.same]) ?_)
    | with_reducible exact .refl _ _
    | assumption
    | with_unfolding_all decide
    | with_reducible refine .ite ?_ ?_
    | with_reducible refine .ite_snd ?_ ?_
    | with_reducible apply Alters.step (drainRecords_only ..)
    | with_reducible refine .fold ?_ (fun _ _ => ?_)
    | split
    | refine .upd (fun p hp => by cases p <;> first | exact absurd ((Part.mem_bits ..).2 rfl) hp | dsimp only [Part.same]) ?_

theorem placeRaster_only (s : State) (b : XcBlock) :
    Alters [.sv, .twin] s (s.placeRaster b) := by
  unfold State.placeRaster
  repeat' first
    | ((conv => enter [3, 21]); refine .upd (fun p hp => by cases p <;> first | exact absurd ((Part.mem_bits ..).2 rfl) hp | dsimp only [Part.same]) ?_)
    | with_reducible exact .refl _ _
    | assumption
    | with_unfolding_all decide
    | with_reducible refine .ite ?_ ?_
    | with_reducible refine .ite_snd ?_ ?_
    | with_reducible refine .fold ?_ (fun _ _ => ?_)
    | split
    | refine .upd (fun p hp => by cases p <;> first | exact absurd ((Part.mem_bits ..).2 rfl) hp | dsimp only [Part.same]) ?_

theorem followRaster_only (s : State) (b : XcBlock) :
    Alters [.sv, .grizzly, .regs, .twin, .fm, .sent] s (s.followRaster b) := by
  unfold State.followRaster
  repeat' first
    | ((conv => enter [3, 21]); refine .upd (fun p hp => by cases p <;> first | exact absurd ((Part.mem_bits ..).2 rfl) hp | dsimp only [Part.same]) ?_)
    | with_reducible exact .refl _ _
    | assumption
    | with_unfolding_all decide
    | with_reducible refine .ite ?_ ?_
    | with_reducible refine .ite_snd ?_ ?_
    | with_reducible apply Alters.step (placeRaster_only ..)
    | with_reducible apply Alters.step (setRaster_only ..)
    | with_reducible apply Alters.step (diverge_only ..)
    | with_reducible refine .fold ?_ (fun _ _ => ?_)
    | split
    | refine .upd (fun p hp => by cases p <;> first | exact absurd ((Part.mem_bits ..).2 rfl) hp | dsimp only [Part.same]) ?_

theorem peerDigest_only (s : State) (start : Nat) (d : Word) :
    Alters [.grizzly, .regs, .twin, .fm, .sent] s (s.peerDigest start d) := by
  unfold State.peerDigest
  repeat' first
    | ((conv => enter [3, 21]); refine .upd (fun p hp => by cases p <;> first | exact absurd ((Part.mem_bits ..).2 rfl) hp | dsimp only [Part.same]) ?_)
    | with_reducible exact .refl _ _
    | assumption
    | with_unfolding_all decide
    | with_reducible refine .ite ?_ ?_
    | with_reducible refine .ite_snd ?_ ?_
    | with_reducible apply Alters.step (diverge_only ..)
    | with_reducible refine .fold ?_ (fun _ _ => ?_)
    | split
    | refine .upd (fun p hp => by cases p <;> first | exact absurd ((Part.mem_bits ..).2 rfl) hp | dsimp only [Part.same]) ?_

theorem settleDigests_only (s : State) :
    Alters [.grizzly, .regs, .twin, .fm, .sent] s (s.settleDigests) := by
  unfold State.settleDigests
  repeat' first
    | ((conv => enter [3, 21]); refine .upd (fun p hp => by cases p <;> first | exact absurd ((Part.mem_bits ..).2 rfl) hp | dsimp only [Part.same]) ?_)
    | with_reducible exact .refl _ _
    | assumption
    | with_unfolding_all decide
    | with_reducible refine .ite ?_ ?_
    | with_reducible refine .ite_snd ?_ ?_
    | with_reducible apply Alters.step (peerDigest_only ..)
    | with_reducible refine .fold ?_ (fun _ _ => ?_)
    | split
    | refine .upd (fun p hp => by cases p <;> first | exact absurd ((Part.mem_bits ..).2 rfl) hp | dsimp only [Part.same]) ?_

theorem takeHealth_only (s : State) (health : Nat) :
    Alters [.modes, .closing, .streams, .grizzly, .twin] s (s.takeHealth health) := by
  unfold State.takeHealth
  repeat' first
    | ((conv => enter [3, 21]); refine .upd (fun p hp => by cases p <;> first | exact absurd ((Part.mem_bits ..).2 rfl) hp | dsimp only [Part.same]) ?_)
    | with_reducible exact .refl _ _
    | assumption
    | with_unfolding_all decide
    | with_reducible refine .ite ?_ ?_
    | with_reducible refine .ite_snd ?_ ?_
    | with_reducible apply Alters.step (endPair_only ..)
    | with_reducible refine .fold ?_ (fun _ _ => ?_)
    | split
    | refine .upd (fun p hp => by cases p <;> first | exact absurd ((Part.mem_bits ..).2 rfl) hp | dsimp only [Part.same]) ?_

theorem goodBlock_only (s : State) (b : XcBlock) :
    Alters [.power, .modes, .sv, .links, .xc, .seams, .closing, .streams, .shaft, .grizzly, .smelter, .hf, .dict, .regs, .twin, .fm, .sent] s (s.goodBlock b) := by
  unfold State.goodBlock
  repeat' first
    | ((conv => enter [3, 21]); refine .upd (fun p hp => by cases p <;> first | exact absurd ((Part.mem_bits ..).2 rfl) hp | dsimp only [Part.same]) ?_)
    | with_reducible exact .refl _ _
    | assumption
    | with_unfolding_all decide
    | with_reducible refine .ite ?_ ?_
    | with_reducible refine .ite_snd ?_ ?_
    | with_reducible apply Alters.step (peerDigest_only ..)
    | with_reducible apply Alters.step (takeHealth_only ..)
    | with_reducible apply Alters.step (followRaster_only ..)
    | with_reducible apply Alters.step (queueRecords_only ..)
    | with_reducible refine .fold ?_ (fun _ _ => ?_)
    | split
    | refine .upd (fun p hp => by cases p <;> first | exact absurd ((Part.mem_bits ..).2 rfl) hp | dsimp only [Part.same]) ?_

theorem takeBlock_only (s : State) (b : XcBlock) :
    Alters [.power, .modes, .sv, .links, .xc, .seams, .closing, .streams, .shaft, .grizzly, .smelter, .hf, .dict, .regs, .twin, .fm, .sent] s (s.takeBlock b) := by
  unfold State.takeBlock
  repeat' first
    | ((conv => enter [3, 21]); refine .upd (fun p hp => by cases p <;> first | exact absurd ((Part.mem_bits ..).2 rfl) hp | dsimp only [Part.same]) ?_)
    | with_reducible exact .refl _ _
    | assumption
    | with_unfolding_all decide
    | with_reducible refine .ite ?_ ?_
    | with_reducible refine .ite_snd ?_ ?_
    | with_reducible apply Alters.step (xcSend_only ..)
    | with_reducible apply Alters.step (goodBlock_only ..)
    | with_reducible refine .fold ?_ (fun _ _ => ?_)
    | split
    | refine .upd (fun p hp => by cases p <;> first | exact absurd ((Part.mem_bits ..).2 rfl) hp | dsimp only [Part.same]) ?_

theorem doorRecord_only (s : State) (q seq : Nat) (kept : Bool) :
    Alters [.streams, .grizzly, .regs, .twin, .fm, .sent] s (s.doorRecord q seq kept) := by
  unfold State.doorRecord
  repeat' first
    | ((conv => enter [3, 21]); refine .upd (fun p hp => by cases p <;> first | exact absurd ((Part.mem_bits ..).2 rfl) hp | dsimp only [Part.same]) ?_)
    | with_reducible exact .refl _ _
    | assumption
    | with_unfolding_all decide
    | with_reducible refine .ite ?_ ?_
    | with_reducible refine .ite_snd ?_ ?_
    | with_reducible apply Alters.step (diverge_only ..)
    | with_reducible apply Alters.step (shadowDoor_only ..)
    | with_reducible refine .fold ?_ (fun _ _ => ?_)
    | split
    | refine .upd (fun p hp => by cases p <;> first | exact absurd ((Part.mem_bits ..).2 rfl) hp | dsimp only [Part.same]) ?_

theorem cursorRecordIn_only (s : State) (n : Nat) (h : n < 64) (c : CursorRec) :
    Alters [.streams, .hf, .regs, .twin, .sent] s (s.cursorRecordIn n h c) := by
  unfold State.cursorRecordIn
  repeat' first
    | ((conv => enter [3, 21]); refine .upd (fun p hp => by cases p <;> first | exact absurd ((Part.mem_bits ..).2 rfl) hp | dsimp only [Part.same]) ?_)
    | with_reducible exact .refl _ _
    | assumption
    | with_unfolding_all decide
    | with_reducible refine .ite ?_ ?_
    | with_reducible refine .ite_snd ?_ ?_
    | with_reducible apply Alters.step (xcSend_only ..)
    | with_reducible apply Alters.step (takeUpRing_only ..)
    | with_reducible refine .fold ?_ (fun _ _ => ?_)
    | split
    | refine .upd (fun p hp => by cases p <;> first | exact absurd ((Part.mem_bits ..).2 rfl) hp | dsimp only [Part.same]) ?_

theorem ackRecord_only (s : State) (n rdPos first : Nat) :
    Alters [.streams, .hf] s (s.ackRecord n rdPos first) := by
  unfold State.ackRecord
  dsimp only
  split
  · exact (onStream_only ..).next (onRing_only ..).mono
  · exact (onRing_only ..).mono

theorem syncRecord_only (s : State) (x : SyncState) :
    Alters [.streams, .shaft, .slots, .twin] s (s.syncRecord x) := by
  unfold State.syncRecord
  repeat' first
    | ((conv => enter [3, 21]); refine .upd (fun p hp => by cases p <;> first | exact absurd ((Part.mem_bits ..).2 rfl) hp | dsimp only [Part.same]) ?_)
    | with_reducible exact .refl _ _
    | assumption
    | with_unfolding_all decide
    | with_reducible refine .ite ?_ ?_
    | with_reducible refine .ite_snd ?_ ?_
    | with_reducible apply Alters.step (loadSync_only ..)
    | with_reducible refine .fold ?_ (fun _ _ => ?_)
    | split
    | refine .upd (fun p hp => by cases p <;> first | exact absurd ((Part.mem_bits ..).2 rfl) hp | dsimp only [Part.same]) ?_

theorem resend_only (s : State) (frameSeq : Nat) :
    Alters [.twin] s (s.resend frameSeq) := by
  unfold State.resend
  repeat' first
    | ((conv => enter [3, 21]); refine .upd (fun p hp => by cases p <;> first | exact absurd ((Part.mem_bits ..).2 rfl) hp | dsimp only [Part.same]) ?_)
    | with_reducible exact .refl _ _
    | assumption
    | with_unfolding_all decide
    | with_reducible refine .ite ?_ ?_
    | with_reducible refine .ite_snd ?_ ?_
    | with_reducible refine .fold ?_ (fun _ _ => ?_)
    | split
    | refine .upd (fun p hp => by cases p <;> first | exact absurd ((Part.mem_bits ..).2 rfl) hp | dsimp only [Part.same]) ?_

theorem peerDecides_only (s : State) (go : Bool) :
    Alters [.modes, .shaft, .grizzly, .regs, .twin, .fm] s (s.peerDecides go) := by
  unfold State.peerDecides
  repeat' first
    | ((conv => enter [3, 21]); refine .upd (fun p hp => by cases p <;> first | exact absurd ((Part.mem_bits ..).2 rfl) hp | dsimp only [Part.same]) ?_)
    | with_reducible exact .refl _ _
    | assumption
    | with_unfolding_all decide
    | with_reducible refine .ite ?_ ?_
    | with_reducible refine .ite_snd ?_ ?_
    | with_reducible apply Alters.step (checkPasses_only ..)
    | with_reducible apply Alters.step (checkFails_only ..)
    | with_reducible apply Alters.step (abortChange_only ..)
    | with_reducible refine .fold ?_ (fun _ _ => ?_)
    | split
    | refine .upd (fun p hp => by cases p <;> first | exact absurd ((Part.mem_bits ..).2 rfl) hp | dsimp only [Part.same]) ?_

theorem freshCarry_only (s : State) :
    Alters [.seams] s (s.freshCarry) := by
  unfold State.freshCarry
  repeat' first
    | ((conv => enter [3, 21]); refine .upd (fun p hp => by cases p <;> first | exact absurd ((Part.mem_bits ..).2 rfl) hp | dsimp only [Part.same]) ?_)
    | with_reducible exact .refl _ _
    | assumption
    | with_unfolding_all decide
    | with_reducible refine .ite ?_ ?_
    | with_reducible refine .ite_snd ?_ ?_
    | with_reducible refine .fold ?_ (fun _ _ => ?_)
    | split
    | refine .upd (fun p hp => by cases p <;> first | exact absurd ((Part.mem_bits ..).2 rfl) hp | dsimp only [Part.same]) ?_

theorem startResync_only (s : State) (d : Nat) :
    Alters [.seams, .streams, .shaft, .slots, .regs, .twin, .sent] s (s.startResync d) := by
  unfold State.startResync
  repeat' first
    | ((conv => enter [3, 21]); refine .upd (fun p hp => by cases p <;> first | exact absurd ((Part.mem_bits ..).2 rfl) hp | dsimp only [Part.same]) ?_)
    | with_reducible exact .refl _ _
    | assumption
    | with_unfolding_all decide
    | with_reducible refine .ite ?_ ?_
    | with_reducible refine .ite_snd ?_ ?_
    | with_reducible apply Alters.step (freshCarry_only ..)
    | with_reducible apply Alters.step (xcSend_only ..)
    | with_reducible apply Alters.step (expectSync_only ..)
    | with_reducible refine .fold ?_ (fun _ _ => ?_)
    | split
    | refine .upd (fun p hp => by cases p <;> first | exact absurd ((Part.mem_bits ..).2 rfl) hp | dsimp only [Part.same]) ?_

theorem resync_only (s : State) :
    Alters [.seams, .streams, .shaft, .slots, .regs, .twin, .sent] s (s.resync) := by
  unfold State.resync
  repeat' first
    | ((conv => enter [3, 21]); refine .upd (fun p hp => by cases p <;> first | exact absurd ((Part.mem_bits ..).2 rfl) hp | dsimp only [Part.same]) ?_)
    | with_reducible exact .refl _ _
    | assumption
    | with_unfolding_all decide
    | with_reducible refine .ite ?_ ?_
    | with_reducible refine .ite_snd ?_ ?_
    | with_reducible apply Alters.step (startResync_only ..)
    | with_reducible refine .fold ?_ (fun _ _ => ?_)
    | split
    | refine .upd (fun p hp => by cases p <;> first | exact absurd ((Part.mem_bits ..).2 rfl) hp | dsimp only [Part.same]) ?_

theorem noteLanes_only (s : State) (set : LaneSet) :
    Alters [.modes, .sv, .links, .xc, .seams, .grizzly, .regs, .twin, .fm] s (s.noteLanes set) := by
  unfold State.noteLanes
  repeat' first
    | ((conv => enter [3, 21]); refine .upd (fun p hp => by cases p <;> first | exact absurd ((Part.mem_bits ..).2 rfl) hp | dsimp only [Part.same]) ?_)
    | with_reducible exact .refl _ _
    | assumption
    | with_unfolding_all decide
    | with_reducible refine .ite ?_ ?_
    | with_reducible refine .ite_snd ?_ ?_
    | with_reducible apply Alters.step (event_only ..)
    | with_reducible apply Alters.step (fault_only ..)
    | with_reducible refine .fold ?_ (fun _ _ => ?_)
    | split
    | refine .upd (fun p hp => by cases p <;> first | exact absurd ((Part.mem_bits ..).2 rfl) hp | dsimp only [Part.same]) ?_

theorem laneSet_only (s : State) (set : LaneSet) :
    Alters [.modes, .sv, .links, .xc, .seams, .grizzly, .regs, .twin, .fm] s (s.laneSet set) := by
  unfold State.laneSet
  repeat' first
    | ((conv => enter [3, 21]); refine .upd (fun p hp => by cases p <;> first | exact absurd ((Part.mem_bits ..).2 rfl) hp | dsimp only [Part.same]) ?_)
    | with_reducible exact .refl _ _
    | assumption
    | with_unfolding_all decide
    | with_reducible refine .ite ?_ ?_
    | with_reducible refine .ite_snd ?_ ?_
    | with_reducible apply Alters.step (noteLanes_only ..)
    | with_reducible refine .fold ?_ (fun _ _ => ?_)
    | split
    | refine .upd (fun p hp => by cases p <;> first | exact absurd ((Part.mem_bits ..).2 rfl) hp | dsimp only [Part.same]) ?_

theorem losePartner_only (s : State) :
    Alters [.power, .grizzly, .hf, .regs, .fm, .sent] s (s.losePartner) := by
  unfold State.losePartner
  repeat' first
    | with_reducible exact .refl _ _
    | assumption
    | with_unfolding_all decide
    | with_reducible refine .ite ?_ ?_
    | with_reducible refine .ite_snd ?_ ?_
    | with_reducible apply Alters.step (dropClaims_only ..)
    | with_reducible apply Alters.step (event_only ..)
    | with_reducible apply Alters.step (resetCage_only ..)
    | with_reducible refine .fold ?_ (fun _ _ => ?_)
    | split

theorem activeAlone_only (s : State) :
    Alters [.power, .closing, .streams, .grizzly, .hf, .twin, .sent] s (s.activeAlone) := by
  unfold State.activeAlone
  repeat' first
    | with_reducible exact .refl _ _
    | assumption
    | with_unfolding_all decide
    | with_reducible refine .ite ?_ ?_
    | with_reducible refine .ite_snd ?_ ?_
    | with_reducible apply Alters.step (takeoverDue_only ..)
    | with_reducible apply Alters.step (takeUpRest_only ..)
    | with_reducible apply Alters.step (endPair_only ..)
    | with_reducible apply Alters.step (releaseCursors_only ..)
    | with_reducible refine .fold ?_ (fun _ _ => ?_)
    | split

theorem shadowAlone_only (s : State) :
    Alters [.modes, .closing, .streams, .grizzly, .twin, .sent] s (s.shadowAlone) := by
  unfold State.shadowAlone
  repeat' first
    | ((conv => enter [3, 21]); refine .upd (fun p hp => by cases p <;> first | exact absurd ((Part.mem_bits ..).2 rfl) hp | dsimp only [Part.same]) ?_)
    | with_reducible exact .refl _ _
    | assumption
    | with_unfolding_all decide
    | with_reducible refine .ite ?_ ?_
    | with_reducible refine .ite_snd ?_ ?_
    | with_reducible apply Alters.step (setFence_only ..)
    | with_reducible apply Alters.step (endPair_only ..)
    | with_reducible refine .fold ?_ (fun _ _ => ?_)
    | split
    | refine .upd (fun p hp => by cases p <;> first | exact absurd ((Part.mem_bits ..).2 rfl) hp | dsimp only [Part.same]) ?_

theorem partnerLoss_only (s : State) :
    Alters [.power, .modes, .closing, .streams, .grizzly, .hf, .dict, .regs, .twin, .fm, .sent] s (s.partnerLoss) := by
  unfold State.partnerLoss
  repeat' first
    | with_reducible exact .refl _ _
    | assumption
    | with_unfolding_all decide
    | with_reducible refine .ite ?_ ?_
    | with_reducible refine .ite_snd ?_ ?_
    | with_reducible apply Alters.step (settlePartner_only ..)
    | with_reducible apply Alters.step (losePartner_only ..)
    | with_reducible apply Alters.step (shadowAlone_only ..)
    | with_reducible apply Alters.step (activeAlone_only ..)
    | with_reducible refine .fold ?_ (fun _ _ => ?_)
    | split

theorem canary_only (s : State) :
    Alters [.power, .modes, .closing, .streams, .grizzly, .hf, .dict, .regs, .twin, .fm, .sent] s (s.canary) := by
  unfold State.canary
  repeat' first
    | ((conv => enter [3, 21]); refine .upd (fun p hp => by cases p <;> first | exact absurd ((Part.mem_bits ..).2 rfl) hp | dsimp only [Part.same]) ?_)
    | with_reducible exact .refl _ _
    | assumption
    | with_unfolding_all decide
    | with_reducible refine .ite ?_ ?_
    | with_reducible refine .ite_snd ?_ ?_
    | with_reducible apply Alters.step (partnerLoss_only ..)
    | with_reducible refine .fold ?_ (fun _ _ => ?_)
    | split
    | refine .upd (fun p hp => by cases p <;> first | exact absurd ((Part.mem_bits ..).2 rfl) hp | dsimp only [Part.same]) ?_

theorem sendRings_only (s : State) :
    Alters [.regs, .twin, .sent] s (s.sendRings) := by
  unfold State.sendRings
  repeat' first
    | with_reducible exact .refl _ _
    | assumption
    | with_unfolding_all decide
    | with_reducible refine .ite ?_ ?_
    | with_reducible refine .ite_snd ?_ ?_
    | with_reducible apply Alters.step (sendRing_only ..)
    | with_reducible refine .fold ?_ (fun _ _ => ?_)
    | split

theorem attachAligned_only (s : State) :
    Alters [.regs, .twin, .sent] s (s.attachAligned) := by
  unfold State.attachAligned
  repeat' first
    | ((conv => enter [3, 21]); refine .upd (fun p hp => by cases p <;> first | exact absurd ((Part.mem_bits ..).2 rfl) hp | dsimp only [Part.same]) ?_)
    | with_reducible exact .refl _ _
    | assumption
    | with_unfolding_all decide
    | with_reducible refine .ite ?_ ?_
    | with_reducible refine .ite_snd ?_ ?_
    | with_reducible apply Alters.step (xcSend_only ..)
    | with_reducible apply Alters.step (sendRings_only ..)
    | with_reducible refine .fold ?_ (fun _ _ => ?_)
    | split
    | refine .upd (fun p hp => by cases p <;> first | exact absurd ((Part.mem_bits ..).2 rfl) hp | dsimp only [Part.same]) ?_

theorem adopt_only (s : State) (sidx time rastpos inc : Nat) :
    Alters [.sv, .twin] s (s.adopt sidx time rastpos inc) := by
  unfold State.adopt
  repeat' first
    | ((conv => enter [3, 21]); refine .upd (fun p hp => by cases p <;> first | exact absurd ((Part.mem_bits ..).2 rfl) hp | dsimp only [Part.same]) ?_)
    | with_reducible exact .refl _ _
    | assumption
    | with_unfolding_all decide
    | with_reducible refine .ite ?_ ?_
    | with_reducible refine .ite_snd ?_ ?_
    | with_reducible refine .fold ?_ (fun _ _ => ?_)
    | split
    | refine .upd (fun p hp => by cases p <;> first | exact absurd ((Part.mem_bits ..).2 rfl) hp | dsimp only [Part.same]) ?_

theorem rearmMode_only (s : State) :
    Alters [.power, .modes, .grizzly, .hf, .regs, .twin, .sent] s (s.rearmMode) := by
  unfold State.rearmMode
  repeat' first
    | with_reducible exact .refl _ _
    | assumption
    | with_unfolding_all decide
    | with_reducible refine .ite ?_ ?_
    | with_reducible refine .ite_snd ?_ ?_
    | with_reducible apply Alters.step (commitTaken_only ..)
    | with_reducible refine .fold ?_ (fun _ _ => ?_)
    | split

theorem attachCopied_only (s : State) (sidx time rastpos inc : Nat) :
    Alters [.power, .modes, .sv, .grizzly, .hf, .regs, .twin, .sent] s (s.attachCopied sidx time rastpos inc) := by
  unfold State.attachCopied
  repeat' first
    | ((conv => enter [3, 21]); refine .upd (fun p hp => by cases p <;> first | exact absurd ((Part.mem_bits ..).2 rfl) hp | dsimp only [Part.same]) ?_)
    | with_reducible exact .refl _ _
    | assumption
    | with_unfolding_all decide
    | with_reducible refine .ite ?_ ?_
    | with_reducible refine .ite_snd ?_ ?_
    | with_reducible apply Alters.step (adopt_only ..)
    | with_reducible apply Alters.step (rearmMode_only ..)
    | with_reducible refine .fold ?_ (fun _ _ => ?_)
    | split
    | refine .upd (fun p hp => by cases p <;> first | exact absurd ((Part.mem_bits ..).2 rfl) hp | dsimp only [Part.same]) ?_

theorem loopBack_only (s : State) (n : Fin 48) (symbols : List (Fin 4)) :
    Alters [.links, .xc, .grizzly, .regs, .fm] s (s.loopBack n symbols) := by
  unfold State.loopBack
  repeat' first
    | with_reducible exact .refl _ _
    | assumption
    | with_unfolding_all decide
    | with_reducible refine .ite ?_ ?_
    | with_reducible refine .ite_snd ?_ ?_
    | with_reducible apply Alters.step (checkBits_only ..)
    | with_reducible apply Alters.step (testFrame_only ..)
    | with_reducible refine .fold ?_ (fun _ _ => ?_)
    | split

theorem probeOut_only (s : State) (n : Fin 48) :
    Alters [.links, .xc, .grizzly, .regs, .fm, .sent] s (s.probeOut n) := by
  unfold State.probeOut
  repeat' first
    | with_reducible exact .refl _ _
    | assumption
    | with_unfolding_all decide
    | with_reducible refine .ite ?_ ?_
    | with_reducible refine .ite_snd ?_ ?_
    | with_reducible apply Alters.step (onLink_only ..)
    | with_reducible apply Alters.step (send_only ..)
    | with_reducible apply Alters.step (loopBack_only ..)
    | with_reducible refine .fold ?_ (fun _ _ => ?_)
    | split

theorem laneOut_only (s : State) (k : Fin 4) :
    Alters [.links, .xc, .sent] s (s.laneOut k) := by
  unfold State.laneOut
  repeat' first
    | with_reducible exact .refl _ _
    | assumption
    | with_unfolding_all decide
    | with_reducible refine .ite ?_ ?_
    | with_reducible refine .ite_snd ?_ ?_
    | with_reducible apply Alters.step (send_only ..)
    | with_reducible apply Alters.step (onRx_only ..)
    | with_reducible refine .fold ?_ (fun _ _ => ?_)
    | split

theorem sendFrames_only (s : State) :
    Alters [.links, .xc, .grizzly, .regs, .fm, .sent] s (s.sendFrames) := by
  unfold State.sendFrames
  repeat' first
    | with_reducible exact .refl _ _
    | assumption
    | with_unfolding_all decide
    | with_reducible refine .ite ?_ ?_
    | with_reducible refine .ite_snd ?_ ?_
    | with_reducible apply Alters.step (laneOut_only ..)
    | with_reducible apply Alters.step (probeOut_only ..)
    | with_reducible refine .fold ?_ (fun _ _ => ?_)
    | split

theorem markSample_only (s : State) :
    Alters [.sv] s (s.markSample) := by
  unfold State.markSample
  repeat' first
    | ((conv => enter [3, 21]); refine .upd (fun p hp => by cases p <;> first | exact absurd ((Part.mem_bits ..).2 rfl) hp | dsimp only [Part.same]) ?_)
    | with_reducible exact .refl _ _
    | assumption
    | with_unfolding_all decide
    | with_reducible refine .ite ?_ ?_
    | with_reducible refine .ite_snd ?_ ?_
    | with_reducible refine .fold ?_ (fun _ _ => ?_)
    | split
    | refine .upd (fun p hp => by cases p <;> first | exact absurd ((Part.mem_bits ..).2 rfl) hp | dsimp only [Part.same]) ?_

theorem cutDue_only (s : State) :
    Alters [.seams, .closing, .shaft, .grizzly, .smelter, .regs, .fm] s (s.cutDue) := by
  unfold State.cutDue
  repeat' first
    | with_reducible exact .refl _ _
    | assumption
    | with_unfolding_all decide
    | with_reducible refine .ite ?_ ?_
    | with_reducible refine .ite_snd ?_ ?_
    | with_reducible apply Alters.step (seamJoin_only ..)
    | with_reducible apply Alters.step (ingotClose_only ..)
    | with_reducible apply Alters.step (segmentPostDone_only ..)
    | with_reducible apply Alters.step (segmentRearm_only ..)
    | with_reducible refine .fold ?_ (fun _ _ => ?_)
    | split

theorem captureDue_only (s : State) :
    Alters [.sv, .seams, .closing, .streams, .shaft, .grizzly, .smelter, .slots, .regs, .fm, .free] s (s.captureDue) := by
  have h1 (u : State) : Alters [.sv, .seams, .closing, .streams, .shaft, .grizzly, .smelter, .slots, .regs, .fm, .free] u u.markSample.cutDue.numberClosed.flushWindows :=
    (flushWindows_only ..).next ((numberClosed_only ..).next ((cutDue_only ..).next (markSample_only ..).mono))
  have h2 (u : State) : Alters [.sv, .seams, .closing, .streams, .shaft, .grizzly, .smelter, .slots, .regs, .fm, .free] u u.shaftDecision.numberClosed.flushWindows :=
    (flushWindows_only ..).next ((numberClosed_only ..).next (shaftDecision_only ..).mono)
  have h3 (u : State) : Alters [.sv, .seams, .closing, .streams, .shaft, .grizzly, .smelter, .slots, .regs, .fm, .free] u ((List.range 32).foldl State.assayBoundary u) :=
    .fold (.refl ..) fun _ _ => (assayBoundary_only ..).mono
  have h4 (u : State) : Alters [.sv, .seams, .closing, .streams, .shaft, .grizzly, .smelter, .slots, .regs, .fm, .free] u ((List.range 32).foldl State.assaySample u.settleSample) :=
    .fold (settleSample_only ..).mono fun _ _ => (assaySample_only ..).mono
  have h5 (u : State) : Alters [.sv, .seams, .closing, .streams, .shaft, .grizzly, .smelter, .slots, .regs, .fm, .free] u { u with seams := vmap u.seams fun _ m => m.trim u.sv.sidx } := .upd (fun p hp => by cases p <;> first | exact absurd ((Part.mem_bits ..).2 rfl) hp | rfl) (.refl ..)
  have all {t u v : State} (a : Alters [.sv, .seams, .closing, .streams, .shaft, .grizzly, .smelter, .slots, .regs, .fm, .free] t u) (b : Alters [.sv, .seams, .closing, .streams, .shaft, .grizzly, .smelter, .slots, .regs, .fm, .free] u v) : Alters [.sv, .seams, .closing, .streams, .shaft, .grizzly, .smelter, .slots, .regs, .fm, .free] t v := a.trans b (.refl _) (.refl _)
  exact all (all (all (all (h1 s) (h2 _)) (h3 _)) (h4 _)) (h5 _)

theorem recordsSent_only (s : State) (b : XcBlock) :
    Alters [.twin] s (s.recordsSent b) := by
  unfold State.recordsSent
  repeat' first
    | ((conv => enter [3, 21]); refine .upd (fun p hp => by cases p <;> first | exact absurd ((Part.mem_bits ..).2 rfl) hp | dsimp only [Part.same]) ?_)
    | with_reducible exact .refl _ _
    | assumption
    | with_unfolding_all decide
    | with_reducible refine .ite ?_ ?_
    | with_reducible refine .ite_snd ?_ ?_
    | with_reducible refine .fold ?_ (fun _ _ => ?_)
    | split
    | refine .upd (fun p hp => by cases p <;> first | exact absurd ((Part.mem_bits ..).2 rfl) hp | dsimp only [Part.same]) ?_

theorem sendBlock_only (s : State) (start : Nat) :
    Alters [.twin, .sent] s (s.sendBlock start) := by
  unfold State.sendBlock
  repeat' first
    | ((conv => enter [3, 21]); refine .upd (fun p hp => by cases p <;> first | exact absurd ((Part.mem_bits ..).2 rfl) hp | dsimp only [Part.same]) ?_)
    | with_reducible exact .refl _ _
    | assumption
    | with_unfolding_all decide
    | with_reducible refine .ite ?_ ?_
    | with_reducible refine .ite_snd ?_ ?_
    | with_reducible apply Alters.step (recordsSent_only ..)
    | with_reducible apply Alters.step (send_only ..)
    | with_reducible refine .fold ?_ (fun _ _ => ?_)
    | split
    | refine .upd (fun p hp => by cases p <;> first | exact absurd ((Part.mem_bits ..).2 rfl) hp | dsimp only [Part.same]) ?_

theorem frameDue_only (s : State) :
    Alters [.links, .xc, .grizzly, .regs, .twin, .fm, .sent] s (s.frameDue) := by
  unfold State.frameDue
  repeat' first
    | with_reducible exact .refl _ _
    | assumption
    | with_unfolding_all decide
    | with_reducible refine .ite ?_ ?_
    | with_reducible refine .ite_snd ?_ ?_
    | with_reducible apply Alters.step (sendBlock_only ..)
    | with_reducible apply Alters.step (sendFrames_only ..)
    | with_reducible refine .fold ?_ (fun _ _ => ?_)
    | split

theorem keepPos_only (s : State) :
    Alters [.twin] s (s.keepPos) := by
  unfold State.keepPos
  repeat' first
    | ((conv => enter [3, 21]); refine .upd (fun p hp => by cases p <;> first | exact absurd ((Part.mem_bits ..).2 rfl) hp | dsimp only [Part.same]) ?_)
    | with_reducible exact .refl _ _
    | assumption
    | with_unfolding_all decide
    | with_reducible refine .ite ?_ ?_
    | with_reducible refine .ite_snd ?_ ?_
    | with_reducible refine .fold ?_ (fun _ _ => ?_)
    | split
    | refine .upd (fun p hp => by cases p <;> first | exact absurd ((Part.mem_bits ..).2 rfl) hp | dsimp only [Part.same]) ?_

theorem advanceTime_only (s : State) :
    Alters [.sv] s (s.advanceTime) := by
  unfold State.advanceTime
  repeat' first
    | ((conv => enter [3, 21]); refine .upd (fun p hp => by cases p <;> first | exact absurd ((Part.mem_bits ..).2 rfl) hp | dsimp only [Part.same]) ?_)
    | with_reducible exact .refl _ _
    | assumption
    | with_unfolding_all decide
    | with_reducible refine .ite ?_ ?_
    | with_reducible refine .ite_snd ?_ ?_
    | with_reducible refine .fold ?_ (fun _ _ => ?_)
    | split
    | refine .upd (fun p hp => by cases p <;> first | exact absurd ((Part.mem_bits ..).2 rfl) hp | dsimp only [Part.same]) ?_

theorem advanceSample_only (s : State) :
    Alters [.sv, .grizzly] s (s.advanceSample) := by
  unfold State.advanceSample
  repeat' first
    | ((conv => enter [3, 21]); refine .upd (fun p hp => by cases p <;> first | exact absurd ((Part.mem_bits ..).2 rfl) hp | dsimp only [Part.same]) ?_)
    | with_reducible exact .refl _ _
    | assumption
    | with_unfolding_all decide
    | with_reducible refine .ite ?_ ?_
    | with_reducible refine .ite_snd ?_ ?_
    | with_reducible apply Alters.step (noteSpans_only ..)
    | with_reducible refine .fold ?_ (fun _ _ => ?_)
    | split
    | refine .upd (fun p hp => by cases p <;> first | exact absurd ((Part.mem_bits ..).2 rfl) hp | dsimp only [Part.same]) ?_

theorem wakeHbm_only (s : State) :
    Alters [.power] s (s.wakeHbm) := by
  unfold State.wakeHbm
  repeat' first
    | ((conv => enter [3, 21]); refine .upd (fun p hp => by cases p <;> first | exact absurd ((Part.mem_bits ..).2 rfl) hp | dsimp only [Part.same]) ?_)
    | with_reducible exact .refl _ _
    | assumption
    | with_unfolding_all decide
    | with_reducible refine .ite ?_ ?_
    | with_reducible refine .ite_snd ?_ ?_
    | with_reducible refine .fold ?_ (fun _ _ => ?_)
    | split
    | refine .upd (fun p hp => by cases p <;> first | exact absurd ((Part.mem_bits ..).2 rfl) hp | dsimp only [Part.same]) ?_

theorem sampled_only (s : State) :
    Alters [.power, .modes, .sv, .links, .xc, .seams, .closing, .streams, .shaft, .grizzly, .smelter, .slots, .hf, .dict, .regs, .twin, .fm, .nv, .sent, .free] s (s.sampled) := by
  unfold State.sampled
  repeat' first
    | with_reducible exact .refl _ _
    | assumption
    | with_unfolding_all decide
    | with_reducible refine .ite ?_ ?_
    | with_reducible refine .ite_snd ?_ ?_
    | with_reducible apply Alters.step (keepPos_only ..)
    | with_reducible apply Alters.step (wakeHbm_only ..)
    | with_reducible apply Alters.step (advanceTime_only ..)
    | with_reducible apply Alters.step (showLevels_only ..)
    | with_reducible apply Alters.step (advanceSample_only ..)
    | with_reducible apply Alters.step (settlePartner_only ..)
    | with_reducible apply Alters.step (settleDigests_only ..)
    | with_reducible apply Alters.step (frameDue_only ..)
    | with_reducible apply Alters.step (captureDue_only ..)
    | with_reducible apply Alters.step (drainRecords_only ..)
    | with_reducible apply Alters.step (serveWaiting_only ..)
    | with_reducible refine .fold ?_ (fun _ _ => ?_)
    | split

theorem tick_pending (s : State) : (tick s).pending = s.pending := rfl

end Sys2Proof.Machine
end

