-- ==== Sys2Proof/Laws/FramesCommands.lean ====
section
/-! SUPPORT. What each command changes: the parts of the state that its meaning can touch; SVN_MIN never falls (R404). One
lemma for each meaning. -/

set_option linter.unreachableTactic false
set_option linter.unusedTactic false

namespace Sys2Proof.Machine

set_option Elab.async false

theorem ran_only {l : List Part} {s t u : State} (k : Alters l s u) (h : ran s u = .next t) : Alters l s t := by
  obtain rfl : t = { u with pending := s.pending } := by
    unfold ran at h
    injection h with h
    exact h.symm
  exact k.trans (.set fun p _ => by cases p <;> rfl) (.refl l) (.refl l)

theorem execMsixTableWrite_only (fn : Fn) (offset : Nat) (v : Word) (s : State) (t : State)
    (h : execMsixTableWrite fn offset v s = .next t) : Alters [.power, .grizzly, .hf, .sent] s t := by
  unfold execMsixTableWrite at h
  refine ran_only ?_ h
  repeat' first
    | with_reducible exact .refl _ _
    | assumption
    | with_unfolding_all decide
    | with_reducible refine .ite ?_ ?_
    | with_reducible refine .ite_snd ?_ ?_
    | with_reducible apply Alters.step (msixWrite_only ..)
    | with_reducible refine .fold ?_ (fun _ _ => ?_)
    | split

theorem execRefClockLost_only (s : State) (t : State)
    (h : execRefClockLost s = .next t) : Alters [.modes, .sv, .links, .xc, .seams, .grizzly, .regs, .fm] s t := by
  unfold execRefClockLost at h
  refine ran_only ?_ h
  repeat' first
    | with_reducible exact .refl _ _
    | assumption
    | with_unfolding_all decide
    | with_reducible refine .ite ?_ ?_
    | with_reducible refine .ite_snd ?_ ?_
    | with_reducible apply Alters.step (refClockLost_only ..)
    | with_reducible refine .fold ?_ (fun _ _ => ?_)
    | split

theorem execRefClockReturn_only (stretched : Nat) (s : State) (t : State)
    (h : execRefClockReturn stretched s = .next t) : Alters [.modes, .sv, .links, .xc, .seams, .grizzly, .regs, .fm] s t := by
  unfold execRefClockReturn at h
  refine ran_only ?_ h
  repeat' first
    | with_reducible exact .refl _ _
    | assumption
    | with_unfolding_all decide
    | with_reducible refine .ite ?_ ?_
    | with_reducible refine .ite_snd ?_ ?_
    | with_reducible apply Alters.step (refClockReturn_only ..)
    | with_reducible refine .fold ?_ (fun _ _ => ?_)
    | split

theorem execDllLock_only (s : State) (t : State)
    (h : execDllLock s = .next t) : Alters [.sv] s t := by
  unfold execDllLock at h
  refine ran_only ?_ h
  repeat' first
    | ((conv => enter [3, 21]); refine .upd (fun p hp => by cases p <;> first | exact absurd ((Part.mem_bits ..).2 rfl) hp | dsimp only [Part.same]) ?_)
    | with_reducible exact .refl _ _
    | assumption
    | with_unfolding_all decide
    | with_reducible refine .ite ?_ ?_
    | with_reducible refine .ite_snd ?_ ?_
    | with_reducible refine .fold ?_ (fun _ _ => ?_)
    | split
    | refine .upd (fun p hp => by cases p <;> first | exact absurd ((Part.mem_bits ..).2 rfl) hp | dsimp only [Part.same]) ?_

theorem execDllFault_only (s : State) (t : State)
    (h : execDllFault s = .next t) : Alters [.sv] s t := by
  unfold execDllFault at h
  refine ran_only ?_ h
  repeat' first
    | ((conv => enter [3, 21]); refine .upd (fun p hp => by cases p <;> first | exact absurd ((Part.mem_bits ..).2 rfl) hp | dsimp only [Part.same]) ?_)
    | with_reducible exact .refl _ _
    | assumption
    | with_unfolding_all decide
    | with_reducible refine .ite ?_ ?_
    | with_reducible refine .ite_snd ?_ ?_
    | with_reducible refine .fold ?_ (fun _ _ => ?_)
    | split
    | refine .upd (fun p hp => by cases p <;> first | exact absurd ((Part.mem_bits ..).2 rfl) hp | dsimp only [Part.same]) ?_

theorem execSyncPulse_only (pin : Fin 4) (p : Pulse) (s : State) (t : State)
    (h : execSyncPulse pin p s = .next t) : Alters [.sv] s t := by
  unfold execSyncPulse at h
  refine ran_only ?_ h
  repeat' first
    | with_reducible exact .refl _ _
    | assumption
    | with_unfolding_all decide
    | with_reducible refine .ite ?_ ?_
    | with_reducible refine .ite_snd ?_ ?_
    | with_reducible apply Alters.step (syncPulse_only ..)
    | with_reducible refine .fold ?_ (fun _ _ => ?_)
    | split

theorem execTrsWord_only (k : Fin 48) (channel : Fin 16) (s : State) (t : State)
    (h : execTrsWord k channel s = .next t) : Alters [.sv] s t := by
  unfold execTrsWord at h
  refine ran_only ?_ h
  repeat' first
    | with_reducible exact .refl _ _
    | assumption
    | with_unfolding_all decide
    | with_reducible refine .ite ?_ ?_
    | with_reducible refine .ite_snd ?_ ?_
    | with_reducible apply Alters.step (trsWord_only ..)
    | with_reducible refine .fold ?_ (fun _ _ => ?_)
    | split

theorem execRefLineStart_only (at_ : Nat) (s : State) (t : State)
    (h : execRefLineStart at_ s = .next t) : Alters [.sv, .grizzly, .regs, .twin, .fm, .free] s t := by
  unfold execRefLineStart at h
  refine ran_only ?_ h
  repeat' first
    | with_reducible exact .refl _ _
    | assumption
    | with_unfolding_all decide
    | with_reducible refine .ite ?_ ?_
    | with_reducible refine .ite_snd ?_ ?_
    | with_reducible apply Alters.step (refLineStart_only ..)
    | with_reducible refine .fold ?_ (fun _ _ => ?_)
    | split

theorem execMissingLineStart_only (s : State) (t : State)
    (h : execMissingLineStart s = .next t) : Alters [.sv, .grizzly, .regs, .fm] s t := by
  unfold execMissingLineStart at h
  refine ran_only ?_ h
  repeat' first
    | ((conv => enter [3, 21]); refine .upd (fun p hp => by cases p <;> first | exact absurd ((Part.mem_bits ..).2 rfl) hp | dsimp only [Part.same]) ?_)
    | with_reducible exact .refl _ _
    | assumption
    | with_unfolding_all decide
    | with_reducible refine .ite ?_ ?_
    | with_reducible refine .ite_snd ?_ ?_
    | with_reducible apply Alters.step (enterHoldover_only ..)
    | with_reducible refine .fold ?_ (fun _ _ => ?_)
    | split
    | refine .upd (fun p hp => by cases p <;> first | exact absurd ((Part.mem_bits ..).2 rfl) hp | dsimp only [Part.same]) ?_

theorem execNoReferenceTimeout_only (s : State) (t : State)
    (h : execNoReferenceTimeout s = .next t) : Alters [.sv] s t := by
  unfold execNoReferenceTimeout at h
  refine ran_only ?_ h
  repeat' first
    | ((conv => enter [3, 21]); refine .upd (fun p hp => by cases p <;> first | exact absurd ((Part.mem_bits ..).2 rfl) hp | dsimp only [Part.same]) ?_)
    | with_reducible exact .refl _ _
    | assumption
    | with_unfolding_all decide
    | with_reducible refine .ite ?_ ?_
    | with_reducible refine .ite_snd ?_ ?_
    | with_reducible refine .fold ?_ (fun _ _ => ?_)
    | split
    | refine .upd (fun p hp => by cases p <;> first | exact absurd ((Part.mem_bits ..).2 rfl) hp | dsimp only [Part.same]) ?_

theorem execHoldoverLong_only (s : State) (t : State)
    (h : execHoldoverLong s = .next t) : Alters [.sv, .grizzly, .regs, .fm] s t := by
  unfold execHoldoverLong at h
  refine ran_only ?_ h
  repeat' first
    | ((conv => enter [3, 21]); refine .upd (fun p hp => by cases p <;> first | exact absurd ((Part.mem_bits ..).2 rfl) hp | dsimp only [Part.same]) ?_)
    | with_reducible exact .refl _ _
    | assumption
    | with_unfolding_all decide
    | with_reducible refine .ite ?_ ?_
    | with_reducible refine .ite_snd ?_ ?_
    | with_reducible apply Alters.step (event_only ..)
    | with_reducible refine .fold ?_ (fun _ _ => ?_)
    | split
    | refine .upd (fun p hp => by cases p <;> first | exact absurd ((Part.mem_bits ..).2 rfl) hp | dsimp only [Part.same]) ?_

theorem execRefFrameComplete_only (f : RefFrame) (s : State) (t : State)
    (h : execRefFrameComplete f s = .next t) : Alters [.modes, .sv, .links, .xc, .seams, .grizzly, .regs, .fm] s t := by
  unfold execRefFrameComplete at h
  refine ran_only ?_ h
  repeat' first
    | with_reducible exact .refl _ _
    | assumption
    | with_unfolding_all decide
    | with_reducible refine .ite ?_ ?_
    | with_reducible refine .ite_snd ?_ ?_
    | with_reducible apply Alters.step (refFrame_only ..)
    | with_reducible refine .fold ?_ (fun _ _ => ?_)
    | split

theorem execRelock_only (stretched : Nat) (s : State) (t : State)
    (h : execRelock stretched s = .next t) : Alters [.modes, .sv, .links, .xc, .seams, .grizzly, .regs, .fm] s t := by
  unfold execRelock at h
  refine ran_only ?_ h
  repeat' first
    | with_reducible exact .refl _ _
    | assumption
    | with_unfolding_all decide
    | with_reducible refine .ite ?_ ?_
    | with_reducible refine .ite_snd ?_ ?_
    | with_reducible apply Alters.step (relock_only ..)
    | with_reducible refine .fold ?_ (fun _ _ => ?_)
    | split

theorem execPpsInEdge_only (s : State) (t : State)
    (h : execPpsInEdge s = .next t) : Alters [.sv, .grizzly, .regs, .fm] s t := by
  unfold execPpsInEdge at h
  refine ran_only ?_ h
  repeat' first
    | with_reducible exact .refl _ _
    | assumption
    | with_unfolding_all decide
    | with_reducible refine .ite ?_ ?_
    | with_reducible refine .ite_snd ?_ ?_
    | with_reducible apply Alters.step (ppsEdge_only ..)
    | with_reducible refine .fold ?_ (fun _ _ => ?_)
    | split

theorem execPpsLost_only (s : State) (t : State)
    (h : execPpsLost s = .next t) : Alters [.sv, .grizzly, .regs, .fm] s t := by
  unfold execPpsLost at h
  refine ran_only ?_ h
  repeat' first
    | ((conv => enter [3, 21]); refine .upd (fun p hp => by cases p <;> first | exact absurd ((Part.mem_bits ..).2 rfl) hp | dsimp only [Part.same]) ?_)
    | with_reducible exact .refl _ _
    | assumption
    | with_unfolding_all decide
    | with_reducible refine .ite ?_ ?_
    | with_reducible refine .ite_snd ?_ ?_
    | with_reducible apply Alters.step (event_only ..)
    | with_reducible apply Alters.step (setTimeState_only ..)
    | with_reducible refine .fold ?_ (fun _ _ => ?_)
    | split
    | refine .upd (fun p hp => by cases p <;> first | exact absurd ((Part.mem_bits ..).2 rfl) hp | dsimp only [Part.same]) ?_

theorem execPpsOutRise_only (s : State) (t : State)
    (h : execPpsOutRise s = .next t) : Alters [.power, .sent] s t := by
  unfold execPpsOutRise at h
  refine ran_only ?_ h
  repeat' first
    | with_reducible exact .refl _ _
    | assumption
    | with_unfolding_all decide
    | with_reducible refine .ite ?_ ?_
    | with_reducible refine .ite_snd ?_ ?_
    | with_reducible apply Alters.step (setPpsOut_only ..)
    | with_reducible refine .fold ?_ (fun _ _ => ?_)
    | split

theorem execPpsOutFall_only (s : State) (t : State)
    (h : execPpsOutFall s = .next t) : Alters [.power, .sent] s t := by
  unfold execPpsOutFall at h
  refine ran_only ?_ h
  repeat' first
    | with_reducible exact .refl _ _
    | assumption
    | with_unfolding_all decide
    | with_reducible refine .ite ?_ ?_
    | with_reducible refine .ite_snd ?_ ?_
    | with_reducible apply Alters.step (setPpsOut_only ..)
    | with_reducible refine .fold ?_ (fun _ _ => ?_)
    | split

theorem execControlMessageAckTimeout_only (n : Fin 48) (s : State) (t : State)
    (h : execControlMessageAckTimeout n s = .next t) : Alters [.links, .grizzly, .regs, .fm] s t := by
  unfold execControlMessageAckTimeout at h
  refine ran_only ?_ h
  repeat' first
    | with_reducible exact .refl _ _
    | assumption
    | with_unfolding_all decide
    | with_reducible refine .ite ?_ ?_
    | with_reducible refine .ite_snd ?_ ?_
    | with_reducible apply Alters.step (onLink_only ..)
    | with_reducible apply Alters.step (endMessage_only ..)
    | with_reducible apply Alters.step (event_only ..)
    | with_reducible refine .fold ?_ (fun _ _ => ?_)
    | split

theorem execLinkClockRecovered_only (l : LinkId) (s : State) (t : State)
    (h : execLinkClockRecovered l s = .next t) : Alters [.links, .xc] s t := by
  unfold execLinkClockRecovered at h
  refine ran_only ?_ h
  repeat' first
    | with_reducible exact .refl _ _
    | assumption
    | with_unfolding_all decide
    | with_reducible refine .ite ?_ ?_
    | with_reducible refine .ite_snd ?_ ?_
    | with_reducible apply Alters.step (onRx_only ..)
    | with_reducible refine .fold ?_ (fun _ _ => ?_)
    | split

theorem execLinkLevelsConverged_only (l : LinkId) (s : State) (t : State)
    (h : execLinkLevelsConverged l s = .next t) : Alters [.links, .xc] s t := by
  unfold execLinkLevelsConverged at h
  refine ran_only ?_ h
  repeat' first
    | with_reducible exact .refl _ _
    | assumption
    | with_unfolding_all decide
    | with_reducible refine .ite ?_ ?_
    | with_reducible refine .ite_snd ?_ ?_
    | with_reducible apply Alters.step (onRx_only ..)
    | with_reducible refine .fold ?_ (fun _ _ => ?_)
    | split

theorem execLinkSearchTimeout_only (l : LinkId) (s : State) (t : State)
    (h : execLinkSearchTimeout l s = .next t) : Alters [.links, .xc, .grizzly, .regs, .fm] s t := by
  unfold execLinkSearchTimeout at h
  refine ran_only ?_ h
  repeat' first
    | with_reducible exact .refl _ _
    | assumption
    | with_unfolding_all decide
    | with_reducible refine .ite ?_ ?_
    | with_reducible refine .ite_snd ?_ ?_
    | with_reducible apply Alters.step (onRx_only ..)
    | with_reducible apply Alters.step (event_only ..)
    | with_reducible refine .fold ?_ (fun _ _ => ?_)
    | split

theorem execNoPartnerRetry_only (l : LinkId) (s : State) (t : State)
    (h : execNoPartnerRetry l s = .next t) : Alters [.links, .xc] s t := by
  unfold execNoPartnerRetry at h
  refine ran_only ?_ h
  repeat' first
    | with_reducible exact .refl _ _
    | assumption
    | with_unfolding_all decide
    | with_reducible refine .ite ?_ ?_
    | with_reducible refine .ite_snd ?_ ?_
    | with_reducible apply Alters.step (onRx_only ..)
    | with_reducible refine .fold ?_ (fun _ _ => ?_)
    | split

theorem execLinkLevelsTimeout_only (l : LinkId) (s : State) (t : State)
    (h : execLinkLevelsTimeout l s = .next t) : Alters [.sv, .links, .xc, .seams, .grizzly, .regs, .fm] s t := by
  unfold execLinkLevelsTimeout at h
  refine ran_only ?_ h
  repeat' first
    | with_reducible exact .refl _ _
    | assumption
    | with_unfolding_all decide
    | with_reducible refine .ite ?_ ?_
    | with_reducible refine .ite_snd ?_ ?_
    | with_reducible apply Alters.step (trainFail_only ..)
    | with_reducible refine .fold ?_ (fun _ _ => ?_)
    | split

theorem execLinkFrameTimeout_only (l : LinkId) (s : State) (t : State)
    (h : execLinkFrameTimeout l s = .next t) : Alters [.sv, .links, .xc, .seams, .grizzly, .regs, .fm] s t := by
  unfold execLinkFrameTimeout at h
  refine ran_only ?_ h
  repeat' first
    | with_reducible exact .refl _ _
    | assumption
    | with_unfolding_all decide
    | with_reducible refine .ite ?_ ?_
    | with_reducible refine .ite_snd ?_ ?_
    | with_reducible apply Alters.step (trainFail_only ..)
    | with_reducible refine .fold ?_ (fun _ _ => ?_)
    | split

theorem execLinkFecTimeout_only (l : LinkId) (s : State) (t : State)
    (h : execLinkFecTimeout l s = .next t) : Alters [.sv, .links, .xc, .seams, .grizzly, .regs, .fm] s t := by
  unfold execLinkFecTimeout at h
  refine ran_only ?_ h
  repeat' first
    | with_reducible exact .refl _ _
    | assumption
    | with_unfolding_all decide
    | with_reducible refine .ite ?_ ?_
    | with_reducible refine .ite_snd ?_ ?_
    | with_reducible apply Alters.step (trainFail_only ..)
    | with_reducible refine .fold ?_ (fun _ _ => ?_)
    | split

theorem execPartnerRxFail_only (l : LinkId) (s : State) (t : State)
    (h : execPartnerRxFail l s = .next t) : Alters [.links, .xc, .grizzly, .regs, .fm] s t := by
  unfold execPartnerRxFail at h
  refine ran_only ?_ h
  repeat' first
    | with_reducible exact .refl _ _
    | assumption
    | with_unfolding_all decide
    | with_reducible refine .ite ?_ ?_
    | with_reducible refine .ite_snd ?_ ?_
    | with_reducible apply Alters.step (onRx_only ..)
    | with_reducible apply Alters.step (event_only ..)
    | with_reducible refine .fold ?_ (fun _ _ => ?_)
    | split

theorem execSignalLost_only (l : LinkId) (s : State) (t : State)
    (h : execSignalLost l s = .next t) : Alters [.sv, .links, .xc, .seams, .grizzly, .regs, .fm] s t := by
  unfold execSignalLost at h
  refine ran_only ?_ h
  repeat' first
    | with_reducible exact .refl _ _
    | assumption
    | with_unfolding_all decide
    | with_reducible refine .ite ?_ ?_
    | with_reducible refine .ite_snd ?_ ?_
    | with_reducible apply Alters.step (signalLost_only ..)
    | with_reducible refine .fold ?_ (fun _ _ => ?_)
    | split

theorem execLinkUncorrectableLoss_only (l : LinkId) (s : State) (t : State)
    (h : execLinkUncorrectableLoss l s = .next t) : Alters [.sv, .links, .xc, .seams, .grizzly, .regs, .fm] s t := by
  unfold execLinkUncorrectableLoss at h
  refine ran_only ?_ h
  repeat' first
    | with_reducible exact .refl _ _
    | assumption
    | with_unfolding_all decide
    | with_reducible refine .ite ?_ ?_
    | with_reducible refine .ite_snd ?_ ?_
    | with_reducible apply Alters.step (rxGo_only ..)
    | with_reducible refine .fold ?_ (fun _ _ => ?_)
    | split

theorem execLinkSequenceLoss_only (l : LinkId) (s : State) (t : State)
    (h : execLinkSequenceLoss l s = .next t) : Alters [.sv, .links, .xc, .seams, .grizzly, .regs, .fm] s t := by
  unfold execLinkSequenceLoss at h
  refine ran_only ?_ h
  repeat' first
    | with_reducible exact .refl _ _
    | assumption
    | with_unfolding_all decide
    | with_reducible refine .ite ?_ ?_
    | with_reducible refine .ite_snd ?_ ?_
    | with_reducible apply Alters.step (rxGo_only ..)
    | with_reducible refine .fold ?_ (fun _ _ => ?_)
    | split

theorem execLinkDrift_only (l : LinkId) (s : State) (t : State)
    (h : execLinkDrift l s = .next t) : Alters [.sv, .links, .xc, .seams, .grizzly, .regs, .fm] s t := by
  unfold execLinkDrift at h
  refine ran_only ?_ h
  repeat' first
    | with_reducible exact .refl _ _
    | assumption
    | with_unfolding_all decide
    | with_reducible refine .ite ?_ ?_
    | with_reducible refine .ite_snd ?_ ?_
    | with_reducible apply Alters.step (rxGo_only ..)
    | with_reducible refine .fold ?_ (fun _ _ => ?_)
    | split

theorem execProbeFrameReceive_only (l : LinkId) (f : RxFrame) (s : State) (t : State)
    (h : execProbeFrameReceive l f s = .next t) : Alters [.sv, .links, .xc, .seams, .grizzly, .regs, .fm] s t := by
  unfold execProbeFrameReceive at h
  split at h <;> [skip; exact nomatch h]
  refine ran_only ?_ h
  repeat' first
    | with_reducible exact .refl _ _
    | assumption
    | with_unfolding_all decide
    | with_reducible refine .ite ?_ ?_
    | with_reducible refine .ite_snd ?_ ?_
    | with_reducible apply Alters.step (receiveFrame_only ..)
    | with_reducible refine .fold ?_ (fun _ _ => ?_)
    | split

theorem execPrbsCheck_only (n : Fin 48) (bits : List Bool) (s : State) (t : State)
    (h : execPrbsCheck n bits s = .next t) : Alters [.links] s t := by
  unfold execPrbsCheck at h
  refine ran_only ?_ h
  repeat' first
    | with_reducible exact .refl _ _
    | assumption
    | with_unfolding_all decide
    | with_reducible refine .ite ?_ ?_
    | with_reducible refine .ite_snd ?_ ?_
    | with_reducible apply Alters.step (checkBits_only ..)
    | with_reducible refine .fold ?_ (fun _ _ => ?_)
    | split

theorem execIngotClose_only (k : Fin 48) (copy : Copy) (s : State) (t : State)
    (h : execIngotClose k copy s = .next t) : Alters [.seams, .closing] s t := by
  unfold execIngotClose at h
  refine ran_only ?_ h
  repeat' first
    | with_reducible exact .refl _ _
    | assumption
    | with_unfolding_all decide
    | with_reducible refine .ite ?_ ?_
    | with_reducible refine .ite_snd ?_ ?_
    | with_reducible apply Alters.step (ingotClose_only ..)
    | with_reducible refine .fold ?_ (fun _ _ => ?_)
    | split

theorem execSeamJoin_only (k : Fin 48) (s : State) (t : State)
    (h : execSeamJoin k s = .next t) : Alters [.seams, .closing] s t := by
  unfold execSeamJoin at h
  refine ran_only ?_ h
  repeat' first
    | with_reducible exact .refl _ _
    | assumption
    | with_unfolding_all decide
    | with_reducible refine .ite ?_ ?_
    | with_reducible refine .ite_snd ?_ ?_
    | with_reducible apply Alters.step (seamJoin_only ..)
    | with_reducible refine .fold ?_ (fun _ _ => ?_)
    | split

theorem execSegmentRearm_only (s : State) (t : State)
    (h : execSegmentRearm s = .next t) : Alters [.seams, .closing, .shaft, .grizzly, .smelter, .regs, .fm] s t := by
  unfold execSegmentRearm at h
  refine ran_only ?_ h
  repeat' first
    | with_reducible exact .refl _ _
    | assumption
    | with_unfolding_all decide
    | with_reducible refine .ite ?_ ?_
    | with_reducible refine .ite_snd ?_ ?_
    | with_reducible apply Alters.step (segmentRearm_only ..)
    | with_reducible refine .fold ?_ (fun _ _ => ?_)
    | split

theorem execSegmentPostDone_only (s : State) (t : State)
    (h : execSegmentPostDone s = .next t) : Alters [.seams, .closing, .shaft] s t := by
  unfold execSegmentPostDone at h
  refine ran_only ?_ h
  repeat' first
    | with_reducible exact .refl _ _
    | assumption
    | with_unfolding_all decide
    | with_reducible refine .ite ?_ ?_
    | with_reducible refine .ite_snd ?_ ?_
    | with_reducible apply Alters.step (segmentPostDone_only ..)
    | with_reducible refine .fold ?_ (fun _ _ => ?_)
    | split

theorem execCalComplete_only (hist : List (List Nat)) (s : State) (t : State)
    (h : execCalComplete hist s = .next t) : Alters [.shaft, .dict] s t := by
  unfold execCalComplete at h
  split at h <;> [skip; exact nomatch h]
  refine ran_only ?_ h
  repeat' first
    | ((conv => enter [3, 21]); refine .upd (fun p hp => by cases p <;> first | exact absurd ((Part.mem_bits ..).2 rfl) hp | dsimp only [Part.same]) ?_)
    | with_reducible exact .refl _ _
    | assumption
    | with_unfolding_all decide
    | with_reducible refine .ite ?_ ?_
    | with_reducible refine .ite_snd ?_ ?_
    | with_reducible apply Alters.step (calLine_only ..)
    | with_reducible refine .fold ?_ (fun _ _ => ?_)
    | split
    | refine .upd (fun p hp => by cases p <;> first | exact absurd ((Part.mem_bits ..).2 rfl) hp | dsimp only [Part.same]) ?_

theorem execSmelterSeal_only (k : Fin 48) (copy : Copy) (s : State) (t : State)
    (h : execSmelterSeal k copy s = .next t) : Alters [.seams, .closing, .streams, .shaft, .smelter] s t := by
  unfold execSmelterSeal at h
  refine ran_only ?_ h
  repeat' first
    | with_reducible exact .refl _ _
    | assumption
    | with_unfolding_all decide
    | with_reducible refine .ite ?_ ?_
    | with_reducible refine .ite_snd ?_ ?_
    | with_reducible apply Alters.step (smelterSeal_only ..)
    | with_reducible refine .fold ?_ (fun _ _ => ?_)
    | split

theorem execSuspensionEnd_only (cause : SuspendCause) (s : State) (t : State)
    (h : execSuspensionEnd cause s = .next t) : Alters [.grizzly, .regs, .fm] s t := by
  unfold execSuspensionEnd at h
  refine ran_only ?_ h
  repeat' first
    | with_reducible exact .refl _ _
    | assumption
    | with_unfolding_all decide
    | with_reducible refine .ite ?_ ?_
    | with_reducible refine .ite_snd ?_ ?_
    | with_reducible apply Alters.step (endSuspensions_only ..)
    | with_reducible refine .fold ?_ (fun _ _ => ?_)
    | split

theorem execGrizzlyDoor_only (q : Fin 64) (s : State) (t : State)
    (h : execGrizzlyDoor q s = .next t) : Alters [.streams, .grizzly, .hf, .regs, .twin, .fm, .sent] s t := by
  unfold execGrizzlyDoor at h
  refine ran_only ?_ h
  repeat' first
    | with_reducible exact .refl _ _
    | assumption
    | with_unfolding_all decide
    | with_reducible refine .ite ?_ ?_
    | with_reducible refine .ite_snd ?_ ?_
    | with_reducible apply Alters.step (grizzlyDoor_only ..)
    | with_reducible refine .fold ?_ (fun _ _ => ?_)
    | split

theorem execDrainBinEnd_only (s : State) (t : State)
    (h : execDrainBinEnd s = .next t) : Alters [.grizzly, .regs, .fm] s t := by
  unfold execDrainBinEnd at h
  refine ran_only ?_ h
  repeat' first
    | with_reducible exact .refl _ _
    | assumption
    | with_unfolding_all decide
    | with_reducible refine .ite ?_ ?_
    | with_reducible refine .ite_snd ?_ ?_
    | with_reducible apply Alters.step (binEnd_only ..)
    | with_reducible refine .fold ?_ (fun _ _ => ?_)
    | split

theorem execRingFullTimeout_only (q : Fin 64) (s : State) (t : State)
    (h : execRingFullTimeout q s = .next t) : Alters [.streams, .grizzly, .regs, .fm] s t := by
  unfold execRingFullTimeout at h
  refine ran_only ?_ h
  repeat' first
    | with_reducible exact .refl _ _
    | assumption
    | with_unfolding_all decide
    | with_reducible refine .ite ?_ ?_
    | with_reducible refine .ite_snd ?_ ?_
    | with_reducible apply Alters.step (ringFull_only ..)
    | with_reducible refine .fold ?_ (fun _ _ => ?_)
    | split

theorem execHeldListRejoin_only (q : Fin 64) (s : State) (t : State)
    (h : execHeldListRejoin q s = .next t) : Alters [.streams, .grizzly] s t := by
  unfold execHeldListRejoin at h
  refine ran_only ?_ h
  repeat' first
    | with_reducible exact .refl _ _
    | assumption
    | with_unfolding_all decide
    | with_reducible refine .ite ?_ ?_
    | with_reducible refine .ite_snd ?_ ?_
    | with_reducible apply Alters.step (heldRejoin_only ..)
    | with_reducible refine .fold ?_ (fun _ _ => ?_)
    | split

theorem execPcieLinkDown_only (recovery : Bool) (s : State) (t : State)
    (h : execPcieLinkDown recovery s = .next t) : Alters [.grizzly, .hf, .regs, .fm] s t := by
  unfold execPcieLinkDown at h
  refine ran_only ?_ h
  repeat' first
    | with_reducible exact .refl _ _
    | assumption
    | with_unfolding_all decide
    | with_reducible refine .ite ?_ ?_
    | with_reducible refine .ite_snd ?_ ?_
    | with_reducible apply Alters.step (linkDown_only ..)
    | with_reducible refine .fold ?_ (fun _ _ => ?_)
    | split

theorem execPcieLinkL0_only (speed : Nat) (lanes : PcieLanes) (hostFlit : Bool) (s : State) (t : State)
    (h : execPcieLinkL0 speed lanes hostFlit s = .next t) : Alters [.power, .streams, .grizzly, .hf, .regs, .fm, .sent] s t := by
  unfold execPcieLinkL0 at h
  refine ran_only ?_ h
  repeat' first
    | with_reducible exact .refl _ _
    | assumption
    | with_unfolding_all decide
    | with_reducible refine .ite ?_ ?_
    | with_reducible refine .ite_snd ?_ ?_
    | with_reducible apply Alters.step (train_only ..)
    | with_reducible refine .fold ?_ (fun _ _ => ?_)
    | split

theorem execReadoutDone_only (s : State) (t : State)
    (h : execReadoutDone s = .next t) : Alters [.shaft, .grizzly] s t := by
  unfold execReadoutDone at h
  refine ran_only ?_ h
  repeat' first
    | ((conv => enter [3, 21]); refine .upd (fun p hp => by cases p <;> first | exact absurd ((Part.mem_bits ..).2 rfl) hp | dsimp only [Part.same]) ?_)
    | with_reducible exact .refl _ _
    | assumption
    | with_unfolding_all decide
    | with_reducible refine .ite ?_ ?_
    | with_reducible refine .ite_snd ?_ ?_
    | with_reducible apply Alters.step (onSegment_only ..)
    | with_reducible refine .fold ?_ (fun _ _ => ?_)
    | split
    | refine .upd (fun p hp => by cases p <;> first | exact absurd ((Part.mem_bits ..).2 rfl) hp | dsimp only [Part.same]) ?_

theorem execImageWrite_only (p : Producer) (ecc : EccRead) (headerBad : Bool) (s : State) (t : State)
    (h : execImageWrite p ecc headerBad s = .next t) : Alters [.power, .modes, .sv, .links, .xc, .seams, .streams, .grizzly, .hf, .regs, .fm, .sent] s t := by
  unfold execImageWrite at h
  refine ran_only ?_ h
  repeat' first
    | with_reducible exact .refl _ _
    | assumption
    | with_unfolding_all decide
    | with_reducible refine .ite ?_ ?_
    | with_reducible refine .ite_snd ?_ ?_
    | with_reducible apply Alters.step (writeReadout_only ..)
    | with_reducible apply Alters.step (writeAssay_only ..)
    | with_reducible apply Alters.step (writeClassA_only ..)
    | with_reducible refine .fold ?_ (fun _ _ => ?_)
    | split

theorem execCursorRecordWrite_only (ring : Fin 64) (s : State) (t : State)
    (h : execCursorRecordWrite ring s = .next t) : Alters [.power, .streams, .grizzly, .hf, .regs, .twin, .sent] s t := by
  unfold execCursorRecordWrite at h
  refine ran_only ?_ h
  repeat' first
    | with_reducible exact .refl _ _
    | assumption
    | with_unfolding_all decide
    | with_reducible refine .ite ?_ ?_
    | with_reducible refine .ite_snd ?_ ?_
    | with_reducible apply Alters.step (cursorWrite_only ..)
    | with_reducible refine .fold ?_ (fun _ _ => ?_)
    | split

theorem execEventQueueEntryWrite_only (s : State) (t : State)
    (h : execEventQueueEntryWrite s = .next t) : Alters [.power, .streams, .grizzly, .hf, .regs, .twin, .sent] s t := by
  unfold execEventQueueEntryWrite at h
  refine ran_only ?_ h
  repeat' first
    | ((conv => enter [3, 21]); refine .upd (fun p hp => by cases p <;> first | exact absurd ((Part.mem_bits ..).2 rfl) hp | dsimp only [Part.same]) ?_)
    | with_reducible exact .refl _ _
    | assumption
    | with_unfolding_all decide
    | with_reducible refine .ite ?_ ?_
    | with_reducible refine .ite_snd ?_ ?_
    | with_reducible apply Alters.step (putImage_only ..)
    | with_reducible apply Alters.step (cursorWrite_only ..)
    | with_reducible refine .fold ?_ (fun _ _ => ?_)
    | split
    | refine .upd (fun p hp => by cases p <;> first | exact absurd ((Part.mem_bits ..).2 rfl) hp | dsimp only [Part.same]) ?_

theorem execMsixDelayExpiry_only (ring : Fin 65) (s : State) (t : State)
    (h : execMsixDelayExpiry ring s = .next t) : Alters [.power, .grizzly, .hf, .sent] s t := by
  unfold execMsixDelayExpiry at h
  refine ran_only ?_ h
  repeat' first
    | with_reducible exact .refl _ _
    | assumption
    | with_unfolding_all decide
    | with_reducible refine .ite ?_ ?_
    | with_reducible refine .ite_snd ?_ ?_
    | with_reducible apply Alters.step (ringDue_only ..)
    | with_reducible refine .fold ?_ (fun _ _ => ?_)
    | split

theorem execRingEnable_only (ring : Fin 65) (s : State) (t : State)
    (h : execRingEnable ring s = .next t) : Alters [.streams, .hf, .regs, .twin, .sent] s t := by
  unfold execRingEnable at h
  refine ran_only ?_ h
  repeat' first
    | with_reducible exact .refl _ _
    | assumption
    | with_unfolding_all decide
    | with_reducible refine .ite ?_ ?_
    | with_reducible refine .ite_snd ?_ ?_
    | with_reducible apply Alters.step (ringEnable_only ..)
    | with_reducible refine .fold ?_ (fun _ _ => ?_)
    | split

theorem execRingDisable_only (ring : Fin 65) (s : State) (t : State)
    (h : execRingDisable ring s = .next t) : Alters [.power, .streams, .grizzly, .hf, .regs, .twin, .fm, .sent] s t := by
  unfold execRingDisable at h
  refine ran_only ?_ h
  repeat' first
    | with_reducible exact .refl _ _
    | assumption
    | with_unfolding_all decide
    | with_reducible refine .ite ?_ ?_
    | with_reducible refine .ite_snd ?_ ?_
    | with_reducible apply Alters.step (ringDisable_only ..)
    | with_reducible refine .fold ?_ (fun _ _ => ?_)
    | split

theorem execRingRdPosWrite_only (ring : Fin 65) (v : Word) (s : State) (t : State)
    (h : execRingRdPosWrite ring v s = .next t) : Alters [.grizzly, .hf, .regs, .twin, .fm, .sent] s t := by
  unfold execRingRdPosWrite at h
  refine ran_only ?_ h
  repeat' first
    | with_reducible exact .refl _ _
    | assumption
    | with_unfolding_all decide
    | with_reducible refine .ite ?_ ?_
    | with_reducible refine .ite_snd ?_ ?_
    | with_reducible apply Alters.step (rdPosWrite_only ..)
    | with_reducible refine .fold ?_ (fun _ _ => ?_)
    | split

theorem execSmjEnable_only (s : State) (t : State)
    (h : execSmjEnable s = .next t) : Alters [.smelter] s t := by
  unfold execSmjEnable at h
  refine ran_only ?_ h
  repeat' first
    | with_reducible exact .refl _ _
    | assumption
    | with_unfolding_all decide
    | with_reducible refine .ite ?_ ?_
    | with_reducible refine .ite_snd ?_ ?_
    | with_reducible apply Alters.step (smjEnable_only ..)
    | with_reducible refine .fold ?_ (fun _ _ => ?_)
    | split

theorem execSmjDisable_only (s : State) (t : State)
    (h : execSmjDisable s = .next t) : Alters [.smelter] s t := by
  unfold execSmjDisable at h
  refine ran_only ?_ h
  repeat' first
    | with_reducible exact .refl _ _
    | assumption
    | with_unfolding_all decide
    | with_reducible refine .ite ?_ ?_
    | with_reducible refine .ite_snd ?_ ?_
    | with_reducible apply Alters.step (smjDisable_only ..)
    | with_reducible refine .fold ?_ (fun _ _ => ?_)
    | split

theorem execSmjTailWrite_only (v : Word) (s : State) (t : State)
    (h : execSmjTailWrite v s = .next t) : Alters [.smelter] s t := by
  unfold execSmjTailWrite at h
  refine ran_only ?_ h
  repeat' first
    | with_reducible exact .refl _ _
    | assumption
    | with_unfolding_all decide
    | with_reducible refine .ite ?_ ?_
    | with_reducible refine .ite_snd ?_ ?_
    | with_reducible apply Alters.step (smjTail_only ..)
    | with_reducible refine .fold ?_ (fun _ _ => ?_)
    | split

theorem execSmjHaltedClear_only (s : State) (t : State)
    (h : execSmjHaltedClear s = .next t) : Alters [.smelter] s t := by
  unfold execSmjHaltedClear at h
  refine ran_only ?_ h
  repeat' first
    | with_reducible exact .refl _ _
    | assumption
    | with_unfolding_all decide
    | with_reducible refine .ite ?_ ?_
    | with_reducible refine .ite_snd ?_ ?_
    | with_reducible apply Alters.step (smjClear_only ..)
    | with_reducible refine .fold ?_ (fun _ _ => ?_)
    | split

theorem execJobDescriptorFetch_only (s : State) (t : State)
    (h : execJobDescriptorFetch s = .next t) : Alters [.power, .grizzly, .smelter, .hf, .sent] s t := by
  unfold execJobDescriptorFetch at h
  refine ran_only ?_ h
  repeat' first
    | with_reducible exact .refl _ _
    | assumption
    | with_unfolding_all decide
    | with_reducible refine .ite ?_ ?_
    | with_reducible refine .ite_snd ?_ ?_
    | with_reducible apply Alters.step (fetchJob_only ..)
    | with_reducible refine .fold ?_ (fun _ _ => ?_)
    | split

theorem execJobDescriptorReceive_only (data : Option (List Byte)) (s : State) (t : State)
    (h : execJobDescriptorReceive data s = .next t) : Alters [.power, .grizzly, .smelter, .hf, .regs, .sent] s t := by
  unfold execJobDescriptorReceive at h
  refine ran_only ?_ h
  repeat' first
    | with_reducible exact .refl _ _
    | assumption
    | with_unfolding_all decide
    | with_reducible refine .ite ?_ ?_
    | with_reducible refine .ite_snd ?_ ?_
    | with_reducible apply Alters.step (dropTag_only ..)
    | with_reducible apply Alters.step (takeDescriptor_only ..)
    | with_reducible refine .fold ?_ (fun _ _ => ?_)
    | split

theorem execJobStart_only (s : State) (t : State)
    (h : execJobStart s = .next t) : Alters [.power, .grizzly, .smelter, .hf, .regs, .sent] s t := by
  unfold execJobStart at h
  refine ran_only ?_ h
  repeat' first
    | with_reducible exact .refl _ _
    | assumption
    | with_unfolding_all decide
    | with_reducible refine .ite ?_ ?_
    | with_reducible refine .ite_snd ?_ ?_
    | with_reducible apply Alters.step (startJob_only ..)
    | with_reducible refine .fold ?_ (fun _ _ => ?_)
    | split

theorem execJobComplete_only (engine : Fin 16) (slot : Nat) (s : State) (t : State)
    (h : execJobComplete engine slot s = .next t) : Alters [.power, .grizzly, .smelter, .hf, .regs, .sent] s t := by
  unfold execJobComplete at h
  refine ran_only ?_ h
  repeat' first
    | with_reducible exact .refl _ _
    | assumption
    | with_unfolding_all decide
    | with_reducible refine .ite ?_ ?_
    | with_reducible refine .ite_snd ?_ ?_
    | with_reducible apply Alters.step (jobComplete_only ..)
    | with_reducible refine .fold ?_ (fun _ _ => ?_)
    | split

theorem execCompletionReceive_only (tag : Nat) (st : CplStatus) (data : List Byte) (s : State) (t : State)
    (h : execCompletionReceive tag st data s = .next t) : Alters [.power, .grizzly, .smelter, .hf, .regs, .sent] s t := by
  unfold execCompletionReceive at h
  refine ran_only ?_ h
  repeat' first
    | with_reducible exact .refl _ _
    | assumption
    | with_unfolding_all decide
    | with_reducible refine .ite ?_ ?_
    | with_reducible refine .ite_snd ?_ ?_
    | with_reducible apply Alters.step (completion_only ..)
    | with_reducible refine .fold ?_ (fun _ _ => ?_)
    | split

theorem execCompletionTimeout_only (tag : Nat) (s : State) (t : State)
    (h : execCompletionTimeout tag s = .next t) : Alters [.power, .grizzly, .smelter, .hf, .regs, .sent] s t := by
  unfold execCompletionTimeout at h
  refine ran_only ?_ h
  repeat' first
    | with_reducible exact .refl _ _
    | assumption
    | with_unfolding_all decide
    | with_reducible refine .ite ?_ ?_
    | with_reducible refine .ite_snd ?_ ?_
    | with_reducible apply Alters.step (markTimedOut_only ..)
    | with_reducible apply Alters.step (aerError_only ..)
    | with_reducible apply Alters.step (requestEnds_only ..)
    | with_reducible refine .fold ?_ (fun _ _ => ?_)
    | split

theorem execTagRelease_only (tag : Nat) (s : State) (t : State)
    (h : execTagRelease tag s = .next t) : Alters [.hf] s t := by
  unfold execTagRelease at h
  refine ran_only ?_ h
  repeat' first
    | ((conv => enter [3, 21]); refine .upd (fun p hp => by cases p <;> first | exact absurd ((Part.mem_bits ..).2 rfl) hp | dsimp only [Part.same]) ?_)
    | with_reducible exact .refl _ _
    | assumption
    | with_unfolding_all decide
    | with_reducible refine .ite ?_ ?_
    | with_reducible refine .ite_snd ?_ ?_
    | with_reducible refine .fold ?_ (fun _ _ => ?_)
    | split
    | refine .upd (fun p hp => by cases p <;> first | exact absurd ((Part.mem_bits ..).2 rfl) hp | dsimp only [Part.same]) ?_

theorem execMarkOutAssert_only (n : Fin 8) (s : State) (t : State)
    (h : execMarkOutAssert n s = .next t) : Alters [.shaft, .sent] s t := by
  unfold execMarkOutAssert at h
  refine ran_only ?_ h
  repeat' first
    | with_reducible exact .refl _ _
    | assumption
    | with_unfolding_all decide
    | with_reducible refine .ite ?_ ?_
    | with_reducible refine .ite_snd ?_ ?_
    | with_reducible apply Alters.step (markOutAssert_only ..)
    | with_reducible refine .fold ?_ (fun _ _ => ?_)
    | split

theorem execMarkOutPulseEnd_only (n : Fin 8) (s : State) (t : State)
    (h : execMarkOutPulseEnd n s = .next t) : Alters [.shaft, .sent] s t := by
  unfold execMarkOutPulseEnd at h
  refine ran_only ?_ h
  repeat' first
    | with_reducible exact .refl _ _
    | assumption
    | with_unfolding_all decide
    | with_reducible refine .ite ?_ ?_
    | with_reducible refine .ite_snd ?_ ?_
    | with_reducible apply Alters.step (markOutEnd_only ..)
    | with_reducible refine .fold ?_ (fun _ _ => ?_)
    | split

theorem execShaftDecision_only (s : State) (t : State)
    (h : execShaftDecision s = .next t) : Alters [.closing, .shaft] s t := by
  unfold execShaftDecision at h
  refine ran_only ?_ h
  repeat' first
    | with_reducible exact .refl _ _
    | assumption
    | with_unfolding_all decide
    | with_reducible refine .ite ?_ ?_
    | with_reducible refine .ite_snd ?_ ?_
    | with_reducible apply Alters.step (shaftDecision_only ..)
    | with_reducible refine .fold ?_ (fun _ _ => ?_)
    | split

theorem execExtLineCrossing_only (line : Fin 40) (taps : BitVec 64) (nextTap : Bool) (s : State) (t : State)
    (h : execExtLineCrossing line taps nextTap s = .next t) : Alters [.shaft] s t := by
  unfold execExtLineCrossing at h
  refine ran_only ?_ h
  repeat' first
    | with_reducible exact .refl _ _
    | assumption
    | with_unfolding_all decide
    | with_reducible refine .ite ?_ ?_
    | with_reducible refine .ite_snd ?_ ?_
    | with_reducible apply Alters.step (lineTaps_only ..)
    | with_reducible refine .fold ?_ (fun _ _ => ?_)
    | split

theorem execLineStuck_only (line : Fin 40) (s : State) (t : State)
    (h : execLineStuck line s = .next t) : Alters [.shaft, .grizzly, .regs, .fm] s t := by
  unfold execLineStuck at h
  refine ran_only ?_ h
  repeat' first
    | with_reducible exact .refl _ _
    | assumption
    | with_unfolding_all decide
    | with_reducible refine .ite ?_ ?_
    | with_reducible refine .ite_snd ?_ ?_
    | with_reducible apply Alters.step (lineStuck_only ..)
    | with_reducible refine .fold ?_ (fun _ _ => ?_)
    | split

theorem execFlagInputAccept_only (n : Fin 16) (level : Bool) (s : State) (t : State)
    (h : execFlagInputAccept n level s = .next t) : Alters [.shaft, .twin] s t := by
  unfold execFlagInputAccept at h
  refine ran_only ?_ h
  repeat' first
    | with_reducible exact .refl _ _
    | assumption
    | with_unfolding_all decide
    | with_reducible refine .ite ?_ ?_
    | with_reducible refine .ite_snd ?_ ?_
    | with_reducible apply Alters.step (flagInput_only ..)
    | with_reducible refine .fold ?_ (fun _ _ => ?_)
    | split

theorem execAssayResultClose_only (k : Fin 32) (s : State) (t : State)
    (h : execAssayResultClose k s = .next t) : Alters [.seams, .grizzly, .slots, .regs, .fm, .free] s t := by
  unfold execAssayResultClose at h
  refine ran_only ?_ h
  repeat' first
    | with_reducible exact .refl _ _
    | assumption
    | with_unfolding_all decide
    | with_reducible refine .ite ?_ ?_
    | with_reducible refine .ite_snd ?_ ?_
    | with_reducible apply Alters.step (assayBoundary_only ..)
    | with_reducible refine .fold ?_ (fun _ _ => ?_)
    | split

theorem execAssayResultEnqueue_only (k : Fin 32) (s : State) (t : State)
    (h : execAssayResultEnqueue k s = .next t) : Alters [.seams, .grizzly, .slots, .regs, .fm, .free] s t := by
  unfold execAssayResultEnqueue at h
  refine ran_only ?_ h
  repeat' first
    | with_reducible exact .refl _ _
    | assumption
    | with_unfolding_all decide
    | with_reducible refine .ite ?_ ?_
    | with_reducible refine .ite_snd ?_ ?_
    | with_reducible apply Alters.step (enqueueResult_only ..)
    | with_reducible refine .fold ?_ (fun _ _ => ?_)
    | split

theorem execClaimRead_only (m : Master) (i : Fin 16) (zeroLength : Bool) (s : State) (t : State)
    (h : execClaimRead m i zeroLength s = .next t) : Alters [.regs, .sent] s t := by
  unfold execClaimRead at h
  refine ran_only ?_ h
  repeat' first
    | with_reducible exact .refl _ _
    | assumption
    | with_unfolding_all decide
    | with_reducible refine .ite ?_ ?_
    | with_reducible refine .ite_snd ?_ ?_
    | with_reducible apply Alters.step (readClaim_only ..)
    | with_reducible apply Alters.step (send_only ..)
    | with_reducible refine .fold ?_ (fun _ _ => ?_)
    | split

theorem execClaimRelease_only (m : Master) (i : Fin 16) (owner : BitVec 4) (s : State) (t : State)
    (h : execClaimRelease m i owner s = .next t) : Alters [.regs] s t := by
  unfold execClaimRelease at h
  refine ran_only ?_ h
  repeat' first
    | with_reducible exact .refl _ _
    | assumption
    | with_unfolding_all decide
    | with_reducible refine .ite ?_ ?_
    | with_reducible refine .ite_snd ?_ ?_
    | with_reducible apply Alters.step (writeClaim_only ..)
    | with_reducible refine .fold ?_ (fun _ _ => ?_)
    | split

theorem execClaimForceRelease_only (i : Fin 16) (s : State) (t : State)
    (h : execClaimForceRelease i s = .next t) : Alters [.regs] s t := by
  unfold execClaimForceRelease at h
  refine ran_only ?_ h
  repeat' first
    | with_reducible exact .refl _ _
    | assumption
    | with_unfolding_all decide
    | with_reducible refine .ite ?_ ?_
    | with_reducible refine .ite_snd ?_ ?_
    | with_reducible apply Alters.step (freeClaim_only ..)
    | with_reducible refine .fold ?_ (fun _ _ => ?_)
    | split

theorem execVoteMismatch_only (f : VotedField) (c0 c1 c2 : Nat) (s : State) (t : State)
    (h : execVoteMismatch f c0 c1 c2 s = .next t) : Alters [.modes, .sv, .links, .xc, .seams, .grizzly, .regs, .twin, .fm] s t := by
  unfold execVoteMismatch at h
  refine ran_only ?_ h
  repeat' first
    | with_reducible exact .refl _ _
    | assumption
    | with_unfolding_all decide
    | with_reducible refine .ite ?_ ?_
    | with_reducible refine .ite_snd ?_ ?_
    | with_reducible apply Alters.step (voteMismatch_only ..)
    | with_reducible refine .fold ?_ (fun _ _ => ?_)
    | split

theorem execBellRaise_only (side : CageSide) (mask : Word) (s : State) (t : State)
    (h : execBellRaise side mask s = .next t) : Alters [.power, .grizzly, .hf, .regs, .sent] s t := by
  unfold execBellRaise at h
  refine ran_only ?_ h
  repeat' first
    | with_reducible exact .refl _ _
    | assumption
    | with_unfolding_all decide
    | with_reducible refine .ite ?_ ?_
    | with_reducible refine .ite_snd ?_ ?_
    | with_reducible apply Alters.step (bellRaise_only ..)
    | with_reducible refine .fold ?_ (fun _ _ => ?_)
    | split

theorem execBellClear_only (side : CageSide) (mask : Word) (s : State) (t : State)
    (h : execBellClear side mask s = .next t) : Alters [.regs] s t := by
  unfold execBellClear at h
  refine ran_only ?_ h
  repeat' first
    | with_reducible exact .refl _ _
    | assumption
    | with_unfolding_all decide
    | with_reducible refine .ite ?_ ?_
    | with_reducible refine .ite_snd ?_ ?_
    | with_reducible apply Alters.step (bellClear_only ..)
    | with_reducible refine .fold ?_ (fun _ _ => ?_)
    | split

theorem execBellMaskWrite_only (side : CageSide) (mask : Word) (s : State) (t : State)
    (h : execBellMaskWrite side mask s = .next t) : Alters [.power, .grizzly, .hf, .regs, .sent] s t := by
  unfold execBellMaskWrite at h
  refine ran_only ?_ h
  repeat' first
    | with_reducible exact .refl _ _
    | assumption
    | with_unfolding_all decide
    | with_reducible refine .ite ?_ ?_
    | with_reducible refine .ite_snd ?_ ?_
    | with_reducible apply Alters.step (bellMask_only ..)
    | with_reducible refine .fold ?_ (fun _ _ => ?_)
    | split

theorem execCageSend_only (side : CageSide) (s : State) (t : State)
    (h : execCageSend side s = .next t) : Alters [.power, .grizzly, .hf, .regs, .sent] s t := by
  unfold execCageSend at h
  refine ran_only ?_ h
  repeat' first
    | with_reducible exact .refl _ _
    | assumption
    | with_unfolding_all decide
    | with_reducible refine .ite ?_ ?_
    | with_reducible refine .ite_snd ?_ ?_
    | with_reducible apply Alters.step (cageSend_only ..)
    | with_reducible refine .fold ?_ (fun _ _ => ?_)
    | split

theorem execCagePop_only (side : CageSide) (s : State) (t : State)
    (h : execCagePop side s = .next t) : Alters [.power, .grizzly, .hf, .regs, .sent] s t := by
  unfold execCagePop at h
  refine ran_only ?_ h
  repeat' first
    | with_reducible exact .refl _ _
    | assumption
    | with_unfolding_all decide
    | with_reducible refine .ite ?_ ?_
    | with_reducible refine .ite_snd ?_ ?_
    | with_reducible apply Alters.step (cagePop_only ..)
    | with_reducible refine .fold ?_ (fun _ _ => ?_)
    | split

theorem execSkipFlush_only (k : SkipId) (writing reading : Bool) (s : State) (t : State)
    (h : execSkipFlush k writing reading s = .next t) : Alters [.smelter, .regs] s t := by
  unfold execSkipFlush at h
  refine ran_only ?_ h
  repeat' first
    | with_reducible exact .refl _ _
    | assumption
    | with_unfolding_all decide
    | with_reducible refine .ite ?_ ?_
    | with_reducible refine .ite_snd ?_ ?_
    | with_reducible apply Alters.step (skipFlush_only ..)
    | with_reducible refine .fold ?_ (fun _ _ => ?_)
    | split

theorem execSkipPointerMismatch_only (k : SkipId) (writing reading : Bool) (s : State) (t : State)
    (h : execSkipPointerMismatch k writing reading s = .next t) : Alters [.modes, .sv, .links, .xc, .seams, .grizzly, .smelter, .regs, .fm] s t := by
  unfold execSkipPointerMismatch at h
  refine ran_only ?_ h
  repeat' first
    | with_reducible exact .refl _ _
    | assumption
    | with_unfolding_all decide
    | with_reducible refine .ite ?_ ?_
    | with_reducible refine .ite_snd ?_ ?_
    | with_reducible apply Alters.step (skipMismatch_only ..)
    | with_reducible refine .fold ?_ (fun _ _ => ?_)
    | split

theorem execBusMasterClear_only (s : State) (t : State)
    (h : execBusMasterClear s = .next t) : Alters [.grizzly, .smelter, .hf, .regs, .fm] s t := by
  unfold execBusMasterClear at h
  refine ran_only ?_ h
  repeat' first
    | ((conv => enter [3, 21]); refine .upd (fun p hp => by cases p <;> first | exact absurd ((Part.mem_bits ..).2 rfl) hp | dsimp only [Part.same]) ?_)
    | with_reducible exact .refl _ _
    | assumption
    | with_unfolding_all decide
    | with_reducible refine .ite ?_ ?_
    | with_reducible refine .ite_snd ?_ ?_
    | with_reducible apply Alters.step (busGoes_only ..)
    | with_reducible refine .fold ?_ (fun _ _ => ?_)
    | split
    | refine .upd (fun p hp => by cases p <;> first | exact absurd ((Part.mem_bits ..).2 rfl) hp | dsimp only [Part.same]) ?_

theorem execBusMasterSet_only (s : State) (t : State)
    (h : execBusMasterSet s = .next t) : Alters [.power, .streams, .grizzly, .smelter, .hf, .regs, .sent] s t := by
  unfold execBusMasterSet at h
  refine ran_only ?_ h
  repeat' first
    | ((conv => enter [3, 21]); refine .upd (fun p hp => by cases p <;> first | exact absurd ((Part.mem_bits ..).2 rfl) hp | dsimp only [Part.same]) ?_)
    | with_reducible exact .refl _ _
    | assumption
    | with_unfolding_all decide
    | with_reducible refine .ite ?_ ?_
    | with_reducible refine .ite_snd ?_ ?_
    | with_reducible apply Alters.step (busReturns_only ..)
    | with_reducible refine .fold ?_ (fun _ _ => ?_)
    | split
    | refine .upd (fun p hp => by cases p <;> first | exact absurd ((Part.mem_bits ..).2 rfl) hp | dsimp only [Part.same]) ?_

theorem execD3hotEntry_only (s : State) (t : State)
    (h : execD3hotEntry s = .next t) : Alters [.grizzly, .smelter, .hf, .regs, .fm] s t := by
  unfold execD3hotEntry at h
  refine ran_only ?_ h
  repeat' first
    | ((conv => enter [3, 21]); refine .upd (fun p hp => by cases p <;> first | exact absurd ((Part.mem_bits ..).2 rfl) hp | dsimp only [Part.same]) ?_)
    | with_reducible exact .refl _ _
    | assumption
    | with_unfolding_all decide
    | with_reducible refine .ite ?_ ?_
    | with_reducible refine .ite_snd ?_ ?_
    | with_reducible apply Alters.step (busGoes_only ..)
    | with_reducible refine .fold ?_ (fun _ _ => ?_)
    | split
    | refine .upd (fun p hp => by cases p <;> first | exact absurd ((Part.mem_bits ..).2 rfl) hp | dsimp only [Part.same]) ?_

theorem execD0Return_only (s : State) (t : State)
    (h : execD0Return s = .next t) : Alters [.power, .streams, .grizzly, .smelter, .hf, .regs, .sent] s t := by
  unfold execD0Return at h
  refine ran_only ?_ h
  repeat' first
    | ((conv => enter [3, 21]); refine .upd (fun p hp => by cases p <;> first | exact absurd ((Part.mem_bits ..).2 rfl) hp | dsimp only [Part.same]) ?_)
    | with_reducible exact .refl _ _
    | assumption
    | with_unfolding_all decide
    | with_reducible refine .ite ?_ ?_
    | with_reducible refine .ite_snd ?_ ?_
    | with_reducible apply Alters.step (busReturns_only ..)
    | with_reducible refine .fold ?_ (fun _ _ => ?_)
    | split
    | refine .upd (fun p hp => by cases p <;> first | exact absurd ((Part.mem_bits ..).2 rfl) hp | dsimp only [Part.same]) ?_

theorem execMemorySpaceDisable_only (fn : Fn) (s : State) (t : State)
    (h : execMemorySpaceDisable fn s = .next t) : Alters [.hf] s t := by
  unfold execMemorySpaceDisable at h
  refine ran_only ?_ h
  repeat' first
    | with_reducible exact .refl _ _
    | assumption
    | with_unfolding_all decide
    | with_reducible refine .ite ?_ ?_
    | with_reducible refine .ite_snd ?_ ?_
    | with_reducible apply Alters.step (onFnCfg_only ..)
    | with_reducible refine .fold ?_ (fun _ _ => ?_)
    | split

theorem execSecureSessionTimeout_only (k : Fin 8) (s : State) (t : State)
    (h : execSecureSessionTimeout k s = .next t) : Alters [.dict, .twin] s t := by
  unfold execSecureSessionTimeout at h
  refine ran_only ?_ h
  repeat' first
    | ((conv => enter [3, 21]); refine .upd (fun p hp => by cases p <;> first | exact absurd ((Part.mem_bits ..).2 rfl) hp | dsimp only [Part.same]) ?_)
    | with_reducible exact .refl _ _
    | assumption
    | with_unfolding_all decide
    | with_reducible refine .ite ?_ ?_
    | with_reducible refine .ite_snd ?_ ?_
    | with_reducible apply Alters.step (forgetSlots_only ..)
    | with_reducible refine .fold ?_ (fun _ _ => ?_)
    | split
    | refine .upd (fun p hp => by cases p <;> first | exact absurd ((Part.mem_bits ..).2 rfl) hp | dsimp only [Part.same]) ?_

theorem execFunctionLevelResetPf0_only (s : State) (t : State)
    (h : execFunctionLevelResetPf0 s = .next t) : Alters [.power, .streams, .grizzly, .smelter, .hf, .dict, .regs, .twin, .fm, .sent] s t := by
  unfold execFunctionLevelResetPf0 at h
  refine ran_only ?_ h
  repeat' first
    | with_reducible exact .refl _ _
    | assumption
    | with_unfolding_all decide
    | with_reducible refine .ite ?_ ?_
    | with_reducible refine .ite_snd ?_ ?_
    | with_reducible apply Alters.step (resetPf0_only ..)
    | with_reducible refine .fold ?_ (fun _ _ => ?_)
    | split

theorem execFunctionLevelResetPf1_only (s : State) (t : State)
    (h : execFunctionLevelResetPf1 s = .next t) : Alters [.power, .grizzly, .hf, .dict, .regs, .twin, .sent] s t := by
  unfold execFunctionLevelResetPf1 at h
  refine ran_only ?_ h
  repeat' first
    | with_reducible exact .refl _ _
    | assumption
    | with_unfolding_all decide
    | with_reducible refine .ite ?_ ?_
    | with_reducible refine .ite_snd ?_ ?_
    | with_reducible apply Alters.step (resetPf1_only ..)
    | with_reducible refine .fold ?_ (fun _ _ => ?_)
    | split

theorem execPerstNAssert_only (periods : Nat) (s : State) (t : State)
    (h : execPerstNAssert periods s = .next t) : Alters [.power, .streams, .grizzly, .smelter, .hf, .dict, .regs, .twin, .fm, .sent] s t := by
  unfold execPerstNAssert at h
  refine ran_only ?_ h
  repeat' first
    | ((conv => enter [3, 21]); refine .upd (fun p hp => by cases p <;> first | exact absurd ((Part.mem_bits ..).2 rfl) hp | dsimp only [Part.same]) ?_)
    | with_reducible exact .refl _ _
    | assumption
    | with_unfolding_all decide
    | with_reducible refine .ite ?_ ?_
    | with_reducible refine .ite_snd ?_ ?_
    | with_reducible apply Alters.step (holdCages_only ..)
    | with_reducible apply Alters.step (fundamental_only ..)
    | with_reducible refine .fold ?_ (fun _ _ => ?_)
    | split
    | refine .upd (fun p hp => by cases p <;> first | exact absurd ((Part.mem_bits ..).2 rfl) hp | dsimp only [Part.same]) ?_

theorem execPerstNRelease_only (s : State) (t : State)
    (h : execPerstNRelease s = .next t) : Alters [.power, .regs] s t := by
  unfold execPerstNRelease at h
  refine ran_only ?_ h
  repeat' first
    | ((conv => enter [3, 21]); refine .upd (fun p hp => by cases p <;> first | exact absurd ((Part.mem_bits ..).2 rfl) hp | dsimp only [Part.same]) ?_)
    | with_reducible exact .refl _ _
    | assumption
    | with_unfolding_all decide
    | with_reducible refine .ite ?_ ?_
    | with_reducible refine .ite_snd ?_ ?_
    | with_reducible apply Alters.step (holdCages_only ..)
    | with_reducible refine .fold ?_ (fun _ _ => ?_)
    | split
    | refine .upd (fun p hp => by cases p <;> first | exact absurd ((Part.mem_bits ..).2 rfl) hp | dsimp only [Part.same]) ?_

theorem execDlDown_only (s : State) (t : State)
    (h : execDlDown s = .next t) : Alters [.power, .streams, .grizzly, .smelter, .hf, .dict, .regs, .twin, .fm, .sent] s t := by
  unfold execDlDown at h
  refine ran_only ?_ h
  repeat' first
    | with_reducible exact .refl _ _
    | assumption
    | with_unfolding_all decide
    | with_reducible refine .ite ?_ ?_
    | with_reducible refine .ite_snd ?_ ?_
    | with_reducible apply Alters.step (fundamental_only ..)
    | with_reducible refine .fold ?_ (fun _ _ => ?_)
    | split

theorem execConfigRequest_only (r : ConfigAccess) (s : State) (t : State)
    (h : execConfigRequest r s = .next t) : Alters [.power, .streams, .grizzly, .smelter, .hf, .dict, .regs, .twin, .fm, .sent] s t := by
  unfold execConfigRequest at h
  refine ran_only ?_ h
  repeat' first
    | with_reducible exact .refl _ _
    | assumption
    | with_unfolding_all decide
    | with_reducible refine .ite ?_ ?_
    | with_reducible refine .ite_snd ?_ ?_
    | with_reducible apply Alters.step (configRequest_only ..)
    | with_reducible refine .fold ?_ (fun _ _ => ?_)
    | split

theorem execIdeKeyProgram_only (k : Fin 4) (p : IdeProgram) (session : Bool) (s : State) (t : State)
    (h : execIdeKeyProgram k p session s = .next t) : Alters [.power, .grizzly, .hf, .sent] s t := by
  unfold execIdeKeyProgram at h
  refine ran_only ?_ h
  repeat' first
    | with_reducible exact .refl _ _
    | assumption
    | with_unfolding_all decide
    | with_reducible refine .ite ?_ ?_
    | with_reducible refine .ite_snd ?_ ?_
    | with_reducible apply Alters.step (programIde_only ..)
    | with_reducible refine .fold ?_ (fun _ _ => ?_)
    | split

theorem execIdeStreamLost_only (k : Fin 4) (s : State) (t : State)
    (h : execIdeStreamLost k s = .next t) : Alters [.grizzly, .hf, .dict, .regs, .twin, .fm] s t := by
  unfold execIdeStreamLost at h
  refine ran_only ?_ h
  repeat' first
    | with_reducible exact .refl _ _
    | assumption
    | with_unfolding_all decide
    | with_reducible refine .ite ?_ ?_
    | with_reducible refine .ite_snd ?_ ?_
    | with_reducible apply Alters.step (ideLost_only ..)
    | with_reducible refine .fold ?_ (fun _ _ => ?_)
    | split

theorem execAspmL1Entry_only (s : State) (t : State)
    (h : execAspmL1Entry s = .next t) : Alters [.power, .grizzly, .hf, .regs, .fm] s t := by
  unfold execAspmL1Entry at h
  refine ran_only ?_ h
  repeat' first
    | with_reducible exact .refl _ _
    | assumption
    | with_unfolding_all decide
    | with_reducible refine .ite ?_ ?_
    | with_reducible refine .ite_snd ?_ ?_
    | with_reducible apply Alters.step (enterL1_only ..)
    | with_reducible refine .fold ?_ (fun _ _ => ?_)
    | split

theorem execL0pRequest_only (width : Nat) (s : State) (t : State)
    (h : execL0pRequest width s = .next t) : Alters [.hf, .sent] s t := by
  unfold execL0pRequest at h
  refine ran_only ?_ h
  repeat' first
    | with_reducible exact .refl _ _
    | assumption
    | with_unfolding_all decide
    | with_reducible refine .ite ?_ ?_
    | with_reducible refine .ite_snd ?_ ?_
    | with_reducible apply Alters.step (send_only ..)
    | with_reducible apply Alters.step (takeL0p_only ..)
    | with_reducible refine .fold ?_ (fun _ _ => ?_)
    | split

theorem execL0pDeviceRequest_only (width : Nat) (s : State) (t : State)
    (h : execL0pDeviceRequest width s = .next t) : Alters [.hf, .sent] s t := by
  unfold execL0pDeviceRequest at h
  refine ran_only ?_ h
  repeat' first
    | with_reducible exact .refl _ _
    | assumption
    | with_unfolding_all decide
    | with_reducible refine .ite ?_ ?_
    | with_reducible refine .ite_snd ?_ ?_
    | with_reducible apply Alters.step (takeL0p_only ..)
    | with_reducible refine .fold ?_ (fun _ _ => ?_)
    | split

theorem execUseReserveCommit_only (ok : Bool) (s : State) (t : State)
    (h : execUseReserveCommit ok s = .next t) : Alters [.fm, .nv] s t := by
  unfold execUseReserveCommit at h
  refine ran_only ?_ h
  repeat' first
    | ((conv => enter [3, 21]); refine .upd (fun p hp => by cases p <;> first | exact absurd ((Part.mem_bits ..).2 rfl) hp | dsimp only [Part.same]) ?_)
    | with_reducible exact .refl _ _
    | assumption
    | with_unfolding_all decide
    | with_reducible refine .ite ?_ ?_
    | with_reducible refine .ite_snd ?_ ?_
    | with_reducible refine .fold ?_ (fun _ _ => ?_)
    | split
    | refine .upd (fun p hp => by cases p <;> first | exact absurd ((Part.mem_bits ..).2 rfl) hp | dsimp only [Part.same]) ?_

theorem execUpdateCommitDone_only (ok : Bool) (s : State) (t : State)
    (h : execUpdateCommitDone ok s = .next t) : Alters [.fm, .nv] s t := by
  unfold execUpdateCommitDone at h
  refine ran_only ?_ h
  repeat' first
    | ((conv => enter [3, 21]); refine .upd (fun p hp => by cases p <;> first | exact absurd ((Part.mem_bits ..).2 rfl) hp | dsimp only [Part.same]) ?_)
    | with_reducible exact .refl _ _
    | assumption
    | with_unfolding_all decide
    | with_reducible refine .ite ?_ ?_
    | with_reducible refine .ite_snd ?_ ?_
    | with_reducible apply Alters.step (onStagedSlot_only ..)
    | with_reducible refine .fold ?_ (fun _ _ => ?_)
    | split
    | refine .upd (fun p hp => by cases p <;> first | exact absurd ((Part.mem_bits ..).2 rfl) hp | dsimp only [Part.same]) ?_

theorem execReadyDeadline_only (missing : BitVec 11) (s : State) (t : State)
    (h : execReadyDeadline missing s = .next t) : Alters [.modes, .grizzly, .regs, .twin, .fm, .sent] s t := by
  unfold execReadyDeadline at h
  refine ran_only ?_ h
  repeat' first
    | with_reducible exact .refl _ _
    | assumption
    | with_unfolding_all decide
    | with_reducible refine .ite ?_ ?_
    | with_reducible refine .ite_snd ?_ ?_
    | with_reducible apply Alters.step (deadline_only ..)
    | with_reducible refine .fold ?_ (fun _ _ => ?_)
    | split

theorem execEpochInstant_only (s : State) (t : State)
    (h : execEpochInstant s = .next t) : Alters [.power, .modes, .sv, .links, .xc, .seams, .closing, .streams, .shaft, .grizzly, .smelter, .slots, .hf, .dict, .regs, .twin, .fm, .sent, .free] s t := by
  unfold execEpochInstant at h
  refine ran_only ?_ h
  repeat' first
    | with_reducible exact .refl _ _
    | assumption
    | with_unfolding_all decide
    | with_reducible refine .ite ?_ ?_
    | with_reducible refine .ite_snd ?_ ?_
    | with_reducible apply Alters.step (epochInstant_only ..)
    | with_reducible refine .fold ?_ (fun _ _ => ?_)
    | split

theorem execApplyCheckEnd_only (failed : BitVec 11) (s : State) (t : State)
    (h : execApplyCheckEnd failed s = .next t) : Alters [.modes, .shaft, .regs, .twin, .sent] s t := by
  unfold execApplyCheckEnd at h
  refine ran_only ?_ h
  repeat' first
    | with_reducible exact .refl _ _
    | assumption
    | with_unfolding_all decide
    | with_reducible refine .ite ?_ ?_
    | with_reducible refine .ite_snd ?_ ?_
    | with_reducible apply Alters.step (checkEnds_only ..)
    | with_reducible refine .fold ?_ (fun _ _ => ?_)
    | split

theorem execRollbackEpoch_only (failed : BitVec 11) (s : State) (t : State)
    (h : execRollbackEpoch failed s = .next t) : Alters [.power, .modes, .sv, .links, .xc, .seams, .closing, .streams, .shaft, .grizzly, .smelter, .slots, .hf, .dict, .regs, .twin, .fm, .sent, .free] s t := by
  unfold execRollbackEpoch at h
  refine ran_only ?_ h
  repeat' first
    | with_reducible exact .refl _ _
    | assumption
    | with_unfolding_all decide
    | with_reducible refine .ite ?_ ?_
    | with_reducible refine .ite_snd ?_ ?_
    | with_reducible apply Alters.step (rollBack_only ..)
    | with_reducible refine .fold ?_ (fun _ _ => ?_)
    | split

theorem execForcedEpoch_only (s : State) (t : State)
    (h : execForcedEpoch s = .next t) : Alters [.power, .modes, .sv, .links, .xc, .seams, .closing, .streams, .shaft, .grizzly, .smelter, .slots, .hf, .dict, .regs, .twin, .fm, .sent, .free] s t := by
  unfold execForcedEpoch at h
  refine ran_only ?_ h
  repeat' first
    | with_reducible exact .refl _ _
    | assumption
    | with_unfolding_all decide
    | with_reducible refine .ite ?_ ?_
    | with_reducible refine .ite_snd ?_ ?_
    | with_reducible apply Alters.step (forcedEpoch_only ..)
    | with_reducible refine .fold ?_ (fun _ _ => ?_)
    | split

theorem execReadyEntry_only (missing : BitVec 11) (s : State) (t : State)
    (h : execReadyEntry missing s = .next t) : Alters [.power, .modes, .sv, .links, .xc, .seams, .closing, .shaft, .grizzly, .smelter, .hf, .dict, .regs, .twin, .fm, .sent] s t := by
  unfold execReadyEntry at h
  refine ran_only ?_ h
  repeat' first
    | with_reducible exact .refl _ _
    | assumption
    | with_unfolding_all decide
    | with_reducible refine .ite ?_ ?_
    | with_reducible refine .ite_snd ?_ ?_
    | with_reducible apply Alters.step (abortEntry_only ..)
    | with_reducible apply Alters.step (enterReady_only ..)
    | with_reducible refine .fold ?_ (fun _ _ => ?_)
    | split

theorem execFabricPowerUpDone_only (ok : Bool) (rcalOhms : Nat) (s : State) (t : State)
    (h : execFabricPowerUpDone ok rcalOhms s = .next t) : Alters [.power, .modes, .sv, .links, .xc, .seams, .closing, .shaft, .grizzly, .smelter, .regs, .twin, .fm] s t := by
  unfold execFabricPowerUpDone at h
  refine ran_only ?_ h
  repeat' first
    | ((conv => enter [3, 21]); refine .upd (fun p hp => by cases p <;> first | exact absurd ((Part.mem_bits ..).2 rfl) hp | dsimp only [Part.same]) ?_)
    | with_reducible exact .refl _ _
    | assumption
    | with_unfolding_all decide
    | with_reducible refine .ite ?_ ?_
    | with_reducible refine .ite_snd ?_ ?_
    | with_reducible apply Alters.step (onEntry_only ..)
    | with_reducible apply Alters.step (readFlags_only ..)
    | with_reducible apply Alters.step (dropCondition_only ..)
    | with_reducible apply Alters.step (bringUpLinks_only ..)
    | with_reducible apply Alters.step (measureRcal_only ..)
    | with_reducible apply Alters.step (entryFails_only ..)
    | with_reducible refine .fold ?_ (fun _ _ => ?_)
    | split
    | refine .upd (fun p hp => by cases p <;> first | exact absurd ((Part.mem_bits ..).2 rfl) hp | dsimp only [Part.same]) ?_

theorem execHbmTrainingDone_only (ok : Bool) (s : State) (t : State)
    (h : execHbmTrainingDone ok s = .next t) : Alters [.power, .modes, .sv, .links, .xc, .seams, .closing, .shaft, .grizzly, .smelter, .regs, .twin, .fm] s t := by
  unfold execHbmTrainingDone at h
  refine ran_only ?_ h
  repeat' first
    | ((conv => enter [3, 21]); refine .upd (fun p hp => by cases p <;> first | exact absurd ((Part.mem_bits ..).2 rfl) hp | dsimp only [Part.same]) ?_)
    | with_reducible exact .refl _ _
    | assumption
    | with_unfolding_all decide
    | with_reducible refine .ite ?_ ?_
    | with_reducible refine .ite_snd ?_ ?_
    | with_reducible apply Alters.step (onEntry_only ..)
    | with_reducible apply Alters.step (dropCondition_only ..)
    | with_reducible apply Alters.step (entryFails_only ..)
    | with_reducible refine .fold ?_ (fun _ _ => ?_)
    | split
    | refine .upd (fun p hp => by cases p <;> first | exact absurd ((Part.mem_bits ..).2 rfl) hp | dsimp only [Part.same]) ?_

theorem execReadyEntryLinkTimeout_only (s : State) (t : State)
    (h : execReadyEntryLinkTimeout s = .next t) : Alters [.modes] s t := by
  unfold execReadyEntryLinkTimeout at h
  refine ran_only ?_ h
  repeat' first
    | with_reducible exact .refl _ _
    | assumption
    | with_unfolding_all decide
    | with_reducible refine .ite ?_ ?_
    | with_reducible refine .ite_snd ?_ ?_
    | with_reducible apply Alters.step (onEntry_only ..)
    | with_reducible refine .fold ?_ (fun _ _ => ?_)
    | split

theorem execHbmSelfRefreshEntry_only (s : State) (t : State)
    (h : execHbmSelfRefreshEntry s = .next t) : Alters [.power] s t := by
  unfold execHbmSelfRefreshEntry at h
  refine ran_only ?_ h
  repeat' first
    | ((conv => enter [3, 21]); refine .upd (fun p hp => by cases p <;> first | exact absurd ((Part.mem_bits ..).2 rfl) hp | dsimp only [Part.same]) ?_)
    | with_reducible exact .refl _ _
    | assumption
    | with_unfolding_all decide
    | with_reducible refine .ite ?_ ?_
    | with_reducible refine .ite_snd ?_ ?_
    | with_reducible refine .fold ?_ (fun _ _ => ?_)
    | split
    | refine .upd (fun p hp => by cases p <;> first | exact absurd ((Part.mem_bits ..).2 rfl) hp | dsimp only [Part.same]) ?_

theorem execSensorSample_only (readings : List (Option Word)) (s : State) (t : State)
    (h : execSensorSample readings s = .next t) : Alters [.modes, .sv, .links, .xc, .seams, .grizzly, .regs, .fm] s t := by
  unfold execSensorSample at h
  split at h <;> [skip; exact nomatch h]
  refine ran_only ?_ h
  repeat' first
    | with_reducible exact .refl _ _
    | assumption
    | with_unfolding_all decide
    | with_reducible refine .ite ?_ ?_
    | with_reducible refine .ite_snd ?_ ?_
    | with_reducible apply Alters.step (sampleSensors_only ..)
    | with_reducible refine .fold ?_ (fun _ _ => ?_)
    | split

theorem execThermalClear_only (s : State) (t : State)
    (h : execThermalClear s = .next t) : Alters [.fm] s t := by
  unfold execThermalClear at h
  refine ran_only ?_ h
  repeat' first
    | ((conv => enter [3, 21]); refine .upd (fun p hp => by cases p <;> first | exact absurd ((Part.mem_bits ..).2 rfl) hp | dsimp only [Part.same]) ?_)
    | with_reducible exact .refl _ _
    | assumption
    | with_unfolding_all decide
    | with_reducible refine .ite ?_ ?_
    | with_reducible refine .ite_snd ?_ ?_
    | with_reducible apply Alters.step (dropCondition_only ..)
    | with_reducible refine .fold ?_ (fun _ _ => ?_)
    | split
    | refine .upd (fun p hp => by cases p <;> first | exact absurd ((Part.mem_bits ..).2 rfl) hp | dsimp only [Part.same]) ?_

theorem execHbmHotClear_only (stack : Fin 2) (s : State) (t : State)
    (h : execHbmHotClear stack s = .next t) : Alters [.fm] s t := by
  unfold execHbmHotClear at h
  refine ran_only ?_ h
  repeat' first
    | ((conv => enter [3, 21]); refine .upd (fun p hp => by cases p <;> first | exact absurd ((Part.mem_bits ..).2 rfl) hp | dsimp only [Part.same]) ?_)
    | with_reducible exact .refl _ _
    | assumption
    | with_unfolding_all decide
    | with_reducible refine .ite ?_ ?_
    | with_reducible refine .ite_snd ?_ ?_
    | with_reducible apply Alters.step (dropCondition_only ..)
    | with_reducible refine .fold ?_ (fun _ _ => ?_)
    | split
    | refine .upd (fun p hp => by cases p <;> first | exact absurd ((Part.mem_bits ..).2 rfl) hp | dsimp only [Part.same]) ?_

theorem execThrottleEngage_only (s : State) (t : State)
    (h : execThrottleEngage s = .next t) : Alters [.grizzly, .regs, .fm] s t := by
  unfold execThrottleEngage at h
  refine ran_only ?_ h
  repeat' first
    | ((conv => enter [3, 21]); refine .upd (fun p hp => by cases p <;> first | exact absurd ((Part.mem_bits ..).2 rfl) hp | dsimp only [Part.same]) ?_)
    | with_reducible exact .refl _ _
    | assumption
    | with_unfolding_all decide
    | with_reducible refine .ite ?_ ?_
    | with_reducible refine .ite_snd ?_ ?_
    | with_reducible apply Alters.step (event_only ..)
    | with_reducible refine .fold ?_ (fun _ _ => ?_)
    | split
    | refine .upd (fun p hp => by cases p <;> first | exact absurd ((Part.mem_bits ..).2 rfl) hp | dsimp only [Part.same]) ?_

theorem execThrottleRelease_only (s : State) (t : State)
    (h : execThrottleRelease s = .next t) : Alters [.fm] s t := by
  unfold execThrottleRelease at h
  refine ran_only ?_ h
  repeat' first
    | ((conv => enter [3, 21]); refine .upd (fun p hp => by cases p <;> first | exact absurd ((Part.mem_bits ..).2 rfl) hp | dsimp only [Part.same]) ?_)
    | with_reducible exact .refl _ _
    | assumption
    | with_unfolding_all decide
    | with_reducible refine .ite ?_ ?_
    | with_reducible refine .ite_snd ?_ ?_
    | with_reducible refine .fold ?_ (fun _ _ => ?_)
    | split
    | refine .upd (fun p hp => by cases p <;> first | exact absurd ((Part.mem_bits ..).2 rfl) hp | dsimp only [Part.same]) ?_

theorem execFaultRaise_only (f : FaultReq) (byHandler : Bool) (s : State) (t : State)
    (h : execFaultRaise f byHandler s = .next t) : Alters [.modes, .sv, .links, .xc, .seams, .grizzly, .hf, .regs, .fm, .sent] s t := by
  unfold execFaultRaise at h
  refine ran_only ?_ h
  repeat' first
    | with_reducible exact .refl _ _
    | assumption
    | with_unfolding_all decide
    | with_reducible refine .ite ?_ ?_
    | with_reducible refine .ite_snd ?_ ?_
    | with_reducible apply Alters.step (aerError_only ..)
    | with_reducible apply Alters.step (event_only ..)
    | with_reducible apply Alters.step (raiseFault_only ..)
    | with_reducible refine .fold ?_ (fun _ _ => ?_)
    | split

theorem execFaultHandle_only (s : State) (t : State)
    (h : execFaultHandle s = .next t) : Alters [.power, .modes, .sv, .links, .xc, .seams, .grizzly, .hf, .regs, .twin, .fm, .sent] s t := by
  unfold execFaultHandle at h
  refine ran_only ?_ h
  repeat' first
    | with_reducible exact .refl _ _
    | assumption
    | with_unfolding_all decide
    | with_reducible refine .ite ?_ ?_
    | with_reducible refine .ite_snd ?_ ?_
    | with_reducible apply Alters.step (handleFault_only ..)
    | with_reducible refine .fold ?_ (fun _ _ => ?_)
    | split

theorem execForemanWatchdogTrip_only (cause : WatchdogCause) (s : State) (t : State)
    (h : execForemanWatchdogTrip cause s = .next t) : Alters [.power, .modes, .grizzly, .hf, .dict, .regs, .fm, .sent] s t := by
  unfold execForemanWatchdogTrip at h
  refine ran_only ?_ h
  repeat' first
    | with_reducible exact .refl _ _
    | assumption
    | with_unfolding_all decide
    | with_reducible refine .ite ?_ ?_
    | with_reducible refine .ite_snd ?_ ?_
    | with_reducible apply Alters.step (watchdogTrip_only ..)
    | with_reducible refine .fold ?_ (fun _ _ => ?_)
    | split

theorem execLogEntryCommit_only (s : State) (t : State)
    (h : execLogEntryCommit s = .next t) : Alters [.fm, .nv] s t := by
  unfold execLogEntryCommit at h
  refine ran_only ?_ h
  repeat' first
    | with_reducible exact .refl _ _
    | assumption
    | with_unfolding_all decide
    | with_reducible refine .ite ?_ ?_
    | with_reducible refine .ite_snd ?_ ?_
    | with_reducible apply Alters.step (commitEntry_only ..)
    | with_reducible refine .fold ?_ (fun _ _ => ?_)
    | split

theorem execPowerOn_only (nodeId : BitVec 7) (twinSel dncTied : Bool) (s : State) (t : State)
    (h : execPowerOn nodeId twinSel dncTied s = .next t) : Alters [.power, .modes, .sv, .links, .xc, .seams, .closing, .streams, .shaft, .grizzly, .smelter, .slots, .hf, .dict, .regs, .twin, .fm, .sent] s t := by
  unfold execPowerOn at h
  refine ran_only ?_ h
  repeat' first
    | with_reducible exact .refl _ _
    | assumption
    | with_unfolding_all decide
    | with_reducible refine .ite ?_ ?_
    | with_reducible refine .ite_snd ?_ ?_
    | with_reducible apply Alters.step (sampleStraps_only ..)
    | with_reducible apply Alters.step (cold_only ..)
    | with_reducible refine .fold ?_ (fun _ _ => ?_)
    | split

theorem execResetNAssert_only (periods : Nat) (s : State) (t : State)
    (h : execResetNAssert periods s = .next t) : Alters [.power, .modes, .sv, .links, .xc, .seams, .closing, .streams, .shaft, .grizzly, .smelter, .slots, .hf, .dict, .regs, .twin, .fm, .sent] s t := by
  unfold execResetNAssert at h
  refine ran_only ?_ h
  repeat' first
    | with_reducible exact .refl _ _
    | assumption
    | with_unfolding_all decide
    | with_reducible refine .ite ?_ ?_
    | with_reducible refine .ite_snd ?_ ?_
    | with_reducible apply Alters.step (cold_only ..)
    | with_reducible refine .fold ?_ (fun _ _ => ?_)
    | split

theorem execResetNRelease_only (nodeId : BitVec 7) (twinSel : Bool) (s : State) (t : State)
    (h : execResetNRelease nodeId twinSel s = .next t) : Alters [.power, .modes, .sv, .links, .xc, .seams, .closing, .streams, .shaft, .grizzly, .smelter, .slots, .hf, .dict, .regs, .twin, .fm, .sent] s t := by
  unfold execResetNRelease at h
  refine ran_only ?_ h
  repeat' first
    | with_reducible exact .refl _ _
    | assumption
    | with_unfolding_all decide
    | with_reducible refine .ite ?_ ?_
    | with_reducible refine .ite_snd ?_ ?_
    | with_reducible apply Alters.step (sampleStraps_only ..)
    | with_reducible apply Alters.step (cold_only ..)
    | with_reducible refine .fold ?_ (fun _ _ => ?_)
    | split

theorem execLifeCycleSelfReset_only (s : State) (t : State)
    (h : execLifeCycleSelfReset s = .next t) : Alters [.power, .modes, .sv, .links, .xc, .seams, .closing, .streams, .shaft, .grizzly, .smelter, .slots, .hf, .dict, .regs, .twin, .fm, .sent] s t := by
  unfold execLifeCycleSelfReset at h
  refine ran_only ?_ h
  repeat' first
    | with_reducible exact .refl _ _
    | assumption
    | with_unfolding_all decide
    | with_reducible refine .ite ?_ ?_
    | with_reducible refine .ite_snd ?_ ?_
    | with_reducible apply Alters.step (moduleReset_only ..)
    | with_reducible refine .fold ?_ (fun _ _ => ?_)
    | split

theorem execPowerFailDetect_only (cause : PowerFailCause) (s : State) (t : State)
    (h : execPowerFailDetect cause s = .next t) : Alters [.power, .modes, .sv, .links, .xc, .seams, .closing, .streams, .shaft, .grizzly, .smelter, .slots, .hf, .dict, .twin, .fm, .nv, .sent] s t := by
  unfold execPowerFailDetect at h
  split at h <;> refine ran_only ?_ h
  repeat' first
    | with_reducible exact .refl _ _
    | assumption
    | with_unfolding_all decide
    | with_reducible refine .ite ?_ ?_
    | with_reducible refine .ite_snd ?_ ?_
    | with_reducible apply Alters.step (powerFail_only ..)
    | with_reducible refine .fold ?_ (fun _ _ => ?_)
    | split

theorem execPowerFailRelease_only (s : State) (t : State)
    (h : execPowerFailRelease s = .next t) : Alters [.power, .modes, .sv, .links, .xc, .seams, .closing, .streams, .shaft, .grizzly, .smelter, .slots, .hf, .dict, .regs, .twin, .fm, .sent] s t := by
  unfold execPowerFailRelease at h
  refine ran_only ?_ h
  repeat' first
    | with_reducible exact .refl _ _
    | assumption
    | with_unfolding_all decide
    | with_reducible refine .ite ?_ ?_
    | with_reducible refine .ite_snd ?_ ?_
    | with_reducible apply Alters.step (moduleReset_only ..)
    | with_reducible refine .fold ?_ (fun _ _ => ?_)
    | split

theorem execForemanBrownout_only (s : State) (t : State)
    (h : execForemanBrownout s = .next t) : Alters [.power, .modes, .sv, .links, .xc, .seams, .closing, .streams, .shaft, .grizzly, .smelter, .slots, .hf, .dict, .regs, .twin, .fm, .nv, .sent] s t := by
  unfold execForemanBrownout at h
  refine ran_only ?_ h
  repeat' first
    | ((conv => enter [3, 21]); refine .upd (fun p hp => by cases p <;> first | exact absurd ((Part.mem_bits ..).2 rfl) hp | dsimp only [Part.same]) ?_)
    | with_reducible exact .refl _ _
    | assumption
    | with_unfolding_all decide
    | with_reducible refine .ite ?_ ?_
    | with_reducible refine .ite_snd ?_ ?_
    | with_reducible apply Alters.step (cold_only ..)
    | with_reducible refine .fold ?_ (fun _ _ => ?_)
    | split
    | refine .upd (fun p hp => by cases p <;> first | exact absurd ((Part.mem_bits ..).2 rfl) hp | dsimp only [Part.same]) ?_

theorem execBootComplete_only (s : State) (t : State)
    (h : execBootComplete s = .next t) : Alters [.power, .modes, .sv, .links, .xc, .seams, .closing, .streams, .shaft, .grizzly, .smelter, .hf, .dict, .regs, .twin, .fm, .nv, .sent, .free] s t := by
  unfold execBootComplete at h
  refine ran_only ?_ h
  repeat' first
    | with_reducible exact .refl _ _
    | assumption
    | with_unfolding_all decide
    | with_reducible refine .ite ?_ ?_
    | with_reducible refine .ite_snd ?_ ?_
    | with_reducible apply Alters.step (bootComplete_only ..)
    | with_reducible refine .fold ?_ (fun _ _ => ?_)
    | split

theorem execSamplePllLock_only (s : State) (t : State)
    (h : execSamplePllLock s = .next t) : Alters [.sv] s t := by
  unfold execSamplePllLock at h
  refine ran_only ?_ h
  repeat' first
    | ((conv => enter [3, 21]); refine .upd (fun p hp => by cases p <;> first | exact absurd ((Part.mem_bits ..).2 rfl) hp | dsimp only [Part.same]) ?_)
    | with_reducible exact .refl _ _
    | assumption
    | with_unfolding_all decide
    | with_reducible refine .ite ?_ ?_
    | with_reducible refine .ite_snd ?_ ?_
    | with_reducible refine .fold ?_ (fun _ _ => ?_)
    | split
    | refine .upd (fun p hp => by cases p <;> first | exact absurd ((Part.mem_bits ..).2 rfl) hp | dsimp only [Part.same]) ?_

theorem execSamplePllNoLock_only (s : State) (t : State)
    (h : execSamplePllNoLock s = .next t) : Alters [.power, .modes, .sv, .links, .xc, .seams, .closing, .shaft, .grizzly, .smelter, .regs, .twin, .fm] s t := by
  unfold execSamplePllNoLock at h
  refine ran_only ?_ h
  repeat' first
    | with_reducible exact .refl _ _
    | assumption
    | with_unfolding_all decide
    | with_reducible refine .ite ?_ ?_
    | with_reducible refine .ite_snd ?_ ?_
    | with_reducible apply Alters.step (entryFails_only ..)
    | with_reducible refine .fold ?_ (fun _ _ => ?_)
    | split

theorem execDictRead_only (via : Path) (index sub : Nat) (s : State) (t : State)
    (h : execDictRead via index sub s = .next t) : Alters [.dict, .fm, .nv, .sent, .free] s t := by
  unfold execDictRead at h
  refine ran_only ?_ h
  repeat' first
    | with_reducible exact .refl _ _
    | assumption
    | with_unfolding_all decide
    | with_reducible refine .ite ?_ ?_
    | with_reducible refine .ite_snd ?_ ?_
    | with_reducible apply Alters.step (readRequest_only ..)
    | with_reducible refine .fold ?_ (fun _ _ => ?_)
    | split

theorem execDictWrite_only (via : Path) (index sub : Nat) (data : List Byte) (s : State) (t : State)
    (h : execDictWrite via index sub data s = .next t) : Alters [.power, .modes, .sv, .links, .xc, .seams, .closing, .streams, .shaft, .grizzly, .smelter, .slots, .hf, .dict, .regs, .twin, .fm, .nv, .sent] s t := by
  unfold execDictWrite at h
  refine ran_only ?_ h
  repeat' first
    | with_reducible exact .refl _ _
    | assumption
    | with_unfolding_all decide
    | with_reducible refine .ite ?_ ?_
    | with_reducible refine .ite_snd ?_ ?_
    | with_reducible apply Alters.step (request_only ..)
    | with_reducible refine .fold ?_ (fun _ _ => ?_)
    | split

theorem execStagedObjectWrite_only (via : Path) (index sub : Nat) (data : List Byte) (s : State) (t : State)
    (h : execStagedObjectWrite via index sub data s = .next t) : Alters [.power, .modes, .sv, .links, .xc, .seams, .closing, .streams, .shaft, .grizzly, .smelter, .slots, .hf, .dict, .regs, .twin, .fm, .nv, .sent] s t := by
  unfold execStagedObjectWrite at h
  refine ran_only ?_ h
  repeat' first
    | with_reducible exact .refl _ _
    | assumption
    | with_unfolding_all decide
    | with_reducible refine .ite ?_ ?_
    | with_reducible refine .ite_snd ?_ ?_
    | with_reducible apply Alters.step (request_only ..)
    | with_reducible refine .fold ?_ (fun _ _ => ?_)
    | split

theorem execModuleReset_only (via : Path) (data : List Byte) (s : State) (t : State)
    (h : execModuleReset via data s = .next t) : Alters [.power, .modes, .sv, .links, .xc, .seams, .closing, .streams, .shaft, .grizzly, .smelter, .slots, .hf, .dict, .regs, .twin, .fm, .nv, .sent] s t := by
  unfold execModuleReset at h
  refine ran_only ?_ h
  repeat' first
    | with_reducible exact .refl _ _
    | assumption
    | with_unfolding_all decide
    | with_reducible refine .ite ?_ ?_
    | with_reducible refine .ite_snd ?_ ?_
    | with_reducible apply Alters.step (request_only ..)
    | with_reducible refine .fold ?_ (fun _ _ => ?_)
    | split

theorem execCommit_only (via : Path) (s : State) (t : State)
    (h : execCommit via s = .next t) : Alters [.power, .modes, .sv, .links, .xc, .seams, .closing, .streams, .shaft, .grizzly, .smelter, .slots, .hf, .dict, .regs, .twin, .fm, .nv, .sent] s t := by
  unfold execCommit at h
  refine ran_only ?_ h
  repeat' first
    | with_reducible exact .refl _ _
    | assumption
    | with_unfolding_all decide
    | with_reducible refine .ite ?_ ?_
    | with_reducible refine .ite_snd ?_ ?_
    | with_reducible apply Alters.step (request_only ..)
    | with_reducible refine .fold ?_ (fun _ _ => ?_)
    | split

theorem execCancel_only (via : Path) (s : State) (t : State)
    (h : execCancel via s = .next t) : Alters [.power, .modes, .sv, .links, .xc, .seams, .closing, .streams, .shaft, .grizzly, .smelter, .slots, .hf, .dict, .regs, .twin, .fm, .nv, .sent] s t := by
  unfold execCancel at h
  refine ran_only ?_ h
  repeat' first
    | with_reducible exact .refl _ _
    | assumption
    | with_unfolding_all decide
    | with_reducible refine .ite ?_ ?_
    | with_reducible refine .ite_snd ?_ ?_
    | with_reducible apply Alters.step (request_only ..)
    | with_reducible refine .fold ?_ (fun _ _ => ?_)
    | split

theorem execTimeOfDay_only (via : Path) (data : List Byte) (s : State) (t : State)
    (h : execTimeOfDay via data s = .next t) : Alters [.power, .modes, .sv, .links, .xc, .seams, .closing, .streams, .shaft, .grizzly, .smelter, .slots, .hf, .dict, .regs, .twin, .fm, .nv, .sent] s t := by
  unfold execTimeOfDay at h
  refine ran_only ?_ h
  repeat' first
    | with_reducible exact .refl _ _
    | assumption
    | with_unfolding_all decide
    | with_reducible refine .ite ?_ ?_
    | with_reducible refine .ite_snd ?_ ?_
    | with_reducible apply Alters.step (request_only ..)
    | with_reducible refine .fold ?_ (fun _ _ => ?_)
    | split

theorem execTimeSet_only (via : Path) (data : List Byte) (s : State) (t : State)
    (h : execTimeSet via data s = .next t) : Alters [.power, .modes, .sv, .links, .xc, .seams, .closing, .streams, .shaft, .grizzly, .smelter, .slots, .hf, .dict, .regs, .twin, .fm, .nv, .sent] s t := by
  unfold execTimeSet at h
  refine ran_only ?_ h
  repeat' first
    | with_reducible exact .refl _ _
    | assumption
    | with_unfolding_all decide
    | with_reducible refine .ite ?_ ?_
    | with_reducible refine .ite_snd ?_ ?_
    | with_reducible apply Alters.step (request_only ..)
    | with_reducible refine .fold ?_ (fun _ _ => ?_)
    | split

theorem execFeMessage_only (via : Path) (n : Fin 48) (data : List Byte) (s : State) (t : State)
    (h : execFeMessage via n data s = .next t) : Alters [.power, .modes, .sv, .links, .xc, .seams, .closing, .streams, .shaft, .grizzly, .smelter, .slots, .hf, .dict, .regs, .twin, .fm, .nv, .sent] s t := by
  unfold execFeMessage at h
  refine ran_only ?_ h
  repeat' first
    | with_reducible exact .refl _ _
    | assumption
    | with_unfolding_all decide
    | with_reducible refine .ite ?_ ?_
    | with_reducible refine .ite_snd ?_ ?_
    | with_reducible apply Alters.step (request_only ..)
    | with_reducible refine .fold ?_ (fun _ _ => ?_)
    | split

theorem execCounterClear_only (via : Path) (n : Fin 48) (data : List Byte) (s : State) (t : State)
    (h : execCounterClear via n data s = .next t) : Alters [.power, .modes, .sv, .links, .xc, .seams, .closing, .streams, .shaft, .grizzly, .smelter, .slots, .hf, .dict, .regs, .twin, .fm, .nv, .sent] s t := by
  unfold execCounterClear at h
  refine ran_only ?_ h
  repeat' first
    | with_reducible exact .refl _ _
    | assumption
    | with_unfolding_all decide
    | with_reducible refine .ite ?_ ?_
    | with_reducible refine .ite_snd ?_ ?_
    | with_reducible apply Alters.step (request_only ..)
    | with_reducible refine .fold ?_ (fun _ _ => ?_)
    | split

theorem execSegRelease_only (via : Path) (data : List Byte) (s : State) (t : State)
    (h : execSegRelease via data s = .next t) : Alters [.power, .modes, .sv, .links, .xc, .seams, .closing, .streams, .shaft, .grizzly, .smelter, .slots, .hf, .dict, .regs, .twin, .fm, .nv, .sent] s t := by
  unfold execSegRelease at h
  refine ran_only ?_ h
  repeat' first
    | with_reducible exact .refl _ _
    | assumption
    | with_unfolding_all decide
    | with_reducible refine .ite ?_ ?_
    | with_reducible refine .ite_snd ?_ ?_
    | with_reducible apply Alters.step (request_only ..)
    | with_reducible refine .fold ?_ (fun _ _ => ?_)
    | split

theorem execCalStart_only (via : Path) (data : List Byte) (s : State) (t : State)
    (h : execCalStart via data s = .next t) : Alters [.power, .modes, .sv, .links, .xc, .seams, .closing, .streams, .shaft, .grizzly, .smelter, .slots, .hf, .dict, .regs, .twin, .fm, .nv, .sent] s t := by
  unfold execCalStart at h
  refine ran_only ?_ h
  repeat' first
    | with_reducible exact .refl _ _
    | assumption
    | with_unfolding_all decide
    | with_reducible refine .ite ?_ ?_
    | with_reducible refine .ite_snd ?_ ?_
    | with_reducible apply Alters.step (request_only ..)
    | with_reducible refine .fold ?_ (fun _ _ => ?_)
    | split

theorem execRdStart_only (via : Path) (s : State) (t : State)
    (h : execRdStart via s = .next t) : Alters [.power, .modes, .sv, .links, .xc, .seams, .closing, .streams, .shaft, .grizzly, .smelter, .slots, .hf, .dict, .regs, .twin, .fm, .nv, .sent] s t := by
  unfold execRdStart at h
  refine ran_only ?_ h
  repeat' first
    | with_reducible exact .refl _ _
    | assumption
    | with_unfolding_all decide
    | with_reducible refine .ite ?_ ?_
    | with_reducible refine .ite_snd ?_ ?_
    | with_reducible apply Alters.step (request_only ..)
    | with_reducible refine .fold ?_ (fun _ _ => ?_)
    | split

theorem execRdStop_only (via : Path) (s : State) (t : State)
    (h : execRdStop via s = .next t) : Alters [.power, .modes, .sv, .links, .xc, .seams, .closing, .streams, .shaft, .grizzly, .smelter, .slots, .hf, .dict, .regs, .twin, .fm, .nv, .sent] s t := by
  unfold execRdStop at h
  refine ran_only ?_ h
  repeat' first
    | with_reducible exact .refl _ _
    | assumption
    | with_unfolding_all decide
    | with_reducible refine .ite ?_ ?_
    | with_reducible refine .ite_snd ?_ ?_
    | with_reducible apply Alters.step (request_only ..)
    | with_reducible refine .fold ?_ (fun _ _ => ?_)
    | split

theorem execStore_only (via : Path) (s : State) (t : State)
    (h : execStore via s = .next t) : Alters [.power, .modes, .sv, .links, .xc, .seams, .closing, .streams, .shaft, .grizzly, .smelter, .slots, .hf, .dict, .regs, .twin, .fm, .nv, .sent] s t := by
  unfold execStore at h
  refine ran_only ?_ h
  repeat' first
    | with_reducible exact .refl _ _
    | assumption
    | with_unfolding_all decide
    | with_reducible refine .ite ?_ ?_
    | with_reducible refine .ite_snd ?_ ?_
    | with_reducible apply Alters.step (request_only ..)
    | with_reducible refine .fold ?_ (fun _ _ => ?_)
    | split

theorem execStoreErase_only (via : Path) (s : State) (t : State)
    (h : execStoreErase via s = .next t) : Alters [.power, .modes, .sv, .links, .xc, .seams, .closing, .streams, .shaft, .grizzly, .smelter, .slots, .hf, .dict, .regs, .twin, .fm, .nv, .sent] s t := by
  unfold execStoreErase at h
  refine ran_only ?_ h
  repeat' first
    | with_reducible exact .refl _ _
    | assumption
    | with_unfolding_all decide
    | with_reducible refine .ite ?_ ?_
    | with_reducible refine .ite_snd ?_ ?_
    | with_reducible apply Alters.step (request_only ..)
    | with_reducible refine .fold ?_ (fun _ _ => ?_)
    | split

theorem execStoreCommitDone_only (ok : Bool) (s : State) (t : State)
    (h : execStoreCommitDone ok s = .next t) : Alters [.modes, .sv, .links, .xc, .seams, .grizzly, .dict, .regs, .fm, .nv] s t := by
  unfold execStoreCommitDone at h
  refine ran_only ?_ h
  repeat' first
    | with_reducible exact .refl _ _
    | assumption
    | with_unfolding_all decide
    | with_reducible refine .ite ?_ ?_
    | with_reducible refine .ite_snd ?_ ?_
    | with_reducible apply Alters.step (storeEnds_only ..)
    | with_reducible refine .fold ?_ (fun _ _ => ?_)
    | split

theorem execRoleSwap_only (via : Path) (data : List Byte) (s : State) (t : State)
    (h : execRoleSwap via data s = .next t) : Alters [.power, .modes, .sv, .links, .xc, .seams, .closing, .streams, .shaft, .grizzly, .smelter, .slots, .hf, .dict, .regs, .twin, .fm, .nv, .sent] s t := by
  unfold execRoleSwap at h
  refine ran_only ?_ h
  repeat' first
    | with_reducible exact .refl _ _
    | assumption
    | with_unfolding_all decide
    | with_reducible refine .ite ?_ ?_
    | with_reducible refine .ite_snd ?_ ?_
    | with_reducible apply Alters.step (request_only ..)
    | with_reducible refine .fold ?_ (fun _ _ => ?_)
    | split

theorem execDetach_only (via : Path) (data : List Byte) (s : State) (t : State)
    (h : execDetach via data s = .next t) : Alters [.power, .modes, .sv, .links, .xc, .seams, .closing, .streams, .shaft, .grizzly, .smelter, .slots, .hf, .dict, .regs, .twin, .fm, .nv, .sent] s t := by
  unfold execDetach at h
  refine ran_only ?_ h
  repeat' first
    | with_reducible exact .refl _ _
    | assumption
    | with_unfolding_all decide
    | with_reducible refine .ite ?_ ?_
    | with_reducible refine .ite_snd ?_ ?_
    | with_reducible apply Alters.step (request_only ..)
    | with_reducible refine .fold ?_ (fun _ _ => ?_)
    | split

theorem execFaultAck_only (via : Path) (data : List Byte) (s : State) (t : State)
    (h : execFaultAck via data s = .next t) : Alters [.power, .modes, .sv, .links, .xc, .seams, .closing, .streams, .shaft, .grizzly, .smelter, .slots, .hf, .dict, .regs, .twin, .fm, .nv, .sent] s t := by
  unfold execFaultAck at h
  refine ran_only ?_ h
  repeat' first
    | with_reducible exact .refl _ _
    | assumption
    | with_unfolding_all decide
    | with_reducible refine .ite ?_ ?_
    | with_reducible refine .ite_snd ?_ ?_
    | with_reducible apply Alters.step (request_only ..)
    | with_reducible refine .fold ?_ (fun _ _ => ?_)
    | split

theorem execLogReadAt_only (via : Path) (data : List Byte) (s : State) (t : State)
    (h : execLogReadAt via data s = .next t) : Alters [.power, .modes, .sv, .links, .xc, .seams, .closing, .streams, .shaft, .grizzly, .smelter, .slots, .hf, .dict, .regs, .twin, .fm, .nv, .sent] s t := by
  unfold execLogReadAt at h
  refine ran_only ?_ h
  repeat' first
    | with_reducible exact .refl _ _
    | assumption
    | with_unfolding_all decide
    | with_reducible refine .ite ?_ ?_
    | with_reducible refine .ite_snd ?_ ?_
    | with_reducible apply Alters.step (request_only ..)
    | with_reducible refine .fold ?_ (fun _ _ => ?_)
    | split

theorem execLogClear_only (via : Path) (data : List Byte) (s : State) (t : State)
    (h : execLogClear via data s = .next t) : Alters [.power, .modes, .sv, .links, .xc, .seams, .closing, .streams, .shaft, .grizzly, .smelter, .slots, .hf, .dict, .regs, .twin, .fm, .nv, .sent] s t := by
  unfold execLogClear at h
  refine ran_only ?_ h
  repeat' first
    | with_reducible exact .refl _ _
    | assumption
    | with_unfolding_all decide
    | with_reducible refine .ite ?_ ?_
    | with_reducible refine .ite_snd ?_ ?_
    | with_reducible apply Alters.step (request_only ..)
    | with_reducible refine .fold ?_ (fun _ _ => ?_)
    | split

theorem execUpdateBegin_only (via : Path) (s : State) (t : State)
    (h : execUpdateBegin via s = .next t) : Alters [.power, .modes, .sv, .links, .xc, .seams, .closing, .streams, .shaft, .grizzly, .smelter, .slots, .hf, .dict, .regs, .twin, .fm, .nv, .sent] s t := by
  unfold execUpdateBegin at h
  refine ran_only ?_ h
  repeat' first
    | with_reducible exact .refl _ _
    | assumption
    | with_unfolding_all decide
    | with_reducible refine .ite ?_ ?_
    | with_reducible refine .ite_snd ?_ ?_
    | with_reducible apply Alters.step (request_only ..)
    | with_reducible refine .fold ?_ (fun _ _ => ?_)
    | split

theorem execUpdateData_only (via : Path) (data : List Byte) (s : State) (t : State)
    (h : execUpdateData via data s = .next t) : Alters [.power, .modes, .sv, .links, .xc, .seams, .closing, .streams, .shaft, .grizzly, .smelter, .slots, .hf, .dict, .regs, .twin, .fm, .nv, .sent] s t := by
  unfold execUpdateData at h
  refine ran_only ?_ h
  repeat' first
    | with_reducible exact .refl _ _
    | assumption
    | with_unfolding_all decide
    | with_reducible refine .ite ?_ ?_
    | with_reducible refine .ite_snd ?_ ?_
    | with_reducible apply Alters.step (request_only ..)
    | with_reducible refine .fold ?_ (fun _ _ => ?_)
    | split

theorem execUpdateVerify_only (via : Path) (s : State) (t : State)
    (h : execUpdateVerify via s = .next t) : Alters [.power, .modes, .sv, .links, .xc, .seams, .closing, .streams, .shaft, .grizzly, .smelter, .slots, .hf, .dict, .regs, .twin, .fm, .nv, .sent] s t := by
  unfold execUpdateVerify at h
  refine ran_only ?_ h
  repeat' first
    | with_reducible exact .refl _ _
    | assumption
    | with_unfolding_all decide
    | with_reducible refine .ite ?_ ?_
    | with_reducible refine .ite_snd ?_ ?_
    | with_reducible apply Alters.step (request_only ..)
    | with_reducible refine .fold ?_ (fun _ _ => ?_)
    | split

theorem execUpdateCommit_only (via : Path) (s : State) (t : State)
    (h : execUpdateCommit via s = .next t) : Alters [.power, .modes, .sv, .links, .xc, .seams, .closing, .streams, .shaft, .grizzly, .smelter, .slots, .hf, .dict, .regs, .twin, .fm, .nv, .sent] s t := by
  unfold execUpdateCommit at h
  refine ran_only ?_ h
  repeat' first
    | with_reducible exact .refl _ _
    | assumption
    | with_unfolding_all decide
    | with_reducible refine .ite ?_ ?_
    | with_reducible refine .ite_snd ?_ ?_
    | with_reducible apply Alters.step (request_only ..)
    | with_reducible refine .fold ?_ (fun _ _ => ?_)
    | split

theorem execUpdateAbort_only (via : Path) (s : State) (t : State)
    (h : execUpdateAbort via s = .next t) : Alters [.power, .modes, .sv, .links, .xc, .seams, .closing, .streams, .shaft, .grizzly, .smelter, .slots, .hf, .dict, .regs, .twin, .fm, .nv, .sent] s t := by
  unfold execUpdateAbort at h
  refine ran_only ?_ h
  repeat' first
    | with_reducible exact .refl _ _
    | assumption
    | with_unfolding_all decide
    | with_reducible refine .ite ?_ ?_
    | with_reducible refine .ite_snd ?_ ?_
    | with_reducible apply Alters.step (request_only ..)
    | with_reducible refine .fold ?_ (fun _ _ => ?_)
    | split

theorem execUpdateConfirm_only (via : Path) (s : State) (t : State)
    (h : execUpdateConfirm via s = .next t) : Alters [.power, .modes, .sv, .links, .xc, .seams, .closing, .streams, .shaft, .grizzly, .smelter, .slots, .hf, .dict, .regs, .twin, .fm, .nv, .sent] s t := by
  unfold execUpdateConfirm at h
  refine ran_only ?_ h
  repeat' first
    | with_reducible exact .refl _ _
    | assumption
    | with_unfolding_all decide
    | with_reducible refine .ite ?_ ?_
    | with_reducible refine .ite_snd ?_ ?_
    | with_reducible apply Alters.step (request_only ..)
    | with_reducible refine .fold ?_ (fun _ _ => ?_)
    | split

theorem execOwnerKey_only (via : Path) (data : List Byte) (s : State) (t : State)
    (h : execOwnerKey via data s = .next t) : Alters [.power, .modes, .sv, .links, .xc, .seams, .closing, .streams, .shaft, .grizzly, .smelter, .slots, .hf, .dict, .regs, .twin, .fm, .nv, .sent] s t := by
  unfold execOwnerKey at h
  refine ran_only ?_ h
  repeat' first
    | with_reducible exact .refl _ _
    | assumption
    | with_unfolding_all decide
    | with_reducible refine .ite ?_ ?_
    | with_reducible refine .ite_snd ?_ ?_
    | with_reducible apply Alters.step (request_only ..)
    | with_reducible refine .fold ?_ (fun _ _ => ?_)
    | split

theorem execLcAdvance_only (via : Path) (data : List Byte) (s : State) (t : State)
    (h : execLcAdvance via data s = .next t) : Alters [.power, .modes, .sv, .links, .xc, .seams, .closing, .streams, .shaft, .grizzly, .smelter, .slots, .hf, .dict, .regs, .twin, .fm, .nv, .sent] s t := by
  unfold execLcAdvance at h
  refine ran_only ?_ h
  repeat' first
    | with_reducible exact .refl _ _
    | assumption
    | with_unfolding_all decide
    | with_reducible refine .ite ?_ ?_
    | with_reducible refine .ite_snd ?_ ?_
    | with_reducible apply Alters.step (request_only ..)
    | with_reducible refine .fold ?_ (fun _ _ => ?_)
    | split

theorem execLcChallenge_only (via : Path) (nonce : List Byte) (s : State) (t : State)
    (h : execLcChallenge via nonce s = .next t) : Alters [.fm, .nv, .sent] s t := by
  unfold execLcChallenge at h
  refine ran_only ?_ h
  repeat' first
    | with_reducible exact .refl _ _
    | assumption
    | with_unfolding_all decide
    | with_reducible refine .ite ?_ ?_
    | with_reducible refine .ite_snd ?_ ?_
    | with_reducible apply Alters.step (send_only ..)
    | with_reducible apply Alters.step (issueChallenge_only ..)
    | with_reducible refine .fold ?_ (fun _ _ => ?_)
    | split

theorem execLcDebugAuth_only (via : Path) (data : List Byte) (s : State) (t : State)
    (h : execLcDebugAuth via data s = .next t) : Alters [.power, .modes, .sv, .links, .xc, .seams, .closing, .streams, .shaft, .grizzly, .smelter, .slots, .hf, .dict, .regs, .twin, .fm, .nv, .sent] s t := by
  unfold execLcDebugAuth at h
  refine ran_only ?_ h
  repeat' first
    | with_reducible exact .refl _ _
    | assumption
    | with_unfolding_all decide
    | with_reducible refine .ite ?_ ?_
    | with_reducible refine .ite_snd ?_ ?_
    | with_reducible apply Alters.step (request_only ..)
    | with_reducible refine .fold ?_ (fun _ _ => ?_)
    | split

theorem execLcReturn_only (via : Path) (data : List Byte) (s : State) (t : State)
    (h : execLcReturn via data s = .next t) : Alters [.power, .modes, .sv, .links, .xc, .seams, .closing, .streams, .shaft, .grizzly, .smelter, .slots, .hf, .dict, .regs, .twin, .fm, .nv, .sent] s t := by
  unfold execLcReturn at h
  refine ran_only ?_ h
  repeat' first
    | with_reducible exact .refl _ _
    | assumption
    | with_unfolding_all decide
    | with_reducible refine .ite ?_ ?_
    | with_reducible refine .ite_snd ?_ ?_
    | with_reducible apply Alters.step (request_only ..)
    | with_reducible refine .fold ?_ (fun _ _ => ?_)
    | split

theorem execKeyLoad_only (via : Path) (data : List Byte) (s : State) (t : State)
    (h : execKeyLoad via data s = .next t) : Alters [.power, .modes, .sv, .links, .xc, .seams, .closing, .streams, .shaft, .grizzly, .smelter, .slots, .hf, .dict, .regs, .twin, .fm, .nv, .sent] s t := by
  unfold execKeyLoad at h
  refine ran_only ?_ h
  repeat' first
    | with_reducible exact .refl _ _
    | assumption
    | with_unfolding_all decide
    | with_reducible refine .ite ?_ ?_
    | with_reducible refine .ite_snd ?_ ?_
    | with_reducible apply Alters.step (request_only ..)
    | with_reducible refine .fold ?_ (fun _ _ => ?_)
    | split

theorem execKeyErase_only (via : Path) (data : List Byte) (s : State) (t : State)
    (h : execKeyErase via data s = .next t) : Alters [.power, .modes, .sv, .links, .xc, .seams, .closing, .streams, .shaft, .grizzly, .smelter, .slots, .hf, .dict, .regs, .twin, .fm, .nv, .sent] s t := by
  unfold execKeyErase at h
  refine ran_only ?_ h
  repeat' first
    | with_reducible exact .refl _ _
    | assumption
    | with_unfolding_all decide
    | with_reducible refine .ite ?_ ?_
    | with_reducible refine .ite_snd ?_ ?_
    | with_reducible apply Alters.step (request_only ..)
    | with_reducible refine .fold ?_ (fun _ _ => ?_)
    | split

theorem execUseReset_only (via : Path) (data : List Byte) (s : State) (t : State)
    (h : execUseReset via data s = .next t) : Alters [.power, .modes, .sv, .links, .xc, .seams, .closing, .streams, .shaft, .grizzly, .smelter, .slots, .hf, .dict, .regs, .twin, .fm, .nv, .sent] s t := by
  unfold execUseReset at h
  refine ran_only ?_ h
  repeat' first
    | with_reducible exact .refl _ _
    | assumption
    | with_unfolding_all decide
    | with_reducible refine .ite ?_ ?_
    | with_reducible refine .ite_snd ?_ ?_
    | with_reducible apply Alters.step (request_only ..)
    | with_reducible refine .fold ?_ (fun _ _ => ?_)
    | split

theorem execPartnerRequestReceive_only (s : State) (t : State)
    (h : execPartnerRequestReceive s = .next t) : Alters [.power, .modes, .sv, .links, .xc, .seams, .closing, .streams, .shaft, .grizzly, .smelter, .slots, .hf, .dict, .regs, .twin, .fm, .nv, .sent, .free] s t := by
  unfold execPartnerRequestReceive at h
  refine ran_only ?_ h
  have go (l : List XcRecord) : Alters [.twin] s { s with twin.recQueue := l } := .set (fun p hp => by cases p <;> first | exact absurd ((Part.mem_bits ..).2 rfl) hp | rfl)
  split
  · next l _ => exact .ite ((go l).trans (servePartner_only ..)) (.refl ..)
  · next l _ => exact (go l).trans (takeResult_only ..)
  · exact .refl ..

theorem execCanRead_only (port : CanPort) (client : BitVec 8) (brs : Bool) (index sub token : Nat) (s : State) (t : State)
    (h : execCanRead port client brs index sub token s = .next t) : Alters [.dict, .regs, .twin, .fm, .nv, .sent, .free] s t := by
  exact ran_only (canFrom_only _ s port client brs _ (fun t => (canRead_only ..).mono) (by with_unfolding_all decide)) h

theorem execCanWrite_only (port : CanPort) (client : BitVec 8) (brs : Bool) (index sub token len : Nat) (data : List Byte) (s : State) (t : State)
    (h : execCanWrite port client brs index sub token len data s = .next t) : Alters [.power, .modes, .sv, .links, .xc, .seams, .closing, .streams, .shaft, .grizzly, .smelter, .slots, .hf, .dict, .regs, .twin, .fm, .nv, .sent] s t := by
  exact ran_only (canFrom_only _ s port client brs _ (fun t => (canWrite_only ..).mono) (by with_unfolding_all decide)) h

theorem execCanWriteInit_only (port : CanPort) (client : BitVec 8) (brs : Bool) (index sub token len : Nat) (s : State) (t : State)
    (h : execCanWriteInit port client brs index sub token len s = .next t) : Alters [.dict, .sent] s t := by
  exact ran_only (canFrom_only _ s port client brs _ (fun t => (canWriteInit_only ..).mono) (by with_unfolding_all decide)) h

theorem execCanSegment_only (port : CanPort) (client : BitVec 8) (brs : Bool) (seg : Nat) (data : List Byte) (s : State) (t : State)
    (h : execCanSegment port client brs seg data s = .next t) : Alters [.dict, .sent] s t := by
  exact ran_only (canFrom_only _ s port client brs _ (fun t => (canSegment_only ..).mono) (by with_unfolding_all decide)) h

theorem execCanEnd_only (port : CanPort) (client : BitVec 8) (brs : Bool) (segments : Nat) (crc : BitVec 16) (s : State) (t : State)
    (h : execCanEnd port client brs segments crc s = .next t) : Alters [.power, .modes, .sv, .links, .xc, .seams, .closing, .streams, .shaft, .grizzly, .smelter, .slots, .hf, .dict, .regs, .twin, .fm, .nv, .sent] s t := by
  exact ran_only (canFrom_only _ s port client brs _ (fun t => (canEnd_only ..).mono) (by with_unfolding_all decide)) h

theorem execCanAck_only (port : CanPort) (client : BitVec 8) (brs : Bool) (next : Nat) (s : State) (t : State)
    (h : execCanAck port client brs next s = .next t) : Alters [.dict, .sent] s t := by
  exact ran_only (canFrom_only _ s port client brs _ (fun t => (canAck_only ..).mono) (by with_unfolding_all decide)) h

theorem execCanAbort_only (port : CanPort) (client : BitVec 8) (brs : Bool) (index sub token : Nat) (s : State) (t : State)
    (h : execCanAbort port client brs index sub token s = .next t) : Alters [.dict, .sent] s t := by
  exact ran_only (canFrom_only _ s port client brs _ (fun t => (canCancel_only ..).mono) (by with_unfolding_all decide)) h

theorem execCanFrameIgnored_only (port : CanPort) (s : State) (t : State)
    (h : execCanFrameIgnored port s = .next t) : Alters [.dict] s t := by
  unfold execCanFrameIgnored at h
  refine ran_only ?_ h
  repeat' first
    | with_reducible exact .refl _ _
    | assumption
    | with_unfolding_all decide
    | with_reducible refine .ite ?_ ?_
    | with_reducible refine .ite_snd ?_ ?_
    | with_reducible apply Alters.step (canIgnore_only ..)
    | with_reducible refine .fold ?_ (fun _ _ => ?_)
    | split

theorem execCanTimeout_only (port : CanPort) (client : BitVec 8) (s : State) (t : State)
    (h : execCanTimeout port client s = .next t) : Alters [.dict, .sent] s t := by
  unfold execCanTimeout at h
  refine ran_only ?_ h
  repeat' first
    | with_reducible exact .refl _ _
    | assumption
    | with_unfolding_all decide
    | with_reducible refine .ite ?_ ?_
    | with_reducible refine .ite_snd ?_ ?_
    | with_reducible apply Alters.step (endTransfer_only ..)
    | with_reducible refine .fold ?_ (fun _ _ => ?_)
    | split

theorem execCanBusOffRecovery_only (port : CanPort) (s : State) (t : State)
    (h : execCanBusOffRecovery port s = .next t) : Alters [.dict] s t := by
  unfold execCanBusOffRecovery at h
  refine ran_only ?_ h
  repeat' first
    | with_reducible exact .refl _ _
    | assumption
    | with_unfolding_all decide
    | with_reducible refine .ite ?_ ?_
    | with_reducible refine .ite_snd ?_ ?_
    | with_reducible apply Alters.step (onCan_only ..)
    | with_reducible refine .fold ?_ (fun _ _ => ?_)
    | split

theorem execCanBusError_only (port : CanPort) (tx : Bool) (s : State) (t : State)
    (h : execCanBusError port tx s = .next t) : Alters [.dict] s t := by
  unfold execCanBusError at h
  refine ran_only ?_ h
  repeat' first
    | with_reducible exact .refl _ _
    | assumption
    | with_unfolding_all decide
    | with_reducible refine .ite ?_ ?_
    | with_reducible refine .ite_snd ?_ ?_
    | with_reducible apply Alters.step (onCan_only ..)
    | with_reducible refine .fold ?_ (fun _ _ => ?_)
    | split

theorem execSlotGoRead_only (fn : Fn) (k : Fin 16) (stream : Option (Fin 4)) (s : State) (t : State)
    (h : execSlotGoRead fn k stream s = .next t) : Alters [.power, .modes, .sv, .links, .xc, .seams, .closing, .streams, .shaft, .grizzly, .smelter, .slots, .hf, .dict, .regs, .twin, .fm, .nv, .sent, .free] s t := by
  unfold execSlotGoRead at h
  refine ran_only ?_ h
  repeat' first
    | with_reducible exact .refl _ _
    | assumption
    | with_unfolding_all decide
    | with_reducible refine .ite ?_ ?_
    | with_reducible refine .ite_snd ?_ ?_
    | with_reducible apply Alters.step (slotGo_only ..)
    | with_reducible refine .fold ?_ (fun _ _ => ?_)
    | split

theorem execSlotGoWrite_only (fn : Fn) (k : Fin 16) (stream : Option (Fin 4)) (s : State) (t : State)
    (h : execSlotGoWrite fn k stream s = .next t) : Alters [.power, .modes, .sv, .links, .xc, .seams, .closing, .streams, .shaft, .grizzly, .smelter, .slots, .hf, .dict, .regs, .twin, .fm, .nv, .sent, .free] s t := by
  unfold execSlotGoWrite at h
  refine ran_only ?_ h
  repeat' first
    | with_reducible exact .refl _ _
    | assumption
    | with_unfolding_all decide
    | with_reducible refine .ite ?_ ?_
    | with_reducible refine .ite_snd ?_ ?_
    | with_reducible apply Alters.step (slotGo_only ..)
    | with_reducible refine .fold ?_ (fun _ _ => ?_)
    | split

theorem execSlotGoPartnerRead_only (fn : Fn) (k : Fin 16) (stream : Option (Fin 4)) (s : State) (t : State)
    (h : execSlotGoPartnerRead fn k stream s = .next t) : Alters [.power, .modes, .sv, .links, .xc, .seams, .closing, .streams, .shaft, .grizzly, .smelter, .slots, .hf, .dict, .regs, .twin, .fm, .nv, .sent, .free] s t := by
  unfold execSlotGoPartnerRead at h
  refine ran_only ?_ h
  repeat' first
    | with_reducible exact .refl _ _
    | assumption
    | with_unfolding_all decide
    | with_reducible refine .ite ?_ ?_
    | with_reducible refine .ite_snd ?_ ?_
    | with_reducible apply Alters.step (slotGo_only ..)
    | with_reducible refine .fold ?_ (fun _ _ => ?_)
    | split

theorem execSlotGoPartnerWrite_only (fn : Fn) (k : Fin 16) (stream : Option (Fin 4)) (s : State) (t : State)
    (h : execSlotGoPartnerWrite fn k stream s = .next t) : Alters [.power, .modes, .sv, .links, .xc, .seams, .closing, .streams, .shaft, .grizzly, .smelter, .slots, .hf, .dict, .regs, .twin, .fm, .nv, .sent, .free] s t := by
  unfold execSlotGoPartnerWrite at h
  refine ran_only ?_ h
  repeat' first
    | with_reducible exact .refl _ _
    | assumption
    | with_unfolding_all decide
    | with_reducible refine .ite ?_ ?_
    | with_reducible refine .ite_snd ?_ ?_
    | with_reducible apply Alters.step (slotGo_only ..)
    | with_reducible refine .fold ?_ (fun _ _ => ?_)
    | split

theorem execRegisterWrite_only (m : Master) (w : RegWrite) (s : State) (t : State)
    (h : execRegisterWrite m w s = .next t) : Alters [.power, .modes, .sv, .links, .xc, .seams, .closing, .streams, .shaft, .grizzly, .smelter, .slots, .hf, .dict, .regs, .twin, .fm, .nv, .sent, .free] s t := by
  unfold execRegisterWrite at h
  refine ran_only ?_ h
  repeat' first
    | with_reducible exact .refl _ _
    | assumption
    | with_unfolding_all decide
    | with_reducible refine .ite ?_ ?_
    | with_reducible refine .ite_snd ?_ ?_
    | with_reducible apply Alters.step (registerWrite_only ..)
    | with_reducible refine .fold ?_ (fun _ _ => ?_)
    | split

theorem execPf1MemoryRequest_only (r : Pf1Access) (s : State) (t : State)
    (h : execPf1MemoryRequest r s = .next t) : Alters [.power, .modes, .sv, .links, .xc, .seams, .closing, .streams, .shaft, .grizzly, .smelter, .slots, .hf, .dict, .regs, .twin, .fm, .nv, .sent, .free] s t := by
  exact ran_only (admitHost_only _ s _ _ _ _ _ (fun t => (pf1Reaches_only ..).mono) (fun t => (pf1Refused_only ..).mono)
    (by with_unfolding_all decide)) h

theorem execPairElection_only (peer : PeerInfo) (s : State) (t : State)
    (h : execPairElection peer s = .next t) : Alters [.grizzly, .regs, .twin, .fm, .nv, .sent] s t := by
  unfold execPairElection at h
  refine ran_only ?_ h
  repeat' first
    | with_reducible exact .refl _ _
    | assumption
    | with_unfolding_all decide
    | with_reducible refine .ite ?_ ?_
    | with_reducible refine .ite_snd ?_ ?_
    | with_reducible apply Alters.step (election_only ..)
    | with_reducible refine .fold ?_ (fun _ _ => ?_)
    | split

theorem execXcBlockReceive_only (b : XcBlock) (s : State) (t : State)
    (h : execXcBlockReceive b s = .next t) : Alters [.power, .modes, .sv, .links, .xc, .seams, .closing, .streams, .shaft, .grizzly, .smelter, .hf, .dict, .regs, .twin, .fm, .sent] s t := by
  unfold execXcBlockReceive at h
  split at h <;> [skip; exact nomatch h]
  refine ran_only ?_ h
  repeat' first
    | with_reducible exact .refl _ _
    | assumption
    | with_unfolding_all decide
    | with_reducible refine .ite ?_ ?_
    | with_reducible refine .ite_snd ?_ ?_
    | with_reducible apply Alters.step (takeBlock_only ..)
    | with_reducible refine .fold ?_ (fun _ _ => ?_)
    | split

theorem execXcHdrRecord_only (s : State) (t : State)
    (h : execXcHdrRecord s = .next t) : Alters [.power, .modes, .sv, .links, .xc, .seams, .closing, .shaft, .grizzly, .smelter, .hf, .dict, .regs, .twin, .fm, .sent] s t := by
  unfold execXcHdrRecord at h
  refine ran_only (popRecord_only _ s _ (fun r g t e => ?_) (by with_unfolding_all decide)) h
  split at e
  · cases e
    exact .ite (peerHdr_only ..).mono (.refl ..)
  · exact nomatch e

theorem execXcDoorRecord_only (s : State) (t : State)
    (h : execXcDoorRecord s = .next t) : Alters [.power, .modes, .sv, .links, .xc, .seams, .closing, .streams, .shaft, .grizzly, .smelter, .hf, .dict, .regs, .twin, .fm, .sent] s t := by
  unfold execXcDoorRecord at h
  refine ran_only (popRecord_only _ s _ (fun r g t e => ?_) (by with_unfolding_all decide)) h
  split at e
  · cases e
    exact .ite (.fold (.refl ..) fun u i => (doorRecord_only ..).mono) (.refl ..)
  · exact nomatch e

theorem execXcCursorRecord_only (s : State) (t : State)
    (h : execXcCursorRecord s = .next t) : Alters [.power, .modes, .sv, .links, .xc, .seams, .closing, .streams, .shaft, .grizzly, .smelter, .hf, .dict, .regs, .twin, .fm, .sent] s t := by
  unfold execXcCursorRecord at h
  refine ran_only (popRecord_only _ s _ (fun r g t e => ?_) (by with_unfolding_all decide)) h
  split at e
  · cases e
    exact (cursorRecordIn_only ..).mono
  · exact nomatch e

theorem execXcConfirmRecord_only (s : State) (t : State)
    (h : execXcConfirmRecord s = .next t) : Alters [.power, .modes, .sv, .links, .xc, .seams, .closing, .streams, .shaft, .grizzly, .smelter, .hf, .dict, .regs, .twin, .fm, .sent] s t := by
  unfold execXcConfirmRecord at h
  refine ran_only (popRecord_only _ s _ (fun r g t e => ?_) (by with_unfolding_all decide)) h
  split at e
  · cases e
    exact (confirmCursor_only ..).mono
  · exact nomatch e

theorem execXcAckRecord_only (s : State) (t : State)
    (h : execXcAckRecord s = .next t) : Alters [.power, .modes, .sv, .links, .xc, .seams, .closing, .streams, .shaft, .grizzly, .smelter, .hf, .dict, .regs, .twin, .fm, .sent] s t := by
  unfold execXcAckRecord at h
  refine ran_only (popRecord_only _ s _ (fun r g t e => ?_) (by with_unfolding_all decide)) h
  split at e
  · cases e
    exact .ite (ackRecord_only ..).mono (.refl ..)
  · exact nomatch e

theorem execXcRingRecord_only (s : State) (t : State)
    (h : execXcRingRecord s = .next t) : Alters [.power, .modes, .sv, .links, .xc, .seams, .closing, .shaft, .grizzly, .smelter, .hf, .dict, .regs, .twin, .fm, .sent] s t := by
  unfold execXcRingRecord at h
  refine ran_only (popRecord_only _ s _ (fun r g t e => ?_) (by with_unfolding_all decide)) h
  split at e
  · cases e
    exact .ite (.set (fun p hp => by cases p <;> first | exact absurd ((Part.mem_bits ..).2 rfl) hp | rfl)) (.refl ..)
  · exact nomatch e

theorem execXcSyncRecord_only (s : State) (t : State)
    (h : execXcSyncRecord s = .next t) : Alters [.power, .modes, .sv, .links, .xc, .seams, .closing, .streams, .shaft, .grizzly, .smelter, .slots, .hf, .dict, .regs, .twin, .fm, .sent] s t := by
  unfold execXcSyncRecord at h
  refine ran_only (popRecord_only _ s _ (fun r g t e => ?_) (by with_unfolding_all decide)) h
  split at e
  · cases e
    exact .ite (syncRecord_only ..).mono (.refl ..)
  · exact nomatch e

theorem execXcNackRecord_only (s : State) (t : State)
    (h : execXcNackRecord s = .next t) : Alters [.power, .modes, .sv, .links, .xc, .seams, .closing, .shaft, .grizzly, .smelter, .hf, .dict, .regs, .twin, .fm, .sent] s t := by
  unfold execXcNackRecord at h
  refine ran_only (popRecord_only _ s _ (fun r g t e => ?_) (by with_unfolding_all decide)) h
  split at e
  · cases e
    exact (resend_only ..).mono
  · exact nomatch e

theorem execXcEpochGo_only (s : State) (t : State)
    (h : execXcEpochGo s = .next t) : Alters [.power, .modes, .sv, .links, .xc, .seams, .closing, .shaft, .grizzly, .smelter, .hf, .dict, .regs, .twin, .fm, .sent] s t := by
  unfold execXcEpochGo at h
  refine ran_only (popRecord_only _ s _ (fun r g t e => ?_) (by with_unfolding_all decide)) h
  split at e
  · cases e
    exact .ite (peerDecides_only ..).mono (.refl ..)
  · exact nomatch e

theorem execXcEpochAbort_only (s : State) (t : State)
    (h : execXcEpochAbort s = .next t) : Alters [.power, .modes, .sv, .links, .xc, .seams, .closing, .shaft, .grizzly, .smelter, .hf, .dict, .regs, .twin, .fm, .sent] s t := by
  unfold execXcEpochAbort at h
  refine ran_only (popRecord_only _ s _ (fun r g t e => ?_) (by with_unfolding_all decide)) h
  split at e
  · cases e
    exact .ite (peerDecides_only ..).mono (.refl ..)
  · exact nomatch e

theorem execShadowReadyReport_only (s : State) (t : State)
    (h : execShadowReadyReport s = .next t) : Alters [.power, .modes, .sv, .links, .xc, .seams, .closing, .shaft, .grizzly, .smelter, .hf, .dict, .regs, .twin, .fm, .sent] s t := by
  unfold execShadowReadyReport at h
  refine ran_only (popRecord_only _ s _ (fun r g t e => ?_) (by with_unfolding_all decide)) h
  split at e
  · cases e
    exact .ite (.set (fun p hp => by cases p <;> first | exact absurd ((Part.mem_bits ..).2 rfl) hp | rfl)) (.refl ..)
  · exact nomatch e

theorem execShadowApplyReport_only (s : State) (t : State)
    (h : execShadowApplyReport s = .next t) : Alters [.power, .modes, .sv, .links, .xc, .seams, .closing, .shaft, .grizzly, .smelter, .hf, .dict, .regs, .twin, .fm, .sent] s t := by
  unfold execShadowApplyReport at h
  refine ran_only (popRecord_only _ s _ (fun r g t e => ?_) (by with_unfolding_all decide)) h
  split at e
  · cases e
    exact .ite (.set (fun p hp => by cases p <;> first | exact absurd ((Part.mem_bits ..).2 rfl) hp | rfl)) (.refl ..)
  · exact nomatch e

theorem execDoorRecordTimeout_only (q : Fin 64) (s : State) (t : State)
    (h : execDoorRecordTimeout q s = .next t) : Alters [.grizzly, .regs, .twin, .fm, .sent] s t := by
  unfold execDoorRecordTimeout at h
  refine ran_only ?_ h
  repeat' first
    | with_reducible exact .refl _ _
    | assumption
    | with_unfolding_all decide
    | with_reducible refine .ite ?_ ?_
    | with_reducible refine .ite_snd ?_ ?_
    | with_reducible apply Alters.step (diverge_only ..)
    | with_reducible refine .fold ?_ (fun _ _ => ?_)
    | split

theorem execPhaseExposed_only (s : State) (t : State)
    (h : execPhaseExposed s = .next t) : Alters [.grizzly, .regs, .twin, .fm, .sent] s t := by
  unfold execPhaseExposed at h
  refine ran_only ?_ h
  repeat' first
    | with_reducible exact .refl _ _
    | assumption
    | with_unfolding_all decide
    | with_reducible refine .ite ?_ ?_
    | with_reducible refine .ite_snd ?_ ?_
    | with_reducible apply Alters.step (diverge_only ..)
    | with_reducible refine .fold ?_ (fun _ _ => ?_)
    | split

theorem execResync_only (s : State) (t : State)
    (h : execResync s = .next t) : Alters [.seams, .streams, .shaft, .slots, .regs, .twin, .sent] s t := by
  unfold execResync at h
  refine ran_only ?_ h
  repeat' first
    | with_reducible exact .refl _ _
    | assumption
    | with_unfolding_all decide
    | with_reducible refine .ite ?_ ?_
    | with_reducible refine .ite_snd ?_ ?_
    | with_reducible apply Alters.step (resync_only ..)
    | with_reducible refine .fold ?_ (fun _ _ => ?_)
    | split

theorem execLaneSetChange_only (set : LaneSet) (s : State) (t : State)
    (h : execLaneSetChange set s = .next t) : Alters [.modes, .sv, .links, .xc, .seams, .grizzly, .regs, .twin, .fm] s t := by
  unfold execLaneSetChange at h
  refine ran_only ?_ h
  repeat' first
    | with_reducible exact .refl _ _
    | assumption
    | with_unfolding_all decide
    | with_reducible refine .ite ?_ ?_
    | with_reducible refine .ite_snd ?_ ?_
    | with_reducible apply Alters.step (laneSet_only ..)
    | with_reducible refine .fold ?_ (fun _ _ => ?_)
    | split

theorem execCanaryBoundary_only (s : State) (t : State)
    (h : execCanaryBoundary s = .next t) : Alters [.power, .modes, .closing, .streams, .grizzly, .hf, .dict, .regs, .twin, .fm, .sent] s t := by
  unfold execCanaryBoundary at h
  refine ran_only ?_ h
  repeat' first
    | with_reducible exact .refl _ _
    | assumption
    | with_unfolding_all decide
    | with_reducible refine .ite ?_ ?_
    | with_reducible refine .ite_snd ?_ ?_
    | with_reducible apply Alters.step (canary_only ..)
    | with_reducible refine .fold ?_ (fun _ _ => ?_)
    | split

theorem execAttachAligned_only (s : State) (t : State)
    (h : execAttachAligned s = .next t) : Alters [.regs, .twin, .sent] s t := by
  unfold execAttachAligned at h
  refine ran_only ?_ h
  repeat' first
    | with_reducible exact .refl _ _
    | assumption
    | with_unfolding_all decide
    | with_reducible refine .ite ?_ ?_
    | with_reducible refine .ite_snd ?_ ?_
    | with_reducible apply Alters.step (attachAligned_only ..)
    | with_reducible refine .fold ?_ (fun _ _ => ?_)
    | split

theorem execAttachCopied_only (sidx time96 rastpos inc : Nat) (s : State) (t : State)
    (h : execAttachCopied sidx time96 rastpos inc s = .next t) : Alters [.power, .modes, .sv, .grizzly, .hf, .regs, .twin, .sent] s t := by
  unfold execAttachCopied at h
  refine ran_only ?_ h
  repeat' first
    | with_reducible exact .refl _ _
    | assumption
    | with_unfolding_all decide
    | with_reducible refine .ite ?_ ?_
    | with_reducible refine .ite_snd ?_ ?_
    | with_reducible apply Alters.step (attachCopied_only ..)
    | with_reducible refine .fold ?_ (fun _ _ => ?_)
    | split

end Sys2Proof.Machine
end

