-- ==== Sys2Proof/Laws/Objects.lean ====
section
/-! SUPPORT. Rows of the object dictionary by blocks, and the readiness of the units under the defaults of the manual. -/

namespace Sys2Proof.Machine

set_option Elab.async false

/-- Every row covers a whole block of objects, or none of it. -/
def blockWise (a n b m : Nat) : Bool :=
  objectRows.all fun r =>
    (r.base + r.count ≤ a || a + n ≤ r.base) ||
    ((r.base ≤ a && a + n ≤ r.base + r.count) &&
      ((r.sub ≤ b && b + m ≤ r.sub + r.nsub) || r.sub + r.nsub ≤ b || b + m ≤ r.sub))

theorem find?_same {α : Type} {p q : α → Bool} (l : List α) (h : ∀ x ∈ l, p x = q x) : l.find? p = l.find? q := by
  induction l with
  | nil => rfl
  | cons x l ih =>
    rw [List.find?_cons, List.find?_cons, h x (by simp), ih fun y hy => h y (by simp [hy])]

/-- Within a block every object has the row of the first. -/
theorem objectRow_block {a n b m : Nat} (h : blockWise a n b m = true) {k j : Nat} (hk : k < n) (hj : j < m) (hb : b ≠ 0) :
    objectRow (a + k) (b + j) = objectRow a b := by
  unfold objectRow
  rw [if_neg (by omega), if_neg hb]
  refine find?_same _ fun r hr => ?_
  have := List.all_eq_true.1 h r hr
  simp only [Bool.and_eq_true, Bool.or_eq_true, decide_eq_true_eq] at this
  rw [Bool.eq_iff_iff]
  simp only [Row.hasIndex, Row.hasSub, Bool.and_eq_true, decide_eq_true_eq]
  omega

/-- The value of an object that nothing has written. -/
def defaults (index sub : Nat) : Nat := defaultOf (key index sub)

theorem defaults_eq (index sub : Nat) (h : sub < 256) :
    defaults index sub = match objectRow index sub with | some r => r.dflt (index - r.base) | none => 0 := by
  have d : key index sub / 256 = index := by unfold key; omega
  have m : key index sub % 256 = sub := by unfold key; omega
  show (match objectRow (key index sub / 256) (key index sub % 256) with
    | some r => r.dflt (key index sub / 256 - r.base)
    | none => 0) = _
  rw [d, m]

/-- A block of objects whose defaults are those of a function. -/
def blockIs (a n b m : Nat) (f : Nat → Nat) : Bool :=
  blockWise a n b m && (objectRow a b).any fun r => r.base == a && (List.range n).all fun k => r.dflt k == f k

/-- Within such a block every object has its default. -/
theorem defaults_block {a n b m : Nat} {f : Nat → Nat} (h : blockIs a n b m f = true) {k j : Nat} (hk : k < n) (hj : j < m)
    (hb : b ≠ 0) (ht : b + m ≤ 256) : defaults (a + k) (b + j) = f k := by
  simp only [blockIs, Bool.and_eq_true] at h
  obtain ⟨r, e, o⟩ := (Option.any_eq_true _ _).1 h.2
  simp only [Bool.and_eq_true, beq_iff_eq, List.all_eq_true, List.mem_range] at o
  rw [defaults_eq _ _ (by omega), objectRow_block h.1 hk hj hb, e]
  simp [o.1, o.2 k hk]

theorem defaults_column {a n b : Nat} {f : Nat → Nat} (h : blockIs a n b 1 f = true) (hb : b ≠ 0) (ht : b < 256) :
    ∀ k ∈ List.range n, defaults (a + k) b = f k :=
  fun k hk => defaults_block (j := 0) h (List.mem_range.1 hk) (by decide) hb (by omega)

set_option maxRecDepth 65536

theorem seam_source : blockIs 0x2400 48 1 1 id = true := by decide
theorem seam_ctrl : blockIs 0x2400 48 2 1 (fun _ => 0xFF) = true := by decide
theorem link_pattern : blockIs 0x2200 48 4 1 (fun _ => 0) = true := by decide
theorem link_loop : blockIs 0x2200 48 5 1 (fun _ => 0) = true := by decide
theorem link_marker : blockIs 0x2200 48 6 1 (fun _ => 0) = true := by decide
theorem stream_span : blockIs 0x2840 64 1 1 (fun _ => 0) = true := by decide
theorem word_select : blockIs 0x2620 64 1 1 (fun _ => 0xFFFFFFFF) = true := by decide
theorem word_mask2 : blockIs 0x2620 64 2 1 (fun _ => 0) = true := by decide
theorem word_mask3 : blockIs 0x2620 64 3 1 (fun _ => 0) = true := by decide
theorem word_mask4 : blockIs 0x2620 64 4 1 (fun _ => 0) = true := by decide
theorem word_mask5 : blockIs 0x2620 64 5 1 (fun _ => 0) = true := by decide
theorem counter_input : blockIs 0x2668 16 2 1 (fun _ => 0xFF) = true := by decide
theorem level_terms : blockIs 0x2610 16 1 32 (fun _ => 0xFFFFFFFFFFFFFFFF) = true := by decide
theorem level_actions : blockIs 0x2610 16 0x21 4 (fun _ => actionDefault) = true := by decide
theorem slot_kind : blockIs 0x2B10 32 1 1 (fun _ => 0) = true := by decide
theorem slot_scope : blockIs 0x2B10 32 2 1 (fun _ => 1) = true := by decide
theorem slot_channelA : blockIs 0x2B10 32 3 1 (fun _ => 0xFFFF) = true := by decide
theorem slot_channelB : blockIs 0x2B10 32 4 1 (fun _ => 0xFFFF) = true := by decide
theorem slot_lineLo : blockIs 0x2B10 32 7 1 (fun _ => 0) = true := by decide
theorem slot_lineHi : blockIs 0x2B10 32 8 1 (fun _ => 16383) = true := by decide
theorem slot_dataMask : blockIs 0x2B10 32 0x0B 1 (fun _ => 0) = true := by decide
theorem slot_busBase : blockIs 0x2B10 32 0x0E 1 (fun _ => 0) = true := by decide
theorem slot_busWidth : blockIs 0x2B10 32 0x0F 1 (fun _ => 1) = true := by decide
theorem slot_golden : blockIs 0x2B10 32 0x12 1 (fun _ => 0) = true := by decide

/-- The crossbar of the manual connects every seam to its own link and to no CTRL stream (R106, R110). -/
theorem linksReady_defaults (mode : Nat) : linksReady defaults mode = true := by
  have s := defaults_column seam_source (by decide) (by decide)
  have b := defaults_column seam_ctrl (by decide) (by decide)
  have c := defaults_column link_pattern (by decide) (by decide)
  have d := defaults_column link_loop (by decide) (by decide)
  have e := defaults_column link_marker (by decide) (by decide)
  simp only [linksReady, Bool.and_eq_true, Bool.or_eq_true, List.all_eq_true, beq_iff_eq, decide_eq_true_eq]
  refine ⟨⟨?_, fun k hk => .inr (b k hk)⟩, .inr fun k hk => ⟨⟨c k hk, d k hk⟩, e k hk⟩⟩
  rw [List.map_congr_left s, List.map_id]
  exact (List.nodup_range (n := 48)).filter _

theorem encodersReady_defaults : encodersReady defaults = true := by
  refine List.all_eq_true.2 fun q hq => ?_
  rw [defaults_column stream_span (by decide) (by decide) q hq]
  rfl

theorem words_defaults (k : Nat) (hk : k ∈ List.range 64) : ∀ f ∈ [2, 3, 4, 5], defaults (0x2620 + k) f = 0 := by
  simp only [List.mem_cons, List.not_mem_nil, or_false]
  rintro f (rfl | rfl | rfl | rfl)
  · exact defaults_column word_mask2 (by decide) (by decide) k hk
  · exact defaults_column word_mask3 (by decide) (by decide) k hk
  · exact defaults_column word_mask4 (by decide) (by decide) k hk
  · exact defaults_column word_mask5 (by decide) (by decide) k hk

/-- The Shaft of the manual's defaults violates no rule (R159, R164). -/
theorem shaftReady_defaults : shaftReady defaults = true := by
  unfold shaftReady
  simp only [Bool.and_eq_true]
  refine ⟨⟨⟨⟨⟨?_, by decide⟩, by decide⟩, ?_⟩, ?_⟩, ?_⟩
  · refine List.all_eq_true.2 fun k hk => List.all_eq_true.2 fun j hj => ?_
    rw [Bool.or_eq_true]
    refine .inr (List.all_eq_true.2 fun f hf => ?_)
    rw [words_defaults k hk f hf]
    simp [slotBits]
  · refine List.all_eq_true.2 fun k hk => List.all_eq_true.2 fun j hj => ?_
    rw [defaults_block level_actions (List.mem_range.1 hk) (List.mem_range.1 hj) (by decide) (by decide)]
    decide
  · refine List.all_eq_true.2 fun k hk => List.all_eq_true.2 fun j hj => ?_
    rw [defaults_block level_terms (List.mem_range.1 hk) (List.mem_range.1 hj) (by decide) (by decide)]
    decide
  · refine List.all_eq_true.2 fun k hk => ?_
    rw [defaults_column counter_input (by decide) (by decide) k hk]
    decide

/-- A slot of the manual's defaults, OFF and with no channel, passes every check whatever its kind (R268). -/
theorem assayReady_defaults (mode : Nat) : assayReady defaults mode = true := by
  refine List.all_eq_true.2 fun k hk => ?_
  have at_ {b : Nat} {v : Nat} (h : blockIs 0x2B10 32 b 1 (fun _ => v) = true) (hb : b ≠ 0) (ht : b < 256) :
      defaults (slotObject k) b = v := defaults_column h hb ht k hk
  have e := at_ slot_kind (by decide) (by decide)
  have sc := at_ slot_scope (by decide) (by decide)
  have a := at_ slot_channelA (by decide) (by decide)
  have b := at_ slot_channelB (by decide) (by decide)
  have lo := at_ slot_lineLo (by decide) (by decide)
  have hi := at_ slot_lineHi (by decide) (by decide)
  have m := at_ slot_dataMask (by decide) (by decide)
  have w := at_ slot_busBase (by decide) (by decide)
  have n := at_ slot_busWidth (by decide) (by decide)
  have g := at_ slot_golden (by decide) (by decide)
  have d : dataChannels defaults k = [] := by
    unfold dataChannels
    rw [m]
    rfl
  simp only [slotReady, e, sc, a, b, lo, hi, w, n, g, d]
  rfl

/-- With nothing staged and nothing configured every value to come is the manual's default (R24). -/
theorem next_defaults {s : State} (l : s.dict.live = []) (g : s.modes.staged = []) : s.next = defaults := by
  funext i u
  simp [State.next, State.cfg, l, g, ObjMap.find, ObjMap.value, defaults]

theorem surveyorReady_defaults : surveyorReady defaults = true := by decide

/-- Under the defaults every unit is READY for a change that ends in Ready, on an instant that the raster has, when no
partner has to report, nothing is owed and the module is not too hot (R24). -/
theorem notReady_defaults {s : State} {c : Committed} {instant : Bool} (n : s.next = defaults) (t : c.target = 1)
    (o : instant = true → s.occurs c.at_ = true) (w : s.owes = false) (h : s.needsShadow = false)
    (p : s.modes.swapStaged = false) (m : s.mode = 0 ∨ s.mode = 1) (x : s.tooHot = false) : s.notReady c 0 instant = 0 := by
  have r : c.run = 1 := by rw [Committed.run, t]; rfl
  have i : (instant && !s.occurs c.at_) = false := by
    cases instant
    · rfl
    · rw [o rfl]; rfl
  have k : captureMode 1 = false := rfl
  have a : armsUnder defaults 1 = [] := rfl
  have u : (s.mode == 7) = false := by rcases m with m | m <;> rw [m] <;> rfl
  have f : s.fenceBad = false := by
    unfold State.fenceBad
    rw [n]
    decide
  unfold State.notReady
  simp only [n, f, t, r, i, k, a, w, h, p, x, u, surveyorReady_defaults, linksReady_defaults, encodersReady_defaults,
    shaftReady_defaults, assayReady_defaults, Bool.not_true, Bool.false_and, Bool.and_false, Bool.or_false,
    List.isEmpty_nil]
  simp

end Sys2Proof.Machine
end

