-- ==== Sys2Proof/Laws/PerInstr.lean ====
section
/-! SUPPORT. Per-command facts about operands: which commands the outside can present in a form that is refused. -/

namespace Sys2Proof.Laws

/-- Only the commands whose operand is a list of a fixed length can have operands that no wire, bus or sensor bank carries:
a received frame, a Crosscut block, a sample of the sensors and the counts of a calibration. -/
def IllFormed.Statement (i : Instr) : Prop :=
  i.wf = false →
    (∃ l f, i = .probeFrameReceive l f ∧ f.ok = false) ∨ (∃ b, i = .xcBlockReceive b ∧ b.ok = false) ∨
    (∃ r, i = .sensorSample r ∧ r.length ≠ sensorCount) ∨ ∃ h, i = .calComplete h ∧ histOk h = false

theorem IllFormed.powerOn (nodeId : BitVec 7) (twinSel : Bool) (dncTied : Bool) : IllFormed.Statement (.powerOn nodeId twinSel dncTied) :=
  nofun
theorem IllFormed.bootComplete : IllFormed.Statement .bootComplete := nofun
theorem IllFormed.resetNAssert (periods : Nat) : IllFormed.Statement (.resetNAssert periods) := nofun
theorem IllFormed.moduleReset (via : Path) (data : List Byte) : IllFormed.Statement (.moduleReset via data) := nofun
theorem IllFormed.perstNAssert (periods : Nat) : IllFormed.Statement (.perstNAssert periods) := nofun
theorem IllFormed.perstNRelease : IllFormed.Statement .perstNRelease := nofun
theorem IllFormed.configRequest (r : ConfigAccess) : IllFormed.Statement (.configRequest r) :=
  nofun
theorem IllFormed.dlDown : IllFormed.Statement .dlDown := nofun
theorem IllFormed.functionLevelResetPf0 : IllFormed.Statement .functionLevelResetPf0 := nofun
theorem IllFormed.functionLevelResetPf1 : IllFormed.Statement .functionLevelResetPf1 := nofun
theorem IllFormed.foremanWatchdogTrip (cause : WatchdogCause) : IllFormed.Statement (.foremanWatchdogTrip cause) := nofun
theorem IllFormed.powerFailDetect (cause : PowerFailCause) : IllFormed.Statement (.powerFailDetect cause) := nofun
theorem IllFormed.powerFailRelease : IllFormed.Statement .powerFailRelease := nofun
theorem IllFormed.foremanBrownout : IllFormed.Statement .foremanBrownout := nofun
theorem IllFormed.stagedObjectWrite (via : Path) (index sub : Nat) (data : List Byte) : IllFormed.Statement (.stagedObjectWrite via index sub data) :=
  nofun
theorem IllFormed.commit (via : Path) : IllFormed.Statement (.commit via) := nofun
theorem IllFormed.cancel (via : Path) : IllFormed.Statement (.cancel via) := nofun
theorem IllFormed.fabricPowerUpDone (ok : Bool) (rcalOhms : Nat) : IllFormed.Statement (.fabricPowerUpDone ok rcalOhms) :=
  nofun
theorem IllFormed.hbmTrainingDone (ok : Bool) : IllFormed.Statement (.hbmTrainingDone ok) := nofun
theorem IllFormed.samplePllLock : IllFormed.Statement .samplePllLock := nofun
theorem IllFormed.readyEntryLinkTimeout : IllFormed.Statement .readyEntryLinkTimeout := nofun
theorem IllFormed.readyEntry (missing : BitVec 11) : IllFormed.Statement (.readyEntry missing) := nofun
theorem IllFormed.readyDeadline (missing : BitVec 11) : IllFormed.Statement (.readyDeadline missing) := nofun
theorem IllFormed.epochInstant : IllFormed.Statement .epochInstant := nofun
theorem IllFormed.applyCheckEnd (failed : BitVec 11) : IllFormed.Statement (.applyCheckEnd failed) := nofun
theorem IllFormed.rollbackEpoch (failed : BitVec 11) : IllFormed.Statement (.rollbackEpoch failed) := nofun
theorem IllFormed.forcedEpoch : IllFormed.Statement .forcedEpoch := nofun
theorem IllFormed.hbmSelfRefreshEntry : IllFormed.Statement .hbmSelfRefreshEntry := nofun
theorem IllFormed.refClockLost : IllFormed.Statement .refClockLost := nofun
theorem IllFormed.refClockReturn (stretched : Nat) : IllFormed.Statement (.refClockReturn stretched) := nofun
theorem IllFormed.dllLock : IllFormed.Statement .dllLock := nofun
theorem IllFormed.dllFault : IllFormed.Statement .dllFault := nofun
theorem IllFormed.syncPulse (pin : Fin 4) (p : Pulse) : IllFormed.Statement (.syncPulse pin p) :=
  nofun
theorem IllFormed.trsWord (k : Fin 48) (channel : Fin 16) : IllFormed.Statement (.trsWord k channel) := nofun
theorem IllFormed.refLineStart (at_ : Nat) : IllFormed.Statement (.refLineStart at_) := nofun
theorem IllFormed.refFrameComplete (f : RefFrame) : IllFormed.Statement (.refFrameComplete f) :=
  nofun
theorem IllFormed.missingLineStart : IllFormed.Statement .missingLineStart := nofun
theorem IllFormed.noReferenceTimeout : IllFormed.Statement .noReferenceTimeout := nofun
theorem IllFormed.holdoverLong : IllFormed.Statement .holdoverLong := nofun
theorem IllFormed.relock (stretched : Nat) : IllFormed.Statement (.relock stretched) := nofun
theorem IllFormed.timeOfDay (via : Path) (data : List Byte) : IllFormed.Statement (.timeOfDay via data) := nofun
theorem IllFormed.timeSet (via : Path) (data : List Byte) : IllFormed.Statement (.timeSet via data) := nofun
theorem IllFormed.ppsInEdge : IllFormed.Statement .ppsInEdge := nofun
theorem IllFormed.ppsLost : IllFormed.Statement .ppsLost := nofun
theorem IllFormed.ppsOutRise : IllFormed.Statement .ppsOutRise := nofun
theorem IllFormed.ppsOutFall : IllFormed.Statement .ppsOutFall := nofun
theorem IllFormed.linkClockRecovered (l : LinkId) : IllFormed.Statement (.linkClockRecovered l) := nofun
theorem IllFormed.linkLevelsConverged (l : LinkId) : IllFormed.Statement (.linkLevelsConverged l) := nofun
theorem IllFormed.linkSearchTimeout (l : LinkId) : IllFormed.Statement (.linkSearchTimeout l) := nofun
theorem IllFormed.noPartnerRetry (l : LinkId) : IllFormed.Statement (.noPartnerRetry l) := nofun
theorem IllFormed.linkLevelsTimeout (l : LinkId) : IllFormed.Statement (.linkLevelsTimeout l) := nofun
theorem IllFormed.linkFrameTimeout (l : LinkId) : IllFormed.Statement (.linkFrameTimeout l) := nofun
theorem IllFormed.linkFecTimeout (l : LinkId) : IllFormed.Statement (.linkFecTimeout l) := nofun
theorem IllFormed.partnerRxFail (l : LinkId) : IllFormed.Statement (.partnerRxFail l) := nofun
theorem IllFormed.probeFrameReceive (l : LinkId) (f : RxFrame) : IllFormed.Statement (.probeFrameReceive l f) :=
  fun w => .inl ⟨l, f, rfl, w⟩
theorem IllFormed.linkUncorrectableLoss (l : LinkId) : IllFormed.Statement (.linkUncorrectableLoss l) := nofun
theorem IllFormed.linkSequenceLoss (l : LinkId) : IllFormed.Statement (.linkSequenceLoss l) := nofun
theorem IllFormed.linkDrift (l : LinkId) : IllFormed.Statement (.linkDrift l) := nofun
theorem IllFormed.signalLost (l : LinkId) : IllFormed.Statement (.signalLost l) := nofun
theorem IllFormed.controlMessageAckTimeout (n : Fin 48) : IllFormed.Statement (.controlMessageAckTimeout n) := nofun
theorem IllFormed.feMessage (via : Path) (n : Fin 48) (data : List Byte) : IllFormed.Statement (.feMessage via n data) :=
  nofun
theorem IllFormed.counterClear (via : Path) (n : Fin 48) (data : List Byte) : IllFormed.Statement (.counterClear via n data) :=
  nofun
theorem IllFormed.seamJoin (s : Fin 48) : IllFormed.Statement (.seamJoin s) := nofun
theorem IllFormed.ingotClose (s : Fin 48) (copy : Copy) : IllFormed.Statement (.ingotClose s copy) := nofun
theorem IllFormed.smelterSeal (s : Fin 48) (copy : Copy) : IllFormed.Statement (.smelterSeal s copy) := nofun
theorem IllFormed.grizzlyDoor (q : Fin 64) : IllFormed.Statement (.grizzlyDoor q) := nofun
theorem IllFormed.shaftDecision : IllFormed.Statement .shaftDecision := nofun
theorem IllFormed.markOutAssert (n : Fin 8) : IllFormed.Statement (.markOutAssert n) := nofun
theorem IllFormed.markOutPulseEnd (n : Fin 8) : IllFormed.Statement (.markOutPulseEnd n) := nofun
theorem IllFormed.extLineCrossing (line : Fin 40) (taps : BitVec 64) (nextTap : Bool) : IllFormed.Statement (.extLineCrossing line taps nextTap) :=
  nofun
theorem IllFormed.lineStuck (line : Fin 40) : IllFormed.Statement (.lineStuck line) := nofun
theorem IllFormed.flagInputAccept (n : Fin 16) (level : Bool) : IllFormed.Statement (.flagInputAccept n level) := nofun
theorem IllFormed.segmentPostDone : IllFormed.Statement .segmentPostDone := nofun
theorem IllFormed.segmentRearm : IllFormed.Statement .segmentRearm := nofun
theorem IllFormed.segRelease (via : Path) (data : List Byte) : IllFormed.Statement (.segRelease via data) := nofun
theorem IllFormed.calStart (via : Path) (data : List Byte) : IllFormed.Statement (.calStart via data) := nofun
theorem IllFormed.calComplete (hist : List (List Nat)) : IllFormed.Statement (.calComplete hist) :=
  fun w => .inr (.inr (.inr ⟨hist, rfl, w⟩))
theorem IllFormed.drainBinEnd : IllFormed.Statement .drainBinEnd := nofun
theorem IllFormed.ringFullTimeout (q : Fin 64) : IllFormed.Statement (.ringFullTimeout q) := nofun
theorem IllFormed.heldListRejoin (q : Fin 64) : IllFormed.Statement (.heldListRejoin q) := nofun
theorem IllFormed.suspensionEnd (cause : SuspendCause) : IllFormed.Statement (.suspensionEnd cause) := nofun
theorem IllFormed.pcieLinkDown (recovery : Bool) : IllFormed.Statement (.pcieLinkDown recovery) := nofun
theorem IllFormed.pcieLinkL0 (speed : Nat) (lanes : PcieLanes) (hostFlit : Bool) : IllFormed.Statement (.pcieLinkL0 speed lanes hostFlit) :=
  nofun
theorem IllFormed.imageWrite (p : Producer) (ecc : EccRead) (headerBad : Bool) : IllFormed.Statement (.imageWrite p ecc headerBad) :=
  nofun
theorem IllFormed.cursorRecordWrite (ring : Fin 64) : IllFormed.Statement (.cursorRecordWrite ring) := nofun
theorem IllFormed.eventQueueEntryWrite : IllFormed.Statement .eventQueueEntryWrite := nofun
theorem IllFormed.rdStart (via : Path) : IllFormed.Statement (.rdStart via) := nofun
theorem IllFormed.rdStop (via : Path) : IllFormed.Statement (.rdStop via) := nofun
theorem IllFormed.readoutDone : IllFormed.Statement .readoutDone := nofun
theorem IllFormed.smjEnable : IllFormed.Statement .smjEnable := nofun
theorem IllFormed.smjDisable : IllFormed.Statement .smjDisable := nofun
theorem IllFormed.smjTailWrite (v : Word) : IllFormed.Statement (.smjTailWrite v) := nofun
theorem IllFormed.smjHaltedClear : IllFormed.Statement .smjHaltedClear := nofun
theorem IllFormed.jobDescriptorFetch : IllFormed.Statement .jobDescriptorFetch := nofun
theorem IllFormed.jobDescriptorReceive (data : Option (List Byte)) : IllFormed.Statement (.jobDescriptorReceive data) :=
  nofun
theorem IllFormed.jobStart : IllFormed.Statement .jobStart := nofun
theorem IllFormed.jobComplete (engine : Fin 16) (slot : Nat) : IllFormed.Statement (.jobComplete engine slot) := nofun
theorem IllFormed.assayResultClose (k : Fin 32) : IllFormed.Statement (.assayResultClose k) := nofun
theorem IllFormed.assayResultEnqueue (k : Fin 32) : IllFormed.Statement (.assayResultEnqueue k) := nofun
theorem IllFormed.ringEnable (ring : Fin 65) : IllFormed.Statement (.ringEnable ring) := nofun
theorem IllFormed.ringDisable (ring : Fin 65) : IllFormed.Statement (.ringDisable ring) := nofun
theorem IllFormed.ringRdPosWrite (ring : Fin 65) (v : Word) : IllFormed.Statement (.ringRdPosWrite ring v) := nofun
theorem IllFormed.msixDelayExpiry (ring : Fin 65) : IllFormed.Statement (.msixDelayExpiry ring) := nofun
theorem IllFormed.msixTableWrite (fn : Fn) (offset : Nat) (v : Word) : IllFormed.Statement (.msixTableWrite fn offset v) :=
  nofun
theorem IllFormed.busMasterClear : IllFormed.Statement .busMasterClear := nofun
theorem IllFormed.busMasterSet : IllFormed.Statement .busMasterSet := nofun
theorem IllFormed.d3hotEntry : IllFormed.Statement .d3hotEntry := nofun
theorem IllFormed.d0Return : IllFormed.Statement .d0Return := nofun
theorem IllFormed.memorySpaceDisable (fn : Fn) : IllFormed.Statement (.memorySpaceDisable fn) := nofun
theorem IllFormed.completionReceive (tag : Nat) (st : CplStatus) (data : List Byte) : IllFormed.Statement (.completionReceive tag st data) :=
  nofun
theorem IllFormed.completionTimeout (tag : Nat) : IllFormed.Statement (.completionTimeout tag) := nofun
theorem IllFormed.tagRelease (tag : Nat) : IllFormed.Statement (.tagRelease tag) := nofun
theorem IllFormed.ideKeyProgram (k : Fin 4) (p : IdeProgram) (session : Bool) : IllFormed.Statement (.ideKeyProgram k p session) :=
  nofun
theorem IllFormed.ideStreamLost (k : Fin 4) : IllFormed.Statement (.ideStreamLost k) := nofun
theorem IllFormed.pf1MemoryRequest (r : Pf1Access) : IllFormed.Statement (.pf1MemoryRequest r) := nofun
theorem IllFormed.aspmL1Entry : IllFormed.Statement .aspmL1Entry := nofun
theorem IllFormed.l0pRequest (width : Nat) : IllFormed.Statement (.l0pRequest width) := nofun
theorem IllFormed.dictRead (via : Path) (index sub : Nat) : IllFormed.Statement (.dictRead via index sub) := nofun
theorem IllFormed.dictWrite (via : Path) (index sub : Nat) (data : List Byte) : IllFormed.Statement (.dictWrite via index sub data) :=
  nofun
theorem IllFormed.store (via : Path) : IllFormed.Statement (.store via) := nofun
theorem IllFormed.storeErase (via : Path) : IllFormed.Statement (.storeErase via) := nofun
theorem IllFormed.storeCommitDone (ok : Bool) : IllFormed.Statement (.storeCommitDone ok) := nofun
theorem IllFormed.canRead (port : CanPort) (client : BitVec 8) (brs : Bool) (index sub token : Nat) : IllFormed.Statement (.canRead port client brs index sub token) :=
  nofun
theorem IllFormed.canWrite (port : CanPort) (client : BitVec 8) (brs : Bool) (index sub token len : Nat) (data : List Byte) : IllFormed.Statement (.canWrite port client brs index sub token len data) :=
  nofun
theorem IllFormed.canWriteInit (port : CanPort) (client : BitVec 8) (brs : Bool) (index sub token len : Nat) : IllFormed.Statement (.canWriteInit port client brs index sub token len) :=
  nofun
theorem IllFormed.canSegment (port : CanPort) (client : BitVec 8) (brs : Bool) (seg : Nat) (data : List Byte) : IllFormed.Statement (.canSegment port client brs seg data) :=
  nofun
theorem IllFormed.canEnd (port : CanPort) (client : BitVec 8) (brs : Bool) (segments : Nat) (crc : BitVec 16) : IllFormed.Statement (.canEnd port client brs segments crc) :=
  nofun
theorem IllFormed.canAck (port : CanPort) (client : BitVec 8) (brs : Bool) (next : Nat) : IllFormed.Statement (.canAck port client brs next) :=
  nofun
theorem IllFormed.canAbort (port : CanPort) (client : BitVec 8) (brs : Bool) (index sub token : Nat) : IllFormed.Statement (.canAbort port client brs index sub token) :=
  nofun
theorem IllFormed.canFrameIgnored (port : CanPort) : IllFormed.Statement (.canFrameIgnored port) := nofun
theorem IllFormed.canTimeout (port : CanPort) (client : BitVec 8) : IllFormed.Statement (.canTimeout port client) :=
  nofun
theorem IllFormed.canBusOffRecovery (port : CanPort) : IllFormed.Statement (.canBusOffRecovery port) := nofun
theorem IllFormed.slotGoRead (fn : Fn) (k : Fin 16) (stream : Option (Fin 4)) : IllFormed.Statement (.slotGoRead fn k stream) :=
  nofun
theorem IllFormed.slotGoWrite (fn : Fn) (k : Fin 16) (stream : Option (Fin 4)) : IllFormed.Statement (.slotGoWrite fn k stream) :=
  nofun
theorem IllFormed.slotGoPartnerRead (fn : Fn) (k : Fin 16) (stream : Option (Fin 4)) : IllFormed.Statement (.slotGoPartnerRead fn k stream) :=
  nofun
theorem IllFormed.slotGoPartnerWrite (fn : Fn) (k : Fin 16) (stream : Option (Fin 4)) : IllFormed.Statement (.slotGoPartnerWrite fn k stream) :=
  nofun
theorem IllFormed.secureSessionTimeout (k : Fin 8) : IllFormed.Statement (.secureSessionTimeout k) := nofun
theorem IllFormed.partnerRequestReceive : IllFormed.Statement .partnerRequestReceive := nofun
theorem IllFormed.claimRead (m : Master) (i : Fin 16) (zeroLength : Bool) : IllFormed.Statement (.claimRead m i zeroLength) :=
  nofun
theorem IllFormed.claimRelease (m : Master) (i : Fin 16) (owner : BitVec 4) : IllFormed.Statement (.claimRelease m i owner) :=
  nofun
theorem IllFormed.claimForceRelease (i : Fin 16) : IllFormed.Statement (.claimForceRelease i) := nofun
theorem IllFormed.cageSend (side : CageSide) : IllFormed.Statement (.cageSend side) := nofun
theorem IllFormed.cagePop (side : CageSide) : IllFormed.Statement (.cagePop side) := nofun
theorem IllFormed.bellRaise (side : CageSide) (mask : Word) : IllFormed.Statement (.bellRaise side mask) := nofun
theorem IllFormed.bellClear (side : CageSide) (mask : Word) : IllFormed.Statement (.bellClear side mask) := nofun
theorem IllFormed.bellMaskWrite (side : CageSide) (mask : Word) : IllFormed.Statement (.bellMaskWrite side mask) := nofun
theorem IllFormed.voteMismatch (field : VotedField) (c0 c1 c2 : Nat) : IllFormed.Statement (.voteMismatch field c0 c1 c2) :=
  nofun
theorem IllFormed.skipPointerMismatch (k : SkipId) (writing reading : Bool) : IllFormed.Statement (.skipPointerMismatch k writing reading) :=
  nofun
theorem IllFormed.skipFlush (k : SkipId) (writing reading : Bool) : IllFormed.Statement (.skipFlush k writing reading) :=
  nofun
theorem IllFormed.registerWrite (m : Master) (w : RegWrite) : IllFormed.Statement (.registerWrite m w) := nofun
theorem IllFormed.pairElection (peer : PeerInfo) : IllFormed.Statement (.pairElection peer) := nofun
theorem IllFormed.xcBlockReceive (b : XcBlock) : IllFormed.Statement (.xcBlockReceive b) :=
  fun w => .inr (.inl ⟨b, rfl, w⟩)
theorem IllFormed.xcHdrRecord : IllFormed.Statement .xcHdrRecord := nofun
theorem IllFormed.xcDoorRecord : IllFormed.Statement .xcDoorRecord := nofun
theorem IllFormed.xcCursorRecord : IllFormed.Statement .xcCursorRecord := nofun
theorem IllFormed.xcConfirmRecord : IllFormed.Statement .xcConfirmRecord := nofun
theorem IllFormed.xcAckRecord : IllFormed.Statement .xcAckRecord := nofun
theorem IllFormed.xcRingRecord : IllFormed.Statement .xcRingRecord := nofun
theorem IllFormed.xcSyncRecord : IllFormed.Statement .xcSyncRecord := nofun
theorem IllFormed.xcNackRecord : IllFormed.Statement .xcNackRecord := nofun
theorem IllFormed.xcEpochGo : IllFormed.Statement .xcEpochGo := nofun
theorem IllFormed.xcEpochAbort : IllFormed.Statement .xcEpochAbort := nofun
theorem IllFormed.shadowReadyReport : IllFormed.Statement .shadowReadyReport := nofun
theorem IllFormed.shadowApplyReport : IllFormed.Statement .shadowApplyReport := nofun
theorem IllFormed.doorRecordTimeout (q : Fin 64) : IllFormed.Statement (.doorRecordTimeout q) := nofun
theorem IllFormed.phaseExposed : IllFormed.Statement .phaseExposed := nofun
theorem IllFormed.resync : IllFormed.Statement .resync := nofun
theorem IllFormed.laneSetChange (set : LaneSet) : IllFormed.Statement (.laneSetChange set) := nofun
theorem IllFormed.canaryBoundary : IllFormed.Statement .canaryBoundary := nofun
theorem IllFormed.roleSwap (via : Path) (data : List Byte) : IllFormed.Statement (.roleSwap via data) := nofun
theorem IllFormed.detach (via : Path) (data : List Byte) : IllFormed.Statement (.detach via data) := nofun
theorem IllFormed.attachAligned : IllFormed.Statement .attachAligned := nofun
theorem IllFormed.attachCopied (sidx time96 rastpos inc : Nat) : IllFormed.Statement (.attachCopied sidx time96 rastpos inc) :=
  nofun
theorem IllFormed.sensorSample (readings : List (Option Word)) : IllFormed.Statement (.sensorSample readings) :=
  fun w => .inr (.inr (.inl ⟨readings, rfl, by simpa [Instr.wf] using w⟩))
theorem IllFormed.thermalClear : IllFormed.Statement .thermalClear := nofun
theorem IllFormed.hbmHotClear (stack : Fin 2) : IllFormed.Statement (.hbmHotClear stack) := nofun
theorem IllFormed.throttleEngage : IllFormed.Statement .throttleEngage := nofun
theorem IllFormed.throttleRelease : IllFormed.Statement .throttleRelease := nofun
theorem IllFormed.faultRaise (f : FaultReq) (byHandler : Bool) : IllFormed.Statement (.faultRaise f byHandler) := nofun
theorem IllFormed.faultHandle : IllFormed.Statement .faultHandle := nofun
theorem IllFormed.faultAck (via : Path) (data : List Byte) : IllFormed.Statement (.faultAck via data) := nofun
theorem IllFormed.logEntryCommit : IllFormed.Statement .logEntryCommit := nofun
theorem IllFormed.logReadAt (via : Path) (data : List Byte) : IllFormed.Statement (.logReadAt via data) := nofun
theorem IllFormed.logClear (via : Path) (data : List Byte) : IllFormed.Statement (.logClear via data) := nofun
theorem IllFormed.updateBegin (via : Path) : IllFormed.Statement (.updateBegin via) := nofun
theorem IllFormed.updateData (via : Path) (data : List Byte) : IllFormed.Statement (.updateData via data) := nofun
theorem IllFormed.updateVerify (via : Path) : IllFormed.Statement (.updateVerify via) := nofun
theorem IllFormed.updateCommit (via : Path) : IllFormed.Statement (.updateCommit via) := nofun
theorem IllFormed.updateCommitDone (ok : Bool) : IllFormed.Statement (.updateCommitDone ok) := nofun
theorem IllFormed.updateAbort (via : Path) : IllFormed.Statement (.updateAbort via) := nofun
theorem IllFormed.updateConfirm (via : Path) : IllFormed.Statement (.updateConfirm via) := nofun
theorem IllFormed.ownerKey (via : Path) (data : List Byte) : IllFormed.Statement (.ownerKey via data) := nofun
theorem IllFormed.lcAdvance (via : Path) (data : List Byte) : IllFormed.Statement (.lcAdvance via data) := nofun
theorem IllFormed.lifeCycleSelfReset : IllFormed.Statement .lifeCycleSelfReset := nofun
theorem IllFormed.lcChallenge (via : Path) (nonce : List Byte) : IllFormed.Statement (.lcChallenge via nonce) := nofun
theorem IllFormed.lcDebugAuth (via : Path) (data : List Byte) : IllFormed.Statement (.lcDebugAuth via data) := nofun
theorem IllFormed.lcReturn (via : Path) (data : List Byte) : IllFormed.Statement (.lcReturn via data) := nofun
theorem IllFormed.keyLoad (via : Path) (data : List Byte) : IllFormed.Statement (.keyLoad via data) := nofun
theorem IllFormed.keyErase (via : Path) (data : List Byte) : IllFormed.Statement (.keyErase via data) := nofun
theorem IllFormed.useReset (via : Path) (data : List Byte) : IllFormed.Statement (.useReset via data) := nofun
theorem IllFormed.useReserveCommit (ok : Bool) : IllFormed.Statement (.useReserveCommit ok) := nofun
theorem IllFormed.resetNRelease (nodeId : BitVec 7) (twinSel : Bool) : IllFormed.Statement (.resetNRelease nodeId twinSel) :=
  nofun
theorem IllFormed.samplePllNoLock : IllFormed.Statement .samplePllNoLock := nofun
theorem IllFormed.prbsCheck (n : Fin 48) (bits : List Bool) : IllFormed.Statement (.prbsCheck n bits) := nofun
theorem IllFormed.canBusError (port : CanPort) (tx : Bool) : IllFormed.Statement (.canBusError port tx) := nofun
theorem IllFormed.l0pDeviceRequest (width : Nat) : IllFormed.Statement (.l0pDeviceRequest width) := nofun

end Sys2Proof.Laws
end

