-- ==== Sys2Proof/Laws/Requests.lean ====
section
/-! SUPPORT. A write that passes the checks of the dictionary: what the request then does, said once for every object. -/

namespace Sys2Proof.Machine

/-- No staged object has this key. -/
abbrev Plain (index sub : Nat) : Prop := (objectRow index sub).all (fun r => !r.staged (key index sub)) = true

/-- The checks of a write that passes, as one test. -/
def passes (s : State) (via : Path) (index sub : Nat) (data : List Byte) : Bool :=
  s.foremanRuns && accessCode via index sub true == 0 &&
    (objectRow index sub).any fun r => s.writeCode via r index sub data == 0

theorem Passes.of {s : State} {via : Path} {index sub : Nat} {data : List Byte}
    (h : passes s via index sub data = true) : Passes s via index sub data := by
  simp only [passes, Bool.and_eq_true, beq_iff_eq] at h
  obtain ⟨⟨a, b⟩, c⟩ := h
  obtain ⟨r, hr, e⟩ := (Option.any_eq_true _ _).1 c
  exact ⟨a, b, r, hr, by simpa using e⟩

/-- A write that passes is decided by the object's own rules alone (R305). -/
theorem Passes.dictWrite {s : State} {via : Path} {index sub : Nat} {data : List Byte}
    (h : Passes s via index sub data) :
    ∃ r, objectRow index sub = some r ∧ s.dictWrite via index sub data = s.applyWrite r index sub data := by
  obtain ⟨_, a, r, hr, c⟩ := h
  exact ⟨r, hr, by simp [State.dictWrite, a, c, hr]⟩

/-- The request of a write that passes: its rules, then the answer (R305, R307). -/
theorem Passes.request {s : State} {via : Path} {index sub : Nat} {data : List Byte}
    (h : Passes s via index sub data) : ∃ r, objectRow index sub = some r ∧
    s.request via index sub data =
      ((s.applyWrite r index sub data).2.send (.dictReply via index sub (s.applyWrite r index sub data).1 [])).finish
        index sub (s.applyWrite r index sub data).1 := by
  obtain ⟨r, hr, e⟩ := h.dictWrite
  refine ⟨r, hr, ?_⟩
  unfold State.request
  rw [if_pos h.1, e]

/-- Every request but MODULE_RESET ends with its answer (R307). -/
theorem finish_of_ne (s : State) (index sub code : Nat) (hf : (index == 0x2000 && sub == 0x0E) = false) :
    s.finish index sub code = s := by
  unfold State.finish
  rw [if_neg]
  rintro c
  simp_all

/-- An object with rules of the service, mode and time objects. -/
theorem Passes.service {s : State} {via : Path} {index sub : Nat} {data : List Byte} {t : Taken}
    (h : Passes s via index sub data) (ht : s.applyService index sub data = some t)
    (hs : Plain index sub := by decide) (hf : (index == 0x2000 && sub == 0x0E) = false := by decide) :
    s.request via index sub data = t.2.answer via index sub t.1 := by
  obtain ⟨r, hr, e⟩ := h.request
  have hs : r.staged (key index sub) = false := by simpa [Plain, hr] using hs
  have a : s.applyWrite r index sub data = t := by simp [State.applyWrite, hs, ht]
  rw [e, a, finish_of_ne _ _ _ _ hf, State.answer]

/-- An object with rules of the capture, delivery and pair objects. -/
theorem Passes.unit {s : State} {via : Path} {index sub : Nat} {data : List Byte} {t : Taken}
    (h : Passes s via index sub data) (hn : s.applyService index sub data = none)
    (ht : s.applyUnit index sub data = some t) (hs : Plain index sub)
    (hf : (index == 0x2000 && sub == 0x0E) = false) :
    s.request via index sub data = t.2.answer via index sub t.1 := by
  obtain ⟨r, hr, e⟩ := h.request
  have hs : r.staged (key index sub) = false := by simpa [Plain, hr] using hs
  have a : s.applyWrite r index sub data = t := by simp [State.applyWrite, hs, hn, ht]
  rw [e, a, finish_of_ne _ _ _ _ hf, State.answer]

/-- An object without rules of its own: its value is live at once. -/
theorem Passes.plain {s : State} {via : Path} {index sub : Nat} {data : List Byte}
    (h : Passes s via index sub data) (hn : s.applyService index sub data = none)
    (hu : s.applyUnit index sub data = none) (hs : Plain index sub)
    (hf : (index == 0x2000 && sub == 0x0E) = false) :
    s.request via index sub data = (s.writeLive index sub (leNat data)).answer via index sub 0 := by
  obtain ⟨r, hr, e⟩ := h.request
  have hs : r.staged (key index sub) = false := by simpa [Plain, hr] using hs
  have a : s.applyWrite r index sub data = taken (s.writeLive index sub (leNat data)) := by
    simp [State.applyWrite, hs, hn, hu]
  rw [e, a, finish_of_ne _ _ _ _ hf, State.answer]
  rfl

/-- A command whose meaning leaves `t` completes with it. -/
theorem completes_of_ran {c : Instr} {s t : State} (h : exec c s = ran s t) : Completes c s t := h

end Sys2Proof.Machine
end

