-- ==== Sys2Proof/Laws/State.lean ====
section
/-! SUPPORT. What each named update of the state leaves as it was, field by field, and what a read after it gives. -/

namespace Sys2Proof.Machine

variable (s : State)

/-! ### Sending -/

@[simp] theorem State.send_power (x : Sent) : (s.send x).power = s.power := rfl
@[simp] theorem State.send_modes (x : Sent) : (s.send x).modes = s.modes := rfl
@[simp] theorem State.send_sv (x : Sent) : (s.send x).sv = s.sv := rfl
@[simp] theorem State.send_links (x : Sent) : (s.send x).links = s.links := rfl
@[simp] theorem State.send_xc (x : Sent) : (s.send x).xc = s.xc := rfl
@[simp] theorem State.send_seams (x : Sent) : (s.send x).seams = s.seams := rfl
@[simp] theorem State.send_closing (x : Sent) : (s.send x).closing = s.closing := rfl
@[simp] theorem State.send_streams (x : Sent) : (s.send x).streams = s.streams := rfl
@[simp] theorem State.send_shaft (x : Sent) : (s.send x).shaft = s.shaft := rfl
@[simp] theorem State.send_grizzly (x : Sent) : (s.send x).grizzly = s.grizzly := rfl
@[simp] theorem State.send_smelter (x : Sent) : (s.send x).smelter = s.smelter := rfl
@[simp] theorem State.send_slots (x : Sent) : (s.send x).slots = s.slots := rfl
@[simp] theorem State.send_hf (x : Sent) : (s.send x).hf = s.hf := rfl
@[simp] theorem State.send_dict (x : Sent) : (s.send x).dict = s.dict := rfl
@[simp] theorem State.send_regs (x : Sent) : (s.send x).regs = s.regs := rfl
@[simp] theorem State.send_twin (x : Sent) : (s.send x).twin = s.twin := rfl
@[simp] theorem State.send_fm (x : Sent) : (s.send x).fm = s.fm := rfl
@[simp] theorem State.send_nv (x : Sent) : (s.send x).nv = s.nv := rfl
@[simp] theorem State.send_free (x : Sent) : (s.send x).free = s.free := rfl
@[simp] theorem State.send_pending (x : Sent) : (s.send x).pending = s.pending := rfl

/-! ### A probe link -/

@[simp] theorem State.onLink_power (n : Nat) (f : Link → Link) : (s.onLink n f).power = s.power := rfl
@[simp] theorem State.onLink_modes (n : Nat) (f : Link → Link) : (s.onLink n f).modes = s.modes := rfl
@[simp] theorem State.onLink_sv (n : Nat) (f : Link → Link) : (s.onLink n f).sv = s.sv := rfl
@[simp] theorem State.onLink_xc (n : Nat) (f : Link → Link) : (s.onLink n f).xc = s.xc := rfl
@[simp] theorem State.onLink_seams (n : Nat) (f : Link → Link) : (s.onLink n f).seams = s.seams := rfl
@[simp] theorem State.onLink_closing (n : Nat) (f : Link → Link) : (s.onLink n f).closing = s.closing := rfl
@[simp] theorem State.onLink_streams (n : Nat) (f : Link → Link) : (s.onLink n f).streams = s.streams := rfl
@[simp] theorem State.onLink_shaft (n : Nat) (f : Link → Link) : (s.onLink n f).shaft = s.shaft := rfl
@[simp] theorem State.onLink_grizzly (n : Nat) (f : Link → Link) : (s.onLink n f).grizzly = s.grizzly := rfl
@[simp] theorem State.onLink_smelter (n : Nat) (f : Link → Link) : (s.onLink n f).smelter = s.smelter := rfl
@[simp] theorem State.onLink_slots (n : Nat) (f : Link → Link) : (s.onLink n f).slots = s.slots := rfl
@[simp] theorem State.onLink_hf (n : Nat) (f : Link → Link) : (s.onLink n f).hf = s.hf := rfl
@[simp] theorem State.onLink_dict (n : Nat) (f : Link → Link) : (s.onLink n f).dict = s.dict := rfl
@[simp] theorem State.onLink_regs (n : Nat) (f : Link → Link) : (s.onLink n f).regs = s.regs := rfl
@[simp] theorem State.onLink_twin (n : Nat) (f : Link → Link) : (s.onLink n f).twin = s.twin := rfl
@[simp] theorem State.onLink_fm (n : Nat) (f : Link → Link) : (s.onLink n f).fm = s.fm := rfl
@[simp] theorem State.onLink_nv (n : Nat) (f : Link → Link) : (s.onLink n f).nv = s.nv := rfl
@[simp] theorem State.onLink_sent (n : Nat) (f : Link → Link) : (s.onLink n f).sent = s.sent := rfl
@[simp] theorem State.onLink_free (n : Nat) (f : Link → Link) : (s.onLink n f).free = s.free := rfl
@[simp] theorem State.onLink_pending (n : Nat) (f : Link → Link) : (s.onLink n f).pending = s.pending := rfl

/-! ### A Crosscut lane -/

@[simp] theorem State.onLane_power (n : Nat) (f : Link → Link) : (s.onLane n f).power = s.power := rfl
@[simp] theorem State.onLane_modes (n : Nat) (f : Link → Link) : (s.onLane n f).modes = s.modes := rfl
@[simp] theorem State.onLane_sv (n : Nat) (f : Link → Link) : (s.onLane n f).sv = s.sv := rfl
@[simp] theorem State.onLane_links (n : Nat) (f : Link → Link) : (s.onLane n f).links = s.links := rfl
@[simp] theorem State.onLane_seams (n : Nat) (f : Link → Link) : (s.onLane n f).seams = s.seams := rfl
@[simp] theorem State.onLane_closing (n : Nat) (f : Link → Link) : (s.onLane n f).closing = s.closing := rfl
@[simp] theorem State.onLane_streams (n : Nat) (f : Link → Link) : (s.onLane n f).streams = s.streams := rfl
@[simp] theorem State.onLane_shaft (n : Nat) (f : Link → Link) : (s.onLane n f).shaft = s.shaft := rfl
@[simp] theorem State.onLane_grizzly (n : Nat) (f : Link → Link) : (s.onLane n f).grizzly = s.grizzly := rfl
@[simp] theorem State.onLane_smelter (n : Nat) (f : Link → Link) : (s.onLane n f).smelter = s.smelter := rfl
@[simp] theorem State.onLane_slots (n : Nat) (f : Link → Link) : (s.onLane n f).slots = s.slots := rfl
@[simp] theorem State.onLane_hf (n : Nat) (f : Link → Link) : (s.onLane n f).hf = s.hf := rfl
@[simp] theorem State.onLane_dict (n : Nat) (f : Link → Link) : (s.onLane n f).dict = s.dict := rfl
@[simp] theorem State.onLane_regs (n : Nat) (f : Link → Link) : (s.onLane n f).regs = s.regs := rfl
@[simp] theorem State.onLane_twin (n : Nat) (f : Link → Link) : (s.onLane n f).twin = s.twin := rfl
@[simp] theorem State.onLane_fm (n : Nat) (f : Link → Link) : (s.onLane n f).fm = s.fm := rfl
@[simp] theorem State.onLane_nv (n : Nat) (f : Link → Link) : (s.onLane n f).nv = s.nv := rfl
@[simp] theorem State.onLane_sent (n : Nat) (f : Link → Link) : (s.onLane n f).sent = s.sent := rfl
@[simp] theorem State.onLane_free (n : Nat) (f : Link → Link) : (s.onLane n f).free = s.free := rfl
@[simp] theorem State.onLane_pending (n : Nat) (f : Link → Link) : (s.onLane n f).pending = s.pending := rfl

/-! ### A receiver -/

@[simp] theorem State.onRx_power (l : LinkId) (f : Link → Link) : (s.onRx l f).power = s.power := by cases l <;> rfl
@[simp] theorem State.onRx_modes (l : LinkId) (f : Link → Link) : (s.onRx l f).modes = s.modes := by cases l <;> rfl
@[simp] theorem State.onRx_sv (l : LinkId) (f : Link → Link) : (s.onRx l f).sv = s.sv := by cases l <;> rfl
@[simp] theorem State.onRx_seams (l : LinkId) (f : Link → Link) : (s.onRx l f).seams = s.seams := by cases l <;> rfl
@[simp] theorem State.onRx_closing (l : LinkId) (f : Link → Link) : (s.onRx l f).closing = s.closing := by cases l <;> rfl
@[simp] theorem State.onRx_streams (l : LinkId) (f : Link → Link) : (s.onRx l f).streams = s.streams := by cases l <;> rfl
@[simp] theorem State.onRx_shaft (l : LinkId) (f : Link → Link) : (s.onRx l f).shaft = s.shaft := by cases l <;> rfl
@[simp] theorem State.onRx_grizzly (l : LinkId) (f : Link → Link) : (s.onRx l f).grizzly = s.grizzly := by cases l <;> rfl
@[simp] theorem State.onRx_smelter (l : LinkId) (f : Link → Link) : (s.onRx l f).smelter = s.smelter := by cases l <;> rfl
@[simp] theorem State.onRx_slots (l : LinkId) (f : Link → Link) : (s.onRx l f).slots = s.slots := by cases l <;> rfl
@[simp] theorem State.onRx_hf (l : LinkId) (f : Link → Link) : (s.onRx l f).hf = s.hf := by cases l <;> rfl
@[simp] theorem State.onRx_dict (l : LinkId) (f : Link → Link) : (s.onRx l f).dict = s.dict := by cases l <;> rfl
@[simp] theorem State.onRx_regs (l : LinkId) (f : Link → Link) : (s.onRx l f).regs = s.regs := by cases l <;> rfl
@[simp] theorem State.onRx_twin (l : LinkId) (f : Link → Link) : (s.onRx l f).twin = s.twin := by cases l <;> rfl
@[simp] theorem State.onRx_fm (l : LinkId) (f : Link → Link) : (s.onRx l f).fm = s.fm := by cases l <;> rfl
@[simp] theorem State.onRx_nv (l : LinkId) (f : Link → Link) : (s.onRx l f).nv = s.nv := by cases l <;> rfl
@[simp] theorem State.onRx_sent (l : LinkId) (f : Link → Link) : (s.onRx l f).sent = s.sent := by cases l <;> rfl
@[simp] theorem State.onRx_free (l : LinkId) (f : Link → Link) : (s.onRx l f).free = s.free := by cases l <;> rfl
@[simp] theorem State.onRx_pending (l : LinkId) (f : Link → Link) : (s.onRx l f).pending = s.pending := by cases l <;> rfl

/-! ### A seam -/

@[simp] theorem State.onSeam_power (n : Nat) (f : Seam → Seam) : (s.onSeam n f).power = s.power := rfl
@[simp] theorem State.onSeam_modes (n : Nat) (f : Seam → Seam) : (s.onSeam n f).modes = s.modes := rfl
@[simp] theorem State.onSeam_sv (n : Nat) (f : Seam → Seam) : (s.onSeam n f).sv = s.sv := rfl
@[simp] theorem State.onSeam_links (n : Nat) (f : Seam → Seam) : (s.onSeam n f).links = s.links := rfl
@[simp] theorem State.onSeam_xc (n : Nat) (f : Seam → Seam) : (s.onSeam n f).xc = s.xc := rfl
@[simp] theorem State.onSeam_closing (n : Nat) (f : Seam → Seam) : (s.onSeam n f).closing = s.closing := rfl
@[simp] theorem State.onSeam_streams (n : Nat) (f : Seam → Seam) : (s.onSeam n f).streams = s.streams := rfl
@[simp] theorem State.onSeam_shaft (n : Nat) (f : Seam → Seam) : (s.onSeam n f).shaft = s.shaft := rfl
@[simp] theorem State.onSeam_grizzly (n : Nat) (f : Seam → Seam) : (s.onSeam n f).grizzly = s.grizzly := rfl
@[simp] theorem State.onSeam_smelter (n : Nat) (f : Seam → Seam) : (s.onSeam n f).smelter = s.smelter := rfl
@[simp] theorem State.onSeam_slots (n : Nat) (f : Seam → Seam) : (s.onSeam n f).slots = s.slots := rfl
@[simp] theorem State.onSeam_hf (n : Nat) (f : Seam → Seam) : (s.onSeam n f).hf = s.hf := rfl
@[simp] theorem State.onSeam_dict (n : Nat) (f : Seam → Seam) : (s.onSeam n f).dict = s.dict := rfl
@[simp] theorem State.onSeam_regs (n : Nat) (f : Seam → Seam) : (s.onSeam n f).regs = s.regs := rfl
@[simp] theorem State.onSeam_twin (n : Nat) (f : Seam → Seam) : (s.onSeam n f).twin = s.twin := rfl
@[simp] theorem State.onSeam_fm (n : Nat) (f : Seam → Seam) : (s.onSeam n f).fm = s.fm := rfl
@[simp] theorem State.onSeam_nv (n : Nat) (f : Seam → Seam) : (s.onSeam n f).nv = s.nv := rfl
@[simp] theorem State.onSeam_sent (n : Nat) (f : Seam → Seam) : (s.onSeam n f).sent = s.sent := rfl
@[simp] theorem State.onSeam_free (n : Nat) (f : Seam → Seam) : (s.onSeam n f).free = s.free := rfl
@[simp] theorem State.onSeam_pending (n : Nat) (f : Seam → Seam) : (s.onSeam n f).pending = s.pending := rfl

/-! ### A stream -/

@[simp] theorem State.onStream_power (n : Nat) (f : Stream → Stream) : (s.onStream n f).power = s.power := rfl
@[simp] theorem State.onStream_modes (n : Nat) (f : Stream → Stream) : (s.onStream n f).modes = s.modes := rfl
@[simp] theorem State.onStream_sv (n : Nat) (f : Stream → Stream) : (s.onStream n f).sv = s.sv := rfl
@[simp] theorem State.onStream_links (n : Nat) (f : Stream → Stream) : (s.onStream n f).links = s.links := rfl
@[simp] theorem State.onStream_xc (n : Nat) (f : Stream → Stream) : (s.onStream n f).xc = s.xc := rfl
@[simp] theorem State.onStream_seams (n : Nat) (f : Stream → Stream) : (s.onStream n f).seams = s.seams := rfl
@[simp] theorem State.onStream_closing (n : Nat) (f : Stream → Stream) : (s.onStream n f).closing = s.closing := rfl
@[simp] theorem State.onStream_shaft (n : Nat) (f : Stream → Stream) : (s.onStream n f).shaft = s.shaft := rfl
@[simp] theorem State.onStream_grizzly (n : Nat) (f : Stream → Stream) : (s.onStream n f).grizzly = s.grizzly := rfl
@[simp] theorem State.onStream_smelter (n : Nat) (f : Stream → Stream) : (s.onStream n f).smelter = s.smelter := rfl
@[simp] theorem State.onStream_slots (n : Nat) (f : Stream → Stream) : (s.onStream n f).slots = s.slots := rfl
@[simp] theorem State.onStream_hf (n : Nat) (f : Stream → Stream) : (s.onStream n f).hf = s.hf := rfl
@[simp] theorem State.onStream_dict (n : Nat) (f : Stream → Stream) : (s.onStream n f).dict = s.dict := rfl
@[simp] theorem State.onStream_regs (n : Nat) (f : Stream → Stream) : (s.onStream n f).regs = s.regs := rfl
@[simp] theorem State.onStream_twin (n : Nat) (f : Stream → Stream) : (s.onStream n f).twin = s.twin := rfl
@[simp] theorem State.onStream_fm (n : Nat) (f : Stream → Stream) : (s.onStream n f).fm = s.fm := rfl
@[simp] theorem State.onStream_nv (n : Nat) (f : Stream → Stream) : (s.onStream n f).nv = s.nv := rfl
@[simp] theorem State.onStream_sent (n : Nat) (f : Stream → Stream) : (s.onStream n f).sent = s.sent := rfl
@[simp] theorem State.onStream_free (n : Nat) (f : Stream → Stream) : (s.onStream n f).free = s.free := rfl
@[simp] theorem State.onStream_pending (n : Nat) (f : Stream → Stream) : (s.onStream n f).pending = s.pending := rfl

/-! ### A ring -/

@[simp] theorem State.onRing_power (n : Nat) (f : Ring → Ring) : (s.onRing n f).power = s.power := rfl
@[simp] theorem State.onRing_modes (n : Nat) (f : Ring → Ring) : (s.onRing n f).modes = s.modes := rfl
@[simp] theorem State.onRing_sv (n : Nat) (f : Ring → Ring) : (s.onRing n f).sv = s.sv := rfl
@[simp] theorem State.onRing_links (n : Nat) (f : Ring → Ring) : (s.onRing n f).links = s.links := rfl
@[simp] theorem State.onRing_xc (n : Nat) (f : Ring → Ring) : (s.onRing n f).xc = s.xc := rfl
@[simp] theorem State.onRing_seams (n : Nat) (f : Ring → Ring) : (s.onRing n f).seams = s.seams := rfl
@[simp] theorem State.onRing_closing (n : Nat) (f : Ring → Ring) : (s.onRing n f).closing = s.closing := rfl
@[simp] theorem State.onRing_streams (n : Nat) (f : Ring → Ring) : (s.onRing n f).streams = s.streams := rfl
@[simp] theorem State.onRing_shaft (n : Nat) (f : Ring → Ring) : (s.onRing n f).shaft = s.shaft := rfl
@[simp] theorem State.onRing_grizzly (n : Nat) (f : Ring → Ring) : (s.onRing n f).grizzly = s.grizzly := rfl
@[simp] theorem State.onRing_smelter (n : Nat) (f : Ring → Ring) : (s.onRing n f).smelter = s.smelter := rfl
@[simp] theorem State.onRing_slots (n : Nat) (f : Ring → Ring) : (s.onRing n f).slots = s.slots := rfl
@[simp] theorem State.onRing_dict (n : Nat) (f : Ring → Ring) : (s.onRing n f).dict = s.dict := rfl
@[simp] theorem State.onRing_regs (n : Nat) (f : Ring → Ring) : (s.onRing n f).regs = s.regs := rfl
@[simp] theorem State.onRing_twin (n : Nat) (f : Ring → Ring) : (s.onRing n f).twin = s.twin := rfl
@[simp] theorem State.onRing_fm (n : Nat) (f : Ring → Ring) : (s.onRing n f).fm = s.fm := rfl
@[simp] theorem State.onRing_nv (n : Nat) (f : Ring → Ring) : (s.onRing n f).nv = s.nv := rfl
@[simp] theorem State.onRing_sent (n : Nat) (f : Ring → Ring) : (s.onRing n f).sent = s.sent := rfl
@[simp] theorem State.onRing_free (n : Nat) (f : Ring → Ring) : (s.onRing n f).free = s.free := rfl
@[simp] theorem State.onRing_pending (n : Nat) (f : Ring → Ring) : (s.onRing n f).pending = s.pending := rfl

/-! ### A segment -/

@[simp] theorem State.onSegment_power (n : Nat) (f : Segment → Segment) : (s.onSegment n f).power = s.power := rfl
@[simp] theorem State.onSegment_modes (n : Nat) (f : Segment → Segment) : (s.onSegment n f).modes = s.modes := rfl
@[simp] theorem State.onSegment_sv (n : Nat) (f : Segment → Segment) : (s.onSegment n f).sv = s.sv := rfl
@[simp] theorem State.onSegment_links (n : Nat) (f : Segment → Segment) : (s.onSegment n f).links = s.links := rfl
@[simp] theorem State.onSegment_xc (n : Nat) (f : Segment → Segment) : (s.onSegment n f).xc = s.xc := rfl
@[simp] theorem State.onSegment_seams (n : Nat) (f : Segment → Segment) : (s.onSegment n f).seams = s.seams := rfl
@[simp] theorem State.onSegment_closing (n : Nat) (f : Segment → Segment) : (s.onSegment n f).closing = s.closing := rfl
@[simp] theorem State.onSegment_streams (n : Nat) (f : Segment → Segment) : (s.onSegment n f).streams = s.streams := rfl
@[simp] theorem State.onSegment_grizzly (n : Nat) (f : Segment → Segment) : (s.onSegment n f).grizzly = s.grizzly := rfl
@[simp] theorem State.onSegment_smelter (n : Nat) (f : Segment → Segment) : (s.onSegment n f).smelter = s.smelter := rfl
@[simp] theorem State.onSegment_slots (n : Nat) (f : Segment → Segment) : (s.onSegment n f).slots = s.slots := rfl
@[simp] theorem State.onSegment_hf (n : Nat) (f : Segment → Segment) : (s.onSegment n f).hf = s.hf := rfl
@[simp] theorem State.onSegment_dict (n : Nat) (f : Segment → Segment) : (s.onSegment n f).dict = s.dict := rfl
@[simp] theorem State.onSegment_regs (n : Nat) (f : Segment → Segment) : (s.onSegment n f).regs = s.regs := rfl
@[simp] theorem State.onSegment_twin (n : Nat) (f : Segment → Segment) : (s.onSegment n f).twin = s.twin := rfl
@[simp] theorem State.onSegment_fm (n : Nat) (f : Segment → Segment) : (s.onSegment n f).fm = s.fm := rfl
@[simp] theorem State.onSegment_nv (n : Nat) (f : Segment → Segment) : (s.onSegment n f).nv = s.nv := rfl
@[simp] theorem State.onSegment_sent (n : Nat) (f : Segment → Segment) : (s.onSegment n f).sent = s.sent := rfl
@[simp] theorem State.onSegment_free (n : Nat) (f : Segment → Segment) : (s.onSegment n f).free = s.free := rfl
@[simp] theorem State.onSegment_pending (n : Nat) (f : Segment → Segment) : (s.onSegment n f).pending = s.pending := rfl

/-! ### An Assay slot -/

@[simp] theorem State.onSlot_power (n : Nat) (f : Slot → Slot) : (s.onSlot n f).power = s.power := rfl
@[simp] theorem State.onSlot_modes (n : Nat) (f : Slot → Slot) : (s.onSlot n f).modes = s.modes := rfl
@[simp] theorem State.onSlot_sv (n : Nat) (f : Slot → Slot) : (s.onSlot n f).sv = s.sv := rfl
@[simp] theorem State.onSlot_links (n : Nat) (f : Slot → Slot) : (s.onSlot n f).links = s.links := rfl
@[simp] theorem State.onSlot_xc (n : Nat) (f : Slot → Slot) : (s.onSlot n f).xc = s.xc := rfl
@[simp] theorem State.onSlot_seams (n : Nat) (f : Slot → Slot) : (s.onSlot n f).seams = s.seams := rfl
@[simp] theorem State.onSlot_closing (n : Nat) (f : Slot → Slot) : (s.onSlot n f).closing = s.closing := rfl
@[simp] theorem State.onSlot_streams (n : Nat) (f : Slot → Slot) : (s.onSlot n f).streams = s.streams := rfl
@[simp] theorem State.onSlot_shaft (n : Nat) (f : Slot → Slot) : (s.onSlot n f).shaft = s.shaft := rfl
@[simp] theorem State.onSlot_grizzly (n : Nat) (f : Slot → Slot) : (s.onSlot n f).grizzly = s.grizzly := rfl
@[simp] theorem State.onSlot_smelter (n : Nat) (f : Slot → Slot) : (s.onSlot n f).smelter = s.smelter := rfl
@[simp] theorem State.onSlot_hf (n : Nat) (f : Slot → Slot) : (s.onSlot n f).hf = s.hf := rfl
@[simp] theorem State.onSlot_dict (n : Nat) (f : Slot → Slot) : (s.onSlot n f).dict = s.dict := rfl
@[simp] theorem State.onSlot_regs (n : Nat) (f : Slot → Slot) : (s.onSlot n f).regs = s.regs := rfl
@[simp] theorem State.onSlot_twin (n : Nat) (f : Slot → Slot) : (s.onSlot n f).twin = s.twin := rfl
@[simp] theorem State.onSlot_fm (n : Nat) (f : Slot → Slot) : (s.onSlot n f).fm = s.fm := rfl
@[simp] theorem State.onSlot_nv (n : Nat) (f : Slot → Slot) : (s.onSlot n f).nv = s.nv := rfl
@[simp] theorem State.onSlot_sent (n : Nat) (f : Slot → Slot) : (s.onSlot n f).sent = s.sent := rfl
@[simp] theorem State.onSlot_free (n : Nat) (f : Slot → Slot) : (s.onSlot n f).free = s.free := rfl
@[simp] theorem State.onSlot_pending (n : Nat) (f : Slot → Slot) : (s.onSlot n f).pending = s.pending := rfl

/-! ### A claim -/

@[simp] theorem State.onClaim_power (n : Nat) (f : Claim → Claim) : (s.onClaim n f).power = s.power := rfl
@[simp] theorem State.onClaim_modes (n : Nat) (f : Claim → Claim) : (s.onClaim n f).modes = s.modes := rfl
@[simp] theorem State.onClaim_sv (n : Nat) (f : Claim → Claim) : (s.onClaim n f).sv = s.sv := rfl
@[simp] theorem State.onClaim_links (n : Nat) (f : Claim → Claim) : (s.onClaim n f).links = s.links := rfl
@[simp] theorem State.onClaim_xc (n : Nat) (f : Claim → Claim) : (s.onClaim n f).xc = s.xc := rfl
@[simp] theorem State.onClaim_seams (n : Nat) (f : Claim → Claim) : (s.onClaim n f).seams = s.seams := rfl
@[simp] theorem State.onClaim_closing (n : Nat) (f : Claim → Claim) : (s.onClaim n f).closing = s.closing := rfl
@[simp] theorem State.onClaim_streams (n : Nat) (f : Claim → Claim) : (s.onClaim n f).streams = s.streams := rfl
@[simp] theorem State.onClaim_shaft (n : Nat) (f : Claim → Claim) : (s.onClaim n f).shaft = s.shaft := rfl
@[simp] theorem State.onClaim_grizzly (n : Nat) (f : Claim → Claim) : (s.onClaim n f).grizzly = s.grizzly := rfl
@[simp] theorem State.onClaim_smelter (n : Nat) (f : Claim → Claim) : (s.onClaim n f).smelter = s.smelter := rfl
@[simp] theorem State.onClaim_slots (n : Nat) (f : Claim → Claim) : (s.onClaim n f).slots = s.slots := rfl
@[simp] theorem State.onClaim_hf (n : Nat) (f : Claim → Claim) : (s.onClaim n f).hf = s.hf := rfl
@[simp] theorem State.onClaim_dict (n : Nat) (f : Claim → Claim) : (s.onClaim n f).dict = s.dict := rfl
@[simp] theorem State.onClaim_twin (n : Nat) (f : Claim → Claim) : (s.onClaim n f).twin = s.twin := rfl
@[simp] theorem State.onClaim_fm (n : Nat) (f : Claim → Claim) : (s.onClaim n f).fm = s.fm := rfl
@[simp] theorem State.onClaim_nv (n : Nat) (f : Claim → Claim) : (s.onClaim n f).nv = s.nv := rfl
@[simp] theorem State.onClaim_sent (n : Nat) (f : Claim → Claim) : (s.onClaim n f).sent = s.sent := rfl
@[simp] theorem State.onClaim_free (n : Nat) (f : Claim → Claim) : (s.onClaim n f).free = s.free := rfl
@[simp] theorem State.onClaim_pending (n : Nat) (f : Claim → Claim) : (s.onClaim n f).pending = s.pending := rfl

/-! ### A side of a cage -/

@[simp] theorem State.onCage_power (a : CageSide) (f : CageEnd → CageEnd) : (s.onCage a f).power = s.power := by cases a <;> rfl
@[simp] theorem State.onCage_modes (a : CageSide) (f : CageEnd → CageEnd) : (s.onCage a f).modes = s.modes := by cases a <;> rfl
@[simp] theorem State.onCage_sv (a : CageSide) (f : CageEnd → CageEnd) : (s.onCage a f).sv = s.sv := by cases a <;> rfl
@[simp] theorem State.onCage_links (a : CageSide) (f : CageEnd → CageEnd) : (s.onCage a f).links = s.links := by cases a <;> rfl
@[simp] theorem State.onCage_xc (a : CageSide) (f : CageEnd → CageEnd) : (s.onCage a f).xc = s.xc := by cases a <;> rfl
@[simp] theorem State.onCage_seams (a : CageSide) (f : CageEnd → CageEnd) : (s.onCage a f).seams = s.seams := by cases a <;> rfl
@[simp] theorem State.onCage_closing (a : CageSide) (f : CageEnd → CageEnd) : (s.onCage a f).closing = s.closing := by cases a <;> rfl
@[simp] theorem State.onCage_streams (a : CageSide) (f : CageEnd → CageEnd) : (s.onCage a f).streams = s.streams := by cases a <;> rfl
@[simp] theorem State.onCage_shaft (a : CageSide) (f : CageEnd → CageEnd) : (s.onCage a f).shaft = s.shaft := by cases a <;> rfl
@[simp] theorem State.onCage_grizzly (a : CageSide) (f : CageEnd → CageEnd) : (s.onCage a f).grizzly = s.grizzly := by cases a <;> rfl
@[simp] theorem State.onCage_smelter (a : CageSide) (f : CageEnd → CageEnd) : (s.onCage a f).smelter = s.smelter := by cases a <;> rfl
@[simp] theorem State.onCage_slots (a : CageSide) (f : CageEnd → CageEnd) : (s.onCage a f).slots = s.slots := by cases a <;> rfl
@[simp] theorem State.onCage_hf (a : CageSide) (f : CageEnd → CageEnd) : (s.onCage a f).hf = s.hf := by cases a <;> rfl
@[simp] theorem State.onCage_dict (a : CageSide) (f : CageEnd → CageEnd) : (s.onCage a f).dict = s.dict := by cases a <;> rfl
@[simp] theorem State.onCage_twin (a : CageSide) (f : CageEnd → CageEnd) : (s.onCage a f).twin = s.twin := by cases a <;> rfl
@[simp] theorem State.onCage_fm (a : CageSide) (f : CageEnd → CageEnd) : (s.onCage a f).fm = s.fm := by cases a <;> rfl
@[simp] theorem State.onCage_nv (a : CageSide) (f : CageEnd → CageEnd) : (s.onCage a f).nv = s.nv := by cases a <;> rfl
@[simp] theorem State.onCage_sent (a : CageSide) (f : CageEnd → CageEnd) : (s.onCage a f).sent = s.sent := by cases a <;> rfl
@[simp] theorem State.onCage_free (a : CageSide) (f : CageEnd → CageEnd) : (s.onCage a f).free = s.free := by cases a <;> rfl
@[simp] theorem State.onCage_pending (a : CageSide) (f : CageEnd → CageEnd) : (s.onCage a f).pending = s.pending := by cases a <;> rfl

/-! ### A CAN port -/

@[simp] theorem State.onCan_power (p : CanPort) (f : Can → Can) : (s.onCan p f).power = s.power := by cases p <;> rfl
@[simp] theorem State.onCan_modes (p : CanPort) (f : Can → Can) : (s.onCan p f).modes = s.modes := by cases p <;> rfl
@[simp] theorem State.onCan_sv (p : CanPort) (f : Can → Can) : (s.onCan p f).sv = s.sv := by cases p <;> rfl
@[simp] theorem State.onCan_links (p : CanPort) (f : Can → Can) : (s.onCan p f).links = s.links := by cases p <;> rfl
@[simp] theorem State.onCan_xc (p : CanPort) (f : Can → Can) : (s.onCan p f).xc = s.xc := by cases p <;> rfl
@[simp] theorem State.onCan_seams (p : CanPort) (f : Can → Can) : (s.onCan p f).seams = s.seams := by cases p <;> rfl
@[simp] theorem State.onCan_closing (p : CanPort) (f : Can → Can) : (s.onCan p f).closing = s.closing := by cases p <;> rfl
@[simp] theorem State.onCan_streams (p : CanPort) (f : Can → Can) : (s.onCan p f).streams = s.streams := by cases p <;> rfl
@[simp] theorem State.onCan_shaft (p : CanPort) (f : Can → Can) : (s.onCan p f).shaft = s.shaft := by cases p <;> rfl
@[simp] theorem State.onCan_grizzly (p : CanPort) (f : Can → Can) : (s.onCan p f).grizzly = s.grizzly := by cases p <;> rfl
@[simp] theorem State.onCan_smelter (p : CanPort) (f : Can → Can) : (s.onCan p f).smelter = s.smelter := by cases p <;> rfl
@[simp] theorem State.onCan_slots (p : CanPort) (f : Can → Can) : (s.onCan p f).slots = s.slots := by cases p <;> rfl
@[simp] theorem State.onCan_hf (p : CanPort) (f : Can → Can) : (s.onCan p f).hf = s.hf := by cases p <;> rfl
@[simp] theorem State.onCan_regs (p : CanPort) (f : Can → Can) : (s.onCan p f).regs = s.regs := by cases p <;> rfl
@[simp] theorem State.onCan_twin (p : CanPort) (f : Can → Can) : (s.onCan p f).twin = s.twin := by cases p <;> rfl
@[simp] theorem State.onCan_fm (p : CanPort) (f : Can → Can) : (s.onCan p f).fm = s.fm := by cases p <;> rfl
@[simp] theorem State.onCan_nv (p : CanPort) (f : Can → Can) : (s.onCan p f).nv = s.nv := by cases p <;> rfl
@[simp] theorem State.onCan_sent (p : CanPort) (f : Can → Can) : (s.onCan p f).sent = s.sent := by cases p <;> rfl
@[simp] theorem State.onCan_free (p : CanPort) (f : Can → Can) : (s.onCan p f).free = s.free := by cases p <;> rfl
@[simp] theorem State.onCan_pending (p : CanPort) (f : Can → Can) : (s.onCan p f).pending = s.pending := by cases p <;> rfl

/-! ### A dictionary-window slot -/

@[simp] theorem State.onSlotOf_power (fn : Fn) (k : Nat) (f : WinSlot → WinSlot) : (s.onSlotOf fn k f).power = s.power := by cases fn <;> rfl
@[simp] theorem State.onSlotOf_modes (fn : Fn) (k : Nat) (f : WinSlot → WinSlot) : (s.onSlotOf fn k f).modes = s.modes := by cases fn <;> rfl
@[simp] theorem State.onSlotOf_sv (fn : Fn) (k : Nat) (f : WinSlot → WinSlot) : (s.onSlotOf fn k f).sv = s.sv := by cases fn <;> rfl
@[simp] theorem State.onSlotOf_links (fn : Fn) (k : Nat) (f : WinSlot → WinSlot) : (s.onSlotOf fn k f).links = s.links := by cases fn <;> rfl
@[simp] theorem State.onSlotOf_xc (fn : Fn) (k : Nat) (f : WinSlot → WinSlot) : (s.onSlotOf fn k f).xc = s.xc := by cases fn <;> rfl
@[simp] theorem State.onSlotOf_seams (fn : Fn) (k : Nat) (f : WinSlot → WinSlot) : (s.onSlotOf fn k f).seams = s.seams := by cases fn <;> rfl
@[simp] theorem State.onSlotOf_closing (fn : Fn) (k : Nat) (f : WinSlot → WinSlot) : (s.onSlotOf fn k f).closing = s.closing := by cases fn <;> rfl
@[simp] theorem State.onSlotOf_streams (fn : Fn) (k : Nat) (f : WinSlot → WinSlot) : (s.onSlotOf fn k f).streams = s.streams := by cases fn <;> rfl
@[simp] theorem State.onSlotOf_shaft (fn : Fn) (k : Nat) (f : WinSlot → WinSlot) : (s.onSlotOf fn k f).shaft = s.shaft := by cases fn <;> rfl
@[simp] theorem State.onSlotOf_grizzly (fn : Fn) (k : Nat) (f : WinSlot → WinSlot) : (s.onSlotOf fn k f).grizzly = s.grizzly := by cases fn <;> rfl
@[simp] theorem State.onSlotOf_smelter (fn : Fn) (k : Nat) (f : WinSlot → WinSlot) : (s.onSlotOf fn k f).smelter = s.smelter := by cases fn <;> rfl
@[simp] theorem State.onSlotOf_slots (fn : Fn) (k : Nat) (f : WinSlot → WinSlot) : (s.onSlotOf fn k f).slots = s.slots := by cases fn <;> rfl
@[simp] theorem State.onSlotOf_hf (fn : Fn) (k : Nat) (f : WinSlot → WinSlot) : (s.onSlotOf fn k f).hf = s.hf := by cases fn <;> rfl
@[simp] theorem State.onSlotOf_regs (fn : Fn) (k : Nat) (f : WinSlot → WinSlot) : (s.onSlotOf fn k f).regs = s.regs := by cases fn <;> rfl
@[simp] theorem State.onSlotOf_twin (fn : Fn) (k : Nat) (f : WinSlot → WinSlot) : (s.onSlotOf fn k f).twin = s.twin := by cases fn <;> rfl
@[simp] theorem State.onSlotOf_fm (fn : Fn) (k : Nat) (f : WinSlot → WinSlot) : (s.onSlotOf fn k f).fm = s.fm := by cases fn <;> rfl
@[simp] theorem State.onSlotOf_nv (fn : Fn) (k : Nat) (f : WinSlot → WinSlot) : (s.onSlotOf fn k f).nv = s.nv := by cases fn <;> rfl
@[simp] theorem State.onSlotOf_sent (fn : Fn) (k : Nat) (f : WinSlot → WinSlot) : (s.onSlotOf fn k f).sent = s.sent := by cases fn <;> rfl
@[simp] theorem State.onSlotOf_free (fn : Fn) (k : Nat) (f : WinSlot → WinSlot) : (s.onSlotOf fn k f).free = s.free := by cases fn <;> rfl
@[simp] theorem State.onSlotOf_pending (fn : Fn) (k : Nat) (f : WinSlot → WinSlot) : (s.onSlotOf fn k f).pending = s.pending := by cases fn <;> rfl

/-! ### A vector -/

@[simp] theorem State.onMsix_power (fn : Fn) (v : Nat) (f : MsixEntry → MsixEntry) : (s.onMsix fn v f).power = s.power := by cases fn <;> rfl
@[simp] theorem State.onMsix_modes (fn : Fn) (v : Nat) (f : MsixEntry → MsixEntry) : (s.onMsix fn v f).modes = s.modes := by cases fn <;> rfl
@[simp] theorem State.onMsix_sv (fn : Fn) (v : Nat) (f : MsixEntry → MsixEntry) : (s.onMsix fn v f).sv = s.sv := by cases fn <;> rfl
@[simp] theorem State.onMsix_links (fn : Fn) (v : Nat) (f : MsixEntry → MsixEntry) : (s.onMsix fn v f).links = s.links := by cases fn <;> rfl
@[simp] theorem State.onMsix_xc (fn : Fn) (v : Nat) (f : MsixEntry → MsixEntry) : (s.onMsix fn v f).xc = s.xc := by cases fn <;> rfl
@[simp] theorem State.onMsix_seams (fn : Fn) (v : Nat) (f : MsixEntry → MsixEntry) : (s.onMsix fn v f).seams = s.seams := by cases fn <;> rfl
@[simp] theorem State.onMsix_closing (fn : Fn) (v : Nat) (f : MsixEntry → MsixEntry) : (s.onMsix fn v f).closing = s.closing := by cases fn <;> rfl
@[simp] theorem State.onMsix_streams (fn : Fn) (v : Nat) (f : MsixEntry → MsixEntry) : (s.onMsix fn v f).streams = s.streams := by cases fn <;> rfl
@[simp] theorem State.onMsix_shaft (fn : Fn) (v : Nat) (f : MsixEntry → MsixEntry) : (s.onMsix fn v f).shaft = s.shaft := by cases fn <;> rfl
@[simp] theorem State.onMsix_grizzly (fn : Fn) (v : Nat) (f : MsixEntry → MsixEntry) : (s.onMsix fn v f).grizzly = s.grizzly := by cases fn <;> rfl
@[simp] theorem State.onMsix_smelter (fn : Fn) (v : Nat) (f : MsixEntry → MsixEntry) : (s.onMsix fn v f).smelter = s.smelter := by cases fn <;> rfl
@[simp] theorem State.onMsix_slots (fn : Fn) (v : Nat) (f : MsixEntry → MsixEntry) : (s.onMsix fn v f).slots = s.slots := by cases fn <;> rfl
@[simp] theorem State.onMsix_dict (fn : Fn) (v : Nat) (f : MsixEntry → MsixEntry) : (s.onMsix fn v f).dict = s.dict := by cases fn <;> rfl
@[simp] theorem State.onMsix_regs (fn : Fn) (v : Nat) (f : MsixEntry → MsixEntry) : (s.onMsix fn v f).regs = s.regs := by cases fn <;> rfl
@[simp] theorem State.onMsix_twin (fn : Fn) (v : Nat) (f : MsixEntry → MsixEntry) : (s.onMsix fn v f).twin = s.twin := by cases fn <;> rfl
@[simp] theorem State.onMsix_fm (fn : Fn) (v : Nat) (f : MsixEntry → MsixEntry) : (s.onMsix fn v f).fm = s.fm := by cases fn <;> rfl
@[simp] theorem State.onMsix_nv (fn : Fn) (v : Nat) (f : MsixEntry → MsixEntry) : (s.onMsix fn v f).nv = s.nv := by cases fn <;> rfl
@[simp] theorem State.onMsix_sent (fn : Fn) (v : Nat) (f : MsixEntry → MsixEntry) : (s.onMsix fn v f).sent = s.sent := by cases fn <;> rfl
@[simp] theorem State.onMsix_free (fn : Fn) (v : Nat) (f : MsixEntry → MsixEntry) : (s.onMsix fn v f).free = s.free := by cases fn <;> rfl
@[simp] theorem State.onMsix_pending (fn : Fn) (v : Nat) (f : MsixEntry → MsixEntry) : (s.onMsix fn v f).pending = s.pending := by cases fn <;> rfl

/-! ### Configuration of a function -/

@[simp] theorem State.onFnCfg_power (fn : Fn) (f : FnConfig → FnConfig) : (s.onFnCfg fn f).power = s.power := by cases fn <;> rfl
@[simp] theorem State.onFnCfg_modes (fn : Fn) (f : FnConfig → FnConfig) : (s.onFnCfg fn f).modes = s.modes := by cases fn <;> rfl
@[simp] theorem State.onFnCfg_sv (fn : Fn) (f : FnConfig → FnConfig) : (s.onFnCfg fn f).sv = s.sv := by cases fn <;> rfl
@[simp] theorem State.onFnCfg_links (fn : Fn) (f : FnConfig → FnConfig) : (s.onFnCfg fn f).links = s.links := by cases fn <;> rfl
@[simp] theorem State.onFnCfg_xc (fn : Fn) (f : FnConfig → FnConfig) : (s.onFnCfg fn f).xc = s.xc := by cases fn <;> rfl
@[simp] theorem State.onFnCfg_seams (fn : Fn) (f : FnConfig → FnConfig) : (s.onFnCfg fn f).seams = s.seams := by cases fn <;> rfl
@[simp] theorem State.onFnCfg_closing (fn : Fn) (f : FnConfig → FnConfig) : (s.onFnCfg fn f).closing = s.closing := by cases fn <;> rfl
@[simp] theorem State.onFnCfg_streams (fn : Fn) (f : FnConfig → FnConfig) : (s.onFnCfg fn f).streams = s.streams := by cases fn <;> rfl
@[simp] theorem State.onFnCfg_shaft (fn : Fn) (f : FnConfig → FnConfig) : (s.onFnCfg fn f).shaft = s.shaft := by cases fn <;> rfl
@[simp] theorem State.onFnCfg_grizzly (fn : Fn) (f : FnConfig → FnConfig) : (s.onFnCfg fn f).grizzly = s.grizzly := by cases fn <;> rfl
@[simp] theorem State.onFnCfg_smelter (fn : Fn) (f : FnConfig → FnConfig) : (s.onFnCfg fn f).smelter = s.smelter := by cases fn <;> rfl
@[simp] theorem State.onFnCfg_slots (fn : Fn) (f : FnConfig → FnConfig) : (s.onFnCfg fn f).slots = s.slots := by cases fn <;> rfl
@[simp] theorem State.onFnCfg_dict (fn : Fn) (f : FnConfig → FnConfig) : (s.onFnCfg fn f).dict = s.dict := by cases fn <;> rfl
@[simp] theorem State.onFnCfg_regs (fn : Fn) (f : FnConfig → FnConfig) : (s.onFnCfg fn f).regs = s.regs := by cases fn <;> rfl
@[simp] theorem State.onFnCfg_twin (fn : Fn) (f : FnConfig → FnConfig) : (s.onFnCfg fn f).twin = s.twin := by cases fn <;> rfl
@[simp] theorem State.onFnCfg_fm (fn : Fn) (f : FnConfig → FnConfig) : (s.onFnCfg fn f).fm = s.fm := by cases fn <;> rfl
@[simp] theorem State.onFnCfg_nv (fn : Fn) (f : FnConfig → FnConfig) : (s.onFnCfg fn f).nv = s.nv := by cases fn <;> rfl
@[simp] theorem State.onFnCfg_sent (fn : Fn) (f : FnConfig → FnConfig) : (s.onFnCfg fn f).sent = s.sent := by cases fn <;> rfl
@[simp] theorem State.onFnCfg_free (fn : Fn) (f : FnConfig → FnConfig) : (s.onFnCfg fn f).free = s.free := by cases fn <;> rfl
@[simp] theorem State.onFnCfg_pending (fn : Fn) (f : FnConfig → FnConfig) : (s.onFnCfg fn f).pending = s.pending := by cases fn <;> rfl

/-! ### The slot that did not boot -/

@[simp] theorem State.onStagedSlot_power (f : ImageSlot → ImageSlot) : (s.onStagedSlot f).power = s.power := rfl
@[simp] theorem State.onStagedSlot_modes (f : ImageSlot → ImageSlot) : (s.onStagedSlot f).modes = s.modes := rfl
@[simp] theorem State.onStagedSlot_sv (f : ImageSlot → ImageSlot) : (s.onStagedSlot f).sv = s.sv := rfl
@[simp] theorem State.onStagedSlot_links (f : ImageSlot → ImageSlot) : (s.onStagedSlot f).links = s.links := rfl
@[simp] theorem State.onStagedSlot_xc (f : ImageSlot → ImageSlot) : (s.onStagedSlot f).xc = s.xc := rfl
@[simp] theorem State.onStagedSlot_seams (f : ImageSlot → ImageSlot) : (s.onStagedSlot f).seams = s.seams := rfl
@[simp] theorem State.onStagedSlot_closing (f : ImageSlot → ImageSlot) : (s.onStagedSlot f).closing = s.closing := rfl
@[simp] theorem State.onStagedSlot_streams (f : ImageSlot → ImageSlot) : (s.onStagedSlot f).streams = s.streams := rfl
@[simp] theorem State.onStagedSlot_shaft (f : ImageSlot → ImageSlot) : (s.onStagedSlot f).shaft = s.shaft := rfl
@[simp] theorem State.onStagedSlot_grizzly (f : ImageSlot → ImageSlot) : (s.onStagedSlot f).grizzly = s.grizzly := rfl
@[simp] theorem State.onStagedSlot_smelter (f : ImageSlot → ImageSlot) : (s.onStagedSlot f).smelter = s.smelter := rfl
@[simp] theorem State.onStagedSlot_slots (f : ImageSlot → ImageSlot) : (s.onStagedSlot f).slots = s.slots := rfl
@[simp] theorem State.onStagedSlot_hf (f : ImageSlot → ImageSlot) : (s.onStagedSlot f).hf = s.hf := rfl
@[simp] theorem State.onStagedSlot_dict (f : ImageSlot → ImageSlot) : (s.onStagedSlot f).dict = s.dict := rfl
@[simp] theorem State.onStagedSlot_regs (f : ImageSlot → ImageSlot) : (s.onStagedSlot f).regs = s.regs := rfl
@[simp] theorem State.onStagedSlot_twin (f : ImageSlot → ImageSlot) : (s.onStagedSlot f).twin = s.twin := rfl
@[simp] theorem State.onStagedSlot_fm (f : ImageSlot → ImageSlot) : (s.onStagedSlot f).fm = s.fm := rfl
@[simp] theorem State.onStagedSlot_sent (f : ImageSlot → ImageSlot) : (s.onStagedSlot f).sent = s.sent := rfl
@[simp] theorem State.onStagedSlot_free (f : ImageSlot → ImageSlot) : (s.onStagedSlot f).free = s.free := rfl
@[simp] theorem State.onStagedSlot_pending (f : ImageSlot → ImageSlot) : (s.onStagedSlot f).pending = s.pending := rfl

/-! ### MODE_CURRENT -/

@[simp] theorem State.setMode_power (m : Nat) : (s.setMode m).power = s.power := rfl
@[simp] theorem State.setMode_sv (m : Nat) : (s.setMode m).sv = s.sv := rfl
@[simp] theorem State.setMode_links (m : Nat) : (s.setMode m).links = s.links := rfl
@[simp] theorem State.setMode_xc (m : Nat) : (s.setMode m).xc = s.xc := rfl
@[simp] theorem State.setMode_seams (m : Nat) : (s.setMode m).seams = s.seams := rfl
@[simp] theorem State.setMode_closing (m : Nat) : (s.setMode m).closing = s.closing := rfl
@[simp] theorem State.setMode_streams (m : Nat) : (s.setMode m).streams = s.streams := rfl
@[simp] theorem State.setMode_shaft (m : Nat) : (s.setMode m).shaft = s.shaft := rfl
@[simp] theorem State.setMode_grizzly (m : Nat) : (s.setMode m).grizzly = s.grizzly := rfl
@[simp] theorem State.setMode_smelter (m : Nat) : (s.setMode m).smelter = s.smelter := rfl
@[simp] theorem State.setMode_slots (m : Nat) : (s.setMode m).slots = s.slots := rfl
@[simp] theorem State.setMode_hf (m : Nat) : (s.setMode m).hf = s.hf := rfl
@[simp] theorem State.setMode_dict (m : Nat) : (s.setMode m).dict = s.dict := rfl
@[simp] theorem State.setMode_regs (m : Nat) : (s.setMode m).regs = s.regs := rfl
@[simp] theorem State.setMode_twin (m : Nat) : (s.setMode m).twin = s.twin := rfl
@[simp] theorem State.setMode_fm (m : Nat) : (s.setMode m).fm = s.fm := rfl
@[simp] theorem State.setMode_nv (m : Nat) : (s.setMode m).nv = s.nv := rfl
@[simp] theorem State.setMode_sent (m : Nat) : (s.setMode m).sent = s.sent := rfl
@[simp] theorem State.setMode_free (m : Nat) : (s.setMode m).free = s.free := rfl
@[simp] theorem State.setMode_pending (m : Nat) : (s.setMode m).pending = s.pending := rfl

/-! ### ROLE -/

@[simp] theorem State.setRole_power (r : Nat) : (s.setRole r).power = s.power := rfl
@[simp] theorem State.setRole_modes (r : Nat) : (s.setRole r).modes = s.modes := rfl
@[simp] theorem State.setRole_sv (r : Nat) : (s.setRole r).sv = s.sv := rfl
@[simp] theorem State.setRole_links (r : Nat) : (s.setRole r).links = s.links := rfl
@[simp] theorem State.setRole_xc (r : Nat) : (s.setRole r).xc = s.xc := rfl
@[simp] theorem State.setRole_seams (r : Nat) : (s.setRole r).seams = s.seams := rfl
@[simp] theorem State.setRole_closing (r : Nat) : (s.setRole r).closing = s.closing := rfl
@[simp] theorem State.setRole_streams (r : Nat) : (s.setRole r).streams = s.streams := rfl
@[simp] theorem State.setRole_shaft (r : Nat) : (s.setRole r).shaft = s.shaft := rfl
@[simp] theorem State.setRole_grizzly (r : Nat) : (s.setRole r).grizzly = s.grizzly := rfl
@[simp] theorem State.setRole_smelter (r : Nat) : (s.setRole r).smelter = s.smelter := rfl
@[simp] theorem State.setRole_slots (r : Nat) : (s.setRole r).slots = s.slots := rfl
@[simp] theorem State.setRole_hf (r : Nat) : (s.setRole r).hf = s.hf := rfl
@[simp] theorem State.setRole_dict (r : Nat) : (s.setRole r).dict = s.dict := rfl
@[simp] theorem State.setRole_regs (r : Nat) : (s.setRole r).regs = s.regs := rfl
@[simp] theorem State.setRole_fm (r : Nat) : (s.setRole r).fm = s.fm := rfl
@[simp] theorem State.setRole_nv (r : Nat) : (s.setRole r).nv = s.nv := rfl
@[simp] theorem State.setRole_sent (r : Nat) : (s.setRole r).sent = s.sent := rfl
@[simp] theorem State.setRole_free (r : Nat) : (s.setRole r).free = s.free := rfl
@[simp] theorem State.setRole_pending (r : Nat) : (s.setRole r).pending = s.pending := rfl

/-! ### A tag -/

@[simp] theorem State.dropTag_power (tag : Nat) : (s.dropTag tag).power = s.power := rfl
@[simp] theorem State.dropTag_modes (tag : Nat) : (s.dropTag tag).modes = s.modes := rfl
@[simp] theorem State.dropTag_sv (tag : Nat) : (s.dropTag tag).sv = s.sv := rfl
@[simp] theorem State.dropTag_links (tag : Nat) : (s.dropTag tag).links = s.links := rfl
@[simp] theorem State.dropTag_xc (tag : Nat) : (s.dropTag tag).xc = s.xc := rfl
@[simp] theorem State.dropTag_seams (tag : Nat) : (s.dropTag tag).seams = s.seams := rfl
@[simp] theorem State.dropTag_closing (tag : Nat) : (s.dropTag tag).closing = s.closing := rfl
@[simp] theorem State.dropTag_streams (tag : Nat) : (s.dropTag tag).streams = s.streams := rfl
@[simp] theorem State.dropTag_shaft (tag : Nat) : (s.dropTag tag).shaft = s.shaft := rfl
@[simp] theorem State.dropTag_grizzly (tag : Nat) : (s.dropTag tag).grizzly = s.grizzly := rfl
@[simp] theorem State.dropTag_smelter (tag : Nat) : (s.dropTag tag).smelter = s.smelter := rfl
@[simp] theorem State.dropTag_slots (tag : Nat) : (s.dropTag tag).slots = s.slots := rfl
@[simp] theorem State.dropTag_dict (tag : Nat) : (s.dropTag tag).dict = s.dict := rfl
@[simp] theorem State.dropTag_regs (tag : Nat) : (s.dropTag tag).regs = s.regs := rfl
@[simp] theorem State.dropTag_twin (tag : Nat) : (s.dropTag tag).twin = s.twin := rfl
@[simp] theorem State.dropTag_fm (tag : Nat) : (s.dropTag tag).fm = s.fm := rfl
@[simp] theorem State.dropTag_nv (tag : Nat) : (s.dropTag tag).nv = s.nv := rfl
@[simp] theorem State.dropTag_sent (tag : Nat) : (s.dropTag tag).sent = s.sent := rfl
@[simp] theorem State.dropTag_free (tag : Nat) : (s.dropTag tag).free = s.free := rfl
@[simp] theorem State.dropTag_pending (tag : Nat) : (s.dropTag tag).pending = s.pending := rfl

/-! ### An error reported through AER -/

@[simp] theorem State.aerError_power (fn : Fn) (e : AerError) (a : Bool) : (s.aerError fn e a).power = s.power := by unfold State.aerError; cases s.aerMessage fn e a <;> cases fn <;> rfl
@[simp] theorem State.aerError_modes (fn : Fn) (e : AerError) (a : Bool) : (s.aerError fn e a).modes = s.modes := by unfold State.aerError; cases s.aerMessage fn e a <;> cases fn <;> rfl
@[simp] theorem State.aerError_sv (fn : Fn) (e : AerError) (a : Bool) : (s.aerError fn e a).sv = s.sv := by unfold State.aerError; cases s.aerMessage fn e a <;> cases fn <;> rfl
@[simp] theorem State.aerError_links (fn : Fn) (e : AerError) (a : Bool) : (s.aerError fn e a).links = s.links := by unfold State.aerError; cases s.aerMessage fn e a <;> cases fn <;> rfl
@[simp] theorem State.aerError_xc (fn : Fn) (e : AerError) (a : Bool) : (s.aerError fn e a).xc = s.xc := by unfold State.aerError; cases s.aerMessage fn e a <;> cases fn <;> rfl
@[simp] theorem State.aerError_seams (fn : Fn) (e : AerError) (a : Bool) : (s.aerError fn e a).seams = s.seams := by unfold State.aerError; cases s.aerMessage fn e a <;> cases fn <;> rfl
@[simp] theorem State.aerError_closing (fn : Fn) (e : AerError) (a : Bool) : (s.aerError fn e a).closing = s.closing := by unfold State.aerError; cases s.aerMessage fn e a <;> cases fn <;> rfl
@[simp] theorem State.aerError_streams (fn : Fn) (e : AerError) (a : Bool) : (s.aerError fn e a).streams = s.streams := by unfold State.aerError; cases s.aerMessage fn e a <;> cases fn <;> rfl
@[simp] theorem State.aerError_shaft (fn : Fn) (e : AerError) (a : Bool) : (s.aerError fn e a).shaft = s.shaft := by unfold State.aerError; cases s.aerMessage fn e a <;> cases fn <;> rfl
@[simp] theorem State.aerError_grizzly (fn : Fn) (e : AerError) (a : Bool) : (s.aerError fn e a).grizzly = s.grizzly := by unfold State.aerError; cases s.aerMessage fn e a <;> cases fn <;> rfl
@[simp] theorem State.aerError_smelter (fn : Fn) (e : AerError) (a : Bool) : (s.aerError fn e a).smelter = s.smelter := by unfold State.aerError; cases s.aerMessage fn e a <;> cases fn <;> rfl
@[simp] theorem State.aerError_slots (fn : Fn) (e : AerError) (a : Bool) : (s.aerError fn e a).slots = s.slots := by unfold State.aerError; cases s.aerMessage fn e a <;> cases fn <;> rfl
@[simp] theorem State.aerError_dict (fn : Fn) (e : AerError) (a : Bool) : (s.aerError fn e a).dict = s.dict := by unfold State.aerError; cases s.aerMessage fn e a <;> cases fn <;> rfl
@[simp] theorem State.aerError_regs (fn : Fn) (e : AerError) (a : Bool) : (s.aerError fn e a).regs = s.regs := by unfold State.aerError; cases s.aerMessage fn e a <;> cases fn <;> rfl
@[simp] theorem State.aerError_twin (fn : Fn) (e : AerError) (a : Bool) : (s.aerError fn e a).twin = s.twin := by unfold State.aerError; cases s.aerMessage fn e a <;> cases fn <;> rfl
@[simp] theorem State.aerError_fm (fn : Fn) (e : AerError) (a : Bool) : (s.aerError fn e a).fm = s.fm := by unfold State.aerError; cases s.aerMessage fn e a <;> cases fn <;> rfl
@[simp] theorem State.aerError_nv (fn : Fn) (e : AerError) (a : Bool) : (s.aerError fn e a).nv = s.nv := by unfold State.aerError; cases s.aerMessage fn e a <;> cases fn <;> rfl
@[simp] theorem State.aerError_free (fn : Fn) (e : AerError) (a : Bool) : (s.aerError fn e a).free = s.free := by unfold State.aerError; cases s.aerMessage fn e a <;> cases fn <;> rfl
@[simp] theorem State.aerError_pending (fn : Fn) (e : AerError) (a : Bool) : (s.aerError fn e a).pending = s.pending := by unfold State.aerError; cases s.aerMessage fn e a <;> cases fn <;> rfl

/-! ### Reads after updates -/

@[simp] theorem State.send_sent (x : Sent) : (s.send x).sent = x :: s.sent := rfl

theorem vget_vmod_same {α : Type} {n : Nat} (v : Vector α n) (i : Nat) (f : α → α) (d : α) (h : i < n) :
    vget (vmod v i f) i d = f (vget v i d) := by
  simp [vget, vmod, h]

theorem vget_vmod_other {α : Type} {n : Nat} (v : Vector α n) (i j : Nat) (f : α → α) (d : α) (h : j ≠ i) :
    vget (vmod v i f) j d = vget v j d := by
  by_cases hi : i < n <;> by_cases hj : j < n <;> simp [vget, vmod, hi, hj, h.symm]

theorem State.seam_onSeam_same (i : Nat) (f : Seam → Seam) (h : i < 48) :
    (s.onSeam i f).seam i = f (s.seam i) := vget_vmod_same _ _ _ _ h

theorem State.seam_onSeam_other (i j : Nat) (f : Seam → Seam) (h : j ≠ i) : (s.onSeam i f).seam j = s.seam j :=
  vget_vmod_other _ _ _ _ _ h

theorem State.stream_onStream_same (i : Nat) (f : Stream → Stream) (h : i < 64) :
    (s.onStream i f).stream i = f (s.stream i) := vget_vmod_same _ _ _ _ h

theorem State.stream_onStream_other (i j : Nat) (f : Stream → Stream) (h : j ≠ i) : (s.onStream i f).stream j = s.stream j :=
  vget_vmod_other _ _ _ _ _ h

theorem State.segment_onSegment_same (i : Nat) (f : Segment → Segment) (h : i < 64) :
    (s.onSegment i f).segment i = f (s.segment i) := vget_vmod_same _ _ _ _ h

theorem State.segment_onSegment_other (i j : Nat) (f : Segment → Segment) (h : j ≠ i) : (s.onSegment i f).segment j = s.segment j :=
  vget_vmod_other _ _ _ _ _ h

theorem State.slot_onSlot_same (i : Nat) (f : Slot → Slot) (h : i < 32) :
    (s.onSlot i f).slot i = f (s.slot i) := vget_vmod_same _ _ _ _ h

theorem State.slot_onSlot_other (i j : Nat) (f : Slot → Slot) (h : j ≠ i) : (s.onSlot i f).slot j = s.slot j :=
  vget_vmod_other _ _ _ _ _ h

theorem State.ring_onRing_same (i : Nat) (f : Ring → Ring) (h : i < 65) :
    (s.onRing i f).ring i = f (s.ring i) := vget_vmod_same _ _ _ _ h

theorem State.ring_onRing_other (i j : Nat) (f : Ring → Ring) (h : j ≠ i) : (s.onRing i f).ring j = s.ring j :=
  vget_vmod_other _ _ _ _ _ h

theorem State.link_onLink_same (i : Nat) (f : Link → Link) (h : i < 48) :
    (s.onLink i f).link i = f (s.link i) := vget_vmod_same _ _ _ _ h

theorem State.link_onLink_other (i j : Nat) (f : Link → Link) (h : j ≠ i) : (s.onLink i f).link j = s.link j :=
  vget_vmod_other _ _ _ _ _ h

end Sys2Proof.Machine
end

