-- ==== Sys2Proof/Tests/Slice0.lean ====
section
/-! SUPPORT. Tests of the model on small states, and for every statement with hypotheses states that meet them. -/

open Sys2Proof Sys2Proof.Machine

namespace Sys2Proof.Tests

set_option Elab.async false

/-! ## Small states -/

/-- The Foreman runs. -/
def fore : State := { State.reset with power.phase := .running }

/-- A device in Ready with its fabric powered. -/
def ready : State := { fore with power.fabric := true, modes.mode := .all 1 }

/-- One object of the configuration in force. -/
def setCfg (s : State) (index sub v : Nat) : State := { s with dict.live := s.dict.live.write (key index sub) v }

/-! ## What a statement assumes can be met -/

/-- A queue with a command, and one without. -/
theorem witness_queue : QueueOk State.reset ∧ State.reset.pending = [] ∧
    QueueOk { State.reset with pending := [.bootComplete, .sensorSample (List.replicate 15 none)] } ∧
    (Instr.sensorSample []).wf = false ∧ (Instr.sensorSample (List.replicate 15 none)).wf = true ∧
    exec .perstNRelease State.reset = .next State.reset := by
  refine ⟨by simp [QueueOk, State.reset], rfl, ?_, rfl, rfl, rfl⟩
  simp only [QueueOk, List.mem_cons, List.not_mem_nil, or_false]
  rintro c (rfl | rfl) <;> rfl

theorem witness_ColdStarts : ({ State.reset with power.phase := .off } : State).power.phase = .off ∧
    State.reset.power.phase = .booting ∧ fore.power.phase = .running ∧
    ({ State.reset with power.phase := .heldInReset } : State).power.phase = .heldInReset ∧
    ({ State.reset with power.phase := .shed } : State).power.phase = .shed ∧
    ({ fore with fm.selfReset := true } : State).fm.selfReset = true ∧ captureMode fore.mode = false ∧
    captureMode ({ fore with modes.mode := .all 2 } : State).mode = true ∧
    Passes fore .pf0 0x2000 0x0E (leBytes 2 0xA5C3) :=
  ⟨rfl, rfl, rfl, rfl, rfl, rfl, rfl, rfl, .of (by decide)⟩

theorem witness_PowerFailureAndBoot : fore.power.phase = .running ∧ fore.foremanRuns = true ∧
    State.reset.foremanRuns = false ∧ State.reset.power.phase = .booting ∧ State.reset.nv.bootChoice = some 0 ∧
    ({ State.reset.nv with slots := Vector.replicate 2 {} } : Nv).bootChoice = none :=
  ⟨rfl, rfl, rfl, rfl, by decide, by decide⟩

theorem witness_HostResets : ready.power.perst = false ∧ ready.powered = true ∧
    ({ ready with power.perst := true } : State).power.perst = true := ⟨rfl, rfl, rfl⟩

/-- A raster source of pulses on pin 0 that is being acquired. -/
def pulses : State := setCfg (setCfg { ready with sv.state := rsAcquire } 0x2100 1 1) 0x2100 2 0

/-- An edge of a pin before all taps of a sample. -/
def edge (sample : Nat) (rises : Bool) : PinEdge :=
  { sample, before := !rises, taps := if rises then BitVec.allOnes 64 else 0, after := rises }

set_option maxRecDepth 8192 in
theorem witness_ClockAndSyncPulses :
    (fore.sv.refLost = false ∧ ({ fore with sv.refLost := true } : State).sv.refLost = true ∧
      (let s : State := setCfg { ready with sv.state := rsLocked } 0x2100 1 1
       s.sv.refLost = false ∧ s.cfg 0x2100 1 ≠ 0 ∧ s.sv.state = rsLocked) ∧
      ready.power.fabric = true ∧ ({ ready with sv.pllLocked := true } : State).sv.pllLocked = true) ∧
    (pulses.samples = true ∧ pulses.cfg 0x2100 1 = 1 ∧ pulses.sv.state ≠ rsInternal ∧ 0 = pulses.cfg 0x2100 2 ∧
      1 ≠ pulses.cfg 0x2100 2 ∧ pulses.pinIgnored 40 = false ∧ pulses.sv.width = none ∧ pulses.sv.widths.length < 63) ∧
    (pulses.pinCrossing 0 (edge 100 true) = some (6400, !pulses.cfgOn 0x2100 3) ∧
      pulses.pinCrossing 0 (edge 102 false) = some (6528, pulses.cfgOn 0x2100 3)) ∧
    63 ≤ ({ pulses with sv.widths := List.replicate 63 5 } : State).sv.widths.length ∧
    (let s : State := { pulses with sv.width := some 2 }
     s.sv.width = some 2 ∧ s.sv.lastPulse = none ∧ s.sv.state ≠ rsLocked ∧ 2 - 1 ≤ (6528 - 6400 + 32) / 64 ∧
       (6528 - 6400 + 32) / 64 ≤ 2 + 1) ∧
    (let s : State := { pulses with sv.state := rsLocked, sv.width := some 2 }
     s.sv.state = rsLocked ∧ s.sv.lastPulse = none ∧
       (s.sv.linePeriod < 64 * (s.sv.phaseOf 6400).natAbs ∨ 64 * (s.sv.phaseOf 6400).natAbs ≤ s.sv.linePeriod)) ∧
    (2 + 1 < (480 + 32) / 64 ∧ 4 * 2 ≤ (480 + 32) / 64 ∧ 128 * ((480 + 32) / 64) ≤ 640000) ∧
    (2 + 1 < (416 + 32) / 64 ∧ (416 + 32) / 64 < 4 * 2) := by
  refine ⟨⟨rfl, rfl, by decide, rfl, rfl⟩, by decide, by decide, by decide, by decide, ⟨rfl, rfl, by omega⟩, by decide, by decide⟩

/-- A word of a seam with the word clock on channel 15 high or low. -/
def trsSamp (x w : Nat) : Samp := { sidx := x, word := some (BitVec.ofNat 16 w) }

/-- Link 0 is UP, the raster source is a TRS bus of 8 bits on seam 0, its clock on channel 15, and two words are there. -/
def trs (w : Nat) (last : List (Nat × Nat)) : State :=
  (({ setCfg (setCfg (setCfg (setCfg (setCfg ({ ready with sv.state := rsAcquire, sv.sidx := 9 } : State) 0x2100 1 3)
      0x2100 0x0C 8) 0x2100 0x0D 0) 0x2100 0x0E 15) 0x2400 1 0 with sv.trsLast := last } : State).onLink 0 fun m =>
        { m with state := lsUp }).onSeam 0 fun m => { m with buf := [trsSamp 8 0, trsSamp 9 w] }

/-- A reference line start that may be taken at bin 5. -/
def lineFound (s : State) : State := { setCfg s 0x2100 1 1 with sv.foundLine := some (5, false) }

theorem witness_ReferenceLines :
    (let s := trs 0x8000 []
     s.samples = true ∧ s.cfg 0x2100 1 = 3 ∧ s.sv.state ≠ rsInternal ∧ (∃ k : Fin 48, k.val = s.cfg 0x2100 0x0B) ∧
       (∃ c : Fin 16, c.val = s.cfg 0x2100 0x0E) ∧ (s.link (s.cfg (0x2400 + s.cfg 0x2100 0x0B) 1)).state = lsUp ∧ s.sv.trsAt ≠ some s.sv.sidx ∧ s.sv.sidx ≠ 0 ∧
       s.trsSample s.sv.sidx = some (trsSamp 9 0x8000) ∧ s.trsSample (s.sv.sidx - 1) = some (trsSamp 8 0) ∧
       (0x8000#16).getLsbD (s.cfg 0x2100 0x0E) = true ∧ (0#16).getLsbD (s.cfg 0x2100 0x0E) = false ∧
       s.cfg 0x2100 0x0C = 8) ∧ (∀ a b f, (trs 0x8000 []).sv.trsLast ≠ [(0, a), (0, b), (2 ^ 8 - 1, f)]) ∧
    (trs 0x8000 [(0, 3), (0, 2), (255, 1)]).sv.trsLast = [(0, 3), (0, 2), (2 ^ 8 - 1, 1)] ∧
    (xyzOk 8 0 = false ∧ xyzOk 8 0x80 = true ∧ Nat.testBit 0x80 (8 - 4) = false ∧ xyzOk 8 0x9D = true ∧
      Nat.testBit 0x9D (8 - 4) = true) ∧
    (lineFound { ready with sv.state := rsAcquire }).refLineValid 5 = true ∧
    (let s := lineFound { ready with sv.state := rsAcquire, sv.lastRefLine := some 0 }
     s.refLineValid 5 = true ∧ s.follows = false) ∧
    (let s := lineFound { ready with sv.state := rsLocked, sv.lastRefLine := some 0, sv.lastPeriod := some 5 }
     s.refLineValid 5 = true ∧ s.follows = false ∧
       ((((5 - 0) / (s.sv.missingRun + 1) : Nat) : Int) - (5 : Nat)).natAbs * 10000 ≤ 5) ∧
    (let s := lineFound { ready with sv.state := rsLocked, sv.lastRefLine := some 0, sv.lastPeriod := some 4 }
     s.refLineValid 5 = true ∧ 4 < ((((5 - 0) / (s.sv.missingRun + 1) : Nat) : Int) - (4 : Nat)).natAbs * 10000) ∧
    (let s := lineFound { ready with
       sv.state := rsHoldover, sv.lastRefLine := some 0, sv.lastPeriod := some 5, sv.heldPeriod := 5 }
     s.refLineValid 5 = true ∧ s.sv.refLost = false ∧ (((5 - 0 : Nat) : Int) - (5 : Nat)).natAbs * 10000 ≤ 5 ∧
       (((5 - 0 : Nat) : Int) - (5 : Nat)).natAbs * 100 ≤ 5) ∧
    (let s := lineFound { ready with sv.state := rsAcquire, twin.role := .all 2, twin.pairState := 5 }
     s.refLineValid 5 = true ∧ s.follows = true) := by
  refine ⟨by decide, ?_, rfl, by decide, by decide, by decide, by decide, by decide, by decide, by decide⟩
  intro a b f h
  exact nomatch (show ([] : List (Nat × Nat)) = [(0, a), (0, b), (255, f)] from h)

/-- A frame of 1,000 lines of 10,000 samples. -/
def frame (starts : List Nat) : FrameMeasure :=
  { lines := 1000, meanPeriod := 640000, minPeriod := 640000, maxPeriod := 640000, fields := 1, fieldStarts := starts
    startBin := 0 }

theorem witness_ReferenceFrames :
    (let s : State := setCfg { ready with sv.state := rsLocked } 0x2100 1 1
     s.follows = false ∧ s.sv.state = rsLocked ∧ s.cfg 0x2100 1 = 1 ∧ s.sv.missingRun < 2) ∧
    2 ≤ ({ ready with sv.missingRun := 2 } : State).sv.missingRun ∧
    (pulses.follows = false ∧ pulses.samples = true ∧ pulses.sv.state = rsAcquire) ∧
    ({ ready with sv.state := rsHoldover, sv.holdAlerted := true } : State).sv.holdAlerted = true ∧
    (let s : State := setCfg { ready with sv.state := rsLocked } 0x2100 1 1
     s.samples = true ∧ s.sv.state ≠ rsInternal ∧ s.cfg 0x2100 1 ≠ 2 ∧ s.sv.refLost = false ∧ s.follows = false ∧
       (frame []).fieldStarts = [] ∧ (frame [0]).fieldStarts ≠ []) ∧
    (let s : State := { setCfg pulses 0x2100 6 1000 with sv.lastFrame := some (frame [0]), sv.width := some 2 }
     s.samples = true ∧ s.sv.state = rsAcquire ∧ s.sv.refLost = false ∧ s.follows = false ∧ s.cfg 0x2100 1 = 1 ∧
       s.frameCause (frame [0]) (frame [0]) = 0 ∧ s.frameCause (frame [0]) { frame [0] with lines := 900 } ≠ 0) ∧
    (let s : State := { setCfg ready 0x2100 1 1 with
       sv.state := rsHoldover, sv.agreeRun := 100000, sv.pllLocked := true, sv.foundLine := some (5, true) }
     s.follows = false ∧ s.relockDue = true) := by
  refine ⟨by decide, by decide, by decide, rfl, by decide, by decide, by decide⟩

theorem witness_TimeAndPps :
    (fore.sv.todPending = none ∧ fore.sv.todApplied = false) ∧
    (let s : State := { fore with sv.todPending := some (5, 0), sv.up := nsTime 10000000 }
     nsTime 10000000 ≤ s.sv.up - 0 ∧ stepMode s.mode = true ∧
       nsTime 1000000 < ((s.sv.time : Int) - (5 * second : Nat)).natAbs) ∧
    (let s : State := { fore with sv.todApplied := true, sv.timeState := 1, sv.time := nsTime 20000 }
     s.sv.todPending = none ∧ s.sv.timeState ≠ 0 ∧
       nsTime 10000 < ((s.slewedTime : Int) - nearestSecond s.slewedTime).natAbs ∧ s.sv.ppsRejectRun < 2) ∧
    (let s : State := { fore with sv.todApplied := true, sv.ppsGood := 1, sv.time := nsTime 1000 }
     s.sv.todPending = none ∧ 1 ≤ s.sv.ppsGood ∧
       ((s.slewedTime : Int) - nearestSecond s.slewedTime).natAbs ≤ nsTime 1000 ∧
       ((s.sv.time : Int) - nearestSecond s.slewedTime).natAbs ≤ nsTime 1000000) ∧
    (let s : State := setCfg { ready with sv.ppsPresent := true, sv.timeState := 1, sv.state := rsLocked } 0x2100 1 2
     s.sv.ppsPresent = true ∧ s.sv.timeState = 1 ∧ s.cfg 0x2100 1 = 2 ∧ s.sv.state = rsLocked) ∧
    (let s := setCfg { ready with sv.advance := 64 } 0x2100 0x12 1
     s.samples = true ∧ s.power.ppsOut = false ∧ s.cfg 0x2100 0x12 = 1 ∧ s.sv.time % second < s.sv.advance) ∧
    (let s := setCfg { ready with power.ppsOut := true, sv.time := nsTime 100000000 } 0x2100 0x12 1
     s.power.ppsOut = true ∧ s.cfg 0x2100 0x12 = 1 ∧ nsTime 100000000 ≤ s.sv.time % second) ∧ fore.samples = false := by
  refine ⟨by decide, by decide, by decide, by decide, by decide, by decide, by decide, by decide⟩

theorem witness_TimeWrites : Passes fore .pf0 0x2100 0x13 (leBytes 12 0) ∧ Passes fore .pf0 0x2100 0x14 (leBytes 12 0) ∧
    ({ fore with sv.ppsPresent := true } : State).sv.ppsPresent = true ∧ stepMode fore.mode = true ∧
    Passes { ready with modes.mode := .all 2 } .pf0 0x2100 0x14 (leBytes 12 0) ∧
    stepMode ({ ready with modes.mode := .all 2 } : State).mode = false :=
  ⟨.of (by decide), .of (by decide), rfl, rfl, .of (by decide), rfl⟩

theorem gfMul_zero (b : Nat) : gfMul 0 b = 0 := by simp [gfMul, List.range, List.range.loop]

theorem syndrome_zero (n j : Nat) : syndrome (List.replicate n 0) j = 0 := by
  unfold syndrome
  induction n with
  | zero => rfl
  | succ n ih => simp [List.replicate_succ, gfMul_zero, ih]

theorem rsDecode_zero (n : Nat) : rsDecode (List.replicate n 0) = some (0, List.replicate n 0) := by
  simp [rsDecode, syndromes, syndrome_zero]

theorem foldl_zero (n : Nat) : (List.replicate n 0).foldl (fun acc v => acc * 4 + grayPair v) 0 = 0 := by
  induction n with
  | zero => rfl
  | succ n ih => simpa [List.replicate_succ, grayPair] using ih

theorem symbolsOf_zero (n : Nat) : symbolsOf (List.replicate n 0) = List.replicate rsSymbols 0 := by
  apply List.ext_getElem <;> simp [symbolsOf, foldl_zero, -List.reduceReplicate]

/-- A frame of lowest symbols is a codeword, all zeros. -/
theorem decodes_zero : ∃ f, decodeFrame (List.replicate 1700 0) false false 0 = some (0, f) :=
  ⟨frameOf (messageBits (List.replicate rsSymbols 0)), by
    simp [decodeFrame, polarity, symbolsOf_zero, rsDecode_zero, -List.reduceReplicate]⟩

/-- Probe link 0 in a state of its receiver. -/
def linkIn (st : Nat) : State := ready.onLink 0 fun m => { m with state := st, noPartner := st == lsSearch }

theorem witness_LinkTraining : (linkIn lsSearch).rxOn (.probe 0) = true ∧ ((linkIn lsSearch).rx (.probe 0)).state = lsSearch ∧
    ((linkIn lsSearch).rx (.probe 0)).noPartner = true ∧ (linkIn lsLevels).rxOn (.probe 0) = true ∧
    ((linkIn lsLevels).rx (.probe 0)).state = lsLevels ∧ ((linkIn lsLevels).rx (.probe 0)).noPartner = false ∧
    ((linkIn lsFrame).rx (.probe 0)).state = lsFrame ∧ ((linkIn lsFec).rx (.probe 0)).state = lsFec ∧
    (let m := (linkIn lsDeskew).rx (.probe 0)
     m.state = lsDeskew ∧ m.partnerState < 5 ∧ m.rxFailRaised = false) := by decide

theorem witness_frame : ∃ x : RxFrame, x.ok = true := by
  have h : ∀ l : List (Fin 4), l.length = 1700 → (RxFrame.mk l 0 0).ok = true := fun l h => by
    simp [RxFrame.ok, frameSymbols, h]
  exact ⟨_, h (List.replicate 1700 0) List.length_replicate⟩

theorem witness_FramesAndLosses :
    (let m := (linkIn lsUp).rx (.probe 0)
     m.state ≠ lsDisabled ∧ m.state ≠ lsTest ∧ lsFec ≤ m.state ∧ m.state ≤ lsUp ∧ m.alignment ≠ 5) ∧
    ((linkIn lsTest).rx (.probe 0)).state = lsTest ∧ (linkIn lsUp).fedSeam 0 = some 0 ∧
    (let s := (linkIn lsUp).onSeam 0 fun m => { m with joined := true }
     (s.seam 0).joined = true ∧ (s.seam 0).lostAt = none ∧ s.fedSeam 0 = some 0) ∧
    (let m := (ready.onLink 0 fun m => { m with state := lsUp, badRun := 4, seqRun := 2, driftRun := 4 }).rx (.probe 0)
     4 ≤ m.badRun ∧ 2 ≤ m.seqRun ∧ 4 ≤ m.driftRun ∧ lsFec ≤ m.state ∧ m.state = lsUp) ∧
    fore.rxOn (.probe 0) = false ∧ (linkIn lsFrame).rxOn (.probe 0) = true ∧
    (linkIn lsUp).rxOn (.probe 0) = true := by decide

/-- A frame that the hunt of a receiver in FRAME decodes. -/
theorem witness_hunt : ∃ (x : RxFrame) (e : Nat) (f : Frame), (((linkIn lsFrame).rx (.probe 0)).hunts.findSome? fun h =>
    (((linkIn lsFrame).rx (.probe 0)).tryDecode x h.1 h.2).map fun d => (h, d)) = some ((false, false), e, f) := by
  have hh : ((linkIn lsFrame).rx (.probe 0)).hunts = [(false, false), (true, false)] := by decide
  have key : ∀ (x : RxFrame) (f : Frame), decodeFrame x.levels false false 0 = some (0, f) →
      (((linkIn lsFrame).rx (.probe 0)).hunts.findSome? fun h =>
        (((linkIn lsFrame).rx (.probe 0)).tryDecode x h.1 h.2).map fun d => (h, d)) = some ((false, false), 0, f) := by
    intro x f h
    have hd : ((linkIn lsFrame).rx (.probe 0)).tryDecode x false false = some (0, f) := h
    rw [hh, List.findSome?_cons, hd]
    rfl
  obtain ⟨f, h⟩ := decodes_zero
  exact ⟨{ levels := List.replicate 1700 0, ui := 0, arrival := 0 }, 0, f, key _ f h⟩

theorem witness_LinkMessages :
    (let m := (ready.onLink 0 fun m => { m with msg := some [1], msgAttempts := 1 }).link 0
     m.msg = some [1] ∧ m.msgAttempts < 3) ∧
    (let m := (ready.onLink 0 fun m => { m with msg := some [1], msgAttempts := 3 }).link 0
     m.msg = some [1] ∧ 3 ≤ m.msgAttempts ∧ m.deviceMsgs = [] ∧ m.hostMsgs = []) ∧
    (let s := setCfg (ready.onLink 0 fun m => { m with state := lsTest, patternAcked := true }) 0x2200 5 1
     (s.link 0).state = lsTest ∧ s.cfg 0x2200 5 ≠ 0 ∧ s.cfg 0x2200 6 = 0 ∧ (s.link 0).patternAcked = true) ∧
    (let s := linkIn lsTest
     (s.link 0).state = lsTest ∧ (s.link 0).patternAcked = false ∧ s.sendsData 0 = true) ∧
    (setCfg (linkIn lsTest) 0x2200 6 1).cfg 0x2200 6 = 1 ∧
    msgType [0x7F] < 0x80 ∧ 0x80 ≤ msgType [0x80] ∧ (ready.link 0).hostMsgs.length < 4 ∧ ready.sendsData 0 = false ∧
    (let s := (linkIn lsUp).onLink 0 fun m => { m with partnerState := 5, timingDone := true }
     (s.link 0).hostMsgs = [] ∧ (s.link 0).deviceMsgs = [] ∧ (s.link 0).msg = none ∧ s.sendsData 0 = true ∧
       (s.link 0).timingDone = true) ∧
    4 ≤ ((ready.onLink 0 fun m => { m with hostMsgs := [[], [], [], []] }).link 0).hostMsgs.length := by decide

theorem witness_LinkObjects : Passes ready .pf0 0x2200 7 (0x7F :: List.replicate 63 0) ∧ Passes ready .pf0 0x222F 7 (0x80 :: List.replicate 63 0) ∧
    Passes ready .pf0 0x2200 8 [1] := ⟨.of (by decide), .of (by decide), .of (by decide)⟩

/-- Seam 0 feeds stream 0 with an ingot open since sample 0. -/
def openSeam : State :=
  (setCfg (setCfg { ready with sv.sidx := 4096 } 0x2400 4 0) 0x2840 1 1).onSeam 0 fun m => { m with
    openStream := some { sidx := 0, rastpos := 0, time96 := 0 }, joined := true }

/-- The same in FRAME mode on sample 2, with valid samples. -/
def frameSeam (starts : Bool) : State :=
  (setCfg (setCfg { ready with sv.sidx := 2, sv.frameStart := starts } 0x2400 4 0) 0x2840 1 4).onSeam 0 fun m => { m with
    openStream := some { sidx := 0, rastpos := 0, time96 := 0 }, joined := true, buf := [trsSamp 0 0, trsSamp 1 0, trsSamp 2 0] }

theorem witness_IngotsAndSeams : (ready.seam 0).openOf .stream = none ∧
    (let s := openSeam
     (s.seam 0).openOf .stream = some { sidx := 0, rastpos := 0, time96 := 0 } ∧ 0 < s.sv.sidx ∧
       s.gridOf 0 .stream ≠ 4 ∧ (s.gridPoint (s.gridOf 0 .stream) = true ∨ s.validityCut 0 = true) ∧
       s.gatedOut 0 .stream 0 s.sv.sidx = false ∧
       (setCfg s 0x2600 2 1).gatedOut 0 .stream 0 s.sv.sidx = true) ∧
    (let s := frameSeam true
     (s.seam 0).openOf .stream = some { sidx := 0, rastpos := 0, time96 := 0 } ∧ 0 < s.sv.sidx ∧ s.gridOf 0 .stream = 4 ∧
       s.sv.frameStart = true ∧ (s.seam 0).statusAt 0 = 0 ∧ (s.seam 0).frameFell = false ∧ s.frameFits 0 0 = true ∧
       s.gatedOut 0 .stream 0 s.sv.sidx = false) ∧
    (let s := frameSeam false
     s.sv.frameStart = false ∧ s.sv.lineStart = false ∧ s.validityCut 0 = false) ∧
    (let s : State := { ready with sv.lineStart := true }.onSeam 0 fun m => { m with firstUp := some 0 }
     (s.seam 0).firstUp = some 0 ∧ s.samples = true ∧ s.sv.lineStart = true ∧ s.seamLost 0 = true ∧ 0 ≤ s.sv.sidx ∧
       (s.seam 0).openStream = none ∧ (s.seam 0).openWindow = none) := by decide

theorem witness_SamplePayload : (encodeRun [] 1 false).1 = 1 ∧
    (openSeam.gridOf 0 .stream = 1 ∧ openSeam.sv.sidx % 4096 = 0 ∧ openSeam.gatedOut 0 .stream 0 4096 = false) := by decide

/-- The Shaft runs, undecided. -/
def shaftOn : State := { ready with modes.mode := .all 3, shaft.running := true }

theorem witness_Shaft : (shaftOn.shaft.running = true ∧ shaftOn.shaft.decided ≠ some shaftOn.sv.sidx ∧
      shaftOn.firing = none) ∧
    ({ shaftOn with shaft.decided := some 0 } : State).shaft.decided = some shaftOn.sv.sidx ∧
    ({ shaftOn with shaft.storage := true } : State).shaft.storage = true := by decide

/-- A due firing, or a pulse, on marker 0. -/
def marker (active : Bool) (due : List (Nat × Nat)) : State :=
  { shaftOn with shaft.markers := shaftOn.shaft.markers.set 0 { active, due } }

theorem witness_Markers :
    (let s := marker false [(0, 1)]
     s.shaft.markers[(0 : Fin 8)].due = (0, 1) :: [] ∧ 0 ≤ s.fabricCycle ∧ captureMode s.mode = true ∧ s.drivesPins = true) ∧
    (let s := marker true []
     s.shaft.markers[(0 : Fin 8)].active = true ∧ s.shaft.markers[(0 : Fin 8)].endAt ≤ s.fabricCycle ∧
       s.shaft.markers[(0 : Fin 8)].due = []) ∧ ready.shaft.markers[(0 : Fin 8)].active = false := by decide

theorem witness_Lines :
    (let s := { setCfg ready (lineObject 0) 4 5 with shaft.lines := vmod ready.shaft.lines 0 fun x =>
       { x with level := ready.activeHigh 0 } }
     s.power.fabric = true ∧ s.cfg (lineObject 0) 4 ≠ 0 ∧ (s.extLine 0).level = s.activeHigh 0 ∧
       (s.extLine 0).reported = false) ∧
    (({ ready with shaft.lines := vmod ready.shaft.lines 0 fun x => { x with reported := true } } : State).extLine 0).reported =
      true ∧
    ready.pinIgnored 0 = false ∧
    (setCfg { ready with shaft.calState := 1, shaft.calMask := 1 } 0x27A0 2 0).pinIgnored 0 = true ∧
    (ready.extLine 0).lastTap = false := by decide

theorem witness_Calibration : Passes ready .pf0 0x27A0 1 (leBytes 8 1) ∧ ready.mode ≠ 7 ∧
    Passes { ready with modes.mode := .all 7 } .pf0 0x27A0 1 (leBytes 8 1) ∧
    ({ ready with modes.mode := .all 7 } : State).mode = 7 ∧
    ({ ready with modes.mode := .all 7 } : State).shaft.calState ≠ 1 ∧
    histOk (List.replicate 44 (List.replicate 64 5)) = true ∧
    ({ ready with shaft.calState := 1 } : State).shaft.calState = 1 ∧ ready.shaft.calFail = 0 :=
  ⟨.of (by decide), by decide, .of (by decide), rfl, by decide, by decide, rfl, rfl⟩

/-- A trigger on sample 0. -/
def trig0 : Trig := { sidx := 0, rastpos := 0, time96 := 0, bin := 0, placement := 0, level := 0, branch := 0, markId := 0 }

/-- Segment 0 in a state, closed when that is 3. -/
def segIn (st : Nat) : State :=
  { shaftOn with sv.sidx := 2 ^ 40 }.onSegment 0 fun m => { m with state := st, trig := some trig0, headerDone := true }

def dead (waits : Bool) : Dead := { start := { sidx := 2 ^ 40 - 192, rastpos := 0, time96 := 0 }, closed := none, next := 0, waits }

theorem witness_WindowSegments :
    (let s : State := { segIn 2 with shaft.filling := some 0 }
     s.shaft.filling = some 0 ∧ (s.segment 0).state = 2 ∧ (s.segment 0).trig = some trig0 ∧
       trig0.sidx + s.cfg 0x26C0 3 < s.sv.sidx) ∧
    (let s : State := { segIn 0 with shaft.dead := some (dead false) }
     (dead false).waits = false ∧ (dead false).start.sidx + 192 ≤ s.sv.sidx ∧ (dead false).next < 64 ∧ (s.segment 0).code = 0) ∧
    (let s : State := { segIn 0 with sv.sidx := 2 ^ 40 - 1, shaft.dead := some (dead false) }
     s.sv.sidx < (dead false).start.sidx + 192) ∧
    ((segIn 3).segment 0).code = 3 ∧ (segIn 3).cfg 0x2600 6 ≠ 1 ∧ (segIn 3).beingRead 0 = false ∧
    ({ segIn 3 with grizzly.rdState := 1, grizzly.rdLeft := some (0, []) } : State).beingRead 0 = true ∧
    ((segIn 0).segment 0).code ≠ 3 ∧ (dead true).waits = true := by decide

theorem witness_SegmentRelease : Passes (segIn 3) .pf0 0x2600 7 [0] ∧ leNat [0] = 0 :=
  ⟨.of (by decide), by decide⟩

/-- An ingot of seam 0 and stream 0. -/
def ing (type : Nat) (isSealed : Bool) (flags : Byte) : Ingot :=
  { type, flags, stream := 0, source := 0, seq := 7, sidx := 0, rastpos := 0, time96 := 0, span := 2, epoch := 0, aux := 0
    payload := [1, 0, 1, 0], stored := [1, 0, 1, 0], close := 4, rank := 2, isSealed }

/-- The link is in L0 at full rate, the bus may be mastered, and ring 0 is large and enabled. -/
def hosted : State :=
  { ready with
    modes.mode := .all 2, hf.ready := true, hf.l0 := true, hf.bme := true, hf.cfg0 := { mse := true }, grizzly.g := 800000
    hf.rings := ready.hf.rings.set 0 { enable := true, sizeOrder := 12 } }

/-- Stream 0 armed on ring 0 with waiting ingots and a backlog. -/
def flow (waiting backlog : List Ingot) : State :=
  hosted.onStream 0 fun m => { m with armed := true, ring := some 0, waiting, backlog }

theorem witness_IngotsSealed :
    (let i := ing 1 false 0
     (flow [i] []).sealStream 0 = some (0, i) ∧ i.flags &&& flCompressed = 0 ∧ i.flags &&& flEncrypted = 0 ∧
       i.stored.length + 16 ≤ maxPayload) ∧
    (let i := ing 1 false flEncrypted
     (flow [i] []).sealStream 0 = some (0, i) ∧ i.flags &&& flCompressed = 0 ∧ i.flags &&& flEncrypted ≠ 0) ∧
    (let i := ing 1 false flCompressed
     (flow [i] []).sealStream 0 = some (0, i) ∧ i.flags &&& flCompressed ≠ 0 ∧ i.flags &&& flEncrypted = 0) ∧
    (flow [] []).sealStream 0 = none ∧
    (let i := ing 1 false 0
     ({ hosted with smelter.windowWaiting := [i] } : State).smelter.windowWaiting.find? (fun i => i.waitsFor 0) = some i) ∧
    hosted.smelter.windowWaiting.find? (fun i => i.waitsFor 0) = none := by
  decide

/-- A stored output of more than 64 MiB. -/
theorem witness_OutputFull : maxPayload < (List.replicate (maxPayload + 1) (0 : Byte)).length + 0 := by
  rw [List.length_replicate]
  omega

/-- A backlog of 512 MiB, of which the reserve is half. -/
def room (mib : Nat) (waiting : List Ingot) : State := setCfg (flow waiting []) 0x2800 3 mib

theorem witness_DoorDecides :
    (let i := ing 1 true 0
     let s := room 512 [i]
     (s.stream 0).waiting = i :: [] ∧ i.isSealed = true ∧ s.doorWaits i = false ∧ s.twin.handoff = false ∧
       s.isShadow = false ∧ i.control = false ∧ s.tooLarge 0 i = false ∧ i.size + reserveBytes ≤ s.backlogRoom ∧
       s.heldNow 0 = false ∧ s.inBound (s.committedBytes + i.size) = true) ∧
    (let i := ing 1 true 0
     let s := room 256 [i]
     s.isFloor 0 = false ∧ s.backlogRoom < i.size + reserveBytes ∧ (i.gapOf 4 i.size).size ≤ s.backlogRoom ∧
       s.tooLarge 0 i = false) ∧
    (let i := ing 1 true 0
     let s := room 0 [i]
     s.isFloor 0 = false ∧ s.backlogRoom < i.size + reserveBytes ∧ ¬ (i.gapOf 4 i.size).size ≤ s.backlogRoom) ∧
    (let i := ing 1 true 0
     let s := setCfg (setCfg (setCfg (room 256 [i]) 0x2840 0x0F 1) 0x2840 0x10 1) 0x2400 4 0
     s.isFloor 0 = true ∧ s.backlogRoom < i.size + reserveBytes ∧ (i.gapOf 5 i.size).size ≤ s.backlogRoom) ∧
    (let i := ing 1 false 0
     ((room 512 [i]).stream 0).waiting = i :: [] ∧ i.isSealed = false) ∧ (hosted.stream 0).waiting = [] ∧
    (let i := ing 3 true 0
     i.control = true ∧ i.size ≤ (room 256 [i]).backlogRoom ∧ (room 0 [i]).backlogRoom < i.size) := by decide

/-- An ingot above half of a ring of 1 MiB, for which a GAP fits. -/
theorem witness_TooLarge : ∃ i : Ingot, i.control = false ∧
    ((flow [] []).onRing 0 fun r => { r with sizeOrder := 0 }).tooLarge 0 i = true ∧ (i.gapOf 4 i.size).size ≤ 256 := by
  have h : ((flow [] []).onRing 0 fun r => { r with sizeOrder := 0 }).ringOf 0 = some 0 := by decide
  have hb : (((flow [] []).onRing 0 fun r => { r with sizeOrder := 0 }).ring 0).bytes = 1048576 := by decide
  have key : ∀ l : List Byte, l.length = 600000 →
      let i : Ingot := { ing 1 true 0 with stored := l }
      i.control = false ∧ ((flow [] []).onRing 0 fun r => { r with sizeOrder := 0 }).tooLarge 0 i = true ∧
        (i.gapOf 4 i.size).size ≤ 256 := by
    intro l hl
    refine ⟨rfl, ?_, ?_⟩
    · simp [State.tooLarge, h, hb, Ingot.size, pad16, ing, hl]
    · simp [Ingot.size, Ingot.gapOf, gapPayload, leBytes, pad16, ing, hl]
  exact ⟨_, key (List.replicate 600000 0) List.length_replicate⟩

theorem witness_Drain :
    (let s := { flow [] [] with grizzly.bins := List.replicate 10 0 }
     s.drainMean < s.drainE ∧ s.scopeAll ≠ 0) ∧
    (let s := { flow [] [ing 1 true 0] with hf.rings := ready.hf.rings }
     (s.stream 0).backlog ≠ [] ∧ s.withdrawn = false ∧ s.headFits 0 = false ∧ (s.stream 0).held = false) ∧
    (let s := (flow [] [ing 1 true 0]).onStream 0 fun m => { m with held := true }
     (s.stream 0).held = true ∧ s.headFits 0 = true) ∧
    (let x : Suspension := { cause := .linkDown, scope := 0, metSince := some 0 }
     ({ hosted with sv.up := second, grizzly.suspensions := [x] } : State).suspensionOver x = true ∧
       ready.suspensionOver x = false) := by decide

theorem witness_Link : hosted.hf.l0 = true ∧ ready.hf.l0 = false ∧ ready.canTrain = true ∧
    trainedWidth 0xFFFF false = some 16 ∧ trainedWidth 0xFF false = some 8 ∧ trainedWidth 0xF false = some 4 ∧
    trainedWidth 0 false = none ∧ ready.grizzly.gWas ≤ 800000 ∧
    ready.floorRate ready.cfg ready.mode ready.grizzly.demoted ≤ ((min (ready.cfg 0x2800 2) 800000 : Nat) : Rat) ∧
    ({ ready with power.perst := true } : State).canTrain = false ∧ (flow [] []).scopeAll ≠ 0 := by decide

/-- A readout of segment 0 may go to ring 1. -/
def readable : State := setCfg ({ segIn 3 with modes.mode := .all 1 } : State) 0x2810 2 1

theorem witness_ReadoutLife : Passes readable .pf0 0x2810 3 [1] ∧ Passes readable .pf0 0x2810 3 [0] ∧
    ((readable.segment (readable.cfg 0x2810 1)).code = 3 ∧ readable.cfg 0x2810 2 ≠ 0xFF ∧
      readable.armedOn (readable.cfg 0x2810 2) = false ∧ readable.cfg 0x2810 2 ≠ readable.cfg 0x2C00 1 ∧
      readoutMode readable.mode = true ∧ readable.grizzly.rdState ≠ 1 ∧ readable.cfg 0x2810 1 < 64) ∧
    (let s : State := { readable with grizzly.rdState := 1, grizzly.rdLeft := some (0, []) }
     s.grizzly.rdLeft = some (0, []) ∧ s.grizzly.rdState = 1) ∧ readable.grizzly.rdLeft = none ∧
    ({ readable with modes.mode := .all 0 } : State).mode = 0 ∧ readoutMode 0 = false ∧ (segIn 3).cfg 0x2810 2 = 0xFF :=
  ⟨.of (by decide), .of (by decide), by decide, by decide, rfl, rfl, rfl, by decide⟩

/-- An entry of the log. -/
def logged : LogEntry :=
  { seq := 0, code := .powerFail, cls := .notice, unit := .foreman, sidx := 0, time96 := 0, epoch := 0, mode := 1, inst := 0xFF
    flags := 0, reps := 0, detail := [] }

theorem witness_Images :
    (let i := ing 1 true 0
     let s := flow [] [i]
     s.nextStream = some 0 ∧ (s.stream 0).backlog = i :: [] ∧ s.ringOf 0 = some 0 ∧ i.isData = true ∧
       s.nextStream ≠ some 1) ∧
    (let i := ing 1 true 0
     let s := setCfg { hosted with grizzly.rdLeft := some (0, [i]), grizzly.rdState := rdRunning } 0x2810 2 0
     s.busOn = true ∧ s.producerOf (s.cfg 0x2810 2) = 2 ∧ 2 * i.size ≤ (s.ring (s.cfg 0x2810 2)).bytes ∧
       s.ringRoom (s.cfg 0x2810 2) i.size = true ∧ s.yieldsToB i.size = false) ∧
    (let i := ing 6 true 0
     let s := setCfg { hosted with grizzly.classB := [.assay i] } 0x2C00 1 0
     takeFirst ClassBItem.image? s.grizzly.classB = some (i, []) ∧ s.cfg 0x2C00 1 ≠ 0xFF ∧ s.busOn = true ∧
       s.producerOf (s.cfg 0x2C00 1) = 3 ∧ s.ringRoom (s.cfg 0x2C00 1) i.size = true ∧ hosted.cfg 0x2C00 1 = 0xFF) := by
  decide

theorem witness_Cursors :
    (let s : State := { hosted with hf.rings := hosted.hf.rings.set 0 { enable := true, uncovered := [(1, 2, 3)] } }
     (s.ring 0).uncovered.getLast? = some (1, 2, 3) ∧ s.busOn = true ∧ s.ringBlocked 0 = false ∧
       (s.ring 0).awaiting = none ∧ s.paired = false) ∧
    (let s : State := { hosted with twin.role := .all 1, twin.pairState := 5 }
     s.paired = true ∧ s.role = 1) ∧ (hosted.ring 0).uncovered = [] ∧
    (let s : State := { hosted with
       grizzly.classB := [.entry logged], hf.rings := hosted.hf.rings.set 64 { enable := true } }
     takeFirst ClassBItem.entry? s.grizzly.classB = some (logged, []) ∧ s.busOn = true ∧ s.ringRoom 64 64 = true ∧
       (s.ring 64).awaiting = none) ∧ takeFirst ClassBItem.entry? hosted.grizzly.classB = none := by decide

theorem witness_RingsAndMsix : (hosted.ring 1).enable = false ∧ (hosted.ring 0).enable = true ∧
    (hosted.isShadow = false ∧ posDist (hosted.ring 0).rdPos (0 : Word).toNat ≤ posDist (hosted.ring 0).rdPos (hosted.ring 0).wrPos ∧
      posDist (hosted.ring 0).rdPos (hosted.ring 0).wrPos < posDist (hosted.ring 0).rdPos (1 : Word).toNat) ∧
    ({ hosted with twin.role := .all 2 } : State).isShadow = true ∧
    (let s : State := { hosted with hf.rings := hosted.hf.rings.set 0 { irqEn := true, unsignalledAny := true } }
     (s.ring 0).irqEn = true ∧ (s.ring 0).unsignalledAny = true ∧ s.canSignal .pf0 0 = false) ∧
    0 < 16 * vectorsOf .pf0 ∧
    (let s : State := { hosted with hf.msix0 := hosted.hf.msix0.set 1 { masked := false, pending := true } }
     (s.msixEntry .pf0 1).pending = true ∧ s.busOn = true ∧ s.hf.ide = Vector.replicate 4 none ∧
       (s.msixEntry .pf0 1).masked = false) := by decide

/-- A job descriptor without an input. -/
def descriptor : List Byte := [1] ++ List.replicate 63 0

/-- A job, with its ring enabled. -/
def job : Job :=
  { slot := 0, opt := 2, tag := 0, inAddr := 0, inLen := 1, outCap := 1, outAddr := 0, outExpect := 0, expectCrc := 0 }

def jobs : State := setCfg { hosted with smelter.enable := true, smelter.tail := 1 } 0x2A00 1 1

theorem witness_JobRing : (hosted.smelter.enable = false ∧ hosted.smelter.tail < hosted.smelter.ringSize) ∧
    ({ hosted with smelter.tail := 64 } : State).smelter.ringSize ≤ 64 ∧ (63 : Word).toNat % 65536 < hosted.smelter.ringSize ∧
    hosted.smelter.ringSize ≤ (64 : Word).toNat % 65536 ∧
    (jobs.smelter.enable = true ∧ jobs.busOn = true ∧ jobs.smelter.nextSlot = some 0 ∧ jobs.smelter.again = [] ∧
      jobs.smelter.queue.length + jobs.smelter.fetching.length < 16 ∧ jobs.freeTag = some 0) ∧
    ({ jobs with smelter.again := [0] } : State).smelter.nextSlot = some 0 ∧
    (hosted.smelter.fetch = hosted.smelter.tail ∧ hosted.smelter.again = []) ∧
    (let g : Tag := { tag := 0, descriptor := true, slot := 0, orphaned := false, timedOut := false }
     ({ jobs with hf.tags := [g] } : State).oldestFetch = some g) ∧ jobOk descriptor = false ∧
    jobOk ([1, 0, 0, 0] ++ List.replicate 12 0 ++ leBytes 4 1 ++ leBytes 4 1 ++ List.replicate 40 0) = true := by decide

/-- A job whose input, one stored block of one byte, has arrived. -/
def loaded : Job := { job with inLen := 6, asked := 6, input := [1, 1, 0, 0xFE, 0xFF, 7], outCap := 1, outExpect := 1 }

set_option maxRecDepth 8192 in
theorem witness_JobsRun :
    (let s : State := { jobs with smelter.queue := [job] }
     s.smelter.queue = job :: [] ∧ s.freeEngine = some 0 ∧ s.freeTag = some 0 ∧ s.busOn = true) ∧
    jobs.smelter.queue = [] ∧
    (let s : State := { jobs with smelter.engines := jobs.smelter.engines.set 0 (some loaded), smelter.fetch := 1 }
     s.smelter.engines[(0 : Fin 16)] = some loaded ∧ s.busOn = true ∧ s.smelter.completed = [] ∧
       s.smelter.isFetched loaded.slot = true) ∧ jobs.smelter.engines[(0 : Fin 16)] = none ∧
    (loaded.result.map fun r => (r.code, r.out)) = some (0, [7]) ∧ job.result = none ∧ bitOf job.opt 1 = true ∧
    jobs.canSignal .pf0 65 = false := by decide

/-- A tag of a request for a descriptor, or for the input of the job in engine 0. -/
def tagOf (descriptor orphaned timedOut : Bool) : Tag := { tag := 5, descriptor, slot := 0, orphaned, timedOut }

theorem witness_Completions :
    ((∀ x ∈ jobs.hf.tags, x.tag ≠ 5)) ∧
    (∀ d o u, ({ jobs with hf.tags := [tagOf d o u] } : State).hf.tags.find? (fun x => x.tag == 5) = some (tagOf d o u)) ∧
    (∀ d, ({ jobs with hf.tags := [tagOf d false false] } : State).hf.tags.find?
      (fun x => x.tag == 5 && !x.orphaned && !x.timedOut) = some (tagOf d false false)) ∧
    (let s : State := { jobs with hf.tags := [tagOf false false false], smelter.engines := jobs.smelter.engines.set 0 (some job) }
     (tagOf false false false).slot = (0 : Fin 16).val ∧ s.smelter.engines[(0 : Fin 16)] = some job ∧ s.busOn = true ∧
       job.asked < job.inLen ∧ loaded.inLen ≤ loaded.asked ∧
       ({ s with hf.tags := s.hf.tags.filter fun x => x.tag != 5 } : State).freeTag = some 0) := by decide

/-- Slot 0 measures in each frame. -/
def measuring (start : Option Coord) : State :=
  (setCfg (setCfg { hosted with sv.sidx := 100, sv.frameStart := true } (slotObject 0) 1 1) (slotObject 0) 2 scFrame).onSlot 0
    fun m => { m with start }

/-- A result that is due. -/
def due : AssayDue :=
  { ingot := ing 6 true 0, end_ := 2, kind := 1, scope := scFrame, chA := 0, chB := 0, edges := (0, 0), status := 0, runs := []
    words := [], bus := (0, 0, 0), compare := none, done := true }

theorem witness_AssayResults : hosted.kindNow 0 = akOff ∧
    (let c : Coord := { sidx := 0, rastpos := 0, time96 := 0 }
     let s := measuring (some c)
     s.kindNow 0 ≠ akOff ∧ (s.slot 0).start = some c ∧ s.scopeEnd 0 c.sidx = some 100 ∧ c.sidx < 100 ∧
       s.slotCfg 0 2 ≠ scLine) ∧
    ((measuring none).kindNow 0 ≠ akOff ∧ ((measuring none).slot 0).start = none ∧ (measuring none).scopeStarts 0 = true) ∧
    (let c : Coord := { sidx := 100, rastpos := 0, time96 := 0 }
     (measuring (some c)).scopeEnd 0 c.sidx = none) ∧ (hosted.slot 0).closed = [] ∧
    (let s := setCfg (hosted.onSlot 0 fun m => { m with closed := [due] }) 0x2C00 1 1
     (s.slot 0).closed = due :: [] ∧ due.done = true ∧ s.doorWaits due.ingot = false ∧ s.isShadow = false ∧
       s.earlierResult 0 due = false ∧ s.cfg 0x2C00 1 ≠ 0xFF ∧ s.classBUsed + due.ingot.size ≤ 268435456) ∧
    (let s := (hosted.onSlot 0 fun m => { m with closed := [due] }).onSlot 1 fun m =>
       { m with closed := [{ due with ingot := { due.ingot with close := 1 }, end_ := 1 }] }
     s.earlierResult 0 due = true) ∧ hosted.cfg 0x2C00 1 = 0xFF := by decide

theorem witness_BusMastering : hosted.hf.bme = true ∧ hosted.hf.d3hot = false ∧ (flow [] []).scopeAll ≠ 0 ∧
    ({ hosted with hf.d3hot := true } : State).hf.d3hot = true ∧
    ({ hosted with hf.bme := false } : State).hf.bme = false ∧ hosted.hf.l0 = true ∧ hosted.hf.ready = true ∧
    ({ hosted with hf.ready := false } : State).hf.ready = false ∧ hosted.anyArmed = false ∧ (flow [] []).anyArmed = true ∧
    (let s : State := { hosted with hf.cfg0 := { words := [(offLinkCtl, 2)] } }
     s.hf.l0 = true ∧ s.hf.inL1 = false ∧ s.hf.cfg0.l1On = true ∧ s.anyArmed = false) ∧ hosted.hf.cfg0.l1On = false ∧
    (let s : State := { hosted with hf.flit := true, hf.width := 16 }
     s.hf.flit = true ∧ s.anyArmed = false ∧ 8 < s.hf.width) ∧ hosted.hf.flit = false := by decide

/-- A stream that is Secure, or not. -/
def ideStream (secure : Bool) : IdeStream := { blocks := [], rids := (0, 0), pcrc := false, secure }

/-- Selective stream 1 is Secure. -/
def secured : State :=
  { hosted with hf.ide := hosted.hf.ide.set 1 (some (ideStream true)), hf.cfg1 := { mse := true } }

theorem witness_SecurePaths : secured.hf.ide[(1 : Fin 4)] = some (ideStream true) ∧ (ideStream true).secure = true ∧
    hosted.foremanRuns = true ∧ secured.hf.l0 = true ∧ secured.secureStream (some 1) = true ∧ secured.secureStream none = false ∧
    secured.hf.cfg1.mse = true ∧
    (let s : State := { secured with dict.slots1 := secured.dict.slots1.set 0 { session := some 1, state := 1 } }
     s.dict.slots1[(0 : Fin 8)].session ≠ none ∧ s.dict.slots1[(0 : Fin 8)].state = 1) ∧
    secured.hf.ide[(0 : Fin 4)] = none ∧ ready.hf.l0 = false :=
  ⟨rfl, rfl, rfl, rfl, by decide, by decide, rfl, by decide, rfl, rfl⟩

set_option maxRecDepth 65536 in
theorem witness_RefusedWrites :
    fore.foremanRuns = true ∧ ({ fore with fm.restarting := true } : State).foremanRuns = false ∧
    ((fore.dictWrite .pf0 0x2000 4 []).1 ≠ 0) ∧
    (objectRow 0x4000 1 = none ∧ keyArea 0x4000 = false ∧ indexKnown 0x4000 = false) ∧
    (objectRow 0x2000 0x7F = none ∧ indexKnown 0x2000 = true) ∧
    (∃ r, objectRow 0x3F00 1 = some r ∧ ((keyArea 0x3F00 || r.acc.secure) && !secureVia .pf0) = true) ∧
    (∃ r, objectRow 0x2000 1 = some r ∧ ((keyArea 0x2000 || r.acc.secure) && !secureVia .pf0) = false ∧ r.acc.writable = false) ∧
    (({ fore with fm.lifeCycle := .all 3 } : State).lifeForbids 0x2000 2 [2] = true) ∧
    (∃ r, objectRow 0x2400 1 = some r ∧ r.acc.writable = true ∧ r.staged (key 0x2400 1) = true ∧ r.acc = .rwa ∧
      ({ ready with modes.mode := .all 2 } : State).modeLets .pf0 = false ∧ ready.modeLets .pf0 = true ∧
      ready.lifeForbids 0x2400 1 [1] = false ∧
      ({ ready with twin.role := .all 2 } : State).twinManaged .pf0 r 0x2400 1 = true ∧
      ready.twinManaged .pf0 r 0x2400 1 = false ∧ ({ ready with modes.changeState := 2 } : State).stageFrozen = true ∧
      ready.stageFrozen = false ∧ r.ty.lengthOk 2 = false ∧ r.ty.lengthOk 1 = true ∧ r.ok (leNat [60]) = false) := by
  refine ⟨rfl, rfl, by decide, by decide, by decide, ⟨_, rfl, by decide⟩, ⟨_, rfl, by decide⟩, by decide, ⟨_, rfl, by decide⟩⟩

theorem witness_DictionaryWritesAndReads :
    (Passes ready .pf0 0x2400 1 [5] ∧ ∃ r, objectRow 0x2400 1 = some r ∧ r.staged (key 0x2400 1) = true) ∧
    (Passes ready .pf0 0x2000 0x0F [1] ∧ ready.applyService 0x2000 0x0F [1] = none ∧ ready.applyUnit 0x2000 0x0F [1] = none ∧
      ∃ r, objectRow 0x2000 0x0F = some r ∧ r.staged (key 0x2000 0x0F) = false) ∧
    (accessCode .pf0 0x2400 1 false = 0 ∧ ∃ r, objectRow 0x2400 1 = some r ∧ keyArea 0x2400 = false ∧ r.acc ≠ .ro) ∧
    (accessCode .pf0 0x2000 7 false = 0 ∧ ∃ r, objectRow 0x2000 7 = some r ∧ r.acc = .ro) ∧
    accessCode .pf0 0x3F00 1 false ≠ 0 := by
  refine ⟨⟨.of (by decide), _, rfl, by decide⟩, ⟨.of (by decide), by decide, by decide, _, rfl, by decide⟩,
    ⟨by decide, _, rfl, by decide⟩, ⟨by decide, _, rfl, by decide⟩, by decide⟩

theorem witness_StoreCommands : Passes fore .pf0 0x1080 1 (leBytes 2 0x5354) ∧ Passes fore .pf0 0x1080 1 (leBytes 2 0x4446) ∧
    Passes { fore with dict.storeState := 1 } .pf0 0x1080 1 (leBytes 2 0x5354) ∧
    fore.dict.storeState ≠ 1 ∧ fore.fm.updateState ≠ 4 ∧ fore.dict.storing = none ∧
    ({ fore with dict.storing := some [] } : State).dict.storing = some [] :=
  ⟨.of (by decide), .of (by decide), .of (by decide), by decide, by decide, rfl, rfl⟩

/-- Port A takes frames: the module has a node and the port is on. -/
def bus : State := { fore with power.nodeId := 5, dict.canInForce := (1, 0) }

/-- A transfer of a client on port A. -/
def moving (upload : Bool) (len : Nat) (data : List Byte) (next : Nat) : Transfer :=
  { client := 1, upload, index := 0x1000, sub := 1, token := 0, len, data, next, acked := next }

def withTransfer (x : Transfer) : State := { bus with dict.canA.transfers := [x] }

set_option maxRecDepth 65536 in
theorem witness_CanRequests : bus.canTakes .a = true ∧ clientOk 0 = false ∧ clientOk 1 = true ∧ isPartner 1 = false ∧
    bus.transfer .a 1 = none ∧ (bus.can .a).transfers.length < 8 ∧
    (let s : State := { bus with dict.canA.transfers := List.replicate 8 (moving false 4 [] 0) }
     s.transfer .a 2 = none ∧ (s.can .a).transfers.length = 8) ∧
    (isPartner 0x81 = true ∧ bus.partnered = false ∧
      (withTransfer { moving false 4 [] 0 with client := 0x81 }).transfer .a 0x81 = some { moving false 4 [] 0 with client := 0x81 }) ∧
    ((bus.canHeard .a true).dictRead (canPath .a) 0x3F00 1).1 ≠ 0 ∧
    ((bus.canHeard .a true).dictRead (canPath .a) 0x2000 1).1 = 0 ∧
    ((bus.canHeard .a true).dictRead (canPath .a) 0x2000 1).2.1.length ≤ 56 := by decide

set_option maxRecDepth 65536 in
theorem witness_CanUploads : (bus.canHeard .a true).announceCode (canPath .a) 0x3200 3 4096 = 0 ∧
    ((bus.canHeard .a true).dictRead (canPath .a) 0x3100 5).1 = 0 ∧
    56 < ((bus.canHeard .a true).dictRead (canPath .a) 0x3100 5).2.1.length := by decide

set_option maxRecDepth 65536 in
theorem witness_CanTransfers : (bus.canHeard .a true).announceCode (canPath .a) 0x2000 4 57 ≠ 0 ∧
    (let x := moving false 100 (List.replicate 60 7) 1
     let s := withTransfer x
     s.canTakes .a = true ∧ s.transfer .a 1 = some x ∧ x.data.length < x.len ∧ min 60 (x.len - x.data.length) ≤ 40 ∧
       (2 : Nat) ≠ x.next ∧ x.discarding = false ∧ x.resends < 8) ∧
    (let x := moving false 60 (List.replicate 60 7) 1
     (withTransfer x).transfer .a 1 = some x ∧ 1 = segmentsOf x.len ∧ x.data.length = x.len ∧ (0 : BitVec 16) ≠ crc16 x.data) ∧
    (let x := moving true 1200 [] 16
     (withTransfer x).transfer .a 1 = some x ∧ segmentsOf x.len ≤ 16 + 16 ∧ 0 + 16 < segmentsOf x.len ∧ 16 ≤ x.next) ∧
    (bus.transfer .a 1 = none) ∧ (bus.power.phase = .running ∧ bus.canOn .a = true ∧ (bus.can .a).errorState ≠ 2) ∧
    (let s : State := { bus with dict.canA.tec := 250 }
     255 < (s.can .a).tec + 8) ∧ ((bus.can .a).tec + 8 ≤ 127 ∧ (bus.can .a).rec_ ≤ 127) ∧
    (({ bus with dict.canA.errorState := 2 } : State).can .a).errorState = 2 := by decide

/-- Slot 0 of PF0 holds a request. -/
def asking (cmd : Nat) (w : WinSlot) : State :=
  { hosted with dict.slots0 := hosted.dict.slots0.set 0 { w with req := BitVec.ofNat 32 (0x20000100 + cmd) } }

set_option maxRecDepth 65536 in
theorem witness_WindowSlots : (asking 1 {}).hf.l0 = true ∧ (asking 1 {}).hf.cfg0.mse = true ∧
    (∀ cmd ∈ [0x01, 0x02, 0x81, 0x82], (asking cmd {}).dict.slots0[(0 : Fin 16)].cmd = cmd) ∧
    (asking 1 { state := 1 }).dict.slots0[(0 : Fin 16)].state = 1 ∧ (asking 1 {}).dict.slots0[(0 : Fin 16)].state ≠ 1 ∧
    (asking 1 {}).foremanRuns = true ∧ (asking 1 {}).partnered = false ∧ (asking 1 {}).dict.slots0[(0 : Fin 16)].len ≤ 65472 ∧
    (asking 1 {}).dict.slots0[(0 : Fin 16)].index = 0x2000 ∧ (asking 1 {}).dict.slots0[(0 : Fin 16)].sub = 1 ∧
    ({ asking 1 {} with twin.pairState := 4 } : State).partnered = true ∧
    (let s : State := { secured with dict.slots1 := secured.dict.slots1.set 0 { req := 0x40000101 } }
     s.hf.l0 = true ∧ s.hf.cfg1.mse = true ∧ s.secureStream (some 1) = true ∧ s.dict.slots1[(0 : Fin 8)].state ≠ 1 ∧
       s.dict.slots1[(0 : Fin 8)].cmd = 0x01 ∧ s.dict.slots1[(0 : Fin 8)].session = none ∧ s.foremanRuns = true ∧
       accessCode .pf1 s.dict.slots1[(0 : Fin 8)].index s.dict.slots1[(0 : Fin 8)].sub false ≠ 0) ∧
    (let s : State := { secured with dict.slots1 := secured.dict.slots1.set 0 { req := 0x20000101, session := some 2 } }
     s.dict.slots1[(0 : Fin 8)].session = some 2 ∧ (2 : Fin 4) ≠ 1) := by decide

theorem witness_SessionsAndPartners :
    (let s : State := { fore with
       twin.pairState := 4, twin.recQueue := [.partnerRequest { isWrite := false, index := 0x2000, sub := 1, data := [] }] }
     s.foremanRuns = true ∧ s.partnered = true) ∧
    (let s : State := { asking 0x81 { state := 1 } with
       twin.recQueue := [.partnerResult abNoObject []], twin.partnerWaiting := [.slot .pf0 0] }
     s.twin.recQueue = .partnerResult abNoObject [] :: [] ∧ s.twin.partnerWaiting = .slot .pf0 (0 : Fin 16).val :: [] ∧
       s.dict.slots0[(0 : Fin 16)].state = 1 ∧ abNoObject ≠ 0) ∧
    fore.twin.recQueue = [] ∧
    (let s : State := { secured with dict.slots1 := secured.dict.slots1.set 0 { session := some 1, state := 1 } }
     s.dict.slots1[(0 : Fin 8)].session ≠ none ∧ s.dict.slots1[(0 : Fin 8)].state = 1) := by decide

theorem witness_Claims :
    (fore.regs.claims[(0 : Fin 16)].owner = 0) ∧
    (let s : State := { fore with regs.claims := fore.regs.claims.set 0 { owner := masterCode .pf0 } }
     s.regs.claims[(0 : Fin 16)].owner = masterCode .pf0 ∧ (BitVec.ofNat 4 (masterCode .pf0)).toNat = masterCode .pf0 ∧
       s.regs.claims[(0 : Fin 16)].owner ≠ masterCode .twin ∧ s.regs.claims[(0 : Fin 16)].owner ≠ 0) := by decide

theorem witness_Cages : ∀ a ∈ [CageSide.pf0Host 0, .pf0Foreman 31, .pf1Host 0, .pf1Foreman 15, .twinLocal, .twinRemote],
    (fore.cage a).rx = [] ∧
    (fore.cage a).peerInReset = false ∧ (fore.cage (peerSide a)).rx.length < 16 ∧
    (let s := fore.onCage (peerSide a) fun c => { c with rx := List.replicate 16 [0] }
     (s.cage a).peerInReset = false ∧ 16 ≤ (s.cage (peerSide a)).rx.length) ∧
    ((fore.onCage a fun c => { c with peerInReset := true }).cage a).peerInReset = true ∧
    ((fore.onCage a fun c => { c with rx := [[0]] }).cage a).rx = [0] :: [] := by decide

theorem witness_Votes : fore.fm.handling = none ∧ fore.fm.restarting = false ∧ (1 : Nat) < 2 ^ 52 ∧ (2 : Nat) < 2 ^ 52 ∧
    (3 : Nat) ≠ 1 ∧ (3 : Nat) ≠ 2 := by decide

theorem witness_RegisterWrites :
    (let w : RegWrite := { bar2 := false, offset := 0x10000 + 0x40 * 1, words := [(0x1000, 0xF)], poisoned := false, stream := none }
     hosted.hf.l0 = true ∧ hosted.hf.cfg0.mse = true ∧ w.bar2 = false ∧ w.poisoned = false ∧
       w.offset = 0x10000 + 0x40 * (1 : Fin 64).val ∧ (hosted.ring (1 : Fin 64).val).enable = false) ∧
    (hosted.ring (0 : Fin 64).val).enable = true ∧ (0x3 : BitVec 4) ≠ 0xF ∧ (0x10040 : Nat) % 4 = 0 ∧ 0x10040 < 0x100000 ∧
    (0x10040 : Nat) = 0x10000 + 0x40 * (1 : Fin 64).val ∧
    (ready.hf.cfg0.mse = false ∧ ({ ready with hf.l0 := true } : State).hf.l0 = true) ∧ fore.foremanRuns = true ∧
    hosted.secureStream none = false ∧ fore.partnered = false := by decide

/-- What a partner presents. -/
def peer : PeerInfo :=
  { serial := 7, rolePref := 1, version := Config.xcVersion, capturing := false, fenceDriven := true, refAgrees := true
    identityOk := true, ownerHash := ready.nv.ownerHash, lifeCycle := 1, unitBit := none, use := 0, fw := 0 }

/-- Strapped as a twin, with pairing on, a lane up and the fence pins set. -/
def electing : State :=
  (setCfg (setCfg (setCfg ({ ready with
    power.twinSel := true, fm.lifeCycle := .all 1, twin.fenceIn := true, twin.fencePins := (4, 5) } : State) 0x2D00 1 1) 0x2D00 3 4)
    0x2D00 4 5).onRx (.lane 0) fun m => { m with state := lsUp }

theorem witness_Election : electing.partnered = false ∧ electing.foremanRuns = true ∧ electing.power.recovery = false ∧
    electing.power.twinSel = true ∧ electing.cfgOn 0x2D00 1 = true ∧ electing.laneUp = true ∧ electing.capturing = false ∧
    electing.setXcLanes.pairRefusal { peer with refAgrees := false } ≠ 0 ∧
    electing.trustOf peer = 1 ∧ electing.trustOf { peer with identityOk := false } ≠ 1 ∧
    ({ electing with modes.mode := .all 2 } : State).capturing = true ∧ electing.cfg 0x2D00 2 ≠ 1 ∧ peer.rolePref = 1 ∧
    (setCfg electing 0x2D00 2 1).cfg 0x2D00 2 = 1 ∧ fore.laneUp = false ∧
    ({ electing with power.twinSel := false } : State).power.twinSel = false := by decide

theorem witness_ElectionAgrees : electing.setXcLanes.pairRefusal peer = 0 := by
  have f : electing.setXcLanes.twin.fencePins = (4, 5) := by decide
  have i : electing.setXcLanes.twin.fenceIn = true := by decide
  have c : electing.setXcLanes.capturing = false := by decide
  simp [State.pairRefusal, f, i, c, peer, pcNone]

/-- The module of a pair in a role. -/
def twin (role pairState : Nat) : State :=
  { ready with twin.role := .all role, twin.pairState := pairState, fm.lifeCycle := .all 1, sv.ppl := 1000, sv.lpf := 1000 }

theorem witness_Orders : Passes (twin 1 5) .pf0 0x2D00 6 [1] ∧ Passes (twin 1 6) .pf0 0x2D00 6 [1] ∧
    Passes (twin 1 5) .pf0 0x2D00 7 (leBytes 2 0x4454) ∧ Passes (twin 0 0) .pf0 0x2D00 7 (leBytes 2 0x4454) ∧
    (twin 1 5).twin.pairState = 5 ∧ (twin 1 6).twin.pairState ≠ 5 ∧ (twin 1 5).paired = true ∧ (twin 0 0).paired = false ∧
    (twin 1 5).role = 1 ∧ (twin 1 3).twin.pairState = 3 ∧ (twin 2 3).role ≠ 1 ∧
    (let s : State := { twin 2 4 with modes.zeroDone := true }
     s.twin.pairState = 4 ∧ s.role = 2 ∧ s.modes.zeroDone = true) ∧
    ((twin 1 4).mirrors = false ∧ (twin 1 4).capturing = false) ∧
    (let s : State := { twin 1 4 with modes.mode := .all 2 }
     s.mirrors = false ∧ s.capturing = true ∧ s.changePending = false ∧ s.modes.staged = [] ∧ s.modes.swapStaged = false ∧
       s.modes.detachStaged = false ∧ s.modes.check = none) :=
  ⟨.of (by decide), .of (by decide), .of (by decide), .of (by decide), rfl, by decide, by decide, by decide, by decide, rfl,
    by decide, by decide, by decide, by decide⟩

/-- A block of the Crosscut. -/
def block (bad : Bool) : XcBlock :=
  { bad, frameSeq := 3, txLanes := 0xF, rxUp := 0xF, bSidx := 192, beat := true, role := 1, health := 0, mode := 2, epoch := 0
    beatSeq := 0, recSeq := 0, rastpos := 0, ncoInc := 0, corr := 0, rasterState := 0, ppl := 0, lpf := 0, fieldStarts := [], shaftDigest := 0
    phase := 0, phaseError := 0, partner := [0, 0, 0, 0]
    records := [.ack 0 0 0] }

theorem witness_Blocks : (block true).ok = true ∧ (block false).ok = true ∧ (block true).bad = true ∧ (block false).bad = false ∧
    fore.partnered = false ∧
    (let s := twin 1 4
     s.partnered = true ∧ s.paired = false ∧ s.mirrors = false ∧ (block false).health = 0 ∧ s.twin.recHeld = [] ∧
       s.twin.recQueue = [] ∧ (block false).recSeq = s.twin.recNext ∧
       ∀ r ∈ (block false).records, s.takeRecord r = none) := by
  refine ⟨rfl, rfl, rfl, rfl, rfl, rfl, rfl, rfl, rfl, rfl, rfl, rfl, ?_⟩
  simp [block, State.takeRecord]

/-- A pair with a record in front of its queue. -/
def told (role : Nat) (r : XcRecord) : State := { twin role 5 with twin.recQueue := [r], hf.rings := hosted.hf.rings }

/-- A SYNC record's content. -/
def synced : SyncState :=
  { level := 3, counters := [], timers := [], storage := true, streamSeq := [9], slotSeq := [] }

theorem witness_HdrAndDoor :
    (let s : State := { told 1 (.hdr 0 1 5 7) with twin.hdrOwn := [(0, 7, 5)] }
     s.paired = true ∧ hdrFor 0 7 s.twin.hdrOwn = some 5 ∧ (5 : BitVec 16) ≠ 6) ∧
    (hdrFor 0 7 (told 1 (.hdr 0 1 5 7)).twin.hdrOwn = none ∧ (told 1 (.hdr 0 1 5 7)).twin.hdrPeer.length < 65536) ∧
    (let i := ing 1 true 0
     let s : State := { (flow [i] []) with
       twin.role := .all 2, twin.pairState := 4, twin.recQueue := [.door (0 : Fin 64) i.seq 1 0] }
     s.isShadow = true ∧ (s.stream (0 : Fin 64).val).waiting = i :: [] ∧ i.isSealed = true ∧ s.twin.doorPeer = [] ∧
       s.paired = false) := by decide

theorem witness_CursorRecords :
    (let s := told 1 (.cursor 0 1 64 2 2 false)
     s.partnered = true ∧ s.twin.awaitHandoff = 0) ∧
    (let f : Formed := { gen := 1, wrPos := 64, images := 1, since := 0 }
     let s : State := { told 1 (.confirm 0 1) with hf.rings := hosted.hf.rings.set 0 { enable := true, awaiting := some f } }
     s.twin.recQueue = [.confirm 0 1] ∧ (s.ring (0 : Fin 64).val).awaiting = some f ∧ f.gen = 1 ∧ f.gen ≠ 2) ∧
    (let s : State := { (flow [] [ing 1 true 0]) with twin.role := .all 2, twin.pairState := 5, twin.recQueue := [.ack 0 0 0] }
     s.isShadow = true ∧ s.streamOn (0 : Fin 64).val = some 0) ∧ (told 2 (.ring 0 0 0 0 true 0)).mirrors = true := by decide

theorem witness_NackSyncAndGo :
    (let s : State := { told 1 (.nack 3) with twin.recSent := [(3, 0, [])] }
     s.twin.recSent.find? (fun x => x.1 == 3) = some (3, 0, [])) ∧
    (let s : State := { told 2 (.sync synced) with twin.syncBase := some [4] }
     s.mirrors = true ∧ s.twin.syncBase = some [4] ∧ synced.streamSeq[(0 : Fin 64).val]? = some 9 ∧
       ([4] : List Nat)[(0 : Fin 64).val]? = some 4) ∧
    (let s : State := { flow [] [] with twin.role := .all 2, twin.pairState := 5, twin.syncBase := some [4] }
     s.streams[(0 : Fin 64)].armed = true) ∧
    (told 2 (.sync synced)).twin.syncBase = none ∧
    (let s : State := { told 2 .epochGo with modes.committed := some { target := 1, base := 1, at_ := 0 } }
     s.mirrors = true ∧ s.modes.check = none ∧ s.modes.committed ≠ none) ∧
    ((told 1 (.shadowReady true)).role = 1 ∧ (told 1 (.shadowReady true)).partnered = true) := by decide

/-- After an epoch. -/
def after : AfterEpoch := { number := 4, sidx := 90, line := 1, prevMode := 1, prevLive := ready.dict.live, set := [] }

theorem witness_Checks : ({ told 2 .epochGo with modes.check := some after } : State).modes.check = some after ∧
    (told 2 .epochGo).mirrors = true := by decide

theorem witness_Divergence :
    (let i := ing 1 true 0
     let s : State := { flow [i] [] with twin.role := .all 2, twin.pairState := 5 }
     s.role = 2 ∧ s.running = true ∧ (s.stream (0 : Fin 64).val).waiting = i :: [] ∧ i.isSealed = true ∧
       s.peerDoor 0 i.seq = none) ∧ fore.isShadow = false ∧
    (let s : State := { twin 2 5 with twin.phaseError := -20 }
     s.role = 2 ∧ s.running = true ∧ 16 < s.twin.phaseError.natAbs) ∧ fore.twin.phaseError.natAbs ≤ 16 ∧
    (let s : State := { twin 1 6 with
       sv.frameStart := true, sv.sidx := 1000000, sv.inc := 2 ^ 48, twin.resyncDue := some 0 }
     s.paired = true ∧ s.sv.frameStart = true ∧ s.twoLinesSince 0 = true ∧ s.role = 1) ∧
    (let s : State := { twin 1 6 with sv.frameStart := true, sv.sidx := 1000, twin.resyncAt := some (5, 5) }
     s.twin.resyncDue = none ∧ 5 < s.sv.sidx ∧ s.allReturned 5 = true ∧ s.paired = true) ∧ fore.paired = false := by decide

theorem witness_Canary :
    (let s : State := { twin 1 5 with modes.zeroDone := true, sv.sidx := 6000 }
     s.partnered = true ∧ s.beatClock % 3000 = 0 ∧ s.twin.beatSeen = false ∧ s.twin.missedRun + 1 ≠ 8 ∧ s.mirrors = false) ∧
    (let s : State := { twin 2 5 with modes.mode := .all 5, twin.missedRun := 7 }
     s.twin.missedRun = 7 ∧ s.mirrors = true ∧ s.mode = 5 ∧ s.modes.forced = none) ∧
    (let s : State := { twin 2 5 with twin.missedRun := 7, twin.fenceIn := false }
     s.role = 2 ∧ s.mode = 1 ∧ s.twin.fenceIn = false ∧ s.modes.forced = none ∧ s.twin.beatSeen = false) ∧
    (let s : State := { fore with regs.lanes := .all (BitVec.allOnes 52), twin.degraded := true }
     (0xF : LaneSet) &&& s.xcEnabled = 0xF ∧ s.twin.degraded = true) ∧
    (let s : State := { fore with regs.lanes := .all (BitVec.allOnes 52) }
     (3 : LaneSet) &&& s.xcEnabled ≠ 0xF ∧ (3 : LaneSet) &&& s.xcEnabled ≠ 0 ∧ s.twin.degraded = false ∧
       s.fm.handling = none ∧ s.fm.restarting = false) ∧
    ((0 : LaneSet) &&& fore.xcEnabled = 0) := by decide


/-- A change of configuration that is committed two lines ahead. -/
def committed (changeState : Nat) : State :=
  { ready with
    sv.lpf := 1000, sv.ppl := 1000, sv.line := 10, sv.state := rsLocked, modes.changeState := changeState
    modes.committed := some { target := 1, base := 1, at_ := packPos { frame := 0, field := 0, line := 12, pixel := 0, sub := 0 } } }

theorem witness_Deadline :
    (let c : Committed := { target := 1, base := 1, at_ := packPos { frame := 0, field := 0, line := 12, pixel := 0, sub := 0 } }
     let s := committed 2
     s.modes.committed = some c ∧ s.modes.changeState = 2 ∧ s.atDeadline c = true) ∧
    (committed 3).modes.changeState ≠ 2 ∧ ready.modes.committed = none := by decide

theorem zero_of_or {n : Nat} {a b c : BitVec n} (h : a ||| b ||| c = 0) : a = 0 := by
  refine BitVec.eq_of_getLsbD_eq fun i hi => ?_
  have e := congrArg (BitVec.getLsbD · i) h
  simp only [BitVec.getLsbD_or] at e
  cases ha : a.getLsbD i <;> simp_all

/-- A unit that the command names is not READY. -/
theorem notReady_named (s : State) (c : Committed) (m : BitVec 11) (i : Bool) (h : m ≠ 0) : s.notReady c m i ≠ 0 :=
  fun e => h (zero_of_or e)

/-- Every unit is READY. -/
theorem witness_AllReady :
    (let c : Committed := { target := 1, base := 1, at_ := packPos { frame := 0, field := 0, line := 12, pixel := 0, sub := 0 } }
     (committed 2).notReady c 0 true = 0 ∧ (committed 2).notReady c 4 true ≠ 0) := by
  refine ⟨?_, notReady_named _ _ _ _ (by decide)⟩
  exact notReady_defaults (next_defaults rfl rfl) rfl (fun _ => by decide) (by decide) (by decide) rfl (.inr (by decide)) (by decide)

/-- A request for a mode, staged. -/
def requested (mode request at_ : Nat) : State :=
  { ready with
    modes.mode := .all mode, sv.lpf := 1000, sv.ppl := 1000, sv.line := 10, fm.junction := some 0x41C80000
    modes.staged := [(kModeRequest, request), (kEpochAt, at_)] }

/-- Line 100 of frame 0, and line 11 of it. -/
def farLine : Nat := packPos { frame := 0, field := 0, line := 100, pixel := 0, sub := 0 }
def nearLine : Nat := packPos { frame := 0, field := 0, line := 11, pixel := 0, sub := 0 }

set_option maxRecDepth 65536 in
theorem witness_Commit : Passes (requested 1 7 farLine) .pf0 0x2000 4 [1] ∧ Passes (requested 1 7 farLine) .pf0 0x2000 4 [0] ∧
    Passes (committed 2) .pf0 0x2000 4 [1] ∧ Passes (committed 2) .pf0 0x2000 4 [0] ∧ (committed 2).changePending = true ∧
    (let s := requested 1 7 farLine
     s.changePending = false ∧ s.power.recovery = false ∧ s.mirrors = false ∧ s.mode ≠ 0 ∧ s.planCause s.planned ≠ 1 ∧
       s.instantCause s.planned.at_ = 0 ∧ s.planCause s.planned = 0 ∧ s.modes.entry = none ∧ s.modes.changeState ≠ 3 ∧
       s.modes.rollback = none ∧ s.modes.staged ≠ []) ∧
    (requested 7 2 farLine).planCause (requested 7 2 farLine).planned = 1 ∧
    (let s := requested 1 7 nearLine
     s.planCause s.planned ≠ 1 ∧ s.instantCause s.planned.at_ ≠ 0) ∧
    (let s := { requested 1 7 farLine with fm.junction := some 0x42D20000 }
     s.planCause s.planned ≠ 0 ∧ s.planCause s.planned ≠ 1 ∧ s.instantCause s.planned.at_ = 0) ∧
    (let s := requested 0 1 farLine
     s.mode = 0 ∧ s.modeRequest = 1 ∧ s.modes.swapStaged = false ∧ s.tooHot = false) ∧
    ({ requested 0 1 farLine with fm.junction := some 0x42D20000 } : State).tooHot = true ∧
    (committed 3).modes.changeState = 3 :=
  ⟨.of (by decide), .of (by decide), .of (by decide), .of (by decide), by decide, by decide, by decide, by decide, by decide,
    by decide, by decide, by decide⟩

/-- On the way into Ready. -/
def entering (e : Entry) : State :=
  { fore with
    power.fabric := true, power.hbm := .active, sv.lpf := 1000, sv.ppl := 1000, modes.entry := some e
    fm.junction := some 0x41C80000 }

set_option maxRecDepth 65536 in
theorem witness_EntryIntoReady : (entering {}).modes.entry = some {} ∧ fore.modes.entry = none ∧
    (let e : Entry := { fabricDone := true, hbmDone := true, linksTimedOut := true }
     let s : State := { entering e with sv.pllLocked := true }
     s.modes.entry = some e ∧ e.fabricDone = true ∧ e.hbmDone = true ∧ s.sv.pllLocked = true ∧ s.linksSettled e = true ∧
       s.modes.zeroDone = false) ∧
    (let s := (setCfg (entering {}) 0x2200 1 1)
     s.linksSettled {} = false) ∧
    ((entering {}).power.fabric = true ∧ (entering {}).sv.pllLocked = false ∧ (entering {}).sv.refLost = false) ∧
    (let s : State := { ready with power.hbm := .active }
     s.mode = 1 ∧ s.power.hbm = .active ∧ s.hbmIdle = true) ∧ fore.mode ≠ 1 := by decide

theorem witness_EntryReady :
    (entering {}).notReady { target := 1, base := 1, at_ := 0 } 0 false = 0 ∧
      (entering {}).notReady { target := 1, base := 1, at_ := 0 } 1 false ≠ 0 := by
  refine ⟨?_, notReady_named _ _ _ _ (by decide)⟩
  exact notReady_defaults (next_defaults rfl rfl) rfl nofun (by decide) (by decide) rfl (.inl (by decide)) (by decide)

theorem witness_Epochs :
    (let c : Committed := { target := 1, base := 1, at_ := packPos { frame := 0, field := 0, line := 12, pixel := 0, sub := 0 } }
     let s : State := { committed 3 with sv.line := 12 }
     s.modes.committed = some c ∧ s.modes.changeState = 3 ∧ s.reached c.at_ = true ∧ s.mirrors = false ∧
       (committed 3).reached c.at_ = false ∧
       ({ s with twin.role := .all 2 } : State).mirrors = true ∧ s.twin.go ≠ some true) ∧
    (let s : State := { committed 3 with modes.check := some after }
     s.modes.check = some after ∧ s.lineNo ≠ after.line ∧ s.isShadow = false ∧ s.needsShadow = false) ∧
    (let s : State := { committed 3 with sv.line := 1, modes.check := some after }
     s.lineNo = after.line) ∧
    (let s : State := { committed 6 with sv.frameStart := true, sv.frame := 1, sv.line := 0, modes.rollback := some after }
     s.modes.rollback = some after ∧ s.sv.frameStart = true ∧ 2 ≤ s.linesSince after.line) ∧
    (let s : State := { committed 3 with modes.forced := some (.watchdog, 6) }
     s.modes.forced = some (.watchdog, 6) ∧ s.modes.changeState = 3) ∧
    ready.modes.committed = none ∧ ready.modes.check = none ∧ ready.modes.rollback = none ∧ ready.modes.forced = none := by decide

/-- 25 °C at every sensor, and 110 °C at one. -/
def cool : List (Option Word) := List.replicate 15 (some 0x41C80000)
def hot : State := { fore with fm.thermal := true, fm.junction := some 0x41C80000, fm.hotRun := 10 }

set_option maxRecDepth 65536 in
theorem witness_Sensors : cool.length = 15 ∧ fore.foremanRuns = true ∧ hot.fm.thermal = true ∧ hot.junctionGe 0x42C20000 = false ∧
    (10 ≤ hot.fm.hotRun ∧ hot.fm.throttle = false) ∧ fore.fm.hotRun < 10 ∧
    (let s : State := { hot with fm.throttle := true }
     s.fm.throttle = true ∧ s.junctionGe 0x42BE0000 = false) ∧
    (let s := ({ fore with fm.hbmHot := 1 } : State).sampleSensors cool
     (s.sensor (7 + (0 : Fin 2).val)).reading = some 0x41C80000 ∧ s.fm.hbmHot.getLsbD (0 : Fin 2).val = true ∧
       f32Ge 0x41C80000 0x42B40000 = false) := by decide

/-- A fault of a class, and its place in the intake. -/
def fault (cls : FaultClass) : FaultReq := { cls, unit := .smelter, code := .voteSplit, inst := 0, detail := [] }
def faulted (cls : FaultClass) : Faulted := { req := fault cls, stopped := false, at_ := { sidx := 0, time96 := 0, epoch := 0, mode := 1 } }

theorem witness_Faults : (fault .event).cls = .event ∧ (fault .isolate).cls ≠ .event ∧ fore.fm.handling = none ∧
    fore.fm.restarting = false ∧ fore.power.phase = .running ∧ fore.fm.faults = [] ∧
    (let s : State := { ready with fm.handling := some (faulted .isolate) }
     s.fm.handling = some (faulted .isolate) ∧ (fault .isolate).unit = (faulted .isolate).req.unit ∧ s.fm.faults.length < 64) ∧
    classCode (faulted .degrade).req.cls < classCode (fault .isolate).cls ∧
    classCode (fault .degrade).cls ≤ classCode (faulted .isolate).req.cls ∧
    (let s : State := { ready with fm.faults := List.replicate 64 (faulted .degrade) }
     64 ≤ s.fm.faults.length ∧ s.fm.faults.getLast? = some (faulted .degrade) ∧ (faulted .degrade).keeps = false) ∧
    (let s : State := { ready with modes.mode := .all 2, fm.handling := some (faulted .handover) }
     captureMode s.mode = true ∧ s.modes.forced = none ∧ s.paired = false) ∧ (twin 1 5).paired = true ∧
    ({ fore with fm.restarting := true } : State).fm.restarting = true ∧ fore.tripCause .notServiced = true ∧
    fore.tripCause .queueFull = false := by decide

theorem witness_FaultAck : Passes fore .pf0 0x3100 9 (leBytes 2 0x434C) := .of (by decide)

theorem witness_TheFlashLog : fore.power.phase ≠ .off ∧ fore.power.phase ≠ .factoryTest ∧
    ({ fore with fm.toLog := [logged] } : State).fm.toLog = logged :: [] ∧ fore.fm.toLog = [] ∧ fore.nv.log.length < 522240 ∧
    Passes fore .pf0 0x3100 4 (leBytes 4 7) ∧ Passes secured (.pf1) 0x3100 6 (leBytes 2 0x4C43) ∧
    (∃ l : List LogEntry, l.length = 523263) :=
  ⟨by decide, by decide, rfl, rfl, by decide, .of (by decide), .of (by decide), ⟨_, List.length_replicate (n := 523263) (a := logged)⟩⟩

/-- In Service, with an image in a state of the update path. -/
def serving (updateState : Nat) : State := { ready with modes.mode := .all 7, fm.updateState := updateState }

set_option maxRecDepth 65536 in
theorem witness_FirmwareUpdate : (∀ c ∈ [0x4247, 0x5646, 0x434D, 0x4142, 0x4346], passes (serving 1) .pf0 0x3200 1 (leBytes 2 c) = true) ∧
    passes (serving 1) .pf0 0x3200 3 (List.replicate 4096 0) = true ∧
    (serving 1).updateOpen = true ∧ (serving 4).updateOpen = false ∧ (serving 1).cfg 0x3200 2 / 4096 < 6144 ∧
    (serving 1).fm.updateState = 1 ∧ (serving 2).fm.updateState = 2 ∧ (serving 0).fm.updateState = 0 ∧
    (serving 1).imageCause (serving 1).nv.slots[(serving 1).stagedSlot] ≠ 0 := by decide

theorem witness_SvnMin : Passes fore .pf0 0x3200 1 (leBytes 2 0x4346) ∧
    (let n : Nv := { State.reset.nv with svnMin := 9 }
     n.slots[(0 : Fin 2)].svn < n.svnMin) := ⟨.of (by decide), by decide⟩

/-- PF1 with a life cycle. -/
def owned (lc : Nat) : State := { secured with fm.lifeCycle := .all lc }

set_option maxRecDepth 65536 in
theorem witness_LifeCycle : passes (owned 0) .pf1 0x1100 2 (4 :: List.replicate 96 0) = true ∧
    passes (owned 1) .pf1 0x1100 4 (leBytes 4 lcAdvanceMagic) = true ∧ passes (owned 1) .pf1 0x1100 6 (List.replicate 96 0) = true ∧
    passes (owned 2) .pf1 0x1100 7 (List.replicate 240 0) = true ∧ (owned 2).fm.selfReset = false ∧
    3 ≤ ({ owned 1 with fm.badSignatures := 3 } : State).fm.badSignatures ∧ (owned 1).fm.badSignatures < 3 ∧
    ({ owned 1 with fm.challenge := some ([1], 0) } : State).validChallenge = some [1] ∧ (owned 1).validChallenge = none ∧
    (List.replicate 32 (0 : Byte)).length = 32 ∧ (owned 1).foremanRuns = true := by decide

/-- A key entry with the check value of its key. -/
def keyEntry : List Byte := leBytes 4 5 ++ leBytes 4 1 ++ List.replicate 40 0

set_option maxRecDepth 65536 in
theorem witness_KeyStore : passes (owned 1) .pf1 0x3F00 1 keyEntry = true ∧ getLe keyEntry 4 4 = 1 ∧ getLe keyEntry 44 4 = 0 ∧
    getLe keyEntry 0 4 = 5 ∧ (owned 1).nv.keys.length < 64 ∧ getLe (leBytes 4 5 ++ leBytes 4 0 ++ List.replicate 40 0) 4 4 ≠ 1 ∧
    (let s : State := { owned 1 with nv.keys := [(5, [1])] }
     passes s .pf1 0x3F00 2 (leBytes 4 5) = true ∧ (leNat (leBytes 4 5), [1]) ∈ s.nv.keys ∧ s.keyInUse 5 = false) ∧
    (let s := setCfg (setCfg { flow [] [] with nv.keys := [(5, [1])] } 0x2A40 2 1) 0x2A40 3 5
     s.keyInUse 5 = true) ∧
    ({ fore with fm.useCommitting := some 4 } : State).fm.useCommitting = some 4 ∧ fore.fm.useCommitting = none := by decide

theorem witness_UseReset : Passes (owned 1) .pf1 0x3F00 4 (leBytes 2 0x5553) ∧ (owned 1).nv.keys = [] ∧
    ({ owned 1 with nv.keys := [(5, [1])] } : State).nv.keys ≠ [] := ⟨.of (by decide), rfl, by decide⟩

/-! ## Operands that nothing outside presents -/

theorem test_illformed_sensors : exec (.sensorSample (List.replicate 14 none)) fore = .fault .illFormed := rfl
theorem test_illformed_frame :
    exec (.probeFrameReceive (.probe 0) { levels := [0, 1, 2, 3], ui := 0, arrival := 0 }) ready = .fault .illFormed := rfl
theorem test_illformed_calibration : exec (.calComplete [[1]]) ready = .fault .illFormed := rfl
theorem test_illformed_block : exec (.xcBlockReceive { block false with partner := [0] }) ready = .fault .illFormed := rfl

/-! ## The manual's own figures -/

set_option maxRecDepth 65536 in
/-- CRC of a header over "123456789" (R132). -/
theorem test_header_crc : crc16 [0x31, 0x32, 0x33, 0x34, 0x35, 0x36, 0x37, 0x38, 0x39] = 0x29B1 := by decide

set_option maxRecDepth 65536 in
/-- CRC of a payload over "123456789" (R132). -/
theorem test_payload_crc : crc32 [0x31, 0x32, 0x33, 0x34, 0x35, 0x36, 0x37, 0x38, 0x39] = 0xCBF43926 := by decide

/-- ln 40 of fr 12 at px 0 (R12). -/
theorem test_rastpos : packPos { frame := 12, field := 0, line := 40, pixel := 0, sub := 0 } = 0x00000C0028000000 := by decide

set_option maxRecDepth 65536 in
/-- The generator field: α^10 = α^3 + 1 (R81). -/
theorem test_field : gfAlpha 10 = 9 := by decide

set_option maxRecDepth 65536 in
/-- AES-256 of a block of zeros under a key of zeros begins DC 95 C0 78 (R410, FIPS 197). -/
theorem test_key_check : keyCheck (List.replicate 32 0) = [0xDC, 0x95, 0xC0, 0x78] := by decide

/-! ## Single commands -/

/-- The state that a command leaves. -/
def run (c : Instr) (s : State) : State :=
  match exec c s with
  | .next t => t
  | _ => s

/-- MODE_CURRENT reads 1 in Ready (Table 1.2). -/
theorem test_mode_read : (run (.dictRead .pf0 0x2000 1) ready).sent = [.dictReply .pf0 0x2000 1 0 [1]] := by decide

/-- MODE_CURRENT is read-only, and the request changes no mode (R305). -/
theorem test_mode_write : (run (.dictWrite .pf0 0x2000 1 [2]) ready).sent = [.dictReply .pf0 0x2000 1 abReadOnly []] ∧
    (run (.dictWrite .pf0 0x2000 1 [2]) ready).mode = 1 := by decide

/-- CTRL_A of a seam takes 0 to 15 and 0xFF only (Table 3.9). -/
theorem test_seam_range : (run (.dictWrite .pf0 0x2400 2 [16]) ready).sent = [.dictReply .pf0 0x2400 2 abValueRange []] := by
  decide

/-- A staged value reads back before its epoch; the live one is as it was (R21). -/
theorem test_staged : (run (.stagedObjectWrite .pf0 0x2400 2 [3]) ready).next 0x2400 2 = 3 ∧
    (run (.stagedObjectWrite .pf0 0x2400 2 [3]) ready).cfg 0x2400 2 = 0xFF := by decide

/-- A claim that is free goes to its reader: FREE bit, owner and one grant (R340). -/
theorem test_claim : (run (.claimRead .pf0 3 false) fore).sent =
    [.completion true false [BitVec.ofNat 32 (1 + 16 * masterCode .pf0 + 0x10000)]] := by decide

/-- The second reader gets HELD with the first as owner (R340). -/
theorem test_claim_held : (run (.claimRead .twin 3 false) (run (.claimRead .pf0 3 false) fore)).sent.head? =
    some (.completion true false [BitVec.ofNat 32 (2 + 16 * masterCode .pf0 + 0x10000)]) := by decide

/-- The first doubleword of the configuration space is the Device ID and the Vendor ID (Table 9.1). -/
theorem test_identity : (run (.configRequest ⟨.pf0, 0, none⟩) hosted).sent = [.configReply .pf0 false 0x0768B71D] := by decide

/-- A message raises Bell 0 at the peer, and taking it raises Bell 1 at its sender (R344, R345). -/
theorem test_cage : ((run (.cageSend (.pf0Host 2)) fore).cage (.pf0Foreman 2)).pend = 1 ∧
    ((run (.cagePop (.pf0Foreman 2)) (run (.cageSend (.pf0Host 2)) fore)).cage (.pf0Host 2)).pend = 2 := by decide

/-- A reference clock that fails is known (R42). -/
theorem test_ref_lost : (run .refClockLost fore).sv.refLost = true := by decide

set_option maxRecDepth 65536 in
/-- Two copies that agree outvote the third (R342). -/
theorem test_vote : (run (.voteMismatch .mode 1 1 9) ready).mode = 1 ∧
    (run (.voteMismatch .mode 1 1 9) ready).regs.voteCorrected.count = 1 := by decide

set_option maxRecDepth 65536 in
/-- PERST_N holds the Headframe and leaves the mode (R272). -/
theorem test_perst : (run (.perstNAssert 1000) { ready with hf.ready := true }).hf.ready = false ∧
    (run (.perstNAssert 1000) { ready with hf.ready := true }).mode = 1 := by decide

/-- An instant one line ahead is TOO_CLOSE (R22, Table 1.3). -/
theorem test_too_close : (requested 1 7 nearLine).instantCause nearLine = 3 ∧
    (requested 1 7 farLine).instantCause farLine = 0 := by decide

/-- Nine hot samples do not engage the throttle (R384). -/
theorem test_throttle : (run .throttleEngage { hot with fm.hotRun := 9 }).fm.throttle = false := by decide

end Sys2Proof.Tests
end

section
namespace Sys2Proof.Machine

set_option Elab.async false

/-! ## A part that an operation does not list is as it was -/

section
variable {l : List Part} {s t : State}

theorem Alters.power (h : Alters l s t) (hp : Part.power ∉ l := by decide) : t.power = s.power := h.only.same _ hp
theorem Alters.modes (h : Alters l s t) (hp : Part.modes ∉ l := by decide) : t.modes = s.modes := h.only.same _ hp
theorem Alters.sv (h : Alters l s t) (hp : Part.sv ∉ l := by decide) : t.sv = s.sv := h.only.same _ hp
theorem Alters.links (h : Alters l s t) (hp : Part.links ∉ l := by decide) : t.links = s.links := h.only.same _ hp
theorem Alters.xc (h : Alters l s t) (hp : Part.xc ∉ l := by decide) : t.xc = s.xc := h.only.same _ hp
theorem Alters.seams (h : Alters l s t) (hp : Part.seams ∉ l := by decide) : t.seams = s.seams := h.only.same _ hp
theorem Alters.closing (h : Alters l s t) (hp : Part.closing ∉ l := by decide) : t.closing = s.closing := h.only.same _ hp
theorem Alters.streams (h : Alters l s t) (hp : Part.streams ∉ l := by decide) : t.streams = s.streams := h.only.same _ hp
theorem Alters.shaft (h : Alters l s t) (hp : Part.shaft ∉ l := by decide) : t.shaft = s.shaft := h.only.same _ hp
theorem Alters.grizzly (h : Alters l s t) (hp : Part.grizzly ∉ l := by decide) : t.grizzly = s.grizzly := h.only.same _ hp
theorem Alters.smelter (h : Alters l s t) (hp : Part.smelter ∉ l := by decide) : t.smelter = s.smelter := h.only.same _ hp
theorem Alters.slots (h : Alters l s t) (hp : Part.slots ∉ l := by decide) : t.slots = s.slots := h.only.same _ hp
theorem Alters.hf (h : Alters l s t) (hp : Part.hf ∉ l := by decide) : t.hf = s.hf := h.only.same _ hp
theorem Alters.dict (h : Alters l s t) (hp : Part.dict ∉ l := by decide) : t.dict = s.dict := h.only.same _ hp
theorem Alters.regs (h : Alters l s t) (hp : Part.regs ∉ l := by decide) : t.regs = s.regs := h.only.same _ hp
theorem Alters.twin (h : Alters l s t) (hp : Part.twin ∉ l := by decide) : t.twin = s.twin := h.only.same _ hp
theorem Alters.fm (h : Alters l s t) (hp : Part.fm ∉ l := by decide) : t.fm = s.fm := h.only.same _ hp
theorem Alters.nv (h : Alters l s t) (hp : Part.nv ∉ l := by decide) : t.nv = s.nv := h.only.same _ hp
theorem Alters.sent (h : Alters l s t) (hp : Part.sent ∉ l := by decide) : t.sent = s.sent := h.only.same _ hp
theorem Alters.free (h : Alters l s t) (hp : Part.free ∉ l := by decide) : t.free = s.free := h.only.same _ hp
end

/-! ## Reports change nothing of the Foreman but its log, which grows -/

/-- Of the Foreman only the log that waits, its numbers and its keys of merging differ, and the log keeps its entries
(R391, R392). -/
def LogOnly (s t : State) : Prop :=
  ∃ (seq : Nat) (more : List LogEntry) (m : List MergeKey),
    t.fm = { s.fm with entrySeq := seq, toLog := s.fm.toLog ++ more, merge := m }

theorem LogOnly.of_eq {s t : State} (h : t.fm = s.fm) : LogOnly s t :=
  ⟨s.fm.entrySeq, [], s.fm.merge, by rw [h, List.append_nil]⟩

theorem LogOnly.refl (s : State) : LogOnly s s := .of_eq rfl

theorem LogOnly.trans {s t u : State} (h : LogOnly s t) (k : LogOnly t u) : LogOnly s u := by
  obtain ⟨_, _, _, h⟩ := h
  obtain ⟨_, _, _, k⟩ := k
  exact ⟨_, _, _, by rw [k, h, List.append_assoc]⟩

/-- An operation on a state that differs from the first one elsewhere. -/
theorem LogOnly.after {s t u : State} (k : LogOnly t u) (h : t.fm = s.fm) : LogOnly s u := (LogOnly.of_eq h).trans k

theorem LogOnly.ite {s t u : State} {c : Prop} [Decidable c] (h : LogOnly s t) (k : LogOnly s u) :
    LogOnly s (if c then t else u) := by
  split <;> assumption

theorem LogOnly.fold {α : Type} {f : State → α → State} (k : ∀ u a, LogOnly u (f u a)) (xs : List α) (s : State) :
    LogOnly s (xs.foldl f s) := by
  induction xs generalizing s with
  | nil => exact .refl s
  | cons a xs ih => exact (k s a).trans (ih _)

theorem LogOnly.bootSlot {s t : State} (h : LogOnly s t) : t.fm.bootSlot = s.fm.bootSlot := by
  obtain ⟨_, _, _, h⟩ := h
  rw [h]

theorem LogOnly.mem_toLog {s t : State} (h : LogOnly s t) {e : LogEntry} (he : e ∈ s.fm.toLog) : e ∈ t.fm.toLog := by
  obtain ⟨_, _, _, h⟩ := h
  rw [h]
  exact List.mem_append_left _ he

theorem makeEntry_logOnly (s : State) (code : EvCode) (cls : FaultClass) (unit : UnitId) (inst : Nat) (detail : List Byte)
    (reps : Nat) (fromBoot cleared : Bool) (occ : Option Occurrence) :
    LogOnly s (s.makeEntry code cls unit inst detail reps fromBoot cleared occ).2 := by
  unfold State.makeEntry
  dsimp only
  split
  · exact ⟨_, [_], _, rfl⟩
  · exact ⟨(s.fm.entrySeq + 1) % 2 ^ 32, [], s.fm.merge, by rw [List.append_nil]⟩

theorem rememberKey_logOnly (s : State) (code : EvCode) (unit : UnitId) (inst : Nat) :
    LogOnly s (s.rememberKey code unit inst) :=
  ⟨s.fm.entrySeq, [], _, by rw [List.append_nil]; rfl⟩

theorem countMerged_logOnly (s : State) (code : EvCode) (unit : UnitId) (inst : Nat) :
    LogOnly s (s.countMerged code unit inst) :=
  ⟨s.fm.entrySeq, [], _, by rw [List.append_nil]; rfl⟩

theorem enqueueB_logOnly (s : State) (x : ClassBItem) : LogOnly s (s.enqueueB x) := by
  unfold State.enqueueB
  exact .ite (.of_eq rfl) (.ite (.of_eq rfl) (.after (makeEntry_logOnly ..) rfl))

theorem report_logOnly (s : State) (code : EvCode) (cls : FaultClass) (unit : UnitId) (inst : Nat) (detail : List Byte)
    (cleared : Bool) (occ : Option Occurrence) : LogOnly s (s.report code cls unit inst detail cleared occ) := by
  unfold State.report
  extract_lets u merges prior recent reps
  have hu : LogOnly s u := .of_eq (passEvent_only s unit).fm
  clear_value u
  refine .ite (hu.trans (countMerged_logOnly ..)) ?_
  have entry := makeEntry_logOnly u code cls unit inst detail reps false cleared occ
  refine ((hu.trans entry).trans ?_).trans (.after (enqueueB_logOnly ..) (passSkip_only ..).fm)
  exact .ite (rememberKey_logOnly ..) (.refl _)

theorem event_logOnly (s : State) (code unit inst detail) : LogOnly s (s.event code unit inst detail) := report_logOnly ..

theorem notice_logOnly (s : State) (code unit inst detail) : LogOnly s (s.notice code unit inst detail) := report_logOnly ..

theorem setRaster_logOnly (s : State) (st cause : Nat) (detail : List Byte) :
    LogOnly s (s.setRaster st cause detail) := by
  unfold State.setRaster
  exact .ite (.of_eq rfl) (.ite (.after (event_logOnly ..) rfl)
    (.ite (.after (event_logOnly ..) rfl) (.after (event_logOnly ..) rfl)))

theorem enterHoldover_logOnly (s : State) (cause : Nat) : LogOnly s (s.enterHoldover cause) := by
  unfold State.enterHoldover
  exact .ite (.after (setRaster_logOnly ..) rfl) (.refl s)

theorem trsSourceDown_logOnly (s : State) (link : Nat) : LogOnly s (s.trsSourceDown link) := by
  unfold State.trsSourceDown
  exact .ite (.ite (enterHoldover_logOnly ..) (.of_eq rfl)) (.refl s)

theorem rxGo_logOnly (s : State) (l : LinkId) (st cause : Nat) : LogOnly s (s.rxGo l st cause) := by
  have fed (f : Link → Link) : LogOnly s ((s.onRx l f).loseFed l cause) :=
    .after (.of_eq (loseFed_only ..).fm) (onRx_only ..).fm
  unfold State.rxGo
  cases l with
  | probe n =>
    exact .ite ((fed _).trans ((LogOnly.ite (trsSourceDown_logOnly ..) (.refl _)).trans (event_logOnly ..)))
      ((fed _).trans (.ite (trsSourceDown_logOnly ..) (.refl _)))
  | lane k => exact .ite ((fed _).trans (event_logOnly ..)) (fed _)

theorem rxSearch_logOnly (s : State) (l : LinkId) (cause : Nat) : LogOnly s (s.rxSearch l cause) :=
  (rxGo_logOnly s l lsSearch cause).trans (.of_eq (onRx_only ..).fm)

theorem bringUpLanes_logOnly (s : State) : LogOnly s s.bringUpLanes := by
  unfold State.bringUpLanes
  exact .ite (.after (.fold (fun u l => .ite (rxSearch_logOnly ..) (.refl u)) _ _) rfl) (.refl s)

end Sys2Proof.Machine
end

section
namespace Sys2Proof.Machine

set_option Elab.async false

/-! ## Cold starts (R32 to R34, R37, R398, R406, R424) -/

/-- The pins that were driven are let go: everything volatile is at its reset value (Table 1.8). -/
theorem cold_spec (s : State) (phase : Phase) : Cold s phase s.power.nodeId s.power.twinSel (s.cold phase) := by
  refine ⟨(if s.power.ppsOut then [.pin "PPS_OUT" false] else []) ++
    (if s.twin.fenceOut then [.pin "FENCE_OUT" false] else []) ++
    (if s.power.faultN then [.pin "FAULT_N" true] else []), ?_, ?_⟩
  · intro x hx
    simp only [List.mem_append, List.mem_ite_nil_right, List.mem_singleton] at hx
    rcases hx with (⟨_, rfl⟩ | ⟨_, rfl⟩) | ⟨_, rfl⟩ <;> exact ⟨_, _, rfl⟩
  · unfold State.cold
    cases s.power.ppsOut <;> cases s.twin.fenceOut <;> cases s.power.faultN <;> rfl

/-- Straps sampled after a cold start are the straps of that cold start (R34). -/
theorem Cold.sampleStraps {s t : State} {phase : Phase} {a id : BitVec 7} {b ts : Bool} (h : Cold s phase a b t) :
    Cold s phase id ts (t.sampleStraps id ts) := by
  obtain ⟨l, hl, rfl⟩ := h
  exact ⟨l, hl, rfl⟩

/-- A cold start leaves the queue. -/
theorem Cold.pending {s t : State} {phase : Phase} {a : BitVec 7} {b : Bool} (h : Cold s phase a b t) :
    t.pending = s.pending := by
  obtain ⟨l, _, rfl⟩ := h
  rfl

/-- MODULE_RESET answers its request, then everything volatile starts anew (R33, R307). -/
theorem Passes.moduleReset {s : State} {via : Path} {data : List Byte} (h : Passes s via 0x2000 0x0E data) :
    s.request via 0x2000 0x0E data = (s.answer via 0x2000 0x0E 0).moduleReset := by
  obtain ⟨r, hr, e⟩ := h.request
  have hs : r.staged (key 0x2000 0x0E) = false := by
    have : Plain 0x2000 0x0E := by decide
    simpa [Plain, hr] using this
  have a : s.applyWrite r 0x2000 0x0E data = taken s := by simp [State.applyWrite, hs, State.applyService]
  rw [e, a]
  rfl

/-- Settles O7: every one of these commands is a cold start of the state, the pins let go, with its own phase and straps. -/
theorem coldStarts : Obligations.ColdStarts := by
  unfold Obligations.ColdStarts
  refine ⟨fun s id ts dnc h => ?_, fun s n hn h => ?_, fun s n hn => ?_, fun s id ts h => ?_, fun s h => ?_, fun s h => ?_,
    fun s h => ?_, fun s hp hm => ?_, fun s via h => ?_⟩
  · exact ⟨_, completes_of_ran (by simp [exec, execPowerOn, h]), (cold_spec s _).sampleStraps⟩
  · have hw : s.resetWorks = true := by rcases h with h | h <;> simp [State.resetWorks, h]
    exact ⟨_, completes_of_ran (by simp [exec, execResetNAssert, resetFilter, hn, hw]), cold_spec s _⟩
  · exact completes_of_ran (by simp [exec, execResetNAssert, resetFilter, Nat.not_le.2 hn])
  · exact ⟨_, completes_of_ran (by simp [exec, execResetNRelease, h]), (cold_spec s _).sampleStraps⟩
  · exact ⟨_, completes_of_ran (by simp [exec, execPowerFailRelease, h, State.moduleReset]), cold_spec s _⟩
  · exact ⟨_, completes_of_ran (by simp [exec, execLifeCycleSelfReset, h, State.moduleReset]), cold_spec s _⟩
  · exact ⟨_, completes_of_ran (by simp [exec, execForemanBrownout, h]), cold_spec s _⟩
  · exact ⟨_, completes_of_ran (by simp [exec, execForemanBrownout, hp, hm]),
      cold_spec { s with nv.breathless := true } _⟩
  · exact ⟨_, completes_of_ran (by simp only [exec, execModuleReset, h.moduleReset]; rfl),
      cold_spec (s.answer via 0x2000 0x0E 0) _⟩

/-- Settles O3: the reset state is the structure's defaults. -/
theorem resetState : Obligations.ResetState := by
  unfold Obligations.ResetState
  refine ⟨?_, rfl, rfl, ?_, rfl, rfl, rfl, rfl, ?_, ?_⟩
  · simp [QueueOk, State.reset]
  · rfl
  · rintro (n | n) <;> simp [State.rx, State.reset, vget, lsDisabled]
  · intro n
    simp [State.ring, State.reset, vget]

end Sys2Proof.Machine
end

section
namespace Sys2Proof.Machine

set_option Elab.async false

/-! ## Boot (R32, R33, R398) -/

/-- What the steps of a boot after its first one leave alone. -/
structure BootKept (s t : State) : Prop where
  phase : t.power.phase = s.power.phase
  recovery : t.power.recovery = s.power.recovery
  ready : t.hf.ready = s.hf.ready
  slot : t.fm.bootSlot = s.fm.bootSlot
  modeField : t.modes.mode = s.modes.mode

theorem BootKept.refl (s : State) : BootKept s s := ⟨rfl, rfl, rfl, rfl, rfl⟩

theorem BootKept.trans {s t u : State} (h : BootKept s t) (k : BootKept t u) : BootKept s u :=
  ⟨k.phase.trans h.phase, k.recovery.trans h.recovery, k.ready.trans h.ready, k.slot.trans h.slot,
    k.modeField.trans h.modeField⟩

theorem BootKept.ite {s t u : State} {c : Prop} [Decidable c] (h : BootKept s t) (k : BootKept s u) :
    BootKept s (if c then t else u) := by
  split <;> assumption

theorem BootKept.fold {α : Type} {f : State → α → State} (k : ∀ u a, BootKept u (f u a)) (xs : List α) (s : State) :
    BootKept s (xs.foldl f s) := by
  induction xs generalizing s with
  | nil => exact .refl s
  | cons a xs ih => exact (k s a).trans (ih _)

/-- An operation that reaches neither power nor Headframe nor modes, and of the Foreman no more than the boot slot's
neighbours. -/
theorem Alters.bootKept {l : List Part} {s t : State} (h : Alters l s t) (k : t.fm.bootSlot = s.fm.bootSlot)
    (hp : Part.power ∉ l := by decide) (hh : Part.hf ∉ l := by decide) (hm : Part.modes ∉ l := by decide) :
    BootKept s t :=
  ⟨by rw [h.power hp], by rw [h.power hp], by rw [h.hf hh], k, by rw [h.modes hm]⟩

/-- A report keeps what boot has set. -/
theorem Reported.bootKept {s t : State} (h : Reported s t) : BootKept s t := by
  refine h.only.bootKept ?_
  obtain ⟨_, _, _, _, _, _, _, rfl⟩ := h
  rfl

theorem bootEntry_reported (s : State) (code cls unit inst detail at_) :
    Reported s (s.bootEntry code cls unit inst detail at_) :=
  (makeEntry_reported ..).trans (enqueueB_reported ..)

theorem notePowerLoss_bootKept (s : State) : BootKept s s.notePowerLoss := by
  have entry (u : State) (code cls unit inst detail at_) : BootKept u (u.bootEntry code cls unit inst detail at_) :=
    (bootEntry_reported ..).bootKept
  have free : BootKept s s.freeDetail.2 := ⟨rfl, rfl, rfl, rfl, rfl⟩
  unfold State.notePowerLoss
  split
  · exact .ite (entry ..) (.ite (free.trans (entry ..)) (.refl s))
  · exact .ite (free.trans (entry ..)) (.refl s)

theorem closeRuns_bootKept (s : State) : BootKept s s.closeRuns :=
  .fold (fun _ _ => (bootEntry_reported ..).bootKept) _ _

theorem bootLog_bootKept (s : State) : BootKept s s.bootLog :=
  ((notePowerLoss_bootKept s).trans (closeRuns_bootKept _)).trans ⟨rfl, rfl, rfl, rfl, rfl⟩

theorem returnWipe_bootKept (s : State) : BootKept s s.returnWipe := by
  refine (returnWipe_only s).bootKept ?_
  unfold State.returnWipe
  refine (notice_logOnly ..).bootSlot.trans ?_
  dsimp only
  rw [(wipeStockpile_only _).fm]
  rfl

theorem bootState_spec (s : State) : s.bootState.power.phase = .running ∧
    s.bootState.power.recovery = s.power.recovery ∧ s.bootState.hf.ready = true ∧
    s.bootState.fm.bootSlot = s.fm.bootSlot ∧ s.bootState.modes.mode = s.modes.mode := by
  have h (u : State) : BootKept u (if u.nv.lifeCycle == lcReturn && !u.nv.returnDone then u.returnWipe else u) :=
    .ite (returnWipe_bootKept u) (.refl u)
  obtain ⟨a, b, c, d, e⟩ := (bootLog_bootKept _).trans (h (State.bootLog _))
  exact ⟨a, b, c, d, e⟩

theorem loadRecord_bootKept (s : State) (k v : Nat) : BootKept s (s.loadRecord k v) := by
  unfold State.loadRecord
  split
  · exact .refl s
  · exact .ite (.trans (.ite (.refl s) (notice_reported ..).bootKept) ⟨rfl, rfl, rfl, rfl, rfl⟩)
      (.trans (.ite (.refl s) (notice_reported ..).bootKept) ⟨rfl, rfl, rfl, rfl, rfl⟩)

theorem loadStored_bootKept (s : State) : BootKept s s.loadStored := by
  have src (x : Nat) : BootKept s { s with dict.storeSource := x } := ⟨rfl, rfl, rfl, rfl, rfl⟩
  unfold State.loadStored
  dsimp only
  split
  · exact (src _).trans (.fold (fun _ _ => loadRecord_bootKept ..) _ _)
  · exact (src _).trans (notice_reported ..).bootKept

theorem noteEval_bootKept (s : State) : BootKept s s.noteEval := by
  refine (noteEval_only s).bootKept ?_
  unfold State.noteEval
  extract_lets
  split
  · rfl
  · exact (notice_logOnly ..).bootSlot

theorem sendCan_bootKept (s : State) (p : CanPort) (id : Nat) (brs : Bool) (bytes : List Byte) :
    BootKept s (s.sendCan p id brs bytes) :=
  (sendCan_only ..).bootKept (by rw [(sendCan_only ..).fm])

theorem bringUpLanes_bootKept (s : State) : BootKept s s.bringUpLanes :=
  (bringUpLanes_only s).bootKept (bringUpLanes_logOnly s).bootSlot

theorem setXcLanes_bootKept (s : State) : BootKept s s.setXcLanes :=
  (setXcLanes_only s).bootKept (by rw [(setXcLanes_only s).fm])

theorem reserveUse_bootKept (s : State) (v : Nat) : BootKept s (s.reserveUse v) := ⟨rfl, rfl, rfl, rfl, rfl⟩

theorem startEntry_bootKept (s : State) (auto : Bool) : BootKept s (s.startEntry auto) := ⟨rfl, rfl, rfl, rfl, rfl⟩

theorem takeFree_bootKept (s : State) : BootKept s s.takeFree.2 := ⟨rfl, rfl, rfl, rfl, rfl⟩

/-- The first step of a boot from a slot: the slot counts its start (R403). -/
def State.startSlot (s : State) (i : Fin 2) : State :=
  { s with fm.bootSlot := i, nv.slots := s.nv.slots.set i s.nv.slots[i].start }

/-- What Dormant is entered with: every step of `enterDormant` behind the boot of its slot leaves that boot alone (R33). -/
theorem enterDormant_bootKept (s : State) (i : Fin 2) :
    BootKept (s.startSlot i).bootState (s.enterDormant i) := by
  unfold State.enterDormant
  extract_lets reverted _ _ s0 s1 s2 s3 _ _ s4 s5 s6
  have h2 : BootKept s1 s2 := .ite (notice_reported ..).bootKept (.refl s1)
  have h3 : BootKept s2 s3 := loadStored_bootKept s2
  have h4 : BootKept s3 s4 := ⟨rfl, rfl, rfl, rfl, rfl⟩
  have h5 : BootKept s4 s5 :=
    ((reserveUse_bootKept s4 _).trans (setXcLanes_bootKept _)).trans (bringUpLanes_bootKept _)
  have h6 : BootKept s5 s6 := noteEval_bootKept s5
  refine ((((h2.trans h3).trans h4).trans h5).trans h6).trans ((takeFree_bootKept s6).trans ?_)
  obtain ⟨f, u⟩ := s6.takeFree
  exact ((sendCan_bootKept ..).trans (sendCan_bootKept ..)).trans
    (.ite (startEntry_bootKept ..) (.ite (.refl _) ⟨rfl, rfl, rfl, rfl, rfl⟩))

/-- Recovery boot runs the Foreman without any mode, with FAULT_N asserted (R32, R390). -/
theorem recoveryBoot_spec (s : State) : s.recoveryBoot.power.phase = .running ∧ s.recoveryBoot.power.recovery = true ∧
    s.recoveryBoot.mode = 0xFF ∧ s.recoveryBoot.power.faultN = true := by
  have wake (u : State) : u.wakeLink.power.phase = u.power.phase ∧ u.wakeLink.power.recovery = u.power.recovery ∧
      u.wakeLink.power.faultN = u.power.faultN := by
    unfold State.wakeLink
    split <;> exact ⟨rfl, rfl, rfl⟩
  have raise (u : State) : (u.raiseVector .pf0 faultVector).power.phase = u.power.phase ∧
      (u.raiseVector .pf0 faultVector).power.recovery = u.power.recovery ∧
      (u.raiseVector .pf0 faultVector).power.faultN = u.power.faultN := by
    unfold State.raiseVector
    split
    · exact wake u
    · exact ⟨rfl, rfl, rfl⟩
  have assert (u : State) : u.assertFaultN.power.phase = u.power.phase ∧
      u.assertFaultN.power.recovery = u.power.recovery ∧ u.assertFaultN.power.faultN = true := by
    unfold State.assertFaultN
    split
    · exact ⟨rfl, rfl, ‹_›⟩
    · exact raise _
  obtain ⟨hp, hr, hf⟩ := assert (({ s.bootState with power.recovery := true } : State).setMode 0xFF)
  refine ⟨hp.trans (bootState_spec s).1, hr, ?_, hf⟩
  exact if_pos hr

/-! ## Power failure (R395 to R397) -/

/-- The record of the latest sample is written by a Foreman that runs, and by no other (R396, R397). -/
theorem breathe_breath (s : State) : s.breathe.nv.breath =
    if s.foremanRuns then some { entry := s.lastBreath, used := false } else s.nv.breath := by
  unfold State.breathe
  split
  · rfl
  · split <;> rfl

theorem powerFail_of_resetWorks {s : State} (h : s.resetWorks = true) (cause : PowerFailCause) :
    exec (.powerFailDetect cause) s = ran s s.breathe.shed := by
  have : s.powerFail = s.breathe.shed := if_pos h
  cases cause <;> exact congrArg (ran s) this

theorem powerFail_of_not_resetWorks {s : State} (h : s.resetWorks = false) (cause : PowerFailCause) :
    exec (.powerFailDetect cause) s = ran s s := by
  have : s.powerFail = s := if_neg (by simp [h])
  cases cause <;> exact congrArg (ran s) this

/-- Settles O8: the detection sheds every part at once and keeps the record; the boot that follows changes neither mode nor
slot after its first step. -/
theorem powerFailureAndBoot : Obligations.PowerFailureAndBoot := by
  unfold Obligations.PowerFailureAndBoot
  refine ⟨fun s cause => ⟨fun h => ?_, fun h => ?_⟩, fun s i h hc => ?_, fun s h hc => ?_⟩
  · have hw : s.resetWorks = true := by rcases h with h | h | h <;> simp [State.resetWorks, h]
    have breath : s.breathe.shed.nv.breath = s.breathe.nv.breath := by rw [(shed_only s.breathe).nv]
    refine ⟨s.breathe.shed, completes_of_ran (powerFail_of_resetWorks hw cause), rfl, rfl, rfl, rfl, rfl, rfl, rfl, rfl,
      rfl, rfl, rfl, rfl, rfl, rfl, fun hr => ?_, fun hr => ?_⟩ <;> rw [breath, breathe_breath]
    · rw [if_pos hr]
    · rw [if_neg (by simp [hr])]
  · have hw : s.resetWorks = false := by rcases h with h | h | h <;> simp [State.resetWorks, h]
    exact completes_of_ran (powerFail_of_not_resetWorks hw cause)
  · have e : s.bootComplete = s.enterDormant i := by rw [State.bootComplete, hc]
    have k := enterDormant_bootKept s i
    obtain ⟨hp, hr, hh, hf, hm⟩ :=
      bootState_spec (s.startSlot i)
    have recovery : (s.enterDormant i).power.recovery = s.power.recovery := k.recovery.trans hr
    have mode : (s.enterDormant i).modes.mode = s.modes.mode := k.modeField.trans hm
    refine ⟨s.enterDormant i, completes_of_ran (by simp [exec, execBootComplete, h, e]), k.phase.trans hp, k.slot.trans hf,
      k.ready.trans hh, recovery, mode, ?_⟩
    unfold State.mode
    rw [recovery, mode]
  · have e : s.bootComplete = s.recoveryBoot := by rw [State.bootComplete, hc]
    exact ⟨s.recoveryBoot, completes_of_ran (by simp [exec, execBootComplete, h, e]), recoveryBoot_spec s⟩

end Sys2Proof.Machine
end

section
namespace Sys2Proof.Machine

set_option Elab.async false

/-! ## What is decided does not depend on FLOOR_SUM and FLOOR_BURST (R198) -/

theorem floorFigures_planCause (s : State) (c d : Committed) : (s.floorFigures c).planCause d = s.planCause d := by
  unfold State.floorFigures
  split <;> rfl

theorem floorFigures_instantCause (s : State) (c : Committed) (at_ : Nat) :
    (s.floorFigures c).instantCause at_ = s.instantCause at_ := by
  unfold State.floorFigures
  split <;> rfl

theorem floorFigures_mode (s : State) (c : Committed) : (s.floorFigures c).mode = s.mode := by
  unfold State.floorFigures
  split <;> rfl

theorem floorFigures_mirrors (s : State) (c : Committed) : (s.floorFigures c).mirrors = s.mirrors := by
  unfold State.floorFigures
  split <;> rfl

theorem floorFigures_modes (s : State) (c : Committed) : (s.floorFigures c).modes = s.modes := (floorFigures_only s c).modes

theorem floorFigures_role (s : State) (c : Committed) : (s.floorFigures c).role = s.role := by
  unfold State.floorFigures
  split <;> rfl

theorem floorFigures_partnered (s : State) (c : Committed) : (s.floorFigures c).partnered = s.partnered := by
  unfold State.floorFigures
  split <;> rfl

/-- A change into a mode that captures nothing computes no figures. -/
theorem floorFigures_idle (s : State) {c : Committed} (h : captureMode c.target = false) : s.floorFigures c = s :=
  if_neg (by simp [h])

/-! ## Records to the twin (R361) -/

/-- With a partner a record is sent at once. -/
theorem xcSend_sent {s : State} (h : s.partnered = true) (r : XcRecord) :
    Sent.xcRecord r ∈ (s.xcSend r).sent := by
  unfold State.xcSend
  rw [if_pos h]
  exact List.mem_cons_self

/-- What was sent stays sent. -/
theorem xcSend_keeps_sent {s : State} {x : Sent} (h : x ∈ s.sent) (r : XcRecord) : x ∈ (s.xcSend r).sent := by
  unfold State.xcSend
  split
  · refine List.mem_cons_of_mem _ ?_
    dsimp only
    split <;> exact h
  · exact h

theorem xcSend_partnered (s : State) (r : XcRecord) : (s.xcSend r).partnered = s.partnered := by
  unfold State.xcSend
  split
  · split <;> rfl
  · rfl

/-! ## The end of a change (R21, R25) -/

/-- The modes of a change that ended aborted (R21, R25). -/
theorem abortChange_modes (s : State) (cause : Nat) (mask : BitVec 11) : (s.abortChange cause mask).modes =
    { s.modes with
        staged := [], committed := none, swapStaged := false, detachStaged := false, changeState := csAborted
        refusalCause := cause, unitMask := mask, abortCount := inc32 s.modes.abortCount } :=
  (event_only ..).modes

/-- The change is over, and its event tells cause and mask. -/
theorem abortChange_event (s : State) (cause : Nat) (mask : BitVec 11) :
    ∃ u : State, u.fm = s.fm ∧ u.grizzly = s.grizzly ∧ s.abortChange cause mask =
      u.event .epochAborted .surveyor 0xFF (leBytes 1 cause ++ leBytes 4 mask.toNat) := by
  refine ⟨_, ?_, ?_, rfl⟩ <;> rfl

/-- A deadline that finds a unit not READY (R25). -/
theorem deadline_notReady {s : State} {c : Committed} {missing : BitVec 11} (hc : s.modes.committed = some c)
    (hs : s.modes.changeState = 2) (hd : s.atDeadline c = true) (hm : s.notReady c missing true ≠ 0) :
    s.deadline missing =
      (if (s.floorFigures c).needsShadow then (s.floorFigures c).xcSend .epochAbort else s.floorFigures c).abortChange
        ceNotReady (s.notReady c missing true) := by
  unfold State.deadline
  simp only [hc]
  rw [if_pos (by simp [hs, hd, csCommitted])]
  exact if_neg (by simpa using hm)

/-- A deadline that finds every unit READY (R24). -/
theorem deadline_ready {s : State} {c : Committed} {missing : BitVec 11} (hc : s.modes.committed = some c)
    (hs : s.modes.changeState = 2) (hd : s.atDeadline c = true) (hm : s.notReady c missing true = 0) :
    s.deadline missing =
      { (if (s.floorFigures c).needsShadow then (s.floorFigures c).xcSend .epochGo else s.floorFigures c) with
        modes.changeState := csReady, modes.unitMask := 0 } := by
  unfold State.deadline
  simp only [hc]
  rw [if_pos (by simp [hs, hd, csCommitted])]
  exact if_pos (by simp [hm])

/-- What the Shadow is told at the deadline leaves modes, Foreman and figures alone. -/
theorem tellShadow_only (s : State) (r : XcRecord) :
    Alters [.regs, .twin, .sent] s (if s.needsShadow then s.xcSend r else s) :=
  .ite (xcSend_only s r) (.refl _ s)

/-- Settles O47: the deadline aborts the change by one event, behind the figures that the check computed. -/
theorem notReadyAborts : Obligations.NotReadyAborts := by
  unfold Obligations.NotReadyAborts
  intro s missing c hc hs hd hm
  have told := tellShadow_only (s.floorFigures c) .epochAbort
  have e := deadline_notReady hc hs hd hm
  have modes := abortChange_modes (if (s.floorFigures c).needsShadow then (s.floorFigures c).xcSend .epochAbort
    else s.floorFigures c) ceNotReady (s.notReady c missing true)
  rw [← e, told.modes, floorFigures_modes] at modes
  obtain ⟨u, hfm, hg, hu⟩ := abortChange_event (if (s.floorFigures c).needsShadow then (s.floorFigures c).xcSend .epochAbort
    else s.floorFigures c) ceNotReady (s.notReady c missing true)
  exact ⟨s.deadline missing, u, rfl, (deadline_only s missing).only, by rw [modes], by rw [modes], by rw [modes]; rfl,
    by rw [modes]; rfl, by rw [modes], by rw [modes], by rw [modes], by rw [modes],
    hfm.trans (told.fm.trans (floorFigures_only s c).fm), hg.trans told.grizzly, _, e.trans hu⟩

end Sys2Proof.Machine
end

section
namespace Sys2Proof.Machine

set_option Elab.async false

/-! ## COMMIT (R19, R21, R22, R35, Table 1.3) -/

theorem floorFigures_modeRequest (s : State) (c : Committed) : (s.floorFigures c).modeRequest = s.modeRequest := by
  unfold State.modeRequest
  rw [floorFigures_modes]

/-- A second COMMIT names only its cause (log 33). -/
theorem commit_of_pending {s : State} (h : s.changePending = true) :
    s.commit = { s with modes.refusalCause := ceStageBusy } := if_pos h

section
variable {s : State} (hp : s.changePending = false)
include hp

theorem commit_of_recovery (hr : s.power.recovery = true) : s.commit = s.commitRefused ceRecovery := by
  simp [State.commit, hp, hr]

variable (hr : s.power.recovery = false)
include hr

theorem commit_of_badTransition (hc : s.planCause s.planned = 1) :
    s.commit = (s.floorFigures s.planned).commitRefused ceBadTransition := by
  simp [State.commit, hp, hr, floorFigures_planCause, hc, ceBadTransition]

variable (hc : s.planCause s.planned ≠ 1)
include hc

theorem commit_of_instantCause (hm : s.mode ≠ 0) (hs : s.mirrors = false) (hi : s.instantCause s.planned.at_ ≠ 0) :
    s.commit = (s.floorFigures s.planned).commitRefused (s.instantCause s.planned.at_) := by
  simp [State.commit, hp, hr, floorFigures_planCause, floorFigures_mode, floorFigures_mirrors,
    floorFigures_instantCause, hc, hm, hs, hi, ceBadTransition]

theorem commit_of_planCause (hm : s.mode ≠ 0) (hi : s.instantCause s.planned.at_ = 0) (h0 : s.planCause s.planned ≠ 0) :
    s.commit = ((s.floorFigures s.planned).noteExhausted s.planned.run).commitRefused (s.planCause s.planned) := by
  simp [State.commit, hp, hr, floorFigures_planCause, floorFigures_mode, floorFigures_mirrors,
    floorFigures_instantCause, hc, hm, hi, h0, ceBadTransition]

omit hc in
theorem commit_of_taken (hm : s.mode ≠ 0) (hi : s.instantCause s.planned.at_ = 0) (h0 : s.planCause s.planned = 0) :
    s.commit = (s.floorFigures s.planned).commitTaken s.planned := by
  simp [State.commit, hp, hr, floorFigures_planCause, floorFigures_mode, floorFigures_mirrors,
    floorFigures_instantCause, hm, hi, h0, ceBadTransition]

theorem commit_of_dormantCause (hm : s.mode = 0) (hq : s.modeRequest ≠ 0xFF) (h0 : s.planCause s.planned ≠ 0) :
    s.commit = ((s.floorFigures s.planned).noteExhausted 1).commitRefused (s.planCause s.planned) := by
  simp [State.commit, hp, hr, floorFigures_planCause, floorFigures_mode, floorFigures_modeRequest, hc, hm, hq, h0,
    ceBadTransition]

omit hc in
theorem commit_of_entry (hm : s.mode = 0) (hq : s.modeRequest ≠ 0xFF) (h0 : s.planCause s.planned = 0) :
    s.commit = (if (s.floorFigures s.planned).role == roleActive then
      (s.floorFigures s.planned).xcSend (.forwardWrite 0x2000 4 [1]) else s.floorFigures s.planned).startEntry false := by
  simp [State.commit, hp, hr, floorFigures_planCause, floorFigures_mode, floorFigures_modeRequest, hm, hq, h0,
    ceBadTransition]

end

/-- A request for Ready alone plans Ready (R19). -/
theorem planned_target_of_request {s : State} (hq : s.modeRequest = 1) (hs : s.modes.swapStaged = false)
    (hm : s.mirrors = false) : s.planned.target = 1 := by
  simp [State.planned, hm, hs, hq]

/-- Out of Dormant only the junction refuses a move to Ready (Table 1.3). -/
theorem moveCause_of_dormant {s : State} {c : Committed} (hm : s.mode = 0) (hq : s.modeRequest = 1) (hc : c.target = 1) :
    s.moveCause c = if s.tooHot then ceThermal else 0 := by
  simp [State.moveCause, hq, hc, hm, transitionOk]

theorem planCause_of_hot {s : State} {c : Committed} (hm : s.mode = 0) (hq : s.modeRequest = 1) (hc : c.target = 1)
    (hs : s.mirrors = false) (ht : s.tooHot = true) : s.planCause c = ceThermal := by
  simp [State.planCause, moveCause_of_dormant hm hq hc, hs, ht, ceThermal]

/-- A move to Ready is never a transition that Table 1.3 leaves out. -/
theorem planCause_of_dormant_ne {s : State} {c : Committed} (hm : s.mode = 0) (hq : s.modeRequest = 1)
    (hc : c.target = 1) (hs : s.mirrors = false) : s.planCause c ≠ 1 := by
  simp only [State.planCause, moveCause_of_dormant hm hq hc, hs]
  cases s.tooHot <;> cases s.keysLack s.keysTurnedOn <;> cases s.layoutBad <;> decide

/-- A link that leaves L1 or L0p sends no less. -/
theorem leaveLowPower_keeps_sent {s : State} {x : Sent} (h : x ∈ s.sent) : x ∈ s.leaveLowPower.sent := by
  have w : s.wakeLink.sent = s.sent := (wakeLink_only s).sent
  unfold State.leaveLowPower
  extract_lets
  split
  · exact List.mem_cons_of_mem _ (w ▸ h)
  · exact w ▸ h

theorem reportReady_keeps_sent {s : State} {x : Sent} (h : x ∈ s.sent) (c : Committed) : x ∈ (s.reportReady c).sent := by
  unfold State.reportReady
  split
  · exact xcSend_keeps_sent h _
  · exact h

/-- The Active forwards the commit itself last (R329). -/
theorem forwardCommit_sent {s : State} (hr : s.role = 1) (hp : s.partnered = true) (c : Committed) :
    Sent.xcRecord (.forwardWrite 0x2000 4 [1]) ∈ (s.forwardCommit c).sent := by
  unfold State.forwardCommit
  rw [if_pos (by simp [hr, roleActive])]
  refine xcSend_sent ?_ _
  rw [xcSend_partnered]
  split
  · rw [xcSend_partnered, hp]
  · exact hp

/-- A commit taken freezes the set (R21). -/
theorem commitTaken_modes (s : State) (c : Committed) : (s.commitTaken c).modes =
    { s.modes with changeState := csCommitted, refusalCause := 0, committed := some c } := by
  unfold State.commitTaken
  extract_lets s1 _ s2 s3
  have h1 : s1.modes = s.modes := (forwardCommit_only s c).modes
  have h3 : s3.modes = s2.modes := (Alters.ite (leaveLowPower_only s2) (.refl _ s2)).modes
  rw [(reportReady_only s3 c).modes, h3]
  exact congrArg (fun m : Modes =>
    { m with changeState := csCommitted, refusalCause := 0, committed := some c }) h1

theorem commitTaken_sent {s : State} (hr : s.role = 1) (hp : s.partnered = true) (c : Committed) :
    Sent.xcRecord (.forwardWrite 0x2000 4 [1]) ∈ (s.commitTaken c).sent := by
  have h := forwardCommit_sent hr hp c
  unfold State.commitTaken
  extract_lets s1 _ s2 s3
  refine reportReady_keeps_sent ?_ c
  simp only [s3]
  split
  · exact leaveLowPower_keeps_sent h
  · exact h

end Sys2Proof.Machine
end

section
namespace Sys2Proof.Machine

set_option Elab.async false

/-! ## CANCEL (R21) -/

/-- What a fold of operations lists stays within its parts. -/
theorem rxUnpowerAll_only (s : State) (ls : List LinkId) :
    Alters [.sv, .links, .xc, .seams, .grizzly, .regs, .fm] s (ls.foldl State.rxUnpower s) :=
  .fold (.refl _ s) fun u l => rxUnpower_only u l

/-- Without fabric power the HBM is off; phase, straps and pins stay (Table 1.1, R16). -/
theorem unpowerFabric_power (s : State) : s.unpowerFabric.power = { s.power with fabric := false, hbm := .off } := by
  unfold State.unpowerFabric
  extract_lets s1 _ _ _ s2
  have h1 : s1.power = s.power := (rxUnpowerAll_only s allLinks).power
  have h2 : s2.discardSegments.clockFree.power = s2.power :=
    ((clockFree_only _).power).trans (discardSegments_only _).power
  rw [h2]
  exact congrArg (fun p : Power => { p with fabric := false, hbm := .off }) h1

/-- An entry given up is an aborted change without the entry, and the fabric without power (R35). -/
theorem abortEntry_modes (s : State) (cause : Nat) (mask : BitVec 11) : (s.abortEntry cause mask).modes =
    { s.modes with
        entry := none, staged := [], committed := none, swapStaged := false, detachStaged := false
        changeState := csAborted, refusalCause := cause, unitMask := mask, abortCount := inc32 s.modes.abortCount } :=
  ((unpowerFabric_only _).modes).trans (abortChange_modes _ cause mask)

theorem abortEntry_power (s : State) (cause : Nat) (mask : BitVec 11) :
    (s.abortEntry cause mask).power = { s.power with fabric := false, hbm := .off } := by
  unfold State.abortEntry
  rw [unpowerFabric_power, (abortChange_only ..).power]

theorem cancel_of_entry {s : State} {e : Entry} (h : s.modes.entry = some e) : s.cancel = s.abortEntry ceCancelled 0 := by
  simp [State.cancel, h]

/-- After the READY deadline a CANCEL does nothing (R21). -/
theorem cancel_of_ready {s : State} (he : s.modes.entry = none)
    (h : s.modes.changeState = 3 ∨ s.modes.rollback ≠ none) : s.cancel = s := by
  have k : (s.modes.changeState == csReady || s.modes.rollback.isSome) = true := by
    rcases h with h | h
    · simp [h, csReady]
    · simp [Option.isSome_iff_ne_none.2 h]
  simp [State.cancel, he, k]

/-- Before it, what is staged or committed is discarded (R21). -/
theorem cancel_of_change {s : State} (he : s.modes.entry = none) (hs : s.modes.changeState ≠ 3)
    (hr : s.modes.rollback = none) (h : s.modes.committed ≠ none ∨ s.modes.staged ≠ []) :
    s.cancel = (if s.role == roleActive then s.xcSend (.forwardWrite 0x2000 4 [0]) else s).abortChange ceCancelled 0 := by
  have k : (s.modes.committed.isSome || !s.modes.staged.isEmpty || s.modes.swapStaged || s.modes.detachStaged) = true := by
    rcases h with h | h
    · simp [Option.isSome_iff_ne_none.2 h]
    · simp [h]
  have r : (s.modes.changeState == csReady || s.modes.rollback.isSome) = false := by simp [hs, hr, csReady]
  unfold State.cancel
  rw [if_neg (by simp [he]), if_neg (by simp [r]), if_pos k]

/-- What an Active tells its Shadow leaves everything but the record. -/
theorem tellPartner_only (s : State) (b : Bool) (r : XcRecord) :
    Alters [.regs, .twin, .sent] s (if b then s.xcSend r else s) :=
  .ite (xcSend_only s r) (.refl _ s)

/-! ## The two writes to COMMIT -/

theorem Passes.commit {s : State} {via : Path} (h : Passes s via 0x2000 4 [1]) :
    exec (.commit via) s = ran s (s.commit.answer via 0x2000 4 0) :=
  congrArg (ran s) (h.service (t := taken s.commit) rfl)

theorem Passes.cancel {s : State} {via : Path} (h : Passes s via 0x2000 4 [0]) :
    exec (.cancel via) s = ran s (s.cancel.answer via 0x2000 4 0) :=
  congrArg (ran s) (h.service (t := taken s.cancel) rfl)

/-- An answer changes nothing but what was sent. -/
theorem answer_only (s : State) (via : Path) (index sub code : Nat) : Alters [.sent] s (s.answer via index sub code) :=
  send_only s _

/-- COMMIT in a mode from Ready on, once the transition itself stands (R19, R22, R24). -/
theorem commit_from_ready {s : State} {via : Path} (h : Passes s via 0x2000 4 [1]) (hp : s.changePending = false)
    (hr : s.power.recovery = false) (hs : s.mirrors = false) (hm : s.mode ≠ 0) (hc : s.planCause s.planned ≠ 1) :
    (s.instantCause s.planned.at_ ≠ 0 → Completes (.commit via) s
      (((s.floorFigures s.planned).commitRefused (s.instantCause s.planned.at_)).answer via 0x2000 4 0)) ∧
    (s.instantCause s.planned.at_ = 0 → s.planCause s.planned ≠ 0 →
      ∃ t, Completes (.commit via) s t ∧ OnlyChanges [.modes, .grizzly, .regs, .fm, .sent] s t ∧
        t.modes = { s.modes with changeState := 7, refusalCause := s.planCause s.planned }) ∧
    (s.instantCause s.planned.at_ = 0 → s.planCause s.planned = 0 →
      ∃ t, Completes (.commit via) s t ∧ OnlyChanges [.power, .modes, .grizzly, .hf, .regs, .twin, .sent] s t ∧
        t.modes = { s.modes with changeState := 2, refusalCause := 0, committed := some s.planned } ∧
        (s.role = 1 → s.partnered = true → Sent.xcRecord (.forwardWrite 0x2000 4 [1]) ∈ t.sent)) := by
  refine ⟨fun hi => ?_, fun hi h0 => ?_, fun hi h0 => ?_⟩
  · rw [← commit_of_instantCause hp hr hc hm hs hi]
    exact completes_of_ran h.commit
  · refine ⟨_, completes_of_ran h.commit, ?_, ?_⟩ <;> rw [commit_of_planCause hp hr hc hm hi h0]
    · exact ((answer_only ..).next <| (commitRefused_only ..).next <| (noteExhausted_only ..).next <|
        (floorFigures_only s s.planned).mono).only
    · exact congrArg (fun m : Modes => { m with changeState := 7, refusalCause := s.planCause s.planned })
        ((noteExhausted_only ..).modes.trans (floorFigures_modes s s.planned))
  · refine ⟨_, completes_of_ran h.commit, ?_, ?_, fun ha hw => ?_⟩ <;> rw [commit_of_taken hp hr hm hi h0]
    · exact ((answer_only ..).next <| (commitTaken_only ..).next <| (floorFigures_only s s.planned).mono).only
    · exact (commitTaken_modes _ s.planned).trans (congrArg (fun m : Modes =>
        { m with changeState := 2, refusalCause := 0, committed := some s.planned }) (floorFigures_modes s s.planned))
    · exact List.mem_cons_of_mem _ (commitTaken_sent (by rwa [floorFigures_role]) (by rwa [floorFigures_partnered]) _)

/-- COMMIT of a request for Ready in Dormant (R35, Table 1.3). -/
theorem commit_from_dormant {s : State} {via : Path} (h : Passes s via 0x2000 4 [1]) (hp : s.changePending = false)
    (hr : s.power.recovery = false) (hs : s.mirrors = false) (hm : s.mode = 0) (hq : s.modeRequest = 1)
    (hw : s.modes.swapStaged = false) :
    (s.tooHot = true → Completes (.commit via) s (((s.noteExhausted 1).commitRefused 0x0C).answer via 0x2000 4 0)) ∧
    (s.tooHot = false → s.planCause s.planned ≠ 0 →
      Completes (.commit via) s (((s.noteExhausted 1).commitRefused (s.planCause s.planned)).answer via 0x2000 4 0)) ∧
    (s.planCause s.planned = 0 → ∃ t, Completes (.commit via) s t ∧ OnlyChanges [.modes, .regs, .twin, .sent] s t ∧
      t.modes = { s.modes with changeState := 2, refusalCause := 0, entry := some { auto := false } }) := by
  have target := planned_target_of_request hq hw hs
  have idle : s.floorFigures s.planned = s := floorFigures_idle s (by rw [target]; rfl)
  have legal := planCause_of_dormant_ne hm hq target hs
  have asked : s.modeRequest ≠ 0xFF := by rw [hq]; decide
  have refused (h0 : s.planCause s.planned ≠ 0) : Completes (.commit via) s
      (((s.noteExhausted 1).commitRefused (s.planCause s.planned)).answer via 0x2000 4 0) := by
    have e := commit_of_dormantCause hp hr legal hm asked h0
    rw [idle] at e
    exact e ▸ completes_of_ran h.commit
  refine ⟨fun ht => ?_, fun _ h0 => refused h0, fun h0 => ?_⟩
  · have hot := planCause_of_hot hm hq target hs ht
    have k := refused (by rw [hot]; decide)
    rwa [hot] at k
  · have e := commit_of_entry hp hr hm asked h0
    rw [idle] at e
    have told := tellPartner_only s (s.role == roleActive) (.forwardWrite 0x2000 4 [1])
    refine ⟨_, completes_of_ran h.commit, ?_, ?_⟩ <;> rw [e]
    · exact ((answer_only ..).next <| (startEntry_only ..).next told.mono).only
    · exact congrArg (fun m : Modes =>
        { m with changeState := 2, refusalCause := 0, entry := some { auto := false } }) told.modes

/-- CANCEL while no entry into Ready is in progress (R21). -/
theorem cancel_without_entry {s : State} {via : Path} (h : Passes s via 0x2000 4 [0]) (he : s.modes.entry = none) :
    (s.modes.changeState = 3 ∨ s.modes.rollback ≠ none → Completes (.cancel via) s (s.answer via 0x2000 4 0)) ∧
    (s.modes.changeState ≠ 3 → s.modes.rollback = none → s.modes.committed ≠ none ∨ s.modes.staged ≠ [] →
      ∃ t, Completes (.cancel via) s t ∧ OnlyChanges [.modes, .grizzly, .regs, .twin, .fm, .sent] s t ∧
        t.modes.changeState = 5 ∧ t.modes.refusalCause = 0x14 ∧ t.modes.staged = [] ∧ t.modes.committed = none ∧
        t.modes.abortCount = inc32 s.modes.abortCount ∧ t.modes.mode = s.modes.mode ∧ t.modes.epoch = s.modes.epoch) := by
  refine ⟨fun hr => ?_, fun hs hr hc => ?_⟩
  · have e := h.cancel
    rw [cancel_of_ready he hr] at e
    exact completes_of_ran e
  · have told := tellPartner_only s (s.role == roleActive) (.forwardWrite 0x2000 4 [0])
    have modes := abortChange_modes (if s.role == roleActive then s.xcSend (.forwardWrite 0x2000 4 [0]) else s) ceCancelled 0
    have e := cancel_of_change he hs hr hc
    rw [← e, told.modes] at modes
    refine ⟨_, completes_of_ran h.cancel, ?_, ?_⟩
    · rw [e]
      exact ((answer_only ..).next <| (abortChange_only ..).next told.mono).only
    · simp [State.answer, modes, csAborted, ceCancelled]

/-- CANCEL gives up an entry into Ready (R21, R35). -/
theorem cancel_with_entry {s : State} {via : Path} {e : Entry} (h : Passes s via 0x2000 4 [0])
    (he : s.modes.entry = some e) :
    ∃ t, Completes (.cancel via) s t ∧ t.modes.entry = none ∧ t.modes.changeState = 5 ∧ t.modes.refusalCause = 0x14 ∧
      t.power.fabric = false ∧ t.power.hbm = .off ∧ t.modes.mode = s.modes.mode := by
  refine ⟨_, completes_of_ran h.cancel, ?_⟩
  simp [State.answer, cancel_of_entry he, abortEntry_modes, abortEntry_power, csAborted, ceCancelled]

/-- A deadline that finds every unit READY lets the change stand, and the Active says so (R24, R366). -/
theorem deadline_stands {s : State} {c : Committed} {missing : BitVec 11} (hc : s.modes.committed = some c)
    (hs : s.modes.changeState = 2) (hd : s.atDeadline c = true) (hm : s.notReady c missing true = 0) :
    OnlyChanges [.modes, .grizzly, .regs, .twin, .sent] s (s.deadline missing) ∧
      (s.deadline missing).modes = { s.modes with changeState := 3, unitMask := 0 } ∧
      (s.deadline missing).grizzly = (s.floorFigures c).grizzly ∧
      (s.needsShadow = true → Sent.xcRecord .epochGo ∈ (s.deadline missing).sent) := by
  have told := tellShadow_only (s.floorFigures c) .epochGo
  have set (u : State) : Alters [.modes] u { u with modes.changeState := csReady, modes.unitMask := 0 } :=
    .set fun p hp => by cases p <;> first | rfl | exact absurd ((Part.mem_bits ..).2 rfl) hp
  rw [deadline_ready hc hs hd hm]
  refine ⟨((set _).next <| told.next <| (floorFigures_only s c).mono).only, ?_, told.grizzly, fun hn => ?_⟩
  · exact congrArg (fun m : Modes => { m with changeState := 3, unitMask := 0 }) (told.modes.trans (floorFigures_modes s c))
  · have hp : s.partnered = true := (Bool.and_eq_true_iff.1 hn).2
    have hn : (s.floorFigures c).needsShadow = true := by
      rw [State.needsShadow, floorFigures_role, floorFigures_partnered]
      exact hn
    rw [if_pos hn]
    exact xcSend_sent (by rwa [floorFigures_partnered]) _

/-- A deadline without its change, or before it, does nothing. -/
theorem deadline_idle {s : State} (missing : BitVec 11)
    (h : ∀ c, s.modes.committed = some c → s.modes.changeState ≠ 2 ∨ s.atDeadline c = false) : s.deadline missing = s := by
  unfold State.deadline
  split
  · exact if_neg (by rcases h _ ‹_› with h | h <;> simp [h, csCommitted])
  · rfl

/-- Settles O48: each answer is that of the case of `commit`, `cancel` or `deadline` that its hypotheses choose. -/
theorem commitsAndCancels : Obligations.CommitsAndCancels := by
  unfold Obligations.CommitsAndCancels
  refine ⟨fun s via h => ⟨fun hp => ?_, fun hp hr => ?_, fun hp hr hs => ⟨fun hc => ?_, fun hm hc => ?_, fun hm hq hw => ?_⟩⟩,
    fun s via h he => cancel_without_entry h he, fun s via e h he => cancel_with_entry h he,
    fun s missing => ⟨fun c hc hs hd hm => ?_, fun c hc h => ?_, fun hc => ?_⟩⟩
  · exact commit_of_pending hp ▸ completes_of_ran h.commit
  · exact commit_of_recovery hp hr ▸ completes_of_ran h.commit
  · exact commit_of_badTransition hp hr hc ▸ completes_of_ran h.commit
  · exact commit_from_ready h hp hr hs hm hc
  · exact commit_from_dormant h hp hr hs hm hq hw
  · exact ⟨_, rfl, deadline_stands hc hs hd hm⟩
  · exact completes_of_ran (congrArg (ran s) (deadline_idle missing fun d hd => by rwa [← Option.some.inj (hc.symm.trans hd)]))
  · exact completes_of_ran (congrArg (ran s) (deadline_idle missing fun d hd => by simp [hc] at hd))

end Sys2Proof.Machine
end

section
namespace Sys2Proof.Machine

set_option Elab.async false

/-! ## The intake of faults that isolate nothing (R386) -/

/-- One field of the Foreman set. -/
theorem setFm_only (s : State) (m : Foreman) : Alters [.fm] s { s with fm := m } :=
  .set fun p hp => by cases p <;> first | rfl | exact absurd ((Part.mem_bits ..).2 rfl) hp

/-- A fault of any class but Isolate is a matter of the Foreman alone. -/
theorem raiseFault_only_fm (s : State) {f : FaultReq} (h : f.cls ≠ .isolate) (b : Bool) :
    Alters [.fm] s (s.raiseFault f b) := by
  have hi : (f.cls == .isolate) = false := by simpa using h
  unfold State.raiseFault
  extract_lets u g
  have hu : Alters [.fm] s u := noteCondition_only s f
  refine .ite ((tripWatchdog_only ..).next hu) ?_
  split
  · exact .ite ((enqueueFault_only ..).next hu) ((setFm_only ..).next hu)
  · rw [if_neg (by simp [hi])]
    exact .ite ((requeueFront_only ..).next <| (setFm_only ..).next hu) ((enqueueFault_only ..).next hu)

/-! ## SIDX is a count of samples: no operation of an epoch moves it (R7) -/

section
variable (s : State)

theorem setRaster_sidx (st cause : Nat) (detail : List Byte) : (s.setRaster st cause detail).sv.sidx = s.sv.sidx := by
  unfold State.setRaster
  extract_lets old _ u
  have e (code : EvCode) (unit : UnitId) (i : Nat) (d : List Byte) : (u.event code unit i d).sv.sidx = s.sv.sidx :=
    by rw [(event_only ..).sv]
  split
  · rfl
  · split
    · exact e ..
    · split <;> exact e ..

theorem enterHoldover_sidx (cause : Nat) : (s.enterHoldover cause).sv.sidx = s.sv.sidx := by
  unfold State.enterHoldover
  split
  · exact setRaster_sidx ..
  · rfl

theorem trsSourceDown_sidx (link : Nat) : (s.trsSourceDown link).sv.sidx = s.sv.sidx := by
  unfold State.trsSourceDown
  split
  · split
    · exact enterHoldover_sidx ..
    · rfl
  · rfl

theorem rxGo_sidx (l : LinkId) (st cause : Nat) : (s.rxGo l st cause).sv.sidx = s.sv.sidx := by
  unfold State.rxGo
  extract_lets up u v w
  have hv : v.sv = s.sv := ((loseFed_only u l cause).sv).trans (onRx_only ..).sv
  have hw : w.sv.sidx = s.sv.sidx := by
    simp only [w]
    split
    · split
      · rw [trsSourceDown_sidx, hv]
      · rw [hv]
    · rw [hv]
  split
  · rw [(event_only ..).sv, hw]
  · exact hw

theorem rxSearch_sidx (l : LinkId) (cause : Nat) : (s.rxSearch l cause).sv.sidx = s.sv.sidx := by
  unfold State.rxSearch
  extract_lets
  rw [(onRx_only ..).sv, rxGo_sidx]

theorem rxDisable_sidx (l : LinkId) : (s.rxDisable l).sv.sidx = s.sv.sidx := by
  unfold State.rxDisable
  extract_lets
  rw [(onRx_only ..).sv, rxGo_sidx]

theorem linkEpoch_sidx (old : Nat → Nat → Nat) (n : Fin 48) : (s.linkEpoch old n).sv.sidx = s.sv.sidx := by
  unfold State.linkEpoch
  extract_lets o l on was test grid u
  have hu : u.sv.sidx = s.sv.sidx := by
    simp only [u]
    split
    · rfl
    · exact rxGo_sidx ..
  split
  · rfl
  split
  · exact rxDisable_sidx ..
  split
  · rfl
  split
  · split
    · rw [(queuePattern_only ..).sv, hu]
    · exact hu
  split
  · exact rxSearch_sidx ..
  split
  · exact rxGo_sidx ..
  split
  · rw [(tryUp_only ..).sv]
  · rfl

theorem foldl_sidx {α : Type} {f : State → α → State} (k : ∀ u a, (f u a).sv.sidx = u.sv.sidx) (xs : List α) :
    (xs.foldl f s).sv.sidx = s.sv.sidx := by
  induction xs generalizing s with
  | nil => rfl
  | cons a xs ih => rw [List.foldl_cons, ih, k]

theorem linksEpoch_sidx (old : Nat → Nat → Nat) : (s.linksEpoch old).sv.sidx = s.sv.sidx := by
  unfold State.linksEpoch
  extract_lets
  rw [foldl_sidx _ fun u k => by rw [(seamEpoch_only ..).sv], foldl_sidx _ fun u n => linkEpoch_sidx u old n,
    (setLanes_only s).sv]

theorem setPeriod_sidx (v : Surveyor) (p : Nat) : (v.setPeriod p).sidx = v.sidx := by
  unfold Surveyor.setPeriod
  split
  · rfl
  · simp only [Surveyor.setInc]

theorem clockFree_sidx : s.clockFree.sv.sidx = s.sv.sidx := setPeriod_sidx s.sv freePeriod

theorem reloadDither_sidx : s.reloadDither.sv.sidx = s.sv.sidx := by
  unfold State.reloadDither Surveyor.dither
  extract_lets
  split <;> rfl

theorem rasterEntry_sidx : s.rasterEntry.sv.sidx = s.sv.sidx := by
  unfold State.rasterEntry
  extract_lets u v w
  have hw : w.sv.sidx = s.sv.sidx := (reloadDither_sidx _).trans (clockFree_sidx s)
  split
  · rw [setRaster_sidx, hw]
  · rw [setRaster_sidx, hw]

end
end Sys2Proof.Machine
end

section
namespace Sys2Proof.Machine

set_option Elab.async false

/-! ## From Dormant to Ready (R35, R36) -/

/-- The number of the epoch of an entry: 0 the first time (R36). -/
def State.entryNumber (s : State) : Nat := if !s.modes.zeroDone then 0 else nextEpochNo s.epochNo

/-- What the entry into Ready leaves, as its check will read it (R35, R36). -/
theorem enterReady_spec (s : State) :
    (∃ line, s.enterReady.modes =
      { s.modes with
          mode := .all 1, epoch := .all s.entryNumber, epochSidx := if !s.modes.zeroDone then 0 else s.sv.sidx
          epochZeroTime := if !s.modes.zeroDone then time96 s.sv.time else s.modes.epochZeroTime
          zeroDone := true, entry := none, staged := [], committed := none, swapStaged := false, detachStaged := false
          changeState := csReady, refusalCause := 0, unitMask := 0
          check := some { number := s.entryNumber, sidx := if !s.modes.zeroDone then 0 else s.sv.sidx, line, prevMode := 0
                          prevLive := s.dict.live, set := s.setKeysOf } }) ∧
    s.enterReady.dict.live = s.liveAfter ∧ s.enterReady.power.hbm = .active ∧
    s.enterReady.sv.sidx = if !s.modes.zeroDone then 0 else s.sv.sidx := by
  unfold State.enterReady
  extract_lets first number live prevLive keys old _ _ s1 _ s2 s3 s4 s5 s6 check _ _ _
  have starts : Alters [.sv, .links, .xc, .seams, .shaft, .grizzly, .regs, .fm, .sent] s3 s6 := by
    refine .ite ((notice_only ..).next ?_) ?_ <;>
      exact (drivePins_only _).next <| (linksEpoch_only ..).next <| (rasterEntry_only _).next <|
        .ite ((shaftEpoch_only ..).mono) (.refl _ s3)
  have modes1 : s1.modes = { s.modes with
      zeroDone := true
      epochZeroTime := if !s.modes.zeroDone then time96 s.sv.time else s.modes.epochZeroTime } := by
    rcases Bool.eq_false_or_eq_true s.modes.zeroDone with hz | hz
    · have e : s1 = s := if_neg (by simp [first, hz])
      rw [e]
      simp only [hz]
      exact congrArg (fun b => { s.modes with zeroDone := b }) hz
    · have e : s1.modes = { s.modes with zeroDone := true, epochZeroTime := time96 s.sv.time } :=
        congrArg State.modes (if_pos (by simp [first, hz]))
      rw [e]
      simp only [hz]
      rfl
  have sidx1 : s1.sv.sidx = if !s.modes.zeroDone then 0 else s.sv.sidx := by
    simp only [s1, first]
    split <;> rfl
  have modes6 : s6.modes = { s1.modes with
      entry := none, staged := [], committed := none, swapStaged := false, detachStaged := false
      mode := .all 1, epoch := .all number, epochSidx := s1.sv.sidx } := starts.modes
  rw [modes1, sidx1] at modes6
  have sidx6 : s6.sv.sidx = s1.sv.sidx := by
    have h5 : s5.sv.sidx = s4.sv.sidx := by rw [(drivePins_only _).sv, linksEpoch_sidx, rasterEntry_sidx]
    have h6 : s6.sv = s5.sv := (Alters.ite (notice_only ..) (.refl _ s5)).sv
    have h4 : s4.sv = s3.sv := (Alters.ite (shaftEpoch_only ..) (.refl _ s3)).sv
    rw [h6, h5, h4]
    rfl
  have dict6 : s6.dict.live = live := congrArg Dict.live starts.dict
  have last (u : State) : Alters [.hf, .sent, .grizzly, .regs, .fm] u u.updateLtr.noteEval :=
    (noteEval_only _).next (updateLtr_only u).mono
  clear_value s6
  refine ⟨⟨s6.lineNo, (last _).modes.trans ?_⟩, (congrArg Dict.live (last _).dict).trans dict6,
    congrArg Power.hbm (last _).power, (congrArg Surveyor.sidx (last _).sv).trans (sidx6.trans sidx1)⟩
  refine (congrArg (fun m : Modes =>
    { m with changeState := csReady, refusalCause := 0, unitMask := 0, check := some check }) modes6).trans ?_
  simp only [check, sidx6, sidx1]
  rfl

/-- A Degrade fault is a matter of the Foreman alone. -/
theorem degrade_only_fm (s : State) (code : EvCode) (unit : UnitId) (inst : Nat) (detail : List Byte) :
    Alters [.fm] s (s.fault .degrade code unit inst detail) :=
  raiseFault_only_fm s (f := { cls := .degrade, unit, code, inst, detail }) FaultClass.noConfusion false

/-- An entry that fails is an aborted entry with a fault (R35). -/
theorem entryFails_modes (s : State) (cause : Nat) (code : EvCode) : (s.entryFails cause code).modes =
    { s.modes with
        entry := none, staged := [], committed := none, swapStaged := false, detachStaged := false
        changeState := csAborted, refusalCause := cause, unitMask := 0, abortCount := inc32 s.modes.abortCount } :=
  (degrade_only_fm ..).modes.trans (abortEntry_modes s cause 0)

theorem entryFails_power (s : State) (cause : Nat) (code : EvCode) :
    (s.entryFails cause code).power = { s.power with fabric := false, hbm := .off } :=
  (degrade_only_fm ..).power.trans (abortEntry_power s cause 0)

/-- RCAL_FAULT tells whether the resistor lies outside its range (R428). -/
theorem measureRcal_power (s : State) (ohms : Nat) :
    (s.measureRcal ohms).power = { s.power with rcalBad := !(within 1900 2100 ohms) } := by
  unfold State.measureRcal
  split
  · simp only [*]
    rfl
  · refine (degrade_only_fm ..).power.trans ?_
    simp only [*]
    rfl

theorem measureRcal_modes (s : State) (ohms : Nat) : (s.measureRcal ohms).modes = s.modes := by
  unfold State.measureRcal
  split
  · rfl
  · exact (degrade_only_fm ..).modes

/-- Fabric power is there: PLL, HBM and bring-up begin (R35, R428). -/
theorem fabricPowerUpDone_ok {s : State} {e : Entry} (he : s.modes.entry = some e) (hf : e.fabricDone = false)
    (ohms : Nat) : ∃ t, Completes (.fabricPowerUpDone true ohms) s t ∧ t.power.fabric = true ∧
      t.power.hbm = .training ∧ t.power.rcalBad = !(within 1900 2100 ohms) ∧
      t.modes.entry = some { e with fabricDone := true } ∧ t.modes.mode = s.modes.mode := by
  let u : State := (({ s with power.fabric := true, power.hbm := .training } : State).onEntry fun e =>
    { e with fabricDone := true }).readFlags
  have x : exec (.fabricPowerUpDone true ohms) s =
      ran s ((u.measureRcal ohms).bringUpLinks.dropCondition .fabricPower .foreman) := by
    simp only [exec, execFabricPowerUpDone, he, hf]
    rfl
  have power := (bringUpLinks_only (u.measureRcal ohms)).power.trans (measureRcal_power u ohms)
  have modes := (bringUpLinks_only (u.measureRcal ohms)).modes.trans (measureRcal_modes u ohms)
  refine ⟨_, completes_of_ran x, congrArg Power.fabric power, congrArg Power.hbm power, congrArg Power.rcalBad power,
    (congrArg Modes.entry modes).trans ?_, (congrArg Modes.mode modes).trans rfl⟩
  exact congrArg (Option.map _) he

/-- Fabric power that does not come leaves the device in Dormant (R35). -/
theorem fabricPowerUpDone_failed {s : State} {e : Entry} (he : s.modes.entry = some e) (hf : e.fabricDone = false)
    (ohms : Nat) : ∃ t, Completes (.fabricPowerUpDone false ohms) s t ∧ t.power.fabric = false ∧ t.power.hbm = .off ∧
      t.modes.entry = none ∧ t.modes.changeState = 5 ∧ t.modes.refusalCause = 0x0E ∧ t.modes.mode = s.modes.mode := by
  refine ⟨s.entryFails ceFabric .fabricPower, completes_of_ran (by simp [exec, execFabricPowerUpDone, he, hf]), ?_⟩
  simp [entryFails_modes, entryFails_power, csAborted, ceFabric]

/-- The HBM trains behind the fabric, or the device stays in Dormant (R35). -/
theorem hbmTrainingDone_spec {s : State} {e : Entry} (he : s.modes.entry = some e) (hf : e.fabricDone = true)
    (hh : e.hbmDone = false) :
    (∃ t, Completes (.hbmTrainingDone true) s t ∧ OnlyChanges [.power, .modes, .fm] s t ∧ t.power.hbm = .active ∧
      t.modes.entry = some { e with hbmDone := true }) ∧
    (∃ t, Completes (.hbmTrainingDone false) s t ∧ t.power.fabric = false ∧ t.power.hbm = .off ∧
      t.modes.entry = none ∧ t.modes.changeState = 5 ∧ t.modes.refusalCause = 0x0F) := by
  have set : Alters [.power] s { s with power.hbm := .active } :=
    .set fun p hp => by cases p <;> first | rfl | exact absurd ((Part.mem_bits ..).2 rfl) hp
  constructor
  · refine ⟨(({ s with power.hbm := .active } : State).onEntry fun e => { e with hbmDone := true }).dropCondition .hbmTrain
        .foreman, completes_of_ran (by simp [exec, execHbmTrainingDone, he, hf, hh]), ?_, rfl, congrArg (Option.map _) he⟩
    exact ((dropCondition_only ..).next <| (onEntry_only ..).next set.mono).only
  · refine ⟨s.entryFails ceHbm .hbmTrain, completes_of_ran (by simp [exec, execHbmTrainingDone, he, hf, hh]), ?_⟩
    simp [entryFails_modes, entryFails_power, csAborted, ceHbm]

theorem samplePllNoLock_failed {s : State} {e : Entry} (he : s.modes.entry = some e) (hf : e.fabricDone = true)
    (hl : s.sv.pllLocked = false) :
    ∃ t, Completes .samplePllNoLock s t ∧ t.power.fabric = false ∧ t.power.hbm = .off ∧ t.modes.entry = none ∧
      t.modes.changeState = 5 ∧ t.modes.refusalCause = 0x0E ∧ t.modes.mode = s.modes.mode := by
  refine ⟨s.entryFails ceFabric .fabricPower, completes_of_ran (by simp [exec, execSamplePllNoLock, he, hf, hl]), ?_⟩
  simp [entryFails_modes, entryFails_power, csAborted, ceFabric]

/-- The units are asked for the move to Ready alone (R35). -/
def toReady : Committed := { target := 1, base := 1, at_ := 0 }

/-- With everything up, the units decide (R35, R36). -/
theorem readyEntry_settled {s : State} {e : Entry} (missing : BitVec 11) (he : s.modes.entry = some e)
    (hf : e.fabricDone = true) (hh : e.hbmDone = true) (hp : s.sv.pllLocked = true) (hl : s.linksSettled e = true) :
    exec (.readyEntry missing) s = ran s (if s.notReady toReady missing false == 0 then s.enterReady
      else s.abortEntry ceNotReady (s.notReady toReady missing false)) := by
  simp only [exec, execReadyEntry, he, hf, hh, hp, hl]
  rfl

/-- Before everything is up, nothing happens. -/
theorem readyEntry_waits {s : State} {e : Entry} (missing : BitVec 11) (he : s.modes.entry = some e)
    (h : s.linksSettled e = false ∨ s.sv.pllLocked = false) : exec (.readyEntry missing) s = ran s s := by
  rcases h with h | h <;> simp [exec, execReadyEntry, he, h]

/-- The entry as the check will find it (R35, R36). -/
theorem readyEntry_enters {s : State} {e : Entry} {missing : BitVec 11} (he : s.modes.entry = some e)
    (hf : e.fabricDone = true) (hh : e.hbmDone = true) (hp : s.sv.pllLocked = true) (hl : s.linksSettled e = true)
    (hm : s.notReady toReady missing false = 0) :
    ∃ t, Completes (.readyEntry missing) s t ∧
      OnlyChanges [.power, .modes, .sv, .links, .xc, .seams, .shaft, .grizzly, .hf, .dict, .regs, .twin, .fm, .sent] s t ∧
      t.modes.mode = .all 1 ∧ t.modes.changeState = 3 ∧ t.modes.entry = none ∧ t.modes.staged = [] ∧
      t.modes.zeroDone = true ∧ t.power.hbm = .active ∧ t.dict.live = s.liveAfter ∧
      (∃ x, t.modes.check = some x ∧ x.number = t.epochNo ∧ x.sidx = t.sv.sidx ∧ x.prevMode = 0 ∧
        x.prevLive = s.dict.live) ∧
      (s.modes.zeroDone = false →
        t.modes.epoch = .all 0 ∧ t.sv.sidx = 0 ∧ t.modes.epochZeroTime = time96 s.sv.time) ∧
      (s.modes.zeroDone = true → t.modes.epoch = .all (nextEpochNo s.epochNo) ∧ t.sv.sidx = s.sv.sidx) := by
  have x := readyEntry_settled missing he hf hh hp hl
  rw [if_pos (by simp [hm])] at x
  obtain ⟨⟨line, modes⟩, live, hbm, sidx⟩ := enterReady_spec s
  have number : s.enterReady.epochNo = s.entryNumber := by rw [State.epochNo, modes, Voted.value_all]
  refine ⟨_, completes_of_ran x, (enterReady_only s).only, ?_⟩
  simp only [modes, live, hbm, number, sidx]
  refine ⟨trivial, rfl, trivial, trivial, trivial, trivial, trivial, ⟨_, rfl, rfl, rfl, rfl, rfl⟩, fun hz => ?_, fun hz => ?_⟩
  · simp [hz, State.entryNumber]
  · simp [hz, State.entryNumber]

/-- An entry that a unit refuses is given up (R35). -/
theorem readyEntry_aborts {s : State} {e : Entry} {missing : BitVec 11} (he : s.modes.entry = some e)
    (hf : e.fabricDone = true) (hh : e.hbmDone = true) (hp : s.sv.pllLocked = true) (hl : s.linksSettled e = true)
    (hm : s.notReady toReady missing false ≠ 0) :
    ∃ t, Completes (.readyEntry missing) s t ∧ t.modes.entry = none ∧ t.modes.changeState = 5 ∧
      t.modes.refusalCause = 0x11 ∧ t.modes.unitMask = s.notReady toReady missing false ∧ t.power.fabric = false ∧
      t.modes.mode = s.modes.mode := by
  have x := readyEntry_settled missing he hf hh hp hl
  rw [if_neg (by simpa using hm)] at x
  refine ⟨_, completes_of_ran x, ?_⟩
  simp [abortEntry_modes, abortEntry_power, csAborted, ceNotReady]

/-- Without an entry in progress its commands find nothing to do (R35). -/
theorem entry_commands_idle {s : State} (he : s.modes.entry = none) :
    Completes .readyEntryLinkTimeout s s ∧ Completes .samplePllNoLock s s ∧
      ∀ ok ohms missing, Completes (.fabricPowerUpDone ok ohms) s s ∧ Completes (.hbmTrainingDone ok) s s ∧
        Completes (.readyEntry missing) s s := by
  have same : s.onEntry (fun e => if e.fabricDone then { e with linksTimedOut := true } else e) = s := by
    unfold State.onEntry
    rw [he]
    exact congrArg (fun x => { s with modes.entry := x }) he.symm
  refine ⟨completes_of_ran ?_, completes_of_ran ?_, fun ok ohms missing =>
    ⟨completes_of_ran ?_, completes_of_ran ?_, completes_of_ran ?_⟩⟩
  · exact congrArg (ran s) same
  · simp [exec, execSamplePllNoLock, he]
  · simp [exec, execFabricPowerUpDone, he]
  · simp [exec, execHbmTrainingDone, he]
  · simp [exec, execReadyEntry, he]

/-- The sample PLL locks on powered fabric with its reference; in Ready an idle HBM refreshes itself (R13, R41). -/
theorem pll_and_selfRefresh (s : State) :
    (s.power.fabric = true → s.sv.pllLocked = false → s.sv.refLost = false →
      Completes .samplePllLock s { s with sv.pllLocked := true }) ∧
    (s.power.fabric = false ∨ s.sv.pllLocked = true ∨ s.sv.refLost = true → Completes .samplePllLock s s) ∧
    (s.mode = 1 → s.power.hbm = .active → s.hbmIdle = true →
      Completes .hbmSelfRefreshEntry s { s with power.hbm := .selfRefresh }) ∧
    (s.mode ≠ 1 ∨ s.power.hbm ≠ .active ∨ s.hbmIdle = false → Completes .hbmSelfRefreshEntry s s) := by
  refine ⟨fun hf hp hr => ?_, fun h => ?_, fun hm hh hi => ?_, fun h => ?_⟩ <;> refine completes_of_ran ?_
  · simp [exec, execSamplePllLock, hf, hp, hr]
  · rcases h with h | h | h <;> simp [exec, execSamplePllLock, h]
  · simp [exec, execHbmSelfRefreshEntry, hm, hh, hi]
  · rcases h with h | h | h <;> simp [exec, execHbmSelfRefreshEntry, h]

/-- Settles O49: each command of the entry is one step of it, the last one an epoch with its check. -/
theorem entryIntoReady : Obligations.EntryIntoReady := by
  unfold Obligations.EntryIntoReady
  refine ⟨fun s e he => ⟨fun ohms hf => ⟨fabricPowerUpDone_ok he hf ohms, fabricPowerUpDone_failed he hf ohms⟩,
    fun hf => ⟨?_, fun hh => hbmTrainingDone_spec he hf hh, fun hl => samplePllNoLock_failed he hf hl⟩,
    fun missing hf hh hp hl => ⟨fun hm => readyEntry_enters he hf hh hp hl hm, fun hm => readyEntry_aborts he hf hh hp hl hm⟩,
    fun missing h => completes_of_ran (readyEntry_waits missing he h)⟩, fun s he => entry_commands_idle he, pll_and_selfRefresh⟩
  have timedOut : s.modes.entry.map (fun e => if e.fabricDone then { e with linksTimedOut := true } else e) =
      some { e with linksTimedOut := true } := by simp [he, hf]
  exact completes_of_ran (congrArg (fun x => ran s { s with modes.entry := x }) timedOut)

end Sys2Proof.Machine
end

section
namespace Sys2Proof.Machine

set_option Elab.async false

/-! ## What an epoch leaves of the sample and of the pair (R7, R26) -/

/-- The sample, the role and the takeovers counted stay through an operation. -/
structure EpochKept (s t : State) : Prop where
  sidx : t.sv.sidx = s.sv.sidx
  role : t.twin.role = s.twin.role
  takeovers : t.twin.takeovers = s.twin.takeovers

theorem EpochKept.refl (s : State) : EpochKept s s := ⟨rfl, rfl, rfl⟩

theorem EpochKept.trans {s t u : State} (h : EpochKept s t) (k : EpochKept t u) : EpochKept s u :=
  ⟨k.sidx.trans h.sidx, k.role.trans h.role, k.takeovers.trans h.takeovers⟩

theorem EpochKept.ite {s t u : State} {c : Prop} [Decidable c] (h : EpochKept s t) (k : EpochKept s u) :
    EpochKept s (if c then t else u) := by
  split <;> assumption

theorem EpochKept.fold {α : Type} {f : State → α → State} (k : ∀ u a, EpochKept u (f u a)) (xs : List α) (s : State) :
    EpochKept s (xs.foldl f s) := by
  induction xs generalizing s with
  | nil => exact .refl s
  | cons a xs ih => exact (k s a).trans (ih _)

/-- An operation that reaches neither Surveyor nor pair. -/
theorem Alters.epochKept {l : List Part} {s t : State} (h : Alters l s t) (hs : Part.sv ∉ l := by decide)
    (ht : Part.twin ∉ l := by decide) : EpochKept s t :=
  ⟨by rw [h.sv hs], by rw [h.twin ht], by rw [h.twin ht]⟩

/-- An operation of the Surveyor that moves no sample. -/
theorem Alters.epochKept_of_sidx {l : List Part} {s t : State} (h : Alters l s t) (hs : t.sv.sidx = s.sv.sidx)
    (ht : Part.twin ∉ l := by decide) : EpochKept s t :=
  ⟨hs, by rw [h.twin ht], by rw [h.twin ht]⟩

theorem setPower_only (s : State) (p : Power) : Alters [.power] s { s with power := p } :=
  .set fun q hq => by cases q <;> first | rfl | exact absurd ((Part.mem_bits ..).2 rfl) hq

theorem rxUnpower_sidx (s : State) (l : LinkId) : (s.rxUnpower l).sv.sidx = s.sv.sidx := by
  unfold State.rxUnpower
  extract_lets u v
  have hu : u.sv = s.sv := (loseFed_only ..).sv
  have hv : v.sv.sidx = s.sv.sidx := by
    simp only [v]
    split
    · split
      · rw [trsSourceDown_sidx, hu]
      · rw [hu]
    · rw [hu]
  rw [(onRx_only ..).sv, hv]

theorem unpowerFabric_sidx (s : State) : s.unpowerFabric.sv.sidx = s.sv.sidx := by
  unfold State.unpowerFabric
  extract_lets s1 _ _ _ s2
  have h1 : s1.sv.sidx = s.sv.sidx := foldl_sidx s rxUnpower_sidx allLinks
  clear_value s1
  exact (clockFree_sidx _).trans ((congrArg Surveyor.sidx (discardSegments_only s2).sv).trans h1)

theorem rasterEpoch_sidx (s : State) (old : Nat → Nat → Nat) : (s.rasterEpoch old).sv.sidx = s.sv.sidx := by
  unfold State.rasterEpoch
  extract_lets src was changed u v w
  split
  · split
    · rw [setRaster_sidx, reloadDither_sidx]
      exact clockFree_sidx s
    · exact reloadDither_sidx s
  split
  · rw [setRaster_sidx, reloadDither_sidx]
    rfl
  split
  · rw [setRaster_sidx, reloadDither_sidx, clockFree_sidx]
    rfl
  split
  · rw [reloadDither_sidx, clockFree_sidx]
  · exact reloadDither_sidx s

theorem xcSend_epochKept (s : State) (r : XcRecord) : EpochKept s (s.xcSend r) := by
  refine ⟨by rw [(xcSend_only s r).sv], ?_, ?_⟩ <;> unfold State.xcSend
  · split
    · split <;> rfl
    · rfl
  · split
    · split <;> rfl
    · rfl

theorem transmitCursor_epochKept (s : State) (n : Nat) (f : Formed) : EpochKept s (s.transmitCursor n f) :=
  (transmitCursor_only s n f).epochKept

theorem cursorWrite_epochKept (s : State) (n : Nat) (handoff always : Bool) : EpochKept s (s.cursorWrite n handoff always) := by
  have ring (u : State) (f : Ring → Ring) : EpochKept u (u.onRing n f) := (onRing_only u n f).epochKept
  unfold State.cursorWrite
  extract_lets r f u
  have hu : EpochKept s u := ring s _
  refine .ite (.refl s) ?_
  split
  · exact .ite ((hu.trans (ring u _)).trans (xcSend_epochKept ..)) (hu.trans (transmitCursor_epochKept ..))
  · exact hu.trans (transmitCursor_epochKept ..)

theorem noteUncertain_epochKept (s : State) : EpochKept s s.noteUncertain := ⟨rfl, rfl, rfl⟩

theorem goDormant_epochKept (s : State) : EpochKept s s.goDormant := by
  unfold State.goDormant
  extract_lets u v n w
  have hu : EpochKept s u := .fold (fun x k => .ite (cursorWrite_epochKept ..) (.refl x)) _ _
  have hv : EpochKept u v := .fold (fun x k => (discardStream_only x k).epochKept) _ _
  have hw : EpochKept v w := .ite (.refl v) (notice_only ..).epochKept
  have unpowered : EpochKept w.noteUncertain w.noteUncertain.unpowerFabric :=
    (unpowerFabric_only _).epochKept_of_sidx (unpowerFabric_sidx _)
  exact ((((hu.trans hv).trans hw).trans (noteUncertain_epochKept w)).trans unpowered).trans (setPpsOut_only ..).epochKept

theorem startNew_epochKept (s before : State) (w : Switch) (prev number : Nat) (idle : Bool) :
    EpochKept s (s.startNew before w prev number idle) := by
  unfold State.startNew
  extract_lets s1 s2 s3 s4 s5 un s6 s7 _ s8 s9
  have h1 : EpochKept s s1 := (rasterEpoch_only ..).epochKept_of_sidx (rasterEpoch_sidx ..)
  have h2 : EpochKept s1 s2 := .trans (openSeams_only _).epochKept (announce_only ..).epochKept
  have h3 : EpochKept s2 s3 := .ite (takeUse_only s2).epochKept (.refl s2)
  have h4 : EpochKept s3 s4 :=
    .trans (armGrizzly_only ..).epochKept ((linksEpoch_only ..).epochKept_of_sidx (linksEpoch_sidx ..))
  have h5 : EpochKept s4 s5 := .fold (fun x k => (lineEpoch_only x _ k).epochKept) _ _
  have h6 : EpochKept s5 s6 := .fold (fun x k => (assayOpen_only ..).epochKept) _ _
  have h7 : EpochKept s6 s7 := .ite (goDormant_epochKept s6) (.ite (.refl s6) (unfeed_only s6).epochKept)
  have h8 : EpochKept s7 s8 := .ite (setPower_only ..).epochKept (.refl s7)
  have h9 : EpochKept s8 s9 := .ite (.refl s8) (calStop_only s8).epochKept
  exact (((((((((h1.trans h2).trans h3).trans h4).trans h5).trans h6).trans h7).trans h8).trans h9).trans
    (drivePins_only s9).epochKept).trans (.trans (updateLtr_only _).epochKept (noteEval_only _).epochKept)

/-- The new set is in force, and its epoch is numbered and dated (R26, R27). -/
theorem loadNew_spec (s : State) (w : Switch) (was number : Nat) (restart arms : Bool) (choice closed : Option Nat)
    (dead : Option Ingot) :
    (s.loadNew w was number restart arms choice closed dead).modes =
        { s.modes with mode := .all w.mode, epoch := .all number, epochSidx := s.sv.sidx } ∧
      (s.loadNew w was number restart arms choice closed dead).dict.live = w.live ∧
      EpochKept s (s.loadNew w was number restart arms choice closed dead) := by
  unfold State.loadNew
  extract_lets u v
  have h : Alters [.seams, .closing, .streams, .shaft, .grizzly, .smelter, .regs, .fm] (s.loadSet w number)
      (if arms then v.armNext choice closed dead else v) := by
    have hv : Alters [.streams, .shaft] (s.loadSet w number) v := (shaftEpoch_only ..).next (armStreams_only ..).mono
    exact .ite ((armNext_only ..).next hv.mono) hv.mono
  exact ⟨h.modes, congrArg Dict.live h.dict, .trans (t := s.loadSet w number) ⟨rfl, rfl, rfl⟩ h.epochKept⟩

/-- What an epoch sample makes of modes, live values and pair (R26, R27). -/
theorem takeSwitch_spec (s : State) (w : Switch) :
    (s.takeSwitch w).modes =
        { s.modes with mode := .all w.mode, epoch := .all (nextEpochNo s.epochNo), epochSidx := s.sv.sidx } ∧
      (s.takeSwitch w).dict.live = w.live ∧ EpochKept s (s.takeSwitch w) := by
  unfold State.takeSwitch
  extract_lets before was prev number idle restart layout wins closed s1 arms choice dead s2 s3
  have cut : Alters [.seams, .closing, .streams, .shaft, .grizzly, .smelter, .slots, .regs, .fm, .free] s s2 :=
    (leaveOld_only ..).next (cutAll_only ..).mono
  obtain ⟨modes, live, kept⟩ := loadNew_spec s2 w was number restart arms choice closed dead
  have start := startNew_only s3 before w prev number idle
  refine ⟨start.modes.trans (modes.trans ?_), (congrArg Dict.live start.dict).trans live,
    (cut.epochKept.trans kept).trans (startNew_epochKept ..)⟩
  rw [cut.modes, cut.sv]

end Sys2Proof.Machine
end

section
namespace Sys2Proof.Machine

set_option Elab.async false

/-! ## Scheduled epochs (R26, R28) -/

/-- The values that a staged set leads to are those of the set and of the configuration in force. -/
theorem liveAfter_congr {s t : State} (hm : t.modes = s.modes) (hd : t.dict = s.dict) : t.liveAfter = s.liveAfter := by
  unfold State.liveAfter
  rw [hm, hd]

theorem mode_congr {s t : State} (hp : t.power.recovery = s.power.recovery) (hm : t.modes = s.modes) : t.mode = s.mode := by
  unfold State.mode
  rw [hp, hm]

/-- What an epoch ends of a change: the set, the commit, swap and detach (R21). -/
theorem dropChange_modes (s : State) : s.dropChange.modes =
    { s.modes with staged := [], committed := none, swapStaged := false, detachStaged := false } := rfl

theorem dropChange_dict (s : State) : s.dropChange.dict = s.dict := rfl

/-- A change that takes effect: mode, number and values, then APPLIED in Dormant or the check elsewhere (R26, R28). -/
theorem scheduled_spec (s : State) (c : Committed) :
    (s.scheduled c).modes.mode = .all c.target ∧ (s.scheduled c).modes.epoch = .all (nextEpochNo s.epochNo) ∧
      (s.scheduled c).modes.epochSidx = s.sv.sidx ∧ (s.scheduled c).modes.committed = none ∧
      (s.scheduled c).modes.staged = [] ∧ (s.scheduled c).dict.live = s.liveAfter ∧
      (c.target = 0 → (s.scheduled c).modes.changeState = 4) ∧
      (c.target ≠ 0 → ∃ e, (s.scheduled c).modes.check = some e ∧ e.number = nextEpochNo s.epochNo ∧
        e.sidx = s.sv.sidx ∧ e.prevMode = s.mode ∧ e.prevLive = s.dict.live) := by
  unfold State.scheduled
  extract_lets e hold detach s1 w _ s2
  have before := rolesBefore_only s
  have modes2 : s2.modes = if c.target == 0 then s.modes else { s.modes with check := some e } := by
    simp only [s2]
    split
    · exact before.modes
    · exact congrArg (fun m : Modes => { m with check := some e }) before.modes
  have number2 : s2.epochNo = s.epochNo := by
    unfold State.epochNo
    rw [modes2]
    split <;> rfl
  have sv2 : s2.sv = s.sv := (apply_ite State.sv ..).trans (by rw [ite_self]; exact before.sv)
  obtain ⟨modes, live, -⟩ := takeSwitch_spec s2 w
  have after := rolesAfter_only (s2.takeSwitch w).dropChange c detach
  have values : w.live = s.liveAfter := liveAfter_congr before.modes before.dict
  have held (u : State) : (hold u).modes = (if c.target == 0 then { u.modes with changeState := 4 }
      else { u.modes with check := some { e with line := u.lineNo } }) ∧ (hold u).dict = u.dict := by
    simp only [hold]
    split <;> exact ⟨rfl, rfl⟩
  have modesAfter : ((s2.takeSwitch w).dropChange.rolesAfter c detach).modes =
      { s2.modes with
          mode := .all c.target, epoch := .all (nextEpochNo s.epochNo), epochSidx := s.sv.sidx, staged := []
          committed := none, swapStaged := false, detachStaged := false } := by
    rw [after.modes, dropChange_modes, modes, number2, sv2]
  have liveAfter : (hold ((s2.takeSwitch w).dropChange.rolesAfter c detach)).dict.live = s.liveAfter :=
    (congrArg Dict.live ((held _).2.trans (after.dict.trans (dropChange_dict _)))).trans (live.trans values)
  have heldModes := (held ((s2.takeSwitch w).dropChange.rolesAfter c detach)).1
  generalize hold ((s2.takeSwitch w).dropChange.rolesAfter c detach) = t at heldModes liveAfter ⊢
  rw [modesAfter, modes2] at heldModes
  by_cases h0 : c.target = 0
  · rw [if_pos (by simp [h0])] at heldModes
    simp [heldModes, liveAfter, h0]
  · rw [if_neg (by simp [h0])] at heldModes
    simp only [heldModes, liveAfter]
    exact ⟨trivial, trivial, trivial, trivial, trivial, trivial, fun h => absurd h h0, fun _ => ⟨_, rfl, rfl, rfl, rfl, rfl⟩⟩

theorem epochInstant_takes {s : State} {c : Committed} (hc : s.modes.committed = some c) (hf : s.modes.forced = none)
    (hs : s.modes.changeState = 3) (hr : s.reached c.at_ = true) (hm : s.mirrors = false ∨ s.twin.go = some true) :
    s.epochInstant = s.scheduled c := by
  have k : (s.mirrors && s.twin.go != some true) = false := by rcases hm with h | h <;> simp [h]
  simp [State.epochInstant, hc, hf, hs, hr, k, csReady]

/-- A module that mirrors does not change without its Active (R24, R366). -/
theorem epochInstant_diverges {s : State} {c : Committed} (hc : s.modes.committed = some c) (hf : s.modes.forced = none)
    (hs : s.modes.changeState = 3) (hr : s.reached c.at_ = true) (hm : s.mirrors = true) (hg : s.twin.go ≠ some true) :
    s.epochInstant = (s.abortChange ceNotReady 0x200).diverge dcEpoch := by
  simp [State.epochInstant, hc, hf, hs, hr, hm, hg, csReady]

theorem epochInstant_waits {s : State} {c : Committed} (hc : s.modes.committed = some c)
    (h : s.modes.forced ≠ none ∨ s.modes.changeState ≠ 3 ∨ s.reached c.at_ = false) : s.epochInstant = s := by
  unfold State.epochInstant
  simp only [hc]
  refine if_neg ?_
  rcases h with h | h | h <;> simp [h, csReady]

/-! ## The check (R28) -/

theorem checkPasses_modes (s : State) :
    s.checkPasses.modes = { s.modes with changeState := 4, check := none } := (writeHeaders_only _).modes

theorem checkFails_modes (s : State) (e : AfterEpoch) (mask : BitVec 11) : (s.checkFails e mask).modes =
    { s.modes with
        unitMask := mask, refusalCause := 0x12, check := none, rollback := some { e with line := s.lineNo }
        splits := (e.sidx, none) :: s.modes.splits } :=
  (writeHeaders_only _).modes.trans (splitWindows_only _).modes

/-- What the check tells the Shadow. -/
def State.tellCheck (s : State) (r : XcRecord) : State := if s.needsShadow then s.xcSend r else s

theorem tellCheck_only (s : State) (r : XcRecord) : Alters [.regs, .twin, .sent] s (s.tellCheck r) := tellShadow_only s r

theorem tellCheck_sent {s : State} (h : s.needsShadow = true) (r : XcRecord) : Sent.xcRecord r ∈ (s.tellCheck r).sent := by
  unfold State.tellCheck
  rw [if_pos h]
  exact xcSend_sent (Bool.and_eq_true_iff.1 h).2 r

/-- On a module that decides, the check ends as its units and the Shadow's report say (R28, R366). -/
theorem checkEnds_decided {s : State} {e : AfterEpoch} {failed : BitVec 11} (he : s.modes.check = some e)
    (hl : s.lineNo ≠ e.line) (hs : s.isShadow = false) (ha : s.needsShadow = false ∨ s.twin.shadowApplied = some true) :
    s.checkEnds failed = if failed == 0 then (s.tellCheck .epochGo).checkPasses
      else (s.tellCheck .epochAbort).checkFails e failed := by
  have shadow : (s.role == roleShadow && s.partnered) = false := by
    rw [show (s.role == roleShadow) = false from hs, Bool.false_and]
  have no : (s.needsShadow && s.twin.shadowApplied == some false) = false := by rcases ha with h | h <;> simp [h]
  have missing : (s.needsShadow && s.twin.shadowApplied.isNone) = false := by rcases ha with h | h <;> simp [h]
  unfold State.checkEnds
  simp only [he]
  rw [if_neg (by simpa using hl), if_neg (by simp [shadow])]
  simp only [no, missing, State.tellCheck]
  by_cases h0 : failed = 0#11
  · simp [h0]
  · simp [h0]

theorem checkEnds_waits {s : State} {e : AfterEpoch} (failed : BitVec 11) (he : s.modes.check = some e)
    (hl : s.lineNo = e.line) : s.checkEnds failed = s := by
  unfold State.checkEnds
  simp only [he]
  exact if_pos (by simp [hl])

theorem checkEnds_passes {s : State} {e : AfterEpoch} (he : s.modes.check = some e)
    (hl : s.lineNo ≠ e.line) (hs : s.isShadow = false) (ha : s.needsShadow = false ∨ s.twin.shadowApplied = some true) :
    (s.checkEnds 0).modes = { s.modes with changeState := 4, check := none } ∧
      (s.needsShadow = true → Sent.xcRecord .epochGo ∈ (s.checkEnds 0).sent) := by
  rw [checkEnds_decided he hl hs ha, if_pos (beq_self_eq_true _)]
  constructor
  · rw [checkPasses_modes, (tellCheck_only s _).modes]
  · intro hn
    rw [(checkPasses_only _).sent]
    exact tellCheck_sent hn _

theorem checkEnds_fails {s : State} {e : AfterEpoch} {failed : BitVec 11} (he : s.modes.check = some e)
    (hl : s.lineNo ≠ e.line) (hs : s.isShadow = false) (ha : s.needsShadow = false ∨ s.twin.shadowApplied = some true)
    (hf : failed ≠ 0) :
    (s.checkEnds failed).modes = { s.modes with
        unitMask := failed, refusalCause := 0x12, check := none, rollback := some { e with line := s.lineNo }
        splits := (e.sidx, none) :: s.modes.splits } ∧
      (s.needsShadow = true → Sent.xcRecord .epochAbort ∈ (s.checkEnds failed).sent) := by
  have line : (s.tellCheck .epochAbort).lineNo = s.lineNo := by
    unfold State.lineNo
    rw [(tellCheck_only s _).sv]
  rw [checkEnds_decided he hl hs ha, if_neg (by simpa using hf)]
  constructor
  · rw [checkFails_modes, line, (tellCheck_only s _).modes]
  · intro hn
    rw [(checkFails_only ..).sent]
    exact tellCheck_sent hn _

/-! ## The rollback (R28, R29) -/

/-- Of the modes, at most a forced epoch is decided. -/
def ForcedOnly (s t : State) : Prop := ∃ f, t.modes = { s.modes with forced := f }

theorem ForcedOnly.of_eq {s t : State} (h : t.modes = s.modes) : ForcedOnly s t := ⟨s.modes.forced, h⟩

theorem ForcedOnly.trans {s t u : State} (h : ForcedOnly s t) (k : ForcedOnly t u) : ForcedOnly s u := by
  obtain ⟨_, h⟩ := h
  obtain ⟨f, k⟩ := k
  exact ⟨f, by rw [k, h]⟩

theorem ForcedOnly.fold {α : Type} {f : State → α → State} (k : ∀ u a, ForcedOnly u (f u a)) (xs : List α) (s : State) :
    ForcedOnly s (xs.foldl f s) := by
  induction xs generalizing s with
  | nil => exact .of_eq rfl
  | cons a xs ih => exact (k s a).trans (ih _)

theorem leaveMode_forcedOnly (s : State) (by_ : ForcedBy) : ForcedOnly s (s.leaveMode by_) := by
  unfold State.leaveMode
  split
  · exact ⟨_, rfl⟩
  · exact .of_eq rfl

theorem isolateBlock_forcedOnly (s : State) (u : UnitId) (inst : Nat) : ForcedOnly s (s.isolateBlock u inst) := by
  have whole (m : Foreman) : ForcedOnly s (({ s with fm := m } : State).leaveMode .fault) := leaveMode_forcedOnly _ .fault
  unfold State.isolateBlock
  split
  · split
    · exact .of_eq (rxDisable_only ..).modes
    · exact whole _
  · split
    · exact .of_eq (rxDisable_only ..).modes
    · exact whole _
  · split
    · exact .of_eq rfl
    · exact whole _
  · exact whole _

/-- A fault decides at most a forced epoch. -/
theorem raiseFault_forcedOnly (s : State) (f : FaultReq) (b : Bool) : ForcedOnly s (s.raiseFault f b) := by
  by_cases h : f.cls = .isolate
  · unfold State.raiseFault
    extract_lets u g
    have hu : u.modes = s.modes := (noteCondition_only s f).modes
    split
    · exact .of_eq ((tripWatchdog_only ..).modes.trans hu)
    split
    · split
      · exact .of_eq ((enqueueFault_only ..).modes.trans hu)
      · exact .of_eq hu
    split
    · exact ((ForcedOnly.of_eq hu).trans (isolateBlock_forcedOnly ..)).trans (.of_eq (enqueueFault_only ..).modes)
    split
    · exact .of_eq ((requeueFront_only ..).modes.trans hu)
    · exact .of_eq ((enqueueFault_only ..).modes.trans hu)
  · exact .of_eq (raiseFault_only_fm s h b).modes

/-- The values of a failed set return, under a new number (R28). -/
theorem rollBack_spec (s : State) (e : AfterEpoch) (failed : BitVec 11) :
    (s.rollBack e failed).modes.mode = .all e.prevMode ∧ (s.rollBack e failed).modes.epoch = .all (nextEpochNo s.epochNo) ∧
      (s.rollBack e failed).dict.live = s.rolledBack e ∧ (s.rollBack e failed).modes.changeState = 6 ∧
      (s.rollBack e failed).modes.rollbackCount = inc32 s.modes.rollbackCount ∧
      (s.rollBack e failed).modes.rollback = none := by
  unfold State.rollBack
  extract_lets s1 w _ s2 _ s3
  have roles : Alters [.power, .streams, .grizzly, .hf, .regs, .twin, .sent] s s1 :=
    .ite ((becomeShadow_only _).next (handDelivery_only s).mono) (.ite (swapDelivery_only s).mono (.refl _ s))
  have values : w.live = s.rolledBack e := by
    show s1.rolledBack e = s.rolledBack e
    unfold State.rolledBack
    rw [roles.dict]
  clear_value s1
  obtain ⟨u, splits, hu, h2⟩ : ∃ (u : State) (splits : List (Nat × Option Nat)),
      u.modes = { s.modes with rollback := none, splits } ∧ s2 = u.takeSwitch w :=
    ⟨({ s1 with modes.rollback := none } : State).endSplit, _, congrArg (fun m : Modes => { m with
      rollback := none, splits := m.splits.map fun x : Nat × Option Nat => if x.2.isNone then (x.1, some s1.sv.sidx) else x }) roles.modes,
      rfl⟩
  have number : u.epochNo = s.epochNo := by
    unfold State.epochNo
    rw [hu]
  obtain ⟨modes, live, -⟩ := takeSwitch_spec u w
  rw [← h2, number, hu] at modes
  rw [← h2, values] at live
  clear_value s2
  have modes3 := congrArg (fun m : Modes =>
    { m with changeState := csRolledBack, rollbackCount := inc32 m.rollbackCount }) modes
  change s3.modes = _ at modes3
  have live3 : s3.dict.live = s.rolledBack e := live
  clear_value s3
  have faults := ForcedOnly.fold (fun u a => raiseFault_forcedOnly u
    { cls := .isolate, unit := a, code := .rollbackFailed, inst := 0xFF, detail := [] } false) (unitsOf failed) s3
  split
  · exact ⟨congrArg Modes.mode modes3, congrArg Modes.epoch modes3, live3, congrArg Modes.changeState modes3,
      congrArg Modes.rollbackCount modes3, congrArg Modes.rollback modes3⟩
  · obtain ⟨f, forced⟩ := faults.trans (leaveMode_forcedOnly _ .fault)
    have dict : Alters [.modes, .sv, .links, .xc, .seams, .grizzly, .regs, .fm] s3
        (((unitsOf failed).foldl (fun s u => s.fault .isolate .rollbackFailed u) s3).leaveMode .fault) :=
      (leaveMode_only ..).next (.fold (.refl _ s3) fun u a => fault_only ..)
    have modes4 := forced.trans (congrArg (fun m : Modes => { m with forced := f }) modes3)
    exact ⟨congrArg Modes.mode modes4, congrArg Modes.epoch modes4, (congrArg Dict.live dict.dict).trans live3,
      congrArg Modes.changeState modes4, congrArg Modes.rollbackCount modes4, congrArg Modes.rollback modes4⟩

end Sys2Proof.Machine
end

section
namespace Sys2Proof.Machine

set_option Elab.async false

/-! ## Forced epochs (R30, R373) -/

/-- The modes once a forced epoch is over whatever was in progress (R30). -/
theorem forceOver_modes (s : State) :
    s.forceOver.modes.check = none ∧ s.forceOver.modes.rollback = none ∧ s.forceOver.modes.epoch = s.modes.epoch ∧
      (s.modes.changeState = 2 ∨ s.modes.changeState = 3 →
        s.forceOver.modes.changeState = 5 ∧ s.forceOver.modes.refusalCause = 0x13 ∧ s.forceOver.modes.staged = []) := by
  unfold State.forceOver
  extract_lets u
  have hu : u.modes = if s.modes.changeState == csCommitted || s.modes.changeState == csReady then
      (s.abortChange ceForced 0).modes else s.modes := apply_ite State.modes ..
  rw [abortChange_modes] at hu
  refine ⟨rfl, rfl, (congrArg Modes.epoch hu).trans ?_, fun h => ?_⟩
  · split <;> rfl
  · have k : (s.modes.changeState == csCommitted || s.modes.changeState == csReady) = true := by
      rcases h with h | h <;> simp [h, csCommitted, csReady]
    rw [if_pos k] at hu
    exact ⟨congrArg Modes.changeState hu, congrArg Modes.refusalCause hu, congrArg Modes.staged hu⟩

/-- A change that ends leaves the pair as it is. -/
theorem abortChange_twin (s : State) (cause : Nat) (mask : BitVec 11) : (s.abortChange cause mask).twin =
    { s.twin with go := none, shadowReady := none, shadowApplied := none } := (event_only ..).twin

theorem forceOver_twin (s : State) : s.forceOver.twin.role = s.twin.role ∧ s.forceOver.twin.takeovers = s.twin.takeovers ∧
    s.forceOver.twin.pairState = s.twin.pairState := by
  have h : s.forceOver.twin = if s.modes.changeState == csCommitted || s.modes.changeState == csReady then
      (s.abortChange ceForced 0).twin else s.twin := apply_ite State.twin ..
  rw [h, abortChange_twin]
  split <;> exact ⟨rfl, rfl, rfl⟩

theorem forceOver_paired (s : State) : s.forceOver.paired = s.paired := by
  obtain ⟨role, -, state⟩ := forceOver_twin s
  unfold State.paired State.running State.role
  rw [role, state]

theorem endPair_role (s : State) (r : Nat) : (s.endPair r).twin.role = .all r := rfl

theorem endPair_takeovers (s : State) (r : Nat) : (s.endPair r).twin.takeovers = s.twin.takeovers := by
  have h : (s.endPair r).twin.takeovers = (if r = roleUnpaired then s.dropCopies else s).twin.takeovers := rfl
  rw [h]
  split
  · rw [(dropCopies_only s).twin]
  · rfl

theorem resumeDelivery_takeovers (s : State) (t : TwinCopies) (exposed : Bool) :
    (s.resumeDelivery t exposed).twin.takeovers = s.twin.takeovers := by
  unfold State.resumeDelivery
  extract_lets u v
  have hv : v.twin = u.twin := (Alters.fold (.refl [.streams, .hf] u) fun x q => resumeStream_only x t q).twin
  rw [(takeoverDue_only v exposed).twin, hv]
  rfl

/-- A fence let go is down. -/
theorem setFence_false (s : State) : (s.setFence false).twin = { s.twin with fenceOut := false } := by
  unfold State.setFence
  split
  · next h => exact congrArg (fun b => { s.twin with fenceOut := b }) (by simpa using h)
  · rfl

/-- A module that takes over resumes the delivery of its partner (R373). -/
def State.resumeTaken (s : State) (clean : Bool) : State :=
  s.loseResults.dropPulses.resumeDelivery
    (if s.loseResults.dropPulses.twin.pairState == psExposed then .all else if clean then .none else .written)
    (s.loseResults.dropPulses.twin.pairState == psExposed)

/-- A takeover is counted, dated and told (R373). -/
def State.countTakeover (s : State) (by_ : Nat) : State :=
  (({ s with twin.takeovers := inc32 s.twin.takeovers, twin.lastTakeover := s.sv.sidx } : State).event
    .takeover .crosscut 0xFF (leBytes 1 by_)).takeoverRaster

theorem takeOver_eq (s : State) (w : Switch) (clean : Bool) : s.takeOver w clean =
    (((s.resumeTaken clean).endPair roleActive).takeSwitch w).countTakeover w.by_ := by
  unfold State.takeOver
  extract_lets s1 exposed s2 s3 _ s4
  have h : s3 = ((s.resumeTaken clean).endPair roleActive).takeSwitch w := rfl
  rw [← h]
  clear_value s3
  rfl

theorem resumeTaken_only (s : State) (clean : Bool) :
    Alters [.closing, .streams, .shaft, .grizzly, .slots, .hf, .twin] s (s.resumeTaken clean) :=
  (resumeDelivery_only ..).next <| (dropPulses_only _).next (loseResults_only s).mono

theorem resumeTaken_takeovers (s : State) (clean : Bool) : (s.resumeTaken clean).twin.takeovers = s.twin.takeovers := by
  unfold State.resumeTaken
  rw [resumeDelivery_takeovers, (dropPulses_only _).twin, (loseResults_only s).twin]

theorem countTakeover_spec (s : State) (by_ : Nat) : (s.countTakeover by_).modes = s.modes ∧
    (s.countTakeover by_).dict = s.dict ∧
    (s.countTakeover by_).twin = { s.twin with takeovers := inc32 s.twin.takeovers, lastTakeover := s.sv.sidx } := by
  unfold State.countTakeover
  rw [(takeoverRaster_only _).modes, (takeoverRaster_only _).dict, (takeoverRaster_only _).twin, (event_only ..).modes,
    (event_only ..).dict, (event_only ..).twin]
  exact ⟨rfl, rfl, rfl⟩

/-- A takeover is the epoch of the state taken up, and it is counted and dated (R373). -/
theorem takeOver_spec (s : State) (w : Switch) (clean : Bool) :
    (s.takeOver w clean).modes =
        { s.modes with mode := .all w.mode, epoch := .all (nextEpochNo s.epochNo), epochSidx := s.sv.sidx } ∧
      (s.takeOver w clean).dict.live = w.live ∧ (s.takeOver w clean).role = 1 ∧
      (s.takeOver w clean).twin.takeovers = inc32 s.twin.takeovers ∧
      (s.takeOver w clean).twin.lastTakeover = s.sv.sidx := by
  have before : Alters [.closing, .streams, .shaft, .grizzly, .slots, .hf, .twin] s ((s.resumeTaken clean).endPair roleActive) :=
    (endPair_only ..).next (resumeTaken_only s clean).mono
  have role := endPair_role (s.resumeTaken clean) roleActive
  have taken := (endPair_takeovers (s.resumeTaken clean) roleActive).trans (resumeTaken_takeovers s clean)
  rw [takeOver_eq]
  generalize (s.resumeTaken clean).endPair roleActive = u at before role taken
  have number : u.epochNo = s.epochNo := congrArg (fun m : Modes => m.epoch.value) before.modes
  obtain ⟨modes, live, kept⟩ := takeSwitch_spec u w
  rw [number, before.modes, before.sv] at modes
  have sidx := kept.sidx.trans (congrArg Surveyor.sidx before.sv)
  have roleAfter := kept.role.trans role
  have takenAfter := kept.takeovers.trans taken
  generalize u.takeSwitch w = v at modes live sidx roleAfter takenAfter
  obtain ⟨modes', dict', twin'⟩ := countTakeover_spec v w.by_
  refine ⟨modes'.trans modes, (congrArg Dict.live dict').trans live, ?_, ?_, ?_⟩
  · exact (congrArg (fun t : Twin => t.role.value) twin').trans ((congrArg Voted.value roleAfter).trans (Voted.value_all _))
  · exact (congrArg Twin.takeovers twin').trans (congrArg inc32 takenAfter)
  · exact (congrArg Twin.lastTakeover twin').trans sidx

theorem forcedEpoch_takeover (s : State) (target : Nat) : s.forcedEpoch .takeover target = s.forceOver.takeOver
    { aux := 2, by_ := forcedCode .takeover, mode := target, base := target, live := s.forceOver.dict.live, set := [] }
    s.forceOver.handoffSeen := by
  unfold State.forcedEpoch
  exact if_pos rfl

/-- An Active that does not take over hands its delivery to its partner (R375). -/
def State.handsOver (s : State) : State :=
  if s.paired && s.role == roleActive then ({ s with twin.handoff := true } : State).handDelivery else s

/-- The pair ends with a forced epoch, and an Active that hands over says so in its beats (R372, R375). -/
def State.leavesPair (s : State) (pairs hands : Bool) : State :=
  if hands then { (if pairs then (s.endPair roleUnpaired).setFence false else s) with twin.health := 1 }
  else if pairs then (s.endPair roleUnpaired).setFence false else s

theorem forcedEpoch_other (s : State) {by_ : ForcedBy} (hb : by_ ≠ .takeover) (target : Nat) :
    s.forcedEpoch by_ target = (s.forceOver.handsOver.takeSwitch
      { aux := 2, by_ := forcedCode by_, mode := target, base := target, live := s.forceOver.dict.live, set := [] }).leavesPair
        (s.forceOver.paired || s.forceOver.mirrors) (s.forceOver.paired && s.forceOver.role == roleActive) := by
  unfold State.forcedEpoch
  generalize s.forceOver = v
  exact if_neg (by simpa using hb)

theorem handsOver_only (s : State) : Alters [.power, .streams, .grizzly, .hf, .regs, .twin, .sent] s s.handsOver :=
  .ite ((handDelivery_only _).next (.set fun p hp => by
    cases p <;> first | rfl | exact absurd ((Part.mem_bits ..).2 rfl) hp)) (.refl _ s)

theorem setHealth_only (s : State) (n : Nat) : Alters [.twin] s { s with twin.health := n } := .set fun p hp => by
  cases p <;> first | rfl | exact absurd ((Part.mem_bits ..).2 rfl) hp

theorem leavesPair_only (s : State) (pairs hands : Bool) :
    Alters [.closing, .streams, .grizzly, .twin, .sent] s (s.leavesPair pairs hands) := by
  have h : Alters [.closing, .streams, .grizzly, .twin, .sent] s
      (if pairs then (s.endPair roleUnpaired).setFence false else s) :=
    .ite ((setFence_only ..).next (endPair_only ..).mono) (.refl _ s)
  exact .ite ((setHealth_only ..).next h) h

theorem leavesPair_alone (s : State) (hands : Bool) : (s.leavesPair true hands).twin.role = .all roleUnpaired ∧
    (s.leavesPair true hands).twin.fenceOut = false := by
  have role := endPair_role s roleUnpaired
  unfold State.leavesPair
  rw [if_pos rfl]
  generalize s.endPair roleUnpaired = u at role ⊢
  have twin := setFence_false u
  generalize u.setFence false = v at twin ⊢
  have left : v.twin.role = .all roleUnpaired ∧ v.twin.fenceOut = false := by
    rw [twin]
    exact ⟨role, rfl⟩
  split
  · exact left
  · exact left

/-- A forced epoch takes the mode that was decided and leaves the live values; a module that takes over is the Active, and
any other leaves its pair (R30, R372, R373). -/
theorem forcedEpoch_spec (s : State) (by_ : ForcedBy) (target : Nat) :
    (s.forcedEpoch by_ target).modes = { s.forceOver.modes with
        mode := .all target, epoch := .all (nextEpochNo s.epochNo), epochSidx := s.sv.sidx } ∧
      (s.forcedEpoch by_ target).dict.live = s.dict.live ∧
      (by_ = .takeover → (s.forcedEpoch by_ target).role = 1 ∧
        (s.forcedEpoch by_ target).twin.takeovers = inc32 s.twin.takeovers ∧
        (s.forcedEpoch by_ target).twin.lastTakeover = s.sv.sidx) ∧
      (by_ ≠ .takeover → s.paired = true →
        (s.forcedEpoch by_ target).role = 0 ∧ (s.forcedEpoch by_ target).twin.fenceOut = false) := by
  have ended := forceOver_only s
  have number : s.forceOver.epochNo = s.epochNo := congrArg Voted.value (forceOver_modes s).2.2.1
  have paired := forceOver_paired s
  have counted := (forceOver_twin s).2.1
  by_cases hb : by_ = .takeover
  · subst hb
    rw [forcedEpoch_takeover]
    generalize s.forceOver = v at ended number paired counted ⊢
    obtain ⟨modes, live, role, taken, last⟩ := takeOver_spec v
      { aux := 2, by_ := forcedCode .takeover, mode := target, base := target, live := v.dict.live, set := [] } v.handoffSeen
    rw [number, ended.sv] at modes
    rw [counted] at taken
    exact ⟨modes, live.trans (congrArg Dict.live ended.dict),
      fun _ => ⟨role, taken, last.trans (congrArg Surveyor.sidx ended.sv)⟩,
      fun h => absurd rfl h⟩
  · rw [forcedEpoch_other s hb]
    generalize s.forceOver = v at ended number paired ⊢
    have hands := handsOver_only v
    have handed : v.handsOver.epochNo = s.epochNo := (congrArg (fun m : Modes => m.epoch.value) hands.modes).trans number
    obtain ⟨modes, live, -⟩ := takeSwitch_spec v.handsOver
      { aux := 2, by_ := forcedCode by_, mode := target, base := target, live := v.dict.live, set := [] }
    rw [handed, hands.sv, ended.sv, hands.modes] at modes
    generalize v.handsOver.takeSwitch _ = u at modes live ⊢
    have leaves := leavesPair_only u (v.paired || v.mirrors) (v.paired && v.role == roleActive)
    refine ⟨leaves.modes.trans modes, ((congrArg Dict.live leaves.dict).trans live).trans (congrArg Dict.live ended.dict),
      fun h => absurd h hb, fun _ hp => ?_⟩
    rw [paired, hp, Bool.true_or]
    obtain ⟨role, fence⟩ := leavesPair_alone u (true && v.role == roleActive)
    exact ⟨(congrArg Voted.value role).trans (Voted.value_all _), fence⟩

end Sys2Proof.Machine
end

section
namespace Sys2Proof.Machine

set_option Elab.async false

/-! ## Epochs (R26 to R30) -/

theorem epochInstant_idle {s : State} (h : s.modes.committed = none) : s.epochInstant = s := by
  unfold State.epochInstant
  rw [h]

theorem checkEnds_idle {s : State} (h : s.modes.check = none) (failed : BitVec 11) : s.checkEnds failed = s := by
  unfold State.checkEnds
  rw [h]

theorem completes_epochInstant (s : State) : Completes .epochInstant s s.epochInstant := rfl

theorem completes_checkEnd (s : State) (failed : BitVec 11) : Completes (.applyCheckEnd failed) s (s.checkEnds failed) := rfl

theorem completes_rollback {s : State} {e : AfterEpoch} (he : s.modes.rollback = some e) (failed : BitVec 11)
    (hf : s.sv.frameStart = true) (hl : 2 ≤ s.linesSince e.line) :
    Completes (.rollbackEpoch failed) s (s.rollBack e failed) :=
  completes_of_ran (by simp [exec, execRollbackEpoch, he, hf, hl])

theorem completes_rollback_waits {s : State} {e : AfterEpoch} (he : s.modes.rollback = some e) (failed : BitVec 11)
    (h : s.sv.frameStart = false ∨ s.linesSince e.line < 2) : Completes (.rollbackEpoch failed) s s := by
  refine completes_of_ran ?_
  rcases h with h | h
  · simp [exec, execRollbackEpoch, he, h]
  · simp [exec, execRollbackEpoch, he, Int.not_le.2 h]

/-- Settles O50: each kind of epoch is one switch (`takeSwitch_spec`), between what ends the change before it and what the
pair does with it. -/
theorem epochs : Obligations.Epochs := by
  unfold Obligations.Epochs
  refine ⟨fun s c hc => ⟨fun hf hs hr hm => ?takes, fun hf hs hr hm hg => ?diverges, fun h => ?waits⟩,
    fun s e failed he => ⟨fun hl => ?early, fun hl hsh ha => ⟨fun h0 => ?passes, fun h0 => ?fails⟩⟩,
    fun s e failed he => ⟨fun hf hl => ?back, completes_rollback_waits he failed⟩, fun s by_ target hf => ?forced,
    fun s h => ?_, fun s failed h => ?_, fun s failed h => ?_, fun s h => ?_⟩
  case takes =>
    obtain ⟨mode, epoch, sidx, committed, staged, live, dormant, check⟩ := scheduled_spec s c
    exact ⟨_, epochInstant_takes hc hf hs hr hm ▸ completes_epochInstant s, mode, epoch, sidx, live, committed, staged,
      (scheduled_only s c).nv, dormant, check⟩
  case diverges =>
    have modes := (diverge_only (s.abortChange ceNotReady 0x200) dcEpoch).modes.trans (abortChange_modes ..)
    have dict := (diverge_only (s.abortChange ceNotReady 0x200) dcEpoch).dict.trans (abortChange_only s ceNotReady 0x200).dict
    exact ⟨_, epochInstant_diverges hc hf hs hr hm hg ▸ completes_epochInstant s, congrArg Modes.changeState modes,
      congrArg Modes.unitMask modes, by rw [modes], by rw [modes], congrArg Dict.live dict⟩
  case waits => exact (congrArg _ (epochInstant_waits hc h)).mp (completes_epochInstant s)
  case early => exact (congrArg _ (checkEnds_waits failed he hl)).mp (completes_checkEnd s failed)
  case passes =>
    subst h0
    obtain ⟨modes, sent⟩ := checkEnds_passes he hl hsh ha
    exact ⟨_, completes_checkEnd s 0, (checkEnds_only s 0).only, modes, sent⟩
  case fails =>
    obtain ⟨modes, sent⟩ := checkEnds_fails he hl hsh ha h0
    exact ⟨_, completes_checkEnd s failed, (checkEnds_only s failed).only, congrArg Modes.unitMask modes,
      congrArg Modes.refusalCause modes, congrArg Modes.check modes, congrArg Modes.rollback modes,
      congrArg Modes.splits modes, by rw [modes], sent⟩
  case back =>
    obtain ⟨mode, epoch, live, change, count, rollback⟩ := rollBack_spec s e failed
    exact ⟨_, completes_rollback he failed hf hl, mode, epoch, live, change, count, rollback, (rollBack_only s e failed).nv⟩
  case forced =>
    obtain ⟨modes, live, taken, left⟩ := forcedEpoch_spec s by_ target
    obtain ⟨check, rollback, -, ended⟩ := forceOver_modes s
    refine ⟨s.forcedEpoch by_ target, completes_of_ran (by simp [exec, execForcedEpoch, hf]), congrArg Modes.mode modes,
      congrArg Modes.epoch modes, congrArg Modes.epochSidx modes, live, (congrArg Modes.check modes).trans check,
      (congrArg Modes.rollback modes).trans rollback, (forcedEpoch_only s by_ target).nv, fun h => ?_, taken, left⟩
    obtain ⟨change, cause, staged⟩ := ended h
    exact ⟨(congrArg Modes.changeState modes).trans change, (congrArg Modes.refusalCause modes).trans cause,
      (congrArg Modes.staged modes).trans staged⟩
  · exact (congrArg _ (epochInstant_idle h)).mp (completes_epochInstant s)
  · exact (congrArg _ (checkEnds_idle h failed)).mp (completes_checkEnd s failed)
  · exact completes_of_ran (by simp [exec, execRollbackEpoch, h])
  · exact completes_of_ran (by simp [exec, execForcedEpoch, h])

end Sys2Proof.Machine
end

section
namespace Sys2Proof.Machine

set_option Elab.async false

/-! ## The queue of faults (R386, R387) -/

/-- The instant of the latest sample depends on Surveyor, modes and power. -/
theorem Alters.occurrence {l : List Part} {s t : State} (h : Alters l s t) (hp : Part.power ∉ l := by decide)
    (hm : Part.modes ∉ l := by decide) (hs : Part.sv ∉ l := by decide) : t.occurrence = s.occurrence := by
  unfold State.occurrence State.epochNo State.mode
  rw [h.sv hs, h.modes hm, h.power hp]

/-- The intake of a Degrade fault notes its condition and nothing else. -/
theorem noteCondition_fm (s : State) (f : FaultReq) : ∃ c, (s.noteCondition f).fm = { s.fm with conditions := c } ∧
    (f.cls = .degrade → { code := f.code, unit := f.unit, inst := f.inst } ∈ c) := by
  unfold State.noteCondition State.addCondition
  split
  · dsimp only
    split
    · next h => exact ⟨_, rfl, fun _ => List.contains_iff_mem.1 h⟩
    · exact ⟨_, rfl, fun _ => List.mem_cons_self⟩
  · next h => exact ⟨_, rfl, fun hf => absurd (by simp [hf]) h⟩

/-- A fault into a queue with room: it stands in its place; a queue full of faults that stay trips the watchdog. -/
theorem enqueueFault_room (s : State) (g : Faulted) (h : s.fm.faults.length < 64) :
    ∃ c, (s.enqueueFault g).fm = { s.fm with faults := insertFault g s.fm.faults, tripDue := c } := by
  unfold State.enqueueFault
  rw [if_pos (show s.fm.faults.length < faultQueueMax from h)]
  dsimp only
  split <;> exact ⟨_, rfl⟩

/-- A full queue gives up its youngest of the lowest class for a fault at or above it, and counts (R387). -/
theorem enqueueFault_full (s : State) (g low : Faulted) (h : 64 ≤ s.fm.faults.length)
    (hl : s.fm.faults.getLast? = some low) (hk : low.keeps = false) :
    ∃ n, (s.enqueueFault g).fm = { s.fm with
      faults := if classCode low.req.cls ≤ classCode g.req.cls then insertFault g s.fm.faults.dropLast else s.fm.faults
      faultsLost := inc32 s.fm.faultsLost, lostUnreported := n } := by
  unfold State.enqueueFault State.enqueueFull
  rw [if_neg (show ¬ s.fm.faults.length < faultQueueMax from Nat.not_lt.2 h)]
  simp only [hl]
  rw [if_neg (by simp [hk])]
  by_cases hc : classCode low.req.cls ≤ classCode g.req.cls
  · rw [if_pos hc, if_pos hc]
    exact ⟨_, rfl⟩
  · rw [if_neg hc, if_neg hc]
    exact ⟨_, rfl⟩

theorem requeueFront_room (s : State) (g : Faulted) (h : s.fm.faults.length < 64) :
    s.requeueFront g = { s with fm.faults := frontFault g s.fm.faults } := if_pos h

/-! ## What stays of the queue while a fault is handled -/

/-- The fault being handled, the queue behind it and the entries that wait for the log stay. -/
structure IntakeKept (s t : State) : Prop where
  handling : t.fm.handling = s.fm.handling
  faults : t.fm.faults = s.fm.faults
  logged : ∀ e ∈ s.fm.toLog, e ∈ t.fm.toLog

theorem IntakeKept.of_eq {s t : State} (h : t.fm = s.fm) : IntakeKept s t := by
  refine ⟨?_, ?_, fun e he => ?_⟩ <;> rw [h]
  exact he

theorem IntakeKept.refl (s : State) : IntakeKept s s := .of_eq rfl

theorem IntakeKept.trans {s t u : State} (h : IntakeKept s t) (k : IntakeKept t u) : IntakeKept s u :=
  ⟨k.handling.trans h.handling, k.faults.trans h.faults, fun e he => k.logged e (h.logged e he)⟩

theorem IntakeKept.ite {s t u : State} {c : Prop} [Decidable c] (h : IntakeKept s t) (k : IntakeKept s u) :
    IntakeKept s (if c then t else u) := by
  split <;> assumption

theorem LogOnly.intakeKept {s t : State} (h : LogOnly s t) : IntakeKept s t := by
  refine ⟨?_, ?_, fun e => h.mem_toLog⟩ <;> obtain ⟨_, _, _, h⟩ := h <;> rw [h]

/-! ## Isolation (R388) -/

theorem leaveMode_only_modes (s : State) (by_ : ForcedBy) : Alters [.modes] s (s.leaveMode by_) := by
  unfold State.leaveMode
  split
  · exact .set fun p hp => by cases p <;> first | rfl | exact absurd ((Part.mem_bits ..).2 rfl) hp
  · exact .refl _ s

theorem rxDisable_logOnly (s : State) (l : LinkId) : LogOnly s (s.rxDisable l) :=
  (rxGo_logOnly s l lsDisabled 1).trans (.of_eq (onRx_only ..).fm)

/-- Isolating a block sets its bit in one of the masks of isolated blocks; beyond that the Foreman logs. -/
theorem isolateBlock_fm (s : State) (u : UnitId) (inst : Nat) : ∃ i l k,
    LogOnly { s with fm := { s.fm with isolated := i, isolatedLinks := l, isolatedSlots := k } } (s.isolateBlock u inst) := by
  have whole (m : Foreman) : LogOnly { s with fm := m } (({ s with fm := m } : State).leaveMode .fault) :=
    .of_eq (leaveMode_only_modes ..).fm
  unfold State.isolateBlock
  split
  · split
    · exact ⟨_, _, _, rxDisable_logOnly ..⟩
    · exact ⟨_, _, _, whole _⟩
  · split
    · exact ⟨_, _, _, rxDisable_logOnly ..⟩
    · exact ⟨_, _, _, whole _⟩
  · split
    · exact ⟨_, _, _, .refl _⟩
    · exact ⟨_, _, _, whole _⟩
  · exact ⟨_, _, _, whole _⟩

theorem isolateBlock_intakeKept (s : State) (u : UnitId) (inst : Nat) : IntakeKept s (s.isolateBlock u inst) := by
  obtain ⟨i, l, k, h⟩ := isolateBlock_fm s u inst
  exact ⟨h.intakeKept.handling, h.intakeKept.faults, h.intakeKept.logged⟩

theorem isolateBlock_isolateHeld (s : State) (u : UnitId) (inst : Nat) :
    (s.isolateBlock u inst).fm.isolateHeld = s.fm.isolateHeld := by
  obtain ⟨i, l, k, _, _, _, h⟩ := isolateBlock_fm s u inst
  rw [h]

theorem isolateBlock_smelter (s : State) (inst : Nat) : (s.isolateBlock .smelter inst).fm.isolated.getLsbD 4 = true := by
  have h : (s.isolateBlock .smelter inst).fm =
      { s.fm with isolated := s.fm.isolated ||| BitVec.ofNat 11 (2 ^ unitBit .smelter) } := (leaveMode_only_modes ..).fm
  rw [h]
  simp [unitBit]

/-! ## The intake (R386) -/

section
variable (s : State) (f : FaultReq)

theorem raiseFault_byHandler : s.raiseFault f true = (s.noteCondition f).tripWatchdog .handlerFault := rfl

/-- What the intake sees of the queue does not depend on the condition that it noted. -/
theorem noteCondition_handling : (s.noteCondition f).fm.handling = s.fm.handling := by
  obtain ⟨c, h, -⟩ := noteCondition_fm s f
  rw [h]

theorem noteCondition_faults : (s.noteCondition f).fm.faults = s.fm.faults := by
  obtain ⟨c, h, -⟩ := noteCondition_fm s f
  rw [h]

theorem noteCondition_occurrence : (s.noteCondition f).occurrence = s.occurrence := (noteCondition_only s f).occurrence

variable {s} {h : Faulted}

theorem raiseFault_idle (hh : s.fm.handling = none) (hr : s.fm.restarting = false) :
    s.raiseFault f false = { s.noteCondition f with
      fm.handling := some { req := f, stopped := false, at_ := s.occurrence } } := by
  have restarting : (s.noteCondition f).fm.restarting = false := by
    obtain ⟨c, k, -⟩ := noteCondition_fm s f
    rw [k, hr]
  unfold State.raiseFault
  simp only [noteCondition_handling, hh, restarting, noteCondition_occurrence]
  rfl

/-- A second Isolate fault of the unit being handled stops its block at once and waits. -/
theorem raiseFault_sameUnit (hh : s.fm.handling = some h) (hf : f.cls = .isolate) (hc : h.req.cls = .isolate)
    (hu : f.unit = h.req.unit) : s.raiseFault f false =
      ((s.noteCondition f).isolateBlock f.unit f.inst).enqueueFault { req := f, stopped := true, at_ := s.occurrence } := by
  have same : (f.cls == .isolate && h.req.cls == .isolate && f.unit == h.req.unit) = true := by simp [hf, hc, hu]
  unfold State.raiseFault
  simp only [noteCondition_handling, hh, same, noteCondition_occurrence]
  rfl

theorem raiseFault_preempts (hh : s.fm.handling = some h) (hc : classCode h.req.cls < classCode f.cls) :
    s.raiseFault f false = ({ s.noteCondition f with
      fm.handling := some { req := f, stopped := false, at_ := s.occurrence } } : State).requeueFront h := by
  have other : (f.cls == .isolate && h.req.cls == .isolate && f.unit == h.req.unit) = false := by
    refine Bool.eq_false_iff.2 fun k => ?_
    simp only [Bool.and_eq_true, beq_iff_eq] at k
    rw [k.1.1, k.1.2] at hc
    exact absurd hc (Nat.lt_irrefl _)
  unfold State.raiseFault
  simp only [noteCondition_handling, hh, other, noteCondition_occurrence, hc]
  rfl

theorem raiseFault_waits (hh : s.fm.handling = some h) (hc : classCode f.cls ≤ classCode h.req.cls)
    (hi : ¬ (f.cls = .isolate ∧ h.req.cls = .isolate ∧ f.unit = h.req.unit)) : s.raiseFault f false =
      (s.noteCondition f).enqueueFault { req := f, stopped := false, at_ := s.occurrence } := by
  have other : (f.cls == .isolate && h.req.cls == .isolate && f.unit == h.req.unit) = false := by
    refine Bool.eq_false_iff.2 fun k => hi ?_
    simpa [and_assoc] using k
  unfold State.raiseFault
  simp only [noteCondition_handling, hh, other, noteCondition_occurrence, Nat.not_lt.2 hc]
  rfl

end
end Sys2Proof.Machine
end

section
namespace Sys2Proof.Machine

set_option Elab.async false

/-! ## Entries of Isolate and Handover faults (R391, R392) -/

theorem makeEntry_logged {s : State} {cls : FaultClass} (h : s.isLogged cls = true) (code : EvCode) (unit : UnitId)
    (inst : Nat) (detail : List Byte) (reps : Nat) (fromBoot cleared : Bool) (occ : Option Occurrence) :
    (s.makeEntry code cls unit inst detail reps fromBoot cleared occ).1 ∈
      (s.makeEntry code cls unit inst detail reps fromBoot cleared occ).2.fm.toLog := by
  unfold State.makeEntry
  dsimp only
  rw [if_pos h]
  exact List.mem_append_right _ (List.mem_singleton.2 rfl)

/-- An Isolate or Handover fault is never merged: its entry is made and waits for the log. -/
theorem report_logs (s : State) {cls : FaultClass} (hc : cls = .isolate ∨ cls = .handover) (code : EvCode) (unit : UnitId)
    (inst : Nat) (detail : List Byte) (cleared : Bool) (occ : Option Occurrence) :
    ∃ e ∈ (s.report code cls unit inst detail cleared occ).fm.toLog, e.code = code ∧ e.cls = cls ∧ e.detail = detail ∧
      ∀ o, occ = some o → e.sidx = o.sidx := by
  unfold State.report
  extract_lets u merges prior recent reps
  have apart : merges = false := by rcases hc with rfl | rfl <;> rfl
  have logged : u.isLogged cls = true := by rcases hc with rfl | rfl <;> rfl
  clear_value u merges
  subst apart
  refine ⟨_, (enqueueB_logOnly ..).mem_toLog (((LogOnly.of_eq (passSkip_only ..).fm)).mem_toLog
    (makeEntry_logged logged code unit inst detail reps false cleared occ)), rfl, rfl, rfl, ?_⟩
  rintro o rfl
  rfl

/-! ## The queue behind the handler (R386) -/

theorem nextFault_fm (s : State) :
    s.nextFault.fm = { s.fm with handling := s.fm.faults.head?, faults := s.fm.faults.tail } := by
  unfold State.nextFault
  split
  · next h => simp only [h, List.head?_cons, List.tail_cons]
  · next h => simp only [h, List.head?_nil, List.tail_nil]

theorem noteLost_intakeKept (s : State) : IntakeKept s s.noteLost := by
  unfold State.noteLost
  refine .ite (.refl s) ?_
  exact .trans (t := { s with fm.lostUnreported := 0 }) ⟨rfl, rfl, fun _ he => he⟩ (notice_logOnly ..).intakeKept

/-! ## The mode that a fault leaves (R29, R30) -/

section
variable {s t : State}

theorem paired_congr (h : t.twin = s.twin) : t.paired = s.paired := by
  unfold State.paired State.role State.running
  rw [h]

theorem leaveTarget_of_mode (h : s.mode ∉ [0, 6, 0xFF]) : s.leaveTarget = some (if s.paired = true then 1 else 6) := by
  simp only [List.mem_cons, List.not_mem_nil, or_false, not_or] at h
  obtain ⟨h0, h6, hr⟩ := h
  unfold State.leaveTarget
  rw [if_neg (by simp [h0, hr]), if_neg h6]
  split
  · rfl
  · rfl

end

section
variable (s : State)

theorem wakeLink_pins : s.wakeLink.power.faultN = s.power.faultN ∧ s.wakeLink.power.recovery = s.power.recovery := by
  unfold State.wakeLink
  split <;> exact ⟨rfl, rfl⟩

theorem raiseVector_pins (fn : Fn) (v : Nat) : (s.raiseVector fn v).power.faultN = s.power.faultN ∧
    (s.raiseVector fn v).power.recovery = s.power.recovery := by
  unfold State.raiseVector State.sendVector
  split
  · have h : ((s.wakeLink.onMsix fn v fun e => { e with pending := false }).send
        (.msix fn v (s.msixEntry fn v).addr (s.msixEntry fn v).data)).power = s.wakeLink.power :=
      (send_only ..).power.trans (onMsix_only ..).power
    rw [h]
    exact wakeLink_pins s
  · rw [(onMsix_only ..).power]
    exact ⟨rfl, rfl⟩

theorem assertFaultN_faultN : s.assertFaultN.power.faultN = true := by
  unfold State.assertFaultN
  split
  · assumption
  · rw [(raiseVector_pins ..).1]
    rfl

theorem leaveMode_forced {by_ : ForcedBy} {m : Nat} (hf : s.modes.forced = none) (hl : s.leaveTarget = some m) :
    (s.leaveMode by_).modes = { s.modes with forced := some (by_, m) } := by
  unfold State.leaveMode
  rw [hf, hl]

theorem handoverActs_forcedOnly (by_ : ForcedBy) : ForcedOnly s (s.handoverActs by_) := by
  unfold State.handoverActs
  extract_lets solo u
  have hu : ForcedOnly s u := leaveMode_forcedOnly s by_
  split
  · exact hu.trans (.of_eq (assertFaultN_only u).modes)
  · exact hu

/-- A Handover fault in a mode that can be left: Ready when paired, else Drain with FAULT_N (R30, R390). -/
theorem handoverActs_leaves (by_ : ForcedBy) (hf : s.modes.forced = none) (hm : s.mode ∉ [0, 6, 0xFF]) :
    (s.handoverActs by_).modes.forced = some (by_, if s.paired = true then 1 else 6) ∧
      (s.paired = false → (s.handoverActs by_).power.faultN = true) ∧
      (s.paired = true → (s.handoverActs by_).power.faultN = s.power.faultN) := by
  have target := leaveTarget_of_mode hm
  have modes := leaveMode_forced s (by_ := by_) hf target
  have power : (s.leaveMode by_).power = s.power := (leaveMode_only_modes s by_).power
  unfold State.handoverActs
  rw [target]
  cases hp : s.paired
  · refine ⟨?_, fun _ => assertFaultN_faultN _, nofun⟩
    rw [hp] at modes
    exact congrArg Modes.forced ((assertFaultN_only _).modes.trans modes)
  · rw [hp] at modes
    exact ⟨congrArg Modes.forced modes, nofun, fun _ => congrArg Power.faultN power⟩

end

/-! ## The handler (R386 to R390) -/

section
variable (s : State) (f : Faulted)

theorem settleVotes_intakeKept : IntakeKept s s.settleVotes := ⟨rfl, rfl, fun _ he => he⟩

theorem classActs_intakeKept : IntakeKept s (s.classActs f) := by
  have vector (u : State) : IntakeKept u (u.raiseVector .pf0 faultVector) := .of_eq (raiseVector_only ..).fm
  unfold State.classActs
  split
  · exact .refl s
  · exact .refl s
  · exact .ite ⟨rfl, rfl, fun _ he => he⟩ (.refl s)
  · extract_lets _ u v w
    have hu : IntakeKept s u := ⟨rfl, rfl, fun _ he => he⟩
    have hv : IntakeKept u v := .ite (.refl u) (isolateBlock_intakeKept ..)
    have hw : IntakeKept v w := .ite (settleVotes_intakeKept v) (.refl v)
    exact ((hu.trans hv).trans hw).trans (vector w)
  · exact .trans (.of_eq (handoverActs_only ..).fm) (vector _)

/-- No class of fault leaves the mode at once: that is the matter of a forced epoch. -/
theorem classActs_mode : (s.classActs f).modes.mode.value = s.modes.mode.value := by
  have forced {u v : State} (h : ForcedOnly u v) : v.modes.mode.value = u.modes.mode.value := by
    obtain ⟨_, h⟩ := h
    rw [h]
  unfold State.classActs
  split
  · rfl
  · rfl
  · split <;> rfl
  · extract_lets _ u v w
    have hv : v.modes.mode.value = u.modes.mode.value := by
      simp only [v]
      split
      · rfl
      · exact forced (isolateBlock_forcedOnly ..)
    have hw : w.modes.mode.value = v.modes.mode.value := by
      simp only [w]
      split
      · exact Voted.value_all _
      · rfl
    rw [(raiseVector_only ..).modes, hw, hv]
  · rw [(raiseVector_only ..).modes, forced (handoverActs_forcedOnly ..)]

/-- An Isolate fault is held for ALERT_N, and its block stops unless the intake stopped it (R388, R390). -/
theorem classActs_isolate (hc : f.req.cls = .isolate) : (s.classActs f).fm.isolateHeld = true ∧
    (f.req.unit = .smelter → f.stopped = false → (s.classActs f).fm.isolated.getLsbD 4 = true) := by
  unfold State.classActs
  rw [hc]
  dsimp only
  rw [(raiseVector_only ..).fm]
  have settle (u : State) (b : Bool) : (if b then u.settleVotes else u).fm.isolateHeld = u.fm.isolateHeld ∧
      (if b then u.settleVotes else u).fm.isolated = u.fm.isolated := by
    cases b <;> exact ⟨rfl, rfl⟩
  rw [(settle ..).1, (settle ..).2]
  constructor
  · split
    · rfl
    · exact isolateBlock_isolateHeld ..
  · intro hu hs
    rw [hu, hs]
    exact isolateBlock_smelter _ f.req.inst

theorem classActs_handover (hc : f.req.cls = .handover) :
    (s.classActs f).modes = (s.handoverActs (handoverBy f.req.code)).modes ∧
      (s.classActs f).power.faultN = (s.handoverActs (handoverBy f.req.code)).power.faultN := by
  unfold State.classActs
  rw [hc]
  exact ⟨(raiseVector_only ..).modes, (raiseVector_pins ..).1⟩

/-- The state in which the handler acts on a fault: lost faults are noted, its entry is made. -/
def State.faultEntered (s : State) (f : Faulted) : State :=
  s.noteLost.report f.req.code f.req.cls f.req.unit f.req.inst f.req.detail (s.faultOver f) (some f.at_)

theorem faultEntered_only : Alters [.grizzly, .regs, .fm] s (s.faultEntered f) :=
  (report_only ..).next (noteLost_only s).mono

theorem faultEntered_intakeKept : IntakeKept s (s.faultEntered f) :=
  (noteLost_intakeKept s).trans (report_logOnly ..).intakeKept

variable {s f}

theorem handleFault_handles (hr : s.fm.restarting = false) (hh : s.fm.handling = some f) :
    s.handleFault = ((s.faultEntered f).classActs f).nextFault := by
  unfold State.handleFault
  rw [if_neg (by simp [hr]), hh]
  rfl

theorem handleFault_idle (hr : s.fm.restarting = false) (hh : s.fm.handling = none) (hq : s.fm.faults = []) :
    s.handleFault = s := by
  unfold State.handleFault State.nextFault
  have same : ({ s with fm.handling := s.fm.handling } : State) = s := rfl
  rw [hh] at same
  rw [if_neg (by simp [hr]), hh, hq]
  exact same

theorem handleFault_restarts (hr : s.fm.restarting = true) : s.handleFault = s.restartCores := if_pos hr

variable (s)

/-- After a trip the cores run again: WATCHDOG is logged, and the queue is taken up (R389). -/
theorem restartCores_spec : s.restartCores.fm.restarting = false ∧ s.restartCores.fm.handling = s.fm.faults.head? ∧
    s.restartCores.fm.faults = s.fm.faults.tail ∧
    ∃ e ∈ s.restartCores.fm.toLog, e.code = .watchdog ∧ e.cls = .handover := by
  unfold State.restartCores
  extract_lets _ u v
  obtain ⟨e, he, code, cls, -⟩ := report_logs (u.holdCages foremanSides false) (.inr rfl) .watchdog .foreman 0xFF []
    false none
  have kept : LogOnly u v := .trans (.of_eq (holdCages_only ..).fm) (report_logOnly ..)
  have fm : (v.raiseVector .pf0 faultVector).fm = v.fm := (raiseVector_only ..).fm
  rw [nextFault_fm, fm]
  refine ⟨?_, congrArg List.head? kept.intakeKept.faults, congrArg List.tail kept.intakeKept.faults, e, he, code, cls⟩
  obtain ⟨_, _, _, h⟩ := kept
  rw [h]

end
end Sys2Proof.Machine
end

section
namespace Sys2Proof.Machine

set_option Elab.async false

/-! ## The watchdog (R389) -/

section
variable (s : State)

/-- Nothing that a Bell makes due reaches the recovery boot. -/
theorem raiseBells_recovery (side : CageSide) (mask : Word) :
    (s.raiseBells side mask).power.recovery = s.power.recovery := by
  unfold State.raiseBells
  extract_lets m fresh t
  have ht : t.power = s.power := (onCage_only ..).power
  split
  · rfl
  split
  · have vector : (t.cageVector side).power.recovery = t.power.recovery := by
      unfold State.cageVector
      split
      · exact (raiseVector_pins ..).2
      · exact (raiseVector_pins ..).2
      · rfl
    rw [vector, ht]
  · rw [ht]

theorem resetCage_recovery (side : CageSide) : (s.resetCage side).power.recovery = s.power.recovery := by
  unfold State.resetCage
  extract_lets n u
  rw [raiseBells_recovery, (onCage_only ..).power, (onCage_only ..).power]

theorem resetCages_recovery (l : List CageSide) : (s.resetCages l).power.recovery = s.power.recovery := by
  induction l generalizing s with
  | nil => rfl
  | cons x l ih => exact (ih _).trans (resetCage_recovery s x)

/-- The fault being handled goes back to the queue. -/
def State.requeueHandled (s : State) : State :=
  match s.fm.handling with
  | some f => ({ s with fm.handling := none } : State).requeueFront f
  | none => s

/-- The cores are reset: the trip is counted, and what they had open ends. -/
def State.resetCores (s : State) : State :=
  { s with fm.tripDue := none, fm.restarting := true, fm.watchdogTrips := inc32 s.fm.watchdogTrips, fm.challenge := none
           dict.canA.transfers := [], dict.canB.transfers := [] }

theorem resetCores_dict : s.resetCores.dict = { s.dict with canA.transfers := [], canB.transfers := [] } := rfl

theorem resetCores_modes : s.resetCores.modes = s.modes := rfl

theorem resetCores_power : s.resetCores.power = s.power := rfl

theorem resetCores_twin : s.resetCores.twin = s.twin := rfl

/-- The Foreman's sides of the cages and its claims are reset. -/
def State.resetForemanCages (s : State) : State :=
  ((s.resetCages foremanSides).holdCages foremanSides true).dropClaims .foreman

theorem watchdogTrip_eq : s.watchdogTrip = (s.requeueHandled.resetCores.resetForemanCages).handoverActs .watchdog := rfl

theorem requeueFront_counters (f : Faulted) : (s.requeueFront f).fm.watchdogTrips = s.fm.watchdogTrips ∧
    (s.requeueFront f).fm.handling = s.fm.handling := by
  unfold State.requeueFront State.enqueueFull
  split
  · exact ⟨rfl, rfl⟩
  split
  · exact ⟨rfl, rfl⟩
  split
  · split <;> exact ⟨rfl, rfl⟩
  · dsimp only
    split <;> exact ⟨rfl, rfl⟩

theorem requeueHandled_only : Alters [.fm] s s.requeueHandled := by
  unfold State.requeueHandled
  split
  · exact (requeueFront_only ..).next (setFm_only ..)
  · exact .refl _ s

theorem requeueHandled_counters : s.requeueHandled.fm.watchdogTrips = s.fm.watchdogTrips ∧
    s.requeueHandled.fm.handling = none := by
  unfold State.requeueHandled
  split
  · exact requeueFront_counters ..
  · next h => exact ⟨rfl, h⟩

theorem requeueHandled_idle (h : s.fm.handling = none) : s.requeueHandled = s := by
  unfold State.requeueHandled
  rw [h]

theorem requeueHandled_room {f : Faulted} (h : s.fm.handling = some f) (hl : s.fm.faults.length < 64) :
    s.requeueHandled.fm.faults = frontFault f s.fm.faults := by
  unfold State.requeueHandled
  rw [h]
  exact congrArg (fun u : State => u.fm.faults) (requeueFront_room { s with fm.handling := none } f hl)

theorem resetForemanCages_only : Alters [.power, .grizzly, .hf, .regs, .sent] s s.resetForemanCages :=
  (dropClaims_only ..).next <| (holdCages_only ..).next <| (resetCages_only ..).mono

theorem resetForemanCages_recovery : s.resetForemanCages.power.recovery = s.power.recovery := by
  unfold State.resetForemanCages
  rw [(dropClaims_only ..).power, (holdCages_only ..).power, resetCages_recovery]

/-- A trip resets the cores and what they had open; the queue and the live values stay (R389). -/
theorem watchdogTrip_cores : s.watchdogTrip.fm = s.requeueHandled.resetCores.fm ∧
    s.watchdogTrip.dict = { s.dict with canA.transfers := [], canB.transfers := [] } ∧
    s.watchdogTrip.modes.mode = s.modes.mode := by
  have cages := resetForemanCages_only s.requeueHandled.resetCores
  have acts := handoverActs_only s.requeueHandled.resetCores.resetForemanCages .watchdog
  obtain ⟨_, forced⟩ := handoverActs_forcedOnly s.requeueHandled.resetCores.resetForemanCages .watchdog
  rw [watchdogTrip_eq, acts.fm, acts.dict, forced, cages.fm, cages.dict, cages.modes, resetCores_dict, resetCores_modes,
    (requeueHandled_only s).dict, (requeueHandled_only s).modes]
  exact ⟨rfl, rfl, rfl⟩

/-- A trip leaves the mode where it can be left (R30, R389). -/
theorem watchdogTrip_leaves (hm : s.mode ∉ [0, 6, 0xFF]) (hf : s.modes.forced = none) :
    s.watchdogTrip.modes.forced = some (.watchdog, if s.paired = true then 1 else 6) := by
  have cages := resetForemanCages_only s.requeueHandled.resetCores
  have recovery := resetForemanCages_recovery s.requeueHandled.resetCores
  have queued := requeueHandled_only s
  have modes : s.requeueHandled.resetCores.resetForemanCages.modes = s.modes := by
    rw [cages.modes, resetCores_modes, queued.modes]
  have mode : s.requeueHandled.resetCores.resetForemanCages.mode = s.mode :=
    mode_congr (by rw [recovery, resetCores_power, queued.power]) modes
  have paired : s.requeueHandled.resetCores.resetForemanCages.paired = s.paired :=
    paired_congr (by rw [cages.twin, resetCores_twin, queued.twin])
  rw [watchdogTrip_eq, ← paired]
  exact (handoverActs_leaves _ .watchdog (by rw [modes, hf]) (by rw [mode]; exact hm)).1

end

/-! ## Faults taken and handled (R385 to R390) -/

theorem Passes.faultAck {s : State} {via : Path} {data : List Byte} (h : Passes s via 0x3100 9 data) :
    s.request via 0x3100 9 data = ({ s with fm.isolateHeld := false } : State).answer via 0x3100 9 0 :=
  h.service (t := taken { s with fm.isolateHeld := false }) rfl

/-- A parity error of the Headframe is shown in AER before the intake takes the fault (R300). -/
def State.parityShown (s : State) (f : FaultReq) : State :=
  if f.code = .headframeParity then s.aerError .pf0 .internal else s

theorem parityShown_only (s : State) (f : FaultReq) : Alters [.hf, .sent] s (s.parityShown f) :=
  .ite (aerError_only ..) (.refl _ s)

theorem completes_faultRaise (s : State) (f : FaultReq) (b : Bool) : Completes (.faultRaise f b) s
    (if f.cls = .event then (s.parityShown f).event f.code f.unit f.inst f.detail else (s.parityShown f).raiseFault f b) := by
  refine completes_of_ran ?_
  simp [exec, execFaultRaise, State.parityShown]

end Sys2Proof.Machine
end

section
namespace Sys2Proof.Machine

set_option Elab.async false

/-! ## What the intake makes of a fault (R386, R387) -/

section
variable (s : State) (f : FaultReq)

/-- A fault of the handler itself trips the watchdog. -/
theorem raiseFault_byHandler_spec : Alters [.fm] s (s.raiseFault f true) ∧
    (s.raiseFault f true).fm.tripDue = s.fm.tripDue.or (some .handlerFault) ∧
    (s.raiseFault f true).fm.handling = s.fm.handling ∧ (s.raiseFault f true).fm.faults = s.fm.faults := by
  rw [raiseFault_byHandler]
  refine ⟨(tripWatchdog_only ..).next (noteCondition_only s f), ?_⟩
  obtain ⟨c, h, -⟩ := noteCondition_fm s f
  unfold State.tripWatchdog
  rw [h]
  exact ⟨rfl, rfl, rfl⟩

variable {s f}

theorem raiseFault_idle_spec (hh : s.fm.handling = none) (hr : s.fm.restarting = false) :
    Alters [.fm] s (s.raiseFault f false) ∧
      (s.raiseFault f false).fm.handling = some { req := f, stopped := false, at_ := s.occurrence } ∧
      (s.raiseFault f false).fm.faults = s.fm.faults ∧
      (f.cls = .degrade → { code := f.code, unit := f.unit, inst := f.inst } ∈ (s.raiseFault f false).fm.conditions) := by
  rw [raiseFault_idle f hh hr]
  refine ⟨(setFm_only ..).next (noteCondition_only s f), ?_⟩
  obtain ⟨c, h, hc⟩ := noteCondition_fm s f
  refine ⟨rfl, noteCondition_faults s f, fun hd => ?_⟩
  show _ ∈ (s.noteCondition f).fm.conditions
  rw [h]
  exact hc hd

variable {h : Faulted}

theorem raiseFault_sameUnit_spec (hh : s.fm.handling = some h) (hf : f.cls = .isolate) (hc : h.req.cls = .isolate)
    (hu : f.unit = h.req.unit) (hl : s.fm.faults.length < 64) :
    (s.raiseFault f false).fm.handling = some h ∧
      (s.raiseFault f false).fm.faults = insertFault { req := f, stopped := true, at_ := s.occurrence } s.fm.faults ∧
      (f.unit = .smelter → (s.raiseFault f false).fm.isolated.getLsbD 4 = true) := by
  have kept := isolateBlock_intakeKept (s.noteCondition f) f.unit f.inst
  have faults := kept.faults.trans (noteCondition_faults s f)
  obtain ⟨c, fm⟩ := enqueueFault_room ((s.noteCondition f).isolateBlock f.unit f.inst)
    { req := f, stopped := true, at_ := s.occurrence } (by rw [faults]; exact hl)
  rw [raiseFault_sameUnit f hh hf hc hu, fm, faults]
  refine ⟨kept.handling.trans ((noteCondition_handling s f).trans hh), rfl, fun hs => ?_⟩
  rw [hs]
  exact isolateBlock_smelter _ f.inst

theorem raiseFault_preempts_spec (hh : s.fm.handling = some h) (hc : classCode h.req.cls < classCode f.cls)
    (hl : s.fm.faults.length < 64) : Alters [.fm] s (s.raiseFault f false) ∧
      (s.raiseFault f false).fm.handling = some { req := f, stopped := false, at_ := s.occurrence } ∧
      (s.raiseFault f false).fm.faults = frontFault h s.fm.faults := by
  have room := requeueFront_room ({ s.noteCondition f with
    fm.handling := some { req := f, stopped := false, at_ := s.occurrence } } : State) h
    (show (s.noteCondition f).fm.faults.length < 64 by rw [noteCondition_faults]; exact hl)
  rw [raiseFault_preempts f hh hc]
  refine ⟨(requeueFront_only ..).next <| (setFm_only ..).next (noteCondition_only s f), ?_⟩
  rw [room]
  exact ⟨rfl, congrArg (frontFault h) (noteCondition_faults s f)⟩

theorem raiseFault_waits_only (hh : s.fm.handling = some h) (hc : classCode f.cls ≤ classCode h.req.cls)
    (hi : ¬ (f.cls = .isolate ∧ h.req.cls = .isolate ∧ f.unit = h.req.unit)) : Alters [.fm] s (s.raiseFault f false) := by
  rw [raiseFault_waits f hh hc hi]
  exact (enqueueFault_only ..).next (noteCondition_only s f)

theorem raiseFault_waits_room (hh : s.fm.handling = some h) (hc : classCode f.cls ≤ classCode h.req.cls)
    (hi : ¬ (f.cls = .isolate ∧ h.req.cls = .isolate ∧ f.unit = h.req.unit)) (hl : s.fm.faults.length < 64) :
    (s.raiseFault f false).fm.handling = some h ∧
      (s.raiseFault f false).fm.faults = insertFault { req := f, stopped := false, at_ := s.occurrence } s.fm.faults := by
  obtain ⟨c, fm⟩ := enqueueFault_room (s.noteCondition f) { req := f, stopped := false, at_ := s.occurrence }
    (by rw [noteCondition_faults]; exact hl)
  rw [raiseFault_waits f hh hc hi, fm, noteCondition_faults]
  exact ⟨(noteCondition_handling s f).trans hh, rfl⟩

theorem raiseFault_waits_full (hh : s.fm.handling = some h) (hc : classCode f.cls ≤ classCode h.req.cls)
    (hi : ¬ (f.cls = .isolate ∧ h.req.cls = .isolate ∧ f.unit = h.req.unit)) {low : Faulted} (hl : 64 ≤ s.fm.faults.length)
    (hlow : s.fm.faults.getLast? = some low) (hk : low.keeps = false) :
    (s.raiseFault f false).fm.handling = some h ∧ (s.raiseFault f false).fm.faultsLost = inc32 s.fm.faultsLost ∧
      (classCode low.req.cls ≤ classCode f.cls → (s.raiseFault f false).fm.faults =
        insertFault { req := f, stopped := false, at_ := s.occurrence } s.fm.faults.dropLast) ∧
      (classCode f.cls < classCode low.req.cls → (s.raiseFault f false).fm.faults = s.fm.faults) := by
  have lost : (s.noteCondition f).fm.faultsLost = s.fm.faultsLost := by
    obtain ⟨c, h, -⟩ := noteCondition_fm s f
    rw [h]
  obtain ⟨n, fm⟩ := enqueueFault_full (s.noteCondition f) { req := f, stopped := false, at_ := s.occurrence } low
    (by rw [noteCondition_faults]; exact hl) (by rw [noteCondition_faults]; exact hlow) hk
  rw [raiseFault_waits f hh hc hi, fm, noteCondition_faults, lost]
  exact ⟨(noteCondition_handling s f).trans hh, rfl, fun hle => if_pos hle, fun hlt => if_neg (Nat.not_le.2 hlt)⟩

end

/-! ## What the handler makes of a fault (R386 to R390) -/

theorem handleFault_spec {s : State} {f : Faulted} (hr : s.fm.restarting = false) (hh : s.fm.handling = some f) :
    s.handleFault.fm.handling = s.fm.faults.head? ∧ s.handleFault.fm.faults = s.fm.faults.tail ∧
      s.handleFault.modes.mode.value = s.modes.mode.value ∧
      (f.req.cls = .isolate ∨ f.req.cls = .handover → ∃ e ∈ s.handleFault.fm.toLog,
        e.code = f.req.code ∧ e.cls = f.req.cls ∧ e.sidx = f.at_.sidx ∧ e.detail = f.req.detail) ∧
      (f.req.cls = .isolate → s.handleFault.fm.isolateHeld = true ∧
        (f.req.unit = .smelter → f.stopped = false → s.handleFault.fm.isolated.getLsbD 4 = true)) ∧
      (f.req.cls = .handover → s.modes.forced = none → s.mode ∉ [0, 6, 0xFF] →
        s.handleFault.modes.forced = some (handoverBy f.req.code, if s.paired = true then 1 else 6) ∧
          (s.paired = false → s.handleFault.power.faultN = true) ∧
          (s.paired = true → s.handleFault.power.faultN = s.power.faultN)) := by
  have entered := faultEntered_only s f
  have kept := (faultEntered_intakeKept s f).trans (classActs_intakeKept (s.faultEntered f) f)
  have next := nextFault_only ((s.faultEntered f).classActs f)
  rw [handleFault_handles hr hh, nextFault_fm, next.modes, next.power]
  refine ⟨congrArg List.head? kept.faults, congrArg List.tail kept.faults, ?_, fun hc => ?_, fun hc => ?_, fun hc hf hm => ?_⟩
  · rw [classActs_mode, entered.modes]
  · obtain ⟨e, he, code, cls, detail, sidx⟩ := report_logs s.noteLost hc f.req.code f.req.unit f.req.inst f.req.detail
      (s.faultOver f) (some f.at_)
    exact ⟨e, (classActs_intakeKept (s.faultEntered f) f).logged e he, code, cls, sidx _ rfl, detail⟩
  · exact classActs_isolate _ f hc
  · have mode : (s.faultEntered f).mode = s.mode := mode_congr (congrArg Power.recovery entered.power) entered.modes
    have paired : (s.faultEntered f).paired = s.paired := paired_congr entered.twin
    obtain ⟨modes, pin⟩ := classActs_handover (s.faultEntered f) f hc
    obtain ⟨forced, solo, pair⟩ := handoverActs_leaves (s.faultEntered f) (handoverBy f.req.code)
      (by rw [entered.modes, hf])
      (by rw [mode]; exact hm)
    rw [modes, pin, forced, ← paired, ← entered.power]
    exact ⟨rfl, solo, pair⟩

/-- Settles O52: the intake by the fault that is being handled, the handler and the trip by the parts of the Foreman that
they touch. -/
theorem faultsTakenAndHandled : Obligations.FaultsTakenAndHandled := by
  unfold Obligations.FaultsTakenAndHandled
  refine ⟨fun s f => ?intake,
    fun s hp => ⟨fun hr => ⟨fun f hh => ?handles, fun hh hq => ?idle⟩, fun hr => ?restarts⟩,
    fun s cause hr hc => ?trips, fun s cause h => ?quiet, fun s via data h => ?ack⟩
  case intake =>
    have shown := parityShown_only s f
    have fm : (s.parityShown f).fm = s.fm := shown.fm
    have at_ : (s.parityShown f).occurrence = s.occurrence := shown.occurrence
    have run := completes_faultRaise s f
    unfold State.parityShown at fm at_ run
    dsimp only
    generalize (if f.code = EvCode.headframeParity then s.aerError Fn.pf0 AerError.internal else s) = o at fm at_ run ⊢
    refine ⟨fun he b => ?_, fun he => ?_⟩
    · have taken := run b
      rwa [if_pos he] at taken
    have taken (b : Bool) : Completes (.faultRaise f b) s (o.raiseFault f b) := by
      have taken := run b
      rwa [if_neg he] at taken
    rw [← fm, ← at_]
    refine ⟨?_, fun hh hr => ?_, fun h hh => ⟨fun hf hc hu hl => ?_, fun hc hl => ?_, fun hc hi => ⟨fun hl => ?_,
      fun low hl hlow hk => ?_⟩⟩⟩
    · obtain ⟨only, trip, handling, faults⟩ := raiseFault_byHandler_spec o f
      exact ⟨_, taken true, only.only, trip, handling, faults⟩
    · obtain ⟨only, handling, faults, condition⟩ := raiseFault_idle_spec (f := f) hh hr
      exact ⟨_, taken false, only.only, handling, faults, condition⟩
    · exact ⟨_, taken false, raiseFault_sameUnit_spec hh hf hc hu hl⟩
    · obtain ⟨only, handling, faults⟩ := raiseFault_preempts_spec hh hc hl
      exact ⟨_, taken false, only.only, handling, faults⟩
    · exact ⟨_, taken false, (raiseFault_waits_only hh hc hi).only, raiseFault_waits_room hh hc hi hl⟩
    · exact ⟨_, taken false, (raiseFault_waits_only hh hc hi).only, raiseFault_waits_full hh hc hi hl hlow hk⟩
  case handles =>
    obtain ⟨handling, faults, mode, entry, isolate, handover⟩ := handleFault_spec hr hh
    have only := handleFault_only s
    refine ⟨s.handleFault, completes_of_ran (by simp [exec, execFaultHandle, hp]), handling, faults, mode, only.streams,
      only.shaft, entry, isolate, fun hc hf hm => ⟨fun hs => ?_, fun hs => ?_⟩⟩ <;>
    obtain ⟨forced, solo, pair⟩ := handover hc hf hm <;> rw [forced, hs]
    · exact ⟨rfl, solo hs⟩
    · exact ⟨rfl, pair hs⟩
  case idle => exact completes_of_ran (by simp [exec, execFaultHandle, hp, handleFault_idle hr hh hq])
  case restarts =>
    obtain ⟨restarting, handling, faults, entry⟩ := restartCores_spec s
    exact ⟨s.restartCores, completes_of_ran (by simp [exec, execFaultHandle, hp, handleFault_restarts hr]), restarting,
      handling, faults, entry⟩
  case trips =>
    obtain ⟨fm, dict, mode⟩ := watchdogTrip_cores s
    obtain ⟨trips, handling⟩ := requeueHandled_counters s
    refine ⟨s.watchdogTrip, completes_of_ran (by simp [exec, execForemanWatchdogTrip, hr, hc]),
      (watchdogTrip_only s).only, ?_⟩
    rw [fm, dict, mode]
    refine ⟨rfl, handling, rfl, congrArg inc32 trips, rfl, rfl, rfl, rfl, rfl, fun hh => ?_,
      fun f hh hl => ?_, fun hm hf => ?_⟩
    · rw [requeueHandled_idle s hh]
      rfl
    · exact requeueHandled_room s hh hl
    · exact watchdogTrip_leaves s hm hf
  case quiet =>
    refine completes_of_ran ?_
    rcases h with h | h <;> simp [exec, execForemanWatchdogTrip, h]
  case ack => exact congrArg (ran s) h.faultAck

end Sys2Proof.Machine
end

section
namespace Sys2Proof.Machine

set_option Elab.async false

/-! ## Maps of values (R303, R304) -/

section
variable (m : ObjMap)

@[simp] theorem ObjMap.find_put_same (k v : Nat) : (m.put k v).find k = some v := by
  induction m with
  | nil => simp [ObjMap.put, ObjMap.find]
  | cons p m ih =>
    obtain ⟨k', v'⟩ := p
    unfold ObjMap.put
    split
    · exact if_pos rfl
    split
    · exact if_pos rfl
    · next h => exact (if_neg (Ne.symm h)).trans ih

theorem ObjMap.find_put_other {k q : Nat} (h : q ≠ k) (v : Nat) : (m.put k v).find q = m.find q := by
  have out (l : ObjMap) : ObjMap.find ((k, v) :: l) q = l.find q := if_neg (Ne.symm h)
  induction m with
  | nil => exact out []
  | cons p m ih =>
    obtain ⟨k', v'⟩ := p
    unfold ObjMap.put
    split
    · exact out _
    split
    · next e => exact (out m).trans (if_neg (fun c => h (by rw [e, c]))).symm
    · simp only [ObjMap.find, ih]

@[simp] theorem ObjMap.find_drop_same (k : Nat) : (m.drop k).find k = none := by
  induction m with
  | nil => rfl
  | cons p m ih =>
    obtain ⟨k', v'⟩ := p
    unfold ObjMap.drop
    split
    · exact ih
    · next h => exact (if_neg (Ne.symm h)).trans ih

theorem ObjMap.find_drop_other {k q : Nat} (h : q ≠ k) : (m.drop k).find q = m.find q := by
  induction m with
  | nil => rfl
  | cons p m ih =>
    obtain ⟨k', v'⟩ := p
    unfold ObjMap.drop
    split
    · next e => rw [ih, ObjMap.find, if_neg (fun c => h (by rw [e, c]))]
    · simp only [ObjMap.find, ih]

/-- A live value written is read back, be it the default or another. -/
theorem ObjMap.value_write_same (k v : Nat) : (m.write k v).value k = v := by
  unfold ObjMap.write ObjMap.value
  split
  · next h => rw [ObjMap.find_drop_same, Option.getD_none, h]
  · rw [ObjMap.find_put_same, Option.getD_some]

theorem ObjMap.value_write_other {k q : Nat} (h : q ≠ k) (v : Nat) : (m.write k v).value q = m.value q := by
  unfold ObjMap.write ObjMap.value
  split
  · rw [ObjMap.find_drop_other m h]
  · rw [ObjMap.find_put_other m h]

end

/-! ## Keys of objects -/

set_option maxRecDepth 65536 in
theorem objectRows_sub_lt : objectRows.all (fun r => r.sub + r.nsub ≤ 256) = true := by decide

/-- Subindices are bytes. -/
theorem sub_lt_of_objectRow {index sub : Nat} {r : Row} (h : objectRow index sub = some r) : sub < 256 := by
  unfold objectRow at h
  split at h
  · omega
  · have mem := List.mem_of_find?_eq_some h
    have has := List.find?_some h
    have bound := List.all_eq_true.1 objectRows_sub_lt r mem
    simp only [Row.hasSub, Bool.and_eq_true, decide_eq_true_eq] at has bound
    omega

/-- The key of an object is its own. -/
theorem key_eq_iff {index sub i j : Nat} (h : sub < 256) (hj : j < 256) : key index sub = key i j ↔ index = i ∧ sub = j := by
  unfold key
  omega

/-! ## Staged objects (R18, R21) -/

theorem noteStaged_modes {s : State} (hf : s.stageFrozen = false) (hs : s.modes.staged ≠ []) :
    s.noteStaged.modes = { s.modes with changeState := 1 } := by
  unfold State.noteStaged
  rw [if_neg (by simp [hf, hs])]
  rfl

/-- The modes of a write that is staged: its value in the set, which reads STAGED (R21). -/
theorem stage_modes {s : State} {index sub : Nat} (data : List Byte) (hf : s.stageFrozen = false)
    (hk : key index sub ≠ kModeRequest) (he : key index sub ≠ kEpochAt) : (s.stage index sub data).modes =
      { s.modes with staged := s.modes.staged.put (key index sub) (leNat data), changeState := 1 } := by
  unfold State.stage
  extract_lets k v none_ _ u
  have asks : none_ = false := by simp [none_, k, hk, he]
  have hu : u.modes = { s.modes with staged := s.modes.staged.put k v } := by
    show ({ s.modes with staged := if none_ = true then s.modes.staged.drop k else s.modes.staged.put k v } : Modes) = _
    rw [asks]
    rfl
  have forwarded : (if pairWide index sub = true then u.forward index sub data else u).modes = u.modes :=
    (Alters.ite (forward_only ..) (.refl _ u)).modes
  have frozen : (if pairWide index sub = true then u.forward index sub data else u).stageFrozen = false := by
    unfold State.stageFrozen
    rw [forwarded, hu]
    exact hf
  have some_ : (if pairWide index sub = true then u.forward index sub data else u).modes.staged ≠ [] := by
    rw [forwarded, hu]
    intro h
    have found := ObjMap.find_put_same s.modes.staged k v
    rw [show s.modes.staged.put k v = [] from h] at found
    cases found
  exact (noteStaged_modes frozen some_).trans (congrArg (fun m : Modes => { m with changeState := 1 }) (forwarded.trans hu))

/-- The request of a write that passes the checks of a staged object (R21, R306). -/
theorem Passes.staged {s : State} {via : Path} {index sub : Nat} {data : List Byte} {r : Row}
    (h : Passes s via index sub data) (hr : objectRow index sub = some r) (hs : r.staged (key index sub) = true) :
    s.stageFrozen = false ∧ s.request via index sub data = (s.stage index sub data).answer via index sub 0 := by
  obtain ⟨runs, access, r', hr', code⟩ := h
  obtain rfl : r = r' := Option.some.inj (hr.symm.trans hr')
  have plain : (index == 0x2000 && sub == 0x0E) = false := by
    refine Bool.eq_false_iff.2 fun k => ?_
    simp only [Bool.and_eq_true, beq_iff_eq] at k
    obtain ⟨rfl, rfl⟩ := k
    have none_ : Plain 0x2000 0x0E := by decide
    simp [Plain, hr, hs] at none_
  constructor
  · refine Bool.eq_false_iff.2 fun frozen => ?_
    have gate : s.gateCode via r index sub data ≠ 0 := by
      unfold State.gateCode
      simp only [hs, frozen]
      split
      · decide
      split
      · decide
      split
      · decide
      · exact (by decide : abStageFrozen ≠ 0)
    unfold State.writeCode at code
    rw [if_pos (by simpa using gate)] at code
    exact gate code
  · obtain ⟨r'', hr'', e⟩ := Passes.request ⟨runs, access, r, hr, code⟩
    obtain rfl : r = r'' := Option.some.inj (hr.symm.trans hr'')
    have write : s.applyWrite r index sub data = taken (s.stage index sub data) := if_pos hs
    rw [e, write, finish_of_ne _ _ _ _ plain]
    rfl

/-! ## Reads (R304, R305) -/

theorem readRequest_refused {s : State} {via : Path} {index sub : Nat} (hf : s.foremanRuns = true)
    (hc : accessCode via index sub false ≠ 0) :
    s.readRequest via index sub = s.send (.dictReply via index sub (accessCode via index sub false) []) := by
  unfold State.readRequest State.dictRead
  rw [if_pos hf, if_pos (by simpa using hc)]

theorem readRequest_reads {s : State} {via : Path} {index sub : Nat} {r : Row} (hf : s.foremanRuns = true)
    (hc : accessCode via index sub false = 0) (hr : objectRow index sub = some r) (hk : keyArea index = false) :
    s.readRequest via index sub =
      (s.readObject r index sub).2.send (.dictReply via index sub 0 (s.readObject r index sub).1) := by
  unfold State.readRequest State.dictRead
  rw [if_pos hf, if_neg (by simp [hc]), if_neg (by simp [hk]), hr]

/-- Of an object without a read of its own: its value, or what the unit shows. -/
theorem readObject_common (s : State) (r : Row) {index sub : Nat} (h0 : sub ≠ 0) (hk : keyArea index = false)
    (hl : index = 0x3100 → sub ≠ 5) (hc : index = 0x1100 → sub ≠ 5 ∧ sub ≠ 8) (hs : index = 0x3000 → 15 < sub) :
    s.readObject r index sub =
      (leBytes r.ty.bytes (if r.acc = .ro then s.status index sub else s.next index sub), s) := by
  have log : (index = 0x3100 && sub = 5) = false := by
    by_cases h : index = 0x3100 <;> simp [h, hl]
  have keys : (index = 0x3F00 && sub = 3) = false := by
    have : index ≠ 0x3F00 := fun h => by rw [h] at hk; exact absurd hk (by decide)
    simp [this]
  have life (j : Nat) (hj : index = 0x1100 → sub ≠ j) : (index = 0x1100 && sub = j) = false := by
    by_cases h : index = 0x1100 <;> simp [h, hj]
  have sensors : (index = 0x3000 && sub ≤ 15) = false := by
    by_cases h : index = 0x3000 <;> simp [h, hs]
  have value : s.configValue index sub = s.next index sub := by
    unfold State.configValue
    rw [life 8 fun h => (hc h).2]
    rfl
  unfold State.readObject
  rw [if_neg h0, log, life 5 fun h => (hc h).1, keys, sensors, value]
  by_cases ha : r.acc = .ro <;> simp [ha]

/-- A status object that every requester may read. -/
theorem readRequest_status {s : State} {via : Path} {index sub : Nat} (hf : s.foremanRuns = true)
    (hc : accessCode via index sub false = 0) {n : Nat}
    (hr : (objectRow index sub).any (fun r => r.acc == .ro && r.ty.bytes == n) = true) (h0 : sub ≠ 0)
    (hk : keyArea index = false) (h1 : index ≠ 0x3100) (h2 : index ≠ 0x1100) (h3 : index ≠ 0x3000) :
    s.readRequest via index sub = s.send (.dictReply via index sub 0 (leBytes n (s.status index sub))) := by
  obtain ⟨r, row, ro⟩ := (Option.any_eq_true _ _).1 hr
  simp only [Bool.and_eq_true, beq_iff_eq] at ro
  obtain ⟨acc, bytes⟩ := ro
  rw [readRequest_reads hf hc row hk, readObject_common s r h0 hk (absurd · h1) (absurd · h2) (absurd · h3),
    if_pos acc, bytes]

/-- Settles O36: a staged write puts its value in the set, a plain one in the live values, and a read shows them. -/
theorem dictionaryWritesAndReads : Obligations.DictionaryWritesAndReads := by
  unfold Obligations.DictionaryWritesAndReads
  refine ⟨fun s via index sub data r h hr hs hn => ?staged, fun s via index sub data r h hr hs hv hu => ?plain,
    fun s via index sub r hf hc hr h0 hk hl hlc hse => ?reads, fun s via hf => ⟨?mode, ?sample⟩,
    fun s via index sub hf hc => completes_of_ran (congrArg (ran s) (readRequest_refused hf hc))⟩
  case staged =>
    have hsub := sub_lt_of_objectRow hr
    have request : key index sub ≠ kModeRequest := fun h => hn (by
      obtain ⟨hi, hj⟩ := (key_eq_iff hsub (by decide)).1 h
      exact ⟨hi, .inl hj⟩)
    have instant : key index sub ≠ kEpochAt := fun h => hn (by
      obtain ⟨hi, hj⟩ := (key_eq_iff hsub (by decide)).1 h
      exact ⟨hi, .inr hj⟩)
    obtain ⟨frozen, taken⟩ := h.staged hr hs
    have modes := stage_modes data frozen request instant
    have found : (s.stage index sub data).modes.staged.find (key index sub) = some (leNat data) := by
      rw [modes]
      exact ObjMap.find_put_same ..
    refine ⟨(s.stage index sub data).answer via index sub 0, completes_of_ran (congrArg (ran s) taken),
      completes_of_ran (congrArg (ran s) taken), ((answer_only ..).next (stage_only s index sub data)).only, found,
      fun k hk => ?_, ?_, congrArg Modes.changeState modes, (congrArg Modes.mode modes :)⟩
    · exact (congrArg (fun m : Modes => m.staged.find k) modes).trans (ObjMap.find_put_other _ hk _)
    · exact (congrArg (fun o : Option Nat => o.getD _) found)
  case plain =>
    have lasts : (index == 0x2000 && sub == 0x0E) = false := by
      refine Bool.eq_false_iff.2 fun k => ?_
      simp only [Bool.and_eq_true, beq_iff_eq] at k
      obtain ⟨rfl, rfl⟩ := k
      cases hv
    exact ⟨_, completes_of_ran (congrArg (ran s) (h.plain hv hu (by simp [Plain, hr, hs]) lasts)),
      ((answer_only ..).next (writeLive_only ..).mono).only, ObjMap.value_write_same .., fun k hk =>
      ObjMap.value_write_other _ hk _, rfl⟩
  case reads =>
    have read := readRequest_reads hf hc hr hk
    rw [readObject_common s r h0 hk hl hlc hse] at read
    refine ⟨fun ha => completes_of_ran (congrArg (ran s) ?_), fun ha => completes_of_ran (congrArg (ran s) ?_)⟩
    · rw [read, if_neg ha]
    · rw [read, if_pos ha]
  case mode =>
    have access : accessCode via 0x2000 1 false = 0 := by cases via <;> decide
    exact completes_of_ran (congrArg (ran s)
      (readRequest_status hf access (by decide) (by decide) (by decide) (by decide) (by decide) (by decide)))
  case sample =>
    have access : accessCode via 0x2101 8 false = 0 := by cases via <;> decide
    exact completes_of_ran (congrArg (ran s)
      (readRequest_status hf access (by decide) (by decide) (by decide) (by decide) (by decide) (by decide)))

end Sys2Proof.Machine
end

section
namespace Sys2Proof.Machine

set_option Elab.async false

/-! ## What a write to the host leaves (R247, R291) -/

/-- Every suspension for a bus master that was off has its condition met again. -/
def BusMet (s : State) : Prop := ∀ x ∈ s.grizzly.suspensions, x.cause = .busMasterOff → x.metSince ≠ none

/-- The settings of the two functions, the place of the job ring and what was sent stay; no suspension opens again. -/
structure HostKept (s t : State) : Prop where
  bme : t.hf.bme = s.hf.bme
  d3hot : t.hf.d3hot = s.hf.d3hot
  cfg0 : t.hf.cfg0 = s.hf.cfg0
  cfg1 : t.hf.cfg1 = s.hf.cfg1
  ide : t.hf.ide = s.hf.ide
  base : t.smelter.base = s.smelter.base
  stopped : t.smelter.stopped = s.smelter.stopped
  sent : ∀ x ∈ s.sent, x ∈ t.sent
  met : BusMet s → BusMet t

theorem HostKept.refl (s : State) : HostKept s s := ⟨rfl, rfl, rfl, rfl, rfl, rfl, rfl, fun _ h => h, id⟩

theorem HostKept.trans {s t u : State} (h : HostKept s t) (k : HostKept t u) : HostKept s u :=
  ⟨k.bme.trans h.bme, k.d3hot.trans h.d3hot, k.cfg0.trans h.cfg0, k.cfg1.trans h.cfg1, k.ide.trans h.ide,
    k.base.trans h.base, k.stopped.trans h.stopped, fun x hx => k.sent x (h.sent x hx), fun m => k.met (h.met m)⟩

theorem HostKept.ite {s t u : State} {c : Prop} [Decidable c] (h : HostKept s t) (k : HostKept s u) :
    HostKept s (if c then t else u) := by
  split <;> assumption

theorem HostKept.fold {α : Type} {f : State → α → State} (k : ∀ u a, HostKept u (f u a)) (xs : List α) (s : State) :
    HostKept s (xs.foldl f s) := by
  induction xs generalizing s with
  | nil => exact .refl s
  | cons a xs ih => exact (k s a).trans (ih _)

section
variable (s : State)

theorem send_hostKept (x : Sent) : HostKept s (s.send x) :=
  ⟨rfl, rfl, rfl, rfl, rfl, rfl, rfl, fun _ h => List.mem_cons_of_mem _ h, id⟩

theorem onMsix_hostKept (fn : Fn) (v : Nat) (f : MsixEntry → MsixEntry) : HostKept s (s.onMsix fn v f) := by
  cases fn <;> exact ⟨rfl, rfl, rfl, rfl, rfl, rfl, rfl, fun _ h => h, id⟩

theorem conditionMet_met (cause : SuspendCause) (scope : BitVec 64) (h : BusMet s) : BusMet (s.conditionMet cause scope) := by
  intro x hx hc
  obtain ⟨y, hy, rfl⟩ := List.mem_map.1 hx
  by_cases hb : (sameSuspension cause scope y && y.metSince.isNone) = true
  · rw [if_pos hb]
    exact Option.some_ne_none _
  · rw [if_neg hb] at hc ⊢
    exact h y hy hc

theorem wakeLink_hostKept : HostKept s s.wakeLink := by
  unfold State.wakeLink
  refine .ite ⟨rfl, rfl, rfl, rfl, rfl, rfl, rfl, fun _ h => h, fun m => ?_⟩ (.refl s)
  exact conditionMet_met _ .linkDown 0 m

theorem sendVector_hostKept (fn : Fn) (v : Nat) : HostKept s (s.sendVector fn v) :=
  ((wakeLink_hostKept s).trans (onMsix_hostKept ..)).trans (send_hostKept ..)

theorem raiseVector_hostKept (fn : Fn) (v : Nat) : HostKept s (s.raiseVector fn v) :=
  .ite (sendVector_hostKept ..) (onMsix_hostKept ..)

theorem flushVectors_hostKept : HostKept s s.flushVectors :=
  .trans (.fold (fun u _ => .ite (sendVector_hostKept ..) (.refl u)) _ _)
    (.fold (fun u _ => .ite (sendVector_hostKept ..) (.refl u)) _ _)

theorem hostWrite_hostKept (addr : Nat) (data : List Byte) : HostKept s (s.hostWrite addr data) :=
  (wakeLink_hostKept s).trans (.fold (fun _ _ => send_hostKept ..) _ _)

/-- A smelter that moved on, its ring and its stopped jobs as they were. -/
theorem setSmelter_hostKept {m : Smelter} (hb : m.base = s.smelter.base) (hs : m.stopped = s.smelter.stopped) :
    HostKept s { s with smelter := m } := ⟨rfl, rfl, rfl, rfl, rfl, hb, hs, fun _ h => h, id⟩

theorem drainReturns_hostKept : HostKept s s.drainReturns :=
  .ite (.refl s) ⟨rfl, rfl, rfl, rfl, rfl, rfl, rfl, fun _ h => h, id⟩

end

theorem advance_ring (m : Smelter) (fuel : Nat) : (m.advance fuel).base = m.base ∧ (m.advance fuel).stopped = m.stopped := by
  induction fuel generalizing m with
  | zero => exact ⟨rfl, rfl⟩
  | succ n ih =>
    unfold Smelter.advance
    split
    · exact ih _
    · exact ⟨rfl, rfl⟩

/-! ## The records of jobs (R243 to R247) -/

/-- Writes to the host depend on the functions' settings alone. -/
theorem HostWrote.congr {s u t v : State} {addr : Nat} {data : List Byte} (h : HostWrote u t addr data)
    (k : HostKept s u) (l : ∀ x ∈ t.sent, x ∈ v.sent) : HostWrote s v addr data := by
  intro x hx
  have size : u.maxPayloadSize = s.maxPayloadSize := congrArg
    (fun c : FnConfig => min 512 (128 * 2 ^ ((c.word .pf0 offDevCtl / 2 ^ 5) % 8))) k.cfg0
  have stream : u.ideFor x.1 = s.ideFor x.1 := by
    unfold State.ideFor
    rw [k.ide]
  rw [← size] at hx
  rw [← stream]
  exact l _ (h x hx)

theorem hostWrite_wrote (s : State) (addr : Nat) (data : List Byte) : HostWrote s (s.hostWrite addr data) addr data := by
  have each (xs : List (Nat × List Byte)) (u : State) (hu : HostKept s u) : ∀ x ∈ xs, Sent.hostWrite (s.ideFor x.1) x.1 x.2 ∈
      (xs.foldl (fun s x => s.send (.hostWrite (s.ideFor x.1) x.1 x.2)) u).sent := by
    induction xs generalizing u with
    | nil => intro x hx; cases hx
    | cons y ys ih =>
      intro x hx
      have step := hu.trans (send_hostKept u (.hostWrite (u.ideFor y.1) y.1 y.2))
      rcases List.mem_cons.1 hx with rfl | hx
      · refine (HostKept.fold (fun _ _ => send_hostKept ..) ys _).sent _ ?_
        have stream : u.ideFor x.1 = s.ideFor x.1 := by
          unfold State.ideFor
          rw [hu.ide]
        show _ ∈ Sent.hostWrite (u.ideFor x.1) x.1 x.2 :: u.sent
        rw [stream]
        exact List.mem_cons_self
      · exact ih _ step x hx
  exact each _ _ (wakeLink_hostKept s)

/-- The record of a stopped job (R247). -/
def abortedRecord (engine : Nat) : List Byte := [2] ++ leBytes 1 jeAborted ++ leBytes 1 engine ++ List.replicate 13 (0 : Byte)

theorem abortedRecord_eq (engine : Nat) : leBytes 1 (if (jeAborted == 0) = true then 1 else 2) ++ leBytes 1 jeAborted ++
    leBytes 1 engine ++ [0] ++ leBytes 4 (if (jeAborted == 0) = true then ([] : List Byte).length else 0) ++ leBytes 4 0 ++
    leBytes 4 (if (jeAborted == 0) = true then (crc32 []).toNat else 0) = abortedRecord engine := by
  have failed : (jeAborted == 0) = false := rfl
  rw [failed]
  rfl

/-- A stopped job writes its record alone. -/
theorem endJob_aborted (s : State) (j : Job) (engine : Nat) :
    HostKept s (s.endJob j engine { code := jeAborted, out := [], used := 0 }) ∧
      HostWrote s (s.endJob j engine { code := jeAborted, out := [], used := 0 }) (s.smelter.base + 64 * j.slot + 0x30)
        (abortedRecord engine) := by
  unfold State.endJob
  extract_lets ok rec_ u v m1 m2 m3 m4 w
  have record : rec_ = abortedRecord engine := abortedRecord_eq engine
  clear_value rec_ ok
  subst record
  have skipped : HostKept s (u.passSkip 4) := ⟨rfl, rfl, rfl, rfl, rfl, rfl, rfl, fun _ h => h, id⟩
  have wrote : HostWrote (u.passSkip 4) v (s.smelter.base + 64 * j.slot + 0x30) (abortedRecord engine) :=
    hostWrite_wrote (u.passSkip 4) (u.smelter.base + 64 * j.slot + 0x30) (abortedRecord engine)
  have kept : HostKept s v := skipped.trans (hostWrite_hostKept ..)
  clear_value v
  have queued : m2.base = v.smelter.base ∧ m2.stopped = v.smelter.stopped := ⟨rfl, rfl⟩
  have moved : m3.base = m2.base ∧ m3.stopped = m2.stopped := advance_ring ..
  clear_value m3
  have counted : m4.base = m3.base ∧ m4.stopped = m3.stopped := by
    simp only [m4]
    split <;> exact ⟨rfl, rfl⟩
  clear_value m4
  have ended : HostKept v w := setSmelter_hostKept v ((counted.1.trans moved.1).trans queued.1)
    ((counted.2.trans moved.2).trans queued.2)
  clear_value w
  have told : HostKept w (if bitOf j.opt 1 = true then w.raiseVector Fn.pf0 jobVector else w) :=
    .ite (raiseVector_hostKept ..) (.refl w)
  exact ⟨(kept.trans ended).trans told, wrote.congr skipped (ended.trans told).sent⟩

end Sys2Proof.Machine
end

section
namespace Sys2Proof.Machine

set_option Elab.async false

/-! ## PF0 stops as a requester (R201, R247, Table 9.8) -/

/-- Bus Master Enable, the power state and the settings of the functions stay. -/
structure FnKept (s t : State) : Prop where
  bme : t.hf.bme = s.hf.bme
  d3hot : t.hf.d3hot = s.hf.d3hot
  cfg0 : t.hf.cfg0 = s.hf.cfg0
  cfg1 : t.hf.cfg1 = s.hf.cfg1

theorem FnKept.fnCfg {s t : State} (h : FnKept s t) (fn : Fn) : t.fnCfg fn = s.fnCfg fn := by
  cases fn
  · exact h.cfg0
  · exact h.cfg1

theorem FnKept.trans {s t u : State} (h : FnKept s t) (k : FnKept t u) : FnKept s u :=
  ⟨k.bme.trans h.bme, k.d3hot.trans h.d3hot, k.cfg0.trans h.cfg0, k.cfg1.trans h.cfg1⟩

theorem FnKept.refl (s : State) : FnKept s s := ⟨rfl, rfl, rfl, rfl⟩

theorem HostKept.fnKept {s t : State} (h : HostKept s t) : FnKept s t := ⟨h.bme, h.d3hot, h.cfg0, h.cfg1⟩

theorem Alters.fnKept {l : List Part} {s t : State} (h : Alters l s t) (hh : Part.hf ∉ l := by decide) : FnKept s t := by
  have hf := h.hf hh
  exact ⟨by rw [hf], by rw [hf], by rw [hf], by rw [hf]⟩

/-- A suspension of a cause is open from now on (R207). -/
theorem suspend_opens (s : State) (cause : SuspendCause) {scope : BitVec 64} (h : scope ≠ 0) :
    ∃ x ∈ (s.suspend cause scope).grizzly.suspensions, x.cause = cause ∧ x.metSince = none := by
  unfold State.suspend
  rw [if_neg (by simpa using h)]
  split
  · next found =>
    obtain ⟨y, hy, same⟩ := List.any_eq_true.1 found
    refine ⟨{ y with metSince := none }, List.mem_map.2 ⟨y, hy, if_pos same⟩, ?_, rfl⟩
    simp only [sameSuspension, Bool.and_eq_true, beq_iff_eq] at same
    exact same.1
  · obtain ⟨_, _, _, _, _, _, _, e⟩ := event_reported ({ s with
      grizzly.suspensions := s.grizzly.suspensions ++ [{ cause, scope, metSince := none }]
      grizzly.suspendCause := suspendCode cause } : State) .guaranteeSuspended .grizzly 0xFF
      (leBytes 1 (suspendCode cause) ++ leBytes 8 scope.toNat)
    rw [e]
    exact ⟨_, List.mem_append_right _ (List.mem_singleton.2 rfl), rfl, rfl⟩

/-- What stops with the bus master: reads are orphaned, jobs stop, and class A is suspended. -/
theorem busGoes_spec (s : State) : FnKept s s.busGoes ∧ (∀ x ∈ s.busGoes.hf.tags, x.orphaned = true ∨ x.timedOut = true) ∧
    s.busGoes.hf.tags.length = s.hf.tags.length ∧ (∀ k : Fin 16, s.busGoes.smelter.engines[k] = none) ∧
    s.busGoes.smelter.fetching = [] ∧ s.busGoes.smelter.queue = s.smelter.queue ∧
    (s.scopeAll ≠ 0 → ∃ x ∈ s.busGoes.grizzly.suspensions, x.cause = .busMasterOff ∧ x.metSince = none) := by
  have drained := drainGoes_only s .busMasterOff
  have stopped (u : State) : FnKept u u.stopJobs := ⟨rfl, rfl, rfl, rfl⟩
  refine ⟨drained.fnKept.trans (stopped _), fun x hx => ?_, ?_, fun k => ?_, rfl, ?_, fun h => ?_⟩
  · obtain ⟨y, -, rfl⟩ := List.mem_map.1 hx
    split
    · next h => exact .inr h
    · exact .inl rfl
  · exact (List.length_map _).trans (congrArg (fun m : Headframe => m.tags.length) drained.hf)
  · exact Vector.getElem_replicate k.isLt
  · exact (congrArg Smelter.queue drained.smelter :)
  · exact suspend_opens s .busMasterOff h

/-! ## PF0 may issue requests again (R207, R247) -/

theorem conditionMet_busMet (s : State) : BusMet (s.conditionMet .busMasterOff 0) := by
  intro x hx hc
  obtain ⟨y, hy, rfl⟩ := List.mem_map.1 hx
  by_cases hb : (sameSuspension .busMasterOff 0 y && y.metSince.isNone) = true
  · rw [if_pos hb]
    exact Option.some_ne_none _
  · rw [if_neg hb] at hc ⊢
    intro hn
    exact hb (by simp [sameSuspension, hc, hn])

theorem conditionMet_hostKept (s : State) (cause : SuspendCause) (scope : BitVec 64) : HostKept s (s.conditionMet cause scope) :=
  ⟨rfl, rfl, rfl, rfl, rfl, rfl, rfl, fun _ h => h, conditionMet_met s cause scope⟩

/-- One state after another, a list of stopped jobs ends, each with its record. -/
theorem abortFold (s : State) (l : List (Nat × Job)) {u : State} (hu : HostKept s u) :
    HostKept s (l.foldl (fun s x => s.endJob x.2 x.1 { code := jeAborted, out := [], used := 0 }) u) ∧
      ∀ x ∈ l, HostWrote s (l.foldl (fun s x => s.endJob x.2 x.1 { code := jeAborted, out := [], used := 0 }) u)
        (s.smelter.base + 64 * x.2.slot + 0x30) (abortedRecord x.1) := by
  induction l generalizing u with
  | nil => exact ⟨hu, fun x hx => by cases hx⟩
  | cons y ys ih =>
    obtain ⟨kept, wrote⟩ := endJob_aborted u y.2 y.1
    obtain ⟨rest, others⟩ := ih (hu.trans kept)
    refine ⟨rest, fun x hx => ?_⟩
    rcases List.mem_cons.1 hx with rfl | hx
    · rw [hu.base] at wrote
      exact wrote.congr hu (HostKept.fold (fun v z => (endJob_aborted v z.2 z.1).1) ys _).sent
    · exact others x hx

/-- The stopped jobs of the ring are forgotten. -/
def State.forgetStopped (s : State) : State := { s with smelter.stopped := [] }

theorem abortJobs_spec (s : State) : HostKept s.forgetStopped s.abortJobs ∧ ∀ x ∈ s.smelter.stopped,
    HostWrote s s.abortJobs (s.smelter.base + 64 * x.2.slot + 0x30) (abortedRecord x.1) :=
  abortFold s.forgetStopped s.smelter.stopped (.refl _)

theorem forgetStopped_fnKept (s : State) : FnKept s s.forgetStopped := ⟨rfl, rfl, rfl, rfl⟩

/-- The bus master on again: the records of the stopped jobs are written, and no suspension for it stays open. -/
theorem busReturns_spec {s : State} (hb : s.hf.bme = true) (hd : s.hf.d3hot = false) (hl : s.hf.l0 = true) :
    FnKept s s.busReturns ∧ s.busReturns.smelter.stopped = [] ∧
      (∀ x ∈ s.smelter.stopped, HostWrote s s.busReturns (s.smelter.base + 64 * x.2.slot + 0x30) (abortedRecord x.1)) ∧
      BusMet s.busReturns := by
  have on : (s.conditionMet .busMasterOff 0).busOn = true := by
    show (s.hf.l0 && s.hf.bme && !s.hf.d3hot) = true
    rw [hl, hb, hd]
    rfl
  have e : s.busReturns = ((s.conditionMet .busMasterOff 0).drainReturns.abortJobs).flushVectors := by
    unfold State.busReturns
    rw [if_pos (by rw [hb, hd]; rfl)]
    exact if_pos on
  have begun : HostKept s (s.conditionMet .busMasterOff 0).drainReturns :=
    (conditionMet_hostKept ..).trans (drainReturns_hostKept _)
  have met : BusMet (s.conditionMet .busMasterOff 0).drainReturns := (drainReturns_hostKept _).met (conditionMet_busMet s)
  rw [e]
  generalize (s.conditionMet .busMasterOff 0).drainReturns = u at begun met ⊢
  obtain ⟨kept, wrote⟩ := abortJobs_spec u
  have flushed := flushVectors_hostKept u.abortJobs
  refine ⟨((begun.fnKept.trans (forgetStopped_fnKept u)).trans kept.fnKept).trans flushed.fnKept,
    flushed.stopped.trans kept.stopped, fun x hx => ?_, flushed.met (kept.met met)⟩
  have record := wrote x (by rw [begun.stopped]; exact hx)
  rw [begun.base] at record
  exact record.congr begun flushed.sent

theorem busReturns_off {s : State} (h : s.hf.bme = false ∨ s.hf.d3hot = true) : s.busReturns = s := by
  unfold State.busReturns
  rw [if_neg (by rcases h with h | h <;> simp [h])]

theorem busReturns_fnKept (s : State) : FnKept s s.busReturns := by
  unfold State.busReturns
  split
  · dsimp only
    have met := (conditionMet_hostKept s .busMasterOff 0).fnKept
    split
    · exact met.trans <| (drainReturns_hostKept _).fnKept.trans <| (forgetStopped_fnKept _).trans <|
        (abortJobs_spec _).1.fnKept.trans (flushVectors_hostKept _).fnKept
    · exact met
  · exact .refl s

/-! ## Configuration space (R33, R274, R298) -/

/-- Bus Master Enable as written (R298). -/
theorem writeBme_spec (s : State) (on : Bool) : (s.writeBme on).hf.bme = on ∧ ∀ fn, (s.writeBme on).fnCfg fn = s.fnCfg fn := by
  unfold State.writeBme
  split
  · next h => exact ⟨(eq_of_beq h).symm, fun fn => rfl⟩
  · have set (b : Bool) (fn : Fn) : ({ s with hf.bme := b } : State).fnCfg fn = s.fnCfg fn := by cases fn <;> rfl
    split
    · next h =>
      have kept := busReturns_fnKept { s with hf.bme := true }
      exact ⟨kept.bme.trans h.symm, fun fn => (kept.fnCfg fn).trans (set true fn)⟩
    · next h =>
      have kept := (busGoes_spec { s with hf.bme := false }).1
      exact ⟨kept.bme.trans (Bool.eq_false_iff.2 h).symm, fun fn => (kept.fnCfg fn).trans (set false fn)⟩

theorem mergeBytes_all (v : Word) (old : Nat) : mergeBytes 0xF v old = v.toNat := by
  have mask : (((List.range 4).filter fun i => (0xF : BitVec 4).getLsbD i).map fun i => 0xFF * 2 ^ (8 * i)).sum = 2 ^ 32 - 1 := by
    decide
  unfold mergeBytes maskedIn
  rw [mask, Nat.and_two_pow_sub_one_eq_mod, Nat.mod_eq_of_lt v.isLt]
  simp

theorem onFnCfg_fnCfg (s : State) (fn : Fn) (f : FnConfig → FnConfig) : (s.onFnCfg fn f).fnCfg fn = f (s.fnCfg fn) := by
  cases fn <;> rfl

/-- The Command register written as a doubleword. -/
theorem cfgWrite_command (s : State) (fn : Fn) (v : Word) : ((s.cfgWrite fn 4 v 0xF).fnCfg fn).mse = v.getLsbD 1 ∧
    (s.cfgWrite fn 4 v 0xF).hf.bme = (match fn with
      | .pf0 => v.getLsbD 2
      | .pf1 => s.hf.bme) := by
  unfold State.cfgWrite
  rw [mergeBytes_all, if_pos rfl]
  cases fn with
  | pf0 =>
    obtain ⟨bme, cfg⟩ := writeBme_spec ((s.onFnCfg .pf0 fun c => c.put .pf0 4 v.toNat).onFnCfg .pf0 fun c =>
      { c with mse := bitOf v.toNat 1 }) (bitOf v.toNat 2)
    exact ⟨congrArg FnConfig.mse (cfg .pf0), bme⟩
  | pf1 => exact ⟨rfl, rfl⟩

/-! ## L1 (R293) -/

theorem suspend_hf (s : State) (cause : SuspendCause) (scope : BitVec 64) :
    (s.suspend cause scope).hf = s.hf ∧ (s.suspend cause scope).grizzly.g = s.grizzly.g := by
  refine ⟨(suspend_only ..).hf, ?_⟩
  unfold State.suspend
  split
  · rfl
  split
  · rfl
  · obtain ⟨_, _, _, _, _, _, _, e⟩ := event_reported ({ s with
      grizzly.suspensions := s.grizzly.suspensions ++ [{ cause, scope, metSince := none }]
      grizzly.suspendCause := suspendCode cause } : State) .guaranteeSuspended .grizzly 0xFF
      (leBytes 1 (suspendCode cause) ++ leBytes 8 scope.toNat)
    rw [e]

/-- L1 drains nothing, and CLKREQ_N is released where the host permits it. -/
theorem enterL1_spec (s : State) : s.enterL1.hf = { s.hf with inL1 := true } ∧
    s.enterL1.power.clkreq = (s.power.clkreq && !s.hf.cfg0.l12On) ∧ s.enterL1.grizzly.g = 0 ∧ s.enterL1.grizzly.bins = [] := by
  unfold State.enterL1
  exact ⟨(suspend_hf ..).1, congrArg Power.clkreq (suspend_only ..).power, (suspend_hf ..).2, rfl⟩

end Sys2Proof.Machine
end

section
namespace Sys2Proof.Machine

set_option Elab.async false

/-! ## Commands of bus mastering and link power -/

section
variable (s : State)

theorem setHf_only (m : Headframe) : Alters [.hf] s { s with hf := m } :=
  .set fun p hp => by cases p <;> first | rfl | exact absurd ((Part.mem_bits ..).2 rfl) hp

/-- What it is for PF0 to stop as a requester, whatever turned it off. -/
theorem busGoes_stops (m : Headframe) (hm : m.tags = s.hf.tags) : OnlyChanges [.grizzly, .smelter, .hf, .regs, .fm] s
      ({ s with hf := m } : State).busGoes ∧
    (∀ x ∈ ({ s with hf := m } : State).busGoes.hf.tags, x.orphaned = true ∨ x.timedOut = true) ∧
    ({ s with hf := m } : State).busGoes.hf.tags.length = s.hf.tags.length ∧
    (∀ k : Fin 16, ({ s with hf := m } : State).busGoes.smelter.engines[k] = none) ∧
    ({ s with hf := m } : State).busGoes.smelter.fetching = [] ∧
    ({ s with hf := m } : State).busGoes.smelter.queue = s.smelter.queue ∧
    (s.scopeAll ≠ 0 → ∃ x ∈ ({ s with hf := m } : State).busGoes.grizzly.suspensions,
      x.cause = .busMasterOff ∧ x.metSince = none) := by
  obtain ⟨-, orphaned, length, engines, fetching, queue, open_⟩ := busGoes_spec { s with hf := m }
  exact ⟨((busGoes_only _).next (setHf_only s m).mono).only, orphaned, length.trans (congrArg List.length hm), engines,
    fetching, queue, open_⟩

/-- What it is for PF0 to issue requests again. -/
theorem busReturns_returns {m : Headframe} (hb : m.bme = true) (hd : m.d3hot = false) (hl : m.l0 = true)
    (hc : m.cfg0 = s.hf.cfg0) (hi : m.ide = s.hf.ide) :
    OnlyChanges [.power, .streams, .grizzly, .smelter, .hf, .regs, .sent] s ({ s with hf := m } : State).busReturns ∧
    ({ s with hf := m } : State).busReturns.smelter.stopped = [] ∧
    (∀ x ∈ s.smelter.stopped, HostWrote s ({ s with hf := m } : State).busReturns
      (s.smelter.base + 64 * x.2.slot + 0x30) ([2] ++ leBytes 1 jeAborted ++ leBytes 1 x.1 ++ List.replicate 13 (0 : Byte))) ∧
    ∀ x ∈ ({ s with hf := m } : State).busReturns.grizzly.suspensions, x.cause = .busMasterOff → x.metSince ≠ none := by
  obtain ⟨-, stopped, wrote, met⟩ := busReturns_spec (s := { s with hf := m }) hb hd hl
  refine ⟨((busReturns_only _).next (setHf_only s m).mono).only, stopped, fun x hx y hy => ?_, met⟩
  have size : ({ s with hf := m } : State).maxPayloadSize = s.maxPayloadSize := congrArg
    (fun c : FnConfig => min 512 (128 * 2 ^ ((c.word .pf0 offDevCtl / 2 ^ 5) % 8))) hc
  have stream : ({ s with hf := m } : State).ideFor y.1 = s.ideFor y.1 := by
    unfold State.ideFor
    rw [show ({ s with hf := m } : State).hf.ide = s.hf.ide from hi]
  have sent := wrote x hx y (by rw [size]; exact hy)
  rwa [stream] at sent

end

theorem configRequest_reads {s : State} (hl : s.hf.l0 = true) (hr : s.hf.ready = true) (fn : Fn) (off : Nat) :
    s.configRequest fn off none = s.send (.configReply fn false (BitVec.ofNat 32 (s.cfgRead fn (off / 4 * 4)))) := by
  simp [State.configRequest, hl, hr]

theorem configRequest_writes {s : State} (hl : s.hf.l0 = true) (hr : s.hf.ready = true) (fn : Fn) (off : Nat) (v : Word)
    (be : BitVec 4) : s.configRequest fn off (some (v, be)) =
      (s.cfgWrite fn (off / 4 * 4) v be).send (.configReply fn false 0) := by
  simp [State.configRequest, hl, hr]

/-- Settles O33: the bus master by what it stops and what its return writes, the link by the guards of L1 and L0p. -/
theorem busMasteringAndLinkPower : Obligations.BusMasteringAndLinkPower := by
  unfold Obligations.BusMasteringAndLinkPower
  refine ⟨⟨fun s hb => ?busOff, fun s hb => ?busOffAlready, fun s hd => ?d3, fun s hd => ?d3Already,
      fun s hb hl hd => ?busOn, fun s hb => ?busOnAlready, fun s hd hl hb => ?d0, fun s hd hb => ?d0Off,
      fun s fn => ?memoryOff⟩,
    fun s fn off write hl hr => ?retry, fun s fn off hl hr => ?reads, fun s hl hr => ⟨?identity0, ?identity1⟩,
    fun s fn off v be hl hr => ?writes, fun s fn off write hl => ?noLink, fun s hl h1 hc ha => ?l1, fun s h => ?l1Stays,
    fun s width hl hf => ⟨fun ha => ⟨?declined, ?deviceDeclined⟩, fun ha hw => ⟨?narrows, fun h => ?deviceNarrows⟩⟩,
    fun s width hf => ⟨?noFlit, ?deviceNoFlit⟩⟩
  case busOff =>
    exact ⟨({ s with hf.bme := false } : State).busGoes, completes_of_ran (by simp [exec, execBusMasterClear, hb]),
      (busGoes_spec _).1.bme, (busGoes_spec _).1.d3hot, busGoes_stops s _ rfl⟩
  case busOffAlready => exact completes_of_ran (by simp [exec, execBusMasterClear, hb])
  case d3 =>
    exact ⟨({ s with hf.d3hot := true } : State).busGoes, completes_of_ran (by simp [exec, execD3hotEntry, hd]),
      (busGoes_spec _).1.d3hot, (busGoes_spec _).1.bme, busGoes_stops s _ rfl⟩
  case d3Already => exact completes_of_ran (by simp [exec, execD3hotEntry, hd])
  case busOn =>
    exact ⟨({ s with hf.bme := true } : State).busReturns, completes_of_ran (by simp [exec, execBusMasterSet, hb]),
      (busReturns_fnKept _).bme, busReturns_returns s rfl hd hl rfl rfl⟩
  case busOnAlready => exact completes_of_ran (by simp [exec, execBusMasterSet, hb])
  case d0 =>
    exact ⟨({ s with hf.d3hot := false } : State).busReturns, completes_of_ran (by simp [exec, execD0Return, hd]),
      (busReturns_fnKept _).d3hot, busReturns_returns s hb rfl hl rfl rfl⟩
  case d0Off =>
    exact completes_of_ran (by
      simp [exec, execD0Return, hd, busReturns_off (s := { s with hf.d3hot := false }) (.inl hb)])
  case memoryOff =>
    exact ⟨_, completes_of_ran rfl, (onFnCfg_only ..).only, by rw [onFnCfg_fnCfg], by rw [onFnCfg_fnCfg], by cases fn <;> rfl⟩
  case retry => exact completes_of_ran (by simp [exec, execConfigRequest, State.configRequest, hl, hr])
  case reads => exact completes_of_ran (congrArg (ran s) (configRequest_reads hl hr fn off))
  case identity0 => exact completes_of_ran (congrArg (ran s) (configRequest_reads hl hr .pf0 0))
  case identity1 => exact completes_of_ran (congrArg (ran s) (configRequest_reads hl hr .pf1 0))
  case writes =>
    refine ⟨_, completes_of_ran (congrArg (ran s) (configRequest_writes hl hr fn off v be)), rfl,
      ((send_only ..).next (cfgWrite_only s fn (off / 4 * 4) v be).mono).only, ?_⟩
    rintro rfl rfl
    exact cfgWrite_command s fn v
  case noLink => exact completes_of_ran (by simp [exec, execConfigRequest, State.configRequest, hl])
  case l1 =>
    exact ⟨s.enterL1, completes_of_ran (by simp [exec, execAspmL1Entry, hl, h1, hc, ha]), (enterL1_only s).only, enterL1_spec s⟩
  case l1Stays => exact completes_of_ran (by rcases h with h | h | h | h <;> simp [exec, execAspmL1Entry, h])
  case declined => exact completes_of_ran (by simp [exec, execL0pRequest, hl, hf, ha, State.send])
  case deviceDeclined => exact completes_of_ran (by simp [exec, execL0pDeviceRequest, ha])
  case narrows => exact completes_of_ran (by simp [exec, execL0pRequest, hl, hf, ha, hw, State.takeL0p, State.send])
  case deviceNarrows =>
    exact completes_of_ran (by
      rcases h with rfl | rfl <;> simp [exec, execL0pDeviceRequest, hl, hf, ha, hw, State.takeL0p, State.send])
  case noFlit => exact completes_of_ran (by simp [exec, execL0pRequest, hf])
  case deviceNoFlit => exact completes_of_ran (by simp [exec, execL0pDeviceRequest, hf])

end Sys2Proof.Machine
end

section
namespace Sys2Proof.Machine

set_option Elab.async false

/-! ## The record at the head (R361) -/

/-- The state in which a record that stood alone in the queue takes effect. -/
def State.recordTaken (s : State) : State := { s with twin.recQueue := [] }

theorem recordTaken_only (s : State) : Alters [.twin] s s.recordTaken := .set fun p hp => by
  cases p <;> first | rfl | exact absurd ((Part.mem_bits ..).2 rfl) hp

theorem drainRecords_empty {s : State} (h : s.twin.recQueue = []) : s.drainRecords = s := by
  have same : ({ s with twin.recQueue := s.twin.recQueue } : State) = s := rfl
  rw [h] at same
  unfold State.drainRecords
  rw [h]
  exact same

/-- A record that stands alone is taken by the command of its kind; with no record behind it nothing else follows. -/
theorem popRecord_alone {s : State} {f : XcRecord → Option (State → State)} {r : XcRecord} {g : State → State}
    (hq : s.twin.recQueue = [r]) (hf : f r = some g) (hn : (g s.recordTaken).twin.recQueue = []) :
    s.popRecord f = g s.recordTaken := by
  unfold State.popRecord
  rw [hq]
  dsimp only
  rw [hf]
  exact drainRecords_empty hn

/-- Records sent queue behind those to be sent, not behind those received. -/
theorem xcSend_twin (s : State) (r : XcRecord) : ∃ l, (s.xcSend r).twin = { s.twin with recOut := l } := by
  unfold State.xcSend
  split
  · dsimp only
    split <;> exact ⟨_, rfl⟩
  · exact ⟨s.twin.recOut, rfl⟩

/-! ## Divergence (R369) -/

/-- A divergence found by comparing headers exposes the pair. -/
theorem diverge_header {s : State} (hp : s.paired = true) : (s.diverge 1).twin =
    { s.twin with
        divergeCause := 1, divergences := inc32 s.twin.divergences, pairState := 6, resyncDue := some s.sv.sidx
        resyncAt := none } := by
  unfold State.diverge State.exposePair
  simp only [dcHeader, bne_self_eq_false, Bool.and_false, Bool.false_and]
  rw [if_neg Bool.false_ne_true, if_pos hp, (event_only ..).twin]
  rfl

/-! ## The door of a Shadow (R218, R367) -/

/-- An ingot let in by a Shadow stands behind those that it keeps. -/
theorem letIn_shadow {s : State} {q : Nat} (hq : q < 64) (hs : s.isShadow = true) (i : Ingot) :
    ((s.letIn q i).stream q).waiting = (s.stream q).waiting ∧
      ((s.letIn q i).stream q).admitted = inc64 (s.stream q).admitted ∧
      ∃ x : Ingot, ((s.letIn q i).stream q).shadowKept = (s.stream q).shadowKept ++ [x] ∧ x.seq = i.seq ∧ x.sidx = i.sidx ∧
        x.type = i.type ∧ x.stored = i.stored := by
  have closed : (s.closeRun q).isShadow = true ∧ ((s.closeRun q).stream q).waiting = (s.stream q).waiting ∧
      ((s.closeRun q).stream q).admitted = (s.stream q).admitted ∧
      ((s.closeRun q).stream q).shadowKept = (s.stream q).shadowKept := by
    have role : (s.closeRun q).isShadow = s.isShadow := by
      unfold State.isShadow State.role
      rw [(closeRun_only s q).twin]
    refine ⟨role.trans hs, ?_⟩
    unfold State.closeRun
    split
    · exact ⟨rfl, rfl, rfl⟩
    · have stream (u : State) (code : EvCode) (unit : UnitId) (n : Nat) (d : List Byte) :
          (u.notice code unit n d).stream q = u.stream q := by
        unfold State.stream
        rw [(notice_only ..).streams]
      rw [stream, State.stream_onStream_same _ _ _ hq]
      exact ⟨rfl, rfl, rfl⟩
  unfold State.letIn
  extract_lets u j
  obtain ⟨role, waiting, admitted, kept⟩ := closed
  rw [State.stream_onStream_same _ _ _ hq, if_pos role]
  exact ⟨waiting, congrArg inc64 admitted, j, congrArg (· ++ [j]) kept, rfl, rfl, rfl, rfl⟩

theorem countGap_stream (s : State) {q : Nat} (hq : q < 64) (cause : Nat) :
    ((s.countGap q cause).stream q).waiting = (s.stream q).waiting ∧
      ((s.countGap q cause).stream q).admitted = (s.stream q).admitted ∧
      ((s.countGap q cause).stream q).shadowKept = (s.stream q).shadowKept := by
  unfold State.countGap
  split
  · rw [State.stream_onStream_same _ _ _ hq]
    exact ⟨rfl, rfl, rfl⟩
  · exact ⟨rfl, rfl, rfl⟩

/-- A Shadow that compares no headers applies the Active's decision: the ingot, or a GAP in its place. -/
theorem shadowThrough_spec {s : State} {q : Nat} (hq : q < 64) (hs : s.isShadow = true) (hp : s.paired = false) (i : Ingot)
    (kept : Bool) : (s.shadowThrough q i kept).twin.recQueue = s.twin.recQueue ∧
      ((s.shadowThrough q i kept).stream q).waiting = (s.stream q).waiting ∧
      ((s.shadowThrough q i kept).stream q).admitted = inc64 (s.stream q).admitted ∧
      ∃ x : Ingot, ((s.shadowThrough q i kept).stream q).shadowKept = (s.stream q).shadowKept ++ [x] ∧ x.seq = i.seq ∧
        x.sidx = i.sidx ∧ (kept = true → x.type = i.type ∧ x.stored = i.stored) ∧ (kept = false → x.type = 4) := by
  unfold State.shadowThrough
  extract_lets _ u j v cause
  have alone : u.paired = false := hp
  have apart : v = u := if_neg (by rw [alone]; exact Bool.false_ne_true)
  have role : u.isShadow = true := hs
  rw [apart]
  cases kept
  · rw [if_neg Bool.false_ne_true]
    have counted := countGap_only u q cause
    obtain ⟨waiting, admitted, keep⟩ := countGap_stream u hq cause
    have role' : (u.countGap q cause).isShadow = true := by
      unfold State.isShadow State.role
      rw [counted.twin]
      exact role
    obtain ⟨waiting', admitted', x, keep', seq, sidx, type, -⟩ := letIn_shadow hq role' (j.gapOf cause j.size)
    refine ⟨?_, waiting'.trans waiting, admitted'.trans (congrArg inc64 admitted), x,
      keep'.trans (congrArg (· ++ [x]) keep), seq,
      sidx, nofun, fun _ => type⟩
    rw [(letIn_only ..).twin, counted.twin]
  · rw [if_pos rfl]
    obtain ⟨waiting, admitted, x, keep, seq, sidx, type, stored⟩ := letIn_shadow hq role j
    refine ⟨?_, waiting, admitted, x, keep, seq, sidx, fun _ => ⟨type, stored⟩, nofun⟩
    rw [(letIn_only ..).twin]

/-- One decision of the Active on the next ingot of a stream, which is sealed. -/
theorem doorRecord_spec {s : State} {q : Nat} (hq : q < 64) (hs : s.isShadow = true) (hp : s.paired = false)
    (hd : s.twin.doorPeer = []) {i : Ingot} {l : List Ingot} (hw : (s.stream q).waiting = i :: l) (hi : i.isSealed = true)
    (kept : Bool) : (s.doorRecord q i.seq kept).twin.recQueue = s.twin.recQueue ∧
      ((s.doorRecord q i.seq kept).stream q).waiting = l ∧
      ((s.doorRecord q i.seq kept).stream q).admitted = inc64 (s.stream q).admitted ∧
      ∃ x : Ingot, ((s.doorRecord q i.seq kept).stream q).shadowKept = (s.stream q).shadowKept ++ [x] ∧ x.seq = i.seq ∧
        x.sidx = i.sidx ∧ (kept = true → x.type = i.type ∧ x.stored = i.stored) ∧ (kept = false → x.type = 4) := by
  have made : s.hasMade q i.seq = true := by
    unfold State.hasMade
    rw [hw]
    simp
  have door : ({ s with twin.doorPeer := s.twin.doorPeer ++ [(q, i.seq, kept)] } : State).peerDoor q i.seq = some kept := by
    unfold State.peerDoor
    rw [hd]
    simp
  have e : s.doorRecord q i.seq kept = (({ s with twin.doorPeer := s.twin.doorPeer ++ [(q, i.seq, kept)] } : State).onStream q
      fun m => { m with waiting := l }).shadowThrough q i kept := by
    unfold State.doorRecord State.shadowDoor
    rw [if_pos made]
    generalize hu : ({ s with twin.doorPeer := s.twin.doorPeer ++ [(q, i.seq, kept)] } : State) = u at door ⊢
    have waits : (u.stream q).waiting = i :: l := by rw [← hu]; exact hw
    rw [waits]
    dsimp only
    rw [door]
    exact if_pos hi
  rw [e]
  generalize hu : ({ s with twin.doorPeer := s.twin.doorPeer ++ [(q, i.seq, kept)] } : State) = u
  have role : u.isShadow = true := by rw [← hu]; exact hs
  have apart : u.paired = false := by rw [← hu]; exact hp
  have stream : u.stream q = s.stream q := by rw [← hu]; rfl
  have queue : u.twin.recQueue = s.twin.recQueue := by rw [← hu]
  obtain ⟨queue', waiting, admitted, x, keep, rest⟩ := shadowThrough_spec
    (s := u.onStream q fun m => { m with waiting := l }) hq role apart i kept
  rw [State.stream_onStream_same _ _ _ hq, stream] at waiting admitted keep
  exact ⟨queue'.trans queue, waiting, admitted, x, keep, rest⟩

end Sys2Proof.Machine
end

section
namespace Sys2Proof.Machine

set_option Elab.async false

/-! ## Little-endian bytes (R6) -/

@[simp] theorem leBytes_length (n v : Nat) : (leBytes n v).length = n := by
  induction n generalizing v with
  | zero => rfl
  | succ n ih => rw [leBytes, List.length_cons, ih]

theorem leNat_leBytes (n v : Nat) : leNat (leBytes n v) = v % 256 ^ n := by
  induction n generalizing v with
  | zero => rw [Nat.pow_zero, Nat.mod_one, leBytes, leNat]
  | succ n ih =>
    have byte : (BitVec.ofNat 8 v).toNat = v % 256 := BitVec.toNat_ofNat v 8
    rw [leBytes, leNat, ih, byte, Nat.pow_succ', Nat.mod_mul]

/-- A cursor record is 64 bytes long, its GEN at offset 4 (Table 9.4). -/
theorem cursorRecord_layout (s : State) (n : Nat) (f : Formed) (seq sidx : Nat) :
    (s.cursorRecord n f seq sidx).length = 64 ∧ getLe (s.cursorRecord n f seq sidx) 4 4 = f.gen % 2 ^ 32 := by
  unfold State.cursorRecord
  constructor
  · simp only [List.length_append, leBytes_length]
  · unfold getLe
    simp only [List.append_assoc]
    rw [← List.append_assoc (leBytes 1 (s.kindOf n)), ← List.append_assoc (leBytes 1 n),
      List.drop_left' (by simp only [List.length_append, leBytes_length]), List.take_left' (leBytes_length ..), leNat_leBytes]
    rfl

/-! ## Cursor records transmitted (R284, R290, R368) -/

section
variable (s : State)

theorem wakeLink_rings : s.wakeLink.hf.rings = s.hf.rings := by
  unfold State.wakeLink
  split <;> rfl

theorem ring_congr {s t : State} (h : t.hf.rings = s.hf.rings) (n : Nat) : t.ring n = s.ring n := by
  unfold State.ring
  rw [h]

theorem sendVector_rings (fn : Fn) (v : Nat) : (s.sendVector fn v).hf.rings = s.hf.rings := by
  cases fn <;> exact wakeLink_rings s

theorem raiseVector_rings (fn : Fn) (v : Nat) : (s.raiseVector fn v).hf.rings = s.hf.rings := by
  unfold State.raiseVector
  split
  · exact sendVector_rings ..
  · cases fn <;> rfl

theorem hostWrite_rings (addr : Nat) (data : List Byte) : (s.hostWrite addr data).hf.rings = s.hf.rings := by
  have each (xs : List (Nat × List Byte)) (u : State) :
      (xs.foldl (fun s x => s.send (.hostWrite (s.ideFor x.1) x.1 x.2)) u).hf = u.hf := by
    induction xs generalizing u with
    | nil => rfl
    | cons x xs ih => exact ih _
  exact (congrArg Headframe.rings (each _ _)).trans (wakeLink_rings s)

theorem onRing_hostKept (n : Nat) (f : Ring → Ring) : HostKept s (s.onRing n f) :=
  ⟨rfl, rfl, rfl, rfl, rfl, rfl, rfl, fun _ h => h, id⟩

theorem onStream_hostKept (n : Nat) (f : Stream → Stream) : HostKept s (s.onStream n f) :=
  ⟨rfl, rfl, rfl, rfl, rfl, rfl, rfl, fun _ h => h, id⟩

theorem checkDue_hostKept (n : Nat) : HostKept s (s.checkDue n) :=
  .ite ((onRing_hostKept ..).trans (raiseVector_hostKept ..)) (.refl s)

/-- A vector that becomes due restarts the counts of its ring and leaves the rest of it. -/
theorem checkDue_ring {n : Nat} (hn : n < 65) : ((s.checkDue n).ring n).awaiting = (s.ring n).awaiting ∧
    ((s.checkDue n).ring n).wrPos = (s.ring n).wrPos ∧ ((s.checkDue n).ring n).uncovered = (s.ring n).uncovered := by
  unfold State.checkDue State.ringDue
  extract_lets r
  split
  · have ring (u : State) : (u.raiseVector .pf0 n).ring n = u.ring n := ring_congr (raiseVector_rings u .pf0 n) n
    rw [ring, State.ring_onRing_same _ _ _ hn]
    exact ⟨rfl, rfl, rfl⟩
  · exact ⟨rfl, rfl, rfl⟩

/-- A formed record leaves for the host: 64 bytes with its GEN, and the images that it covers are delivered. -/
theorem transmitCursor_spec {n : Nat} (hn : n < 65) (f : Formed) : ((s.transmitCursor n f).ring n).awaiting = none ∧
    ((s.transmitCursor n f).ring n).wrPos = f.wrPos ∧
    ((s.transmitCursor n f).ring n).uncovered = (s.ring n).uncovered.drop f.images ∧
    ∃ r, HostWrote s (s.transmitCursor n f) (s.ring n).cur r ∧ r.length = 64 ∧ getLe r 4 4 = f.gen % 2 ^ 32 := by
  unfold State.transmitCursor
  extract_lets r cov last x u v w
  obtain ⟨length, gen⟩ := cursorRecord_layout s n f x.1 x.2
  have wrote : HostWrote s u r.cur (s.cursorRecord n f x.1 x.2) := hostWrite_wrote s r.cur _
  have hu : u.ring n = r := ring_congr (hostWrite_rings ..) n
  clear_value u
  have hv : HostKept u v ∧ v.ring n = u.ring n := by
    simp only [v]
    split
    · exact ⟨onStream_hostKept .., rfl⟩
    · exact ⟨.refl u, rfl⟩
  clear_value v
  have kept : HostKept u w := hv.1.trans (onRing_hostKept ..)
  have ring : w.ring n = _ := State.ring_onRing_same v n _ hn
  clear_value w
  obtain ⟨awaiting, wrPos, uncovered⟩ := checkDue_ring w hn
  rw [awaiting, wrPos, uncovered, ring, hv.2, hu]
  exact ⟨rfl, rfl, rfl, _, wrote.congr (.refl s) (kept.trans (checkDue_hostKept w n)).sent, length, gen⟩

end

/-! ## What the records of the Crosscut do (R361, R366 to R370) -/

section
variable {s : State}

/-- A CURSOR record is kept and confirmed (R368). -/
theorem cursorRecordIn_spec (hp : s.partnered = true) (ha : s.twin.awaitHandoff = 0) (n : Fin 64) (c : CursorRec) :
    Alters [.regs, .twin, .sent] s (s.cursorRecordIn n.val n.isLt c) ∧
      (s.cursorRecordIn n.val n.isLt c).twin.recQueue = s.twin.recQueue ∧
      (s.cursorRecordIn n.val n.isLt c).twin.cursors[n] = some c ∧
      Sent.xcRecord (.confirm n c.gen) ∈ (s.cursorRecordIn n.val n.isLt c).sent := by
  have set : Alters [.twin] s { s with twin.cursors := vmod s.twin.cursors n.val fun _ => some c } := .set fun p hp => by
    cases p <;> first | rfl | exact absurd ((Part.mem_bits ..).2 rfl) hp
  have kept : ({ s with twin.cursors := vmod s.twin.cursors n.val fun _ => some c } : State).twin.cursors[n] = some c := by
    simp [vmod]
  have queue : ({ s with twin.cursors := vmod s.twin.cursors n.val fun _ => some c } : State).twin.recQueue = s.twin.recQueue := rfl
  have handoff : ({ s with twin.cursors := vmod s.twin.cursors n.val fun _ => some c } : State).twin.awaitHandoff = 0 := ha
  have partner : ({ s with twin.cursors := vmod s.twin.cursors n.val fun _ => some c } : State).partnered = true := hp
  unfold State.cursorRecordIn
  generalize ({ s with twin.cursors := vmod s.twin.cursors n.val fun _ => some c } : State) = u at set kept queue handoff partner ⊢
  obtain ⟨l, twin⟩ := xcSend_twin u (.confirm n c.gen)
  dsimp only
  rw [if_neg (by rw [twin, handoff]; simp), twin]
  exact ⟨(xcSend_only ..).next set.mono, queue, kept, xcSend_sent partner _⟩

/-- The CONFIRM that a formed record waits for lets it leave (R368). -/
theorem confirmCursor_spec {n : Nat} (hn : n < 65) {f : Formed} (hf : (s.ring n).awaiting = some f) :
    (s.confirmCursor n f.gen).twin.recQueue = s.twin.recQueue ∧ ((s.confirmCursor n f.gen).ring n).awaiting = none ∧
      ((s.confirmCursor n f.gen).ring n).wrPos = f.wrPos ∧
      ((s.confirmCursor n f.gen).ring n).uncovered = (s.ring n).uncovered.drop f.images ∧
      ∃ r, HostWrote s (s.confirmCursor n f.gen) (s.ring n).cur r ∧ r.length = 64 ∧ getLe r 4 4 = f.gen % 2 ^ 32 := by
  unfold State.confirmCursor
  rw [hf]
  dsimp only
  rw [if_pos (beq_self_eq_true _)]
  refine ⟨?_, transmitCursor_spec _ hn f⟩
  rw [(transmitCursor_only ..).twin]

theorem confirmCursor_other {n : Nat} {f : Formed} (hf : (s.ring n).awaiting = some f) {gen : Nat} (hg : f.gen ≠ gen) :
    s.confirmCursor n gen = s := by
  unfold State.confirmCursor
  rw [hf]
  exact if_neg (by simpa using hg)

/-- What the host returned is freed (R367). -/
theorem ackRecord_spec {n q : Nat} (hn : n < 65) (hq : s.streamOn n = some q) (rdPos first : Nat) :
    ((s.ackRecord n rdPos first).ring n).rdPos = rdPos ∧
      ((s.ackRecord n rdPos first).stream q).shadowKept = fromSeq first (s.stream q).shadowKept := by
  have lt : q < 64 := List.mem_range.1 (List.mem_of_find?_eq_some hq)
  unfold State.ackRecord
  extract_lets u
  have on : u.streamOn n = some q := hq
  rw [on]
  constructor
  · exact congrArg Ring.rdPos (State.ring_onRing_same s n _ hn)
  · exact congrArg Stream.shadowKept (State.stream_onStream_same u q _ lt)

/-- The stream numbers of the Shadow go on from those of the Active (R370; log 33). -/
theorem loadSync_nextSeq (s : State) (x : SyncState) (base : List Nat) (q : Fin 64) {v e : Nat}
    (ha : s.streams[q].armed = true) (hv : x.streamSeq[q.val]? = some v) (he : base[q.val]? = some e) :
    (s.loadSync x base).streams[q].nextSeq = v + s.streams[q].nextSeq - e := by
  have h : (s.loadSync x base).streams[q] = _ := Vector.getElem_mapIdx q.isLt
  have armed : s.streams[q.val].armed = true := ha
  rw [h, armed, hv, he]
  rfl

end
end Sys2Proof.Machine
end

section
namespace Sys2Proof.Machine

set_option Elab.async false

/-! ## Records of epochs in a pair (R28, R366) -/

section
variable {s : State}

/-- With neither check nor commit in progress elsewhere, the Active's word is kept until the instant (R366). -/
theorem peerDecides_go (hc : s.modes.check = none) (hm : s.modes.committed ≠ none) :
    s.peerDecides true = { s with twin.go := some true } := by
  unfold State.peerDecides
  rw [hc]
  exact if_pos (Option.isSome_iff_ne_none.2 hm)

theorem peerDecides_abort (hc : s.modes.check = none) (hm : s.modes.committed ≠ none) :
    s.peerDecides false = s.abortChange ceNotReady 0 := by
  unfold State.peerDecides
  rw [hc]
  exact if_pos (Option.isSome_iff_ne_none.2 hm)

theorem peerDecides_passes {e : AfterEpoch} (hc : s.modes.check = some e) : s.peerDecides true = s.checkPasses := by
  unfold State.peerDecides
  rw [hc]
  rfl

theorem peerDecides_fails {e : AfterEpoch} (hc : s.modes.check = some e) : s.peerDecides false = s.checkFails e 0 := by
  unfold State.peerDecides
  rw [hc]
  rfl

theorem checkPasses_recQueue (s : State) : s.checkPasses.twin.recQueue = s.twin.recQueue := by
  unfold State.checkPasses
  rw [(writeHeaders_only _).twin]

theorem checkFails_recQueue (s : State) (e : AfterEpoch) (mask : BitVec 11) :
    (s.checkFails e mask).twin.recQueue = s.twin.recQueue := by
  unfold State.checkFails
  rw [(writeHeaders_only _).twin, (splitWindows_only _).twin]

/-- The Active of a pair counts what its Shadow reports. -/
theorem needsShadow_of_active (hr : s.role = 1) (hp : s.partnered = true) : s.needsShadow = true := by
  unfold State.needsShadow
  rw [hr, hp]
  rfl

end

/-! ## Header records (R369) -/

theorem peerHdr_agrees {s : State} {q seq : Nat} {crc : BitVec 16} (h : hdrFor q seq s.twin.hdrOwn = some crc) :
    s.peerHdr q seq crc = { s with twin.hdrOwn := hdrDrop q seq s.twin.hdrOwn } := by
  unfold State.peerHdr
  rw [h]
  exact if_pos (beq_self_eq_true _)

theorem peerHdr_differs {s : State} {q seq : Nat} {c crc : BitVec 16} (h : hdrFor q seq s.twin.hdrOwn = some c) (hc : c ≠ crc)
    (hp : s.paired = true) : (s.peerHdr q seq crc).twin = { s.twin with
      hdrOwn := hdrDrop q seq s.twin.hdrOwn, divergeCause := 1, divergences := inc32 s.twin.divergences, pairState := 6
      resyncDue := some s.sv.sidx, resyncAt := none } := by
  have e : s.peerHdr q seq crc = ({ s with twin.hdrOwn := hdrDrop q seq s.twin.hdrOwn } : State).diverge 1 := by
    unfold State.peerHdr
    rw [h]
    exact if_neg (by simpa using hc)
  rw [e]
  exact diverge_header hp

theorem peerHdr_waits {s : State} {q seq : Nat} (crc : BitVec 16) (h : hdrFor q seq s.twin.hdrOwn = none)
    (hl : s.twin.hdrPeer.length < 65536) :
    s.peerHdr q seq crc = { s with twin.hdrPeer := s.twin.hdrPeer ++ [(q, seq, crc)] } := by
  unfold State.peerHdr
  rw [h]
  exact if_pos hl

/-- A command that takes the one record of the queue. -/
theorem completes_record {c : Instr} {s t : State} {f : XcRecord → Option (State → State)} {r : XcRecord} {g : State → State}
    (he : exec c s = ran s (s.popRecord f)) (hq : s.twin.recQueue = [r]) (hf : f r = some g) (hg : g s.recordTaken = t)
    (hn : t.twin.recQueue = []) : Completes c s t := by
  subst hg
  exact completes_of_ran (he.trans (congrArg (ran s) (popRecord_alone hq hf hn)))

/-- Settles O45: every record is taken by its command from the head of the queue, and what it then does is said by the
operation of its kind. -/
theorem pairRecords : Obligations.PairRecords := by
  unfold Obligations.PairRecords
  refine ⟨fun s => ⟨fun q type crc seq hq hp => ⟨fun hh => ?same, fun c hh hc => ?differ, fun hh hl => ?first⟩,
    fun q i l m hq hs hw hi hd hp => ?door, fun n gen wrPos last written handoff hq hp ha => ?cursor,
    fun n gen f hq hf => ⟨fun hg => ?confirm, fun hg => ?otherGen⟩, fun n rdPos first q hq hs ho => ?ack,
    fun n base cursor sizeOrder enable irq hq hm => ?ring, fun n x hq hf => ?nack,
    fun x hq hm => ⟨fun hb => ?syncEarly, fun b hb => ?sync⟩⟩,
    fun s => ⟨fun hq hm => ⟨fun hc hp => ?go, fun e hc => ?passes⟩, fun hq hm => ⟨fun hc hp => ?abort, fun e hc => ?fails⟩,
      fun b hq hr hp => ?ready, fun b hq hr hp => ?applied⟩⟩
  case same => exact completes_record rfl hq rfl ((if_pos hp).trans (peerHdr_agrees (s := s.recordTaken) hh)) rfl
  case differ =>
    have twin := peerHdr_differs (s := s.recordTaken) hh hc hp
    refine ⟨_, completes_record rfl hq rfl (if_pos hp) ?_, ?_⟩ <;> rw [twin]
    · rfl
    · exact ⟨rfl, rfl, rfl, rfl⟩
  case first => exact completes_record rfl hq rfl ((if_pos hp).trans (peerHdr_waits (s := s.recordTaken) crc hh hl)) rfl
  case door =>
    obtain ⟨queue, spec⟩ := doorRecord_spec (s := s.recordTaken) q.isLt hs hp hd hw hi (m.getLsbD 0)
    exact ⟨_, completes_record rfl hq rfl (if_pos hs) queue, queue, spec⟩
  case cursor =>
    obtain ⟨only, queue, kept, sent⟩ := cursorRecordIn_spec (s := s.recordTaken) hp ha n
      { gen, wrPos, lastSeq := last, writtenSeq := written, handoff }
    exact ⟨_, completes_record rfl hq rfl rfl queue, (only.next (recordTaken_only s).mono).only, kept, sent⟩
  case confirm =>
    subst hg
    obtain ⟨queue, awaiting, wrPos, uncovered, r, wrote, length, gen⟩ := confirmCursor_spec (s := s.recordTaken)
      (Nat.lt_succ_of_lt n.isLt) hf
    exact ⟨_, r, completes_record rfl hq rfl rfl queue, awaiting, wrPos, uncovered, wrote, length, gen⟩
  case otherGen => exact completes_record rfl hq rfl (confirmCursor_other (s := s.recordTaken) hf hg) rfl
  case ack =>
    obtain ⟨pos, kept⟩ := ackRecord_spec (s := s.recordTaken) (Nat.lt_succ_of_lt n.isLt) ho rdPos first
    have only := ackRecord_only s.recordTaken n.val rdPos first
    refine ⟨_, completes_record rfl hq rfl (if_pos hs) ?_, (only.next (recordTaken_only s).mono).only, pos, kept⟩
    rw [only.twin]
    rfl
  case ring =>
    refine ⟨_, completes_record rfl hq rfl (if_pos hm) rfl, Alters.only (.set fun p hp => ?_), by simp [vmod]⟩
    cases p <;> first | rfl | exact absurd ((Part.mem_bits ..).2 rfl) hp
  case nack =>
    refine completes_record rfl hq rfl ?_ rfl
    show s.recordTaken.resend n = _
    unfold State.resend
    rw [show s.recordTaken.twin.recSent = s.twin.recSent from rfl, hf]
    rfl
  case syncEarly =>
    refine completes_record rfl hq rfl ((if_pos hm).trans ?_) rfl
    unfold State.syncRecord
    rw [show s.recordTaken.twin.syncBase = none from hb]
    rfl
  case sync =>
    have e : s.recordTaken.syncRecord x = s.recordTaken.loadSync x b := by
      unfold State.syncRecord
      rw [show s.recordTaken.twin.syncBase = some b from hb]
    exact ⟨_, completes_record rfl hq rfl ((if_pos hm).trans e) rfl,
      ((loadSync_only ..).next (recordTaken_only s).mono).only, rfl, rfl, rfl,
      fun q v e ha hv he => loadSync_nextSeq s.recordTaken x b q ha hv he⟩
  case go => exact completes_record rfl hq rfl ((if_pos hm).trans (peerDecides_go (s := s.recordTaken) hc hp)) rfl
  case passes =>
    have modes := checkPasses_modes s.recordTaken
    refine ⟨_, completes_record rfl hq rfl ((if_pos hm).trans (peerDecides_passes (s := s.recordTaken) hc))
      (checkPasses_recQueue _), ?_⟩
    rw [modes]
    exact ⟨rfl, rfl, rfl⟩
  case abort =>
    have modes := abortChange_modes s.recordTaken ceNotReady 0
    refine ⟨_, completes_record rfl hq rfl ((if_pos hm).trans (peerDecides_abort (s := s.recordTaken) hc hp)) ?_, ?_⟩
    · rw [abortChange_twin]
      rfl
    · rw [modes]
      exact ⟨rfl, rfl, rfl, rfl, rfl⟩
  case fails =>
    have modes := checkFails_modes s.recordTaken e 0
    refine ⟨_, completes_record rfl hq rfl ((if_pos hm).trans (peerDecides_fails (s := s.recordTaken) hc))
      (checkFails_recQueue ..), ?_⟩
    rw [modes]
    exact ⟨rfl, rfl, _, rfl, rfl, rfl, rfl⟩
  case ready => exact completes_record rfl hq rfl (if_pos (needsShadow_of_active (s := s.recordTaken) hr hp)) rfl
  case applied => exact completes_record rfl hq rfl (if_pos (needsShadow_of_active (s := s.recordTaken) hr hp)) rfl

end Sys2Proof.Machine
end

section
namespace Sys2Proof.Machine

set_option Elab.async false

/-! ## What the operations of the raster do to the Surveyor -/

/-- An operation that leaves the dictionary leaves the configuration in force. -/
theorem Alters.cfg {l : List Part} {s t : State} (h : Alters l s t) (index sub : Nat)
    (hp : Part.dict ∉ l := by decide) : t.cfg index sub = s.cfg index sub := by
  unfold State.cfg
  rw [h.dict hp]

/-- A report is not the Surveyor's. -/
theorem event_sv (s : State) (code : EvCode) (unit : UnitId) (inst : Nat) (detail : List Byte) :
    (s.event code unit inst detail).sv = s.sv := (event_only ..).sv

/-- RASTER_STATE and LOCK_CAUSE are set, and nothing else of the Surveyor (R54). -/
theorem setRaster_sv (s : State) (st cause : Nat) (detail : List Byte) :
    (s.setRaster st cause detail).sv = { s.sv with state := st, lockCause := cause } := by
  unfold State.setRaster
  extract_lets old t
  split
  · rfl
  split
  · exact event_sv ..
  split <;> exact event_sv ..

/-- The Surveyor on the sample on which HOLDOVER begins (R58, R76). -/
def Surveyor.held (v : Surveyor) (cause : Nat) : Surveyor :=
  { v.setInc v.incLineAgo with
    heldPeriod := v.ppl * 2 ^ 54 / max 1 v.incLineAgo, agreeRun := 0, missingRun := 0, lastFrame := none
    holdAlerted := false, holdMark := v.holdMark.put v.sidx, relockCount := inc32 v.relockCount
    state := rsHoldover, lockCause := cause }

theorem enterHoldover_sv {s : State} (h : s.sv.state = rsLocked) (cause : Nat) :
    (s.enterHoldover cause).sv = s.sv.held cause := by
  unfold State.enterHoldover
  rw [if_pos h]
  exact setRaster_sv ..

/-- Only a locked raster goes into HOLDOVER. -/
theorem enterHoldover_of_ne {s : State} (h : s.sv.state ≠ rsLocked) (cause : Nat) : s.enterHoldover cause = s :=
  if_neg h

theorem setInc_eq (v : Surveyor) (inc : Nat) : ∃ i l, v.setInc inc = { v with inc := i, incHist := l } := ⟨_, _, rfl⟩

/-- A new clock period moves INC with its history (R64). -/
theorem setPeriod_eq (v : Surveyor) (p : Nat) :
    ∃ i l, v.setPeriod p = { v with inc := i, incHist := l, period := p } := by
  unfold Surveyor.setPeriod
  split
  case isTrue h => exact ⟨v.inc, v.incHist, by rw [h]⟩
  case isFalse => exact ⟨_, _, rfl⟩

theorem clockFree_eq (s : State) : ∃ i l c, s.clockFree =
    { s with sv := { s.sv with inc := i, incHist := l, period := freePeriod, sampleClock := c } } := by
  obtain ⟨i, l, h⟩ := setPeriod_eq s.sv freePeriod
  exact ⟨i, l, _, by unfold State.clockFree; rw [h]⟩

/-- Steering moves the clock period, and INC with it (R62). -/
theorem steer_sv (s : State) (period : Nat) : ∃ i l p c,
    (s.steer period).sv = { s.sv with inc := i, incHist := l, period := p, sampleClock := c } := by
  unfold State.steer
  extract_lets spl req p
  obtain ⟨i, l, steered⟩ := setPeriod_eq s.sv p
  obtain ⟨j, m, freed⟩ := setPeriod_eq s.sv freePeriod
  split
  · exact ⟨_, _, _, _, rfl⟩
  split
  · exact ⟨i, l, p, 1, congrArg (fun v : Surveyor => { v with sampleClock := 1 }) steered⟩
  split
  · exact ⟨_, _, _, _, rfl⟩
  · exact ⟨j, m, freePeriod, 2,
      (event_sv ..).trans (congrArg (fun v : Surveyor => { v with sampleClock := 2 }) freed)⟩

/-- The dither of a sample is its sub-pixel and what it is made from (R56, R61). -/
theorem dither_eq (v : Surveyor) (seed : Nat) :
    ∃ d b e l, v.dither seed = { v with ditherWas := d, sub := b, err := e, lfsr := l } := by
  unfold Surveyor.dither
  extract_lets
  split <;> exact ⟨_, _, _, _, rfl⟩

/-- The raster placed on the reference: the line there, the rest of the stamp (R55, R59). -/
theorem placeAt_eq (v : Surveyor) (frame line bin seed : Nat) : ∃ f p a b c l d e g h,
    v.placeAt frame line bin seed =
      { v with frame := frame % 2 ^ 24, line, field := f, pos := p, corr := 0, lineStart := a, frameStart := b
               pixelCross := c, lastFrameStart := l, ditherWas := d, sub := e, err := g, lfsr := h } := by
  unfold Surveyor.placeAt Surveyor.stampAgain
  obtain ⟨d, e, g, h, k⟩ := dither_eq _ seed
  rw [k]
  exact ⟨_, _, _, _, _, _, _, _, _, _, rfl⟩

/-! ## Faults that isolate nothing leave the Surveyor alone -/

theorem fault_only_fm (s : State) {cls : FaultClass} (h : cls ≠ .isolate) (code : EvCode) (unit : UnitId) (inst : Nat)
    (detail : List Byte) : Alters [.fm] s (s.fault cls code unit inst detail) :=
  raiseFault_only_fm s h false

theorem enqueueFull_conditions (s : State) (f : Faulted) : (s.enqueueFull f).fm.conditions = s.fm.conditions := by
  unfold State.enqueueFull
  split
  · rfl
  · extract_lets
    split <;> split <;> rfl

theorem enqueueFault_conditions (s : State) (f : Faulted) : (s.enqueueFault f).fm.conditions = s.fm.conditions := by
  unfold State.enqueueFault
  extract_lets
  split
  · split <;> rfl
  · exact enqueueFull_conditions ..

theorem requeueFront_conditions (s : State) (f : Faulted) : (s.requeueFront f).fm.conditions = s.fm.conditions := by
  unfold State.requeueFront
  split
  · rfl
  · exact enqueueFull_conditions ..

/-- Wherever the intake puts a Degrade fault, its condition is present from then on (Table 13.2). -/
theorem fault_degrade_condition (s : State) (code : EvCode) (unit : UnitId) (inst : Nat) (detail : List Byte) :
    ({ code, unit, inst } : Condition) ∈ (s.fault .degrade code unit inst detail).fm.conditions := by
  obtain ⟨c, noted, present⟩ := noteCondition_fm s { cls := .degrade, unit, code, inst, detail }
  unfold State.fault State.raiseFault
  extract_lets u f
  have hu : ({ code, unit, inst } : Condition) ∈ u.fm.conditions := noted ▸ present rfl
  rw [if_neg Bool.false_ne_true]
  split
  · split
    · rwa [enqueueFault_conditions]
    · exact hu
  · rw [if_neg (by simp)]
    split
    · rwa [requeueFront_conditions]
    · rwa [enqueueFault_conditions]

/-- The log is no condition. -/
theorem LogOnly.conditions {s t : State} (h : LogOnly s t) : t.fm.conditions = s.fm.conditions := by
  obtain ⟨_, _, _, h⟩ := h
  rw [h]

/-- The governor counts the periods that it stretched and marks the sample (R65). -/
theorem govern_pos (s : State) {n : Nat} (h : 0 < n) : (s.govern n).sv =
    { s.sv with governorClamps := add32 s.sv.governorClamps n, holdMark := s.sv.holdMark.put s.sv.sidx } := by
  unfold State.govern
  rw [if_neg h.ne', (fault_only_fm _ (by decide) ..).sv]

theorem govern_sv (s : State) (n : Nat) :
    ∃ g m, (s.govern n).sv = { s.sv with governorClamps := g, holdMark := m } := by
  rcases Nat.eq_zero_or_pos n with rfl | h
  · exact ⟨_, _, rfl⟩
  · exact ⟨_, _, govern_pos s h⟩

end Sys2Proof.Machine
end

section
namespace Sys2Proof.Machine

set_option Elab.async false

/-! ## The reference clock (R41, R42, R65) -/

theorem refClockLost_spec {s : State} (h : s.sv.refLost = false) :
    s.refClockLost.sv.refLost = true ∧ s.refClockLost.sv.pllLocked = false ∧
      ({ code := .refLost, unit := .surveyor, inst := 0xFF } : Condition) ∈ s.refClockLost.fm.conditions ∧
      s.refClockLost.sv.sampleClock = 3 ∧
      (s.cfg 0x2100 1 ≠ 0 → s.sv.state = rsLocked → s.refClockLost.sv.state = rsHoldover ∧
        s.refClockLost.sv.lockCause = lcRefClock ∧ s.refClockLost.sv.relockCount = inc32 s.sv.relockCount) := by
  unfold State.refClockLost
  rw [if_neg (by simp [h])]
  extract_lets _ u v
  have alone : Alters [.fm] u v := fault_only_fm u (by decide) ..
  have source : v.cfg 0x2100 1 = s.cfg 0x2100 1 := alone.cfg 0x2100 1
  have present := fault_degrade_condition u .refLost .surveyor 0xFF []
  rw [source]
  by_cases hc : s.cfg 0x2100 1 = 0
  · rw [if_neg (by simp [hc]), alone.sv]
    exact ⟨rfl, rfl, present, rfl, fun k => absurd hc k⟩
  rw [if_pos (by simp [hc])]
  by_cases hl : s.sv.state = rsLocked
  · have locked : v.sv.state = rsLocked := by rw [alone.sv]; exact hl
    rw [enterHoldover_sv locked, (enterHoldover_logOnly ..).conditions, alone.sv]
    exact ⟨rfl, rfl, present, rfl, fun _ _ => ⟨rfl, rfl, rfl⟩⟩
  · rw [enterHoldover_of_ne (by rw [alone.sv]; exact hl), alone.sv]
    exact ⟨rfl, rfl, present, rfl, fun _ k => absurd k hl⟩

theorem refClockReturn_spec {s : State} (h : s.sv.refLost = true) {n : Nat} (hn : 0 < n) :
    (s.refClockReturn n).sv.refLost = false ∧
      (s.refClockReturn n).sv.governorClamps = add32 s.sv.governorClamps n ∧
      (s.refClockReturn n).sv.holdMark = s.sv.holdMark.put s.sv.sidx := by
  unfold State.refClockReturn
  rw [if_pos h, govern_pos _ hn]
  exact ⟨rfl, rfl, rfl⟩

/-! ## A pulse of the width-coded sync (R44, R47 to R49, Table 2.2) -/

/-- The pin that SYNC_INPUT names shows a pulse of the polarity that SYNC_POLARITY gives, its edges at the fine bins `a`
and `b` (R44, R47). -/
structure PulseSeen (s : State) (pin : Nat) (lead trail : PinEdge) (a b : Nat) : Prop where
  samples : s.samples = true
  source : s.cfg 0x2100 1 = 1
  external : s.sv.state ≠ rsInternal
  named : pin = s.cfg 0x2100 2
  heard : s.pinIgnored (40 + pin) = false
  leads : s.pinCrossing pin lead = some (a, !s.cfgOn 0x2100 3)
  trails : s.pinCrossing pin trail = some (b, s.cfgOn 0x2100 3)

section
variable {s : State} {pin : Nat} {lead trail : PinEdge} {a b w width : Nat}

theorem PulseSeen.learns (p : PulseSeen s pin lead trail a b) (h : s.sv.width = none) :
    s.syncPulse pin lead trail = s.learnWidth ((b - a + 32) / 64) := by
  obtain ⟨samples, source, external, named, heard, leads, trails⟩ := p
  subst named
  simp [State.syncPulse, samples, source, external, heard, leads, trails, h]

theorem PulseSeen.classifies (p : PulseSeen s pin lead trail a b) (h : s.sv.width = some w) :
    s.syncPulse pin lead trail = s.classify a ((b - a + 32) / 64) w := by
  obtain ⟨samples, source, external, named, heard, leads, trails⟩ := p
  subst named
  simp [State.syncPulse, samples, source, external, heard, leads, trails, h]

/-- Pulses are gathered until there are 64 of them (R47). -/
theorem learnWidth_gathers (h : s.sv.widths.length < 63) :
    s.learnWidth width = { s with sv.widths := width :: s.sv.widths } :=
  if_pos (by simp only [List.length_cons, learnPulses]; omega)

theorem learnWidth_decides (h : 63 ≤ s.sv.widths.length) : s.learnWidth width =
    (if 1 ≤ mostFrequent (width :: s.sv.widths) ∧ mostFrequent (width :: s.sv.widths) ≤ 8 then
      { s with sv.widths := [], sv.width := some (mostFrequent (width :: s.sv.widths)) }
     else { s with sv.widths := [], sv.lockCause := lcPulseForm }) := by
  unfold State.learnWidth
  rw [if_neg (by simp only [List.length_cons, learnPulses]; omega)]
  simp [within]

theorem classify_line (lo : w - 1 ≤ width) (hi : width ≤ w + 1) : s.classify a width w = s.linePulse a w :=
  if_pos (by simp [within, lo, hi])

theorem classify_frame {p : Nat} (hp : s.sv.lastPeriod = some p) (wide : w + 1 < width) (lo : 4 * w ≤ width)
    (hi : 128 * width ≤ p) : s.classify a width w = s.foundAt a true := by
  unfold State.classify
  rw [if_neg (by simp [within]; omega)]
  simp [hp, lo, hi]

theorem classify_neither (wide : w + 1 < width) (lo : width < 4 * w) : s.classify a width w = s.rejectPulse := by
  unfold State.classify
  rw [if_neg (by simp [within]; omega), if_neg (by simp; omega)]

/-- The first line-class pulse of a line is its start, unless it lies outside the window of R49 while LOCKED. -/
theorem linePulse_alone (h : s.sv.lastPulse = none) : s.linePulse a w =
    if s.sv.state == rsLocked && s.sv.linePeriod < 64 * (s.sv.phaseOf ((a : Int) - s.rasterDelay).toNat).natAbs then
      s.rejectPulse
    else ({ s with sv.lastPulse := some a } : State).foundAt a false := by
  unfold State.linePulse
  rw [h]
  rfl

end

/-- Settles O10: the loss, the return and the aligner by their own rules, a pulse by the class of its width. -/
theorem clockAndSyncPulses : Obligations.ClockAndSyncPulses := by
  unfold Obligations.ClockAndSyncPulses
  refine ⟨⟨fun s h => ⟨s.refClockLost, rfl, refClockLost_spec h⟩, fun s h => ?returns, fun s n h hn =>
    ⟨s.refClockReturn n, rfl, refClockReturn_spec h hn⟩, fun s hf hp => ?locks, fun s hf => ?faults⟩,
    fun s pin lead trail a b samples source external named heard leads trails => ?pulse,
    fun s pin lead trail source other => ?otherPin⟩
  case returns => exact completes_of_ran (congrArg (ran s) (if_pos h))
  case locks => exact completes_of_ran (congrArg (ran s) (if_pos (by simp [hf, hp])))
  case faults => exact completes_of_ran (congrArg (ran s) (if_pos hf))
  case otherPin => exact completes_of_ran (congrArg (ran s) (if_neg (by simp [other])))
  case pulse =>
    have seen : PulseSeen s pin.val lead trail a b := ⟨samples, source, external, named, heard, leads, trails⟩
    have done {t : State} (h : s.syncPulse pin.val lead trail = t) : Completes (.syncPulse pin ⟨lead, trail⟩) s t :=
      completes_of_ran (congrArg (ran s) h)
    intro width at_
    have line {w : Nat} (hw : s.sv.width = some w) (hp : s.sv.lastPulse = none) (lo : w - 1 ≤ width)
        (hi : width ≤ w + 1) := (seen.classifies hw).trans ((classify_line lo hi).trans (linePulse_alone hp))
    refine ⟨fun hw few => done ((seen.learns hw).trans (learnWidth_gathers few)),
      fun hw enough => done ((seen.learns hw).trans (learnWidth_decides enough)),
      fun w hw hp lo hi near => ?_, fun w hw hp lo hi hl far => ?_,
      fun w p hw hp wide lo hi => done ((seen.classifies hw).trans (classify_frame hp wide lo hi)),
      fun w hw wide lo => done ((seen.classifies hw).trans (classify_neither wide lo))⟩
    · refine done ((line hw hp lo hi).trans (if_neg ?_))
      simp only [Bool.and_eq_true, beq_iff_eq, decide_eq_true_eq, not_and, not_lt]
      exact near
    · refine done ((line hw hp lo hi).trans (if_pos ?_))
      simp only [Bool.and_eq_true, beq_iff_eq, decide_eq_true_eq]
      exact ⟨hl, far⟩

end Sys2Proof.Machine
end

section
namespace Sys2Proof.Machine

set_option Elab.async false

/-! ## Words of the TRS bus (R52, R53) -/

/-- The sample after `m0` is `m`, and channel `c` of the TRS seam, the word clock of the bus, was low before it: the
detector looks for its rising edge (R52). -/
structure WordLooked (s : State) (k c : Nat) (m : Samp) (w : BitVec 16) : Prop where
  samples : s.samples = true
  source : s.cfg 0x2100 1 = 3
  seam : k = s.cfg 0x2100 0x0B
  clock : c = s.cfg 0x2100 0x0E
  external : s.sv.state ≠ rsInternal
  up : (s.link (s.cfg (0x2400 + s.cfg 0x2100 0x0B) 1)).state = lsUp
  once : s.sv.trsAt ≠ some s.sv.sidx
  later : s.sv.sidx ≠ 0
  here : s.trsSample s.sv.sidx = some m
  before : ∃ m0 w0, s.trsSample (s.sv.sidx - 1) = some m0 ∧ m0.word = some w0 ∧ w0.getLsbD c = false
  word : m.word = some w

section
variable {s : State} {k c : Nat} {m : Samp} {w : BitVec 16}

theorem WordLooked.low (h : WordLooked s k c m w) (hw : w.getLsbD c = false) : s.trsWord k c = s := by
  obtain ⟨samples, source, seam, clock, external, up, once, later, here, ⟨m0, w0, before, old, low⟩, word⟩ := h
  subst seam clock
  simp [State.trsWord, samples, source, external, up, once, later, here, before, word, old, low, hw]

theorem WordLooked.latches (h : WordLooked s k c m w) (hw : w.getLsbD c = true) : s.trsWord k c =
    ({ s with sv.trsAt := some s.sv.sidx } : State).latchWord (s.cfg 0x2100 0x0C)
      (w.toNat / 2 ^ s.cfg 0x2100 0x0D % 2 ^ s.cfg 0x2100 0x0C) (s.trsBin s.sv.sidx m) := by
  obtain ⟨samples, source, seam, clock, external, up, once, later, here, ⟨m0, w0, before, old, low⟩, word⟩ := h
  subst seam clock
  simp [State.trsWord, samples, source, external, up, once, later, here, before, word, old, low, hw]

theorem trsWord_other (h : k ≠ s.cfg 0x2100 0x0B ∨ c ≠ s.cfg 0x2100 0x0E) : s.trsWord k c = s := by
  unfold State.trsWord
  extract_lets
  rw [if_neg]
  rcases h with h | h <;> simp [h]

variable {width word at_ a b first : Nat}

/-- A word that does not follow all ones, 0, 0 is kept and counted. -/
theorem latchWord_plain (h : ∀ a b first, s.sv.trsLast ≠ [(0, a), (0, b), (2 ^ width - 1, first)]) :
    s.latchWord width word at_ = { s with
      sv.trsLast := ((word, at_) :: s.sv.trsLast).take 3
      sv.trsPixels := (s.sv.trsPixels.1 + 1, s.sv.trsPixels.2) } := by
  unfold State.latchWord
  dsimp only
  split
  · next z1 p z0 q ones r e =>
    rw [if_neg]
    simp only [Bool.and_eq_true, beq_iff_eq]
    rintro ⟨⟨rfl, rfl⟩, rfl⟩
    exact h _ _ _ e
  · rfl

/-- The fourth word of a timing reference whose protection fails (R52). -/
theorem latchWord_fails (h : s.sv.trsLast = [(0, a), (0, b), (2 ^ width - 1, first)]) (hx : xyzOk width word = false) :
    s.latchWord width word at_ = { s with
      sv.trsLast := [(word, at_), (0, a), (0, b)], sv.trsPixels := (s.sv.trsPixels.1 + 1, s.sv.trsPixels.2)
      sv.trsErrors := inc32 s.sv.trsErrors, sv.trsSeen := (s.sv.trsSeen.1 + 1, s.sv.trsSeen.2 + 1) } := by
  simp [State.latchWord, h, hx]

theorem latchWord_checks (h : s.sv.trsLast = [(0, a), (0, b), (2 ^ width - 1, first)]) (hx : xyzOk width word = true) :
    s.latchWord width word at_ = ({ s with
      sv.trsLast := [(word, at_), (0, a), (0, b)], sv.trsPixels := (s.sv.trsPixels.1 + 1, s.sv.trsPixels.2)
      sv.trsSeen := (s.sv.trsSeen.1 + 1, s.sv.trsSeen.2) } : State).timingReference width word first := by
  simp [State.latchWord, h, hx]

/-- A reference with H = 0 does not end a line (R52). -/
theorem timingReference_start (h : word.testBit (width - 4) = false) : s.timingReference width word at_ = s := by
  simp [State.timingReference, h]

theorem timingReference_end (h : word.testBit (width - 4) = true) :
    (s.timingReference width word at_).sv.trsV = some (word.testBit (width - 3)) ∧
      (s.timingReference width word at_).sv.trsErrors = s.sv.trsErrors ∧
      (s.timingReference width word at_).sv.trsPixels = (0, s.sv.trsPixels.1) ∧
      (s.timingReference width word at_).sv.foundLine =
        some (at_, word.testBit (width - 3) && s.sv.trsV == some false && !word.testBit (width - 2)) := by
  unfold State.timingReference
  rw [if_pos h]
  exact ⟨rfl, rfl, rfl, rfl⟩

end

/-! ## A line start of the reference (R49, R57 to R59, R365) -/

section
variable {s : State} {at_ period b p : Nat}

theorem refLineStart_follows (hv : s.refLineValid at_ = true) (hf : s.follows = true) : s.refLineStart at_ =
    { s with twin.rasterDelta := s.sv.phaseOf at_, sv.lastRefLine := some at_ } := if_pos (by simp [hv, hf])

theorem refLineStart_first (hv : s.refLineValid at_ = true) (hf : s.follows = false) (hb : s.sv.lastRefLine = none) :
    s.refLineStart at_ = { s with sv.lastRefLine := some at_ } := by
  simp [State.refLineStart, hv, hf, hb]

theorem refLineStart_acquire (hv : s.refLineValid at_ = true) (hf : s.follows = false) (hb : s.sv.lastRefLine = some b)
    (hs : s.sv.state = rsAcquire) : s.refLineStart at_ = { s with
      sv.measuredLinePeriod := (at_ - b) % 2 ^ 32, sv.lastRefLine := some at_, sv.lastPeriod := some (at_ - b) } := by
  simp [State.refLineStart, hv, hf, hb, hs, rsAcquire, rsLocked, rsHoldover]

/-- A reference line start taken, MEASURED_LINE_PERIOD showing `m` (R57). -/
def State.noteLine (s : State) (at_ m : Nat) : State :=
  { s with sv.measuredLinePeriod := m, sv.lastRefLine := some at_ }

/-- MEASURED_LINE_PERIOD has no part in the phase (R57). -/
theorem noteLine_phaseOf (m b : Nat) : (s.noteLine at_ m).sv.phaseOf b = s.sv.phaseOf b := rfl

/-- A line start while LOCKED, its phase error told (R57). The error is a variable here, so that a field that stays is
read without computing the phase. -/
def State.phased (s : State) (err : Int) : State := { s with sv.phaseError := err, sv.missingRun := 0 }

theorem phased_lastPeriod (s : State) (err : Int) : (s.phased err).sv.lastPeriod = s.sv.lastPeriod := rfl

/-- The loop on a line start: INC now, the correction of the next line-start sample (R57). -/
def State.looped (s : State) (err : Int) (period : Nat) : State :=
  let free := Config.loopFilter s.sv.inc s.sv.corr err (s.sv.linePeriod / 64)
  let inc := loopInc s.sv.ppl period free.1
  { s with sv := { s.sv.setInc inc with corr := loopCorr inc err free.2 } }

theorem looped_sv (s : State) (err : Int) (period : Nat) :
    ∃ i l c, (s.looped err period).sv = { s.sv with inc := i, incHist := l, corr := c } := by
  unfold State.looped
  extract_lets free inc
  obtain ⟨i, l, h⟩ := setInc_eq s.sv inc
  exact ⟨i, l, _, congrArg (fun u : Surveyor => { u with corr := loopCorr inc err free.2 }) h⟩

/-- While LOCKED the line goes into the loop, over line starts that were bridged as their mean (R49, R57; log 55). -/
theorem refLineStart_locked (hv : s.refLineValid at_ = true) (hf : s.follows = false) (hb : s.sv.lastRefLine = some b)
    (hs : s.sv.state = rsLocked) : ∃ m, (s.refLineStart at_).sv =
      { ((s.noteLine at_ m).trackLine at_ ((at_ - b) / (s.sv.missingRun + 1))).sv with
        lastPeriod := some ((at_ - b) / (s.sv.missingRun + 1)) } := by
  refine ⟨if s.sv.missingRun = 0 then (at_ - b) / (s.sv.missingRun + 1) % 2 ^ 32 else s.sv.measuredLinePeriod, ?_⟩
  unfold State.refLineStart
  rw [if_neg (by simp [hf]), if_pos hv, hb]
  dsimp only
  rw [if_pos hs, if_pos hs]
  rfl

theorem refLineStart_holdover (hv : s.refLineValid at_ = true) (hf : s.follows = false)
    (hb : s.sv.lastRefLine = some b) (hs : s.sv.state = rsHoldover) : (s.refLineStart at_).sv =
      { ((s.noteLine at_ ((at_ - b) % 2 ^ 32)).agreeLine (at_ - b)).sv with lastPeriod := some (at_ - b) } := by
  have hl : s.sv.state ≠ rsLocked := by rw [hs]; decide
  unfold State.refLineStart
  rw [if_neg (by simp [hf]), if_pos hv, hb]
  dsimp only
  rw [if_neg hl, if_neg hl, if_pos hs, Nat.div_one, if_pos rfl]
  rfl

/-- A step of more than 100 ppm ends the lock (R58). -/
theorem trackLine_step (hp : s.sv.lastPeriod = some p) (far : p < ((period : Int) - p).natAbs * 10000) :
    s.trackLine at_ period = (s.phased (s.sv.phaseOf at_)).enterHoldover lcStep := by
  have far : within100ppm period p = false := by simpa [within100ppm] using far
  unfold State.trackLine
  extract_lets err _ t stepped
  have ht : t.sv.lastPeriod = some p := (phased_lastPeriod s err).trans hp
  exact if_pos (show stepped = true by simp only [stepped, ht, far, Bool.not_false])

/-- Within 100 ppm the loop corrects INC and the next line start, then the clock is steered (R57, R62). -/
theorem trackLine_near (hp : s.sv.lastPeriod = some p) (near : ((period : Int) - p).natAbs * 10000 ≤ p) :
    s.trackLine at_ period = ((s.phased (s.sv.phaseOf at_)).looped (s.sv.phaseOf at_) period).steer period := by
  have near : within100ppm period p = true := by simpa [within100ppm] using near
  unfold State.trackLine
  extract_lets err _ t stepped
  have ht : t.sv.lastPeriod = some p := (phased_lastPeriod s err).trans hp
  exact if_neg (show ¬ stepped = true by simp [stepped, ht, near])

/-- The line that ends the lock: HOLDOVER with its phase error told. -/
theorem phased_holdover (err : Int) (hs : s.sv.state = rsLocked) (cause : Nat) :
    ((s.phased err).enterHoldover cause).sv.state = rsHoldover ∧
      ((s.phased err).enterHoldover cause).sv.lockCause = cause ∧
      ((s.phased err).enterHoldover cause).sv.phaseError = err ∧
      ((s.phased err).enterHoldover cause).sv.relockCount = inc32 s.sv.relockCount := by
  rw [enterHoldover_sv (s := s.phased err) hs]
  exact ⟨rfl, rfl, rfl, rfl⟩

/-- A line that the loop tracks: the lock goes on. -/
theorem phased_tracks (err off : Int) (period : Nat) :
    (((s.phased err).looped off period).steer period).sv.state = s.sv.state ∧
      (((s.phased err).looped off period).steer period).sv.phaseError = err ∧
      (((s.phased err).looped off period).steer period).sv.missingRun = 0 ∧
      (((s.phased err).looped off period).steer period).sv.relockCount = s.sv.relockCount := by
  obtain ⟨j, m, q, k, steered⟩ := steer_sv ((s.phased err).looped off period) period
  obtain ⟨i, l, c, corrected⟩ := looped_sv (s.phased err) off period
  rw [steered, corrected]
  exact ⟨rfl, rfl, rfl, rfl⟩

/-- A line start that agrees counts toward the re-lock (R59). -/
theorem agreeLine_counts (hp : s.sv.lastPeriod = some p) (hr : s.sv.refLost = false)
    (agrees : ((period : Int) - p).natAbs * 10000 ≤ p)
    (near : ((period : Int) - s.sv.heldPeriod).natAbs * 100 ≤ s.sv.heldPeriod) :
    (s.agreeLine period).sv.agreeRun = s.sv.agreeRun + 1 ∧ (s.agreeLine period).sv.state = s.sv.state := by
  have agrees : within100ppm period p = true := by simpa [within100ppm] using agrees
  unfold State.agreeLine
  extract_lets close alike starts t
  have kept : t.sv.agreeRun = s.sv.agreeRun ∧ t.sv.state = s.sv.state := by
    obtain ⟨i, l, c, e⟩ := clockFree_eq s
    simp only [t, e]
    split <;> exact ⟨rfl, rfl⟩
  have begun : starts = true := by simp [starts, close, near, hr]
  have same : alike = true := by simp only [alike, hp, agrees]
  refine ⟨?_, kept.2⟩
  dsimp only
  rw [if_pos begun, if_pos same, kept.1]

end

/-- Settles O11: words by what stands before them, line starts by the state of the raster. -/
theorem referenceLines : Obligations.ReferenceLines := by
  unfold Obligations.ReferenceLines
  refine ⟨fun s m m0 w w0 k c samples source seam clock external up once later here before word old low => ?words,
    fun s k c other => completes_of_ran (congrArg (ran s) (trsWord_other other)), fun s at_ hv => ?lines⟩
  case words =>
    have looked : WordLooked s k.val c.val m w :=
      ⟨samples, source, seam, clock, external, up, once, later, here, ⟨m0, w0, before, old, low⟩, word⟩
    have done {t : State} (h : s.trsWord k.val c.val = t) : Completes (.trsWord k c) s t :=
      completes_of_ran (congrArg (ran s) h)
    intro width word at_
    refine ⟨fun hw => done (looked.low hw), fun hw => ?_⟩
    have latched := looked.latches hw
    refine ⟨fun plain => done (latched.trans (latchWord_plain plain)),
      fun a b first hl hx => done (latched.trans (latchWord_fails hl hx)),
      fun a b first hl hx hh => done (latched.trans
        ((latchWord_checks (s := { s with sv.trsAt := some s.sv.sidx }) hl hx).trans (timingReference_start hh))),
      fun a b first hl hx hh => ?_⟩
    exact ⟨_, done (latched.trans (latchWord_checks (s := { s with sv.trsAt := some s.sv.sidx }) hl hx)),
      timingReference_end hh⟩
  case lines =>
    have done {t : State} (h : s.refLineStart at_ = t) : Completes (.refLineStart at_) s t :=
      completes_of_ran (congrArg (ran s) h)
    refine ⟨fun hf => done (refLineStart_follows hv hf), fun hf hb => done (refLineStart_first hv hf hb),
      fun b hf hb hs => done (refLineStart_acquire hv hf hb hs), fun b p hf hb hs hp => ⟨fun far => ?_, fun near => ?_⟩,
      fun b p hf hb hs hr hp agrees near => ?_⟩
    · obtain ⟨m, e⟩ := refLineStart_locked hv hf hb hs
      obtain ⟨state, cause, phase, count⟩ := phased_holdover (s := s.noteLine at_ m) (s.sv.phaseOf at_) hs lcStep
      refine ⟨_, done rfl, ?_⟩
      rw [e, trackLine_step (s := s.noteLine at_ m) hp far, noteLine_phaseOf]
      exact ⟨state, cause, phase, count⟩
    · obtain ⟨m, e⟩ := refLineStart_locked hv hf hb hs
      obtain ⟨state, phase, run, count⟩ := phased_tracks (s := s.noteLine at_ m) (s.sv.phaseOf at_) (s.sv.phaseOf at_)
        ((at_ - b) / (s.sv.missingRun + 1))
      refine ⟨_, done rfl, ?_⟩
      rw [e, trackLine_near (s := s.noteLine at_ m) hp near, noteLine_phaseOf]
      exact ⟨state.trans hs, phase, run, count⟩
    · obtain ⟨run, state⟩ := agreeLine_counts (s := s.noteLine at_ ((at_ - b) % 2 ^ 32)) hp hr agrees near
      refine ⟨_, done rfl, ?_⟩
      rw [refLineStart_holdover hv hf hb hs]
      exact ⟨run, state.trans hs⟩

end Sys2Proof.Machine
end

section
namespace Sys2Proof.Machine

set_option Elab.async false

/-! ## A reference that does not come (R49, R58, R73, Table 2.1) -/

/-- Of the causes from which an acquisition starts, SEAM_DOWN is that of a TRS seam without its link (R53). -/
theorem startCause_seamDown (s : State) : s.startCause = lcSeamDown ↔
    s.cfg 0x2100 1 = 3 ∧ (s.link (s.cfg (0x2400 + s.cfg 0x2100 0x0B) 1)).state ≠ lsUp := by
  unfold State.startCause
  split
  case isTrue h => simpa using h
  case isFalse h => simpa [lcNone, lcSeamDown] using h

/-! ## A complete reference frame (R55, R73) -/

/-- A frame kept as the latest (R55, R76). -/
def State.noteFrame (s : State) (m : FrameMeasure) : State :=
  { s with sv.measuredLines := m.lines % 2 ^ 16, sv.lastFrame := some m }

/-- The Surveyor looks at reference frames, on ST2059 at those of R50 (R55). -/
structure FrameTaken (s : State) : Prop where
  samples : s.samples = true
  external : s.sv.state ≠ rsInternal
  timed : s.cfg 0x2100 1 = 2 → s.timeCause ≠ 0 ∨ s.atTimeFrame = true

section
variable {s : State} {m : FrameMeasure} {n : Nat}

theorem FrameTaken.test (h : FrameTaken s) : (s.samples && s.sv.state != rsInternal &&
    (s.cfg 0x2100 1 != 2 || s.timeCause != 0 || s.atTimeFrame)) = true := by
  obtain ⟨samples, external, timed⟩ := h
  by_cases h2 : s.cfg 0x2100 1 = 2
  · simpa [samples, external, h2] using timed h2
  · simp [samples, external, h2]

theorem refFrame_rests (h : FrameTaken s) (hs : s.sv.state = rsLocked)
    (rests : s.follows = true ∨ s.sv.refLost = true ∨ s.cfg 0x2100 1 = 2 ∨ m.fieldStarts = []) :
    s.refFrame m n = s.noteFrame m := by
  unfold State.refFrame
  refine (if_pos h.test).trans ?_
  extract_lets before _ t
  by_cases hf : (t.follows || t.sv.refLost) = true
  · exact if_pos hf
  refine (if_neg hf).trans ((if_pos hs).trans (if_pos ?_))
  have hf : ¬ (s.follows || s.sv.refLost) = true := hf
  simp only [Bool.or_eq_true, not_or] at hf
  rcases rests with h | h | h | h
  · exact absurd h hf.1
  · exact absurd h hf.2
  · simp [h]
  · simp [h]

theorem refFrame_renews (h : FrameTaken s) (hs : s.sv.state = rsLocked) (hf : s.follows = false)
    (hr : s.sv.refLost = false) (h2 : s.cfg 0x2100 1 ≠ 2) (hm : m.fieldStarts ≠ []) :
    s.refFrame m n =
      { s.noteFrame m with sv.fieldStarts := s.lockFields m s.sv.lpf (s.cfg 0x2100 0x0A) } := by
  unfold State.refFrame
  refine (if_pos h.test).trans ?_
  extract_lets before _ t
  have hf : ¬ (t.follows || t.sv.refLost) = true := by
    show ¬ (s.follows || s.sv.refLost) = true
    simp [hf, hr]
  exact (if_neg hf).trans ((if_pos hs).trans (if_neg (by simp [h2, hm])))

end

/-- The latest span ends with the sample marked last. -/
theorem Marks.put_last (m : Marks) (x : Nat) : (m.put x).last = some x := by
  obtain ⟨spans⟩ := m
  unfold Marks.put Marks.last
  cases spans with
  | nil => rfl
  | cons p l =>
    obtain ⟨a, b⟩ := p
    dsimp only
    split
    case isTrue h => exact congrArg some h
    case isFalse => split <;> rfl

section
variable {s : State} {m a : FrameMeasure} {n : Nat}

/-- What two frames say of each other does not depend on the latest one kept. -/
theorem noteFrame_frameCause (b : FrameMeasure) : (s.noteFrame m).frameCause a b = s.frameCause a b := rfl

/-- On sync pulses the cause is that of the frame and the one before it (R55). -/
theorem refFrame_acquire (h : FrameTaken s) (hs : s.sv.state = rsAcquire) (hr : s.sv.refLost = false)
    (hf : s.follows = false) (h1 : s.cfg 0x2100 1 = 1) (ha : s.sv.lastFrame = some a) :
    (s.frameCause a m = 0 → s.refFrame m n = (s.noteFrame m).lockRaster m) ∧
      (s.frameCause a m ≠ 0 → s.refFrame m n =
        if limitCause (s.frameCause a m) then
          ({ s.noteFrame m with sv.lockCause := s.frameCause a m } : State).event .rasterUnlockable .surveyor 0xFF
            (leBytes 1 (s.frameCause a m))
        else { s.noteFrame m with sv.lockCause := s.frameCause a m }) := by
  unfold State.refFrame
  rw [if_pos h.test]
  extract_lets before _ t _ cause
  have ht : t = s.noteFrame m := rfl
  have hf : ¬ (t.follows || t.sv.refLost) = true := by
    show ¬ (s.follows || s.sv.refLost) = true
    simp [hf, hr]
  have hl : ¬ t.sv.state = rsLocked := by
    show ¬ s.sv.state = rsLocked
    rw [hs]
    decide
  have hh : ¬ t.sv.state = rsHoldover := by
    show ¬ s.sv.state = rsHoldover
    rw [hs]
    decide
  have hc : cause = some (s.frameCause a m) := by
    simp only [cause, before, ha, h1, ht]
    rfl
  rw [if_neg hf, if_neg hl, hc]
  refine ⟨fun h0 => ?_, fun h0 => ?_⟩
  · rw [h0]
    exact if_neg hh
  · obtain ⟨c, hc⟩ := Nat.exists_eq_succ_of_ne_zero h0
    rw [hc]
    rfl

end

/-! ## Lock and re-lock (R55, R59) -/

/-- The raster on the reference: its shape and where it stands; the clock and the marks stay (R55, R59). -/
structure Jumped (s : State) (m : FrameMeasure) (frame : Nat) (t : State) : Prop where
  ppl : t.sv.ppl = if s.cfg 0x2100 1 == 3 && s.cfg 0x2100 6 == 0 then s.sv.trsPixels.2 else s.cfg 0x2100 6
  lpf : t.sv.lpf = if s.cfg 0x2100 5 == 0 then m.lines else s.cfg 0x2100 5
  line : t.sv.line = if s.cfg 0x2100 1 == 2 then 0 else s.cfg 0x2100 0x0A
  frame : t.sv.frame = frame % 2 ^ 24
  agreeRun : t.sv.agreeRun = 0
  period : t.sv.period = s.sv.period
  sidx : t.sv.sidx = s.sv.sidx
  holdMark : t.sv.holdMark = s.sv.holdMark

theorem jumpTo_jumped (s : State) (m : FrameMeasure) (bin frame : Nat) : Jumped s m frame (s.jumpTo m bin frame) := by
  unfold State.jumpTo
  extract_lets src lpf ppl off _ v
  obtain ⟨i, l, hi⟩ := setInc_eq s.sv (s.lockInc m ppl lpf)
  have hv : v = { s.sv with inc := i, incHist := l, ppl, lpf, fieldStarts := s.lockFields m lpf off
                            missingRun := 0, agreeRun := 0, field := 0 } :=
    congrArg (fun u : Surveyor => { u with ppl, lpf, fieldStarts := s.lockFields m lpf off
                                           missingRun := 0, agreeRun := 0, field := 0 }) hi
  obtain ⟨f, p, x, b, c, k, d, e, g, y, placed⟩ := placeAt_eq v frame off bin (s.cfg 0x2100 0x0F)
  rw [placed, hv]
  exact ⟨rfl, rfl, rfl, rfl, rfl, rfl, rfl, rfl⟩

theorem lockRaster_spec (s : State) (m : FrameMeasure) (h1 : s.cfg 0x2100 1 = 1) :
    (s.lockRaster m).sv.state = rsLocked ∧ (s.lockRaster m).sv.lockCause = lcNone ∧ (s.lockRaster m).sv.frame = 0 ∧
      (s.lockRaster m).sv.lpf = (if s.cfg 0x2100 5 = 0 then m.lines else s.cfg 0x2100 5) ∧
      (s.lockRaster m).sv.ppl = s.cfg 0x2100 6 ∧ (s.lockRaster m).sv.line = s.cfg 0x2100 0x0A := by
  have e : s.lockRaster m = (s.jumpTo m m.startBin 0).setRaster rsLocked lcNone := if_neg (by simp [h1])
  obtain ⟨ppl, lpf, line, frame, -, -, -, -⟩ := jumpTo_jumped s m m.startBin 0
  rw [e, setRaster_sv]
  refine ⟨rfl, rfl, frame, lpf.trans ?_, ppl.trans ?_, line.trans ?_⟩ <;> simp [h1]

theorem relock_spec (s : State) (m : FrameMeasure) (bin n : Nat) :
    (s.relock m bin n).sv.state = rsLocked ∧ (s.relock m bin n).sv.lockCause = lcNone ∧
      (s.relock m bin n).sv.period = freePeriod ∧ (s.relock m bin n).sv.holdMark.last = some s.sv.sidx ∧
      (s.relock m bin n).sv.agreeRun = 0 := by
  unfold State.relock
  extract_lets v frame jump off here lines t
  obtain ⟨i, l, c, freed⟩ := clockFree_eq s
  obtain ⟨g, k, governed⟩ := govern_sv s.clockFree n
  have jumped : Jumped (s.clockFree.govern n) m frame t := jumpTo_jumped ..
  rw [setRaster_sv]
  refine ⟨rfl, rfl, jumped.period.trans ?_, ?_, jumped.agreeRun⟩
  · rw [governed, freed]
  · refine (Marks.put_last ..).trans (congrArg some (jumped.sidx.trans ?_))
    rw [governed, freed]

/-- Settles O12: frames by the state of the raster, lock and re-lock by the jump onto the reference. -/
theorem referenceFramesAndTheirAbsence : Obligations.ReferenceFramesAndTheirAbsence := by
  unfold Obligations.ReferenceFramesAndTheirAbsence
  refine ⟨⟨fun s hf hs hc => ⟨fun few => ?bridges, fun three => ?holds⟩, fun s hf hr hs => ?absent,
    fun s hs ha => ⟨_, completes_of_ran (congrArg (ran s) (if_pos (by simp [hs, ha]))), event_reported ..⟩,
    fun s hs ha => completes_of_ran (congrArg (ran s) (if_neg (by simp [ha])))⟩,
    fun s m n samples external timed => ?frames, fun s n hf due => ?relocks⟩
  case bridges =>
    exact completes_of_ran (congrArg (ran s) ((if_pos (by simpa [hf, hs] using hc)).trans (if_pos few)))
  case holds =>
    refine ⟨s.enterHoldover lcMissingLines, completes_of_ran (congrArg (ran s)
      ((if_pos (by simpa [hf, hs] using hc)).trans (if_neg (Nat.not_lt.2 three)))), ?_⟩
    rw [enterHoldover_sv hs]
    exact ⟨rfl, rfl, rfl⟩
  case absent =>
    refine completes_of_ran (congrArg (ran s) ((if_pos (by simpa [hf, hr] using hs)).trans ?_))
    simp only [startCause_seamDown]
  case frames =>
    have taken : FrameTaken s := ⟨samples, external, timed⟩
    have done {t : State} (h : s.refFrame m n = t) : Completes (.refFrameComplete ⟨m, n⟩) s t :=
      completes_of_ran (congrArg (ran s) h)
    refine ⟨fun hs rests => done (refFrame_rests taken hs rests),
      fun hs hf hr h2 hm => done (refFrame_renews taken hs hf hr h2 hm), fun a hs hr hf h1 ha => ?_⟩
    obtain ⟨locks, tells⟩ := refFrame_acquire (m := m) (n := n) taken hs hr hf h1 ha
    refine ⟨fun h0 => ⟨_, done (locks h0), lockRaster_spec (s.noteFrame m) m h1⟩,
      fun h0 => ⟨_, done (tells h0), ?_⟩⟩
    split
    · rw [event_sv]
      exact ⟨hs, rfl⟩
    · exact ⟨hs, rfl⟩
  case relocks =>
    exact ⟨_, completes_of_ran (congrArg (ran s) (if_pos (by simp [hf, due]))), relock_spec ..⟩

end Sys2Proof.Machine
end

section
namespace Sys2Proof.Machine

set_option Elab.async false

/-! ## TIME96 corrected (R67, R68) -/

section
variable {s : State} {target : Nat}

theorem stepTime_sv (s : State) (t : Nat) : (s.stepTime t).sv = { s.sv with time := t, slew := 0 } := event_sv ..

theorem correctTime_steps (hm : stepMode s.mode = true) (far : nsTime 1000000 < ((s.sv.time : Int) - target).natAbs) :
    s.correctTime target = s.stepTime target := if_pos (by simp [hm, far])

theorem correctTime_slews (near : ((s.sv.time : Int) - target).natAbs ≤ nsTime 1000000) :
    s.correctTime target = { s with sv.slew := -((s.sv.time : Int) - target) } :=
  if_neg (by simp [Nat.not_lt.2 near])

/-- On the way to LOCKED no raster is held. -/
theorem setTimeState_locked (s : State) : s.setTimeState 1 = { s with sv.timeState := 1 } := if_neg (by simp)

/-- TIME_STATE leaves LOCKED: an ST2059 raster goes into HOLDOVER (R51, R58). -/
theorem setTimeState_holdover (s : State) : s.setTimeState 2 =
    if s.sv.timeState == 1 && s.cfg 0x2100 1 == 2 then
      ({ s with sv.timeState := 2 } : State).enterHoldover lcTimeNotLocked
    else { s with sv.timeState := 2 } := by
  unfold State.setTimeState
  extract_lets was _ t
  have leaves : (was == 1 && (2 : Nat) != 1 && s.cfg 0x2100 1 == 2) = (s.sv.timeState == 1 && s.cfg 0x2100 1 == 2) := by
    simp [was]
  rw [← leaves]
  rfl

end

/-! ## Edges of PPS_IN (R67 to R69) -/

/-- An edge seen, and PPS_IN present (R69). -/
def State.ppsSeen (s : State) : State := { s with sv.ppsLast := some s.sv.time, sv.ppsPresent := true }

/-- TIME_OF_DAY taken by its edge (R67). -/
def State.todTaken (s : State) : State :=
  { s.ppsSeen with sv.todPending := none, sv.todApplied := true, sv.ppsGood := 0, sv.ppsRejectRun := 0 }

section
variable {s : State} {target : Nat}

theorem ppsEdge_before (hp : s.sv.todPending = none) (ha : s.sv.todApplied = false) : s.ppsEdge = s.ppsSeen := by
  unfold State.ppsEdge
  extract_lets _ t
  rw [show t.sv.todPending = none from hp]
  exact if_neg (by simpa [t] using ha)

theorem ppsEdge_disciplines (hp : s.sv.todPending = none) (ha : s.sv.todApplied = true) :
    s.ppsEdge = s.ppsSeen.disciplinePps := by
  unfold State.ppsEdge
  extract_lets _ t
  rw [show t.sv.todPending = none from hp]
  exact if_pos (by simpa [t] using ha)

theorem ppsEdge_sets {sec written : Nat} (hp : s.sv.todPending = some (sec, written))
    (old : nsTime 10000000 ≤ s.sv.up - written) : s.ppsEdge =
      (s.todTaken.notePpsError (sec * second)).correctTime (sec * second) := by
  unfold State.ppsEdge
  extract_lets _ t
  rw [show t.sv.todPending = some (sec, written) from hp]
  exact if_pos old

theorem notePpsError_eq (s : State) (target : Nat) :
    ∃ e, s.notePpsError target = { s with sv.ppsError := e } := ⟨_, rfl⟩

/-- Where TIME96 may be stepped, the edge gives it the second of TIME_OF_DAY (R67, R68). -/
theorem todTaken_steps (hm : stepMode s.mode = true) (far : nsTime 1000000 < ((s.sv.time : Int) - target).natAbs) :
    ((s.todTaken.notePpsError target).correctTime target).sv.time = target ∧
      ((s.todTaken.notePpsError target).correctTime target).sv.todPending = none ∧
      ((s.todTaken.notePpsError target).correctTime target).sv.todApplied = true ∧
      ((s.todTaken.notePpsError target).correctTime target).sv.ppsPresent = true := by
  obtain ⟨e, noted⟩ := notePpsError_eq s.todTaken target
  have mode : ({ s.todTaken with sv.ppsError := e } : State).mode = s.mode := mode_congr rfl rfl
  rw [← mode] at hm
  rw [noted, correctTime_steps hm far, stepTime_sv]
  exact ⟨rfl, rfl, rfl, rfl⟩

theorem disciplinePps_rejects (hs : s.sv.timeState ≠ 0)
    (far : nsTime 10000 < ((s.slewedTime : Int) - nearestSecond s.slewedTime).natAbs) (run : s.sv.ppsRejectRun < 2) :
    s.disciplinePps = { s with
      sv.ppsRejects := inc32 s.sv.ppsRejects, sv.ppsRejectRun := s.sv.ppsRejectRun + 1, sv.ppsGood := 0 } :=
  (if_pos (by simp [hs, far])).trans (if_neg (show ¬ rejectEdges ≤ s.sv.ppsRejectRun + 1 by unfold rejectEdges; omega))

theorem disciplinePps_accepts
    (near : ((s.slewedTime : Int) - nearestSecond s.slewedTime).natAbs ≤ nsTime 1000) :
    s.disciplinePps = s.acceptPps (nearestSecond s.slewedTime) := by
  have bound : nsTime 1000 ≤ nsTime 10000 := by decide
  exact if_neg (by simp [Nat.not_lt.2 (near.trans bound)])

/-- A second good edge: LOCKED, what is left slewed (R68). -/
theorem acceptPps_locks (good : ((s.slewedTime : Int) - target).natAbs ≤ nsTime 1000) (run : 1 ≤ s.sv.ppsGood)
    (near : ((s.sv.time : Int) - target).natAbs ≤ nsTime 1000000) :
    (s.acceptPps target).sv.timeState = 1 ∧ (s.acceptPps target).sv.ppsGood = s.sv.ppsGood + 1 ∧
      (s.acceptPps target).sv.slew = -((s.sv.time : Int) - target) := by
  unfold State.acceptPps
  extract_lets fine runs _ u w
  have hr : runs = s.sv.ppsGood + 1 := if_pos good
  obtain ⟨e, noted⟩ := notePpsError_eq u target
  have hw : w = { u with sv.ppsError := e, sv.slew := -((s.sv.time : Int) - target) } := by
    simp only [w, noted]
    exact correctTime_slews near
  have same : w.sv.timeState = s.sv.timeState := by rw [hw]
  by_cases hs : s.sv.timeState = 1
  · have stays : ¬ (decide (2 ≤ runs) && w.sv.timeState != 1) = true := by simp [same, hs]
    rw [if_neg stays, hw]
    exact ⟨hs, hr, rfl⟩
  · have locks : (decide (2 ≤ runs) && w.sv.timeState != 1) = true := by simp [same, hs, hr, run]
    rw [if_pos locks, setTimeState_locked, hw]
    exact ⟨rfl, hr, rfl⟩

/-- PPS_IN goes away (R69). -/
def State.ppsGone (s : State) : State := { s with sv.ppsPresent := false, sv.ppsGood := 0, sv.ppsRejectRun := 0 }

theorem ppsGone_spec (s : State) :
    (s.ppsGone.setTimeState 2).sv.ppsPresent = false ∧ (s.ppsGone.setTimeState 2).sv.ppsGood = 0 ∧
      (s.ppsGone.setTimeState 2).sv.ppsRejectRun = 0 ∧ (s.ppsGone.setTimeState 2).sv.timeState = 2 ∧
      (s.sv.timeState = 1 → s.cfg 0x2100 1 = 2 → s.sv.state = rsLocked →
        (s.ppsGone.setTimeState 2).sv.state = rsHoldover ∧
          (s.ppsGone.setTimeState 2).sv.lockCause = lcTimeNotLocked) := by
  rw [setTimeState_holdover]
  by_cases h : (s.sv.timeState == 1 && s.cfg 0x2100 1 == 2) = true
  · rw [if_pos (show (s.ppsGone.sv.timeState == 1 && s.ppsGone.cfg 0x2100 1 == 2) = true from h)]
    by_cases hl : s.sv.state = rsLocked
    · rw [enterHoldover_sv (s := { s.ppsGone with sv.timeState := 2 }) hl]
      exact ⟨rfl, rfl, rfl, rfl, fun _ _ _ => ⟨rfl, rfl⟩⟩
    · rw [enterHoldover_of_ne (s := { s.ppsGone with sv.timeState := 2 }) hl]
      exact ⟨rfl, rfl, rfl, rfl, fun _ _ k => absurd k hl⟩
  · rw [if_neg (show ¬ (s.ppsGone.sv.timeState == 1 && s.ppsGone.cfg 0x2100 1 == 2) = true from h)]
    exact ⟨rfl, rfl, rfl, rfl, fun ht hc _ => absurd (by simp [ht, hc]) h⟩

end

/-! ## PPS_OUT (R70) -/

theorem setPpsOut_of_ne {s : State} {level : Bool} (h : s.power.ppsOut = !level) : s.setPpsOut level =
    { s with power.ppsOut := level, sent := .pin "PPS_OUT" level :: s.sent } :=
  if_neg (by cases level <;> simp [h])

/-- Settles O13: edges by what TIME_OF_DAY has done before them, TIME_SET by the mode. -/
theorem timeAndPps : Obligations.TimeAndPps := by
  unfold Obligations.TimeAndPps
  refine ⟨⟨fun s hp ha => completes_of_ran (congrArg (ran s) (ppsEdge_before hp ha)),
      fun s sec written hp old hm far => ?sets, fun s hp ha hs far run => ?rejects,
      fun s hp ha run good near => ?accepts, fun s hp => ?lost⟩,
    ⟨fun s hs out h => ?rises, fun s out h => ?falls,
      fun s hs => completes_of_ran (congrArg (ran s) (if_neg (by simp [hs])))⟩,
    fun s via data h => ?timeOfDay, fun s via data h => ?timeSet⟩
  case sets =>
    exact ⟨_, completes_of_ran (congrArg (ran s) (ppsEdge_sets hp old)), todTaken_steps hm far⟩
  case rejects =>
    exact ⟨_, completes_of_ran (congrArg (ran s) ((ppsEdge_disciplines hp ha).trans
      (disciplinePps_rejects (s := s.ppsSeen) hs far run))), rfl, rfl, rfl, rfl⟩
  case accepts =>
    exact ⟨_, completes_of_ran (congrArg (ran s) ((ppsEdge_disciplines hp ha).trans
      (disciplinePps_accepts (s := s.ppsSeen) good))), acceptPps_locks (s := s.ppsSeen) good run near⟩
  case lost =>
    refine ⟨(s.ppsGone.setTimeState 2).event .ppsLost .surveyor, completes_of_ran (congrArg (ran s) (if_pos hp)), ?_⟩
    rw [event_sv]
    exact ppsGone_spec s
  case rises =>
    refine completes_of_ran (congrArg (ran s) ((if_pos ?_).trans (setPpsOut_of_ne out)))
    simpa [hs, Surveyor.secondStart] using h
  case falls =>
    refine completes_of_ran (congrArg (ran s) ((if_pos ?_).trans (setPpsOut_of_ne out)))
    simpa using h
  case timeOfDay =>
    have answered := h.service (t := s.setTimeOfDay (leNat data)) rfl
    refine ⟨fun hp => completes_of_ran (congrArg (ran s) (answered.trans ?_)),
      fun hp => completes_of_ran (congrArg (ran s) (answered.trans ?_))⟩
    · rw [show s.setTimeOfDay (leNat data) = refuse abValueRange s from if_neg (by simp [hp])]
      rfl
    · rw [show s.setTimeOfDay (leNat data) = taken _ from if_pos hp]
      rfl
  case timeSet =>
    have answered := h.service (t := s.setTime (leNat data)) rfl
    refine ⟨fun hm => ?_, fun hm => completes_of_ran (congrArg (ran s) (answered.trans ?_))⟩
    · rw [show s.setTime (leNat data) = taken (s.stepTime (timeOf96 (leNat data))) from if_pos hm] at answered
      have stepped := stepTime_only s (timeOf96 (leNat data))
      refine ⟨_, completes_of_ran (congrArg (ran s) answered), ((answer_only ..).next stepped.mono).only,
        stepTime_sv .., ?_⟩
      exact congrArg _ stepped.sent
    · rw [show s.setTime (leNat data) = taken _ from if_neg (by simp [hm])]
      rfl

end Sys2Proof.Machine
end

section
namespace Sys2Proof.Machine

set_option Elab.async false

/-! ## What each command does to the state -/

/-- Every command stops on ill-formed operands or leaves a state with the queue as it found it. -/
theorem exec_stops_or_ran (c : Instr) (s : State) : exec c s = .fault .illFormed ∨ ∃ u, exec c s = ran s u := by
  have guarded (p : Prop) [Decidable p] (u : State) : (if p then ran s u else .fault .illFormed) = .fault .illFormed ∨
      ∃ v, (if p then ran s u else .fault .illFormed) = ran s v := by
    split
    · exact .inr ⟨u, rfl⟩
    · exact .inl rfl
  cases c
  case probeFrameReceive | sensorSample | calComplete | xcBlockReceive => exact guarded ..
  case powerFailDetect cause => cases cause <;> exact .inr ⟨_, rfl⟩
  all_goals exact .inr ⟨_, rfl⟩

/-- A command that runs leaves the queue. -/
theorem exec_pending {c : Instr} {s t : State} (h : exec c s = .next t) : t.pending = s.pending := by
  obtain k | ⟨u, k⟩ := exec_stops_or_ran c s
  · exact nomatch k.symm.trans h
  · obtain rfl : { u with pending := s.pending } = t := by injection k.symm.trans h
    rfl

/-- A frame of all parts, in the order of `touches`. -/
theorem Alters.all {s t : State} (h : Alters [.power, .modes, .sv, .links, .xc, .seams, .closing, .streams, .shaft, .grizzly,
    .smelter, .slots, .hf, .dict, .regs, .twin, .fm, .nv, .sent, .free] s t) : Alters (.free :: Part.served) s t := h.mono

/-- The frame of each command, by the frame of its meaning. -/
theorem exec_only {s t : State} : ∀ {c : Instr}, exec c s = .next t → Alters (touches c) s t
  | .powerOn .., h => execPowerOn_only (h := h) ..
  | .bootComplete, h => execBootComplete_only (h := h) ..
  | .resetNAssert .., h => execResetNAssert_only (h := h) ..
  | .moduleReset .., h => execModuleReset_only (h := h) ..
  | .perstNAssert .., h => execPerstNAssert_only (h := h) ..
  | .perstNRelease, h => execPerstNRelease_only (h := h) ..
  | .configRequest .., h => execConfigRequest_only (h := h) ..
  | .dlDown, h => execDlDown_only (h := h) ..
  | .functionLevelResetPf0, h => execFunctionLevelResetPf0_only (h := h) ..
  | .functionLevelResetPf1, h => execFunctionLevelResetPf1_only (h := h) ..
  | .foremanWatchdogTrip .., h => execForemanWatchdogTrip_only (h := h) ..
  | .powerFailDetect .., h => execPowerFailDetect_only (h := h) ..
  | .powerFailRelease, h => execPowerFailRelease_only (h := h) ..
  | .foremanBrownout, h => execForemanBrownout_only (h := h) ..
  | .stagedObjectWrite .., h => execStagedObjectWrite_only (h := h) ..
  | .commit .., h => execCommit_only (h := h) ..
  | .cancel .., h => execCancel_only (h := h) ..
  | .fabricPowerUpDone .., h => execFabricPowerUpDone_only (h := h) ..
  | .hbmTrainingDone .., h => execHbmTrainingDone_only (h := h) ..
  | .samplePllLock, h => execSamplePllLock_only (h := h) ..
  | .readyEntryLinkTimeout, h => execReadyEntryLinkTimeout_only (h := h) ..
  | .readyEntry .., h => execReadyEntry_only (h := h) ..
  | .readyDeadline .., h => execReadyDeadline_only (h := h) ..
  | .epochInstant, h => execEpochInstant_only (h := h) ..
  | .applyCheckEnd .., h => execApplyCheckEnd_only (h := h) ..
  | .rollbackEpoch .., h => execRollbackEpoch_only (h := h) ..
  | .forcedEpoch, h => execForcedEpoch_only (h := h) ..
  | .hbmSelfRefreshEntry, h => execHbmSelfRefreshEntry_only (h := h) ..
  | .refClockLost, h => execRefClockLost_only (h := h) ..
  | .refClockReturn .., h => execRefClockReturn_only (h := h) ..
  | .dllLock, h => execDllLock_only (h := h) ..
  | .dllFault, h => execDllFault_only (h := h) ..
  | .syncPulse .., h => execSyncPulse_only (h := h) ..
  | .trsWord .., h => execTrsWord_only (h := h) ..
  | .refLineStart .., h => execRefLineStart_only (h := h) ..
  | .refFrameComplete .., h => execRefFrameComplete_only (h := h) ..
  | .missingLineStart, h => execMissingLineStart_only (h := h) ..
  | .noReferenceTimeout, h => execNoReferenceTimeout_only (h := h) ..
  | .holdoverLong, h => execHoldoverLong_only (h := h) ..
  | .relock .., h => execRelock_only (h := h) ..
  | .timeOfDay .., h => execTimeOfDay_only (h := h) ..
  | .timeSet .., h => execTimeSet_only (h := h) ..
  | .ppsInEdge, h => execPpsInEdge_only (h := h) ..
  | .ppsLost, h => execPpsLost_only (h := h) ..
  | .ppsOutRise, h => execPpsOutRise_only (h := h) ..
  | .ppsOutFall, h => execPpsOutFall_only (h := h) ..
  | .linkClockRecovered .., h => execLinkClockRecovered_only (h := h) ..
  | .linkLevelsConverged .., h => execLinkLevelsConverged_only (h := h) ..
  | .linkSearchTimeout .., h => execLinkSearchTimeout_only (h := h) ..
  | .noPartnerRetry .., h => execNoPartnerRetry_only (h := h) ..
  | .linkLevelsTimeout .., h => execLinkLevelsTimeout_only (h := h) ..
  | .linkFrameTimeout .., h => execLinkFrameTimeout_only (h := h) ..
  | .linkFecTimeout .., h => execLinkFecTimeout_only (h := h) ..
  | .partnerRxFail .., h => execPartnerRxFail_only (h := h) ..
  | .probeFrameReceive .., h => execProbeFrameReceive_only (h := h) ..
  | .linkUncorrectableLoss .., h => execLinkUncorrectableLoss_only (h := h) ..
  | .linkSequenceLoss .., h => execLinkSequenceLoss_only (h := h) ..
  | .linkDrift .., h => execLinkDrift_only (h := h) ..
  | .signalLost .., h => execSignalLost_only (h := h) ..
  | .controlMessageAckTimeout .., h => execControlMessageAckTimeout_only (h := h) ..
  | .feMessage .., h => execFeMessage_only (h := h) ..
  | .counterClear .., h => execCounterClear_only (h := h) ..
  | .seamJoin .., h => execSeamJoin_only (h := h) ..
  | .ingotClose .., h => execIngotClose_only (h := h) ..
  | .smelterSeal .., h => execSmelterSeal_only (h := h) ..
  | .grizzlyDoor .., h => execGrizzlyDoor_only (h := h) ..
  | .shaftDecision, h => execShaftDecision_only (h := h) ..
  | .markOutAssert .., h => execMarkOutAssert_only (h := h) ..
  | .markOutPulseEnd .., h => execMarkOutPulseEnd_only (h := h) ..
  | .extLineCrossing .., h => execExtLineCrossing_only (h := h) ..
  | .lineStuck .., h => execLineStuck_only (h := h) ..
  | .flagInputAccept .., h => execFlagInputAccept_only (h := h) ..
  | .segmentPostDone, h => execSegmentPostDone_only (h := h) ..
  | .segmentRearm, h => execSegmentRearm_only (h := h) ..
  | .segRelease .., h => execSegRelease_only (h := h) ..
  | .calStart .., h => execCalStart_only (h := h) ..
  | .calComplete .., h => execCalComplete_only (h := h) ..
  | .drainBinEnd, h => execDrainBinEnd_only (h := h) ..
  | .ringFullTimeout .., h => execRingFullTimeout_only (h := h) ..
  | .heldListRejoin .., h => execHeldListRejoin_only (h := h) ..
  | .suspensionEnd .., h => execSuspensionEnd_only (h := h) ..
  | .pcieLinkDown .., h => execPcieLinkDown_only (h := h) ..
  | .pcieLinkL0 .., h => execPcieLinkL0_only (h := h) ..
  | .imageWrite .., h => execImageWrite_only (h := h) ..
  | .cursorRecordWrite .., h => execCursorRecordWrite_only (h := h) ..
  | .eventQueueEntryWrite, h => execEventQueueEntryWrite_only (h := h) ..
  | .rdStart .., h => execRdStart_only (h := h) ..
  | .rdStop .., h => execRdStop_only (h := h) ..
  | .readoutDone, h => execReadoutDone_only (h := h) ..
  | .smjEnable, h => execSmjEnable_only (h := h) ..
  | .smjDisable, h => execSmjDisable_only (h := h) ..
  | .smjTailWrite .., h => execSmjTailWrite_only (h := h) ..
  | .smjHaltedClear, h => execSmjHaltedClear_only (h := h) ..
  | .jobDescriptorFetch, h => execJobDescriptorFetch_only (h := h) ..
  | .jobDescriptorReceive .., h => execJobDescriptorReceive_only (h := h) ..
  | .jobStart, h => execJobStart_only (h := h) ..
  | .jobComplete .., h => execJobComplete_only (h := h) ..
  | .assayResultClose .., h => execAssayResultClose_only (h := h) ..
  | .assayResultEnqueue .., h => execAssayResultEnqueue_only (h := h) ..
  | .ringEnable .., h => execRingEnable_only (h := h) ..
  | .ringDisable .., h => execRingDisable_only (h := h) ..
  | .ringRdPosWrite .., h => execRingRdPosWrite_only (h := h) ..
  | .msixDelayExpiry .., h => execMsixDelayExpiry_only (h := h) ..
  | .msixTableWrite .., h => execMsixTableWrite_only (h := h) ..
  | .busMasterClear, h => execBusMasterClear_only (h := h) ..
  | .busMasterSet, h => execBusMasterSet_only (h := h) ..
  | .d3hotEntry, h => execD3hotEntry_only (h := h) ..
  | .d0Return, h => execD0Return_only (h := h) ..
  | .memorySpaceDisable .., h => execMemorySpaceDisable_only (h := h) ..
  | .completionReceive .., h => execCompletionReceive_only (h := h) ..
  | .completionTimeout .., h => execCompletionTimeout_only (h := h) ..
  | .tagRelease .., h => execTagRelease_only (h := h) ..
  | .ideKeyProgram .., h => execIdeKeyProgram_only (h := h) ..
  | .ideStreamLost .., h => execIdeStreamLost_only (h := h) ..
  | .pf1MemoryRequest .., h => (execPf1MemoryRequest_only (h := h) ..).all
  | .aspmL1Entry, h => execAspmL1Entry_only (h := h) ..
  | .l0pRequest .., h => execL0pRequest_only (h := h) ..
  | .dictRead .., h => execDictRead_only (h := h) ..
  | .dictWrite .., h => execDictWrite_only (h := h) ..
  | .store .., h => execStore_only (h := h) ..
  | .storeErase .., h => execStoreErase_only (h := h) ..
  | .storeCommitDone .., h => execStoreCommitDone_only (h := h) ..
  | .canRead .., h => execCanRead_only (h := h) ..
  | .canWrite .., h => execCanWrite_only (h := h) ..
  | .canWriteInit .., h => execCanWriteInit_only (h := h) ..
  | .canSegment .., h => execCanSegment_only (h := h) ..
  | .canEnd .., h => execCanEnd_only (h := h) ..
  | .canAck .., h => execCanAck_only (h := h) ..
  | .canAbort .., h => execCanAbort_only (h := h) ..
  | .canFrameIgnored .., h => execCanFrameIgnored_only (h := h) ..
  | .canTimeout .., h => execCanTimeout_only (h := h) ..
  | .canBusOffRecovery .., h => execCanBusOffRecovery_only (h := h) ..
  | .slotGoRead .., h => (execSlotGoRead_only (h := h) ..).all
  | .slotGoWrite .., h => (execSlotGoWrite_only (h := h) ..).all
  | .slotGoPartnerRead .., h => (execSlotGoPartnerRead_only (h := h) ..).all
  | .slotGoPartnerWrite .., h => (execSlotGoPartnerWrite_only (h := h) ..).all
  | .secureSessionTimeout .., h => execSecureSessionTimeout_only (h := h) ..
  | .partnerRequestReceive, h => (execPartnerRequestReceive_only (h := h) ..).all
  | .claimRead .., h => execClaimRead_only (h := h) ..
  | .claimRelease .., h => execClaimRelease_only (h := h) ..
  | .claimForceRelease .., h => execClaimForceRelease_only (h := h) ..
  | .cageSend .., h => execCageSend_only (h := h) ..
  | .cagePop .., h => execCagePop_only (h := h) ..
  | .bellRaise .., h => execBellRaise_only (h := h) ..
  | .bellClear .., h => execBellClear_only (h := h) ..
  | .bellMaskWrite .., h => execBellMaskWrite_only (h := h) ..
  | .voteMismatch .., h => execVoteMismatch_only (h := h) ..
  | .skipPointerMismatch .., h => execSkipPointerMismatch_only (h := h) ..
  | .skipFlush .., h => execSkipFlush_only (h := h) ..
  | .registerWrite .., h => (execRegisterWrite_only (h := h) ..).all
  | .pairElection .., h => execPairElection_only (h := h) ..
  | .xcBlockReceive .., h => execXcBlockReceive_only (h := h) ..
  | .xcHdrRecord, h => execXcHdrRecord_only (h := h) ..
  | .xcDoorRecord, h => execXcDoorRecord_only (h := h) ..
  | .xcCursorRecord, h => execXcCursorRecord_only (h := h) ..
  | .xcConfirmRecord, h => execXcConfirmRecord_only (h := h) ..
  | .xcAckRecord, h => execXcAckRecord_only (h := h) ..
  | .xcRingRecord, h => execXcRingRecord_only (h := h) ..
  | .xcSyncRecord, h => execXcSyncRecord_only (h := h) ..
  | .xcNackRecord, h => execXcNackRecord_only (h := h) ..
  | .xcEpochGo, h => execXcEpochGo_only (h := h) ..
  | .xcEpochAbort, h => execXcEpochAbort_only (h := h) ..
  | .shadowReadyReport, h => execShadowReadyReport_only (h := h) ..
  | .shadowApplyReport, h => execShadowApplyReport_only (h := h) ..
  | .doorRecordTimeout .., h => execDoorRecordTimeout_only (h := h) ..
  | .phaseExposed, h => execPhaseExposed_only (h := h) ..
  | .resync, h => execResync_only (h := h) ..
  | .laneSetChange .., h => execLaneSetChange_only (h := h) ..
  | .canaryBoundary, h => execCanaryBoundary_only (h := h) ..
  | .roleSwap .., h => execRoleSwap_only (h := h) ..
  | .detach .., h => execDetach_only (h := h) ..
  | .attachAligned, h => execAttachAligned_only (h := h) ..
  | .attachCopied .., h => execAttachCopied_only (h := h) ..
  | .sensorSample .., h => execSensorSample_only (h := h) ..
  | .thermalClear, h => execThermalClear_only (h := h) ..
  | .hbmHotClear .., h => execHbmHotClear_only (h := h) ..
  | .throttleEngage, h => execThrottleEngage_only (h := h) ..
  | .throttleRelease, h => execThrottleRelease_only (h := h) ..
  | .faultRaise .., h => execFaultRaise_only (h := h) ..
  | .faultHandle, h => execFaultHandle_only (h := h) ..
  | .faultAck .., h => execFaultAck_only (h := h) ..
  | .logEntryCommit, h => execLogEntryCommit_only (h := h) ..
  | .logReadAt .., h => execLogReadAt_only (h := h) ..
  | .logClear .., h => execLogClear_only (h := h) ..
  | .updateBegin .., h => execUpdateBegin_only (h := h) ..
  | .updateData .., h => execUpdateData_only (h := h) ..
  | .updateVerify .., h => execUpdateVerify_only (h := h) ..
  | .updateCommit .., h => execUpdateCommit_only (h := h) ..
  | .updateCommitDone .., h => execUpdateCommitDone_only (h := h) ..
  | .updateAbort .., h => execUpdateAbort_only (h := h) ..
  | .updateConfirm .., h => execUpdateConfirm_only (h := h) ..
  | .ownerKey .., h => execOwnerKey_only (h := h) ..
  | .lcAdvance .., h => execLcAdvance_only (h := h) ..
  | .lifeCycleSelfReset, h => execLifeCycleSelfReset_only (h := h) ..
  | .lcChallenge .., h => execLcChallenge_only (h := h) ..
  | .lcDebugAuth .., h => execLcDebugAuth_only (h := h) ..
  | .lcReturn .., h => execLcReturn_only (h := h) ..
  | .keyLoad .., h => execKeyLoad_only (h := h) ..
  | .keyErase .., h => execKeyErase_only (h := h) ..
  | .useReset .., h => execUseReset_only (h := h) ..
  | .useReserveCommit .., h => execUseReserveCommit_only (h := h) ..
  | .resetNRelease .., h => execResetNRelease_only (h := h) ..
  | .samplePllNoLock, h => execSamplePllNoLock_only (h := h) ..
  | .prbsCheck .., h => execPrbsCheck_only (h := h) ..
  | .canBusError .., h => execCanBusError_only (h := h) ..
  | .l0pDeviceRequest .., h => execL0pDeviceRequest_only (h := h) ..

/-- Settles O6: by the frame of each meaning; no meaning touches the queue. -/
theorem commandsTouchOnlyTheirParts : Obligations.CommandsTouchOnlyTheirParts := by
  unfold Obligations.CommandsTouchOnlyTheirParts
  exact fun c s t h => ⟨(exec_only h).only, exec_pending h⟩

end Sys2Proof.Machine
end

section
namespace Sys2Proof.Machine

set_option Elab.async false

/-! ## A receiver after an operation -/

/-- An element changed in two ways that agree on it. -/
theorem vmod_congr {α : Type} {n : Nat} (v : Vector α n) (i : Nat) {f g : α → α} (d : α)
    (h : f (vget v i d) = g (vget v i d)) : vmod v i f = vmod v i g := by
  unfold vmod
  unfold vget at h
  split
  · next hi => rw [dif_pos hi] at h; rw [h]
  · rfl

theorem onLink_congr {s : State} {n : Nat} {f g : Link → Link} (h : f (s.link n) = g (s.link n)) :
    s.onLink n f = s.onLink n g := congrArg (fun v => { s with links := v }) (vmod_congr _ _ {} h)

theorem onRx_congr {s : State} {l : LinkId} {f g : Link → Link} (h : f (s.rx l) = g (s.rx l)) :
    s.onRx l f = s.onRx l g := by
  cases l with
  | probe n => exact onLink_congr h
  | lane k => exact congrArg (fun v => { s with xc := v }) (vmod_congr _ _ {} h)

@[simp] theorem rx_onRx (s : State) (l : LinkId) (f : Link → Link) : (s.onRx l f).rx l = f (s.rx l) := by
  cases l with
  | probe n => exact vget_vmod_same _ _ _ _ n.isLt
  | lane k => exact vget_vmod_same _ _ _ _ k.isLt

/-- An operation that leaves links and lanes leaves every receiver. -/
theorem Alters.rx {p : List Part} {s t : State} (h : Alters p s t) (l : LinkId) (hl : Part.links ∉ p := by decide)
    (hx : Part.xc ∉ p := by decide) : t.rx l = s.rx l := by
  cases l with
  | probe n => exact congrArg (vget · n.val {}) (h.links hl)
  | lane k => exact congrArg (vget · k.val {}) (h.xc hx)

/-- An operation that leaves the seams leaves each. -/
theorem Alters.seam {p : List Part} {s t : State} (h : Alters p s t) (k : Nat) (hp : Part.seams ∉ p := by decide) :
    t.seam k = s.seam k := by
  unfold State.seam
  rw [h.seams hp]

/-- An operation that leaves the dictionary leaves which seam a link feeds. -/
theorem Alters.fedSeam {p : List Part} {s t : State} (h : Alters p s t) (n : Nat) (hp : Part.dict ∉ p := by decide) :
    t.fedSeam n = s.fedSeam n := by
  unfold State.fedSeam
  simp only [h.cfg _ _ hp]

theorem fedSeam_lt {s : State} {n k : Nat} (h : s.fedSeam n = some k) : k < 48 :=
  List.mem_range.1 (List.mem_of_find?_eq_some h)

theorem event_rx (s : State) (code : EvCode) (unit : UnitId) (inst : Nat) (detail : List Byte) (l : LinkId) :
    (s.event code unit inst detail).rx l = s.rx l := (event_only ..).rx l

/-! ## A receiver that leaves its state (R106, R108, R109, Table 3.8) -/

/-- A receiver after `rxGo`. -/
def Link.gone (m : Link) (st cause : Nat) : Link :=
  { m.restart with state := st, cause, lockLosses := if m.state = lsUp then inc32 m.lockLosses else m.lockLosses }

/-- A seam after its loss (R106, R108). -/
def Seam.loses (m : Seam) (at_ cause : Nat) : Seam :=
  { m with lostAt := some (match m.lostAt with | some a => min a at_ | none => at_), firstUp := none
           buf := m.buf.filter fun x => x.sidx < at_
           lostCause := if m.joined && m.lostAt.isNone then cause else m.lostCause }

/-- The state that `rxGo` leaves but for the raster and the log: the receiver gone, its seam lost. -/
def State.rxGone (s : State) (l : LinkId) (st cause : Nat) : State := (s.onRx l fun m => m.gone st cause).loseFed l cause

theorem rxGo_rxGone (s : State) (l : LinkId) (st cause : Nat) :
    Alters [.sv, .grizzly, .regs, .fm] (s.rxGone l st cause) (s.rxGo l st cause) := by
  have hf : (s.onRx l fun m => { m.restart with
      state := st, cause, lockLosses := if (s.rx l).state == lsUp then inc32 m.lockLosses else m.lockLosses }) =
      s.onRx l fun m => m.gone st cause := onRx_congr (by simp [Link.gone])
  unfold State.rxGo
  dsimp only
  rw [hf]
  cases l with
  | probe n =>
    have source (u : State) (b : Bool) : Alters [.sv, .grizzly, .regs, .fm] u (if b then u.trsSourceDown n.val else u) :=
      .ite (trsSourceDown_only ..).mono (.refl ..)
    exact .ite ((event_only ..).next (source ..)) (source ..)
  | lane k => exact .ite (event_only ..).mono (.refl ..)

theorem rxGo_rx (s : State) (l : LinkId) (st cause : Nat) : (s.rxGo l st cause).rx l = (s.rx l).gone st cause := by
  rw [(rxGo_rxGone s l st cause).rx, State.rxGone, (loseFed_only ..).rx, rx_onRx]

theorem loseSeam_seam (s : State) {k : Nat} (hk : k < 48) (at_ cause : Nat) :
    (s.loseSeam k at_ cause).seam k = (s.seam k).loses at_ cause := State.seam_onSeam_same s k _ hk

/-- The seam that the link feeds is lost (R106). -/
theorem rxGo_seam {s : State} {n : Fin 48} {k : Nat} (h : s.fedSeam n.val = some k) (st cause : Nat) :
    ∃ at_, (s.rxGo (.probe n) st cause).seam k = (s.seam k).loses at_ cause := by
  have hu := onRx_only s (.probe n) fun m => m.gone st cause
  rw [(rxGo_rxGone s (.probe n) st cause).seam, State.rxGone, State.loseFed]
  simp only [hu.fedSeam, h]
  exact ⟨_, by rw [loseSeam_seam _ (fedSeam_lt h), hu.seam]⟩

/-- A receiver in SEARCH, but for what PRECODE_REQ asks (R94, R98, R99). -/
theorem rxSearch_rx (s : State) (l : LinkId) (cause : Nat) : ∃ want, (s.rxSearch l cause).rx l =
    { (s.rx l).gone lsSearch cause with
      precodeWant := want, precodeRx := false, precodeTx := false, precodePend := none, partnerWants := false
      pendSeen := none, partnerState := 0, patternAcked := false } :=
  ⟨_, (rx_onRx ..).trans (by rw [rxGo_rx])⟩

/-- What a loss leaves of a receiver and of the seam that it feeds (R106, R108, R109, Table 3.8). -/
def WentBack (s : State) (l : LinkId) (t : State) (st cause : Nat) : Prop :=
  (t.rx l).state = st ∧ (t.rx l).cause = cause ∧
    (t.rx l).lockLosses = (if (s.rx l).state = lsUp then inc32 (s.rx l).lockLosses else (s.rx l).lockLosses) ∧
    ∀ (n : Fin 48) (k : Nat), l = .probe n → s.fedSeam n.val = some k →
      (t.seam k).lostAt ≠ none ∧ (t.seam k).firstUp = none ∧
        ((s.seam k).joined = true → (s.seam k).lostAt = none → (t.seam k).lostCause = cause)

theorem rxGo_wentBack (s : State) (l : LinkId) (st cause : Nat) : WentBack s l (s.rxGo l st cause) st cause := by
  have e := rxGo_rx s l st cause
  refine ⟨congrArg Link.state e, congrArg Link.cause e, congrArg Link.lockLosses e, ?_⟩
  rintro n k rfl hk
  obtain ⟨at_, e⟩ := rxGo_seam hk st cause
  rw [e]
  exact ⟨nofun, rfl, fun hj hl => by simp [Seam.loses, hj, hl]⟩

theorem rxSearch_wentBack (s : State) (l : LinkId) (cause : Nat) : WentBack s l (s.rxSearch l cause) lsSearch cause := by
  obtain ⟨-, -, -, seams⟩ := rxGo_wentBack s l lsSearch cause
  obtain ⟨want, e⟩ := rxSearch_rx s l cause
  refine ⟨congrArg Link.state e, congrArg Link.cause e, congrArg Link.lockLosses e, ?_⟩
  intro n k hn hk
  have kept : (s.rxSearch l cause).seam k = (s.rxGo l lsSearch cause).seam k := (onRx_only ..).seam k
  rw [kept]
  exact seams n k hn hk

/-! ## Training (R94, R98, R100, Tables 3.6, 3.8) -/

/-- A training timeout: back to SEARCH or FRAME with its cause, counted; no loss of lock is (Table 3.6). -/
theorem trainFail_spec {s : State} {l : LinkId} {old : Nat} (h : (s.rx l).state = old) (hu : old ≠ lsUp) (st cause : Nat) :
    ((s.trainFail l old st cause).rx l).state = st ∧ ((s.trainFail l old st cause).rx l).cause = cause ∧
      ((s.trainFail l old st cause).rx l).trainFails = inc32 (s.rx l).trainFails ∧
      ((s.trainFail l old st cause).rx l).lockLosses = (s.rx l).lockLosses := by
  have hs : (s.rx l).state ≠ lsUp := h ▸ hu
  unfold State.trainFail
  rw [if_pos (by simp [h])]
  dsimp only
  split
  · next e =>
    obtain rfl : st = lsSearch := by simpa using e
    obtain ⟨want, e⟩ := rxSearch_rx (s.onRx l fun m => { m with trainFails := inc32 m.trainFails }) l cause
    rw [e]
    simp [Link.gone, Link.restart, hs]
  · rw [rxGo_rx]
    simp [Link.gone, Link.restart, hs]

/-- Settles O14: each command by the one change that it makes to the receiver. -/
theorem linkTraining : Obligations.LinkTraining := by
  unfold Obligations.LinkTraining
  refine ⟨fun s l => ⟨fun on st => ?recovered, fun on st => ?converged, fun st np => ?searches, fun np st => ?retries⟩,
    fun s l => ⟨fun st => ?levels, fun st => ?frame, fun st => ?fec, fun st ps rf => ?fails⟩⟩
  case recovered => exact completes_of_ran (congrArg (ran s) (if_pos (by simp [on, st])))
  case converged =>
    refine ⟨_, completes_of_ran (congrArg (ran s) (if_pos (by simp [on, st]))), (onRx_only ..).only, ?_⟩
    rw [rx_onRx]
    exact ⟨rfl, rfl, rfl, rfl⟩
  case searches =>
    refine ⟨_, completes_of_ran (congrArg (ran s) (if_pos (by simpa [np] using st))), ?_, ?_, event_reported ..⟩
    · rw [event_rx, rx_onRx]
    · rw [event_rx, rx_onRx]
  case retries =>
    refine ⟨_, completes_of_ran (congrArg (ran s) (if_pos (by simp [np, st]))), (onRx_only ..).only, ?_⟩
    rw [rx_onRx]
    exact ⟨rfl, np, rfl⟩
  case levels => exact ⟨_, completes_of_ran rfl, trainFail_spec st (by decide) ..⟩
  case frame =>
    obtain ⟨hs, hc, hf, -⟩ := trainFail_spec st (by decide) lsSearch 0x0A
    exact ⟨_, completes_of_ran rfl, hs, hc, hf⟩
  case fec =>
    obtain ⟨hs, hc, hf, -⟩ := trainFail_spec st (by decide) lsFrame 0x0B
    exact ⟨_, completes_of_ran rfl, hs, hc, hf⟩
  case fails =>
    exact ⟨_, completes_of_ran (congrArg (ran s) (if_pos (by simp [st, ps, rf]))), event_reported ..⟩

end Sys2Proof.Machine
end

section
namespace Sys2Proof.Machine

set_option Elab.async false

/-! ## Counts of frames through a frame's handling (R115) -/

/-- The counts that a frame moves: FRAMES, PRE_FEC_SYMBOLS, UNCORRECTABLE, and the run of uncorrectable frames. -/
def Link.tally (m : Link) : Nat × Nat × Nat × Nat := (m.frames, m.preFec, m.uncorrectable, m.badRun)

/-- The counts with the state, LOCK_LOSSES and PRECODE_RX: what messages, training words and samples leave as it was. -/
def Link.standing (m : Link) : (Nat × Nat × Bool) × Nat × Nat × Nat × Nat :=
  ((m.state, m.lockLosses, m.precodeRx), m.tally)

theorem tally_of_standing {m m' : Link} (h : m'.standing = m.standing) : m'.tally = m.tally := congrArg Prod.snd h

theorem takeTraining_standing (m : Link) (word : Nat) : (m.takeTraining word).standing = m.standing := by
  unfold Link.takeTraining
  split <;> rfl

theorem honourPrecode_standing (m : Link) : m.honourPrecode.standing = m.standing := by
  unfold Link.honourPrecode
  split <;> rfl

theorem nextMessage_standing (m : Link) : m.nextMessage.standing = m.standing := by
  unfold Link.nextMessage
  dsimp only
  split
  · rfl
  · split <;> rfl
  · rfl

theorem countSeq_standing (m : Link) (seq : Nat) : (m.countSeq seq).standing = m.standing := by
  unfold Link.countSeq
  split <;> rfl

theorem takeGrid_standing (m : Link) (arrival seq : Nat) : (m.takeGrid arrival seq).standing = m.standing := by
  unfold Link.takeGrid
  dsimp only
  split
  · rfl
  · split <;> rfl

section
variable (s : State)

theorem rx_onLink (n : Fin 48) (f : Link → Link) : (s.onLink n.val f).rx (.probe n) = f (s.rx (.probe n)) :=
  rx_onRx s (.probe n) f

theorem pumpControl_standing (n : Fin 48) :
    ((s.pumpControl n.val).rx (.probe n)).standing = (s.rx (.probe n)).standing := by
  unfold State.pumpControl
  split
  · rw [rx_onLink, nextMessage_standing]
  · rfl

theorem endMessage_standing (n : Fin 48) (acked : Bool) :
    ((s.endMessage n.val acked).rx (.probe n)).standing = (s.rx (.probe n)).standing := by
  unfold State.endMessage
  rw [pumpControl_standing, rx_onLink]
  rfl

theorem takeAck_standing (n : Fin 48) (ack : Bool) :
    ((s.takeAck n.val ack).rx (.probe n)).standing = (s.rx (.probe n)).standing := by
  unfold State.takeAck
  dsimp only
  split
  · rw [endMessage_standing, rx_onLink]
    rfl
  · rw [rx_onLink]
    rfl

theorem takeStatus_standing (l : LinkId) (f : Frame) :
    ((s.takeStatus l f).rx l).standing = (s.rx l).standing := by
  cases l with
  | probe n =>
    unfold State.takeStatus
    dsimp only
    rw [takeAck_standing]
    split
    · rw [event_rx, rx_onLink]
      rfl
    · rw [rx_onLink]
      rfl
  | lane k =>
    unfold State.takeStatus
    dsimp only
    rw [rx_onRx]
    rfl

theorem bringUpConfig_standing (n : Fin 48) :
    ((s.bringUpConfig n.val).rx (.probe n)).standing = (s.rx (.probe n)).standing := by
  unfold State.bringUpConfig
  dsimp only
  split
  · exact pumpControl_standing ..
  · rw [pumpControl_standing, rx_onLink]
    rfl

theorem takeSamples_standing (n : Fin 48) (arrival : Nat) (contiguous : Bool) (f : Frame) :
    ((s.takeSamples n.val arrival contiguous f).rx (.probe n)).standing = (s.rx (.probe n)).standing := by
  unfold State.takeSamples
  dsimp only
  split <;> (rw [(pushSamples_only ..).rx, rx_onLink]; dsimp only [Link.standing, Link.tally])

/-- UP is reached without a count. -/
theorem tryUp_tally (l : LinkId) : ((s.tryUp l).rx l).tally = (s.rx l).tally := by
  unfold State.tryUp
  extract_lets m fixed
  split
  · cases l with
    | probe n =>
      dsimp only
      split
      · rw [rx_onRx]
        rfl
      · split
        · rw [event_rx, rx_onRx]
          rfl
        · rfl
    | lane k =>
      dsimp only
      rw [event_rx, rx_onRx]
      rfl
  · rfl

/-! ## A decoded frame from FEC on (Table 3.6, R97, R106 to R109) -/

/-- A decoded frame ends the run of uncorrectable ones and moves no other count; a TRAIN frame takes an UP link to DESKEW,
counted (Table 3.8). -/
theorem frameTrained_spec (l : LinkId) (arrival : Nat) (f : Frame) :
    ((s.frameTrained l arrival f).rx l).tally = ((s.rx l).frames, (s.rx l).preFec, (s.rx l).uncorrectable, 0) ∧
      ((s.rx l).state = lsUp → f.kind = 1 →
        ((s.frameTrained l arrival f).rx l).state = lsDeskew ∧ ((s.frameTrained l arrival f).rx l).cause = 0x06 ∧
          ((s.frameTrained l arrival f).rx l).lockLosses = inc32 (s.rx l).lockLosses) := by
  unfold State.frameTrained
  extract_lets m0 inOrder _ u v w x y z off
  have hu : (u.rx l).standing = (((s.rx l).state, (s.rx l).lockLosses, (s.rx l).precodeRx),
      (s.rx l).frames, (s.rx l).preFec, (s.rx l).uncorrectable, 0) := by
    have hc := countSeq_standing (s.rx l) f.seq
    simp only [Link.standing, Link.tally, Prod.mk.injEq] at hc
    simp only [u, rx_onRx, Link.standing, Link.tally, hc]
  have hv : (v.rx l).standing = (u.rx l).standing := by
    simp only [v]
    split
    · rw [rx_onRx, honourPrecode_standing, takeTraining_standing]
    · rw [rx_onRx]
      rfl
  have hw : (w.rx l).standing = _ := ((takeStatus_standing v l f).trans hv).trans hu
  clear_value w
  simp only [Link.standing, Prod.mk.injEq] at hw
  obtain ⟨⟨wState, wLosses, -⟩, wTally⟩ := hw
  have hx : (x.rx l).tally = (w.rx l).tally := by
    rw [rx_onRx, tally_of_standing (honourPrecode_standing _)]
    rfl
  have hz : (z.rx l).tally = (w.rx l).tally := by
    have hy : (y.rx l).tally = (w.rx l).tally := by rw [rx_onRx, tally_of_standing (takeGrid_standing ..)]
    cases l with
    | probe n => exact (tally_of_standing (bringUpConfig_standing ..)).trans hy
    | lane k => exact hy
  constructor
  · rw [← wTally]
    split
    · split
      · cases l with
        | probe n => exact (tally_of_standing (bringUpConfig_standing ..)).trans hx
        | lane k => exact hx
      · rfl
    · split
      · exact (tryUp_tally z l).trans hz
      · split
        · rw [rxGo_rx]
          simp only [Link.tally, Prod.mk.injEq] at wTally ⊢
          obtain ⟨-, -, -, run⟩ := wTally
          exact ⟨rfl, rfl, rfl, run.symm⟩
        · cases l with
          | probe n =>
            dsimp only
            rw [rx_onLink]
            exact tally_of_standing (takeSamples_standing ..)
          | lane k => rfl
  · intro up train
    have hf : (m0.state == lsFec) = false := by simp [m0, up, lsUp, lsFec]
    have hd : (m0.state == lsDeskew) = false := by simp [m0, up, lsUp, lsDeskew]
    rw [if_neg (by simp [hf]), if_neg (by simp [hd]), if_pos train, rxGo_rx]
    exact ⟨rfl, rfl, by simp [Link.gone, wState, wLosses, up]⟩

end

section
variable {s : State} {l : LinkId} {x : RxFrame}

/-! ## An uncorrectable frame (R81, R95, R108, R115) -/

theorem badFrame_hunting (h : (s.rx l).state = lsFrame) (arrival : Nat) : s.badFrame l arrival =
    s.onRx l fun m => { (if m.lastSeq.isSome then m.countBad else m) with lastSeq := none } :=
  if_pos (by simp [h])

/-- The receiver counts it; the samples are the seam's. -/
theorem badFrame_rx (h : (s.rx l).state ≠ lsFrame) (arrival : Nat) :
    (s.badFrame l arrival).rx l = (s.rx l).countBad := by
  unfold State.badFrame
  dsimp only
  rw [if_neg (by simp [h])]
  split
  · split
    · rw [(pushSamples_only ..).rx, rx_onRx]
    · rw [rx_onRx]
  · rw [rx_onRx]

/-! ## A frame from FEC on (R79, R80, R95, R99, R115) -/

/-- A frame as a framed receiver reads it: in the polarity and precoding in force, at its alignment only. -/
def Link.reads (m : Link) (x : RxFrame) : Option (Nat × Frame) :=
  if m.alignment ≠ x.ui then none
  else if m.precodeStarts then decodeFrame x.levels m.rxInverted true 0
  else m.tryDecode x m.rxInverted m.precodeRx

/-- Where PRECODE_PEND has run out precoding is in force (R99). -/
def State.precodes (s : State) (l : LinkId) : State :=
  s.onRx l fun m => { m with precodeRx := m.precodeRx || (s.rx l).precodeStarts }

theorem precodes_rx (s : State) (l : LinkId) : (s.precodes l).rx l =
    { s.rx l with precodeRx := (s.rx l).precodeRx || (s.rx l).precodeStarts } := rx_onRx ..

theorem lockedFrame_eq (s : State) (l : LinkId) (x : RxFrame) : s.lockedFrame l x =
    ((s.rx l).reads x).elim ((s.precodes l).badFrame l x.arrival) fun d =>
      ((s.precodes l).onRx l fun m => m.countDecoded d.1).frameTrained l x.arrival d.2 := by
  unfold State.lockedFrame Link.reads State.precodes
  simp only [bne_iff_ne]
  split <;> simp_all

theorem receiveFrame_framed (lo : lsFec ≤ (s.rx l).state) (hi : (s.rx l).state ≤ lsUp) : s.receiveFrame l x =
    (s.lockedFrame l x).onRx l fun m => m.keepLast x := by
  have hf : ((s.rx l).state == lsFrame) = false := by
    simp only [lsFec, lsFrame, beq_eq_false_iff_ne] at lo ⊢
    omega
  unfold State.receiveFrame
  dsimp only
  rw [if_neg (by simp [hf]), if_pos (by simp [within, lo, hi])]

/-- A decoded frame is counted with the symbols corrected; it ends a run of uncorrectable frames, and a TRAIN frame takes an
UP link to DESKEW (R115, Table 3.8). -/
theorem receiveFrame_decoded (lo : lsFec ≤ (s.rx l).state) (hi : (s.rx l).state ≤ lsUp) {e : Nat} {f : Frame}
    (h : (s.rx l).reads x = some (e, f)) :
    ((s.receiveFrame l x).rx l).tally = (inc64 (s.rx l).frames, add64 (s.rx l).preFec e, (s.rx l).uncorrectable, 0) ∧
      ((s.rx l).state = lsUp → f.kind = 1 →
        ((s.receiveFrame l x).rx l).state = lsDeskew ∧ ((s.receiveFrame l x).rx l).cause = 0x06 ∧
          ((s.receiveFrame l x).rx l).lockLosses = inc32 (s.rx l).lockLosses) := by
  have spec := frameTrained_spec ((s.precodes l).onRx l fun m => m.countDecoded e) l x.arrival f
  rw [rx_onRx, precodes_rx] at spec
  rw [receiveFrame_framed lo hi, lockedFrame_eq, h, rx_onRx]
  exact spec

/-- An uncorrectable frame is counted with all its symbols, and the state stays (R81, R115). -/
theorem receiveFrame_uncorrectable (lo : lsFec ≤ (s.rx l).state) (hi : (s.rx l).state ≤ lsUp)
    (h : (s.rx l).reads x = none) :
    ∃ p, (s.receiveFrame l x).rx l = ({ s.rx l with precodeRx := p } : Link).countBad.keepLast x := by
  have hf : ((s.precodes l).rx l).state ≠ lsFrame := by
    rw [precodes_rx]
    simp only [lsFec, lsFrame] at lo ⊢
    omega
  refine ⟨(s.rx l).precodeRx || (s.rx l).precodeStarts, ?_⟩
  rw [receiveFrame_framed lo hi, lockedFrame_eq, h, rx_onRx, ← precodes_rx, ← badFrame_rx hf x.arrival]
  rfl

/-! ## A frame in FRAME (R79, R94, R95) -/

theorem receiveFrame_hunts (h : (s.rx l).state = lsFrame) : s.receiveFrame l x =
    (s.huntFrame l x).onRx l fun m => m.keepLast x := by
  unfold State.receiveFrame
  dsimp only
  rw [if_pos (by simp [h])]

end

/-- What the hunt makes of a frame: the first polarity and precoding in which it decodes. -/
def Link.hunted (m : Link) (x : RxFrame) : Option ((Bool × Bool) × Nat × Frame) :=
  m.hunts.findSome? fun h => (m.tryDecode x h.1 h.2).map fun d => (h, d)

theorem huntFrame_found {s : State} {l : LinkId} {x : RxFrame} {inverted pre : Bool} {e : Nat} {f : Frame}
    (h : (s.rx l).hunted x = some ((inverted, pre), e, f)) : s.huntFrame l x =
    (s.onRx l fun m => { m.countDecoded e with precodeRx := pre }).frameInFrame l inverted x.ui f := by
  unfold Link.hunted at h
  unfold State.huntFrame
  dsimp only
  rw [h]

theorem huntFrame_lost {s : State} {l : LinkId} {x : RxFrame} (h : (s.rx l).hunted x = none) :
    s.huntFrame l x = s.badFrame l x.arrival := by
  unfold Link.hunted at h
  unfold State.huntFrame
  dsimp only
  rw [h]

/-- The frame that the hunt decodes is the one before the next, in its polarity; the second in order at one alignment leads
to FEC (R94, R95). -/
theorem frameInFrame_probe {s : State} {n : Fin 48} {inverted : Bool} {ui : Nat} {f : Frame} {m m' : Link}
    (h0 : s.rx (.probe n) = m) (hm : (s.frameInFrame (.probe n) inverted ui f).rx (.probe n) = m') :
    m'.lastSeq = some f.seq ∧ m'.rxInverted = inverted ∧ m'.precodeRx = m.precodeRx ∧ m'.frames = m.frames ∧
      m'.preFec = m.preFec ∧
      m'.state = if m.alignment = ui ∧ m.lastSeq = some ((f.seq + 255) % 256) then lsFec else m.state := by
  unfold State.frameInFrame at hm
  extract_lets word at hm
  have hw (a : Link) : (word a).standing = a.standing := by
    simp only [word]
    split
    · exact takeTraining_standing ..
    · rfl
  rw [if_neg (by simp [miswired])] at hm
  by_cases h : m.alignment = ui ∧ m.lastSeq = some ((f.seq + 255) % 256)
  · rw [if_pos (by simpa [h0] using h), rx_onRx, h0] at hm
    have hk := hw m
    simp only [Link.standing, Link.tally, Prod.mk.injEq] at hk
    obtain ⟨⟨-, -, precode⟩, frames, preFec, -, -⟩ := hk
    rw [← hm, if_pos h]
    exact ⟨rfl, rfl, precode, frames, preFec, rfl⟩
  · rw [if_neg (by simpa [h0] using h), rx_onRx, h0] at hm
    have hk : (word (if m.alignment == ui then m.countSeq f.seq else m)).standing = m.standing := by
      rw [hw]
      split
      · exact countSeq_standing ..
      · rfl
    simp only [Link.standing, Link.tally, Prod.mk.injEq] at hk
    obtain ⟨⟨state, -, precode⟩, frames, preFec, -, -⟩ := hk
    rw [← hm, if_neg h]
    exact ⟨rfl, rfl, precode, frames, preFec, state⟩

/-- A frame of 1,700 symbols reaches a receiver that works (R77). -/
theorem frame_received {x : RxFrame} (ok : x.ok = true) {s : State} {l : LinkId} (on : s.rxOn l = true) :
    Completes (.probeFrameReceive l x) s (s.receiveFrame l x) :=
  completes_of_ran ((if_pos ok).trans (congrArg (ran s) (if_pos on)))

theorem frame_ignored {x : RxFrame} (ok : x.ok = true) {s : State} {l : LinkId} (off : s.rxOn l = false) :
    Completes (.probeFrameReceive l x) s s :=
  completes_of_ran ((if_pos ok).trans (congrArg (ran s) (if_neg (by simp [off]))))

/-- Settles O15: the losses by what `rxGo` and `rxSearch` leave, the frames by how the receiver reads them. -/
theorem framesAndLosses : Obligations.FramesAndLosses := by
  unfold Obligations.FramesAndLosses
  refine ⟨fun s l => ⟨fun nd nt => ?signal, fun t => ?test, fun run lo hi => ?bad, fun run lo hi => ?sequence,
    fun n hn run up => ?drift⟩, fun s l x ok => ⟨fun off => ?off, fun on fr n hn => ⟨fun inverted pre e f hunt => ?found,
    fun hunt => ?lost⟩, fun on lo hi => ?framed⟩⟩
  case signal =>
    obtain ⟨want, e⟩ := rxSearch_rx s l 0x02
    refine ⟨s.rxSearch l 0x02, completes_of_ran (congrArg (ran s) ?_), rxSearch_wentBack s l 0x02, by rw [e]⟩
    exact (if_neg (by simpa using nd)).trans (if_neg (by simpa using nt))
  case test =>
    refine completes_of_ran (congrArg (ran s) ?_)
    exact (if_neg (by simp [t, lsTest, lsDisabled])).trans (if_pos (by simpa using t))
  case bad =>
    have due : (4 ≤ (s.rx l).badRun && within lsFec lsUp (s.rx l).state) = true := by simp [run, within, lo, hi]
    exact ⟨_, completes_of_ran (congrArg (ran s) (if_pos due)), rxGo_wentBack s l lsFrame 0x03⟩
  case sequence =>
    have due : (2 ≤ (s.rx l).seqRun && within lsFec lsUp (s.rx l).state) = true := by simp [run, within, lo, hi]
    exact ⟨_, completes_of_ran (congrArg (ran s) (if_pos due)), rxGo_wentBack s l lsFrame 0x04⟩
  case drift =>
    subst hn
    have due : (4 ≤ (s.rx (.probe n)).driftRun && (s.rx (.probe n)).state == lsUp) = true := by simp [run, up]
    exact ⟨_, completes_of_ran (congrArg (ran s) (if_pos due)), rxGo_wentBack s (.probe n) lsDeskew 0x05⟩
  case off => exact frame_ignored ok off
  case found =>
    subst hn
    refine ⟨_, frame_received ok on, ?_⟩
    rw [receiveFrame_hunts fr, huntFrame_found hunt, rx_onRx]
    obtain ⟨seq, polarity, precode, frames, preFec, state⟩ := frameInFrame_probe (inverted := inverted) (ui := x.ui) (f := f)
      (rx_onRx s (.probe n) fun m => { m.countDecoded e with precodeRx := pre }) rfl
    exact ⟨((onRx_only ..).next <| (frameInFrame_only ..).next (onRx_only ..)).only, seq, polarity, precode, frames, preFec,
      state.trans (by rw [← fr]; rfl)⟩
  case lost =>
    subst hn
    refine ⟨_, frame_received ok on, ?_⟩
    rw [receiveFrame_hunts fr, huntFrame_lost hunt, badFrame_hunting fr, rx_onRx, rx_onRx]
    refine ⟨((onRx_only ..).next (onRx_only ..)).only, rfl, ?_⟩
    cases (s.rx (.probe n)).lastSeq.isSome
    · exact ⟨fr, rfl⟩
    · exact ⟨fr, rfl⟩
  case framed =>
    refine ⟨_, frame_received ok on, ?_⟩
    split
    · next e f read =>
      obtain ⟨counts, train⟩ := receiveFrame_decoded lo hi read
      simp only [Link.tally, Prod.mk.injEq] at counts
      obtain ⟨frames, preFec, uncorrectable, run⟩ := counts
      exact ⟨frames, preFec, uncorrectable, run, train⟩
    · next read =>
      obtain ⟨p, e⟩ := receiveFrame_uncorrectable lo hi read
      rw [e]
      exact ⟨rfl, rfl, rfl, rfl, rfl⟩

end Sys2Proof.Machine
end

section
namespace Sys2Proof.Machine

set_option Elab.async false

/-! ## Control messages (R91, R92, R97) -/

theorem vmod_vmod {α : Type} {n : Nat} (v : Vector α n) (i : Nat) (f g : α → α) :
    vmod (vmod v i f) i g = vmod v i fun a => g (f a) := by
  unfold vmod
  split <;> simp

theorem vmod_id {α : Type} {n : Nat} (v : Vector α n) (i : Nat) : vmod v i id = v := by
  unfold vmod
  split <;> simp

theorem onLink_onLink (s : State) (n : Nat) (f g : Link → Link) :
    (s.onLink n f).onLink n g = s.onLink n fun m => g (f m) :=
  congrArg (fun v => { s with links := v }) (vmod_vmod ..)

/-- DATA frames go out as before where the receiver's training and the dictionary are. -/
theorem sendsData_congr {s t : State} {n : Nat} (ht : (t.link n).trained = (s.link n).trained)
    (hs : (t.link n).state = (s.link n).state) (hd : t.dict = s.dict) : t.sendsData n = s.sendsData n := by
  unfold State.sendsData State.cfg
  rw [ht, hs, hd]

theorem nextMessage_empty {m : Link} (hd : m.deviceMsgs = []) (hh : m.hostMsgs = []) : m.nextMessage = m := by
  unfold Link.nextMessage
  simp only [hd, hh]

/-- A host's message with none of the device's before it goes into the DATA frames under the next TAG. -/
theorem nextMessage_host {m : Link} {b : List Byte} {rest : List (List Byte)} (hd : m.deviceMsgs = [])
    (hh : m.hostMsgs = b :: rest) (ht : m.timingDone = true) : m.nextMessage =
    { m with msg := some (b.set 1 (BitVec.ofNat 8 ((m.msgTag + 1) % 256))), msgTag := (m.msgTag + 1) % 256
             msgAttempts := 1, hostMsgs := rest } := by
  unfold Link.nextMessage
  simp only [hd, hh, ht, Bool.true_or, if_true]

theorem pumpControl_idle {s : State} {n : Nat} (h : (s.link n).msg ≠ none ∨ s.sendsData n = false) :
    s.pumpControl n = s := by
  refine if_neg ?_
  rcases h with h | h <;> simp [h]

theorem pumpControl_sends {s : State} {n : Nat} (hm : (s.link n).msg = none) (hd : s.sendsData n = true) :
    s.pumpControl n = s.onLink n Link.nextMessage := if_pos (by simp [hm, hd])

/-- With no message waiting nothing goes out. -/
theorem pumpControl_empty {s : State} {n : Nat} (hd : (s.link n).deviceMsgs = []) (hh : (s.link n).hostMsgs = []) :
    s.pumpControl n = s := by
  unfold State.pumpControl
  split
  · exact (onLink_congr (g := id) (nextMessage_empty hd hh)).trans (congrArg (fun v => { s with links := v }) (vmod_id ..))
  · rfl

/-- A message that ends with none behind it leaves the link without one (R91). -/
theorem endMessage_last {s : State} {n : Fin 48} (hd : (s.link n.val).deviceMsgs = []) (hh : (s.link n.val).hostMsgs = [])
    (acked : Bool) : ((s.endMessage n.val acked).link n.val).msg = none ∧
      ((s.endMessage n.val acked).link n.val).msgAttempts = 0 ∧
      ((s.endMessage n.val acked).link n.val).feMsgTimeouts = (s.link n.val).feMsgTimeouts := by
  unfold State.endMessage
  extract_lets t latest
  rw [pumpControl_empty] <;> rw [State.link_onLink_same _ _ _ n.isLt]
  · exact ⟨rfl, rfl, rfl⟩
  · exact hd
  · exact hh

/-! ## Writes of a link's objects (Table 3.11) -/

theorem applyService_link {s : State} {index : Nat} (lo : 0x2200 ≤ index) (hi : index ≤ 0x222F) (sub : Nat)
    (data : List Byte) : s.applyService index sub data = none := by
  unfold State.applyService
  dsimp only
  split
  case h_19 => rfl
  all_goals omega

theorem applyUnit_link {s : State} {n : Fin 48} (sub : Nat) (data : List Byte) :
    s.applyUnit (0x2200 + n.val) sub data =
      if sub = 7 then some (s.queueHost n.val data)
      else if sub = 8 then some (taken (s.onLink n.val Link.clearCounters)) else none := by
  have hn := n.isLt
  unfold State.applyUnit
  dsimp only
  split
  case h_7 =>
    rw [if_pos (by simp [within]; omega), Nat.add_sub_cancel_left]
    split
    · rfl
    · rfl
    · next h7 h8 => rw [if_neg h7, if_neg h8]
  all_goals omega

set_option maxRecDepth 65536 in
theorem hostMsg_row : blockWise 0x2200 48 7 1 = true ∧
    (objectRow 0x2200 7).all (fun r => r.acc != .rwa) = true := by decide

set_option maxRecDepth 65536 in
theorem clearCounters_row : blockWise 0x2200 48 8 1 = true ∧
    (objectRow 0x2200 8).all (fun r => r.acc != .rwa) = true := by decide

/-- An object of the links that is not RWA acts with the write. -/
theorem plain_link {sub : Nat} (h : blockWise 0x2200 48 sub 1 = true ∧
    (objectRow 0x2200 sub).all (fun r => r.acc != .rwa) = true) (h0 : sub ≠ 0) (n : Fin 48) :
    Plain (0x2200 + n.val) sub := by
  obtain ⟨block, acc⟩ := h
  have hn := n.isLt
  have row : objectRow (0x2200 + n.val) sub = objectRow 0x2200 sub :=
    objectRow_block (j := 0) block n.isLt (by decide) h0
  unfold Plain
  rw [row]
  cases hr : objectRow 0x2200 sub with
  | none => rfl
  | some r =>
    rw [hr] at acc
    simp only [Option.all_some, bne_iff_ne] at acc
    have mode : key (0x2200 + n.val) sub ≠ kModeRequest := by simp only [key, kModeRequest]; omega
    have at_ : key (0x2200 + n.val) sub ≠ kEpochAt := by simp only [key, kEpochAt]; omega
    simp [Row.staged, acc, mode, at_]

theorem request_link {s : State} {via : Path} {n : Fin 48} {sub : Nat} {data : List Byte} {t : Taken}
    (h : Passes s via (0x2200 + n.val) sub data) (hs : Plain (0x2200 + n.val) sub)
    (ht : s.applyUnit (0x2200 + n.val) sub data = some t) :
    s.request via (0x2200 + n.val) sub data = t.2.answer via (0x2200 + n.val) sub t.1 := by
  have hn := n.isLt
  refine h.unit (applyService_link (by omega) (by omega) ..) ht hs ?_
  rw [beq_eq_false_iff_ne.2 (by omega : 0x2200 + n.val ≠ 0x2000), Bool.false_and]

/-- FE_MESSAGE (R92). -/
theorem request_feMessage {s : State} {via : Path} {n : Fin 48} {data : List Byte}
    (h : Passes s via (0x2200 + n.val) 7 data) : s.request via (0x2200 + n.val) 7 data =
      (s.queueHost n.val data).2.answer via (0x2200 + n.val) 7 (s.queueHost n.val data).1 :=
  request_link h (plain_link hostMsg_row (by decide) n) (applyUnit_link 7 data)

/-- A host's message at the end of its queue. -/
def State.hostQueued (s : State) (n : Nat) (data : List Byte) : State :=
  s.onLink n fun m => { m with hostMsgs := m.hostMsgs ++ [data] }

theorem hostQueued_link (s : State) (n : Fin 48) (data : List Byte) : (s.hostQueued n.val data).link n.val =
    { s.link n.val with hostMsgs := (s.link n.val).hostMsgs ++ [data] } := State.link_onLink_same _ _ _ n.isLt

theorem hostQueued_sendsData (s : State) (n : Fin 48) (data : List Byte) :
    (s.hostQueued n.val data).sendsData n.val = s.sendsData n.val := by
  have hl := hostQueued_link s n data
  exact sendsData_congr (by rw [hl]; rfl) (by rw [hl]) rfl

/-- A message of a host type that finds room is queued, and goes out where it can (R92). -/
theorem queueHost_taken {s : State} {n : Nat} {data : List Byte} (ht : 0x80 ≤ msgType data)
    (room : (s.link n).hostMsgs.length < 4) : s.queueHost n data = taken ((s.hostQueued n data).pumpControl n) := by
  unfold State.queueHost
  rw [if_neg (by omega), if_neg (by omega)]
  rfl

/-- It waits while another message is in progress, or no DATA frames go out. -/
theorem queueHost_waits {s : State} {n : Fin 48} {data : List Byte} (ht : 0x80 ≤ msgType data)
    (room : (s.link n.val).hostMsgs.length < 4) (hw : (s.link n.val).msg ≠ none ∨ s.sendsData n.val = false) :
    s.queueHost n.val data = taken (s.hostQueued n.val data) := by
  rw [queueHost_taken ht room, pumpControl_idle]
  rwa [hostQueued_link, hostQueued_sendsData]

/-- With none before it, it goes out at once under the next TAG (R91, R92). -/
theorem queueHost_sends {s : State} {n : Fin 48} {data : List Byte} (ht : 0x80 ≤ msgType data)
    (hh : (s.link n.val).hostMsgs = []) (hd : (s.link n.val).deviceMsgs = []) (hm : (s.link n.val).msg = none)
    (sends : s.sendsData n.val = true) (done : (s.link n.val).timingDone = true) : s.queueHost n.val data =
      taken (s.onLink n.val fun m =>
        { m with msg := some (data.set 1 (BitVec.ofNat 8 ((m.msgTag + 1) % 256))), msgTag := (m.msgTag + 1) % 256
                 msgAttempts := 1, hostMsgs := [] }) := by
  rw [queueHost_taken ht (by simp [hh]),
    pumpControl_sends (by rw [hostQueued_link]; exact hm) ((hostQueued_sendsData ..).trans sends), State.hostQueued,
    onLink_onLink]
  exact congrArg taken (onLink_congr (nextMessage_host (rest := []) hd (by simp [hh]) done))

/-! ## The pattern checker (R111, R112, Table 3.10) -/

theorem ballsUsed_of_near {s : State} {n : Nat} (ht : (s.link n).state = lsTest)
    (h : s.cfg (0x2200 + n) 6 = 1 ∨ s.cfg (0x2200 + n) 6 = 2) : s.ballsUsed n = false := by
  unfold State.ballsUsed
  rcases h with h | h <;> simp [ht, h, within]

theorem ballsUsed_of_other {s : State} {n : Nat} (h : s.cfg (0x2200 + n) 6 = 0 ∨ s.cfg (0x2200 + n) 6 = 3) :
    s.ballsUsed n = true := by
  unfold State.ballsUsed
  rcases h with h | h <;> simp [h, within]

theorem checkBits_off {s : State} {n : Nat} (h : s.checkerOn n = false) (bits : List Bool) : s.checkBits n bits = s :=
  if_neg (by simp [h])

/-- Settles O16: the messages by what the link's queues hold, the patterns by when the checker runs. -/
theorem linkMessagesAndPatterns : Obligations.LinkMessagesAndPatterns := by
  unfold Obligations.LinkMessagesAndPatterns
  refine ⟨⟨fun s n b hm few => ?again, fun s n b hm three hd hh => ?dropped, fun s n bits ht => ⟨fun on loop acked => ?reads,
    fun na sends => ?silent, fun near => ?near⟩⟩, fun s via n data h => ⟨fun low => ?range, fun hi full => ?busy,
    fun hi room wait => ?waits, fun hi hh hd hm sends done => ?sends⟩, fun s via n data h => ?clear⟩
  case again => exact completes_of_ran (by simp only [exec, execControlMessageAckTimeout, hm, if_pos few])
  case dropped =>
    have last : ¬ (s.link n.val).msgAttempts < 3 := Nat.not_lt.2 three
    refine ⟨_, completes_of_ran (by simp only [exec, execControlMessageAckTimeout, hm, if_neg last]; rfl), ?_⟩
    have hl : ((s.onLink n.val fun m => { m with feMsgTimeouts := inc32 m.feMsgTimeouts }).event .feMsgTimeout .probeLinks
        n.val).link n.val = { s.link n.val with feMsgTimeouts := inc32 (s.link n.val).feMsgTimeouts } :=
      (event_rx _ _ _ _ _ (.probe n)).trans (rx_onLink ..)
    obtain ⟨msg, attempts, timeouts⟩ := endMessage_last (by rw [hl]; exact hd) (by rw [hl]; exact hh) false
    rw [hl] at timeouts
    refine ⟨msg, attempts, timeouts, ?_⟩
    rw [(endMessage_only ..).sent, (event_only ..).sent]
    rfl
  case reads =>
    refine completes_of_ran (congrArg (ran s) ((if_pos (ballsUsed_of_other loop)).trans (if_pos ?_)))
    unfold State.checkerOn
    rcases acked with a | a <;> simp [ht, on, a]
  case silent =>
    have off : s.checkerOn n.val = false := by simp [State.checkerOn, na, sends]
    exact completes_of_ran (congrArg (ran s) (by rw [checkBits_off off, ite_self]))
  case near => exact completes_of_ran (congrArg (ran s) (if_neg (by simp [ballsUsed_of_near ht near])))
  case range =>
    have refused : s.queueHost n.val data = refuse abValueRange s := if_pos low
    exact completes_of_ran (congrArg (ran s) ((request_feMessage h).trans (by rw [refused]; rfl)))
  case busy =>
    have refused : s.queueHost n.val data = refuse abBusy s := (if_neg (Nat.not_lt.2 hi)).trans (if_pos full)
    exact completes_of_ran (congrArg (ran s) ((request_feMessage h).trans (by rw [refused]; rfl)))
  case waits =>
    exact completes_of_ran (congrArg (ran s) ((request_feMessage h).trans (by rw [queueHost_waits hi room wait]; rfl)))
  case sends =>
    have goes := queueHost_sends hi hh hd hm sends done
    exact completes_of_ran (congrArg (ran s) ((request_feMessage h).trans (by rw [goes]; rfl)))
  case clear =>
    exact completes_of_ran (congrArg (ran s)
      (request_link h (plain_link clearCounters_row (by decide) n) (applyUnit_link 8 data)))

end Sys2Proof.Machine
end

section
namespace Sys2Proof.Machine

set_option Elab.async false

/-! ## An ingot of a run (R119, R121, R122, R138, R181) -/

/-- An operation that leaves the Surveyor leaves the coordinates of the latest sample. -/
theorem Alters.here {p : List Part} {s t : State} (h : Alters p s t) (hp : Part.sv ∉ p := by decide) :
    t.here = s.here := by
  unfold State.here State.stampedPos State.posNow
  rw [h.sv hp]

theorem encodeRun_type (xs : List Samp) (format : Nat) (frame : Bool) :
    (encodeRun xs format frame).1 = 1 ∨ (encodeRun xs format frame).1 = 2 := by
  unfold encodeRun
  dsimp only
  split
  · exact .inr rfl
  · exact .inl rfl

/-- What an ingot of a seam says of the run from `a` up to sample `b` (R119, R121, R138). -/
def State.Covers (s : State) (k : Nat) (a : Coord) (b : Nat) (i : Ingot) : Prop :=
  i.source = k ∧ i.stream = s.streamNo k ∧ i.sidx = a.sidx ∧ i.rastpos = a.rastpos ∧ i.time96 = a.time96 ∧
    i.epoch = s.epochNo ∧ i.close = b ∧
    (if (s.seam k).statusAt a.sidx = 0 then (i.type = 1 ∨ i.type = 2) ∧ i.span = ((s.seam k).run a.sidx b).length
     else i.type = 4 ∧ i.span = b - a.sidx ∧ i.aux = (s.seam k).statusAt a.sidx)

section
variable {s : State} {k : Nat} {copy : Copy} {a : Coord} {b : Nat} {frame : Bool}

/-- A gated stream keeps nothing without storage (R181). -/
theorem emitRun_gated (hg : s.gatedOut k copy a.sidx b = true) : s.emitRun k copy a b frame = s := by
  unfold State.emitRun
  dsimp only
  rw [if_pos hg, ite_self]

/-- Every other run makes its ingot. -/
theorem emitRun_makes (hab : a.sidx < b) (hg : s.gatedOut k copy a.sidx b = false) :
    ∃ i, (s.emitRun k copy a b frame).closing = s.closing ++ [i] ∧ s.Covers k a b i := by
  unfold State.emitRun State.Covers
  dsimp only
  rw [if_neg (by omega), if_neg (by simp [hg])]
  by_cases h : (s.seam k).statusAt a.sidx = 0
  · simp only [if_pos h]
    refine ⟨_, congrArg (· ++ [_]) ?_, rfl, rfl, rfl, rfl, rfl, rfl, rfl, encodeRun_type .., rfl⟩
    split <;> rfl
  · simp only [if_neg h]
    refine ⟨_, congrArg (· ++ [_]) ?_, rfl, rfl, rfl, rfl, rfl, rfl, rfl, rfl, rfl, rfl⟩
    split <;> rfl

/-! ## The next ingot (R121, R126) -/

theorem setOpen_openOf (m : Seam) (copy : Copy) (c : Option Coord) : (m.setOpen copy c).openOf copy = c := by
  cases copy <;> rfl

theorem openNext_openOf (hk : k < 48) : ((s.openNext k copy).seam k).openOf copy = some s.here := by
  unfold State.openNext
  dsimp only
  rw [State.seam_onSeam_same _ _ _ hk, setOpen_openOf]

/-- The next ingot opens on the sample of the cut. -/
theorem emitRun_openNext (hk : k < 48) :
    (((s.emitRun k copy a b frame).openNext k copy).seam k).openOf copy = some s.here := by
  rw [openNext_openOf hk, (emitRun_only ..).here]

theorem openNext_closing : (s.openNext k copy).closing = s.closing := (openNext_only ..).closing

/-! ## Where an ingot is cut (R120, R121, R126) -/

/-- At a grid point and at a boundary of validity. -/
theorem ingotClose_cuts (ho : (s.seam k).openOf copy = some a) (ha : a.sidx < s.sv.sidx)
    (cut : s.gridPoint (s.gridOf k copy) = true ∨ s.validityCut k = true) : s.ingotClose k copy = s.cutCopy k copy := by
  unfold State.ingotClose
  simp only [ho]
  rw [if_neg (by omega), if_pos (by simpa using cut)]

/-- In any mode but FRAME a cut ends the run and opens the next ingot. -/
theorem cutCopy_plain (ho : (s.seam k).openOf copy = some a) (ha : a.sidx < s.sv.sidx) (hg : s.gridOf k copy ≠ 4) :
    s.cutCopy k copy = (s.emitRun k copy a s.sv.sidx false).openNext k copy := by
  unfold State.cutCopy
  simp only [ho]
  rw [if_neg (by omega), if_neg]
  cases copy with
  | stream => simpa [State.gridOf] using hg
  | window => simp

theorem cutCopy_frame (ho : (s.seam k).openOf .stream = some a) (ha : a.sidx < s.sv.sidx)
    (hg : s.gridOf k .stream = 4) : s.cutCopy k .stream = s.cutFrame k a true := by
  unfold State.cutCopy
  simp only [ho]
  rw [if_neg (by omega), if_pos (by simpa [State.gridOf] using hg)]

/-- A frame start ends the ingot of a frame that fits (R126). -/
theorem cutFrame_whole (fs : s.sv.frameStart = true) (valid : (s.seam k).statusAt a.sidx = 0)
    (fell : (s.seam k).frameFell = false) (fits : s.frameFits k a.sidx = true) : s.cutFrame k a true =
    (((s.emitRun k .stream a s.sv.sidx true).openNext k .stream).onSeam k fun m => { m with frameLast := none }).onSeam k
      fun m => { m with frameFell := false } := by
  unfold State.cutFrame
  dsimp only
  rw [if_pos fs, if_neg (by simp [valid]), if_neg (by simp [fell]), if_pos fits, if_pos rfl]

/-! ## A copy that is not open; joining (R107) -/

theorem ingotClose_none (ho : (s.seam k).openOf copy = none) : s.ingotClose k copy = s := by
  unfold State.ingotClose
  rw [ho]

theorem cutCopy_none (ho : (s.seam k).openOf copy = none) : s.cutCopy k copy = s := by
  unfold State.cutCopy
  rw [ho]

/-- A lost seam joins on a line start at or after its first sample decoded in UP: both copies are cut there. -/
theorem seamJoin_joins {f : Nat} (hf : (s.seam k).firstUp = some f) (hs : s.samples = true) (ls : s.sv.lineStart = true)
    (lost : s.seamLost k = true) (hle : f ≤ s.sv.sidx) : s.seamJoin k =
    ((s.cutCopy k .stream).cutCopy k .window).onSeam k fun m =>
      { m with joined := true, lostAt := none, buf := m.buf.filter fun x => s.sv.sidx ≤ x.sidx } := by
  have cuts : ((s.cutCopy k .stream).cutCopy k .window).sv = s.sv := (cutCopy_only ..).sv.trans (cutCopy_only ..).sv
  unfold State.seamJoin
  simp only [hf]
  rw [if_pos (by simp [hs, ls, lost, hle]), cuts]

end

/-- Settles O17: a cut is the ingot of the run and the opening of the next one; a seam joins after the cuts of its copies. -/
theorem ingotsAndSeams : Obligations.IngotsAndSeams := by
  unfold Obligations.IngotsAndSeams
  refine ⟨fun s k copy => ⟨fun none => ?closed, fun a ho ha hg cut => ?cuts⟩, fun s k a ho ha hg =>
    ⟨fun fs valid fell fits gate => ?frame, fun fs ls vc => ?within⟩,
    fun s k f hf hs ls lost hle => ⟨?joins, fun hst hw => ?idle⟩⟩
  case closed => exact completes_of_ran (congrArg (ran s) (ingotClose_none none))
  case cuts =>
    refine ⟨s.ingotClose k.val copy, completes_of_ran rfl, (ingotClose_only ..).only, ?_⟩
    rw [ingotClose_cuts ho ha cut, cutCopy_plain ho ha hg]
    refine ⟨emitRun_openNext k.isLt, fun gate => ?_, fun gate => ?_⟩
    · rw [openNext_closing, emitRun_gated gate]
    · rw [openNext_closing]
      exact emitRun_makes ha gate
  case frame =>
    obtain ⟨i, closing, -, -, sidx, rastpos, -, -, close, -⟩ := emitRun_makes (frame := true) ha gate
    refine ⟨s.ingotClose k.val .stream, i, completes_of_ran rfl, (ingotClose_only ..).only, ?_⟩
    have start : s.gridPoint (s.gridOf k.val .stream) = true := by rw [hg]; exact fs
    rw [ingotClose_cuts ho ha (.inl start), cutCopy_frame ho ha hg, cutFrame_whole fs valid fell fits]
    refine ⟨by rw [State.onSeam_closing, State.onSeam_closing, openNext_closing, closing], sidx, rastpos, close, ?_⟩
    have opened : (((s.emitRun k.val .stream a s.sv.sidx true).openNext k.val .stream).seam k.val).openStream =
        some s.here := emitRun_openNext (copy := .stream) k.isLt
    rw [State.seam_onSeam_same _ _ _ k.isLt, State.seam_onSeam_same _ _ _ k.isLt]
    exact opened
  case within =>
    refine completes_of_ran (congrArg (ran s) ?_)
    unfold State.ingotClose
    simp only [ho]
    rw [if_neg (by omega), if_neg (by simp [hg, State.gridPoint, fs, vc]), if_neg (by simp [ls])]
  case joins =>
    refine ⟨s.seamJoin k.val, completes_of_ran rfl, (seamJoin_only ..).only, ?_⟩
    rw [seamJoin_joins hf hs ls lost hle, State.seam_onSeam_same _ _ _ k.isLt]
    exact ⟨rfl, rfl⟩
  case idle =>
    refine completes_of_ran (congrArg (ran s) ?_)
    have stream : s.cutCopy k.val .stream = s := cutCopy_none hst
    have window : s.cutCopy k.val .window = s := cutCopy_none hw
    rw [seamJoin_joins hf hs ls lost hle, stream, window]

end Sys2Proof.Machine
end

section
namespace Sys2Proof.Machine

set_option Elab.async false

/-! ## The bytes of a SAMPLE payload (R122) -/

/-- Bit `j` of a number is bit `j % 8` of its byte `j / 8`. -/
theorem leBytes_bit {n j : Nat} (h : j < 8 * n) (v : Nat) :
    ((leBytes n v).getD (j / 8) 0).getLsbD (j % 8) = v.testBit j := by
  induction n generalizing v j with
  | zero => omega
  | succ n ih =>
    rw [leBytes]
    by_cases hj : j < 8
    · rw [Nat.div_eq_of_lt hj, Nat.mod_eq_of_lt hj, List.getD_cons_zero, BitVec.getLsbD_ofNat, decide_eq_true hj,
        Bool.true_and]
    · obtain ⟨i, rfl⟩ := Nat.exists_eq_add_of_le' (Nat.le_of_not_lt hj)
      rw [Nat.add_div_right i (by decide), Nat.add_mod_right, List.getD_cons_succ, ih (by omega),
        Nat.testBit_div_two_pow (n := 8), Nat.add_comm]

theorem samplePayload_cons (x : Samp) (xs : List Samp) :
    samplePayload (x :: xs) = leBytes 2 (x.word.getD 0).toNat ++ samplePayload xs := List.flatMap_cons

theorem samplePayload_length (xs : List Samp) : (samplePayload xs).length = 2 * xs.length := by
  induction xs with
  | nil => rfl
  | cons x xs ih => rw [samplePayload_cons, List.length_append, leBytes_length, ih, List.length_cons]; omega

/-- Bytes 2d and 2d + 1 of the payload are those of sample d. -/
theorem samplePayload_getD (xs : List Samp) (d : Fin xs.length) {b : Nat} (hb : b < 2) :
    (samplePayload xs).getD (2 * d.val + b) 0 = (leBytes 2 (xs[d].word.getD 0).toNat).getD b 0 := by
  induction xs with
  | nil => exact d.elim0
  | cons x xs ih =>
    rw [samplePayload_cons]
    cases d using Fin.cases with
    | zero =>
      have front : 2 * (0 : Fin (x :: xs).length).val + b = b := Nat.zero_add b
      rw [front]
      exact List.getD_append _ _ _ _ (by rwa [leBytes_length])
    | succ d =>
      have behind : 2 * d.succ.val + b = 2 * d.val + b + 2 := by rw [Fin.val_succ]; omega
      rw [behind, List.getD_append_right _ _ _ _ (by rw [leBytes_length]; omega), leBytes_length, Nat.add_sub_cancel]
      exact ih d

/-- What is not encoded as TRANSITION is the samples' words (R122, R125). -/
theorem encodeRun_sample {xs : List Samp} {format : Nat} {frame : Bool} (h : (encodeRun xs format frame).1 = 1) :
    (encodeRun xs format frame).2.1 = samplePayload xs := by
  unfold encodeRun at h ⊢
  dsimp only at h ⊢
  split at h
  · cases h
  · next c => rw [if_neg c]

/-- A SAMPLE ingot of a run holds the words of the run (R121, R122). -/
theorem emitRun_sample {s : State} {k : Nat} {copy : Copy} {a : Coord} {b : Nat} {frame : Bool} (hab : a.sidx < b)
    (hg : s.gatedOut k copy a.sidx b = false) :
    ∃ i, (s.emitRun k copy a b frame).closing = s.closing ++ [i] ∧
      (i.type = 1 → i.span = ((s.seam k).run a.sidx b).length ∧
        i.payload = samplePayload ((s.seam k).run a.sidx b)) := by
  unfold State.emitRun
  dsimp only
  rw [if_neg (by omega), if_neg (by simp [hg])]
  by_cases h : (s.seam k).statusAt a.sidx = 0
  · simp only [if_pos h]
    refine ⟨_, congrArg (· ++ [_]) ?_, fun ty => ⟨rfl, encodeRun_sample ty⟩⟩
    split <;> rfl
  · simp only [if_neg h]
    refine ⟨_, congrArg (· ++ [_]) ?_, nofun⟩
    split <;> rfl

/-- Settles O18: byte by byte along the run, and for the ingot that a grid point of the seam closes. -/
theorem samplePayload_spec : Obligations.SamplePayload := by
  unfold Obligations.SamplePayload
  refine ⟨fun xs format frame h => ⟨?length, fun d j hj => ?bits⟩,
    fun s k a (ho : (s.seam k.val).openOf .stream = some a) ha hg grid gate => ?closed⟩
  case length => rw [encodeRun_sample h, samplePayload_length]
  case bits =>
    rw [encodeRun_sample h, samplePayload_getD xs d (by omega), leBytes_bit (by omega), BitVec.testBit_toNat]
  case closed =>
    obtain ⟨i, closing, sample⟩ := emitRun_sample (frame := false) ha gate
    have point : s.gridPoint (s.gridOf k.val .stream) = true := by rw [hg]; simpa [State.gridPoint] using grid
    refine ⟨s.ingotClose k.val .stream, i, completes_of_ran rfl, ?_, fun ty => ?_⟩
    · rw [ingotClose_cuts ho ha (.inl point), cutCopy_plain ho ha (by omega), openNext_closing, closing]
    · obtain ⟨span, payload⟩ := sample ty
      rw [payload, span, samplePayload_length]
      exact ⟨rfl, rfl⟩

end Sys2Proof.Machine
end

section
namespace Sys2Proof.Machine

set_option Elab.async false

/-! ## What the door decides by (R202 to R204, R208, R209) -/

/-- Of a stream the door reckons with its admitted bytes, and whether it is held and armed. -/
structure Load where
  bytes : Nat
  held : Bool
  armed : Bool

def Stream.load (m : Stream) : Load := ⟨m.bytes, m.held, m.armed⟩

/-- All that a decision of the door reads but the ring of its stream. -/
structure Account where
  sv : Surveyor
  dict : Dict
  paired : Bool
  shadow : Bool
  bus : Bool
  g : Nat
  bins : List Nat
  demoted : BitVec 64
  spans : Nat × Nat
  load : Nat → Load

def State.account (s : State) : Account :=
  ⟨s.sv, s.dict, s.paired, s.isShadow, s.busOn, s.grizzly.g, s.grizzly.bins, s.grizzly.demoted, s.grizzly.spans,
    fun n => (s.stream n).load⟩

/-- The counters that the door keeps (R203, R210). -/
structure Tally where
  refused : Nat
  backlogFull : Nat
  dropped : Nat
  tooSmall : Nat

def State.tally (s : State) : Tally :=
  ⟨s.grizzly.refusedIngots, s.grizzly.backlogFullGaps, s.grizzly.droppedIngots, s.grizzly.ringTooSmall⟩

section
variable {s t : State} (h : t.account = s.account)
include h

theorem cfg_of_account (index sub : Nat) : t.cfg index sub = s.cfg index sub :=
  congrArg (fun a => a.dict.live.value (key index sub)) h

theorem boundD_of_account : t.boundD = s.boundD := cfg_of_account h ..

theorem up_of_account : t.sv.up = s.sv.up := congrArg (·.sv.up) h

theorem isShadow_of_account : t.isShadow = s.isShadow := congrArg Account.shadow h

theorem load_of_account (q : Nat) : (t.stream q).load = (s.stream q).load := congrArg (fun a : Account => a.load q) h

theorem heldNow_of_account (q : Nat) : t.heldNow q = s.heldNow q := by
  have held : (t.stream q).held = (s.stream q).held := congrArg Load.held (load_of_account h q)
  have bus : t.busOn = s.busOn := congrArg Account.bus h
  unfold State.heldNow State.withdrawn
  rw [held, bus]

theorem isFloor_of_account (k : Nat) : t.isFloor k = s.isFloor k := by
  have cfg : t.cfg = s.cfg := funext fun i => funext fun j => cfg_of_account h i j
  have demoted : t.grizzly.demoted = s.grizzly.demoted := congrArg Account.demoted h
  unfold State.isFloor
  rw [cfg, demoted]

theorem queued_of_account : t.queued = s.queued := by
  have bytes (q : Nat) : (t.stream q).bytes = (s.stream q).bytes := congrArg Load.bytes (load_of_account h q)
  unfold State.queued
  simp only [heldNow_of_account h, bytes]

theorem heldBytes_of_account : t.heldBytes = s.heldBytes := by
  have bytes (q : Nat) : (t.stream q).bytes = (s.stream q).bytes := congrArg Load.bytes (load_of_account h q)
  unfold State.heldBytes
  simp only [heldNow_of_account h, bytes]

theorem backlogRoom_of_account : t.backlogRoom = s.backlogRoom := by
  unfold State.backlogRoom
  rw [cfg_of_account h, queued_of_account h, heldBytes_of_account h]

theorem openFloor_of_account : t.openFloor = s.openFloor := by
  have armed (q : Nat) : (t.stream q).armed = (s.stream q).armed := congrArg Load.armed (load_of_account h q)
  have spans : t.grizzly.spans = s.grizzly.spans := congrArg Account.spans h
  have cfg : t.cfg = s.cfg := funext fun i => funext fun j => cfg_of_account h i j
  unfold State.openFloor State.streamOf
  simp only [armed, spans, cfg, isFloor_of_account h]

theorem committedBytes_of_account : t.committedBytes = s.committedBytes := by
  unfold State.committedBytes
  rw [queued_of_account h, openFloor_of_account h]

theorem inBound_of_account (n : Nat) : t.inBound n = s.inBound n := by
  have paired : t.paired = s.paired := congrArg Account.paired h
  have g : t.grizzly.g = s.grizzly.g := congrArg Account.g h
  have bins : t.grizzly.bins = s.grizzly.bins := congrArg Account.bins h
  unfold State.inBound State.drainC100 State.tPipe State.takeoverFigures State.drainMeasured State.binRates State.drainE
  rw [boundD_of_account h, cfg_of_account h, paired, g, bins]

end

/-! ## What leaves the account and the counters as they are -/

/-- The account and the counters of the door. -/
def State.books (s : State) : Account × Tally := (s.account, s.tally)

theorem Reported.books {s t : State} (h : Reported s t) : t.books = s.books := by
  obtain ⟨_, _, _, _, _, _, _, rfl⟩ := h
  rfl

theorem Reported.stream {s t : State} (h : Reported s t) (q : Nat) : t.stream q = s.stream q := by
  obtain ⟨_, _, _, _, _, _, _, rfl⟩ := h
  rfl

/-- An operation that leaves the streams leaves each of them. -/
theorem Alters.stream {p : List Part} {s t : State} (h : Alters p s t) (q : Nat) (hp : Part.streams ∉ p := by decide) :
    t.stream q = s.stream q := by
  unfold State.stream
  rw [h.streams hp]

/-- A stream changed in what the door does not reckon with. -/
theorem onStream_account {f : Stream → Stream} (hf : ∀ m, (f m).load = m.load) (s : State) {q : Nat} (hq : q < 64) :
    (s.onStream q f).account = s.account := by
  have load : (fun n => ((s.onStream q f).stream n).load) = fun n => (s.stream n).load := by
    funext n
    by_cases h : n = q
    · rw [h, State.stream_onStream_same _ _ _ hq, hf]
    · rw [State.stream_onStream_other _ _ _ _ h]
  exact congrArg (fun l => { s.account with load := l }) load

theorem xcSend_books (s : State) (r : XcRecord) : (s.xcSend r).books = s.books := by
  unfold State.xcSend
  split
  · dsimp only
    split <;> rfl
  · rfl

/-- A pair that runs still runs when it is exposed (R370). -/
theorem exposePair_books (s : State) (cause : Nat) : (s.exposePair cause).books = s.books := by
  unfold State.exposePair
  split
  · next hp =>
    refine (event_reported ..).books.trans ?_
    have role : (s.role == 1 || s.role == 2) = true := (Bool.and_eq_true_iff.1 hp).1
    have runs : ((s.role == 1 || s.role == 2) && true) = s.paired := by rw [hp, role]; rfl
    exact congrArg (fun b => ({ s.account with paired := b }, s.tally)) runs
  · rfl

theorem diverge_books (s : State) (cause : Nat) : (s.diverge cause).books = s.books := by
  refine (exposePair_books ..).trans ?_
  split
  · exact xcSend_books ..
  · rfl

/-- The header record is compared, not reckoned with (R369). -/
theorem ownHdr_books (s : State) (i : Ingot) : (s.ownHdr i).books = s.books := by
  unfold State.ownHdr
  split
  · extract_lets crc u
    have sent : u.books = s.books := by
      unfold u
      split
      · exact xcSend_books ..
      · rfl
    clear_value u
    split
    · split
      · exact sent
      · exact (diverge_books ..).trans sent
    · split
      · exact sent
      · exact (diverge_books ..).trans sent
  · rfl

/-- RING_TOO_SMALL is counted and shows in the status of the stream's ring (R203). -/
theorem noteTooSmall_spec (s : State) (q : Nat) : (s.noteTooSmall q).account = s.account ∧
    (s.noteTooSmall q).tally = { s.tally with tooSmall := inc32 s.grizzly.ringTooSmall } ∧
    ∀ n, s.ringOf q = some n → ((s.noteTooSmall q).ring n).tooSmall = true := by
  have marked : ∃ u, Reported u (s.noteTooSmall q) ∧ u.account = s.account ∧
      u.tally = { s.tally with tooSmall := inc32 s.grizzly.ringTooSmall } ∧
      ∀ n, s.ringOf q = some n → (u.ring n).tooSmall = true := by
    refine ⟨_, event_reported .., ?_⟩
    have ring : ({ s with grizzly.ringTooSmall := inc32 s.grizzly.ringTooSmall } : State).ringOf q = s.ringOf q := rfl
    rw [ring]
    cases h : s.ringOf q with
    | none => exact ⟨rfl, rfl, nofun⟩
    | some n =>
      have hn : n < 65 := by
        obtain ⟨r, -, rfl⟩ := Option.map_eq_some_iff.1 h
        omega
      refine ⟨rfl, rfl, ?_⟩
      rintro _ ⟨⟩
      rw [State.ring_onRing_same _ _ _ hn]
  obtain ⟨u, ⟨_, _, _, _, _, _, _, reported⟩, spec⟩ := marked
  rw [reported]
  exact spec

/-! ## An ingot that enters the backlog, an ingot that is dropped (R191, R194, R202, R210) -/

/-- An ingot with the instant of its admission and the D in force. -/
def State.stamped (s : State) (i : Ingot) : Ingot := { i with door := s.sv.up, bound := s.boundD, order := s.sv.up }

/-- From `s` to `t` the stream admits `i`, and no counter of the door counts. -/
structure Admits (s : State) (q : Nat) (i : Ingot) (t : State) : Prop where
  stream : t.stream q = { s.stream q with
    drop := none, admitted := inc64 (s.stream q).admitted, backlog := (s.stream q).backlog ++ [s.stamped i] }
  tally : t.tally = s.tally

/-- From `s` to `t` ingot `i` of the stream is dropped. -/
structure Drops (s : State) (q : Nat) (i : Ingot) (t : State) : Prop where
  stream : ∃ r : DropRun, r.lastSeq = i.seq ∧ r.lastSidx = i.sidx ∧ t.stream q = { s.stream q with drop := some r }
  dropped : t.grizzly.droppedIngots = inc64 s.grizzly.droppedIngots

/-- The projection of R204 changes suspensions alone. -/
theorem project_tally (u : State) (ahead : Nat) : (u.project ahead).tally = u.tally := by
  unfold State.project State.suspend
  split
  · rfl
  · split
    · split
      · rfl
      · split
        · rfl
        · exact congrArg Prod.snd (event_reported ..).books
    · rfl

section
variable {s : State} {q : Nat} (hq : q < 64)
include hq

/-- A change of the stream and its report. -/
theorem Reported.of_onStream {f : Stream → Stream} {t : State} (h : Reported (s.onStream q f) t) :
    t.stream q = f (s.stream q) ∧ t.tally = s.tally ∧ t.account = (s.onStream q f).account :=
  ⟨(h.stream q).trans (State.stream_onStream_same _ _ _ hq), congrArg Prod.snd h.books, congrArg Prod.fst h.books⟩

theorem dropIngot_drops (i : Ingot) : Drops s q i (s.dropIngot q i) := by
  unfold State.dropIngot
  dsimp only
  split
  · exact ⟨⟨_, rfl, rfl, State.stream_onStream_same _ _ _ hq⟩, rfl⟩
  · obtain ⟨stream, tally, -⟩ := (notice_reported ..).of_onStream hq
    exact ⟨⟨_, rfl, rfl, stream⟩, congrArg Tally.dropped tally⟩

/-- The end of a run of dropped ingots changes nothing that the door decides by (R210). -/
theorem closeRun_spec : (s.closeRun q).stream q = { s.stream q with drop := none } ∧ (s.closeRun q).tally = s.tally ∧
    (s.closeRun q).account = s.account := by
  unfold State.closeRun
  split
  · next h =>
    refine ⟨?_, rfl, rfl⟩
    rw [← h]
  · have ended : (s.onStream q fun m => { m with drop := none }).account = s.account :=
      onStream_account (f := fun m => { m with drop := none }) (fun m => by simp only [Stream.load, Stream.bytes]) s hq
    obtain ⟨stream, tally, account⟩ :=
      (notice_reported (s.onStream q fun m => { m with drop := none }) ..).of_onStream hq
    exact ⟨stream, tally, account.trans ended⟩

variable (active : s.isShadow = false)
include active

theorem letIn_admits (i : Ingot) : Admits s q i (s.letIn q i) := by
  obtain ⟨stream, tally, account⟩ := closeRun_spec hq (s := s)
  have role : (s.closeRun q).isShadow = false := (isShadow_of_account account).trans active
  unfold State.letIn
  refine ⟨?_, tally⟩
  rw [State.stream_onStream_same _ _ _ hq, role, if_neg Bool.false_ne_true, stream, up_of_account account,
    boundD_of_account account]
  rfl

theorem admitFreely_admits (i : Ingot) : Admits s q i (s.admitFreely q i) := by
  obtain ⟨stream, tally⟩ := letIn_admits hq active i
  unfold State.admitFreely
  extract_lets ahead u
  split
  · exact ⟨stream, tally⟩
  · exact ⟨((project_only ..).stream q).trans stream, (project_tally ..).trans tally⟩

theorem controlDoor_admits {i : Ingot} (fits : i.size ≤ s.backlogRoom) : Admits s q i (s.controlDoor q i) := by
  unfold State.controlDoor
  rw [if_pos fits]
  exact admitFreely_admits hq active i

omit active in
theorem controlDoor_drops {i : Ingot} (lacks : s.backlogRoom < i.size) : Drops s q i (s.controlDoor q i) := by
  unfold State.controlDoor
  rw [if_neg (by omega)]
  exact dropIngot_drops hq i

end

/-! ## The GAP in the place of an ingot (R203) -/

section
variable {s : State} {q : Nat} (hq : q < 64)
include hq

theorem countGap_refused : (s.countGap q gapRefused).tally = { s.tally with refused := inc64 s.grizzly.refusedIngots } ∧
    (s.countGap q gapRefused).stream q = { s.stream q with refused := inc64 (s.stream q).refused } :=
  ⟨rfl, State.stream_onStream_same _ _ _ hq⟩

omit hq in
theorem countGap_backlogFull : (s.countGap q gapBacklogFull).tally =
    { s.tally with backlogFull := inc64 s.grizzly.backlogFullGaps } := rfl

/-- The count for a cause leaves what the door decides by. -/
theorem countGap_spec (cause : Nat) : (s.countGap q cause).account = s.account ∧
    (s.countGap q cause).grizzly.droppedIngots = s.grizzly.droppedIngots ∧
    ∃ n, (s.countGap q cause).stream q = { s.stream q with refused := n } := by
  unfold State.countGap
  split
  · refine ⟨?_, rfl, _, State.stream_onStream_same _ _ _ hq⟩
    exact onStream_account (fun m => by simp only [Stream.load, Stream.bytes]) _ hq
  · exact ⟨rfl, rfl, _, rfl⟩

/-- The GAP passes the door as a control type. -/
theorem replaceByGap_admits (active : s.isShadow = false) {i : Ingot} {cause : Nat}
    (fits : (i.gapOf cause i.size).size ≤ s.backlogRoom) :
    Admits (s.countGap q cause) q (i.gapOf cause i.size) (s.replaceByGap q i cause) := by
  obtain ⟨account, -⟩ := countGap_spec hq (s := s) cause
  have room := backlogRoom_of_account account
  exact controlDoor_admits hq ((isShadow_of_account account).trans active) (fits.trans_eq room.symm)

theorem replaceByGap_drops {i : Ingot} {cause : Nat} (lacks : s.backlogRoom < (i.gapOf cause i.size).size) :
    Drops (s.countGap q cause) q (i.gapOf cause i.size) (s.replaceByGap q i cause) := by
  obtain ⟨account, -⟩ := countGap_spec hq (s := s) cause
  exact controlDoor_drops hq ((backlogRoom_of_account account).trans_lt lacks)

end

/-! ## The decision on a SAMPLE or TRANSITION (R202, R203) -/

section
variable {s : State} {q : Nat} {i : Ingot}

/-- Half a ring is the bound of what its stream takes. -/
theorem dataDoor_tooLarge (large : s.tooLarge q i = true) :
    s.dataDoor q i = (s.noteTooSmall q).replaceByGap q i gapRefused := if_pos large

variable (small : s.tooLarge q i = false)
include small

/-- What leaves the reserve free is admitted: of a floor seam, or in bound on a stream that is not held. -/
theorem dataDoor_admits (hq : q < 64) (active : s.isShadow = false) (room : i.size + reserveBytes ≤ s.backlogRoom)
    (h : s.isFloor i.source = true ∨ s.heldNow q = false ∧ s.inBound (s.committedBytes + i.size) = true) :
    Admits s q i (s.dataDoor q i) := by
  unfold State.dataDoor
  rw [if_neg (by simp [small])]
  by_cases floor : s.isFloor i.source = true
  · rw [if_pos floor, if_pos room]
    exact admitFreely_admits hq active i
  · obtain ⟨held, bound⟩ := h.resolve_left floor
    rw [if_neg floor, if_neg (by simp [held]), if_pos (by simp [bound, room])]
    exact letIn_admits hq active i

theorem dataDoor_floorFull (floor : s.isFloor i.source = true) (full : s.backlogRoom < i.size + reserveBytes) :
    s.dataDoor q i = s.replaceByGap q i gapBacklogFull := by
  unfold State.dataDoor
  rw [if_neg (by simp [small]), if_pos floor, if_neg (by omega)]

theorem dataDoor_refuses (floor : s.isFloor i.source = false)
    (h : s.heldNow q = true ∨ s.inBound (s.committedBytes + i.size) = false ∨ s.backlogRoom < i.size + reserveBytes) :
    s.dataDoor q i = s.replaceByGap q i gapRefused := by
  unfold State.dataDoor
  rw [if_neg (by simp [small]), if_neg (by simp [floor])]
  split
  · rfl
  · next held =>
    rw [if_neg]
    intro c
    obtain ⟨bound, room⟩ := Bool.and_eq_true_iff.1 c
    rcases h with h | h | h
    · exact held h
    · exact Bool.false_ne_true (h.symm.trans bound)
    · exact absurd (of_decide_eq_true room) (by omega)

end

/-! ## Before the decision, and after it -/

/-- The door stands before its decision on the first waiting ingot: the others of the stream still wait, and nothing but
causes of GAPs has been counted. -/
structure Deciding (s : State) (q : Nat) (l : List Ingot) (t : State) : Prop where
  account : t.account = s.account
  stream : ∃ n, t.stream q = { s.stream q with waiting := l, refused := n }
  dropped : t.grizzly.droppedIngots = s.grizzly.droppedIngots

section
variable {s t u : State} {q : Nat} {l : List Ingot}

theorem Deciding.countGap (h : Deciding s q l t) (hq : q < 64) (cause : Nat) : Deciding s q l (t.countGap q cause) := by
  obtain ⟨account, ⟨n, stream⟩, dropped⟩ := h
  obtain ⟨account', dropped', m, stream'⟩ := countGap_spec hq (s := t) cause
  exact ⟨account'.trans account, ⟨m, by rw [stream', stream]⟩, dropped'.trans dropped⟩

theorem Deciding.noteTooSmall (h : Deciding s q l t) : Deciding s q l (t.noteTooSmall q) := by
  obtain ⟨account, ⟨n, stream⟩, dropped⟩ := h
  obtain ⟨account', tally, -⟩ := noteTooSmall_spec t q
  exact ⟨account'.trans account, ⟨n, ((noteTooSmall_only ..).stream q).trans stream⟩,
    (congrArg Tally.dropped tally).trans dropped⟩

end

/-! ## The whole of the door (R202, R367) -/

theorem sendDoor_tally (s : State) (q seq : Nat) (kept : Bool) : (s.sendDoor q seq kept).tally = s.tally := by
  unfold State.tally
  rw [(sendDoor_only ..).grizzly]

/-- The record of the decision changes nothing of the stream. -/
theorem Admits.sendDoor {s t : State} {q : Nat} {i : Ingot} (h : Admits s q i t) (seq : Nat) (kept : Bool) :
    Admits s q i (t.sendDoor q seq kept) :=
  ⟨((sendDoor_only ..).stream q).trans h.stream, (sendDoor_tally ..).trans h.tally⟩

theorem Drops.sendDoor {s t : State} {q : Nat} {i : Ingot} (h : Drops s q i t) (seq : Nat) (kept : Bool) :
    Drops s q i (t.sendDoor q seq kept) :=
  let ⟨r, last, sidx, stream⟩ := h.stream
  ⟨⟨r, last, sidx, ((sendDoor_only ..).stream q).trans stream⟩,
    (congrArg Tally.dropped (sendDoor_tally t q seq kept)).trans h.dropped⟩

/-- An ingot with other FLAGS: SPLIT_EPOCH is that of the instant at the door (R134). -/
def Ingot.reflagged (i : Ingot) (f : Byte) : Ingot := { i with flags := f }

/-- The state in which the door decides: the ingot no longer waits, and its header record is out. -/
structure Opened (s : State) (q : Nat) (l : List Ingot) (t : State) : Prop where
  account : t.account = s.account
  stream : t.stream q = { s.stream q with waiting := l }
  tally : t.tally = s.tally
  hf : t.hf = s.hf

section
variable {s u t : State} {q : Nat} {i : Ingot} {l : List Ingot}

theorem Opened.deciding (h : Opened s q l u) : Deciding s q l u :=
  ⟨h.account, ⟨_, h.stream⟩, congrArg Tally.dropped h.tally⟩

theorem Opened.tooLarge (h : Opened s q l u) (f : Byte) : u.tooLarge q (i.reflagged f) = s.tooLarge q i := by
  unfold State.tooLarge State.ringOf State.ring
  rw [h.stream, h.hf]
  rfl

section
variable (h : Opened s q l u) (f : Byte) (within : s.tooLarge q i = false)
include h within

theorem Opened.dataDoor_admits (hq : q < 64) (active : s.isShadow = false) (room : i.size + reserveBytes ≤ s.backlogRoom)
    (c : s.isFloor i.source = true ∨ s.heldNow q = false ∧ s.inBound (s.committedBytes + i.size) = true) :
    Admits u q (i.reflagged f) (u.dataDoor q (i.reflagged f)) := by
  rw [← isFloor_of_account h.account, ← heldNow_of_account h.account, ← committedBytes_of_account h.account,
    ← inBound_of_account h.account] at c
  exact Machine.dataDoor_admits (i := i.reflagged f) ((h.tooLarge f).trans within) hq
    ((isShadow_of_account h.account).trans active) (room.trans_eq (backlogRoom_of_account h.account).symm) c

theorem Opened.dataDoor_floorFull (floor : s.isFloor i.source = true) (full : s.backlogRoom < i.size + reserveBytes) :
    u.dataDoor q (i.reflagged f) = u.replaceByGap q (i.reflagged f) gapBacklogFull :=
  Machine.dataDoor_floorFull ((h.tooLarge f).trans within) ((isFloor_of_account h.account _).trans floor)
    ((backlogRoom_of_account h.account).trans_lt full)

theorem Opened.dataDoor_refuses (floor : s.isFloor i.source = false)
    (c : s.heldNow q = true ∨ s.inBound (s.committedBytes + i.size) = false ∨ s.backlogRoom < i.size + reserveBytes) :
    u.dataDoor q (i.reflagged f) = u.replaceByGap q (i.reflagged f) gapRefused := by
  rw [← heldNow_of_account h.account, ← committedBytes_of_account h.account, ← inBound_of_account h.account,
    ← backlogRoom_of_account h.account] at c
  exact Machine.dataDoor_refuses (i := i.reflagged f) ((h.tooLarge f).trans within)
    ((isFloor_of_account h.account _).trans floor) c

end

/-- A sealed ingot that does not wait for a check goes to the decision of its kind, with SPLIT_EPOCH as it is now. -/
theorem grizzlyDoor_decides (hq : q < 64) (hw : (s.stream q).waiting = i :: l) (ready : i.isSealed = true)
    (free : s.doorWaits i = false) (admits : s.twin.handoff = false) (active : s.isShadow = false) :
    ∃ (u : State) (f : Byte) (kept : Bool), Opened s q l u ∧ s.grizzlyDoor q =
      (if i.control = true then u.controlDoor q (i.reflagged f) else u.dataDoor q (i.reflagged f)).sendDoor q
        i.seq kept := by
  have door : s.grizzlyDoor q = (s.onStream q fun m => { m with waiting := l }).throughDoor q i := by
    unfold State.grizzlyDoor State.admits
    rw [active, if_neg Bool.false_ne_true, hw]
    simp only [ready, free, admits]
    rfl
  rw [door]
  have popped : (s.onStream q fun m => { m with waiting := l }).account = s.account :=
    onStream_account (fun m => by simp only [Stream.load, Stream.bytes]) s hq
  have popped' : (s.onStream q fun m => { m with waiting := l }).stream q = { s.stream q with waiting := l } :=
    State.stream_onStream_same _ _ _ hq
  have tally : (s.onStream q fun m => { m with waiting := l }).tally = s.tally := rfl
  have hf : (s.onStream q fun m => { m with waiting := l }).hf = s.hf := rfl
  generalize s.onStream q (fun m => { m with waiting := l }) = v at *
  have books := ownHdr_books v (i.reflagged (i.flags ||| v.splitFlag i))
  have only := ownHdr_only v (i.reflagged (i.flags ||| v.splitFlag i))
  exact ⟨_, _, _, ⟨(congrArg Prod.fst books).trans popped, (only.stream q).trans popped',
    (congrArg Prod.snd books).trans tally, only.hf.trans hf⟩, rfl⟩

/-- An empty stream, and an ingot that stays (R134, R202). -/
theorem grizzlyDoor_empty (active : s.isShadow = false) (hw : (s.stream q).waiting = []) : s.grizzlyDoor q = s := by
  unfold State.grizzlyDoor
  rw [active, if_neg Bool.false_ne_true, hw]

theorem grizzlyDoor_stays (active : s.isShadow = false) (hw : (s.stream q).waiting = i :: l)
    (h : i.isSealed = false ∨ s.doorWaits i = true ∨ s.twin.handoff = true) : s.grizzlyDoor q = s := by
  unfold State.grizzlyDoor State.admits
  rw [active, if_neg Bool.false_ne_true, hw]
  refine if_neg ?_
  rcases h with h | h | h <;> simp [h]

end

/-! ## What becomes of the ingot (R191, R194, R203, R210) -/

/-- `t` is `s` with ingot `i` let in, as itself or as the GAP in its place. -/
def EntersAs (s : State) (q : Nat) (i : Ingot) (l : List Ingot) (type aux : Nat) (t : State) : Prop :=
  OnlyChanges [.streams, .grizzly, .hf, .regs, .twin, .fm, .sent] s t ∧ (t.stream q).waiting = l ∧
    (t.stream q).admitted = inc64 (s.stream q).admitted ∧ (t.stream q).drop = none ∧
    t.grizzly.droppedIngots = s.grizzly.droppedIngots ∧
    ∃ x : Ingot, (t.stream q).backlog = (s.stream q).backlog ++ [x] ∧ x.seq = i.seq ∧ x.sidx = i.sidx ∧
      x.span = i.span ∧ x.type = type ∧ x.aux = aux ∧ x.door = s.sv.up ∧ x.bound = s.boundD

/-- `t` is `s` with ingot `i` dropped. -/
def Dropped (s : State) (q : Nat) (i : Ingot) (l : List Ingot) (t : State) : Prop :=
  (t.stream q).waiting = l ∧ (t.stream q).backlog = (s.stream q).backlog ∧
    t.grizzly.droppedIngots = inc64 s.grizzly.droppedIngots ∧
    ∃ r, (t.stream q).drop = some r ∧ r.lastSeq = i.seq ∧ r.lastSidx = i.sidx

section
variable {s u t : State} {q : Nat} {i x : Ingot} {l : List Ingot}

theorem Deciding.entersAs (h : Deciding s q l u) (a : Admits u q x t)
    (only : OnlyChanges [.streams, .grizzly, .hf, .regs, .twin, .fm, .sent] s t) (seq : x.seq = i.seq)
    (sidx : x.sidx = i.sidx) (span : x.span = i.span) : EntersAs s q i l x.type x.aux t := by
  obtain ⟨account, ⟨n, before⟩, dropped⟩ := h
  obtain ⟨stream, tally⟩ := a
  unfold EntersAs
  rw [stream, before]
  exact ⟨only, rfl, rfl, rfl, (congrArg Tally.dropped tally).trans dropped, u.stamped x, rfl, seq, sidx, span, rfl, rfl,
    up_of_account account, boundD_of_account account⟩

theorem Deciding.drops (h : Deciding s q l u) (d : Drops u q x t) (seq : x.seq = i.seq) (sidx : x.sidx = i.sidx) :
    Dropped s q i l t := by
  obtain ⟨-, ⟨n, before⟩, dropped⟩ := h
  obtain ⟨⟨r, last, lastSidx, stream⟩, count⟩ := d
  unfold Dropped
  rw [stream, before]
  exact ⟨rfl, rfl, count.trans (congrArg inc64 dropped), r, rfl, last.trans seq, lastSidx.trans sidx⟩

/-- A GAP enters in the place of the ingot where the backlog holds it. -/
theorem Deciding.gapEnters (h : Deciding s q l u) (hq : q < 64) (active : s.isShadow = false) (f : Byte) (kept : Bool)
    {cause : Nat} (fits : (i.gapOf cause i.size).size ≤ s.backlogRoom)
    (only : OnlyChanges [.streams, .grizzly, .hf, .regs, .twin, .fm, .sent] s t)
    (door : t = (u.replaceByGap q (i.reflagged f) cause).sendDoor q i.seq kept) :
    EntersAs s q i l 4 cause t ∧ t.tally = (u.countGap q cause).tally ∧
      (t.stream q).refused = ((u.countGap q cause).stream q).refused := by
  have role := (isShadow_of_account h.account).trans active
  have room := backlogRoom_of_account h.account
  have a := (replaceByGap_admits hq role (i := i.reflagged f) (cause := cause)
    (fits.trans_eq room.symm)).sendDoor i.seq kept
  rw [← door] at a
  exact ⟨(h.countGap hq cause).entersAs a only rfl rfl rfl, a.tally, by rw [a.stream]⟩

theorem Deciding.gapDrops (h : Deciding s q l u) (hq : q < 64) (f : Byte) (kept : Bool) {cause : Nat}
    (lacks : ¬ (i.gapOf cause i.size).size ≤ s.backlogRoom)
    (door : t = (u.replaceByGap q (i.reflagged f) cause).sendDoor q i.seq kept) : Dropped s q i l t := by
  have room := backlogRoom_of_account h.account
  have d := (replaceByGap_drops hq (i := i.reflagged f) (cause := cause)
    (room.trans_lt (Nat.lt_of_not_le lacks))).sendDoor i.seq kept
  rw [← door] at d
  exact (h.countGap hq cause).drops d rfl rfl

end

/-- Settles O24: the state in which the door decides reckons as the one before, so each branch of the decision is that of the
statement; a GAP passes as a control type. -/
theorem doorDecides : Obligations.DoorDecides := by
  unfold Obligations.DoorDecides
  refine ⟨fun s q active => ⟨fun empty => ?empty, fun i l hw stays => ?stays⟩,
    fun s q i l hw ready free admits active => ?_⟩
  case empty => exact completes_of_ran (congrArg (ran s) (grizzlyDoor_empty active empty))
  case stays => exact completes_of_ran (congrArg (ran s) (grizzlyDoor_stays active hw stays))
  intro enters drops gapFits
  have only := (grizzlyDoor_only s q.val).only
  have done : Completes (.grizzlyDoor q) s (s.grizzlyDoor q.val) := completes_of_ran rfl
  obtain ⟨u, f, kept, opened, door⟩ := grizzlyDoor_decides q.isLt hw ready free admits active
  have deciding := opened.deciding
  have account := opened.account
  have role : u.isShadow = false := (isShadow_of_account account).trans active
  have room : u.backlogRoom = s.backlogRoom := backlogRoom_of_account account
  have refused : u.grizzly.refusedIngots = s.grizzly.refusedIngots := congrArg Tally.refused opened.tally
  have full : u.grizzly.backlogFullGaps = s.grizzly.backlogFullGaps := congrArg Tally.backlogFull opened.tally
  refine ⟨fun control fits => ?control, fun data within room' h => ?admitted, fun data within floor lacks =>
    ⟨fun fits => ?floorGap, fun lacksGap => ?floorDrop⟩,
    fun data within surplus h => ⟨fun fits => ?gap, fun lacksGap => ?drop⟩,
    fun data large fits => ?tooLarge, fun control lacks => ?controlDrop⟩
  case control =>
    rw [if_pos control] at door
    have a := (controlDoor_admits q.isLt role (i := i.reflagged f) (fits.trans_eq room.symm)).sendDoor i.seq kept
    rw [← door] at a
    exact ⟨_, done, deciding.entersAs (x := i.reflagged f) a only rfl rfl rfl,
      (congrArg Tally.refused a.tally).trans refused⟩
  case controlDrop =>
    rw [if_pos control] at door
    have d := (controlDoor_drops q.isLt (i := i.reflagged f) (room.trans_lt lacks)).sendDoor i.seq kept
    rw [← door] at d
    exact ⟨_, done, deciding.drops d rfl rfl⟩
  case admitted =>
    rw [if_neg (by simp [data])] at door
    have a := (opened.dataDoor_admits f within q.isLt active room' h).sendDoor i.seq kept
    rw [← door] at a
    exact ⟨_, done, deciding.entersAs (x := i.reflagged f) a only rfl rfl rfl,
      (congrArg Tally.refused a.tally).trans refused,
      (congrArg Tally.backlogFull a.tally).trans full⟩
  case floorGap =>
    rw [if_neg (by simp [data]), opened.dataDoor_floorFull f within floor lacks] at door
    obtain ⟨entered, tally, -⟩ := deciding.gapEnters q.isLt active f kept fits only door
    exact ⟨_, done, entered, (congrArg Tally.backlogFull (tally.trans countGap_backlogFull)).trans (congrArg inc64 full)⟩
  case floorDrop =>
    rw [if_neg (by simp [data]), opened.dataDoor_floorFull f within floor lacks] at door
    exact ⟨_, done, deciding.gapDrops q.isLt f kept lacksGap door⟩
  case gap =>
    rw [if_neg (by simp [data]), opened.dataDoor_refuses f within surplus h] at door
    obtain ⟨entered, tally, count⟩ := deciding.gapEnters q.isLt active f kept fits only door
    obtain ⟨counted, stream⟩ := countGap_refused q.isLt (s := u)
    refine ⟨_, done, entered, (congrArg Tally.refused (tally.trans counted)).trans (congrArg inc64 refused), ?_⟩
    exact count.trans ((congrArg Stream.refused stream).trans (by rw [opened.stream]))
  case drop =>
    rw [if_neg (by simp [data]), opened.dataDoor_refuses f within surplus h] at door
    exact ⟨_, done, deciding.gapDrops q.isLt f kept lacksGap door⟩
  case tooLarge =>
    rw [if_neg (by simp [data]), dataDoor_tooLarge ((opened.tooLarge f).trans large)] at door
    obtain ⟨-, noted, ring⟩ := noteTooSmall_spec u q.val
    obtain ⟨entered, tally, -⟩ := deciding.noteTooSmall.gapEnters q.isLt active f kept fits only door
    obtain ⟨counted, -⟩ := countGap_refused q.isLt (s := u.noteTooSmall q.val)
    refine ⟨_, done, entered, ?_, ?_, fun n hn => ?_⟩
    · exact (congrArg Tally.refused (tally.trans counted)).trans
        (congrArg inc64 ((congrArg Tally.refused noted).trans refused))
    · exact (congrArg Tally.tooSmall (tally.trans counted)).trans
        ((congrArg Tally.tooSmall noted).trans (congrArg inc32 (congrArg Tally.tooSmall opened.tally)))
    · have own : u.ringOf q.val = some n := by
        unfold State.ringOf
        rw [opened.stream]
        exact hn
      have rings : (s.grizzlyDoor q.val).hf = (u.noteTooSmall q.val).hf := by
        rw [door, (sendDoor_only ..).hf, (replaceByGap_only ..).hf]
      unfold State.ring
      rw [rings]
      exact ring n own

end Sys2Proof.Machine
end

section
namespace Sys2Proof.Machine

set_option Elab.async false

/-! ## What stops a command (R77, R165, R361, R382) -/

/-- A meaning behind the check of its operand. -/
theorem guarded_stops_or_ran {ok : Bool} {p : Prop} [Decidable p] (h : ok = true ↔ p) (s u : State) :
    (ok = false → (if p then ran s u else .fault .illFormed) = .fault .illFormed) ∧
      (ok = true → ∃ t, (if p then ran s u else .fault .illFormed) = .next t ∧ t.pending = s.pending) :=
  ⟨fun k => if_neg (by simp [← h, k]), fun k => ⟨_, if_pos (h.1 k), rfl⟩⟩

/-- Settles O5: the four meanings that check their operand check what `Instr.wf` asks; no other meaning stops. -/
theorem onlyIllFormedOperandsStop : Obligations.OnlyIllFormedOperandsStop := by
  unfold Obligations.OnlyIllFormedOperandsStop
  intro c s
  cases c
  case probeFrameReceive | calComplete | xcBlockReceive => exact guarded_stops_or_ran .rfl ..
  case sensorSample => exact guarded_stops_or_ran beq_iff_eq ..
  case powerFailDetect cause => cases cause <;> exact ⟨nofun, fun _ => ⟨_, rfl, rfl⟩⟩
  all_goals exact ⟨nofun, fun _ => ⟨_, rfl, rfl⟩⟩

end Sys2Proof.Machine
end

section
namespace Sys2Proof.Machine

set_option Elab.async false

/-! ## One decision of the Shaft (R148, R170, R174, R180, R185) -/

/-- What a decision steers in the Shaft. -/
structure Steering where
  /-- The sample decided (R148). -/
  decided : Option Nat
  /-- The level (R170). -/
  level : Nat
  /-- Storage (R180). -/
  storage : Bool
  /-- The samples stored (R180). -/
  stored : Marks

/-- The part of the Shaft that a decision steers. -/
def Shaft.steered (h : Shaft) : Steering := ⟨h.decided, h.level, h.storage, h.storeMark⟩

/-- Storage under the STORE field of an action (R180). -/
def storageAfter (before : Bool) (store : Nat) : Bool := if store = 1 then true else if store = 2 then false else before

/-- The storage of sample `x` under the STORE field of an action: stored when storage was on or goes on (R180). -/
def Steering.store (h : Steering) (x store : Nat) : Steering :=
  { h with storage := storageAfter h.storage store
           stored := if h.storage || storageAfter h.storage store then h.stored.put x else h.stored }

/-- The sample counts as decided before its branch is looked for (R148, R167). -/
def State.startDecision (s : State) : State :=
  { s with shaft.decided := some s.sv.sidx
           shaft.partnerMissing :=
             add32 s.shaft.partnerMissing ((List.range 4).filter fun k => s.partnerLacks k s.sv.sidx).length }

section
variable (s : State)

theorem startDecision_firing : s.startDecision.firing = s.firing := rfl

/-- A change of storage on its way to the FLAG outputs changes nothing else of the Shaft. -/
theorem noteShown_shaft : ∃ l, s.noteShown.shaft = { s.shaft with showDue := l } := by
  unfold State.noteShown
  dsimp only
  split
  · exact ⟨_, rfl⟩
  · exact ⟨_, rfl⟩

/-- Storage goes as asked, and all else of the Shaft but the FLAG outputs stays. -/
theorem setStorage_shaft (store : Nat) : ∃ l, (s.setStorage store).shaft =
    { s.shaft with storage := (s.shaft.steered.store s.sv.sidx store).storage
                   storeMark := (s.shaft.steered.store s.sv.sidx store).stored, showDue := l } :=
  noteShown_shaft _

theorem setStorage_steered (store : Nat) :
    (s.setStorage store).shaft.steered = s.shaft.steered.store s.sv.sidx store :=
  let ⟨_, h⟩ := setStorage_shaft s store
  congrArg Shaft.steered h

theorem fireMarkers_shaft (mask : Nat) : ∃ v, (s.fireMarkers mask).shaft = { s.shaft with markers := v } := by
  unfold State.fireMarkers
  generalize bitsOf 8 mask = l
  induction l generalizing s with
  | nil => exact ⟨_, rfl⟩
  | cons n l ih =>
    obtain ⟨v, h⟩ := ih { s with shaft.markers := vmod s.shaft.markers n fun m =>
      { m with due := m.due ++ [(s.fabricCycle + pinDelay, s.cfg (0x2728 + n) 1)] } }
    exact ⟨v, h⟩

/-- The MARK of a firing leaves the Shaft as it was. -/
theorem emitMark_shaft (kind lv b next : Nat) (p : Place) (markId segment pre : Nat) :
    (s.emitMark kind lv b next p markId segment pre).shaft = s.shaft := (emitMark_only ..).shaft

/-- A trigger concerns segments, dead intervals and counts of triggers (R185). -/
theorem trigger_steered (lv b next : Nat) (p : Place) (markId : Nat) :
    (s.trigger lv b next p markId).shaft.steered = s.shaft.steered := by
  unfold State.trigger State.acceptTrigger
  extract_lets u t
  split
  · rfl
  · split
    · dsimp only
      split <;> rw [emitMark_shaft] <;> rfl
    · rw [emitMark_shaft]
      rfl

theorem emitFiring_steered (a lv b term : Nat) : (s.emitFiring a lv b term).shaft.steered = s.shaft.steered := by
  unfold State.emitFiring
  extract_lets next p
  split
  · rfl
  · split
    · exact trigger_steered ..
    · rw [emitMark_shaft]

end

/-! ## The two forms of a decision -/

/-- COUNT_LITERALs and units of the timers take their step at the end of a decision (R156, R157). -/
def State.stepCounts (s : State) (a : Option Nat) (counted : Nat → Bool) : State :=
  ({ s with shaft := s.shaft.stepCounters a counted } : State).stepTimers a

section
variable {s : State}

/-- COUNT_LITERALs that are true on the latest sample, as the decision notes them before it acts. -/
def State.countedBy (s : State) (n : Nat) : Bool := ((List.range 16).map s.countTrue).getD n false

theorem decide_of_no_branch (h : s.firing = none) : s.decide_ =
    ((s.startDecision.noteDigest s.shaft.level none).setStorage 0).stepCounts none s.countedBy := by
  have h : s.startDecision.firing = none := (startDecision_firing s).trans h
  unfold State.decide_
  dsimp only
  split
  · next k => exact nomatch k.symm.trans h
  · rfl

/-- The action of branch `b` of the current level (R171). -/
def State.actionOf (s : State) (b : Nat) : Nat := s.cfg (0x2610 + s.shaft.level) (0x21 + b)

/-- The level that an action names (R170). -/
def State.levelAfter (s : State) (a : Nat) : Nat := if actNext a = 0xFF then s.shaft.level else actNext a

/-- The level after a decision. -/
def State.atLevel (s : State) (lv : Nat) : State := { s with shaft.level := lv }

theorem decide_of_branch {b term : Nat} (h : s.firing = some (b, term)) : s.decide_ =
    ((((((s.startDecision.noteDigest s.shaft.level (some b)).emitFiring (s.actionOf b) s.shaft.level b term).setStorage
      (actStore (s.actionOf b))).fireMarkers (actMarkers (s.actionOf b))).atLevel
        (s.levelAfter (s.actionOf b))).stepCounts (some (s.actionOf b)) s.countedBy) := by
  have h : s.startDecision.firing = some (b, term) := (startDecision_firing s).trans h
  unfold State.decide_
  dsimp only
  split
  · next k =>
    cases k.symm.trans h
    rfl
  · next k => exact nomatch k.symm.trans h

/-- No branch: the sample is decided, and storage goes on as it was. -/
theorem steered_of_no_branch (h : s.firing = none) : s.decide_.shaft.steered =
    ({ s.shaft.steered with decided := some s.sv.sidx } : Steering).store s.sv.sidx 0 := by
  rw [decide_of_no_branch h]
  exact setStorage_steered ..

/-- A branch: its action sets level and storage, whatever its MARK or trigger does. -/
theorem steered_of_branch {b term : Nat} (h : s.firing = some (b, term)) : s.decide_.shaft.steered =
    { ({ s.shaft.steered with decided := some s.sv.sidx } : Steering).store s.sv.sidx (actStore (s.actionOf b)) with
      level := s.levelAfter (s.actionOf b) } := by
  rw [decide_of_branch h]
  have only := emitFiring_only (s.startDecision.noteDigest s.shaft.level (some b)) (s.actionOf b) s.shaft.level b term
  have before := emitFiring_steered (s.startDecision.noteDigest s.shaft.level (some b)) (s.actionOf b) s.shaft.level b
    term
  generalize (s.startDecision.noteDigest s.shaft.level (some b)).emitFiring (s.actionOf b) s.shaft.level b term = u at *
  have stored := setStorage_steered u (actStore (s.actionOf b))
  rw [before, only.sv] at stored
  obtain ⟨_, fired⟩ := fireMarkers_shaft (u.setStorage (actStore (s.actionOf b))) (actMarkers (s.actionOf b))
  have fired := (congrArg Shaft.steered fired).trans stored
  exact congrArg (fun x : Steering => { x with level := s.levelAfter (s.actionOf b) }) fired

theorem shaftDecision_runs (hr : s.shaft.running = true) (hd : s.shaft.decided ≠ some s.sv.sidx) :
    s.shaftDecision = s.decide_ := if_pos (by simp [hr, hd])

/-- Storage that was on stores the sample on which it ends (R180). -/
theorem Steering.stored_of_storage {h : Steering} (on : h.storage = true) (x store : Nat) :
    (h.store x store).stored = h.stored.put x := if_pos (by simp [on])

end

/-- Settles O19: the part that a decision steers follows the branch that fires, or stays without one. -/
theorem shaftDecides : Obligations.ShaftDecides := by
  unfold Obligations.ShaftDecides
  refine ⟨fun s hr hd => ⟨s.decide_, ?_, (decide__only s).only, ?_⟩, fun s hd => ?_⟩
  · exact completes_of_ran (congrArg (ran s) (shaftDecision_runs hr hd))
  · rcases hf : s.firing with _ | ⟨b, term⟩
    · have steered := steered_of_no_branch hf
      refine ⟨congrArg Steering.decided steered,
        ⟨congrArg Steering.level steered, congrArg Steering.storage steered, ?_⟩,
        fun on => (congrArg Steering.stored steered).trans (Steering.stored_of_storage on ..)⟩
      rw [decide_of_no_branch hf]
      exact (setStorage_only ..).closing
    · have steered := steered_of_branch hf
      exact ⟨congrArg Steering.decided steered,
        ⟨congrArg Steering.level steered, congrArg Steering.storage steered⟩,
        fun on => (congrArg Steering.stored steered).trans (Steering.stored_of_storage on ..)⟩
  · exact completes_of_ran (congrArg (ran s) (if_neg (by simp [hd])))

end Sys2Proof.Machine
end

section
namespace Sys2Proof.Machine

set_option Elab.async false

/-! ## Counters and timers (R155, R156, R157) -/

theorem vmap_get {α : Type} {n : Nat} (v : Vector α n) (f : Nat → α → α) (i : Fin n) :
    (vmap v f)[i] = f i.val v[i] := by
  simp [vmap]

theorem vget_fin {α : Type} {n : Nat} (v : Vector α n) (i : Fin n) (d : α) : vget v i.val d = v[i] := dif_pos i.isLt

theorem countedBy_eq {s : State} (n : Fin 16) : s.countedBy n.val = s.countTrue n.val := by
  simp [State.countedBy]

section
variable {s : State} (h : s.firing = none)
include h

/-- Without a branch a counter counts its COUNT_LITERAL alone. -/
theorem counter_of_no_branch (n : Fin 16) : s.decide_.shaft.counters[n] =
    if s.countTrue n.val = true then s.shaft.counters[n].inc else s.shaft.counters[n] := by
  obtain ⟨_, kept⟩ := setStorage_shaft (s.startDecision.noteDigest s.shaft.level none) 0
  rw [decide_of_no_branch h, ← countedBy_eq]
  refine (vmap_get _ _ n).trans ?_
  rw [kept]
  rfl

/-- Without a branch a timer takes its units alone. -/
theorem timer_of_no_branch (n : Fin 8) : s.decide_.shaft.timers[n] =
    s.shaft.timers[n].step none (s.unitPasses (s.cfg (0x2678 + n.val) 1)) := by
  obtain ⟨_, kept⟩ := setStorage_shaft (s.startDecision.noteDigest s.shaft.level none) 0
  have only := setStorage_only (s.startDecision.noteDigest s.shaft.level none) 0
  rw [decide_of_no_branch h]
  generalize (s.startDecision.noteDigest s.shaft.level none).setStorage 0 = u at *
  have units : u.unitPasses (u.cfg (0x2678 + n.val) 1) = s.unitPasses (s.cfg (0x2678 + n.val) 1) := by
    rw [only.cfg]
    unfold State.unitPasses
    rw [only.sv]
    rfl
  have timers : u.shaft.timers = s.shaft.timers := by
    rw [kept]
    rfl
  refine (vmap_get _ _ n).trans ?_
  rw [← units, ← timers]
  rfl

end

/-- A timer without an operation counts the unit that passes, up to its largest value (R157). -/
theorem Timer.step_none (t : Timer) (tick : Bool) : t.step none tick =
    if t.running = true ∧ tick = true ∧ t.value < 2 ^ 48 - 1 then { t with value := t.value + 1 } else t := by
  unfold Timer.step count48
  simp only [Bool.and_eq_true, decide_eq_true_eq, and_assoc]

/-! ## Pins of the markers (R176, R178, R179) -/

/-- An element set to `b` reads `b`, and every other one reads as before. -/
theorem vget_vmod_const {α : Type} {n : Nat} (v : Vector α n) (i j : Nat) (b d : α) :
    j = i ∧ vget (vmod v i fun _ => b) j d = b ∨ vget (vmod v i fun _ => b) j d = vget v j d := by
  by_cases hj : j = i
  · by_cases hi : i < n
    · exact .inl ⟨hj, by rw [hj, vget_vmod_same _ _ _ _ hi]⟩
    · exact .inr (by rw [vmod, dif_neg hi])
  · exact .inr (vget_vmod_other _ _ _ _ _ hj)

/-- Pins were brought to their levels: of the MARK_OUT pins one at its level stays at it, and one that moved told its
level. -/
structure Drives (s t : State) : Prop where
  only : Alters [.shaft, .sent] s t
  markers : t.shaft.markers = s.shaft.markers
  right : ∀ n, vget s.shaft.markOut n false = s.markLevel n → vget t.shaft.markOut n false = s.markLevel n
  told : ∀ n, vget t.shaft.markOut n false = vget s.shaft.markOut n false ∨
    .pinAt "MARK_OUT" n (s.markLevel n) ∈ t.sent
  sent : ∀ x ∈ s.sent, x ∈ t.sent

section
variable {s t u : State}

theorem Drives.markLevel (h : Drives s t) (n : Nat) : t.markLevel n = s.markLevel n := by
  unfold State.markLevel State.pulseOut State.drivesPins State.isShadow State.role State.cfgOn
  rw [h.markers, h.only.twin, h.only.cfg]

theorem Drives.refl (s : State) : Drives s s := ⟨.refl _ s, rfl, fun _ h => h, fun _ => .inl rfl, fun _ h => h⟩

theorem Drives.trans (h : Drives s t) (k : Drives t u) : Drives s u where
  only := h.only.trans k.only
  markers := k.markers.trans h.markers
  right n a := (k.right n ((h.right n a).trans (h.markLevel n).symm)).trans (h.markLevel n)
  told n := by
    rcases k.told n with b | b
    · exact (h.told n).imp b.trans (k.sent _)
    · exact .inr (h.markLevel n ▸ b)
  sent x a := k.sent x (h.sent x a)

theorem Drives.fold {f : State → Nat → State} (k : ∀ u n, Drives u (f u n)) (l : List Nat) (s : State) :
    Drives s (l.foldl f s) := by
  induction l generalizing s with
  | nil => exact .refl s
  | cons n l ih => exact (k s n).trans (ih _)

/-- Pins other than the MARK_OUT pins. -/
theorem Drives.of_others (only : Alters [.shaft, .sent] s t) (markers : t.shaft.markers = s.shaft.markers)
    (markOut : t.shaft.markOut = s.shaft.markOut) (sent : ∀ x ∈ s.sent, x ∈ t.sent) : Drives s t :=
  ⟨only, markers, fun _ h => markOut ▸ h, fun _ => .inl (by rw [markOut]), sent⟩

variable (s) (n : Nat)

theorem driveMark_drives : Drives s (s.driveMark n) := by
  have only := driveMark_only s n
  unfold State.driveMark at *
  dsimp only at *
  split
  · exact .refl s
  · next h =>
    rw [if_neg h] at only
    refine ⟨only, rfl, fun k a => ?_, fun k => ?_, fun x a => List.mem_cons_of_mem _ a⟩
    · rcases vget_vmod_const s.shaft.markOut n k (s.markLevel n) false with ⟨rfl, b⟩ | b
      · exact b
      · exact b.trans a
    · rcases vget_vmod_const s.shaft.markOut n k (s.markLevel n) false with ⟨rfl, -⟩ | b
      · exact .inr List.mem_cons_self
      · exact .inl b

theorem driveInst_drives : Drives s (s.driveInst n) := by
  have only := driveInst_only s n
  unfold State.driveInst at *
  dsimp only at *
  split
  · exact .refl s
  · next h =>
    rw [if_neg h] at only
    exact .of_others only rfl rfl fun x a => List.mem_cons_of_mem _ a

theorem driveFlag_drives : Drives s (s.driveFlag n) := by
  have only := driveFlag_only s n
  unfold State.driveFlag at *
  dsimp only at *
  split
  · exact .refl s
  · next h =>
    rw [if_neg h] at only
    exact .of_others only rfl rfl fun x a => List.mem_cons_of_mem _ a

theorem driveMark_right (hn : n < 8) : vget (s.driveMark n).shaft.markOut n false = s.markLevel n := by
  unfold State.driveMark
  dsimp only
  split
  · next h => exact beq_iff_eq.1 h
  · exact vget_vmod_same _ _ _ _ hn

theorem drivePins_drives : Drives s s.drivePins :=
  ((Drives.fold driveMark_drives _ s).trans (.fold driveInst_drives _ _)).trans (.fold driveFlag_drives _ _)

/-- A MARK_OUT pin that is driven stands at its level afterwards. -/
theorem foldl_driveMark_right {l : List Nat} (hl : n ∈ l) (hn : n < 8) :
    vget (l.foldl State.driveMark s).shaft.markOut n false = s.markLevel n := by
  obtain ⟨before, after, rfl⟩ := List.append_of_mem hl
  rw [List.foldl_append, List.foldl_cons]
  have start := Drives.fold driveMark_drives before s
  generalize before.foldl State.driveMark s = u at *
  have moved := driveMark_drives u n
  rw [← start.markLevel, ← moved.markLevel]
  exact (Drives.fold driveMark_drives after _).right n ((driveMark_right u n hn).trans (moved.markLevel n).symm)

theorem drivePins_markOut (n : Fin 8) : s.drivePins.shaft.markOut[n] = s.markLevel n.val := by
  have marks := Drives.fold driveMark_drives (List.range 8) s
  have right := foldl_driveMark_right s n.val (List.mem_range.2 n.isLt) n.isLt
  have rest : Drives ((List.range 8).foldl State.driveMark s) s.drivePins :=
    (Drives.fold driveInst_drives _ _).trans (.fold driveFlag_drives _ _)
  generalize (List.range 8).foldl State.driveMark s = u at *
  have level := marks.markLevel n.val
  exact (vget_fin _ n false).symm.trans ((rest.right n.val (right.trans level.symm)).trans level)

/-- A MARK_OUT pin that was not at its level tells it. -/
theorem drivePins_told (n : Fin 8) (h : s.shaft.markOut[n] ≠ s.markLevel n.val) :
    .pinAt "MARK_OUT" n.val (s.markLevel n.val) ∈ s.drivePins.sent := by
  refine ((drivePins_drives s).told n.val).resolve_left fun same => h ?_
  rw [← drivePins_markOut, ← vget_fin _ n false, ← vget_fin _ n false, same]

end

/-! ## Marker outputs (R176, R177, R179) -/

/-- A marker changed. -/
def State.onMarker (s : State) (n : Nat) (f : Marker → Marker) : State :=
  { s with shaft.markers := vmod s.shaft.markers n f }

section
variable {s : State} {n : Fin 8}

theorem onMarker_marker (f : Marker → Marker) : (s.onMarker n.val f).shaft.markers[n] = f s.shaft.markers[n] := by
  rw [← vget_fin _ n {}, ← vget_fin _ n {}]
  exact vget_vmod_same _ _ _ _ n.isLt

theorem onMarker_markLevel (f : Marker → Marker) : (s.onMarker n.val f).markLevel n.val =
    ((s.drivesPins && (f s.shaft.markers[n]).active) != s.cfgOn (0x2728 + n.val) 2) := by
  rw [← onMarker_marker f, ← vget_fin _ n {}]
  rfl

/-- A firing that is due in a capture mode, on a module that drives its pins. -/
theorem markOutAssert_of_due {c w : Nat} {l : List (Nat × Nat)} (hd : s.shaft.markers[n].due = (c, w) :: l)
    (hc : c ≤ s.fabricCycle) (capture : captureMode s.mode = true) (drives : s.drivesPins = true) :
    s.markOutAssert n.val = (s.onMarker n.val fun x =>
      { x with active := true, due := l, endAt :=
          if s.shaft.markers[n].active = true then max s.shaft.markers[n].endAt (c + w) else c + w }).drivePins := by
  unfold State.markOutAssert
  rw [vget_fin]
  dsimp only
  rw [hd]
  dsimp only
  rw [if_pos hc, if_pos (by rw [capture, drives]; rfl)]
  rfl

theorem markOutEnd_of_active (active : s.shaft.markers[n].active = true)
    (ends : s.shaft.markers[n].endAt ≤ s.fabricCycle) :
    s.markOutEnd n.val = (s.onMarker n.val fun x => { x with active := false }).drivePins := by
  unfold State.markOutEnd
  rw [vget_fin]
  dsimp only
  rw [active]
  exact if_pos (decide_eq_true ends)

end

/-- Settles O20: counters and timers step alone without a branch; every pin is brought to the level of its marker. -/
theorem countersTimersAndMarkers : Obligations.CountersTimersAndMarkers := by
  unfold Obligations.CountersTimersAndMarkers
  refine ⟨fun s hr hd hf => ⟨s.decide_, ?_, counter_of_no_branch hf, fun n => ?_⟩, fun s n =>
    ⟨fun c w l due now capture drives => ?asserts, fun active past => ?ends, fun idle => ?idle,
      fun inactive => ?inactive⟩⟩
  · exact completes_of_ran (congrArg (ran s) (shaftDecision_runs hr hd))
  · rw [timer_of_no_branch hf, Timer.step_none]
  case asserts =>
    refine ⟨s.markOutAssert n.val, completes_of_ran rfl, (markOutAssert_only ..).only, ?_⟩
    rw [markOutAssert_of_due due now capture drives, (drivePins_drives _).markers, drivePins_markOut, onMarker_markLevel,
      onMarker_marker, drives]
    exact ⟨rfl, rfl, by simp, rfl⟩
  case ends =>
    refine ⟨s.markOutEnd n.val, completes_of_ran rfl, (markOutEnd_only ..).only, ?_⟩
    have level : (s.onMarker n.val fun x => { x with active := false }).markLevel n.val = s.cfgOn (0x2728 + n.val) 2 := by
      rw [onMarker_markLevel]
      simp
    rw [markOutEnd_of_active active past, (drivePins_drives _).markers, drivePins_markOut, onMarker_marker, level]
    exact ⟨rfl, rfl, fun wrong => level ▸ drivePins_told _ n (level.symm ▸ wrong)⟩
  case idle =>
    refine completes_of_ran (congrArg (ran s) ?_)
    unfold State.markOutAssert
    rw [vget_fin]
    dsimp only
    rw [idle]
  case inactive =>
    refine completes_of_ran (congrArg (ran s) ?_)
    unfold State.markOutEnd
    rw [vget_fin]
    dsimp only
    rw [inactive]
    rfl

end Sys2Proof.Machine
end

section
namespace Sys2Proof.Machine

set_option Elab.async false

/-- The Shaft set. -/
theorem setShaft_only (s : State) (h : Shaft) : Alters [.shaft] s { s with shaft := h } := .set fun p hp => by
  cases p
  case shaft => exact absurd List.mem_cons_self hp
  all_goals rfl

/-! ## External lines (R159, R163) -/

/-- An external line changed. -/
def State.onExtLine (s : State) (n : Nat) (f : ExtLine → ExtLine) : State :=
  { s with shaft.lines := vmod s.shaft.lines n f }

section
variable {s : State} {n : Fin 40}

theorem extLine_onExtLine (f : ExtLine → ExtLine) : (s.onExtLine n.val f).extLine n.val = f (s.extLine n.val) :=
  vget_vmod_same _ _ _ _ n.isLt

/-- The crossings of the corrected taps of a sample (R159, R164). -/
def State.newCrossings (s : State) (n : Nat) (changes : List (Nat × Bool)) : List Crossing :=
  changes.map fun c =>
    { x := 64 * (s.fabricCycle : Int) + s.binOf n c.1 - i32 (s.cfg (lineObject n) 3), rising := c.2
      coarse := s.sv.dllState == 2 }

theorem newCrossings_rising (k : Nat) (changes : List (Nat × Bool)) :
    (s.newCrossings k changes).map Crossing.rising = changes.map Prod.snd := by
  simp [State.newCrossings]

/-- The corrected taps of a sample of a line, with the count of replacements (R159). -/
def State.corrected (s : State) (n : Nat) (taps : BitVec 64) (next : Bool) : List Bool × Nat :=
  removeNarrow next (s.extLine n).lastTap (tapList taps)

theorem lineTaps_of_pin (h : s.pinIgnored n.val = false) (taps : BitVec 64) (next : Bool) :
    s.lineTaps n.val taps next = s.onExtLine n.val fun m =>
      { m with lastTap := (s.corrected n.val taps next).1.getLastD m.lastTap
               crossings := m.crossings ++
                 s.newCrossings n.val (tapChanges (s.extLine n.val).lastTap 0 (s.corrected n.val taps next).1)
               narrow := add32 m.narrow (s.corrected n.val taps next).2 } := by
  unfold State.lineTaps
  rw [h]
  rfl

end

/-- A sample of a low line that stays low, and of one that is high from its first tap on. -/
theorem removeNarrow_low : removeNarrow false false (tapList 0) = (List.replicate 64 false, 0) := by decide

theorem removeNarrow_high :
    removeNarrow true false (tapList (BitVec.allOnes 64)) = (List.replicate 64 true, 0) := by decide

/-- Taps of a live pin add their crossings and leave the level as it was. -/
theorem extLineCrossing_adds {s : State} {n : Fin 40} (h : s.pinIgnored n.val = false) (taps : BitVec 64) (next : Bool) :
    ((s.lineTaps n.val taps next).extLine n.val).level = (s.extLine n.val).level ∧
    ((s.lineTaps n.val taps next).extLine n.val).lastTap =
      (s.corrected n.val taps next).1.getLastD (s.extLine n.val).lastTap ∧
    ((s.lineTaps n.val taps next).extLine n.val).crossings = (s.extLine n.val).crossings ++
      s.newCrossings n.val (tapChanges (s.extLine n.val).lastTap 0 (s.corrected n.val taps next).1) := by
  rw [lineTaps_of_pin h, extLine_onExtLine]
  exact ⟨rfl, rfl, rfl⟩

/-- A line held active is reported once (R163). -/
theorem lineStuck_reports {s : State} {n : Nat} (power : s.power.fabric = true) (time : s.cfg (lineObject n) 4 ≠ 0)
    (level : (s.extLine n).level = s.activeHigh n) (fresh : (s.extLine n).reported = false) :
    s.lineStuck n = (s.onExtLine n fun x => { x with stuck := true, reported := true }).event .lineStuck .shaft n := by
  unfold State.lineStuck
  dsimp only
  rw [if_pos (by simp [power, time, level, fresh])]
  rfl

theorem lineStuck_reported {s : State} {n : Nat} (told : (s.extLine n).reported = true) : s.lineStuck n = s := by
  unfold State.lineStuck
  dsimp only
  rw [told, Bool.not_true, Bool.and_false]
  rfl

/-! ## FLAG pins (R166, R357) -/

/-- A level of a FLAG pin: FENCE_IN on the fence pin, a change of the flag while the fabric has power. -/
theorem flagInput_eq (s : State) (n : Nat) (level : Bool) : s.flagInput n level = { s with
    shaft.flags := vmod s.shaft.flags n fun m =>
      { m with pin := level, changes :=
          if s.power.fabric = true then m.changes ++ [(s.fabricCycle - s.cfg (0x2730 + n) 3, level)] else m.changes }
    twin.fenceIn := if s.twin.fencePins.2 = n then level else s.twin.fenceIn } := by
  unfold State.flagInput State.acceptFlag
  by_cases pin : s.twin.fencePins.2 = n <;> by_cases power : s.power.fabric = true
  all_goals
    simp only [pin, power, beq_iff_eq, if_true, if_false, vmod_vmod]
    rfl

/-! ## Code-density calibration (R165) -/

theorem Passes.calStart {s : State} {via : Path} {data : List Byte} (h : Passes s via 0x27A0 1 data) :
    s.request via 0x27A0 1 data = (s.calStart (leNat data)).2.answer via 0x27A0 1 (s.calStart (leNat data)).1 :=
  h.unit rfl rfl (by decide) (by decide)

/-- A line is found too uneven for a table: it is in the mask, and its counts are bad. -/
def State.lineFails (s : State) (hist : List (List Nat)) (j : Nat) : Bool :=
  s.shaft.calMask.getLsbD j && calBad (hist.getD j []) (s.cfg 0x27A0 3)

/-- The lines of a calibration that are left keep their mask and their number of crossings. -/
structure CalKept (s t : State) : Prop where
  mask : t.shaft.calMask = s.shaft.calMask
  count : t.cfg 0x27A0 3 = s.cfg 0x27A0 3

section
variable {s : State} {hist : List (List Nat)}

theorem CalKept.lineFails {t : State} (h : CalKept s t) (j : Nat) : t.lineFails hist j = s.lineFails hist j := by
  unfold State.lineFails
  rw [h.mask, h.count]

theorem calLine_unmasked {j : Nat} (h : s.shaft.calMask.getLsbD j = false) : s.calLine hist j = s :=
  if_neg (by simp [h])

theorem calLine_bad {j : Nat} (h : s.shaft.calMask.getLsbD j = true)
    (bad : calBad (hist.getD j []) (s.cfg 0x27A0 3) = true) : ∃ v, s.calLine hist j =
      { s with shaft.dnlMax := v, shaft.calFail := s.shaft.calFail ||| BitVec.ofNat 44 (2 ^ j) } :=
  ⟨_, (if_pos h).trans (if_pos bad)⟩

theorem calLine_good {j : Nat} (h : s.shaft.calMask.getLsbD j = true)
    (good : calBad (hist.getD j []) (s.cfg 0x27A0 3) = false) : ∃ v table, s.calLine hist j =
      { s with shaft.dnlMax := v, dict.live := s.dict.live.write (key (0x2760 + j) 1) table } :=
  ⟨_, _, (if_pos h).trans (if_neg (by simp only [good, Bool.false_eq_true, not_false_eq_true]))⟩

theorem getLsbD_bit {j : Nat} (hj : j < 44) (i : Nat) : (BitVec.ofNat 44 (2 ^ j)).getLsbD i = decide (i = j) := by
  rw [BitVec.getLsbD_ofNat, Nat.testBit_two_pow]
  by_cases h : j = i
  · simp [← h, hj]
  · simp [h, Ne.symm h]

/-- One line of a calibration writes its own table or its own bit of CAL_FAIL. -/
theorem calLine_spec {j : Nat} (hj : j < 44) : CalKept s (s.calLine hist j) ∧
    ∀ i, (s.calLine hist j).shaft.calFail.getLsbD i =
      (s.shaft.calFail.getLsbD i || (decide (i = j) && s.lineFails hist j)) := by
  unfold State.lineFails
  cases mask : s.shaft.calMask.getLsbD j
  case false =>
    rw [calLine_unmasked mask]
    exact ⟨⟨rfl, rfl⟩, fun i => by simp⟩
  case true =>
    cases bad : calBad (hist.getD j []) (s.cfg 0x27A0 3)
    case false =>
      obtain ⟨v, table, e⟩ := calLine_good mask bad
      have other : key 0x27A0 3 ≠ key (0x2760 + j) 1 := fun h =>
        absurd ((key_eq_iff (by decide) (by decide)).1 h).2 (by decide)
      rw [e]
      exact ⟨⟨rfl, ObjMap.value_write_other _ other _⟩, fun i => by simp⟩
    case true =>
      obtain ⟨v, e⟩ := calLine_bad mask bad
      rw [e]
      exact ⟨⟨rfl, rfl⟩, fun i => (BitVec.getLsbD_or ..).trans (by rw [getLsbD_bit hj]; simp)⟩

/-- A calibration goes through its lines one by one. -/
theorem foldl_calLine_spec {l : List Nat} (hl : ∀ j ∈ l, j < 44) :
    ∀ i, (l.foldl (fun s j => s.calLine hist j) s).shaft.calFail.getLsbD i =
      (s.shaft.calFail.getLsbD i || (decide (i ∈ l) && s.lineFails hist i)) := by
  induction l generalizing s with
  | nil => simp
  | cons j l ih =>
    intro i
    obtain ⟨kept, line⟩ := calLine_spec (s := s) (hist := hist) (hl j List.mem_cons_self)
    rw [List.foldl_cons, ih fun k hk => hl k (List.mem_cons_of_mem _ hk), line, kept.lineFails]
    by_cases h : i = j
    · cases f : s.lineFails hist j <;> simp [h, f]
    · simp [h]

/-- The lines of a calibration before its state is set. -/
def State.calLines (s : State) (hist : List (List Nat)) : State :=
  (List.range 44).foldl (fun s j => s.calLine hist j) s

theorem calLines_only (s : State) (hist : List (List Nat)) : Alters [.shaft, .dict] s (s.calLines hist) :=
  .fold (.refl _ s) fun _ _ => calLine_only ..

theorem calLines_fail (none_ : s.shaft.calFail = 0) (j : Fin 44) :
    (s.calLines hist).shaft.calFail.getLsbD j.val = s.lineFails hist j.val := by
  unfold State.calLines
  rw [foldl_calLine_spec fun k hk => List.mem_range.1 hk, none_, decide_eq_true (List.mem_range.2 j.isLt)]
  simp

/-- Counts outside Service or without a calibration are dropped (log 59). -/
theorem calComplete_idle (ok : histOk hist = true) (h : s.shaft.calState ≠ 1 ∨ s.mode ≠ 7) :
    exec (.calComplete hist) s = ran s s := by
  refine (if_pos ok).trans (congrArg (ran s) (if_neg ?_))
  rcases h with h | h <;> simp [calRunning, h]

theorem calComplete_running (ok : histOk hist = true) (hm : s.mode = 7) (hc : s.shaft.calState = 1) :
    exec (.calComplete hist) s = ran s { s.calLines hist with
      shaft.calState := if (s.calLines hist).shaft.calFail == 0 then 2 else 3 } :=
  (if_pos ok).trans (congrArg (ran s) (if_pos (by simp [calRunning, hm, hc])))

end

/-- Settles O21: a sample's crossings are those of the corrected taps, a stuck line reports itself, and a calibration
fails the lines of its mask whose counts are bad. -/
theorem linesFlagsAndCalibration : Obligations.LinesFlagsAndCalibration := by
  unfold Obligations.LinesFlagsAndCalibration
  refine ⟨⟨fun s n taps next ignored => ?ignored, fun s n taps next live => ?crossings,
    fun s n power time level fresh => ?stuck, fun s n told => ?told, fun s n level => ?flag⟩,
    fun s via data h => ⟨fun mode => ?outside, fun mode running => ?busy, fun mode idle => ?starts⟩,
    fun s hist ok mode running none_ => ?completes, fun s hist ok h => completes_of_ran (calComplete_idle ok h)⟩
  case ignored => exact completes_of_ran (congrArg (ran s) (if_pos ignored))
  case crossings =>
    obtain ⟨level, tap, crossings⟩ := extLineCrossing_adds live taps next
    refine ⟨_, _, completes_of_ran rfl, (lineTaps_only ..).only, crossings, level, ?_, ?_⟩
    · rintro rfl rfl low
      rw [State.corrected, low, removeNarrow_low] at tap
      rw [State.corrected, low, removeNarrow_low]
      exact ⟨rfl, tap⟩
    · rintro rfl rfl low
      rw [State.corrected, low, removeNarrow_high] at tap
      rw [State.corrected, low, removeNarrow_high, newCrossings_rising]
      exact ⟨rfl, tap⟩
  case stuck =>
    exact ⟨_, completes_of_ran (congrArg (ran s) (lineStuck_reports power time level fresh)), event_reported ..⟩
  case told => exact completes_of_ran (congrArg (ran s) (lineStuck_reported told))
  case flag => exact completes_of_ran (congrArg (ran s) (flagInput_eq ..))
  case outside =>
    have refused : s.calStart (leNat data) = refuse abValueRange s := if_pos (by simpa using mode)
    exact completes_of_ran (congrArg (ran s) (h.calStart.trans (by rw [refused]; rfl)))
  case busy =>
    have refused : s.calStart (leNat data) = refuse abBusy s := by
      unfold State.calStart
      rw [if_neg (by simp [mode]), if_pos (by simp [running])]
    exact completes_of_ran (congrArg (ran s) (h.calStart.trans (by rw [refused]; rfl)))
  case starts =>
    have started : s.calStart (leNat data) = taken
        { s with shaft.calState := 1, shaft.calMask := BitVec.ofNat 44 (leNat data), shaft.calFail := 0 } := by
      unfold State.calStart
      rw [if_neg (by simp [mode]), if_neg (by simpa using idle)]
    exact completes_of_ran (congrArg (ran s) (h.calStart.trans (by rw [started]; rfl)))
  case completes =>
    have done := calComplete_running ok mode running
    refine ⟨_, completes_of_ran done, ?_, calLines_fail none_, ?_⟩
    · exact ((setShaft_only ..).next (calLines_only s hist)).only
    · by_cases h : (s.calLines hist).shaft.calFail = 0 <;> simp [h]

end Sys2Proof.Machine
end

section
namespace Sys2Proof.Machine

set_option Elab.async false

/-! ## A segment closes (R184) -/

/-- The segment as it closes after sample `end_ − 1` (Table 5.4). -/
def Segment.closed (m : Segment) (cause post end_ epoch mask : Nat) : Segment :=
  { m with state := 3, closeCause := cause, postActual := post, endSidx := end_, epoch, headerDone := false
           seamMask := mask }

/-- The Shaft when segment `g` closes: none is filled, and a dead interval begins. -/
def Shaft.close (h : Shaft) (g : Fin 64) (f : Segment → Segment) (d : Dead) : Shaft :=
  { h with segments := vmod h.segments g.val f, filling := none, dead := some d }

section
variable {s : State} {g : Fin 64}

theorem closeSegment_shaft {x : Trig} (h : s.shaft.filling = some g) (ht : (s.segment g.val).trig = some x) (cause : Nat)
    (start : Coord) (end_ : Nat) : ∃ epoch mask, (s.closeSegment cause start end_).shaft =
      s.shaft.close g (fun m => m.closed cause (end_ - x.sidx - 1) end_ epoch mask)
        { start, closed := some g.val, next := (g.val + 1) % max 1 s.segCount } := by
  unfold State.closeSegment
  rw [h]
  dsimp only
  rw [ht]
  have seams : Alters [.seams] s (s.windowSeams.foldl (fun s k => s.onSeam k fun m => m.setOpen .window none) s) :=
    .fold (.refl _ s) fun _ _ => onSeam_only ..
  generalize s.windowSeams.foldl (fun s k => s.onSeam k fun m => m.setOpen .window none) s = u at *
  rw [← seams.shaft]
  exact ⟨u.epochNo, u.cfg 0x2600 3, rfl⟩

/-- After the sample S + POST_SMP of its trigger. -/
theorem segmentPostDone_of_past {x : Trig} (h : s.shaft.filling = some g) (post : (s.segment g.val).state = 2)
    (ht : (s.segment g.val).trig = some x) (past : x.sidx + s.cfg (0x26C0 + g.val) 3 < s.sv.sidx) :
    s.segmentPostDone =
      (s.cutWindows (x.sidx + s.cfg (0x26C0 + g.val) 3 + 1)).closeSegment ccPostDone
        (s.coordOf (x.sidx + s.cfg (0x26C0 + g.val) 3 + 1)) (x.sidx + s.cfg (0x26C0 + g.val) 3 + 1) := by
  unfold State.segmentPostDone
  rw [h]
  dsimp only
  rw [post, ht]
  exact if_pos past

theorem segment_of_shaft {t : State} {h : Shaft} (e : t.shaft = h) (n : Nat) : t.segment n = vget h.segments n {} := by
  unfold State.segment
  rw [e]

end

/-! ## Arming and the end of a dead interval (R186, R187) -/

/-- The segment as it is armed on sample `x`. -/
def Segment.armed (m : Segment) (x : Nat) : Segment :=
  { state := 1, generation := inc64 m.generation, armSidx := x, firstSidx := x, writeOff := areaStart }

/-- The Shaft when segment `g` is armed on sample `x`. -/
def Shaft.arm (h : Shaft) (g : Fin 64) (x : Nat) : Shaft :=
  { h with segments := vmod h.segments g.val fun m => m.armed x
           filling := some g, lastArmed := some g.val, dead := none }

section
variable {s : State}

theorem openWindows_shaft (s : State) (l : List Nat) : (l.foldl State.openWindow s).shaft = s.shaft :=
  Alters.shaft (l := [.seams]) (.fold (.refl _ s) fun _ _ => openWindow_only ..)

theorem armSegment_shaft {g : Nat} (hg : g < 64) : (s.armSegment g).shaft = s.shaft.arm ⟨g, hg⟩ s.sv.sidx := by
  unfold State.armSegment
  rw [dif_pos hg]
  dsimp only
  rw [openWindows_shaft]
  rfl

/-- A dead interval of some samples adds them to DEAD_SMP. -/
theorem deadtime_shaft {d : Dead} (h : s.shaft.dead = some d) (dead : d.start.sidx < s.sv.sidx) (next : Nat)
    (segment : Option Nat) : (s.deadtime next segment).shaft =
      { s.shaft with dead := none, deadSmp := add64 s.shaft.deadSmp (s.sv.sidx - d.start.sidx) } := by
  unfold State.deadtime State.deadIngot
  rw [h]
  dsimp only
  rw [if_neg (by omega)]
  exact (emitControl_only ..).shaft

/-- The dead interval set. -/
def State.withDead (s : State) (d : Option Dead) : State := { s with shaft.dead := d }

/-- A free segment is armed, and the dead interval that waited for it ends. -/
theorem rearm_shaft {d : Dead} (h : s.shaft.dead = some d) (dead : d.start.sidx < s.sv.sidx) {g : Nat} (hg : g < 64)
    (free : (s.segment g).code = 0) : (s.rearm g).shaft =
      { s.shaft.arm ⟨g, hg⟩ s.sv.sidx with deadSmp := add64 s.shaft.deadSmp (s.sv.sidx - d.start.sidx) } := by
  unfold State.rearm
  dsimp only
  rw [if_pos (beq_iff_eq.2 free)]
  have shaft := armSegment_shaft (s := s) hg
  have sv : (s.armSegment g).sv = s.sv := (armSegment_only ..).sv
  generalize s.armSegment g = u at *
  refine (deadtime_shaft (s := u.withDead s.shaft.dead) h (sv ▸ dead) g (some g)).trans ?_
  unfold State.withDead
  dsimp only
  rw [shaft, sv]
  rfl

/-! ## The re-arm after a close (R186) -/

section
variable {d : Dead} (h : s.shaft.dead = some d) (waits : d.waits = false)
include h waits

/-- An interval that waits for no release ends 192 samples after the close where the next segment lets it. -/
theorem segmentRearm_of_plain : s.segmentRearm =
    if s.sv.sidx < d.start.sidx + 192 then s
    else if (s.segment d.next).code = 0 then s.rearm d.next
    else if s.cfg 0x2600 6 = 1 then s.rearm (s.overwriteChoice d.next)
    else s.withDead (some { d with waits := true }) := by
  unfold State.segmentRearm
  rw [h]
  dsimp only
  rw [waits, if_neg Bool.false_ne_true]
  simp only [beq_iff_eq]
  rfl

end

end

/-! ## The release of a segment (R186, R220) -/

theorem Passes.segRelease {s : State} {via : Path} {data : List Byte} (h : Passes s via 0x2600 7 data) :
    s.request via 0x2600 7 data = (s.segRelease (leNat data)).2.answer via 0x2600 7 (s.segRelease (leNat data)).1 :=
  h.unit rfl rfl (by decide) (by decide)

/-- The segment as SEG_RELEASE frees it. -/
def Segment.released (m : Segment) : Segment := { m with state := 0, images := [], readOut := false, headerDone := false }

/-- The dead interval when segment `g` is released on sample `x`: the counter of one that waits for it starts. -/
def Dead.release (d : Dead) (g x : Nat) : Dead := if d.next == g && d.waits then { d with releasedAt := some x } else d

section
variable {s : State} {g : Nat}

theorem segRelease_open (h : (s.segment g).code ≠ 3) : s.segRelease g = refuse abValueRange s :=
  if_pos (by simpa using h)

theorem segRelease_read (h : (s.segment g).code = 3) (read : s.beingRead g = true) : s.segRelease g = refuse abBusy s :=
  (if_neg (by simp [h])).trans (if_pos read)

theorem segRelease_frees (h : (s.segment g).code = 3) (read : s.beingRead g = false) :
    (s.segRelease g).1 = 0 ∧ (s.segRelease g).2.shaft =
      { s.shaft with segments := vmod s.shaft.segments g Segment.released
                     dead := s.shaft.dead.map fun d => d.release g s.sv.sidx } := by
  unfold State.segRelease
  rw [if_neg (by simp [h]), if_neg (by simp [read])]
  exact ⟨rfl, rfl⟩

/-- A closed segment is one of the 64. -/
theorem lt_of_closed (h : (s.segment g).code = 3) : g < 64 := by
  refine Decidable.not_not.1 fun beyond => ?_
  unfold State.segment vget at h
  rw [dif_neg beyond] at h
  exact absurd h (by decide)

end

/-- Settles O22: what closing, arming and releasing make of the Shaft. -/
theorem windowSegments_spec : Obligations.WindowSegments := by
  unfold Obligations.WindowSegments
  refine ⟨⟨fun s g x filling post trig past => ?closes, fun s d dead waits early => ?early,
    fun s d dead waits late hg free => ?arms, fun s d dead waits late busy keep => ?waits⟩,
    fun s via data h => ⟨fun opened => ?opened, fun closed read => ?read, fun closed read => ?frees⟩⟩
  case closes =>
    refine ⟨s.segmentPostDone, completes_of_ran rfl, (segmentPostDone_only s).only, ?_⟩
    rw [segmentPostDone_of_past filling post trig past]
    have cut := cutWindows_only s (x.sidx + s.cfg (0x26C0 + g.val) 3 + 1)
    have count : (s.cutWindows (x.sidx + s.cfg (0x26C0 + g.val) 3 + 1)).segCount = s.segCount := cut.cfg ..
    generalize s.cutWindows (x.sidx + s.cfg (0x26C0 + g.val) 3 + 1) = u at *
    have same : u.segment g.val = s.segment g.val := segment_of_shaft cut.shaft _
    obtain ⟨epoch, mask, shaft⟩ := closeSegment_shaft (cut.shaft ▸ filling) (same ▸ trig) ccPostDone
      (s.coordOf (x.sidx + s.cfg (0x26C0 + g.val) 3 + 1)) (x.sidx + s.cfg (0x26C0 + g.val) 3 + 1)
    rw [segment_of_shaft shaft, shaft, count]
    unfold Shaft.close
    dsimp only
    rw [vget_vmod_same _ _ _ _ g.isLt]
    exact ⟨rfl, rfl, rfl, by simp only [Segment.closed]; omega, rfl, rfl⟩
  case early => exact completes_of_ran (congrArg (ran s) ((segmentRearm_of_plain dead waits).trans (if_pos early)))
  case arms =>
    refine ⟨s.segmentRearm, completes_of_ran rfl, ?_⟩
    have rearms : s.segmentRearm = s.rearm d.next := by
      rw [segmentRearm_of_plain dead waits, if_neg (Nat.not_lt.2 late), if_pos free]
    have shaft := (congrArg State.shaft rearms).trans (rearm_shaft dead (by omega) hg free)
    rw [segment_of_shaft shaft, shaft]
    unfold Shaft.arm
    dsimp only
    rw [vget_vmod_same _ _ _ _ hg]
    exact ⟨rfl, rfl, rfl, rfl, rfl, rfl⟩
  case waits =>
    refine completes_of_ran (congrArg (ran s) ?_)
    rw [segmentRearm_of_plain dead waits, if_neg (Nat.not_lt.2 late), if_neg busy, if_neg keep]
    rfl
  case opened => exact completes_of_ran (congrArg (ran s) (h.segRelease.trans (by rw [segRelease_open opened]; rfl)))
  case read => exact completes_of_ran (congrArg (ran s) (h.segRelease.trans (by rw [segRelease_read closed read]; rfl)))
  case frees =>
    obtain ⟨code, shaft⟩ := segRelease_frees closed read
    have shaft : ((s.segRelease (leNat data)).2.answer via 0x2600 7 0).shaft = _ := shaft
    refine ⟨_, completes_of_ran (congrArg (ran s) (h.segRelease.trans (by rw [code]))),
      ((answer_only ..).next (segRelease_only s (leNat data)).mono).only, ?_⟩
    rw [segment_of_shaft shaft, shaft]
    dsimp only
    rw [vget_vmod_same _ _ _ _ (lt_of_closed closed)]
    refine ⟨rfl, rfl, rfl, ?_⟩
    intro d dead next waiting
    rw [dead]
    exact congrArg some (if_pos (by simp [next, waiting]))

end Sys2Proof.Machine
end

section
namespace Sys2Proof.Machine

set_option Elab.async false

/-! ## What a suspension leaves of the Grizzly (R201, R207) -/

/-- Of the Grizzly only the suspensions and the class-B queue, into which their events go, may differ. -/
def SuspendsOnly (s t : State) : Prop :=
  ∃ (l : List Suspension) (c : Nat) (q : List ClassBItem) (r : Bool) (d : Nat),
    t.grizzly = { s.grizzly with
      suspensions := l, suspendCause := c, classB := q, classBRun := r, classBDropped := d }

theorem SuspendsOnly.of_eq {s t : State} (h : t.grizzly = s.grizzly) : SuspendsOnly s t := ⟨_, _, _, _, _, h⟩

theorem SuspendsOnly.trans {s t u : State} (h : SuspendsOnly s t) (k : SuspendsOnly t u) : SuspendsOnly s u := by
  obtain ⟨_, _, _, _, _, h⟩ := h
  obtain ⟨_, _, _, _, _, k⟩ := k
  exact ⟨_, _, _, _, _, by rw [k, h]⟩

theorem Reported.suspendsOnly {s t : State} (h : Reported s t) : SuspendsOnly s t := by
  obtain ⟨_, _, _, _, _, _, _, rfl⟩ := h
  exact ⟨_, _, _, _, _, rfl⟩

theorem Reported.suspensions {s t : State} (h : Reported s t) : t.grizzly.suspensions = s.grizzly.suspensions := by
  obtain ⟨_, _, _, _, _, _, _, rfl⟩ := h
  rfl

theorem conditionMet_suspendsOnly (s : State) (cause : SuspendCause) (scope : BitVec 64) :
    SuspendsOnly s (s.conditionMet cause scope) := ⟨_, _, _, _, _, rfl⟩

theorem suspend_suspendsOnly (s : State) (cause : SuspendCause) (scope : BitVec 64) :
    SuspendsOnly s (s.suspend cause scope) := by
  unfold State.suspend
  split
  · exact .of_eq rfl
  split
  · exact ⟨_, _, _, _, _, rfl⟩
  · exact SuspendsOnly.trans (t := { s with
      grizzly.suspensions := s.grizzly.suspensions ++ [{ cause, scope, metSince := none }]
      grizzly.suspendCause := suspendCode cause }) ⟨_, _, _, _, _, rfl⟩ (event_reported ..).suspendsOnly

section
variable {s t : State}

/-- Suspensions are no part of the measured drain. -/
theorem SuspendsOnly.binRates (h : SuspendsOnly s t) (hd : t.dict = s.dict) : t.binRates = s.binRates := by
  obtain ⟨_, _, _, _, _, h⟩ := h
  unfold State.binRates State.drainE State.cfg
  rw [h, hd]

/-- An operation that leaves the streams and the mode leaves the scope of all armed streams (R207). -/
theorem Alters.scopeAll {l : List Part} (h : Alters l s t) (hs : Part.streams ∉ l := by decide)
    (hp : Part.power ∉ l := by decide) (hm : Part.modes ∉ l := by decide) : t.scopeAll = s.scopeAll := by
  unfold State.scopeAll State.mode
  simp only [h.stream _ hs, h.power hp, h.modes hm]

end

/-! ## The end of a bin (R201, R207) -/

theorem eccSettle_grizzly (s : State) :
    s.eccSettle.grizzly = { s.grizzly with eccTimes := s.grizzly.eccTimes.filter fun t => s.sv.up < t + second } := by
  unfold State.eccSettle
  extract_lets
  split <;> rfl

/-- The bins after the current one has ended (R201). -/
def State.binsNext (s : State) : List Nat :=
  if s.grizzly.binValid = true then (s.grizzly.binBytes :: s.grizzly.bins).take 10 else s.grizzly.bins

/-- The bin has entered the history, and the next one is open. -/
def State.binTurned (s : State) : State :=
  { s with grizzly.bins := s.binsNext, grizzly.binBytes := 0, grizzly.binValid := s.anyWaiting }

/-- DRAIN_LOW by the rates of the bins: suspended, or met again. -/
def State.judgeDrain (s : State) : State :=
  if s.binRates.sum < 10 * s.drainE then s.suspend .drainLow s.scopeAll else s.conditionMet .drainLow 0

theorem binEnd_judges (s : State) :
    ∃ u, s.binEnd = u.judgeDrain ∧ SuspendsOnly s.binTurned.eccSettle u ∧ Alters [.grizzly, .fm] s u := by
  have turned : Alters [.grizzly] s s.binTurned := .set fun p hp => by
    cases p <;> first | rfl | exact absurd ((Part.mem_bits ..).2 rfl) hp
  have settled : Alters [.grizzly, .fm] s s.binTurned.eccSettle := (eccSettle_only _).next turned.mono
  refine ⟨if s.binTurned.eccSettle.inBound s.binTurned.eccSettle.queued then
    s.binTurned.eccSettle.conditionMet .reserveExceeded 0 else s.binTurned.eccSettle, rfl, ?_, ?_⟩
  · split
    · exact conditionMet_suspendsOnly ..
    · exact .of_eq rfl
  · exact .ite ((conditionMet_only ..).next settled) settled

theorem judgeDrain_suspendsOnly (s : State) : SuspendsOnly s s.judgeDrain := by
  unfold State.judgeDrain
  split
  · exact suspend_suspendsOnly ..
  · exact conditionMet_suspendsOnly ..

theorem judgeDrain_dict (s : State) : s.judgeDrain.dict = s.dict := by
  unfold State.judgeDrain
  split
  · exact (suspend_only ..).dict
  · rfl

/-- A mean below E suspends every armed stream. -/
theorem judgeDrain_suspends {s : State} (low : s.judgeDrain.drainMean < s.drainE) (armed : s.scopeAll ≠ 0) :
    ∃ x ∈ s.judgeDrain.grizzly.suspensions, x.cause = .drainLow ∧ x.metSince = none := by
  have rates := (judgeDrain_suspendsOnly s).binRates (judgeDrain_dict s)
  unfold State.drainMean at low
  rw [rates] at low
  unfold State.judgeDrain
  rw [if_pos (by omega)]
  exact suspend_opens s .drainLow armed

theorem binEnd_spec (s : State) : s.binEnd.grizzly.bins = s.binsNext ∧ s.binEnd.grizzly.binBytes = 0 ∧
    s.binEnd.grizzly.binValid = s.anyWaiting ∧
    (s.binEnd.drainMean < s.drainE → s.scopeAll ≠ 0 →
      ∃ x ∈ s.binEnd.grizzly.suspensions, x.cause = .drainLow ∧ x.metSince = none) := by
  obtain ⟨u, judged, kept, only⟩ := binEnd_judges s
  rw [judged]
  have whole := kept.trans (judgeDrain_suspendsOnly u)
  have e : u.drainE = s.drainE := by
    obtain ⟨_, _, _, _, _, grizzly⟩ := kept
    unfold State.drainE State.cfg
    rw [grizzly, eccSettle_grizzly, only.dict]
    rfl
  refine ⟨?_, ?_, ?_, fun low armed => judgeDrain_suspends (e ▸ low) (only.scopeAll ▸ armed)⟩
  all_goals
    obtain ⟨_, _, _, _, _, grizzly⟩ := whole
    rw [grizzly, eccSettle_grizzly]
    rfl

/-! ## Held streams (R207, R208) -/

theorem scopeOne_ne_zero {q : Nat} (hq : q < 64) : scopeOne q ≠ 0 := fun h => by
  have value : (scopeOne q).toNat = 2 ^ q := by
    rw [scopeOne, BitVec.toNat_ofNat, Nat.mod_eq_of_lt (Nat.pow_lt_pow_right (by decide) hq)]
  rw [h] at value
  exact absurd value.symm (Nat.two_pow_pos q).ne'

/-- A full ring suspends its stream alone. -/
theorem suspend_ringFull (s : State) {scope : BitVec 64} (h : scope ≠ 0) :
    ∃ x ∈ (s.suspend .ringFull scope).grizzly.suspensions, x.cause = .ringFull ∧ x.scope = scope := by
  unfold State.suspend
  rw [if_neg (by simpa using h)]
  split
  · next found =>
    obtain ⟨y, hy, same⟩ := List.any_eq_true.1 found
    refine ⟨{ y with metSince := none }, List.mem_map.2 ⟨y, hy, if_pos same⟩, ?_⟩
    simpa [sameSuspension] using same
  · rw [(event_reported ..).suspensions]
    exact ⟨_, List.mem_append_right _ (List.mem_singleton.2 rfl), rfl, rfl⟩

/-- A stream is held when its head ingot has found no room while the drain was there. -/
theorem ringFull_holds {s : State} {q : Nat} (waits : (s.stream q).backlog ≠ []) (drain : s.withdrawn = false)
    (full : s.headFits q = false) : s.ringFull q = s.hold q := if_pos (by simp [waits, drain, full])

section
variable {s : State} {q : Nat} (hq : q < 64)
include hq

theorem hold_spec (free : (s.stream q).held = false) : (s.hold q).stream q = { s.stream q with held := true } ∧
    ∃ x ∈ (s.hold q).grizzly.suspensions, x.cause = .ringFull ∧ x.scope = scopeOne q := by
  unfold State.hold
  rw [if_neg (by simp [free])]
  refine ⟨?_, suspend_ringFull _ (scopeOne_ne_zero hq)⟩
  exact ((suspend_only ..).stream q).trans (State.stream_onStream_same _ _ _ hq)

/-- The suspension of a stream that is held no longer can end. -/
theorem endHold_spec (held : (s.stream q).held = true) :
    (s.endHold q).stream q = { s.stream q with held := false } ∧
      ∀ x ∈ (s.endHold q).grizzly.suspensions, x.cause = .ringFull → x.scope = scopeOne q → x.metSince ≠ none := by
  unfold State.endHold
  rw [if_pos held]
  refine ⟨State.stream_onStream_same _ _ _ hq, fun x hx cause scope => ?_⟩
  obtain ⟨y, -, rfl⟩ := List.mem_map.1 hx
  split
  · exact Option.some_ne_none _
  · next broken =>
    rw [if_neg broken] at cause scope
    simpa [sameSuspension, cause, scope] using broken

theorem heldRejoin_spec (held : (s.stream q).held = true) (fits : s.headFits q = true) :
    (s.heldRejoin q).stream q = { (s.stream q).rejoin s.sv.up with held := false } ∧
      ∀ x ∈ (s.heldRejoin q).grizzly.suspensions, x.cause = .ringFull → x.scope = scopeOne q → x.metSince ≠ none := by
  have rejoined := State.stream_onStream_same s q (fun m => m.rejoin s.sv.up) hq
  have still : ((s.onStream q fun m => m.rejoin s.sv.up).stream q).held = true := by rw [rejoined]; exact held
  unfold State.heldRejoin
  rw [if_pos (by simp [held, fits])]
  obtain ⟨stream, met⟩ := endHold_spec hq still
  exact ⟨by rw [stream, rejoined], met⟩

end

/-! ## The end of suspensions (R207) -/

theorem endSuspensions_suspensions (s : State) (cause : SuspendCause) : (s.endSuspensions cause).grizzly.suspensions =
    s.grizzly.suspensions.filter fun x => !(x.cause == cause && s.suspensionOver x) := by
  have events (l : List Suspension) (u : State) : Reported u (l.foldl (fun s x =>
      s.event .guaranteeRestored .grizzly 0xFF (leBytes 1 (suspendCode cause) ++ leBytes 8 x.scope.toNat)) u) := by
    induction l generalizing u with
    | nil => exact .refl u
    | cons x l ih => exact (event_reported ..).trans (ih _)
  exact (events _ _).suspensions

/-- Settles O25: each command runs to the state of its operation; a bin is judged after it has entered the history, and the
suspensions that end are those filtered out. -/
theorem drainAndSuspensions : Obligations.DrainAndSuspensions := by
  unfold Obligations.DrainAndSuspensions
  refine ⟨fun s => ⟨s.binEnd, completes_of_ran rfl, (binEnd_only s).only, binEnd_spec s⟩,
    fun s q waits drain full free => ?full, fun s q fits => ?fits, fun s q held fits => ?rejoins,
    fun s q free => ?free, fun s cause => ⟨_, completes_of_ran rfl, (endSuspensions_only s cause).only, fun x hx => ?ends⟩⟩
  case full =>
    obtain ⟨stream, suspended⟩ := hold_spec q.isLt free
    rw [← ringFull_holds waits drain full] at stream suspended
    exact ⟨_, completes_of_ran rfl, (ringFull_only ..).only, by rw [stream], by rw [stream], suspended⟩
  case fits => exact completes_of_ran (congrArg (ran s) (if_neg (by simp [fits])))
  case rejoins =>
    obtain ⟨stream, met⟩ := heldRejoin_spec q.isLt held fits
    exact ⟨_, completes_of_ran rfl, (heldRejoin_only ..).only, by rw [stream], by rw [stream]; rfl, met⟩
  case free => exact completes_of_ran (congrArg (ran s) (if_neg (by simp [free])))
  case ends =>
    rw [endSuspensions_suspensions, List.mem_filter]
    refine ⟨fun same expired => ?_, fun stays => ⟨hx, ?_⟩⟩
    · simp [same, expired]
    · rcases stays with other | standing
      · simp [other]
      · simp [standing]

end Sys2Proof.Machine
end
section
namespace Sys2Proof.Machine

set_option Elab.async false

/-! ## Vectors that leave while the link is awake (R291) -/

/-- Of the Headframe only the two MSI-X tables may differ, of the Grizzly nothing. -/
def VectorsOnly (s t : State) : Prop :=
  t.grizzly = s.grizzly ∧ ∃ (m : Vector MsixEntry 256) (k : Vector MsixEntry 16),
    t.hf = { s.hf with msix0 := m, msix1 := k }

theorem VectorsOnly.refl (s : State) : VectorsOnly s s := ⟨rfl, _, _, rfl⟩

theorem VectorsOnly.trans {s t u : State} (h : VectorsOnly s t) (k : VectorsOnly t u) : VectorsOnly s u := by
  obtain ⟨hg, _, _, h⟩ := h
  obtain ⟨kg, _, _, k⟩ := k
  exact ⟨kg.trans hg, _, _, by rw [k, h]⟩

theorem onMsix_vectorsOnly (s : State) (fn : Fn) (v : Nat) (f : MsixEntry → MsixEntry) :
    VectorsOnly s (s.onMsix fn v f) := by
  cases fn <;> exact ⟨rfl, _, _, rfl⟩

theorem VectorsOnly.awake {s t : State} (h : VectorsOnly s t) (awake : s.hf.inL1 = false) : t.hf.inL1 = false := by
  obtain ⟨-, _, _, h⟩ := h
  rw [h]
  exact awake

section
variable {s : State} (awake : s.hf.inL1 = false)
include awake

theorem wakeLink_awake : s.wakeLink = s := if_neg (by simp [awake])

theorem sendVector_vectorsOnly (fn : Fn) (v : Nat) : VectorsOnly s (s.sendVector fn v) := by
  unfold State.sendVector
  rw [wakeLink_awake awake]
  exact onMsix_vectorsOnly ..

theorem flushVectors_vectorsOnly : VectorsOnly s s.flushVectors := by
  have each (fn : Fn) (l : List Nat) (u : State) (hu : VectorsOnly s u) : VectorsOnly s (l.foldl (fun s v =>
      if (s.msixEntry fn v).pending && s.canSignal fn v then s.sendVector fn v else s) u) := by
    induction l generalizing u with
    | nil => exact hu
    | cons v l ih =>
      refine ih _ ?_
      dsimp only
      split
      · exact hu.trans (sendVector_vectorsOnly (hu.awake awake) fn v)
      · exact hu
  exact each .pf1 _ _ (each .pf0 _ _ (.refl s))

end

/-! ## The link leaves L0 (R193, R201, R209, R271) -/

/-- The Headframe and G out of L0: in Recovery the link keeps its speed and width. -/
def State.outOfL0 (s : State) (recovery : Bool) : State :=
  { s with hf.l0 := false, hf.inL1 := false, hf.l0p := none, grizzly.g := 0
           grizzly.gWas := egressOf s.hf.speed s.hf.width
           hf.recoveries := if recovery = true then inc32 s.hf.recoveries else s.hf.recoveries
           hf.speed := if recovery = true then s.hf.speed else 0, hf.width := if recovery = true then s.hf.width else 0
           hf.flit := recovery && s.hf.flit }

theorem linkDown_of_l0 {s : State} (up : s.hf.l0 = true) (recovery : Bool) :
    s.linkDown recovery = ((s.outOfL0 recovery).drainGoes .linkDown).clearDrain := if_pos up

/-- The drain gone for a cause, its history cleared: the armed streams are suspended. -/
theorem drainGoes_clearDrain_spec (s : State) (cause : SuspendCause) :
    Alters [.grizzly, .regs, .fm] s (s.drainGoes cause).clearDrain ∧
      (s.drainGoes cause).clearDrain.grizzly.g = s.grizzly.g ∧ (s.drainGoes cause).clearDrain.grizzly.bins = [] ∧
      (s.scopeAll ≠ 0 →
        ∃ x ∈ (s.drainGoes cause).clearDrain.grizzly.suspensions, x.cause = cause ∧ x.metSince = none) :=
  ⟨(clearDrain_only _).next (drainGoes_only ..), (suspend_hf s cause s.scopeAll).2, rfl, suspend_opens s cause⟩

theorem linkDown_spec {s : State} (up : s.hf.l0 = true) (recovery : Bool) :
    (s.linkDown recovery).hf = (s.outOfL0 recovery).hf ∧ (s.linkDown recovery).grizzly.g = 0 ∧
      (s.linkDown recovery).grizzly.bins = [] ∧
      ((s.linkDown recovery).scopeAll ≠ 0 →
        ∃ x ∈ (s.linkDown recovery).grizzly.suspensions, x.cause = .linkDown ∧ x.metSince = none) := by
  rw [linkDown_of_l0 up]
  obtain ⟨gone, g, bins, suspended⟩ := drainGoes_clearDrain_spec (s.outOfL0 recovery) .linkDown
  exact ⟨gone.hf, g, bins, fun armed => suspended (gone.scopeAll ▸ armed)⟩

/-! ## The floor under a lower G (R211) -/

theorem demote_g (s : State) (l : List Nat) : (s.demote l).grizzly.g = s.grizzly.g := by
  induction l generalizing s with
  | nil => rfl
  | cons k l ih =>
    unfold State.demote
    split
    · rfl
    · exact ih _

theorem Reported.g {s t : State} (h : Reported s t) : t.grizzly.g = s.grizzly.g := by
  obtain ⟨_, _, _, _, _, _, _, rfl⟩ := h
  rfl

theorem demoteFloor_g (s : State) : s.demoteFloor.grizzly.g = s.grizzly.g := by
  unfold State.demoteFloor
  extract_lets old u
  have demoted : u.grizzly.g = s.grizzly.g := by
    unfold u
    split
    · exact demote_g ..
    · rfl
  clear_value u
  split
  · exact demoted
  · exact (event_reported ..).g.trans demoted

/-- Nothing is demoted where G is no lower than it was or the floor fits E. -/
theorem demoteFloor_fits {s : State}
    (h : s.grizzly.gWas ≤ s.grizzly.g ∨ s.floorRate s.cfg s.mode s.grizzly.demoted ≤ (s.drainE : Rat)) :
    s.demoteFloor = s := by
  have same : (if s.grizzly.g < s.grizzly.gWas then s.demote s.floorSeams else s) = s := by
    rcases h with h | h
    · exact if_neg (by omega)
    · have fits (l : List Nat) : s.demote l = s := by
        cases l with
        | nil => rfl
        | cons k l => exact if_pos h
      rw [fits, ite_self]
  unfold State.demoteFloor
  dsimp only
  rw [same, if_pos rfl]

/-! ## The link returns to L0 (R193, R201, R270, R271, R302) -/

/-- The Headframe and G in L0 at a speed and a width. -/
def State.inL0 (s : State) (speed width : Nat) (hostFlit : Bool) : State :=
  { s with hf.l0 := true, hf.inL1 := false, hf.l0p := none, hf.speed := speed, hf.width := width
           hf.flit := speed == 6 || hostFlit
           hf.widthChanges := if (s.hf.width != 0 && width < s.hf.width) = true then inc32 s.hf.widthChanges
             else s.hf.widthChanges
           grizzly.g := egressOf speed width, power.clkreq := true
           hf.ready := s.hf.ready || s.power.phase == Phase.running }

/-- The drain after the link has returned: no history, and the lists that wait rejoin. -/
def State.drainBack (s : State) : State := s.clearDrain.drainReturns.conditionMet .linkDown 0

theorem drainBack_spec (s : State) : s.drainBack.hf = s.hf ∧ s.drainBack.grizzly.g = s.grizzly.g ∧
    s.drainBack.grizzly.bins = [] ∧ s.drainBack.grizzly.demoted = s.grizzly.demoted := by
  unfold State.drainBack State.drainReturns
  split <;> exact ⟨rfl, rfl, rfl, rfl⟩

/-- Where G is no lower than it was or the floor fits E, the floor seams of the link in L0 are those before. -/
theorem inL0_demoted {s : State} {speed width : Nat} {hostFlit : Bool} (h : s.grizzly.gWas ≤ egressOf speed width ∨
    s.floorRate s.cfg s.mode s.grizzly.demoted ≤ ((min (s.cfg 0x2800 2) (egressOf speed width) : Nat) : Rat)) :
    (s.inL0 speed width hostFlit).demoteFloor.grizzly.demoted = s.grizzly.demoted := by
  have rate : (s.inL0 speed width hostFlit).floorRate (s.inL0 speed width hostFlit).cfg (s.inL0 speed width hostFlit).mode
      (s.inL0 speed width hostFlit).grizzly.demoted = s.floorRate s.cfg s.mode s.grizzly.demoted := rfl
  have e : (s.inL0 speed width hostFlit).drainE = min (s.cfg 0x2800 2) (egressOf speed width) := rfl
  have fits : (s.inL0 speed width hostFlit).demoteFloor = s.inL0 speed width hostFlit :=
    demoteFloor_fits (h.imp id fun fits => by rw [rate, e]; exact fits)
  rw [fits]
  rfl

/-- A message of LTR changes the value that was reported last, and nothing else (R295). -/
theorem updateLtr_spec (s : State) : s.updateLtr.grizzly = s.grizzly ∧ ∃ v, s.updateLtr.hf = { s.hf with ltr := v } := by
  unfold State.updateLtr
  split
  · exact ⟨rfl, _, rfl⟩
  · exact ⟨rfl, s.hf.ltr, rfl⟩

theorem linkUp_eq (s : State) (speed width : Nat) (hostFlit : Bool) :
    s.linkUp speed width hostFlit = (s.inL0 speed width hostFlit).demoteFloor.drainBack.updateLtr.flushVectors := rfl

theorem linkUp_spec (s : State) (speed width : Nat) (hostFlit : Bool) :
    (∃ v m k, (s.linkUp speed width hostFlit).hf =
      { (s.inL0 speed width hostFlit).hf with ltr := v, msix0 := m, msix1 := k }) ∧
    (s.linkUp speed width hostFlit).grizzly.g = egressOf speed width ∧
    (s.linkUp speed width hostFlit).grizzly.bins = [] ∧
    (s.linkUp speed width hostFlit).grizzly.demoted = (s.inL0 speed width hostFlit).demoteFloor.grizzly.demoted := by
  rw [linkUp_eq]
  have floorHf := (demoteFloor_only (s.inL0 speed width hostFlit)).hf
  have floorG := demoteFloor_g (s.inL0 speed width hostFlit)
  generalize (s.inL0 speed width hostFlit).demoteFloor = u at *
  obtain ⟨backHf, backG, backBins, backDemoted⟩ := drainBack_spec u
  generalize u.drainBack = v at *
  obtain ⟨ltrGrizzly, ltr, ltrHf⟩ := updateLtr_spec v
  have awake : v.updateLtr.hf.inL1 = false := by rw [ltrHf, backHf, floorHf]; rfl
  obtain ⟨grizzly, m, k, hf⟩ := flushVectors_vectorsOnly awake
  rw [grizzly, ltrGrizzly]
  exact ⟨⟨ltr, m, k, by rw [hf, ltrHf, backHf, floorHf]⟩, backG.trans floorG, backBins, backDemoted⟩

theorem train_up {s : State} {speed : Nat} {lanes : BitVec 16} {reversed : Bool} {w : Nat} (can : s.canTrain = true)
    (low : 1 ≤ speed) (high : speed ≤ 6) (wide : trainedWidth lanes reversed = some w) (hostFlit : Bool) :
    s.train speed lanes reversed hostFlit = s.linkUp speed w hostFlit := by
  unfold State.train
  rw [wide]
  exact if_pos (by simp [can, within, low, high])

theorem train_down {s : State} {speed : Nat} {lanes : BitVec 16} {reversed : Bool}
    (h : s.canTrain = false ∨ trainedWidth lanes reversed = none ∨ speed = 0 ∨ 6 < speed) (hostFlit : Bool) :
    s.train speed lanes reversed hostFlit = s := by
  unfold State.train
  cases wide : trainedWidth lanes reversed with
  | none => rfl
  | some w =>
    refine if_neg ?_
    rcases h with cannot | none_ | zero | high
    · simp [cannot]
    · exact absurd (wide.symm.trans none_) nofun
    · simp [zero, within]
    · simp [within, high]

/-- Below 32.0 GT/s no width guarantees egress (Table 6.1). -/
theorem egressOf_slow {speed : Nat} (h : speed < 5) (width : Nat) : egressOf speed width = 0 := by
  unfold egressOf
  rw [if_neg (by omega), if_neg (by omega), if_neg (by omega)]

/-- Settles O26: out of L0 nothing is guaranteed, in L0 the figure of Table 6.1; no operation after the link is up touches G
again, and the floor is demoted only where both conditions of R211 hold. -/
theorem linkGivesGuarantee : Obligations.LinkGivesGuarantee := by
  unfold Obligations.LinkGivesGuarantee
  refine ⟨fun s recovery up => ?down, fun s recovery down => completes_of_ran (congrArg (ran s) (if_neg (by simp [down]))),
    fun s speed lanes reversed hostFlit w can low high wide => ?up,
    fun s speed lanes reversed hostFlit h => completes_of_ran (congrArg (ran s) (train_down h hostFlit))⟩
  case down =>
    obtain ⟨hf, g, bins, suspended⟩ := linkDown_spec up recovery
    refine ⟨_, completes_of_ran rfl, (linkDown_only ..).only, ?_, ?_, g, bins, ?_, suspended⟩ <;> rw [hf] <;> rfl
  case up =>
    obtain ⟨⟨ltr, m, k, hf⟩, g, bins, demoted⟩ := linkUp_spec s speed w hostFlit
    refine ⟨s.linkUp speed w hostFlit, completes_of_ran (congrArg (ran s) (train_up can low high wide hostFlit)),
      (linkUp_only ..).only, ?_⟩
    rw [hf, g, demoted]
    refine ⟨rfl, rfl, rfl, rfl, bins, ?widths, ?_, ?_, ?_, ?_, ?_, fun slow => egressOf_slow slow w,
      fun higher => inL0_demoted (.inl higher), fun fits => inL0_demoted (.inr fits)⟩
    case widths => simp [State.inL0]
    all_goals
      rintro rfl rfl
      rfl

end Sys2Proof.Machine
end
section
namespace Sys2Proof.Machine

set_option Elab.async false

/-! ## RD_START (R219, R220, R280) -/

theorem Passes.rdStart {s : State} {via : Path} (h : Passes s via 0x2810 3 [1]) :
    s.request via 0x2810 3 [1] = s.rdStart.2.answer via 0x2810 3 s.rdStart.1 := h.unit rfl rfl (by decide) (by decide)

theorem Passes.rdStop {s : State} {via : Path} (h : Passes s via 0x2810 3 [0]) :
    s.request via 0x2810 3 [0] = s.endReadout.answer via 0x2810 3 0 := h.unit (t := s.rdStop) rfl rfl (by decide) (by decide)

section
variable {s : State}

/-- The readout of segment `g`, running from its first image. -/
def State.readoutStarted (s : State) (g : Fin 64) : State :=
  { s with grizzly.rdState := rdRunning, grizzly.rdBytes := 0, grizzly.rdSince := s.sv.up
           grizzly.rdLeft := some (g, (s.segment g.val).images.filterMap WinImage.ingot) }

/-- A segment that is not closed, and a ring that is not there or not the readout's. -/
theorem rdStart_range (h : (s.segment (s.cfg 0x2810 1)).code ≠ 3 ∨ s.cfg 0x2810 2 = 0xFF ∨
    s.armedOn (s.cfg 0x2810 2) = true ∨ s.cfg 0x2810 2 = s.cfg 0x2C00 1) : s.rdStart = refuse abValueRange s := by
  refine if_pos ?_
  rcases h with h | h | h | h <;> simp [h]

variable (closed : (s.segment (s.cfg 0x2810 1)).code = 3) (ring : s.cfg 0x2810 2 ≠ 0xFF)
  (free : s.armedOn (s.cfg 0x2810 2) = false) (apart : s.cfg 0x2810 2 ≠ s.cfg 0x2C00 1)
include closed ring free apart

theorem rdStart_busy (h : readoutMode s.mode = false ∨ s.grizzly.rdState = rdRunning) : s.rdStart = refuse abBusy s := by
  refine (if_neg (by simp [closed, ring, free, apart])).trans (if_pos ?_)
  rcases h with h | h <;> simp [h]

theorem rdStart_starts (mode : readoutMode s.mode = true) (idle : s.grizzly.rdState ≠ rdRunning)
    (hg : s.cfg 0x2810 1 < 64) : s.rdStart = taken (s.readoutStarted ⟨s.cfg 0x2810 1, hg⟩) :=
  (if_neg (by simp [closed, ring, free, apart])).trans <| (if_neg (by simp [mode, idle])).trans (dif_pos hg)

end

/-! ## RD_START = 0 (R220) -/

section
variable {s : State}

theorem endReadout_running (h : s.grizzly.rdState = rdRunning) :
    s.endReadout = { s with grizzly.rdState := rdFailed, grizzly.rdLeft := none } := if_pos (beq_iff_eq.2 h)

theorem endReadout_idle (h : s.grizzly.rdState ≠ rdRunning) : s.endReadout = s := if_neg (by simpa using h)

end

/-! ## The last image is written (R219) -/

section
variable {s : State}

theorem readoutDone_completes {g : Fin 64} (left : s.grizzly.rdLeft = some (g, []))
    (running : s.grizzly.rdState = rdRunning) : execReadoutDone s =
      ran s (({ s with grizzly.rdState := rdDone, grizzly.rdLeft := none } : State).onSegment g.val fun m =>
        { m with readOut := true }) := by
  unfold execReadoutDone
  rw [left]
  exact congrArg (ran s) (if_pos (beq_iff_eq.2 running))

theorem readoutDone_idle (left : s.grizzly.rdLeft = none) : execReadoutDone s = ran s s := by
  unfold execReadoutDone
  rw [left]

end

/-- Settles O27: a write of RD_START that passes is answered as `rdStart` and `rdStop` decide, branch by branch. -/
theorem readoutLife : Obligations.ReadoutLife := by
  unfold Obligations.ReadoutLife
  refine ⟨fun s via h => ⟨fun bad => ?range, fun closed ring free apart => ⟨fun busy => ?busy, fun mode idle hg => ?starts⟩⟩,
    fun s via h => ⟨fun running => ?stops, fun idle => ?idle⟩,
    fun s g left running => completes_of_ran (readoutDone_completes left running),
    fun s left => completes_of_ran (readoutDone_idle left)⟩
  case range => exact completes_of_ran (congrArg (ran s) (h.rdStart.trans (by rw [rdStart_range bad]; rfl)))
  case busy =>
    exact completes_of_ran (congrArg (ran s) (h.rdStart.trans (by rw [rdStart_busy closed ring free apart busy]; rfl)))
  case starts =>
    have started := rdStart_starts closed ring free apart mode idle hg
    exact completes_of_ran (congrArg (ran s) (h.rdStart.trans (by rw [started]; rfl)))
  case stops => exact completes_of_ran (congrArg (ran s) (h.rdStop.trans (by rw [endReadout_running running]; rfl)))
  case idle => exact completes_of_ran (congrArg (ran s) (h.rdStop.trans (by rw [endReadout_idle idle])))

end Sys2Proof.Machine
end

section
namespace Sys2Proof.Machine

set_option Elab.async false

/-! ## A readout image that its ring can never take (R203, R282) -/

/-- Beyond the event queue there is no ring: a read gives one at its reset values. -/
theorem ring_beyond (s : State) {n : Nat} (h : 65 ≤ n) : s.ring n = {} := dif_neg (by omega)

/-- A stream's ring is one of the 64, so none writes ring 0xFF. -/
theorem streamOn_noRing (s : State) : s.streamOn 0xFF = none := by
  refine List.find?_eq_none.2 fun q _ on => ?_
  have ring : s.ringOf q = some 0xFF := by
    rw [Bool.and_eq_true_iff] at on
    exact eq_of_beq on.1
  obtain ⟨r, -, hr⟩ := Option.map_eq_some_iff.1 ring
  omega

/-- An ingot whose image is larger than half of 1 MiB. -/
def largeIngot : Ingot :=
  { type := 1, flags := 0, stream := 0, source := 0, sidx := 0, rastpos := 0, time96 := 0, span := 2 ^ 18, epoch := 0
    aux := 0, payload := [], stored := List.replicate (2 ^ 19) 0, close := 0, rank := 0, isSealed := true }

theorem largeIngot_size : largeIngot.size = 2 ^ 19 + 64 := by
  have stored : largeIngot.stored.length = 2 ^ 19 := List.length_replicate
  unfold Ingot.size
  rw [stored]
  rfl

/-- A readout in progress when RD_RING is written with 0xFF, none, which is also its value at reset (R220). -/
def ringWithdrawn : State :=
  { hf.l0 := true, hf.bme := true, grizzly.rdState := rdRunning, grizzly.rdLeft := some (0, [largeIngot]) }

theorem ringWithdrawn_ring : ringWithdrawn.cfg 0x2810 2 = 0xFF := rfl

theorem ringWithdrawn_owner : ringWithdrawn.producerOf 0xFF = 2 := by
  unfold State.producerOf
  rw [streamOn_noRing, ringWithdrawn_ring]
  rfl

/-- Refutes O28: while RD_RING reads 0xFF there is no ring whose status could show TOO_SMALL, so the clause on a readout
image larger than half its ring fails. -/
theorem not_imagesAndCursors : ¬ Obligations.ImagesAndCursors := by
  unfold Obligations.ImagesAndCursors
  rintro ⟨⟨-, -, -, tooLarge, -⟩, -⟩
  have large : (ringWithdrawn.ring 0xFF).bytes < 2 * largeIngot.size := by
    rw [ring_beyond _ (by decide), largeIngot_size]
    decide
  obtain ⟨t, -, -, -, marked⟩ := tooLarge ringWithdrawn 0 largeIngot [] 0 false false rfl rfl rfl ringWithdrawn_owner large
  rw [ringWithdrawn_ring, ring_beyond t (by decide)] at marked
  exact Bool.false_ne_true marked

end Sys2Proof.Machine
end

section
namespace Sys2Proof.Machine

set_option Elab.async false

/-! ## The key store (R235, R410, R411) -/

/-- No write of the key area passes on a part in RETURN (R407, Table 10.2). -/
theorem Passes.notReturned {s : State} {via : Path} {sub : Nat} {data : List Byte} (h : Passes s via 0x3F00 sub data) :
    s.lifeCycle ≠ lcReturn := by
  obtain ⟨-, -, r, -, code⟩ := h
  intro returned
  have gate : s.gateCode via r 0x3F00 sub data = abLifeCycle := if_pos (beq_iff_eq.2 returned)
  unfold State.writeCode at code
  rw [gate, if_pos (by decide)] at code
  exact absurd code (by decide)

/-- A KEY_LOAD record with its constant fields, a KEY_ID in range and the check value of its key (R411). -/
def WholeKey (data : List Byte) : Prop :=
  getLe data 4 4 = 1 ∧ getLe data 44 4 = 0 ∧ 1 ≤ getLe data 0 4 ∧ getLe data 0 4 ≤ 0xFFFFFFFE ∧
    (data.drop 40).take 4 = keyCheck ((data.drop 8).take 32)

theorem any_key_of_new {keys : List (Nat × List Byte)} {id : Nat} (new : ∀ x ∈ keys, x.1 ≠ id) :
    (keys.any fun x => x.1 == id) = false := List.any_eq_false.2 fun x hx e => new x hx (eq_of_beq e)

section
variable {s : State} (life : s.lifeCycle ≠ lcReturn)
include life

theorem keyLoad_broken {data : List Byte} (h : ¬ WholeKey data) : s.keyLoad data = refuse abValueRange s := by
  unfold State.keyLoad
  dsimp only
  rw [if_neg (by simpa using life)]
  split
  · rfl
  · next fields =>
    obtain ⟨version, reserved, low, high⟩ : getLe data 4 4 = 1 ∧ getLe data 44 4 = 0 ∧ 1 ≤ getLe data 0 4 ∧
        getLe data 0 4 ≤ 0xFFFFFFFE := by simpa [within, and_assoc, Nat.one_le_iff_ne_zero] using fields
    exact if_pos (bne_iff_ne.2 fun check => h ⟨version, reserved, low, high, check⟩)

/-- A record that is whole is judged by the keys that the store holds. -/
theorem keyLoad_whole {data : List Byte} (h : WholeKey data) : s.keyLoad data =
    if (s.nv.keys.any fun x => x.1 == getLe data 0 4) = true then
      refuse (if s.keyInUse (getLe data 0 4) = true then abBusy else abValueRange) s
    else if keyMax ≤ s.nv.keys.length then refuse abBusy s
    else taken (s.setKeys (s.nv.keys ++ [(getLe data 0 4, (data.drop 8).take 32)])) := by
  obtain ⟨version, reserved, low, high, check⟩ := h
  unfold State.keyLoad
  dsimp only
  rw [if_neg (by simpa using life), if_neg (by simp [version, reserved, low, high, within]), if_neg (by simp [check])]

theorem keyLoad_known {data : List Byte} (h : WholeKey data) (known : ¬ ∀ x ∈ s.nv.keys, x.1 ≠ getLe data 0 4) :
    s.keyLoad data = refuse (if s.keyInUse (getLe data 0 4) = true then abBusy else abValueRange) s := by
  rw [keyLoad_whole life h, if_pos (by simpa using known)]

theorem keyLoad_full {data : List Byte} (h : WholeKey data) (new : ∀ x ∈ s.nv.keys, x.1 ≠ getLe data 0 4)
    (full : 64 ≤ s.nv.keys.length) : s.keyLoad data = refuse abBusy s := by
  rw [keyLoad_whole life h, if_neg (Bool.eq_false_iff.1 (any_key_of_new new)), if_pos (show keyMax ≤ _ from full)]

theorem keyLoad_adds {data : List Byte} (h : WholeKey data) (new : ∀ x ∈ s.nv.keys, x.1 ≠ getLe data 0 4)
    (room : s.nv.keys.length < 64) :
    s.keyLoad data = taken (s.setKeys (s.nv.keys ++ [(getLe data 0 4, (data.drop 8).take 32)])) := by
  rw [keyLoad_whole life h, if_neg (Bool.eq_false_iff.1 (any_key_of_new new)),
    if_neg (show ¬ keyMax ≤ _ from Nat.not_le.2 room)]

/-- A key that the store holds is erased unless it is in use (R235). -/
theorem keyErase_held {id : Nat} {k : List Byte} (held : (id, k) ∈ s.nv.keys) : s.keyErase id =
    if s.keyInUse id = true then refuse abBusy s else taken (s.setKeys (s.nv.keys.filter fun x => x.1 != id)) := by
  have any : (s.nv.keys.any fun x => x.1 == id) = true := List.any_eq_true.2 ⟨_, held, beq_self_eq_true id⟩
  unfold State.keyErase
  rw [if_neg (by simpa using life), if_neg (by simp [any])]

end

theorem Passes.keyLoad {s : State} {via : Path} {data : List Byte} (h : Passes s via 0x3F00 1 data) :
    s.request via 0x3F00 1 data = (s.keyLoad data).2.answer via 0x3F00 1 (s.keyLoad data).1 := h.service rfl

theorem Passes.keyErase {s : State} {via : Path} {data : List Byte} (h : Passes s via 0x3F00 2 data) :
    s.request via 0x3F00 2 data = (s.keyErase (leNat data)).2.answer via 0x3F00 2 (s.keyErase (leNat data)).1 :=
  h.service rfl

/-! ## USE records (R237, R400) -/

/-- The record of a USE value is in the flash, and the value is reserved for the next arming. -/
def State.useReady (s : State) (v : Nat) : State :=
  { s with nv := s.nv.putUse v, fm.useReserved := some v, fm.useCommitting := none }

theorem useReady_only (s : State) (v : Nat) : OnlyChanges [.nv, .fm] s (s.useReady v) :=
  ⟨fun p hp => by cases p <;> first | rfl | exact absurd ((Part.mem_bits ..).2 rfl) hp⟩

theorem useReserveCommit_some {s : State} {v : Nat} (h : s.fm.useCommitting = some v) (ok : Bool) :
    execUseReserveCommit ok s = ran s (if ok = true then s.useReady v else s) := by
  unfold execUseReserveCommit
  rw [h]
  rfl

theorem useReserveCommit_none {s : State} (h : s.fm.useCommitting = none) (ok : Bool) :
    execUseReserveCommit ok s = ran s s := by
  unfold execUseReserveCommit
  rw [h]

/-- Settles O57: what passes the checks of the key area is answered as `keyLoad` and `keyErase` decide, and a USE value is
reserved once its record is committed (a failed commit leaves it to be tried again, log 34). -/
theorem keyStore : Obligations.KeyStore := by
  unfold Obligations.KeyStore
  refine ⟨fun s via data h => ?loads, fun s via data k h held => ?erases,
    fun s => ⟨fun v committing => ⟨?commits, ?fails⟩, fun idle ok => completes_of_ran (useReserveCommit_none idle ok)⟩⟩
  case loads =>
    have life := h.notReturned
    have answered {t : Taken} (e : s.keyLoad data = t) : Completes (.keyLoad via data) s (t.2.answer via 0x3F00 1 t.1) :=
      completes_of_ran (congrArg (ran s) (e ▸ h.keyLoad))
    exact ⟨fun broken => answered (keyLoad_broken life broken),
      fun whole known => answered (keyLoad_known life whole known),
      fun whole new full => answered (keyLoad_full life whole new full),
      fun whole new room => answered (keyLoad_adds life whole new room)⟩
  case erases =>
    have answered {t : Taken} (e : s.keyErase (leNat data) = t) :
        Completes (.keyErase via data) s (t.2.answer via 0x3F00 2 t.1) :=
      completes_of_ran (congrArg (ran s) (e ▸ h.keyErase))
    have judged := keyErase_held h.notReturned held
    exact ⟨fun used => answered (judged.trans (if_pos used)),
      fun unused => answered (judged.trans (if_neg (Bool.eq_false_iff.1 unused)))⟩
  case commits =>
    exact ⟨s.useReady v, completes_of_ran (useReserveCommit_some committing true), useReady_only s v, rfl, rfl, rfl, rfl⟩
  case fails => exact completes_of_ran (useReserveCommit_some committing false)

end Sys2Proof.Machine
end

section
namespace Sys2Proof.Machine

set_option Elab.async false

/-! ## The ingot that the Smelter takes (R225) -/

theorem Ingot.waitsFor_source {i : Ingot} {k : Nat} (h : i.waitsFor k = true) : i.source = k := by
  rw [Ingot.waitsFor, Bool.and_eq_true] at h
  exact eq_of_beq h.2

/-- What `sealStream` finds is an ingot of the seam: the search takes over nothing else. -/
theorem sealStream_source {s : State} {k q : Nat} {i : Ingot} (h : s.sealStream k = some (q, i)) : i.source = k := by
  refine List.foldlRecOn (motive := fun b => ∀ p : Nat × Ingot, b = some p → p.2.source = k) (b := none) _ _
    (fun _ hp => nomatch hp) (fun b hb q _ p hp => ?_) (q, i) h
  have found {x : Ingot} (e : ((s.stream q).waiting.find? fun i => i.waitsFor k) = some x) : x.source = k :=
    Ingot.waitsFor_source (List.find?_some e :)
  split at hp
  · next x e =>
    obtain rfl := Option.some.inj hp
    exact found e
  · next x r j e =>
    split at hp
    · obtain rfl := Option.some.inj hp
      exact found e
    · exact hb p hp
  · exact hb p hp

/-! ## The carried counts (R230) -/

theorem carried_setCarry {s : State} {k : Nat} (hk : k < 48) (copy : Copy) (c : Option Counts) :
    (s.setCarry k copy c).carried k copy = c.getD countsOfOne := by
  cases copy
  · exact congrArg (fun o => Option.getD o countsOfOne) (vget_vmod_same s.smelter.carryStream k (fun _ => c) none hk)
  · exact congrArg (fun o => Option.getD o countsOfOne) (vget_vmod_same s.smelter.carryWindow k (fun _ => c) none hk)

section
variable (s : State) (k : Nat) (copy : Copy) (c : Option Counts)

@[simp] theorem setCarry_outputFull : (s.setCarry k copy c).smelter.outputFull = s.smelter.outputFull := by
  cases copy <;> rfl

@[simp] theorem setCarry_bytesIn : (s.setCarry k copy c).smelter.bytesIn = s.smelter.bytesIn := by
  cases copy <;> rfl

@[simp] theorem setCarry_bytesOut : (s.setCarry k copy c).smelter.bytesOut = s.smelter.bytesOut := by
  cases copy <;> rfl

@[simp] theorem setCarry_storedBlocks : (s.setCarry k copy c).smelter.storedBlocks = s.smelter.storedBlocks := by
  cases copy <;> rfl

@[simp] theorem setCarry_windowWaiting : (s.setCarry k copy c).smelter.windowWaiting = s.smelter.windowWaiting := by
  cases copy <;> rfl

end

/-! ## DEFLATE (R227, R230, R231) -/

/-- The counts that an ingot's compression starts from. -/
def State.startCounts (s : State) (i : Ingot) : Counts :=
  if i.fresh = true then countsOfOne else s.carried i.source i.copyOf

/-- The Smelter after it has compressed `bytes` bytes into `z`. -/
def State.countDeflate (s : State) (bytes : Nat) (z : List Byte × Counts × Nat) : State :=
  { s with smelter.bytesIn := add64 s.smelter.bytesIn bytes
           smelter.bytesOut := add64 s.smelter.bytesOut z.1.length
           smelter.storedBlocks := add64 s.smelter.storedBlocks z.2.2 }

section
variable {s : State} {i : Ingot}

theorem compressIngot_plain (h : i.flags &&& flCompressed = 0) : s.compressIngot i = (i, s) := if_pos (beq_iff_eq.2 h)

theorem compressIngot_deflates (h : i.flags &&& flCompressed ≠ 0) {z : List Byte × Counts × Nat}
    (hz : deflate (s.startCounts i) i.payload = z) : s.compressIngot i =
      ({ i with stored := z.1 }, (s.setCarry i.source i.copyOf (some z.2.1)).countDeflate i.payload.length z) := by
  obtain ⟨out, counts, stored⟩ := z
  unfold State.compressIngot State.countDeflate
  rw [if_neg (mt beq_iff_eq.1 h)]
  extract_lets c
  have made : deflate c i.payload = (out, counts, stored) := hz
  rw [made]

/-- The stage replaces the stored bytes alone. -/
theorem compressIngot_stored (s : State) (i : Ingot) : ∃ l, (s.compressIngot i).1 = { i with stored := l } := by
  by_cases h : i.flags &&& flCompressed = 0
  · exact ⟨i.stored, congrArg Prod.fst (compressIngot_plain h)⟩
  · exact ⟨_, congrArg Prod.fst (compressIngot_deflates h rfl)⟩

/-! ## AES and the limit of 64 MiB (R233, R234) -/

/-- Bytes of an ingot behind its stages, its GCM tag among them. -/
def Ingot.outBytes (c : Ingot) : Nat := c.stored.length + (if c.flags &&& flEncrypted = 0 then 0 else 16)

theorem sealIngot_eq (s : State) (i : Ingot) : s.sealIngot i =
    if maxPayload < (s.compressIngot i).1.outBytes then
      (i.gapOf 6 0, ({ (s.compressIngot i).2 with
        smelter.outputFull := inc32 (s.compressIngot i).2.smelter.outputFull } : State).setCarry i.source i.copyOf none)
    else ({ (s.compressIngot i).2.encryptIngot (s.compressIngot i).1 with isSealed := true }, (s.compressIngot i).2) := by
  have pad (c : Ingot) : c.stored.length + (if (c.flags &&& flEncrypted == 0) = true then 0 else 16) = c.outBytes := by
    simp [Ingot.outBytes]
  rw [← pad]
  rfl

theorem encryptIngot_plain (h : i.flags &&& flEncrypted = 0) : s.encryptIngot i = i := if_pos (beq_iff_eq.2 h)

theorem encryptIngot_seals (h : i.flags &&& flEncrypted ≠ 0) {y : List Byte × List Byte}
    (hy : gcmSeal (s.nv.keyOf i.keyId) (s.ivOf i) i.aad i.stored = y) :
    s.encryptIngot i = { i with stored := y.1, tag := y.2 } := by
  unfold State.encryptIngot
  rw [if_neg (mt beq_iff_eq.1 h), hy]

/-- A sealed ingot by its compressed form `c`: as it is, sealed with AES, or a GAP in its place. -/
theorem sealIngot_cases {c : Ingot} (hc : c = (s.compressIngot i).1) :
    (i.flags &&& flEncrypted = 0 → c.stored.length ≤ maxPayload → (s.sealIngot i).1 = { c with isSealed := true }) ∧
    (i.flags &&& flEncrypted ≠ 0 → c.stored.length + 16 ≤ maxPayload →
      ∀ y, gcmSeal (s.nv.keyOf i.keyId) (s.ivOf i) c.aad c.stored = y →
        (s.sealIngot i).1 = { c with stored := y.1, tag := y.2, isSealed := true }) ∧
    (maxPayload < c.stored.length + (if i.flags &&& flEncrypted = 0 then 0 else 16) →
      (s.sealIngot i).1 = i.gapOf 6 0) := by
  have key := (compressIngot_only s i).nv
  obtain ⟨l, stored⟩ := compressIngot_stored s i
  rw [sealIngot_eq, ← hc]
  rw [← hc] at stored
  generalize (s.compressIngot i).2 = u at key ⊢
  have flags : c.flags = i.flags := by rw [stored]
  have keyId : c.keyId = i.keyId := by rw [stored]
  have iv : u.ivOf c = s.ivOf i := by rw [stored, State.ivOf, key]; rfl
  refine ⟨fun plain fits => ?_, fun sealed fits y hy => ?_, fun full => ?_⟩
  · rw [if_neg (by rw [Ingot.outBytes, flags, if_pos plain]; omega), encryptIngot_plain (flags ▸ plain)]
  · rw [← keyId, ← iv, ← key] at hy
    rw [if_neg (by rw [Ingot.outBytes, flags, if_neg sealed]; omega), encryptIngot_seals (flags ▸ sealed) hy]
  · exact congrArg Prod.fst (if_pos (by rwa [Ingot.outBytes, flags]))

theorem sealIngot_waiting (s : State) (i : Ingot) :
    (s.sealIngot i).2.smelter.windowWaiting = s.smelter.windowWaiting := by
  have compressed : (s.compressIngot i).2.smelter.windowWaiting = s.smelter.windowWaiting := by
    by_cases h : i.flags &&& flCompressed = 0
    · rw [compressIngot_plain h]
    · rw [compressIngot_deflates h rfl]
      exact setCarry_windowWaiting ..
  rw [sealIngot_eq]
  split
  · exact (setCarry_windowWaiting ..).trans compressed
  · exact compressed

theorem sealIngot_counts_plain (h : i.flags &&& flCompressed = 0) :
    (s.sealIngot i).2.smelter.bytesIn = s.smelter.bytesIn ∧ (s.sealIngot i).2.smelter.bytesOut = s.smelter.bytesOut := by
  rw [sealIngot_eq, compressIngot_plain h]
  split
  · exact ⟨setCarry_bytesIn .., setCarry_bytesOut ..⟩
  · exact ⟨rfl, rfl⟩

/-- The DEFLATE stage counts what it takes and gives; its symbol counts are carried on, and dropped with an output that is
too large (R230, R233; log 42). -/
theorem sealIngot_counts_deflated (hs : i.source < 48) (h : i.flags &&& flCompressed ≠ 0) {z : List Byte × Counts × Nat}
    (hz : deflate (s.startCounts i) i.payload = z) :
    (s.sealIngot i).2.smelter.bytesIn = add64 s.smelter.bytesIn i.payload.length ∧
    (s.sealIngot i).2.smelter.bytesOut = add64 s.smelter.bytesOut z.1.length ∧
    (s.sealIngot i).2.smelter.storedBlocks = add64 s.smelter.storedBlocks z.2.2 ∧
    (z.1.length + 16 ≤ maxPayload → (s.sealIngot i).2.carried i.source i.copyOf = z.2.1) ∧
    (maxPayload < z.1.length → (s.sealIngot i).2.smelter.outputFull = inc32 s.smelter.outputFull ∧
      (s.sealIngot i).2.carried i.source i.copyOf = countsOfOne) := by
  have pad : (if i.flags &&& flEncrypted = 0 then 0 else 16) ≤ 16 := by split <;> decide
  rw [sealIngot_eq, compressIngot_deflates h hz]
  split
  · next full =>
    have tooLarge (fits : z.1.length + 16 ≤ maxPayload) : False :=
      absurd full (Nat.not_lt.2 (le_trans (Nat.add_le_add_left pad _) fits))
    refine ⟨?_, ?_, ?_, fun fits => (tooLarge fits).elim, fun _ => ⟨?_, carried_setCarry hs i.copyOf none⟩⟩ <;>
      simp [State.countDeflate]
  · next fits =>
    have notLarge : ¬ maxPayload < z.1.length := fun large => fits (lt_of_lt_of_le large (Nat.le_add_right ..))
    simp only [State.countDeflate, setCarry_bytesIn, setCarry_bytesOut, setCarry_storedBlocks, notLarge, false_implies,
      and_true, true_and]
    exact fun _ => carried_setCarry hs i.copyOf (some z.2.1)

/-- The compressed form of an ingot, as the compression stage gives it. -/
theorem compressIngot_of {c : Ingot} (plain : i.flags &&& flCompressed = 0 → c = i)
    (deflates : i.flags &&& flCompressed ≠ 0 → c = { i with stored := (deflate (s.startCounts i) i.payload).1 }) :
    c = (s.compressIngot i).1 := by
  by_cases h : i.flags &&& flCompressed = 0
  · rw [plain h, compressIngot_plain h]
  · rw [deflates h, compressIngot_deflates h rfl]

end

/-! ## SMELTER_SEAL -/

section
variable {s : State} {k : Nat} {i : Ingot}

theorem smelterSeal_stream {q : Nat} (h : s.sealStream k = some (q, i)) : s.smelterSeal k .stream =
    (s.sealIngot i).2.onStream q fun m => { m with waiting := sealFirst k (s.sealIngot i).1 m.waiting } := by
  simp only [State.smelterSeal, h]

theorem smelterSeal_stream_none (h : s.sealStream k = none) : s.smelterSeal k .stream = s := by
  simp only [State.smelterSeal, h]

/-- A window copy sealed in the place where it waits for its segment. -/
def State.sealWindow (s : State) (k : Nat) (i : Ingot) : State :=
  { (s.sealIngot i).2 with
    smelter.windowWaiting := sealFirst k (s.sealIngot i).1 (s.sealIngot i).2.smelter.windowWaiting }

theorem smelterSeal_window (h : s.smelter.windowWaiting.find? (fun i => i.waitsFor k) = some i) :
    s.smelterSeal k .window = (s.sealWindow k i).flushWindows := by
  simp only [State.smelterSeal, h, State.sealWindow]

theorem smelterSeal_window_none (h : s.smelter.windowWaiting.find? (fun i => i.waitsFor k) = none) :
    s.smelterSeal k .window = s := by
  simp only [State.smelterSeal, h]

theorem sealWindow_only (s : State) (k : Nat) (i : Ingot) : Alters [.smelter] s (s.sealWindow k i) :=
  (sealIngot_only s i).trans (m := [.smelter])
    (.set (fun p hp => by cases p <;> first | exact absurd ((Part.mem_bits ..).2 rfl) hp | rfl))

theorem sealWindow_waiting (s : State) (k : Nat) (i : Ingot) :
    (s.sealWindow k i).smelter.windowWaiting = sealFirst k (s.sealIngot i).1 s.smelter.windowWaiting := by
  unfold State.sealWindow
  rw [sealIngot_waiting]

end

/-- Settles O23: `sealIngot` by its two stages, in the stream and in the window; an ingot that becomes a GAP leaves its seam
without carried counts (log 42). -/
theorem ingotsSealed : Obligations.IngotsSealed := by
  unfold Obligations.IngotsSealed
  refine ⟨fun s k q i found => ?stream,
    fun s k none_ => completes_of_ran (congrArg (ran s) (smelterSeal_stream_none none_)), fun s k i found => ?window,
    fun s k none_ => completes_of_ran (congrArg (ran s) (smelterSeal_window_none none_))⟩
  case stream =>
    have source := sealStream_source found
    refine ⟨(s.sealIngot i).2.onStream q fun m => { m with waiting := sealFirst k.val (s.sealIngot i).1 m.waiting },
      (s.sealIngot i).1, completes_of_ran (congrArg (ran s) (smelterSeal_stream found)),
      ((onStream_only ..).next (sealIngot_only s i).mono).only, fun c plain deflates => ?_, ?_,
      sealIngot_counts_plain, fun compressed z hz => ?_⟩
    · rw [← source] at deflates
      exact sealIngot_cases (compressIngot_of plain deflates)
    · simp only [State.onStream, (sealIngot_only s i).streams]
    · rw [← source] at hz
      have counts := sealIngot_counts_deflated (source ▸ k.isLt) compressed hz
      rw [source] at counts
      exact counts
  case window =>
    have source := Ingot.waitsFor_source (List.find?_some found :)
    refine ⟨(s.sealWindow k.val i).flushWindows, s.sealWindow k.val i, (s.sealIngot i).1,
      completes_of_ran (congrArg (ran s) (smelterSeal_window found)), rfl, (sealWindow_only ..).only,
      fun c plain deflates => ?_, sealWindow_waiting ..⟩
    rw [← source] at deflates
    exact sealIngot_cases (compressIngot_of plain deflates)

end Sys2Proof.Machine
end

section
namespace Sys2Proof.Machine

set_option Elab.async false

/-! ## The end of a job (R243, R246) -/

/-- HEAD moves over slots that are completed, and nothing else of the ring changes (Table 7.5). -/
theorem advance_spec (m : Smelter) (fuel : Nat) : ∃ h c, m.advance fuel = { m with head := h, completed := c } := by
  induction fuel generalizing m with
  | zero => exact ⟨_, _, rfl⟩
  | succ n ih =>
    unfold Smelter.advance
    split
    · obtain ⟨h, c, e⟩ := ih { m with
        head := (m.head + 1) % m.ringSize, completed := m.completed.filter (· != m.head) }
      exact ⟨h, c, e⟩
    · exact ⟨_, _, rfl⟩

/-- A job that failed is counted; the other jobs and the settings of PF0 stay. -/
structure JobFailed (s t : State) : Prop where
  queue : t.smelter.queue = s.smelter.queue
  fetching : t.smelter.fetching = s.smelter.fetching
  engines : t.smelter.engines = s.smelter.engines
  counted : t.smelter.jobsFailed = inc32 s.smelter.jobsFailed
  cfg0 : t.hf.cfg0 = s.hf.cfg0

theorem endJob_failed (s : State) (j : Job) (engine : Nat) {r : JobResult} (hr : r.code ≠ 0) :
    JobFailed s (s.endJob j engine r) := by
  unfold State.endJob
  extract_lets ok rec_ u v m1 m2 m3 m4 w
  have failed : ok = false := beq_eq_false_iff_ne.2 hr
  have outSmelter : u.smelter = s.smelter := by
    unfold u
    split
    · rfl
    · exact (hostWrite_only ..).smelter
  have outKept : HostKept s u := .ite (.refl s) (hostWrite_hostKept ..)
  have smelter : v.smelter = s.smelter := (hostWrite_only (u.passSkip 4) _ rec_).smelter.trans outSmelter
  have cfg0 : v.hf.cfg0 = s.hf.cfg0 := (hostWrite_hostKept (u.passSkip 4) _ rec_).cfg0.trans outKept.cfg0
  clear_value v
  obtain ⟨h, c, moved⟩ : ∃ h c, m3 = { m2 with head := h, completed := c } := advance_spec ..
  have counted : w.smelter = { m3 with jobsFailed := inc32 m3.jobsFailed
                                       jobErrors := vmod m3.jobErrors (errorBin r.code) inc32 } :=
    if_neg (Bool.eq_false_iff.1 failed)
  have told (b : Bool) : (if b = true then w.raiseVector .pf0 jobVector else w).smelter = w.smelter ∧
      (if b = true then w.raiseVector .pf0 jobVector else w).hf.cfg0 = v.hf.cfg0 := by
    cases b
    · exact ⟨rfl, rfl⟩
    · exact ⟨(raiseVector_only ..).smelter, (raiseVector_hostKept w .pf0 jobVector).cfg0⟩
  obtain ⟨kept, settings⟩ := told (bitOf j.opt 1)
  have base : m1 = s.smelter := smelter
  constructor
  case cfg0 => exact settings.trans cfg0
  all_goals
    rw [kept, counted, moved]
    simp only [m2, base]

/-- The job of an engine fails, and the engine is free (R243). -/
theorem jobEnds_failed {s : State} (on : s.busOn = true) (k : Fin 16) (j : Job) {r : JobResult} (hr : r.code ≠ 0) :
    (s.jobEnds k.val j r).smelter.engines[k] = none ∧
    (s.jobEnds k.val j r).smelter.jobsFailed = inc32 s.smelter.jobsFailed ∧ (s.jobEnds k.val j r).hf.cfg0 = s.hf.cfg0 := by
  unfold State.jobEnds
  rw [if_pos on]
  have ended := endJob_failed ({ s with
    hf.tags := s.hf.tags.filter fun t => t.descriptor || t.slot != k.val || t.orphaned || t.timedOut
    smelter.engines := vmod s.smelter.engines k.val fun _ => none } : State) j k.val hr
  refine ⟨?_, ended.counted, ended.cfg0⟩
  rw [ended.engines, ← vget_fin _ k none]
  exact vget_vmod_same s.smelter.engines k.val (fun _ => none) none k.isLt

/-! ## Input for an engine (R243, R270, R296) -/

/-- A job placed on an engine. -/
def State.onEngine (s : State) (k : Nat) (j : Job) : State :=
  { s with smelter.engines := vmod s.smelter.engines k fun _ => some j }

theorem onEngine_engine (s : State) (k : Fin 16) (j : Job) : (s.onEngine k.val j).smelter.engines[k] = some j := by
  rw [← vget_fin _ k none]
  exact vget_vmod_same s.smelter.engines k.val (fun _ => some j) none k.isLt

theorem onEngine_only (s : State) (k : Nat) (j : Job) : Alters [.smelter] s (s.onEngine k j) :=
  .set fun p hp => by cases p <;> first | rfl | exact absurd ((Part.mem_bits ..).2 rfl) hp

/-- The next read of an engine's input is asked for where the last one ended. -/
theorem readInput_asks (s : State) (tag : Nat) (k : Fin 16) (j : Job) :
    (s.readInput tag k.val j).smelter.engines[k] = some { j with asked := j.asked + s.readBytes j } ∧
    Sent.hostRead tag (j.inAddr + j.asked) (s.readBytes j) ∈ (s.readInput tag k.val j).sent := by
  refine ⟨?_, List.mem_cons_self⟩
  have smelter : (s.readInput tag k.val j).smelter = _ :=
    (issueRead_only (s.onEngine k.val { j with asked := j.asked + s.readBytes j }) tag false k.val _ _).smelter
  rw [smelter]
  exact onEngine_engine s k _

/-- A job with more of its input. -/
def Job.fed (j : Job) (d : List Byte) : Job := { j with input := j.input ++ d }

section
variable {s : State} {k : Fin 16} {j : Job} (job : s.smelter.engines[k] = some j)
include job

/-- More is asked for where there is more, a tag and the bus. -/
theorem inputArrives_some (d : List Byte) :
    (∃ f, s.freeTag = some f ∧ j.asked < j.inLen ∧ s.busOn = true ∧
      s.inputArrives k.val (some d) = (s.onEngine k.val (j.fed d)).readInput f k.val (j.fed d)) ∨
    ((∀ f, s.freeTag = some f → ¬ (j.asked < j.inLen ∧ s.busOn = true)) ∧
      s.inputArrives k.val (some d) = s.onEngine k.val (j.fed d)) := by
  unfold State.inputArrives
  rw [vget_fin, job]
  dsimp only
  by_cases more : j.asked < j.inLen ∧ s.busOn = true
  · split
    · next f free =>
      exact .inl ⟨f, free, more.1, more.2, if_pos (Bool.and_eq_true_iff.2 ⟨decide_eq_true more.1, more.2⟩)⟩
    · next none_ => exact .inr ⟨fun f free => (nomatch none_.symm.trans free), rfl⟩
  · refine .inr ⟨fun _ _ => more, ?_⟩
    split
    · exact if_neg fun c => more ((Bool.and_eq_true_iff.1 c).imp_left of_decide_eq_true)
    · rfl

theorem inputArrives_feeds (d : List Byte) : ∃ j', (s.inputArrives k.val (some d)).smelter.engines[k] = some j' ∧
    j'.input = j.input ++ d ∧ (j.inLen ≤ j.asked → j'.asked = j.asked) ∧
    (j.asked < j.inLen → s.busOn = true → ∀ f, s.freeTag = some f → j'.asked = j.asked + s.readBytes j ∧
      Sent.hostRead f (j.inAddr + j.asked) (s.readBytes j) ∈ (s.inputArrives k.val (some d)).sent) := by
  obtain ⟨f, free, more, on, asks⟩ | ⟨idle, waits⟩ := inputArrives_some job d
  · obtain ⟨engine, sent⟩ := readInput_asks (s.onEngine k.val (j.fed d)) f k (j.fed d)
    rw [asks]
    refine ⟨_, engine, rfl, fun all => absurd more (Nat.not_lt.2 all), fun _ _ f' free' => ⟨rfl, ?_⟩⟩
    obtain rfl := Option.some.inj (free.symm.trans free')
    exact sent
  · rw [waits]
    exact ⟨_, onEngine_engine .., rfl, fun _ => rfl, fun more on f free => absurd ⟨more, on⟩ (idle f free)⟩

theorem inputArrives_some_only (d : List Byte) :
    Alters [.power, .grizzly, .smelter, .hf, .sent] s (s.inputArrives k.val (some d)) := by
  have fed := onEngine_only s k.val (j.fed d)
  obtain ⟨f, -, -, -, asks⟩ | ⟨-, waits⟩ := inputArrives_some job d
  · exact asks ▸ (readInput_only ..).next fed.mono
  · exact waits ▸ fed.mono

/-- A read that failed ends the job with READ_FAILED. -/
theorem inputArrives_none : s.inputArrives k.val none =
    s.jobEnds k.val j { code := jeReadFailed, out := [], used := 0 } := by
  unfold State.inputArrives
  rw [vget_fin, job]

end

/-! ## Descriptors (R240, R242) -/

/-- A descriptor that arrives leaves the list of those being fetched, and is queued where it is good. -/
theorem takeDescriptor_queues (s : State) (slot : Nat) (d : List Byte) :
    (s.takeDescriptor slot (some d)).smelter.queue =
      (if jobOk d = true then s.smelter.queue ++ [jobOf slot d] else s.smelter.queue) ∧
    (s.takeDescriptor slot (some d)).smelter.fetching = s.smelter.fetching.filter (· ≠ slot) := by
  have others : s.smelter.fetching.filter (· != slot) = s.smelter.fetching.filter (· ≠ slot) :=
    List.filter_congr fun x _ => by simp [bne, beq_eq_decide]
  unfold State.takeDescriptor
  dsimp only
  split
  · exact ⟨rfl, others⟩
  · have ended := endJob_failed ({ s with smelter.fetching := s.smelter.fetching.filter (· != slot) } : State)
      (jobOf slot d) 0xFF (r := { code := jeBadDescriptor, out := [], used := 0 }) (by decide)
    exact ⟨ended.queue, ended.fetching.trans others⟩

theorem takeDescriptor_none_only (s : State) (slot : Nat) : Alters [.smelter] s (s.takeDescriptor slot none) :=
  .set fun p hp => by cases p <;> first | rfl | exact absurd ((Part.mem_bits ..).2 rfl) hp

/-! ## Errors through AER (R300) -/

/-- An error of PF0 sets its status bit; of the Headframe nothing but the configuration of PF0 changes. -/
theorem aerError_pf0 (s : State) (e : AerError) (advisory : Bool) : ∃ c,
    (s.aerError .pf0 e advisory).hf = { s.hf with cfg0 := c } ∧ c.aerUnc = s.hf.cfg0.aerUnc ||| 2 ^ aerBit e := by
  unfold State.aerError
  cases s.aerMessage .pf0 e advisory <;> exact ⟨_, rfl, rfl⟩

/-- A poisoned completion is reported. -/
def State.statusError (s : State) (st : CplStatus) : State :=
  if st = .poisoned then s.aerError .pf0 .poisonedTlp else s

theorem statusError_pf0 (s : State) (st : CplStatus) : ∃ c, (s.statusError st).hf = { s.hf with cfg0 := c } ∧
    c.aerUnc = if st = .poisoned then s.hf.cfg0.aerUnc ||| 2 ^ 12 else s.hf.cfg0.aerUnc := by
  unfold State.statusError
  split
  · exact aerError_pf0 ..
  · exact ⟨_, rfl, rfl⟩

theorem statusError_only (s : State) (st : CplStatus) : Alters [.hf, .sent] s (s.statusError st) :=
  .ite (aerError_only ..).mono (.refl ..)

/-- Whether PF0 may issue requests depends neither on its configuration space nor on the tags. -/
theorem busOn_of_hf {s t : State} {tags : List Tag} {c : FnConfig} (h : t.hf = { s.hf with tags := tags, cfg0 := c }) :
    t.busOn = s.busOn := by
  unfold State.busOn
  rw [h]

/-! ## COMPLETION_RECEIVE (R297, R299) -/

theorem completion_unexpected {s : State} {tag : Nat} (h : ∀ x ∈ s.hf.tags, x.tag ≠ tag) (st : CplStatus)
    (d : List Byte) : s.completion tag st d = s.aerError .pf0 .unexpectedCompletion true := by
  have none_ : s.hf.tags.find? (fun x => x.tag == tag) = none :=
    List.find?_eq_none.2 fun x hx e => h x hx (eq_of_beq e)
  unfold State.completion
  rw [none_]

section
variable {s : State} {tag : Nat} {g : Tag} (found : s.hf.tags.find? (fun x => x.tag == tag) = some g)
include found

theorem completion_orphaned (orphaned : g.orphaned = true) (st : CplStatus) (d : List Byte) :
    s.completion tag st d = { s.dropTag tag with hf.orphaned := s.hf.orphaned.inc } := by
  unfold State.completion
  rw [found]
  exact if_pos orphaned

theorem completion_late (kept : g.orphaned = false) (late : g.timedOut = true) (st : CplStatus) (d : List Byte) :
    s.completion tag st d = { s.dropTag tag with hf.late := s.hf.late.inc } := by
  unfold State.completion
  rw [found]
  exact (if_neg (Bool.eq_false_iff.1 kept)).trans (if_pos late)

variable (kept : g.orphaned = false) (inTime : g.timedOut = false)
include kept inTime

theorem completion_ok (d : List Byte) : s.completion tag .ok d = (s.dropTag tag).requestEnds g (some d) := by
  unfold State.completion
  rw [found]
  exact (if_neg (Bool.eq_false_iff.1 kept)).trans (if_neg (Bool.eq_false_iff.1 inTime))

theorem completion_failed {st : CplStatus} (h : st ≠ .ok) (d : List Byte) :
    s.completion tag st d = ((s.dropTag tag).statusError st).requestEnds g none := by
  unfold State.completion
  rw [found]
  refine ((if_neg (Bool.eq_false_iff.1 kept)).trans (if_neg (Bool.eq_false_iff.1 inTime))).trans ?_
  cases st with
  | ok => exact absurd rfl h
  | error => rfl
  | poisoned => rfl

end

/-! ## A request that fails (R240, R243) -/

theorem requestEnds_descriptor (s : State) {g : Tag} (h : g.descriptor = true) (data : Option (List Byte)) :
    s.requestEnds g data = s.takeDescriptor g.slot data := if_pos h

theorem requestEnds_input (s : State) {g : Tag} (h : g.descriptor = false) (data : Option (List Byte)) :
    s.requestEnds g data = s.inputArrives g.slot data := if_neg (Bool.eq_false_iff.1 h)

/-- Without its input the job of an engine fails. -/
theorem requestEnds_fails {s : State} {g : Tag} {k : Fin 16} {j : Job} (h : g.descriptor = false) (slot : g.slot = k.val)
    (job : s.smelter.engines[k] = some j) (on : s.busOn = true) :
    (s.requestEnds g none).smelter.engines[k] = none ∧
    (s.requestEnds g none).smelter.jobsFailed = inc32 s.smelter.jobsFailed ∧
    (s.requestEnds g none).hf.cfg0 = s.hf.cfg0 := by
  rw [requestEnds_input s h, slot, inputArrives_none job]
  exact jobEnds_failed on k j (by decide)

/-! ## COMPLETION_TIMEOUT (R296, R297) -/

/-- The request of a tag has timed out, and AER shows it. -/
def State.timesOut (s : State) (tag : Nat) : State := (s.markTimedOut tag).aerError .pf0 .completionTimeout

theorem timesOut_hf (s : State) (tag : Nat) : ∃ c,
    (s.timesOut tag).hf = { s.hf with
      tags := s.hf.tags.map fun x => if x.tag = tag then { x with timedOut := true } else x
      cfg0 := c } ∧ c.aerUnc = s.hf.cfg0.aerUnc ||| 2 ^ 14 := by
  obtain ⟨c, hf, unc⟩ := aerError_pf0 (s.markTimedOut tag) .completionTimeout false
  refine ⟨c, hf.trans ?_, unc⟩
  simp [State.markTimedOut]

theorem timesOut_smelter (s : State) (tag : Nat) : (s.timesOut tag).smelter = s.smelter :=
  State.aerError_smelter (s.markTimedOut tag) .pf0 .completionTimeout false

theorem completionTimeout_found {s : State} {tag : Nat} {g : Tag}
    (found : s.hf.tags.find? (fun x => x.tag == tag && !x.orphaned && !x.timedOut) = some g) :
    execCompletionTimeout tag s = ran s ((s.timesOut tag).requestEnds g none) := by
  unfold execCompletionTimeout
  rw [found]
  rfl

theorem completionTimeout_none {s : State} {tag : Nat}
    (h : ∀ x ∈ s.hf.tags, x.tag = tag → x.orphaned = true ∨ x.timedOut = true) :
    execCompletionTimeout tag s = ran s s := by
  have none_ : s.hf.tags.find? (fun x => x.tag == tag && !x.orphaned && !x.timedOut) = none := by
    refine List.find?_eq_none.2 fun x hx e => ?_
    simp only [Bool.and_eq_true, beq_iff_eq, Bool.not_eq_true'] at e
    obtain ⟨⟨same, kept⟩, inTime⟩ := e
    rcases h x hx same with orphaned | late
    · exact Bool.false_ne_true (kept.symm.trans orphaned)
    · exact Bool.false_ne_true (inTime.symm.trans late)
  unfold execCompletionTimeout
  rw [none_]

/-- Settles O31: each completion by the request that its tag stands for; the layout of the AER registers is that of log 61,
one read of an input at a time that of log 25. -/
theorem completions : Obligations.Completions := by
  unfold Obligations.Completions
  refine ⟨fun s tag st d unused => ?unexpected,
    fun s tag st d g found => ⟨
      fun orphaned => completes_of_ran (congrArg (ran s) (completion_orphaned found orphaned st d)),
      fun kept late => completes_of_ran (congrArg (ran s) (completion_late found kept late st d)),
      fun kept inTime input k j slot job => ⟨?arrives, fun failed on => ?readFails⟩,
      ?descriptor, fun kept inTime descriptor failed => ?halts⟩,
    fun s tag g found => ⟨fun descriptor => ?timeoutHalts, fun input k j slot job on => ?timeoutFails⟩,
    fun s tag h => completes_of_ran (completionTimeout_none h), fun s tag => completes_of_ran rfl⟩
  case unexpected =>
    obtain ⟨c, hf, unc⟩ := aerError_pf0 s .unexpectedCompletion true
    refine ⟨_, completes_of_ran (congrArg (ran s) (completion_unexpected unused st d)), (aerError_only ..).mono.only,
      ?_, ?_⟩ <;> rw [hf]
    exact unc
  case arrives =>
    rintro rfl
    have ends : s.completion tag .ok d = (s.dropTag tag).inputArrives k.val (some d) :=
      (completion_ok found kept inTime d).trans ((requestEnds_input _ input _).trans (by rw [slot]))
    obtain ⟨j', engine, fed, whole, asks⟩ := inputArrives_feeds (s := s.dropTag tag) job d
    exact ⟨_, j', completes_of_ran (congrArg (ran s) ends),
      ((inputArrives_some_only (s := s.dropTag tag) job d).next (dropTag_only s tag).mono).only, engine, fed, whole, asks⟩
  case readFails =>
    obtain ⟨c, hf, -⟩ := statusError_pf0 (s.dropTag tag) st
    have smelter := (statusError_only (s.dropTag tag) st).smelter
    obtain ⟨engine, counted, -⟩ := requestEnds_fails (s := (s.dropTag tag).statusError st) input slot
      (by rw [smelter]; exact job) ((busOn_of_hf hf).trans on)
    exact ⟨_, completes_of_ran (congrArg (ran s) (completion_failed found kept inTime failed d)), engine,
      counted.trans (by rw [smelter]; rfl)⟩
  case descriptor =>
    rintro kept inTime descriptor rfl
    obtain ⟨queue, fetching⟩ := takeDescriptor_queues (s.dropTag tag) g.slot d
    exact ⟨_, completes_of_ran (congrArg (ran s) ((completion_ok found kept inTime d).trans
      (requestEnds_descriptor _ descriptor _))), queue, fetching⟩
  case halts =>
    obtain ⟨c, hf, unc⟩ := statusError_pf0 (s.dropTag tag) st
    refine ⟨_, completes_of_ran (congrArg (ran s) ((completion_failed found kept inTime failed d).trans
      (requestEnds_descriptor _ descriptor _))), ((takeDescriptor_none_only ..).next
        ((statusError_only ..).next (dropTag_only s tag).mono)).only, rfl, rfl, ?_⟩
    rw [(takeDescriptor_none_only ..).hf, hf]
    exact unc
  case timeoutHalts =>
    obtain ⟨c, hf, unc⟩ := timesOut_hf s tag
    refine ⟨_, completes_of_ran ((completionTimeout_found found).trans (congrArg (ran s)
      (requestEnds_descriptor _ descriptor _))), ?_, rfl, rfl, ?_⟩ <;> rw [(takeDescriptor_none_only ..).hf, hf]
    exact unc
  case timeoutFails =>
    obtain ⟨c, hf, unc⟩ := timesOut_hf s tag
    have smelter := timesOut_smelter s tag
    obtain ⟨engine, counted, cfg0⟩ := requestEnds_fails input slot (by rw [smelter]; exact job)
      ((busOn_of_hf hf).trans on)
    refine ⟨_, completes_of_ran (completionTimeout_found found), ?_, engine, counted.trans (by rw [smelter])⟩
    rw [cfg0, hf]
    exact unc

end Sys2Proof.Machine
end

section
namespace Sys2Proof.Machine

set_option Elab.async false

/-! ## A descriptor that fails the checks of R242 -/

/-- A descriptor read of slot 0 is outstanding. -/
def descriptorDue : State :=
  { hf.tags := [{ tag := 0, descriptor := true, slot := 0, orphaned := false, timedOut := false }] }

/-- The completion record that names BAD_DESCRIPTOR, 0x10, as its ERROR, and no engine (Tables 7.7, 7.8). -/
def badDescriptorRecord : List Byte := [2, 0x10, 0xFF, 0] ++ List.replicate 12 0

/-- What an empty descriptor leaves behind. -/
def descriptorRefused : State :=
  (descriptorDue.dropTag 0).endJob (jobOf 0 []) 0xFF { code := jeBadDescriptor, out := [], used := 0 }

theorem descriptorRefused_sent : descriptorRefused.sent = [.hostWrite none 0x30 badDescriptorRecord] := by decide

/-- Refutes O30: the record of a descriptor that fails R242 carries ERROR 0x10, BAD_DESCRIPTOR of Table 7.8, where the
statement has 0x01, BAD_CODE. -/
theorem not_jobs : ¬ Obligations.Jobs := by
  unfold Obligations.Jobs
  rintro ⟨⟨-, -, -, -, -, -, -, -, -, received⟩, -⟩
  obtain ⟨-, -, bad⟩ := received descriptorDue _ rfl
  obtain ⟨t, done, -, -, -, wrote⟩ := bad [] (by decide)
  have ends : (.next descriptorRefused : Host.Outcome State Fault Refusal) = .next { t with pending := [] } := done
  have sent : descriptorRefused.sent = t.sent := (congrArg State.sent (Host.Outcome.next.inj ends) :)
  have record := wrote (0x30, [2, 1, 0xFF, 0] ++ List.replicate 12 0) (by decide)
  rw [← sent, descriptorRefused_sent] at record
  exact absurd record (by decide)

end Sys2Proof.Machine
end

section
namespace Sys2Proof.Machine

set_option Elab.async false

/-! ## Assay: what finishing a result leaves as it was (R251, R261, R262, R265) -/

/-- An operation that leaves the slots leaves each. -/
theorem Alters.slot {p : List Part} {s t : State} (h : Alters p s t) (k : Nat) (hp : Part.slots ∉ p := by decide) :
    t.slot k = s.slot k := by
  unfold State.slot
  rw [h.slots hp]

/-- The results of a slot with their numbering: those that wait, NEXT_SEQ and RESULTS (R265, R266, R269). -/
def Slot.account (m : Slot) : List AssayDue × Nat × Nat := (m.closed, m.nextSeq, m.results)

theorem onSlot_account {s : State} {k : Nat} {f : Slot → Slot} (hk : k < 32) (hf : ∀ m, (f m).account = m.account) :
    ((s.onSlot k f).slot k).account = (s.slot k).account := by
  rw [State.slot_onSlot_same _ _ _ hk, hf]

theorem ite_account {s t u : State} {k : Nat} {c : Prop} [Decidable c] (ht : (t.slot k).account = (s.slot k).account)
    (hu : (u.slot k).account = (s.slot k).account) :
    ((if c then t else u).slot k).account = (s.slot k).account := by
  split <;> assumption

section
variable {k : Nat} (hk : k < 32)
include hk

theorem noteStuck_account (s : State) (mask : Nat) : ((s.noteStuck k mask).slot k).account = (s.slot k).account := by
  unfold State.noteStuck
  dsimp only
  split
  · exact onSlot_account hk fun _ => rfl
  · refine List.foldlRecOn (motive := fun t : State => (t.slot k).account = (s.slot k).account) _ _
      (onSlot_account hk fun _ => rfl) fun t ht i _ => ?_
    split
    · refine (congrArg Slot.account ((event_only ..).slot k)).trans (Eq.trans ?_ ht)
      exact onSlot_account hk fun _ => rfl
    · exact ht

theorem mismatch_account (s : State) (found golden : Nat) :
    ((s.mismatch k found golden).slot k).account = (s.slot k).account :=
  (congrArg Slot.account ((notice_only ..).slot k)).trans (onSlot_account hk fun _ => rfl)

/-- The body of a result is formed beside the numbering of its slot. -/
theorem finishResult_account (s : State) (r : AssayDue) :
    ((s.finishResult k r).2.slot k).account = (s.slot k).account := by
  unfold State.finishResult
  split
  · rfl
  · dsimp only
    have body (golden : Nat) : ((s.assayBody k r golden).2.slot k).account = (s.slot k).account :=
      congrArg Slot.account ((assayBody_only ..).slot k)
    have judged {c : Prop} [Decidable c] (golden found : Nat) := ite_account (c := c)
      ((mismatch_account hk (s.assayBody k r golden).2 found golden).trans (body golden)) (body golden)
    exact ite_account ((noteStuck_account hk ..).trans (judged ..)) (judged ..)

end

/-- Finishing gives a result its payload and flags; every other field of its header stays (R263, R264). -/
theorem finishResult_ingot (s : State) (k : Nat) (r : AssayDue) : ∃ payload stored flags,
    (s.finishResult k r).1.ingot = { r.ingot with payload, stored, flags } := by
  unfold State.finishResult
  split
  · exact ⟨_, _, _, rfl⟩
  · exact ⟨_, _, _, rfl⟩

theorem finishResult_done (s : State) (k : Nat) {r : AssayDue} (h : r.done = true) : s.finishResult k r = (r, s) :=
  if_pos h

/-! ## Scopes (R253, R263, R265) -/

/-- The header that the result of a scope from `c` to sample `b − 1` takes (R263, R265). -/
structure ResultOf (s : State) (k : Nat) (c : Coord) (b : Nat) (i : Ingot) : Prop where
  type : i.type = 6
  source : i.source = 0x80 + k
  seq : i.seq = (s.slot k).nextSeq
  sidx : i.sidx = c.sidx
  rastpos : i.rastpos = c.rastpos
  time96 : i.time96 = c.time96
  span : i.span = b - c.sidx
  epoch : i.epoch = s.epochNo
  aux : i.aux = s.slotCfg k 1

/-- A slot whose scope has ended (R253). -/
def Slot.endScope (m : Slot) : Slot :=
  { m with start := none, cutStart := false, midLine := false, runs := [], left := [], words := [] }

/-- A slot that has given its next number to a result (R265, R269). -/
def Slot.number (m : Slot) : Slot := { m with nextSeq := m.nextSeq + 1, results := inc64 m.results }

/-- A result made final at its close, unless it waits for what lies past it (R257, R258, R260). -/
def State.finishAtClose (s : State) (k : Nat) (r : AssayDue) : AssayDue × State :=
  if s.looksAhead k r then (r, s) else s.finishResult k r

theorem ResultOf.finishAtClose {s t : State} {k b : Nat} {c : Coord} {r : AssayDue} (h : ResultOf s k c b r.ingot) :
    ResultOf s k c b (t.finishAtClose k r).1.ingot := by
  unfold State.finishAtClose
  split
  · exact h
  · obtain ⟨_, _, _, e⟩ := finishResult_ingot t k r
    rw [e]
    exact { h with }

/-- A result numbered and put behind the others of its slot (R265). -/
def State.addResult (s : State) (k : Nat) (r : AssayDue) : State :=
  let x := (s.onSlot k Slot.number).finishAtClose k r
  x.2.onSlot k fun m => { m with closed := m.closed ++ [x.1] }

/-- A scope that holds a sample and, in LINE scope, a line of the range closes with a result (R253, R254). -/
theorem closeScope_adds {s : State} {k b : Nat} {c : Coord} (open_ : (s.slot k).start = some c) (past : c.sidx < b)
    (inRange : s.slotCfg k 2 ≠ scLine ∨ s.lineInRange k (unpackPos c.rastpos).line = true) (cutEnd : Bool) :
    ∃ r : AssayDue, ResultOf s k c b r.ingot ∧
      s.closeScope k b cutEnd = (s.onSlot k Slot.endScope).addResult k r := by
  have kept : ¬ ((decide (b ≤ c.sidx) ||
      (s.slotCfg k 2 == scLine && !s.lineInRange k (unpackPos c.rastpos).line)) = true) := by
    rcases inRange with h | h <;> simp [h, past]
  unfold State.closeScope
  dsimp only
  rw [open_]
  exact ⟨_, ⟨rfl, rfl, rfl, rfl, rfl, rfl, rfl, rfl, rfl⟩, if_neg kept⟩

section
variable {k : Nat} (hk : k < 32)
include hk

theorem finishAtClose_account (s : State) (r : AssayDue) :
    ((s.finishAtClose k r).2.slot k).account = (s.slot k).account := by
  unfold State.finishAtClose
  split
  · rfl
  · exact finishResult_account hk s r

theorem addResult_account (s : State) (r : AssayDue) : ((s.addResult k r).slot k).account =
    ((s.slot k).closed ++ [((s.onSlot k Slot.number).finishAtClose k r).1], (s.slot k).nextSeq + 1,
      inc64 (s.slot k).results) := by
  have before := finishAtClose_account hk (s.onSlot k Slot.number) r
  rw [State.slot_onSlot_same _ _ _ hk] at before
  unfold State.addResult
  rw [State.slot_onSlot_same _ _ _ hk]
  exact congrArg (fun x : List AssayDue × Nat × Nat => (x.1 ++ [_], x.2)) before

/-- A scope that closes leaves one result more, under the slot's next number (R265). -/
theorem closeScope_account {s : State} {b : Nat} {c : Coord} (open_ : (s.slot k).start = some c)
    (past : c.sidx < b) (inRange : s.slotCfg k 2 ≠ scLine ∨ s.lineInRange k (unpackPos c.rastpos).line = true)
    (cutEnd : Bool) : ∃ r : AssayDue, ResultOf s k c b r.ingot ∧ ((s.closeScope k b cutEnd).slot k).account =
      ((s.slot k).closed ++ [r], (s.slot k).nextSeq + 1, inc64 (s.slot k).results) := by
  obtain ⟨r, header, adds⟩ := closeScope_adds open_ past inRange cutEnd
  refine ⟨_, header.finishAtClose (t := (s.onSlot k Slot.endScope).onSlot k Slot.number), ?_⟩
  rw [adds, addResult_account hk, State.slot_onSlot_same _ _ _ hk]
  rfl

end

theorem openScope_account {k : Nat} (hk : k < 32) (s : State) (cut : Bool) :
    ((s.openScope k cut).slot k).account = (s.slot k).account := onSlot_account hk fun _ => rfl

theorem assayBoundary_off {s : State} {k : Nat} (off : s.kindNow k = akOff) :
    s.assayBoundary k = s.onSlot k fun m => { m with start := none, runs := [], left := [], words := [] } := if_pos off

section
variable {s : State} {k : Nat} (on : s.kindNow k ≠ akOff)
include on

theorem assayBoundary_goesOn {c : Coord} (open_ : (s.slot k).start = some c) (inside : s.scopeEnd k c.sidx = none) :
    s.assayBoundary k = s := by
  unfold State.assayBoundary
  simp only [if_neg on, open_, inside]
  rfl

theorem assayBoundary_starts (closed : (s.slot k).start = none) (starts : s.scopeStarts k = true) :
    s.assayBoundary k = s.openScope k false := by
  unfold State.assayBoundary
  simp only [if_neg on, closed, starts]
  rfl

/-- Where a scope ends it closes; the next one, if it opens, leaves the results of the slot. -/
theorem assayBoundary_closes {c : Coord} {b : Nat} (hk : k < 32) (open_ : (s.slot k).start = some c)
    (ends : s.scopeEnd k c.sidx = some b) :
    ((s.assayBoundary k).slot k).account = ((s.closeScope k b false).slot k).account := by
  unfold State.assayBoundary
  simp only [if_neg on, open_, ends]
  split
  · exact openScope_account hk ..
  · rfl

end

/-! ## Into the class-B queue (R265 to R267) -/

theorem enqueueResult_empty {s : State} {k : Nat} (empty : (s.slot k).closed = []) : s.enqueueResult k = s := by
  unfold State.enqueueResult
  rw [empty]

section
variable {s : State} {k : Nat} {r : AssayDue} {l : List AssayDue} (head : (s.slot k).closed = r :: l)
include head

theorem enqueueResult_later (later : s.earlierResult k r = true) : s.enqueueResult k = s := by
  unfold State.enqueueResult
  rw [head]
  exact if_pos (by simp [later])

theorem enqueueResult_next (done : r.done = true) (passes : s.doorWaits r.ingot = false)
    (first : s.earlierResult k r = false) :
    s.enqueueResult k = (s.onSlot k fun m => { m with closed := l }).deliverResult r := by
  unfold State.enqueueResult
  simp only [head, finishResult_done s k done, done, first, passes]
  rfl

end

section
variable {s : State} {r : AssayDue}

theorem deliverResult_shadow (shadow : s.isShadow = true) : s.deliverResult r = s := if_pos shadow

theorem deliverResult_noRing (active : s.isShadow = false) (noRing : s.cfg 0x2C00 1 = 0xFF) :
    s.deliverResult r = { s with grizzly.classBDropped := inc32 s.grizzly.classBDropped } :=
  (if_neg (by simp [active])).trans (if_pos (by simp [noRing]))

theorem deliverResult_queued (active : s.isShadow = false) (ring : s.cfg 0x2C00 1 ≠ 0xFF)
    (room : s.classBUsed + r.ingot.size ≤ 268435456) : s.deliverResult r =
      { s with
        grizzly.classB := s.grizzly.classB ++ [.assay { r.ingot with flags := r.ingot.flags ||| s.splitFlag r.ingot }]
        grizzly.classBRun := false } :=
  ((if_neg (by simp [active])).trans (if_neg (by simp [ring]))).trans (if_pos room)

end

/-- Settles O32: a boundary is one scope closed, opened or gone on with, whose finishing leaves the slot's numbering;
a result that nothing precedes is delivered as `deliverResult` decides. -/
theorem assayResults : Obligations.AssayResults := by
  unfold Obligations.AssayResults
  refine ⟨fun s k off => completes_of_ran (congrArg (ran s) (assayBoundary_off off)),
    fun s k c b on open_ ends past inRange => ?closes, fun s k on closed starts => ?opens,
    fun s k c on open_ inside => completes_of_ran (congrArg (ran s) (assayBoundary_goesOn on open_ inside)),
    fun s k empty => completes_of_ran (congrArg (ran s) (enqueueResult_empty empty)),
    fun s k r l head done passes => ⟨fun later => ?waits, fun first shadow => ?shadow, fun first active noRing => ?dropped,
      fun first active ring room => ?queued⟩⟩
  case closes =>
    obtain ⟨r, h, account⟩ := closeScope_account k.isLt open_ past inRange false
    rw [← assayBoundary_closes on k.isLt open_ ends] at account
    simp only [Slot.account, Prod.mk.injEq] at account
    obtain ⟨closed, seq, results⟩ := account
    exact ⟨_, r, completes_of_ran rfl, (assayBoundary_only ..).only, closed, h.type, h.source, h.seq, h.sidx, h.rastpos,
      h.time96, h.span, h.epoch, h.aux, seq, results⟩
  case opens =>
    refine ⟨_, completes_of_ran (congrArg (ran s) (assayBoundary_starts on closed starts)),
      (openScope_only ..).only, ?_, ?_⟩
    · exact congrArg Slot.start (State.slot_onSlot_same _ _ _ k.isLt)
    · exact congrArg Prod.fst (openScope_account k.isLt s false)
  case waits => exact completes_of_ran (congrArg (ran s) (enqueueResult_later head later))
  case shadow =>
    exact completes_of_ran (congrArg (ran s) ((enqueueResult_next head done passes first).trans
      (deliverResult_shadow shadow)))
  case dropped =>
    exact completes_of_ran (congrArg (ran s) ((enqueueResult_next head done passes first).trans
      (deliverResult_noRing active noRing)))
  case queued =>
    have delivered := (enqueueResult_next head done passes first).trans (deliverResult_queued active ring room)
    refine ⟨_, _, completes_of_ran (congrArg (ran s) delivered), ?_, ?_, rfl, rfl, rfl, rfl⟩
    · exact ⟨fun p hp => by cases p <;> first | rfl | exact absurd ((Part.mem_bits ..).2 rfl) hp⟩
    · exact congrArg Slot.closed (State.slot_onSlot_same _ _ _ k.isLt)

end Sys2Proof.Machine
end

section
namespace Sys2Proof.Machine

set_option Elab.async false

/-! ## Cages reset from the host's side (R347) -/

section
variable (s : State)

/-- Bells raised to a side of the Foreman make no vector due. -/
theorem raiseBells_foreman {side : CageSide} (quiet : ∀ u : State, u.cageVector side = u) (mask : Word) :
    Alters [.regs] s (s.raiseBells side mask) := by
  unfold State.raiseBells
  dsimp only
  rw [quiet]
  exact .ite (.refl ..) (.ite (onCage_only ..) (onCage_only ..))

/-- A host side of a channel has a side of the Foreman as its peer. -/
theorem resetCage_hostSide {side : CageSide} (quiet : ∀ u : State, u.cageVector (peerSide side) = u) :
    Alters [.regs] s (s.resetCage side) :=
  (raiseBells_foreman _ quiet 4).next ((onCage_only ..).next (onCage_only ..))

theorem resetCages_hostSides {l : List CageSide} (quiet : ∀ side ∈ l, ∀ u : State, u.cageVector (peerSide side) = u) :
    Alters [.regs] s (s.resetCages l) := by
  unfold State.resetCages
  induction l generalizing s with
  | nil => exact .refl ..
  | cons side l ih =>
    obtain ⟨first, rest⟩ := List.forall_mem_cons.1 quiet
    exact (ih _ rest).next (resetCage_hostSide s first)

theorem resetCages_pf0Sides : Alters [.regs] s (s.resetCages pf0Sides) := by
  refine resetCages_hostSides s fun side h u => ?_
  obtain ⟨c, -, rfl⟩ := List.mem_map.1 h
  rfl

theorem resetCages_pf1Sides : Alters [.regs] s (s.resetCages pf1Sides) := by
  refine resetCages_hostSides s fun side h u => ?_
  obtain ⟨c, -, rfl⟩ := List.mem_map.1 h
  rfl

end

/-! ## Ingots under a reset of the rings (R286, Table 9.8) -/

/-- The ingots of a stream, those it waits for, and whether it is armed. -/
def Stream.holdings (m : Stream) := (m.backlog, m.written, m.waiting, m.nextSeq, m.armed)

/-- Every stream has the same ingots. -/
def SameIngots (s t : State) : Prop := ∀ q : Fin 64, t.streams[q].holdings = s.streams[q].holdings

theorem SameIngots.of_streams {s t : State} (h : t.streams = s.streams) : SameIngots s t :=
  fun q => congrArg (fun v : Vector Stream 64 => v[q].holdings) h

theorem SameIngots.trans {s t u : State} (h : SameIngots s t) (k : SameIngots t u) : SameIngots s u :=
  fun q => (k q).trans (h q)

theorem KeepsIngots.next {s t u : State} (h : KeepsIngots s t) (k : SameIngots t u) : KeepsIngots s u := fun q => by
  obtain ⟨backlog, written, waiting, nextSeq, armed⟩ := h q
  have same := k q
  simp only [Stream.holdings, Prod.mk.injEq] at same
  obtain ⟨backlog', written', waiting', nextSeq', armed'⟩ := same
  exact ⟨backlog'.trans backlog, written'.trans written, waiting'.trans waiting, nextSeq'.trans nextSeq,
    armed'.trans armed⟩

theorem KeepsIngots.after {s t u : State} (h : t.streams = s.streams) (k : KeepsIngots t u) : KeepsIngots s u := by
  unfold KeepsIngots at k ⊢
  rwa [h] at k

theorem hold_sameIngots (s : State) (q : Nat) : SameIngots s (s.hold q) := by
  have marked : SameIngots s (s.onStream q fun m => { m with held := true }) := fun p => by
    rw [← vget_fin _ p {}, ← vget_fin s.streams p {}]
    by_cases h : p.val = q
    · subst h
      exact (congrArg Stream.holdings
        (vget_vmod_same s.streams p.val (fun m => { m with held := true }) {} p.isLt)).trans rfl
    · exact congrArg Stream.holdings (vget_vmod_other s.streams q p.val _ {} h)
  unfold State.hold
  split
  · exact .of_streams rfl
  · exact marked.trans (.of_streams (((noteWaiting_only _).streams).trans (suspend_only ..).streams))

theorem holds_sameIngots (s : State) (l : List Nat) : SameIngots s (l.foldl State.hold s) := by
  induction l generalizing s with
  | nil => exact .of_streams rfl
  | cons q l ih => exact (hold_sameIngots s q).trans (ih _)

/-- The rings at their reset values, what no cursor covers is written again. -/
def State.ringsCleared (s : State) : State :=
  { s with streams := vmap s.streams fun _ m => { m with backlog := m.written ++ m.backlog, written := [] }
           hf.rings := Vector.replicate 65 {} }

theorem ringsCleared_keepsIngots (s : State) : KeepsIngots s s.ringsCleared := fun q => by
  simp [State.ringsCleared, vmap]

/-- A reset of the rings is the clearing of their registers, and the streams on them held. -/
theorem resetRings_spec (s : State) : KeepsIngots s s.resetRings ∧ s.resetRings.hf = s.ringsCleared.hf := by
  have held (l : List Nat) : (l.foldl State.hold s.ringsCleared).hf = s.ringsCleared.hf :=
    (Alters.fold (.refl _ _) fun u q => hold_only u q).hf
  exact ⟨(ringsCleared_keepsIngots s).next (holds_sameIngots _ _), held _⟩

/-! ## Resets of the two functions (R298, R326, R328, Table 9.8) -/

section
variable (s : State)

/-- The Headframe with its outstanding reads orphaned. -/
def Headframe.orphanReads (m : Headframe) : Headframe :=
  { m with tags := m.tags.map fun t => if t.timedOut then t else { t with orphaned := true } }

theorem busGoes_hf : s.busGoes.hf = s.hf.orphanReads := congrArg Headframe.orphanReads (drainGoes_only ..).hf

/-- PF0 off the bus, its configuration at reset values. -/
def State.pf0Off (s : State) : State :=
  ({ s with hf.bme := false, hf.d3hot := false, hf.cfg0 := {}, hf.ltr := none } : State).busGoes

/-- The rings, the job ring and the window slots of a function off the bus, before its vectors, cages and claims. -/
def State.pf0Cleared (s : State) : State := (s.pf0Off.resetRings.clearJobs).resetWindow

theorem pf0Off_only : Alters [.grizzly, .smelter, .hf, .regs, .fm] s s.pf0Off :=
  (busGoes_only _).next (setHf_only s _).mono

/-- The job ring and the window slots cleared once the rings are. -/
theorem pf0Cleared_last : Alters [.smelter, .dict, .regs, .twin] s.pf0Off.resetRings s.pf0Cleared :=
  (resetWindow_only _).next (clearJobs_only _).mono

theorem pf0Cleared_only : Alters [.streams, .grizzly, .smelter, .hf, .dict, .regs, .twin, .fm] s s.pf0Cleared :=
  (pf0Cleared_last s).next ((resetRings_only _).next (pf0Off_only s).mono)

/-- The last step of a reset of PF0. -/
theorem resetPf0_eq : s.resetPf0 =
    (({ s.pf0Cleared with hf.msix0 := Vector.replicate 256 {} } : State).resetCages pf0Sides).dropClaims .pf0 := by
  unfold State.resetPf0 State.pf0Cleared State.pf0Off
  rfl

/-- The vectors, the cages and the claims of PF0 lie in the Headframe and the registers. -/
theorem resetPf0_last : Alters [.regs] { s.pf0Cleared with hf.msix0 := Vector.replicate 256 {} } s.resetPf0 :=
  resetPf0_eq s ▸ (dropClaims_only _ .pf0).next (resetCages_pf0Sides _)

theorem resetPf0_after : Alters [.hf, .regs] s.pf0Cleared s.resetPf0 := (resetPf0_last s).next (setHf_only _ _).mono

theorem resetPf0_quiet : Alters [.streams, .grizzly, .smelter, .hf, .dict, .regs, .twin, .fm] s s.resetPf0 :=
  (resetPf0_after s).next (pf0Cleared_only s)

theorem resetPf0_hf : ∃ tags, s.resetPf0.hf =
    { s.hf with bme := false, d3hot := false, cfg0 := {}, ltr := none, rings := Vector.replicate 65 {}
                msix0 := Vector.replicate 256 {}, tags := tags } := by
  have off := busGoes_hf { s with hf.bme := false, hf.d3hot := false, hf.cfg0 := {}, hf.ltr := none }
  refine ⟨s.hf.orphanReads.tags, (resetPf0_last s).hf.trans ?_⟩
  have cleared : s.pf0Cleared.hf = { s.pf0Off.hf with rings := Vector.replicate 65 {} } :=
    (pf0Cleared_last s).hf.trans (resetRings_spec _).2
  show ({ s.pf0Cleared.hf with msix0 := _ } : Headframe) = _
  rw [cleared, State.pf0Off, off]
  rfl

theorem resetPf0_keepsIngots : KeepsIngots s s.resetPf0 := by
  have rings : KeepsIngots s s.pf0Off.resetRings := (resetRings_spec s.pf0Off).1.after (pf0Off_only s).streams
  exact rings.next (.of_streams ((resetPf0_after s).streams.trans (pf0Cleared_last s).streams))

/-- The job ring cleared: its registers at 0, no job left. -/
theorem resetPf0_smelter : s.resetPf0.smelter.enable = false ∧ s.resetPf0.smelter.base = 0 ∧
    s.resetPf0.smelter.tail = 0 ∧ s.resetPf0.smelter.head = 0 ∧ s.resetPf0.smelter.queue = [] ∧
    ∀ k : Fin 16, s.resetPf0.smelter.engines[k] = none := by
  rw [(resetPf0_after s).smelter]
  exact ⟨rfl, rfl, rfl, rfl, rfl, fun k => Vector.getElem_replicate k.isLt⟩

theorem resetWindow_slots : (∀ k : Fin 16, (s.resetWindow.dict.slots0[k]).state = 0) ∧
    s.resetWindow.dict.slots1 = s.dict.slots1 := ⟨fun _ => congrArg WinSlot.state (vmap_get ..), rfl⟩

theorem resetPf0_window : (∀ k : Fin 16, (s.resetPf0.dict.slots0[k]).state = 0) ∧
    s.resetPf0.dict.slots1 = s.dict.slots1 := by
  obtain ⟨idle, others⟩ := resetWindow_slots s.pf0Off.resetRings.clearJobs
  have before : s.pf0Off.resetRings.clearJobs.dict = s.dict :=
    ((clearJobs_only _).dict.trans (resetRings_only _).dict).trans (pf0Off_only s).dict
  rw [(resetPf0_after s).dict]
  exact ⟨idle, others.trans (by rw [before])⟩

/-- The sessions of PF1 ended, its configuration at reset values. -/
def State.pf1Off (s : State) : State := ({ s with hf.cfg1 := {} } : State).endSessions

theorem pf1Off_only : Alters [.hf, .dict, .twin] s s.pf1Off := (endSessions_only _).next (setHf_only s _).mono

theorem resetPf1_last : Alters [.regs] { s.pf1Off with hf.msix1 := Vector.replicate 16 {} } s.resetPf1 :=
  (dropClaims_only _ .pf1).next (resetCages_pf1Sides _)

theorem resetPf1_quiet : Alters [.hf, .dict, .regs, .twin] s s.resetPf1 :=
  (resetPf1_last s).next ((setHf_only _ _).next (pf1Off_only s).mono)

theorem resetPf1_hf : s.resetPf1.hf = { s.hf with cfg1 := {}, msix1 := Vector.replicate 16 {} } :=
  (resetPf1_last s).hf

theorem endSession_session (w : WinSlot) : w.endSession.session = none := by
  unfold WinSlot.endSession
  split
  · rfl
  · assumption

theorem endSessions_slots : (∀ k : Fin 8, s.endSessions.dict.slots1[k] = (s.dict.slots1[k]).endSession) ∧
    s.endSessions.dict.slots0 = s.dict.slots0 := ⟨fun _ => vmap_get .., rfl⟩

theorem resetPf1_window : (∀ k : Fin 8, (s.resetPf1.dict.slots1[k]).session = none) ∧
    s.resetPf1.dict.slots0 = s.dict.slots0 := by
  rw [(resetPf1_last s).dict]
  obtain ⟨ended, others⟩ := endSessions_slots { s with hf.cfg1 := {} }
  exact ⟨fun k => (congrArg WinSlot.session (ended k)).trans (endSession_session _), others⟩

end

/-! ## The fundamental reset (R272, R273) -/

section
variable (s : State)

theorem linkDown_l0 (recovery : Bool) : (s.linkDown recovery).hf.l0 = false := by
  by_cases up : s.hf.l0 = true
  · rw [(linkDown_spec up recovery).1]
    rfl
  · rw [State.linkDown, if_neg up]
    exact Bool.eq_false_iff.2 up

/-- Both functions reset, and the link with them. -/
theorem functionsReset_quiet : Alters [.streams, .grizzly, .smelter, .hf, .dict, .regs, .twin, .fm] s
    ((s.linkDown false).resetPf0.resetPf1) :=
  (resetPf1_quiet _).next ((resetPf0_quiet _).next (linkDown_only s false).mono)

/-- The Headframe at the values of a link that never trained. -/
def State.untrained (s : State) : State :=
  { s with hf.ide := Vector.replicate 4 none, hf.ltr := none, hf.ready := false, hf.speed := 0, hf.width := 0
           hf.flit := false, hf.subsys := (s.cfg 0x1000 0x0B, s.cfg 0x1000 0x0C) }

theorem untrained_only : Alters [.hf] s s.untrained := setHf_only s _

theorem fundamental_eq : s.fundamental = (s.linkDown false).resetPf0.resetPf1.untrained := rfl

theorem fundamental_quiet : Alters [.streams, .grizzly, .smelter, .hf, .dict, .regs, .twin, .fm] s s.fundamental :=
  (untrained_only _).next (functionsReset_quiet s)

/-- What the host's reset leaves: the Headframe at its reset values, every ingot to be written again where no cursor covers
it, and nothing else of the module touched. -/
theorem fundamental_hostReset : HostReset s s.fundamental ∧ s.fundamental.power = s.power := by
  have only := fundamental_quiet s
  have ingots := (resetPf0_keepsIngots (s.linkDown false)).after (linkDown_only s false).streams
  have streams := (resetPf1_quiet (s.linkDown false).resetPf0).streams
  obtain ⟨tags, pf0⟩ := resetPf0_hf (s.linkDown false)
  have both := resetPf1_hf (s.linkDown false).resetPf0
  have link := linkDown_l0 s false
  rw [pf0] at both
  rw [fundamental_eq] at only ⊢
  generalize (s.linkDown false).resetPf0.resetPf1 = u at *
  have kept := ingots.next (.of_streams ((untrained_only u).streams.trans streams))
  refine ⟨⟨⟨rfl, ?_, ?_, ?_⟩, ⟨?_, ?_, ?_⟩, rfl, kept, only.mono.only⟩, only.power⟩
  · exact (congrArg Headframe.l0 both).trans link
  · exact congrArg Headframe.bme both
  · exact congrArg Headframe.d3hot both
  · exact congrArg Headframe.rings both
  · exact congrArg Headframe.msix0 both
  · exact congrArg Headframe.msix1 both

theorem OnlyChanges.trans {l : List Part} {t u : State} (h : OnlyChanges l s t) (k : OnlyChanges l t u) :
    OnlyChanges l s u := ⟨fun p hp => by
  have first := h.same p hp
  have second := k.same p hp
  cases p <;> exact second.trans first⟩

/-- The level of PERST_N is no part of what a reset of the Headframe works on, and it works on no cage that is held. -/
theorem HostReset.of_only {t u v : State} (h : HostReset t u) (before : Alters [.power] s t) (after : Alters [.regs] u v) :
    HostReset s v := by
  obtain ⟨link, tables, ide, ingots, only⟩ := h
  rw [← after.hf] at link tables ide
  exact ⟨link, tables, ide, (ingots.after before.streams).next (.of_streams after.streams),
    OnlyChanges.trans s before.mono.only (OnlyChanges.trans t only after.mono.only)⟩

end

/-- Settles O9: PERST_N and DL_Down are the fundamental reset; the two Function Level Resets by what each clears. -/
theorem hostResets : Obligations.HostResets := by
  unfold Obligations.HostResets
  refine ⟨⟨fun s n long high on => ?perst, fun s n short => ?short, fun s on => ?dlDown, fun s low => ?release⟩,
    fun s => ?pf0, fun s => ?pf1⟩
  case perst =>
    have lowered : Alters [.power] s { s with power.perst := true } := .set fun p hp => by
      cases p <;> first | rfl | exact absurd ((Part.mem_bits ..).2 rfl) hp
    have powered : ({ s with power.perst := true } : State).powered = true := on
    obtain ⟨reset, power⟩ := fundamental_hostReset { s with power.perst := true }
    have cages := (holdCages_only (({ s with power.perst := true } : State).fundamental.holdCages pf0Sides true) pf1Sides
      true).next (holdCages_only ..)
    refine ⟨_, completes_of_ran ?_, cages.power.trans power, reset.of_only s lowered cages⟩
    simp [exec, execPerstNAssert, resetFilter, Nat.not_lt.2 long, high, powered]
  case short => exact completes_of_ran (by simp [exec, execPerstNAssert, resetFilter, short])
  case dlDown =>
    obtain ⟨reset, power⟩ := fundamental_hostReset s
    exact ⟨s.fundamental, completes_of_ran (by simp [exec, execDlDown, on]), power, reset⟩
  case release =>
    have cages := (holdCages_only (({ s with power.perst := false } : State).holdCages pf0Sides false) pf1Sides
      false).next (holdCages_only ..)
    exact ⟨_, completes_of_ran (by simp [exec, execPerstNRelease, low]), cages.power, cages.hf⟩
  case pf0 =>
    obtain ⟨tags, hf⟩ := resetPf0_hf s
    obtain ⟨idle, pf1Slots⟩ := resetPf0_window s
    obtain ⟨enable, base, tail, head, queue, engines⟩ := resetPf0_smelter s
    refine ⟨s.resetPf0, completes_of_ran rfl, ?_, ?_, ?_, ?_, ?_, ?_, idle, pf1Slots, (resetPf0_quiet s).modes, enable,
      base, tail, head, queue, engines, resetPf0_keepsIngots s⟩ <;> rw [hf]
  case pf1 =>
    obtain ⟨ended, pf0Slots⟩ := resetPf1_window s
    refine ⟨s.resetPf1, completes_of_ran rfl, ?_, ?_, ?_, ?_, ended, pf0Slots, (resetPf1_quiet s).modes⟩ <;>
      rw [resetPf1_hf]

end Sys2Proof.Machine
end

section
namespace Sys2Proof.Machine

set_option Elab.async false

/-! ## An entry of the MSI-X tables (R289, R291) -/

/-- An entry after a change of one: its own, or the one changed. -/
theorem msixEntry_onMsix (s : State) (fn : Fn) (v : Nat) (f : MsixEntry → MsixEntry) (g : Fn) (k : Nat) :
    (s.onMsix fn v f).msixEntry g k = s.msixEntry g k ∨
      g = fn ∧ k = v ∧ (s.onMsix fn v f).msixEntry g k = f (s.msixEntry g k) := by
  have element {n : Nat} (m : Vector MsixEntry n) : vget (vmod m v f) k {} = vget m k {} ∨
      k = v ∧ vget (vmod m v f) k {} = f (vget m k {}) := by
    by_cases h : k = v
    · subst h
      by_cases inside : k < n
      · exact .inr ⟨rfl, vget_vmod_same _ _ _ _ inside⟩
      · exact .inl (by rw [vmod, dif_neg inside])
    · exact .inl (vget_vmod_other _ _ _ _ _ h)
  cases fn <;> cases g
  · exact (element s.hf.msix0).imp_right fun h => ⟨rfl, h⟩
  · exact .inl rfl
  · exact .inl rfl
  · exact (element s.hf.msix1).imp_right fun h => ⟨rfl, h⟩

theorem msixEntry_onMsix_same (s : State) {fn : Fn} {v : Nat} (h : v < vectorsOf fn) (f : MsixEntry → MsixEntry) :
    (s.onMsix fn v f).msixEntry fn v = f (s.msixEntry fn v) := by
  cases fn <;> exact vget_vmod_same _ _ _ _ h

theorem msixEntry_onMsix_other (s : State) {fn : Fn} {v k : Nat} (h : k ≠ v) (f : MsixEntry → MsixEntry) :
    (s.onMsix fn v f).msixEntry fn k = s.msixEntry fn k := by
  cases fn <;> exact vget_vmod_other _ _ _ _ _ h

theorem wakeLink_msixEntry (s : State) (fn : Fn) (k : Nat) : s.wakeLink.msixEntry fn k = s.msixEntry fn k := by
  unfold State.wakeLink
  split <;> cases fn <;> rfl

/-- An entry of which at most the pending bit is cleared, and only while its Mask bit is 0. -/
structure MsixEntry.Drained (e e' : MsixEntry) : Prop where
  addr : e'.addr = e.addr
  data : e'.data = e.data
  masked : e'.masked = e.masked
  pending : e'.pending = e.pending ∨ e.masked = false ∧ e'.pending = false

theorem MsixEntry.Drained.refl (e : MsixEntry) : e.Drained e := ⟨rfl, rfl, rfl, .inl rfl⟩

theorem MsixEntry.Drained.trans {e f g : MsixEntry} (h : e.Drained f) (k : f.Drained g) : e.Drained g := by
  refine ⟨k.addr.trans h.addr, k.data.trans h.data, k.masked.trans h.masked, ?_⟩
  rcases k.pending with same | ⟨unmasked, cleared⟩
  · rw [same]
    exact h.pending
  · exact .inr ⟨h.masked ▸ unmasked, cleared⟩

/-! ## Vectors that leave (R291) -/

/-- The vectors that could leave have left: nothing of the settings and of the link state has changed. -/
structure Flushed (s t : State) : Prop where
  kept : HostKept s t
  link : t.hf.l0 = s.hf.l0
  entries : ∀ fn k, (s.msixEntry fn k).Drained (t.msixEntry fn k)

theorem Flushed.refl (s : State) : Flushed s s := ⟨.refl s, rfl, fun _ _ => .refl _⟩

theorem Flushed.trans {s t u : State} (h : Flushed s t) (k : Flushed t u) : Flushed s u :=
  ⟨h.kept.trans k.kept, k.link.trans h.link, fun fn v => (h.entries fn v).trans (k.entries fn v)⟩

/-- Whether a message can leave depends on the settings, on the link and on the entry alone. -/
theorem canSignal_congr {s t : State} (h : HostKept s t) (link : t.hf.l0 = s.hf.l0) {fn : Fn} {v : Nat}
    (entry : t.msixEntry fn v = s.msixEntry fn v) : t.canSignal fn v = s.canSignal fn v := by
  unfold State.canSignal State.busOn State.ideBlocks
  rw [h.fnKept.fnCfg, entry, link, h.bme, h.d3hot, h.ide]

theorem canSignal_unmasked {s : State} {fn : Fn} {v : Nat} (h : s.canSignal fn v = true) :
    (s.msixEntry fn v).masked = false := by
  unfold State.canSignal at h
  simp only [Bool.and_eq_true, Bool.not_eq_true'] at h
  exact h.1.1.2

section
variable (s : State) (fn : Fn) (v : Nat)

theorem wakeLink_l0 : s.wakeLink.hf.l0 = s.hf.l0 := by
  unfold State.wakeLink
  split <;> rfl

theorem sendVector_l0 : (s.sendVector fn v).hf.l0 = s.hf.l0 := by
  cases fn <;> exact wakeLink_l0 s

theorem sendVector_msixEntry (g : Fn) (k : Nat) : (s.sendVector fn v).msixEntry g k = s.msixEntry g k ∨
    g = fn ∧ k = v ∧ (s.sendVector fn v).msixEntry g k = { s.msixEntry g k with pending := false } := by
  have changed := msixEntry_onMsix s.wakeLink fn v (fun e => { e with pending := false }) g k
  rw [wakeLink_msixEntry] at changed
  exact changed

variable {fn v}

/-- A vector that can leave takes its pending bit with it. -/
theorem sendVector_flushed (can : s.canSignal fn v = true) : Flushed s (s.sendVector fn v) := by
  refine ⟨sendVector_hostKept .., sendVector_l0 .., fun g k => ?_⟩
  rcases sendVector_msixEntry s fn v g k with same | ⟨rfl, rfl, sent⟩
  · rw [same]
    exact .refl _
  · rw [sent]
    exact ⟨rfl, rfl, rfl, .inr ⟨canSignal_unmasked can, rfl⟩⟩

theorem sendVector_clears (inTable : v < vectorsOf fn) : ((s.sendVector fn v).msixEntry fn v).pending = false :=
  congrArg MsixEntry.pending (msixEntry_onMsix_same s.wakeLink inTable _)

theorem sendVector_sends :
    Sent.msix fn v (s.msixEntry fn v).addr (s.msixEntry fn v).data ∈ (s.sendVector fn v).sent := List.mem_cons_self

end

/-- A vector that is due and can leave is sent. -/
def State.sendDue (fn : Fn) (s : State) (v : Nat) : State :=
  if (s.msixEntry fn v).pending && s.canSignal fn v then s.sendVector fn v else s

theorem sendDue_flushed (fn : Fn) (s : State) (v : Nat) : Flushed s (s.sendDue fn v) := by
  unfold State.sendDue
  split
  · next due => exact sendVector_flushed s (Bool.and_eq_true_iff.1 due).2
  · exact .refl s

theorem sendDues_flushed (fn : Fn) (l : List Nat) (s : State) : Flushed s (l.foldl (State.sendDue fn) s) := by
  induction l generalizing s with
  | nil => exact .refl s
  | cons v l ih => exact (sendDue_flushed fn s v).trans (ih _)

theorem flushVectors_eq (s : State) : s.flushVectors =
    (List.range 16).foldl (State.sendDue .pf1) ((List.range 256).foldl (State.sendDue .pf0) s) := rfl

theorem flushVectors_flushed (s : State) : Flushed s s.flushVectors := by
  rw [flushVectors_eq]
  exact (sendDues_flushed ..).trans (sendDues_flushed ..)

/-- A vector that is no longer pending stays so, and what was sent stays sent. -/
theorem Flushed.gone {s t : State} (h : Flushed s t) {fn : Fn} {v : Nat} {x : Sent}
    (gone : (s.msixEntry fn v).pending = false ∧ x ∈ s.sent) : (t.msixEntry fn v).pending = false ∧ x ∈ t.sent := by
  refine ⟨?_, h.kept.sent x gone.2⟩
  rcases (h.entries fn v).pending with same | ⟨-, cleared⟩
  · exact same.trans gone.1
  · exact cleared

section
variable {fn : Fn} {v : Nat} (inTable : v < vectorsOf fn)
include inTable

/-- Among the vectors that are looked at, one that is pending and can leave is sent. -/
theorem sendDues_sends {l : List Nat} (listed : v ∈ l) {s : State} (pending : (s.msixEntry fn v).pending = true)
    (can : s.canSignal fn v = true) : ((l.foldl (State.sendDue fn) s).msixEntry fn v).pending = false ∧
      Sent.msix fn v (s.msixEntry fn v).addr (s.msixEntry fn v).data ∈ (l.foldl (State.sendDue fn) s).sent := by
  induction l generalizing s with
  | nil => cases listed
  | cons x l ih =>
    by_cases here : v = x
    · subst here
      have sent : s.sendDue fn v = s.sendVector fn v := if_pos (by simp [pending, can])
      rw [List.foldl_cons, sent]
      exact (sendDues_flushed fn l _).gone ⟨sendVector_clears s inTable, sendVector_sends s⟩
    · have step := sendDue_flushed fn s x
      have entry : (s.sendDue fn x).msixEntry fn v = s.msixEntry fn v := by
        unfold State.sendDue
        split
        · rcases sendVector_msixEntry s fn x fn v with same | ⟨-, same, -⟩
          · exact same
          · exact absurd same here
        · rfl
      have rest := ih ((List.mem_cons.1 listed).resolve_left here) (s := s.sendDue fn x) (by rw [entry]; exact pending)
        (by rw [canSignal_congr step.kept step.link entry]; exact can)
      rw [entry] at rest
      exact rest

end

theorem flushVectors_sends {s : State} {v : Nat} (inTable : v < 256) (pending : (s.msixEntry .pf0 v).pending = true)
    (can : s.canSignal .pf0 v = true) : (s.flushVectors.msixEntry .pf0 v).pending = false ∧
      Sent.msix .pf0 v (s.msixEntry .pf0 v).addr (s.msixEntry .pf0 v).data ∈ s.flushVectors.sent := by
  rw [flushVectors_eq]
  exact (sendDues_flushed .pf1 _ _).gone
    (sendDues_sends (fn := .pf0) inTable (List.mem_range.2 inTable) pending can)

/-! ## Writes to the MSI-X table (R275, R291) -/

/-- MSI-X Enable and Function Mask as the Message Control word gives them. -/
def State.msixControlled (s : State) (fn : Fn) (v : Word) : State :=
  s.onFnCfg fn fun c => { c with msixEnable := v.getLsbD 15, msixMask := v.getLsbD 14 }

theorem msixWrite_control (s : State) (fn : Fn) (v : Word) :
    s.msixWrite fn 0x10000 v = (s.msixControlled fn v).flushVectors := rfl

theorem msixControl_beyond (fn : Fn) : 16 * vectorsOf fn < msixControl := by
  cases fn <;> decide

theorem msixWrite_entry {s : State} {fn : Fn} {offset : Nat} (inTable : offset < 16 * vectorsOf fn)
    (aligned : offset % 4 = 0) (v : Word) : s.msixWrite fn offset v =
      (s.onMsix fn (offset / 16) fun e => e.write (offset % 16 / 4) v).flushVectors := by
  unfold State.msixWrite
  rw [if_neg (inTable.trans (msixControl_beyond fn)).ne]
  exact if_pos (by simp [inTable, aligned])

theorem msixWrite_beyond {s : State} {fn : Fn} {offset : Nat} (beyond : 16 * vectorsOf fn ≤ offset)
    (other : offset ≠ 0x10000) (v : Word) : s.msixWrite fn offset v = s := by
  unfold State.msixWrite
  rw [if_neg (show offset ≠ msixControl from other)]
  exact if_neg (by simp [Nat.not_lt.2 beyond])

/-- With every selective stream without keys, a vector that is not masked can leave once MSI-X is enabled. -/
theorem canSignal_enabled {s : State} {v : Nat} (bus : s.busOn = true) (clear : s.hf.ide = Vector.replicate 4 none)
    (unmasked : (s.msixEntry .pf0 v).masked = false) : (s.msixControlled .pf0 0x8000).canSignal .pf0 v = true := by
  have entry : (s.msixControlled .pf0 0x8000).msixEntry .pf0 v = s.msixEntry .pf0 v := rfl
  have bus' : (s.msixControlled .pf0 0x8000).busOn = true := bus
  have ide (addr : Nat) : (s.msixControlled .pf0 0x8000).ideBlocks addr = false := by
    show (s.hf.ide.toList.any _) = false
    rw [clear]
    rfl
  have config : (s.msixControlled .pf0 0x8000).fnCfg .pf0 = { s.hf.cfg0 with msixEnable := true, msixMask := false } := rfl
  simp only [State.canSignal, config, entry, bus', ide, unmasked, Bool.not_false, Bool.and_self]

/-! ## ENABLE and the cursor (R280, R286) -/

section
variable (s : State)

theorem sendRing_ring (n k : Nat) : (s.sendRing n).ring k = s.ring k := ring_congr (by rw [(sendRing_only ..).hf]) k

/-- Where a ring lies and where the device stands in it. -/
def Ring.place (r : Ring) : Nat × Nat := (r.base, r.pos)

theorem onRing_place (n : Nat) (f : Ring → Ring) (h : ∀ r, (f r).place = r.place := by exact fun _ => rfl) :
    ((s.onRing n f).ring n).place = (s.ring n).place := by
  by_cases hn : n < 65
  · rw [State.ring_onRing_same _ _ _ hn, h]
  · have same : (s.onRing n f).hf.rings = s.hf.rings := dif_neg hn
    rw [ring_congr same]

theorem checkDue_place (n : Nat) : ((s.checkDue n).ring n).place = (s.ring n).place := by
  unfold State.checkDue State.ringDue
  dsimp only
  split
  · exact (congrArg Ring.place (ring_congr (raiseVector_rings ..) n)).trans (onRing_place s n _)
  · rfl

theorem transmitCursor_place (n : Nat) (f : Formed) : ((s.transmitCursor n f).ring n).place = (s.ring n).place := by
  unfold State.transmitCursor
  extract_lets r cov last x u v w
  have wrote : u.ring n = s.ring n := ring_congr (hostWrite_rings ..) n
  clear_value u
  have covered : v.ring n = u.ring n := by
    unfold v
    split <;> rfl
  have taken : (w.ring n).place = (v.ring n).place := onRing_place v n _
  rw [checkDue_place, taken, covered, wrote]

theorem cursorWrite_place (n : Nat) (handoff always : Bool) :
    ((s.cursorWrite n handoff always).ring n).place = (s.ring n).place := by
  have formed (gen : Nat) : ((s.onRing n fun r => { r with gen := gen }).ring n).place = (s.ring n).place :=
    onRing_place s n _
  unfold State.cursorWrite
  extract_lets r f u
  have hu : (u.ring n).place = (s.ring n).place := formed f.gen
  clear_value u
  split
  · rfl
  · split
    · split
      · exact (congrArg Ring.place (ring_congr (by rw [(xcSend_only ..).hf]) n)).trans
          ((onRing_place u n _).trans hu)
      · exact (transmitCursor_place u n f).trans hu
    · exact (transmitCursor_place u n f).trans hu

/-- Of a stream at most the ingots written are fewer, and only of the one that writes the ring. -/
def Delivered (n : Nat) (s t : State) : Prop :=
  ∀ p, t.stream p = s.stream p ∨ s.streamOn n = some p ∧ ∃ l, t.stream p = { s.stream p with written := l }

theorem Delivered.of_streams {n : Nat} {s t : State} (h : t.streams = s.streams) : Delivered n s t :=
  fun p => .inl (by unfold State.stream; rw [h])

theorem Delivered.congr {n : Nat} {s t u v : State} (h : Delivered n t u) (first : t.streams = s.streams)
    (last : v.streams = u.streams) : Delivered n s v := by
  unfold Delivered State.streamOn State.ringOf State.stream at h ⊢
  rwa [last, ← first]

theorem transmitCursor_delivered (n : Nat) (f : Formed) : Delivered n s (s.transmitCursor n f) := by
  unfold State.transmitCursor
  extract_lets r cov last x u v w
  have wrote : u.streams = s.streams := (hostWrite_only ..).streams
  clear_value u
  have covered : Delivered n u v := by
    intro p
    unfold v
    split
    · next q on =>
      by_cases h : p = q
      · subst h
        have inRange : p < 64 := List.mem_range.1 (List.mem_of_find?_eq_some on)
        exact .inr ⟨on, _, State.stream_onStream_same _ _ _ inRange⟩
      · exact .inl (State.stream_onStream_other _ _ _ _ h)
    · exact .inl rfl
  have ended : (w.checkDue n).streams = v.streams := (checkDue_only ..).streams
  exact covered.congr wrote ended

theorem cursorWrite_delivered (n : Nat) (handoff always : Bool) : Delivered n s (s.cursorWrite n handoff always) := by
  unfold State.cursorWrite
  extract_lets r f u
  have formed : u.streams = s.streams := rfl
  clear_value u
  have sent := (transmitCursor_delivered u n f).congr formed rfl
  split
  · exact .of_streams rfl
  · split
    · split
      · exact .of_streams ((xcSend_only ..).streams.trans formed)
      · exact sent
    · exact sent

end

/-- An armed stream goes on writing its ring when a cursor record covers its ingots. -/
theorem Delivered.streamOn {n q : Nat} {s t : State} (h : Delivered n s t) (on : s.streamOn n = some q)
    (armed : (s.stream q).armed = true) : t.streamOn n = some q := by
  have same : t.streamOn n = s.streamOn n := by
    unfold State.streamOn
    congr 1
    funext p
    rcases h p with same | ⟨here, l, written⟩
    · unfold State.ringOf
      rw [same]
    · cases on.symm.trans here
      unfold State.ringOf
      rw [written]
      simp [armed]
  exact same.trans on

section
variable {s : State} {n : Nat}

/-- ENABLE written as 1 on a ring that is not enabled: what no record covered waits again (R286). -/
def State.recovered (s : State) (n : Nat) : State :=
  match s.streamOn n with
  | some q => s.onStream q fun m => { m with backlog := m.written ++ m.backlog, written := [] }
  | none => s

theorem recovered_ring (k : Nat) : (s.recovered n).ring k = s.ring k := by
  unfold State.recovered
  split <;> rfl

theorem recovered_stream {q : Nat} (on : s.streamOn n = some q) :
    (s.recovered n).stream q =
      { s.stream q with backlog := (s.stream q).written ++ (s.stream q).backlog, written := [] } := by
  have inRange : q < 64 := List.mem_range.1 (List.mem_of_find?_eq_some on)
  unfold State.recovered
  rw [on]
  exact State.stream_onStream_same _ _ _ inRange

/-- A ring that starts anew. -/
def Ring.restarted (r : Ring) : Ring :=
  { r with enable := true, pos := 0, rdPos := 0, wrPos := 0, gen := 0, restart := true, uncovered := [], laid := []
           lastCovered := none, totalBytes := 0, unsignalled := 0, unsignalledAny := false, awaiting := none }

theorem ringEnable_starts (off : (s.ring n).enable = false) :
    s.ringEnable n = ((s.recovered n).onRing n Ring.restarted).sendRing n := if_neg (by simp [off])

/-- The cursor record written, the ring takes nothing more. -/
def State.ringStopped (s : State) (n : Nat) : State :=
  ((s.cursorWrite n).onRing n fun r => { r with enable := false }).sendRing n

theorem ringDisable_stops (on : (s.ring n).enable = true) : s.ringDisable n =
    match (s.ringStopped n).streamOn n with
    | some q => (s.ringStopped n).hold q
    | none => s.ringStopped n := if_pos on

theorem ringStopped_streams : (s.ringStopped n).streams = (s.cursorWrite n).streams := (sendRing_only ..).streams

theorem ringStopped_ring (hn : n < 65) :
    (s.ringStopped n).ring n = { (s.cursorWrite n).ring n with enable := false } := by
  unfold State.ringStopped
  rw [sendRing_ring, State.ring_onRing_same _ _ _ hn]

theorem hold_holds {q : Nat} (hq : q < 64) : ((s.hold q).stream q).held = true := by
  by_cases held : (s.stream q).held = true
  · rw [State.hold, if_pos held, held]
  · rw [(hold_spec hq (Bool.eq_false_iff.2 held)).1]

/-- The end of a ring: it is disabled where it stood, and the armed stream on it is held (R207, R286). -/
theorem ringDisable_spec (hn : n < 65) (on : (s.ring n).enable = true) : ((s.ringDisable n).ring n).enable = false ∧
    ((s.ringDisable n).ring n).place = (s.ring n).place ∧
    ∀ q, s.streamOn n = some q → (s.stream q).armed = true → ((s.ringDisable n).stream q).held = true := by
  have ring : (s.ringDisable n).ring n = (s.ringStopped n).ring n := by
    rw [ringDisable_stops on]
    split
    · exact ring_congr (by rw [(hold_only ..).hf]) n
    · rfl
  rw [ring, ringStopped_ring hn]
  refine ⟨rfl, cursorWrite_place s n false false, fun q writes armed => ?_⟩
  have still : (s.ringStopped n).streamOn n = some q :=
    ((cursorWrite_delivered s n false false).congr rfl ringStopped_streams).streamOn writes armed
  rw [ringDisable_stops on, still]
  exact hold_holds (List.mem_range.1 (List.mem_of_find?_eq_some writes))

/-! ## RD_POS (R283, R367) -/

theorem rdPosWrite_shadow (shadow : s.isShadow = true) (hn : n < 64) (v : Nat) :
    s.rdPosWrite n v = s.accessFault (ringOffset n + 0x14) afLocked .pf0 := if_pos (by simp [shadow, hn])

variable (own : s.isShadow = false ∨ n = 64)
include own

/-- A delivery ring on a Shadow is the one case in which the host does not write RD_POS (R367). -/
theorem rdPos_own : ¬ (s.isShadow && decide (n < 64)) = true := by
  rcases own with h | h <;> simp [h]

theorem rdPosWrite_taken {v : Nat} (within : posDist (s.ring n).rdPos v ≤ posDist (s.ring n).rdPos (s.ring n).wrPos)
    (k : Nat) : (s.rdPosWrite n v).ring k = (s.onRing n fun r => r.return_ v).ring k := by
  unfold State.rdPosWrite
  dsimp only
  rw [if_neg (rdPos_own own), if_pos within]
  split
  · split
    · exact ring_congr (by rw [(xcSend_only ..).hf]) k
    · rfl
  · rfl

theorem rdPosWrite_bad {v : Nat} (outside : posDist (s.ring n).rdPos (s.ring n).wrPos < posDist (s.ring n).rdPos v) :
    s.rdPosWrite n v =
      (s.onRing n fun r => { r with cursorBad := true }).event .ringCursorBad .headframe n (leBytes 1 n) := by
  unfold State.rdPosWrite
  dsimp only
  rw [if_neg (rdPos_own own), if_neg (Nat.not_le.2 outside)]

end

/-! ## The vector of a ring (R290) -/

theorem ringDue_spec {s : State} {n : Nat} (hn : n < 65) : ((s.ringDue n).ring n).unsignalled = 0 ∧
    ((s.ringDue n).ring n).unsignalledAny = false ∧
    (if s.canSignal .pf0 n = true then
      Sent.msix .pf0 n (s.msixEntry .pf0 n).addr (s.msixEntry .pf0 n).data ∈ (s.ringDue n).sent
     else ((s.ringDue n).msixEntry .pf0 n).pending = true) := by
  have ring : (s.ringDue n).ring n = { s.ring n with unsignalled := 0, unsignalledAny := false } :=
    (ring_congr (raiseVector_rings ..) n).trans (State.ring_onRing_same _ _ _ hn)
  rw [ring]
  refine ⟨rfl, rfl, ?_⟩
  have can : (s.onRing n fun r => { r with unsignalled := 0, unsignalledAny := false }).canSignal .pf0 n =
    s.canSignal .pf0 n := rfl
  unfold State.ringDue State.raiseVector
  rw [can]
  split
  · exact sendVector_sends _
  · exact congrArg MsixEntry.pending (msixEntry_onMsix_same _ (show n < 256 by omega) _)

/-- Settles O29: a ring by what ENABLE, its end, RD_POS and its delay do to it, the MSI-X table by the entry written and the
vectors that leave after it. -/
theorem ringsAndMsix : Obligations.RingsAndMsix := by
  unfold Obligations.RingsAndMsix
  refine ⟨⟨fun s n off => ?enable, fun s n on => ?enabled, fun s n on => ?disable, fun s n off => ?disabled,
      fun s n v own => ⟨fun inside => ?taken, fun outside => ?bad⟩, fun s n v shadow hn => ?shadow,
      fun s n irq any => ?due, fun s n quiet => ?notDue⟩,
    fun s fn offset v inTable aligned => ?entry, fun s fn v => ?control, fun s fn offset v beyond other => ?pba,
    fun s v inTable pending bus clear unmasked => ?leaves⟩
  case enable =>
    refine ⟨s.ringEnable n.val, completes_of_ran rfl, (ringEnable_only ..).only, ?_, fun q on => ?_⟩
    · rw [ringEnable_starts off, sendRing_ring, State.ring_onRing_same _ _ _ n.isLt, recovered_ring]
      rfl
    · have stream : (s.ringEnable n.val).stream q = (s.recovered n.val).stream q := by
        rw [ringEnable_starts off]
        exact (sendRing_only ..).stream q
      rw [stream, recovered_stream on]
      exact ⟨rfl, rfl⟩
  case enabled => exact completes_of_ran (congrArg (ran s) (if_pos on))
  case disable =>
    obtain ⟨stopped, place, held⟩ := ringDisable_spec n.isLt on
    exact ⟨s.ringDisable n.val, completes_of_ran rfl, stopped, congrArg Prod.fst place, congrArg Prod.snd place, held⟩
  case disabled => exact completes_of_ran (congrArg (ran s) (if_neg (by simp [off])))
  case taken =>
    have ring := (rdPosWrite_taken own inside n.val).trans (State.ring_onRing_same _ _ _ n.isLt)
    refine ⟨s.rdPosWrite n.val v.toNat, completes_of_ran rfl, ?_, ?_, ?_⟩ <;> rw [ring]
    · exact Nat.mod_eq_of_lt v.isLt
    · rfl
    · rfl
  case bad =>
    have written := rdPosWrite_bad own outside
    have ring : (s.rdPosWrite n.val v.toNat).ring n.val = { s.ring n.val with cursorBad := true } := by
      rw [written]
      exact (ring_congr (congrArg Headframe.rings (event_only ..).hf) n.val).trans (State.ring_onRing_same _ _ _ n.isLt)
    refine ⟨s.rdPosWrite n.val v.toNat, completes_of_ran rfl, ?_, ?_, ?_⟩
    · rw [ring]
    · rw [ring]
    · rw [written]
      exact event_reported ..
  case shadow =>
    exact ⟨_, completes_of_ran (congrArg (ran s) (rdPosWrite_shadow shadow hn _)), (accessFault_only ..).only, rfl, rfl⟩
  case due =>
    exact ⟨s.ringDue n.val, completes_of_ran (congrArg (ran s) (if_pos (by simp [irq, any]))),
      ((raiseVector_only ..).next (onRing_only ..).mono).only, ringDue_spec n.isLt⟩
  case notDue => exact completes_of_ran (congrArg (ran s) (if_neg (by rcases quiet with h | h <;> simp [h])))
  case entry =>
    have number : offset / 16 < vectorsOf fn := by omega
    have written := msixEntry_onMsix_same s number fun e => e.write (offset % 16 / 4) v
    have after := flushVectors_flushed (s.onMsix fn (offset / 16) fun e => e.write (offset % 16 / 4) v)
    have drained := after.entries fn (offset / 16)
    rw [written] at drained
    refine ⟨_, completes_of_ran (congrArg (ran s) (msixWrite_entry inTable aligned v)),
      ((flushVectors_only _).next (onMsix_only ..).mono).only, drained.addr, drained.data, drained.masked,
      fun idle => ?_, fun masked => ?_, fun k other => ?_⟩
    · rcases drained.pending with same | ⟨-, cleared⟩
      · exact same.trans idle
      · exact cleared
    · exact drained.pending.resolve_right fun sent => by simp [sent.1] at masked
    · rw [(after.entries fn k).addr, msixEntry_onMsix_other s other]
  case control =>
    have config : (s.msixControlled fn v).flushVectors.fnCfg fn =
        { s.fnCfg fn with msixEnable := v.getLsbD 15, msixMask := v.getLsbD 14 } :=
      ((flushVectors_hostKept _).fnKept.fnCfg fn).trans (onFnCfg_fnCfg ..)
    refine ⟨_, completes_of_ran (congrArg (ran s) (msixWrite_control s fn v)),
      ((flushVectors_only _).next (onFnCfg_only ..).mono).only, ?_, ?_, ?_⟩ <;> rw [config]
  case pba => exact completes_of_ran (congrArg (ran s) (msixWrite_beyond beyond other v))
  case leaves =>
    exact ⟨_, completes_of_ran (congrArg (ran s) (msixWrite_control s .pf0 0x8000)),
      flushVectors_sends (s := s.msixControlled .pf0 0x8000) inTable pending (canSignal_enabled bus clear unmasked)⟩

end Sys2Proof.Machine
end

section
namespace Sys2Proof.Machine

set_option Elab.async false

/-! ## Selective streams (R276, R278) -/

section
variable {s : State} {k : Fin 4}

theorem ideStream_same (f : Option IdeStream → Option IdeStream) : (vmod s.hf.ide k.val f)[k] = f s.hf.ide[k] := by
  simp [vmod]

theorem ideStream_other {j : Fin 4} (h : j ≠ k) (f : Option IdeStream → Option IdeStream) :
    (vmod s.hf.ide k.val f)[j] = s.hf.ide[j] := by
  rw [← vget_fin _ j none, vget_vmod_other _ _ _ _ _ fun e => h (Fin.ext e), vget_fin]

/-- A stream programmed is Secure with its associations, the others are as they were. -/
theorem programIde_ide (blocks : List (Nat × Nat)) (rids : Nat × Nat) (pcrc : Bool) :
    (s.programIde k.val blocks rids pcrc).hf.ide =
      vmod s.hf.ide k.val fun _ => some { blocks := blocks.take 2, rids, pcrc, secure := true } := by
  unfold State.programIde
  exact (flushVectors_hostKept _).ide

/-- The stream of the keys lost, the sessions of PF1 at an end. -/
def State.streamInsecure (s : State) (k : Nat) (x : IdeStream) : State :=
  ({ s with hf.ide := vmod s.hf.ide k fun _ => some { x with secure := false } } : State).endSessions

theorem ideLost_secure {x : IdeStream} (here : s.hf.ide[k] = some x) (secure : x.secure = true) :
    s.ideLost k.val = (s.streamInsecure k.val x).event .ideStreamLost .headframe k.val (leBytes 1 k.val) := by
  unfold State.ideLost
  rw [vget_fin, here]
  exact if_pos secure

theorem ideLost_insecure (h : ∀ x, s.hf.ide[k] = some x → x.secure = false) : s.ideLost k.val = s := by
  unfold State.ideLost
  rw [vget_fin]
  split
  · next x here => exact if_neg (by simp [h x here])
  · rfl

/-- A request that waits on a session ends with RESET when the session does (R328). -/
theorem endSession_pending {w : WinSlot} (bound : w.session ≠ none) (pending : w.state = 1) :
    w.endSession.state = 3 ∧ w.endSession.abort = abReset := by
  unfold WinSlot.endSession
  split
  · unfold WinSlot.abortWith
    rw [if_pos pending]
    exact ⟨rfl, rfl⟩
  · next none_ => exact absurd none_ bound

end

/-! ## Requests to PF1 (R277, R299, R300) -/

/-- An error of PF1 sets its status bit; of the Headframe nothing but the configuration of PF1 changes. -/
theorem aerError_pf1 (s : State) (e : AerError) (advisory : Bool) : ∃ c,
    (s.aerError .pf1 e advisory).hf = { s.hf with cfg1 := c } ∧ c.aerUnc = s.hf.cfg1.aerUnc ||| 2 ^ aerBit e := by
  unfold State.aerError
  cases s.aerMessage .pf1 e advisory <;> exact ⟨_, rfl, rfl⟩

/-- A request of PF1 refused: counted, and reported as an Unsupported Request. -/
def State.refusePf1 (s : State) (read : Bool) : State :=
  ({ s with hf.pf1Refused := s.hf.pf1Refused.inc } : State).aerError .pf1 .unsupportedRequest read

theorem refusePf1_only (s : State) (read : Bool) : Alters [.hf, .sent] s (s.refusePf1 read) :=
  (aerError_only ..).next (setHf_only s _).mono

theorem refusePf1_hf (s : State) (read : Bool) : (s.refusePf1 read).hf.pf1Refused = s.hf.pf1Refused.inc ∧
    (s.refusePf1 read).hf.cfg1.aerUnc = s.hf.cfg1.aerUnc ||| 2 ^ 20 := by
  obtain ⟨c, hf, status⟩ := aerError_pf1 { s with hf.pf1Refused := s.hf.pf1Refused.inc } .unsupportedRequest read
  unfold State.refusePf1
  rw [hf]
  exact ⟨rfl, status⟩

section
variable {s : State} (up : s.hf.l0 = true) {stream : Option (Fin 4)} (read : Bool) (f g : State → State)
include up

theorem admitHost_insecure (clear : s.secureStream stream = false) :
    s.admitHost .pf1 stream read f g = g (s.refusePf1 read) := by
  simp [State.admitHost, State.refusePf1, up, clear]

theorem admitHost_secure (secure : s.secureStream stream = true) (memory : s.hf.cfg1.mse = true) :
    s.admitHost .pf1 stream read f g = f s := by
  have on : (s.fnCfg .pf1).mse = true := memory
  simp [State.admitHost, up, secure, on]

end

theorem pf1Refused_read (s : State) {r : Pf1Access} (read : r.write = none) :
    s.pf1Refused r = s.send (.completion false false []) := by
  unfold State.pf1Refused
  rw [read]

section
variable (s : State) {r : Pf1Access}

/-- A request to BAR 0 of PF1 that is taken is a Completer Abort (R299, R300). -/
theorem pf1Reaches_bar0 (bar0 : r.bar0 = true) : Alters [.hf, .sent] s (s.pf1Reaches r) ∧
    (∃ c, (s.pf1Reaches r).hf = { s.hf with cfg1 := c } ∧ c.aerUnc = s.hf.cfg1.aerUnc ||| 2 ^ 15) ∧
    (r.write = none → (s.pf1Reaches r).sent.head? = some (.completion false true [])) := by
  unfold State.pf1Reaches
  rw [bar0]
  cases r.write with
  | some v => exact ⟨aerError_only .., aerError_pf1 .., nofun⟩
  | none => exact ⟨(send_only ..).next (aerError_only ..), aerError_pf1 .., fun _ => rfl⟩

theorem pf1Reaches_write {v : Word} (bar2 : r.bar0 = false) (write : r.write = some v) :
    s.pf1Reaches r = s.pf1Write r.stream r.offset [(v, 0xF)] := by
  unfold State.pf1Reaches
  rw [bar2, write]
  rfl

theorem pf1Reaches_read (bar2 : r.bar0 = false) (read : r.write = none) : s.pf1Reaches r =
    (s.pf1Read r.offset).2.send (.completion true false [BitVec.ofNat 32 (s.pf1Read r.offset).1]) := by
  unfold State.pf1Reaches
  rw [bar2, read]

/-- A read of the secure window takes nothing with it. -/
theorem pf1Read_window {off : Nat} (inWindow : off < 0x80000) :
    s.pf1Read off = ((s.winSlot .pf1 (off / slotSpan)).read (off % slotSpan / 4 * 4), s) := if_pos inWindow

end

/-- Settles O34: a stream's keys by what they program and what their loss ends, PF1 by which of its requests it takes; the
bits of AER are those of log 61, the end of every session with a stream is log 32. -/
theorem securePaths : Obligations.SecurePaths := by
  unfold Obligations.SecurePaths
  refine ⟨fun s k blocks rids pcrc up runs => ?program, fun s k blocks rids pcrc session h => ?ignored,
    fun s k x here secure => ?lost, fun s k h => ?notSecure, fun s r up clear => ?refused,
    fun s r up secure memory => ⟨fun bar0 => ?abort, fun v bar2 write => ?write, fun v u bar2 read value => ?read,
      fun bar2 read inWindow => ?window⟩⟩
  case program =>
    refine ⟨s.programIde k.val blocks rids pcrc, completes_of_ran (by simp [exec, execIdeKeyProgram, up, runs]),
      (programIde_only ..).only, ?_, fun j other => ?_⟩ <;> rw [programIde_ide]
    · exact ideStream_same _
    · exact ideStream_other other _
  case ignored => exact completes_of_ran (by rcases h with h | h | h <;> simp [exec, execIdeKeyProgram, h])
  case lost =>
    have told := ideLost_secure here secure
    have kept := event_only (s.streamInsecure k.val x) .ideStreamLost .headframe k.val (leBytes 1 k.val)
    obtain ⟨ended, pf0Slots⟩ := endSessions_slots
      { s with hf.ide := vmod s.hf.ide k.val fun _ => some { x with secure := false } }
    refine ⟨s.ideLost k.val, completes_of_ran rfl, (ideLost_only ..).only, ?_, fun w => ?_, ?_⟩
    · rw [told, kept.hf]
      exact ideStream_same _
    · have slot : (s.ideLost k.val).dict.slots1[w] = (s.dict.slots1[w]).endSession := by
        rw [told, kept.dict]
        exact ended w
      rw [slot]
      exact ⟨endSession_session _, fun bound pending => endSession_pending bound pending⟩
    · rw [told, kept.dict]
      exact pf0Slots
  case notSecure => exact completes_of_ran (congrArg (ran s) (ideLost_insecure h))
  case refused =>
    have answer := pf1Refused_only (s.refusePf1 r.write.isNone) r
    obtain ⟨count, status⟩ := refusePf1_hf s r.write.isNone
    refine ⟨(s.refusePf1 r.write.isNone).pf1Refused r,
      completes_of_ran (congrArg (ran s) (admitHost_insecure up _ _ _ clear)),
      (answer.next (refusePf1_only ..)).only, ?_, ?_, fun read => ?_⟩
    · rw [answer.hf, count]
    · rw [answer.hf, status]
    · rw [pf1Refused_read _ read]
      rfl
  case abort =>
    obtain ⟨only, ⟨c, hf, status⟩, told⟩ := pf1Reaches_bar0 s bar0
    refine ⟨s.pf1Reaches r, completes_of_ran (congrArg (ran s) (admitHost_secure up _ _ _ secure memory)),
      only.only, ?_, ?_, told⟩ <;> rw [hf]
    exact status
  case write =>
    exact completes_of_ran (congrArg (ran s)
      ((admitHost_secure up _ _ _ secure memory).trans (pf1Reaches_write s bar2 write)))
  case read =>
    have reaches := pf1Reaches_read s bar2 read
    rw [value] at reaches
    exact completes_of_ran (congrArg (ran s) ((admitHost_secure up _ _ _ secure memory).trans reaches))
  case window =>
    have reaches := pf1Reaches_read s bar2 read
    rw [pf1Read_window s inWindow] at reaches
    exact completes_of_ran (congrArg (ran s) ((admitHost_secure up _ _ _ secure memory).trans reaches))

end Sys2Proof.Machine
end

section
namespace Sys2Proof.Machine

set_option Elab.async false

/-! ## How a write reaches a register (R335, R336, Table 11.1) -/

/-- No channel of a cage lies below 1 MiB of BAR 0, or from 2 MiB on (Table 9.3). -/
theorem cageAt_outside {m : Master} {off : Nat} (outside : off < 0x100000 ∨ 0x120000 ≤ off) :
    cageAt m false off = none := by
  have none_ : inCages 0x100000 32 off = none := if_neg (by
    simp only [Bool.and_eq_true, decide_eq_true_eq]
    omega)
  simp [cageAt, none_]

section
variable {s : State} {m : Master} {off : Nat} (outside : off < 0x100000 ∨ 0x120000 ≤ off)
include outside

theorem wordWrite_whole (v : Word) : s.wordWrite m false off v 0xF = s.plainWrite m false off v.toNat := by
  unfold State.wordWrite
  rw [cageAt_outside outside]
  exact if_pos rfl

theorem wordWrite_partial (v : Word) {be : BitVec 4} (part : be ≠ 0xF) :
    s.wordWrite m false off v be = s.accessFault off afPartial m := by
  unfold State.wordWrite
  rw [cageAt_outside outside]
  exact if_neg (by simpa [allBytes] using part)

theorem spaceWrite_long {words : List (Word × BitVec 4)} (aligned : off % 4 = 0) (long : 3 ≤ words.length) :
    s.spaceWrite m false off words = s.accessFault off afLong m := by
  have whole : off / 4 * 4 = off := by omega
  unfold State.spaceWrite
  dsimp only
  rw [whole]
  refine if_neg ?_
  simp only [inOneMessage, cageAt_outside outside, Bool.or_false, decide_eq_true_eq]
  omega

end

section
variable {s : State} {m : Master} {off : Nat} (aligned : off % 4 = 0)
include aligned

theorem spaceWrite_one (bar2 : Bool) (v : Word) (be : BitVec 4) :
    s.spaceWrite m bar2 off [(v, be)] = s.wordWrite m bar2 off v be := by
  have whole : off / 4 * 4 = off := by omega
  unfold State.spaceWrite
  dsimp only
  rw [whole]
  exact if_pos (by simp)

theorem spaceWrite_two (bar2 : Bool) (v0 v1 : Word) (be0 be1 : BitVec 4) : s.spaceWrite m bar2 off [(v0, be0), (v1, be1)] =
    (s.wordWrite m bar2 off v0 be0).wordWrite m bar2 (off + 4) v1 be1 := by
  have whole : off / 4 * 4 = off := by omega
  unfold State.spaceWrite
  dsimp only
  rw [whole]
  exact if_pos (by simp)

end

/-- A refused access is shown with its offset, its cause and its master. -/
theorem accessFault_shown (s : State) {off : Nat} (aligned : off % 4 = 0) (small : off < 2 ^ 24) (cause : Nat)
    (m : Master) : (s.accessFault off cause m).regs.accessFault = s.regs.accessFault.inc ∧
      (s.accessFault off cause m).regs.accessLast = (off, cause, masterCode m) := by
  have whole : off / 4 * 4 % 2 ^ 24 = off := by omega
  exact ⟨rfl, congrArg (fun o => (o, cause, masterCode m)) whole⟩

/-! ## A ring's address (R286, R287, Table 9.5) -/

section
variable {s : State} (m : Master) (n : Fin 64)

/-- A register of a ring's BASE or CURSOR, by its place in the ring's registers. -/
theorem plainWrite_address {k : Nat} (inAddress : k < 0x10) (v : Nat) :
    s.plainWrite m false (0x10000 + 0x40 * n.val + k) v = s.ringAddress m n.val k v := by
  have hn := n.isLt
  have number : (0x10000 + 0x40 * n.val + k - 0x10000) / 0x40 = n.val := by omega
  have register : (0x10000 + 0x40 * n.val + k) % 0x40 = k := by omega
  have here : within 0x10000 0x10FFF (0x10000 + 0x40 * n.val + k) = true := by
    simp only [within, Bool.and_eq_true, decide_eq_true_eq]
    omega
  unfold State.plainWrite
  rw [if_neg Bool.false_ne_true, if_neg (by omega), if_pos here, number, register]
  exact if_pos inAddress

/-- One half of BASE as it stands after a write. -/
def Ring.withBase (r : Ring) (high : Bool) (v : Nat) : Ring := { r with base := setHalf r.base high v 12 }

/-- A half of BASE written while the ring is disabled, which the Shadow learns of. -/
def State.baseWritten (s : State) (n : Nat) (high : Bool) (v : Nat) : State :=
  (s.onRing n fun r => r.withBase high v).sendRing n

variable (off : (s.ring n.val).enable = false)
include off

theorem ringAddress_low (v : Nat) : s.ringAddress m n.val 0 v = s.baseWritten n.val false v := if_neg (by simp [off])

theorem ringAddress_high (v : Nat) : s.ringAddress m n.val 4 v = s.baseWritten n.val true v := if_neg (by simp [off])

end

theorem ringAddress_enabled {s : State} {n : Fin 64} (on : (s.ring n.val).enable = true) (m : Master) (k v : Nat) :
    s.ringAddress m n.val k v = s.accessFault (0x10000 + 0x40 * n.val + k) afLocked m := by
  have number : ringOffset n.val = 0x10000 + 0x40 * n.val := if_neg n.isLt.ne
  unfold State.ringAddress State.locked
  rw [if_pos on, number]

theorem baseWritten_only (s : State) (n : Nat) (high : Bool) (v : Nat) :
    Alters [.hf, .regs, .twin, .sent] s (s.baseWritten n high v) :=
  (sendRing_only ..).next (onRing_only ..).mono

theorem baseWritten_ring (s : State) (n : Fin 64) (high : Bool) (v : Nat) :
    (s.baseWritten n.val high v).ring n.val = (s.ring n.val).withBase high v :=
  (sendRing_ring ..).trans (State.ring_onRing_same _ _ _ (n.isLt.trans (by decide)))

theorem xcSend_accessFault (s : State) (r : XcRecord) : (s.xcSend r).regs.accessFault = s.regs.accessFault := by
  unfold State.xcSend
  split
  · dsimp only
    split <;> rfl
  · rfl

theorem baseWritten_accessFault (s : State) (n : Nat) (high : Bool) (v : Nat) :
    (s.baseWritten n high v).regs.accessFault = s.regs.accessFault := by
  unfold State.baseWritten State.sendRing
  split
  · split
    · exact xcSend_accessFault ..
    · rfl
  · rfl

/-! ## Writes of the host (R298 to R300) -/

section
variable {s : State} {w : RegWrite} (up : s.hf.l0 = true)
include up

theorem registerWrite_pf0 (memory : s.hf.cfg0.mse = true) : s.registerWrite .pf0 w = s.hostReaches .pf0 w := by
  have on : (s.fnCfg .pf0).mse = true := memory
  simp [State.registerWrite, State.admitHost, up, on]

theorem registerWrite_space (memory : s.hf.cfg0.mse = true) (bar0 : w.bar2 = false) (sound : w.poisoned = false) :
    s.registerWrite .pf0 w = s.spaceWrite .pf0 false w.offset w.words := by
  rw [registerWrite_pf0 up memory]
  simp [State.hostReaches, bar0, sound]

theorem registerWrite_poisoned (memory : s.hf.cfg0.mse = true) (poisoned : w.poisoned = true) :
    s.registerWrite .pf0 w = s.aerError .pf0 .poisonedTlp := by
  rw [registerWrite_pf0 up memory]
  exact if_pos poisoned

theorem registerWrite_noMemory (memory : s.hf.cfg0.mse = false) :
    s.registerWrite .pf0 w = s.aerError .pf0 .unsupportedRequest := by
  have off : (s.fnCfg .pf0).mse = false := memory
  simp [State.registerWrite, State.admitHost, up, off]

end

theorem registerWrite_errors {s : State} (w : RegWrite) (runs : s.foremanRuns = true) (bar0 : w.bar2 = false)
    (here : w.offset = 0x200048) {v : Word} (words : w.words = [(v, 0xF)]) :
    s.registerWrite .foreman w = { s with regs := s.regs.clearErrors v.toNat } := by
  have space : s.registerWrite .foreman w = s.spaceWrite .foreman false 0x200048 [(v, 0xF)] := by
    simp [State.registerWrite, runs, bar0, here, words]
  rw [space, spaceWrite_one (by decide), wordWrite_whole (by decide)]
  rfl

theorem twinWrite_alone {s : State} (alone : s.partnered = false) (offset : Nat) (words : List (Word × BitVec 4)) :
    s.twinWrite offset words = s := by
  unfold State.twinWrite
  split
  · exact if_neg (by simp [alone])
  · rfl

/-- Settles O42: a write by the doublewords it has, what its function does with it, and the register it reaches;
refusals are counted and shown as log 40 has it, the bits of AER are those of log 61. -/
theorem registerWrites : Obligations.RegisterWrites := by
  unfold Obligations.RegisterWrites
  refine ⟨fun s w up memory bar0 sound => ⟨fun n v words => ⟨fun here off => ?low, fun here on => ?locked⟩,
      fun n v0 v1 words here off => ?both, fun v be words part aligned small => ?part, fun long aligned small => ?long⟩,
    fun s w up memory poisoned => ?poisoned, fun s w up memory => ?noMemory, fun s w v runs bar0 here words => ?errors,
    fun s w up clear => ?pf1, fun s w alone => ?twin⟩
  case low =>
    have ring := baseWritten_ring s n false v.toNat
    have written : s.registerWrite .pf0 w = s.baseWritten n.val false v.toNat := by
      rw [registerWrite_space up memory bar0 sound, words, here, spaceWrite_one (by omega), wordWrite_whole (by omega)]
      exact (plainWrite_address (k := 0) .pf0 n (by decide) v.toNat).trans (ringAddress_low .pf0 n off v.toNat)
    refine ⟨_, completes_of_ran (congrArg (ran s) written), (baseWritten_only ..).only, ?_, ?_, ?_,
      baseWritten_accessFault ..⟩ <;> rw [ring]
    · rfl
    · rfl
    · exact off
  case locked =>
    have written : s.registerWrite .pf0 w = s.accessFault w.offset afLocked .pf0 := by
      rw [registerWrite_space up memory bar0 sound, words, here, spaceWrite_one (by omega), wordWrite_whole (by omega)]
      exact (plainWrite_address (k := 0) .pf0 n (by decide) v.toNat).trans (ringAddress_enabled on .pf0 0 v.toNat)
    exact ⟨_, completes_of_ran (congrArg (ran s) written), (accessFault_only ..).only,
      accessFault_shown s (by omega) (by omega) afLocked .pf0⟩
  case both =>
    have first := baseWritten_ring s n false v0.toNat
    have second := baseWritten_ring (s.baseWritten n.val false v0.toNat) n true v1.toNat
    have still : ((s.baseWritten n.val false v0.toNat).ring n.val).enable = false := by
      rw [first]
      exact off
    have written : s.registerWrite .pf0 w = (s.baseWritten n.val false v0.toNat).baseWritten n.val true v1.toNat := by
      rw [registerWrite_space up memory bar0 sound, words, here, spaceWrite_two (by omega), wordWrite_whole (by omega),
        wordWrite_whole (by omega), plainWrite_address .pf0 n (by decide) v1.toNat]
      have base := (plainWrite_address (s := s) (k := 0) .pf0 n (by decide) v0.toNat).trans
        (ringAddress_low .pf0 n off v0.toNat)
      rw [Nat.add_zero] at base
      rw [base, ringAddress_high .pf0 n still]
    refine ⟨_, completes_of_ran (congrArg (ran s) written), ((baseWritten_only ..).next (baseWritten_only ..)).only, ?_⟩
    rw [second, first]
    have lt := v0.isLt
    simp only [Ring.withBase, setHalf, Bool.false_eq_true, ↓reduceIte]
    omega
  case part =>
    have written : s.registerWrite .pf0 w = s.accessFault w.offset afPartial .pf0 := by
      rw [registerWrite_space up memory bar0 sound, words, spaceWrite_one aligned, wordWrite_partial (.inl small) v part]
    exact ⟨_, completes_of_ran (congrArg (ran s) written), (accessFault_only ..).only,
      accessFault_shown s aligned (small.trans (by decide)) afPartial .pf0⟩
  case long =>
    have written : s.registerWrite .pf0 w = s.accessFault w.offset afLong .pf0 := by
      rw [registerWrite_space up memory bar0 sound, spaceWrite_long (.inl small) aligned long]
    exact ⟨_, completes_of_ran (congrArg (ran s) written), (accessFault_only ..).only,
      accessFault_shown s aligned (small.trans (by decide)) afLong .pf0⟩
  case poisoned =>
    obtain ⟨c, hf, status⟩ := aerError_pf0 s .poisonedTlp false
    refine ⟨_, completes_of_ran (congrArg (ran s) (registerWrite_poisoned up memory poisoned)), (aerError_only ..).only,
      ?_, ?_⟩ <;> rw [hf]
    exact status
  case noMemory =>
    obtain ⟨c, hf, status⟩ := aerError_pf0 s .unsupportedRequest false
    refine ⟨_, completes_of_ran (congrArg (ran s) (registerWrite_noMemory up memory)), (aerError_only ..).only,
      ?_, ?_⟩ <;> rw [hf]
    exact status
  case errors => exact completes_of_ran (congrArg (ran s) (registerWrite_errors w runs bar0 here words))
  case pf1 =>
    exact ⟨s.refusePf1 false,
      completes_of_ran (congrArg (ran s) (admitHost_insecure up false (fun s => s.hostReaches .pf1 w) id clear)),
      (refusePf1_only ..).only, (refusePf1_hf s false).1⟩
  case twin => exact completes_of_ran (congrArg (ran s) (twinWrite_alone alone _ _))

end Sys2Proof.Machine
end

section
namespace Sys2Proof.Machine

set_option Elab.async false

/-! ## What a refused write leaves (R305) -/

/-- The outcome of a write that an object decides: refused, it leaves the state as it was (R305). -/
def KeepsOnRefusal (s : State) (t : Taken) : Prop := t.1 ≠ 0 → t.2 = s

section
variable {s : State} {t u : Taken}

theorem KeepsOnRefusal.of_taken (v : State) : KeepsOnRefusal s (taken v) := fun h => absurd rfl h

theorem KeepsOnRefusal.of_refused (code : Nat) : KeepsOnRefusal s (refuse code s) := fun _ => rfl

theorem KeepsOnRefusal.ite {c : Prop} [Decidable c] (h : KeepsOnRefusal s t) (k : KeepsOnRefusal s u) :
    KeepsOnRefusal s (if c then t else u) := by
  split <;> assumption

end

theorem storeCmd_keepsOnRefusal (s : State) (v : Nat) : KeepsOnRefusal s (s.storeCmd v) :=
  .ite (.of_refused _) (.of_taken _)

theorem ownerKeyWrite_keepsOnRefusal (s : State) (data : List Byte) : KeepsOnRefusal s (s.ownerKeyWrite data) :=
  .ite (.of_refused _) (.of_taken _)

theorem lcAdvanceWrite_keepsOnRefusal (s : State) (v : Nat) : KeepsOnRefusal s (s.lcAdvanceWrite v) :=
  .ite (.of_refused _) (.of_taken _)

theorem lcReturnWrite_keepsOnRefusal (s : State) (data : List Byte) : KeepsOnRefusal s (s.lcReturnWrite data) :=
  .ite (.of_refused _) (.ite (.of_taken _) (.of_refused _))

theorem sigCheckWrite_keepsOnRefusal (s : State) (v : Nat) : KeepsOnRefusal s (s.sigCheckWrite v) :=
  .ite (.of_refused _) (.of_taken _)

theorem setTimeOfDay_keepsOnRefusal (s : State) (v : Nat) : KeepsOnRefusal s (s.setTimeOfDay v) :=
  .ite (.of_taken _) (.of_refused _)

theorem setTime_keepsOnRefusal (s : State) (v : Nat) : KeepsOnRefusal s (s.setTime v) :=
  .ite (.of_taken _) (.of_taken _)

theorem updateBegin_keepsOnRefusal (s : State) : KeepsOnRefusal s s.updateBegin :=
  .ite (.of_taken _) (.of_refused _)

theorem updateVerify_keepsOnRefusal (s : State) : KeepsOnRefusal s s.updateVerify :=
  .ite (.of_taken _) (.of_refused _)

theorem updateCommit_keepsOnRefusal (s : State) : KeepsOnRefusal s s.updateCommit :=
  .ite (.of_taken _) (.of_refused _)

theorem updateAbort_keepsOnRefusal (s : State) : KeepsOnRefusal s s.updateAbort :=
  .ite (.ite (.of_taken _) (.of_taken _)) (.of_refused _)

theorem updateCmd_keepsOnRefusal (s : State) (v : Nat) : KeepsOnRefusal s (s.updateCmd v) :=
  .ite (updateBegin_keepsOnRefusal s) (.ite (updateVerify_keepsOnRefusal s) (.ite (updateCommit_keepsOnRefusal s)
    (.ite (updateAbort_keepsOnRefusal s) (.of_taken _))))

theorem updateDataWrite_keepsOnRefusal (s : State) (data : List Byte) : KeepsOnRefusal s (s.updateDataWrite data) :=
  .ite (.of_refused _) (.ite (.of_refused _) (.of_taken _))

theorem keyLoad_keepsOnRefusal (s : State) (data : List Byte) : KeepsOnRefusal s (s.keyLoad data) :=
  .ite (.of_refused _) (.ite (.of_refused _) (.ite (.of_refused _) (.ite (.of_refused _)
    (.ite (.of_refused _) (.of_taken _)))))

theorem keyErase_keepsOnRefusal (s : State) (id : Nat) : KeepsOnRefusal s (s.keyErase id) :=
  .ite (.of_refused _) (.ite (.of_refused _) (.ite (.of_refused _) (.of_taken _)))

theorem useReset_keepsOnRefusal (s : State) : KeepsOnRefusal s s.useReset :=
  .ite (.of_taken _) (.of_refused _)

theorem segRelease_keepsOnRefusal (s : State) (g : Nat) : KeepsOnRefusal s (s.segRelease g) :=
  .ite (.of_refused _) (.ite (.of_refused _) (.of_taken _))

theorem calStart_keepsOnRefusal (s : State) (mask : Nat) : KeepsOnRefusal s (s.calStart mask) :=
  .ite (.of_refused _) (.ite (.of_refused _) (.of_taken _))

theorem rdStart_keepsOnRefusal (s : State) : KeepsOnRefusal s s.rdStart := by
  refine .ite (.of_refused _) (.ite (.of_refused _) ?_)
  split
  · exact .of_taken _
  · exact .of_refused _

theorem queueHost_keepsOnRefusal (s : State) (n : Nat) (data : List Byte) : KeepsOnRefusal s (s.queueHost n data) :=
  .ite (.of_refused _) (.ite (.of_refused _) (.of_taken _))

theorem roleSwapWrite_keepsOnRefusal (s : State) : KeepsOnRefusal s s.roleSwapWrite :=
  .ite (.of_refused _) (.of_taken _)

theorem detachWrite_keepsOnRefusal (s : State) : KeepsOnRefusal s s.detachWrite :=
  .ite (.of_refused _) (.of_taken _)

/-- Of the service, mode and time objects LC_DEBUG_AUTH alone counts what it refuses (R407). -/
theorem applyService_keepsOnRefusal {s : State} {index sub : Nat} {data : List Byte} {t : Taken}
    (counted : ¬ (index = 0x1100 ∧ sub = 6)) (h : s.applyService index sub data = some t) : KeepsOnRefusal s t := by
  unfold State.applyService at h
  dsimp only at h
  split at h <;> cases h
  · exact storeCmd_keepsOnRefusal s _
  · exact ownerKeyWrite_keepsOnRefusal s _
  · exact lcAdvanceWrite_keepsOnRefusal s _
  · exact absurd ⟨rfl, rfl⟩ counted
  · exact lcReturnWrite_keepsOnRefusal s _
  · exact sigCheckWrite_keepsOnRefusal s _
  · exact .of_taken _
  · exact .of_taken _
  · exact .of_taken _
  · exact setTimeOfDay_keepsOnRefusal s _
  · exact setTime_keepsOnRefusal s _
  · exact .of_taken _
  · exact .of_taken _
  · exact updateCmd_keepsOnRefusal s _
  · exact updateDataWrite_keepsOnRefusal s _
  · exact keyLoad_keepsOnRefusal s _
  · exact keyErase_keepsOnRefusal s _
  · exact useReset_keepsOnRefusal s

theorem applyUnit_keepsOnRefusal {s : State} {index sub : Nat} {data : List Byte} {t : Taken}
    (h : s.applyUnit index sub data = some t) : KeepsOnRefusal s t := by
  unfold State.applyUnit at h
  dsimp only at h
  split at h
  · cases h; exact segRelease_keepsOnRefusal s _
  · cases h; exact calStart_keepsOnRefusal s _
  · cases h; exact .ite (.of_taken _) (.of_refused _)
  · cases h; exact .ite (rdStart_keepsOnRefusal s) (.of_taken _)
  · cases h; exact roleSwapWrite_keepsOnRefusal s
  · cases h; exact detachWrite_keepsOnRefusal s
  · split at h
    · split at h <;> cases h
      · exact queueHost_keepsOnRefusal s _ _
      · exact .of_taken _
    · cases h

theorem applyWrite_keepsOnRefusal {s : State} (r : Row) {index sub : Nat} {data : List Byte}
    (counted : ¬ (index = 0x1100 ∧ sub = 6)) : KeepsOnRefusal s (s.applyWrite r index sub data) := by
  unfold State.applyWrite
  refine .ite (.of_taken _) ?_
  split
  · next h => exact applyService_keepsOnRefusal counted h
  split
  · next h => exact applyUnit_keepsOnRefusal h
  · exact .of_taken _

/-- A write that is refused leaves the state as it was, but for the count of LC_DEBUG_AUTH (R305, R407). -/
theorem dictWrite_keepsOnRefusal (s : State) (via : Path) {index sub : Nat} (data : List Byte)
    (counted : ¬ (index = 0x1100 ∧ sub = 6)) : KeepsOnRefusal s (s.dictWrite via index sub data) := by
  unfold State.dictWrite
  refine .ite (.of_refused _) ?_
  split
  · exact .of_refused _
  · exact .ite (.of_refused _) (applyWrite_keepsOnRefusal _ counted)

/-! ## The checks of a write, in the order of Table 10.2 -/

section
variable {s : State} {via : Path} {index sub : Nat} {data : List Byte}

theorem dictWrite_denied (h : accessCode via index sub true ≠ 0) :
    (s.dictWrite via index sub data).1 = accessCode via index sub true := by
  unfold State.dictWrite
  rw [if_pos (by simpa using h)]
  rfl

theorem accessCode_absent (write : Bool) (h : objectRow index sub = none) :
    accessCode via index sub write = if keyArea index || indexKnown index then abNoSubindex else abNoObject := by
  simp only [accessCode, h]

variable {r : Row} (row : objectRow index sub = some r)
include row

theorem accessCode_insecure (write : Bool) (h : ((keyArea index || r.acc.secure) && !secureVia via) = true) :
    accessCode via index sub write = abSecureOnly := by
  simp only [accessCode, row]
  exact if_pos h

theorem accessCode_write (h : ((keyArea index || r.acc.secure) && !secureVia via) = false) :
    accessCode via index sub true = if r.acc.writable then 0 else abReadOnly := by
  simp only [accessCode, row]
  rw [if_neg (by simp only [h]; decide)]
  cases r.acc.writable <;> rfl

variable (access : accessCode via index sub true = 0)
include access

theorem dictWrite_refused (h : s.writeCode via r index sub data ≠ 0) :
    (s.dictWrite via index sub data).1 = s.writeCode via r index sub data := by
  simp [State.dictWrite, access, row, h, refuse]

/-- A check from LIFE_CYCLE to LENGTH that fails decides the answer. -/
theorem dictWrite_gated {code : Nat} (h : s.gateCode via r index sub data = code) (fails : code ≠ 0) :
    (s.dictWrite via index sub data).1 = code := by
  have write : s.writeCode via r index sub data = code := by
    unfold State.writeCode
    rw [if_pos (by simpa [h] using fails), h]
  rw [dictWrite_refused row access (by rwa [write]), write]

end

section
variable {s : State} {via : Path} {r : Row} {index sub : Nat} {data : List Byte}

theorem gateCode_lifeCycle (h : s.lifeForbids index sub data = true) :
    s.gateCode via r index sub data = abLifeCycle := if_pos h

variable (life : s.lifeForbids index sub data = false)
include life

theorem gateCode_twinManaged (h : s.twinManaged via r index sub = true) :
    s.gateCode via r index sub data = abTwinManaged := by
  simp [State.gateCode, life, h]

variable (twin : s.twinManaged via r index sub = false)
include twin

theorem gateCode_modeState (staged : r.staged (key index sub) = true) (rwa : r.acc = .rwa) (h : s.modeLets via = false) :
    s.gateCode via r index sub data = abModeState := by
  simp [State.gateCode, life, twin, staged, rwa, h]

variable (lets : r.acc ≠ .rwa ∨ s.modeLets via = true)
include lets

/-- Behind the check of the mode: the frozen set, then the length (Table 10.2). -/
theorem gateCode_lets : s.gateCode via r index sub data =
    if (r.staged (key index sub) || pairOrder index sub) && s.stageFrozen then abStageFrozen
    else if !r.ty.lengthOk data.length then abLength else 0 := by
  have mode : ¬ (r.staged (key index sub) && r.acc == .rwa && !s.modeLets via) = true := by
    rcases lets with h | h <;> simp [h]
  unfold State.gateCode
  rw [if_neg (by simp [life]), if_neg (by simp [twin]), if_neg mode]

end

theorem dictWrite_valueRange {s : State} {via : Path} {index sub : Nat} {data : List Byte} {r : Row}
    (row : objectRow index sub = some r) (access : accessCode via index sub true = 0)
    (gate : s.gateCode via r index sub data = 0) (h : r.ty.valueOk data = false ∨ r.ok (leNat data) = false) :
    (s.dictWrite via index sub data).1 = abValueRange := by
  have range : ¬ (r.ty.valueOk data && r.ok (leNat data)) = true := by
    rcases h with h | h <;> simp [h]
  have write : s.writeCode via r index sub data = abValueRange := by
    unfold State.writeCode
    rw [if_neg (by simp [gate]), if_pos (by simpa only [Bool.not_eq_true', Bool.not_eq_true] using range)]
  rw [dictWrite_refused row access (by rw [write]; decide), write]

/-- Settles O35: what refuses a write is a check of Table 10.2, one after the other, or the object, which then changes
nothing. -/
theorem refusedWritesChangeNothing : Obligations.RefusedWritesChangeNothing := by
  unfold Obligations.RefusedWritesChangeNothing
  refine fun s via index sub data => ⟨fun stands => ?stands, fun runs refused counted => ?refused,
    fun row keys known => ?object, fun row known => ?subindex, fun r row => ⟨fun secure => ?secure,
      fun open_ fixed => ?readOnly, fun open_ writable => ⟨fun forbids => ?lifeCycle, fun life =>
        ⟨fun managed => ?twin, fun twin => ⟨fun staged rwa shut => ?mode, fun lets => ⟨fun staged frozen => ?frozen,
          fun loose => ⟨fun long => ?length, fun whole range => ?range⟩⟩⟩⟩⟩⟩⟩
  case stands => exact completes_of_ran (congrArg (ran s) (if_neg (by simp [stands])))
  case refused =>
    refine completes_of_ran (congrArg (ran s) ?_)
    unfold State.request
    rw [if_pos runs]
    dsimp only
    rw [dictWrite_keepsOnRefusal s via data counted refused]
    exact if_neg (by simp [refused])
  case object =>
    have code := accessCode_absent (via := via) true row
    rw [keys, known] at code
    rw [dictWrite_denied (by rw [code]; decide), code]
    rfl
  case subindex =>
    have code := accessCode_absent (via := via) true row
    rw [if_pos (by simpa using known)] at code
    rw [dictWrite_denied (by rw [code]; decide), code]
  case secure =>
    have code := accessCode_insecure row true secure
    rw [dictWrite_denied (by rw [code]; decide), code]
  case readOnly =>
    have code := accessCode_write row open_
    rw [fixed] at code
    rw [dictWrite_denied (by rw [code]; decide), code]
    rfl
  all_goals
    have access := accessCode_write row open_
    rw [writable] at access
  case lifeCycle => exact dictWrite_gated row access (gateCode_lifeCycle forbids) (by decide)
  case twin => exact dictWrite_gated row access (gateCode_twinManaged life managed) (by decide)
  case mode => exact dictWrite_gated row access (gateCode_modeState life twin staged rwa shut) (by decide)
  all_goals have gate := gateCode_lets life twin lets
  case frozen => exact dictWrite_gated row access (gate.trans (if_pos (by simp [staged, frozen]))) (by decide)
  case length => exact dictWrite_gated row access (gate.trans (by simp [loose, long])) (by decide)
  case range => exact dictWrite_valueRange row access (gate.trans (by simp [loose, whole])) range

end Sys2Proof.Machine
end

section
namespace Sys2Proof.Machine

set_option Elab.async false

/-! ## A part that is set -/

theorem setDict_only (s : State) (d : Dict) : Alters [.dict] s { s with dict := d } :=
  .set fun p hp => by cases p <;> first | rfl | exact absurd ((Part.mem_bits ..).2 rfl) hp

theorem setTwin_only (s : State) (m : Twin) : Alters [.twin] s { s with twin := m } :=
  .set fun p hp => by cases p <;> first | rfl | exact absurd ((Part.mem_bits ..).2 rfl) hp

theorem setDictAreas_only (s : State) (d : Dict) (areas : Vector (Option DictArea) 2) :
    Alters [.dict, .nv] s { s with dict := d, nv.areas := areas } :=
  .set fun p hp => by cases p <;> first | rfl | exact absurd ((Part.mem_bits ..).2 rfl) hp

/-! ## The store (R310 to R312) -/

section
variable {s : State} (records : List (Nat × Nat))

theorem startStore_busy (h : s.dict.storeState = 1 ∨ s.fm.updateState = 4) : s.startStore records = refuse abBusy s :=
  if_pos (by simpa [usCommitting] using h)

/-- A store that begins: its area holds the records, and no commit word yet (R310, R311). -/
theorem startStore_begins (idle : s.dict.storeState ≠ 1) (free : s.fm.updateState ≠ 4) :
    s.startStore records = taken { s with
      dict.storeState := 1, dict.storing := some records
      nv.areas := s.nv.areas.set s.storeTarget (some { generation := s.storeGeneration + 1, good := false, records }) } :=
  if_neg (by simpa [usCommitting] using ⟨idle, free⟩)

end

/-- A write of STORE to STORE_CMD that passes is answered as the store of a snapshot decides (R310). -/
theorem request_store {s : State} {via : Path} (h : Passes s via 0x1080 1 (leBytes 2 0x5354)) :
    s.request via 0x1080 1 (leBytes 2 0x5354) =
      (s.startStore s.snapshot).2.answer via 0x1080 1 (s.startStore s.snapshot).1 :=
  h.service rfl

/-- Of the other listed code the store holds no record (R312). -/
theorem request_erase {s : State} {via : Path} (h : Passes s via 0x1080 1 (leBytes 2 0x4446)) :
    s.request via 0x1080 1 (leBytes 2 0x4446) = (s.startStore []).2.answer via 0x1080 1 (s.startStore []).1 :=
  h.service rfl

theorem storeEnds_idle {s : State} (h : s.dict.storing = none) (ok : Bool) : s.storeEnds ok = s := by
  simp [State.storeEnds, h]

section
variable {s : State} {records : List (Nat × Nat)} (storing : s.dict.storing = some records)
include storing

/-- The commit word makes the area good (R311). -/
theorem storeEnds_committed : s.storeEnds true = { s with
    dict.storing := none, dict.storeState := 2
    nv.areas := s.nv.areas.set s.storeTarget (s.nv.areas[s.storeTarget].map fun a => { a with good := true }) } := by
  simp only [State.storeEnds, storing]
  rfl

theorem storeEnds_failed : s.storeEnds false =
    ({ s with dict.storing := none, dict.storeState := 3 } : State).fault .notice .storeFailed .foreman := by
  simp only [State.storeEnds, storing]
  rfl

end

/-- Settles O37: a store is refused or begins, and ends with its commit word or with a Notice. -/
theorem storeCommands : Obligations.StoreCommands := by
  unfold Obligations.StoreCommands
  refine ⟨fun s via h => ⟨fun busy => ?busy, fun idle free => ?store⟩, fun s via h idle free => ?erase,
    fun s l storing => ⟨?committed, ?failed⟩,
    fun s ok none_ => completes_of_ran (congrArg (ran s) (storeEnds_idle none_ ok))⟩
  case busy =>
    have taken := request_store h
    rw [startStore_busy _ busy] at taken
    exact completes_of_ran (congrArg (ran s) taken)
  case store =>
    have taken := request_store h
    have only := startStore_only s s.snapshot
    rw [startStore_begins _ idle free] at taken only
    exact ⟨_, completes_of_ran (congrArg (ran s) taken), ((answer_only ..).next only.mono).only, rfl, rfl, rfl, rfl⟩
  case erase =>
    have taken := request_erase h
    have only := startStore_only s []
    rw [startStore_begins _ idle free] at taken only
    exact ⟨_, completes_of_ran (congrArg (ran s) taken), ((answer_only ..).next only.mono).only, rfl, rfl, rfl⟩
  case committed =>
    exact ⟨_, completes_of_ran (congrArg (ran s) (storeEnds_committed storing)),
      (setDictAreas_only s _ _).only, rfl, rfl, rfl⟩
  case failed =>
    have only := fault_only { s with dict.storing := none, dict.storeState := 3 } .notice .storeFailed .foreman 0xFF []
    refine ⟨_, completes_of_ran (congrArg (ran s) (storeEnds_failed storing)), congrArg Dict.storing only.dict,
      congrArg Dict.storeState only.dict, congrArg Nv.areas only.nv, fun idle runs => ?_⟩
    obtain ⟨-, handling, -, -⟩ := raiseFault_idle_spec (s := { s with dict.storing := none, dict.storeState := 3 })
      (f := { cls := .notice, unit := .foreman, code := .storeFailed, inst := 0xFF, detail := [] }) idle runs
    exact ⟨_, handling, rfl, rfl⟩

end Sys2Proof.Machine
end

section
namespace Sys2Proof.Machine

set_option Elab.async false

/-! ## What the dictionary leaves of its transports (R315, R323) -/

/-- Of the dictionary's part only live values and the store differ: its CAN ports, its window and its counters are as
they were. -/
def TransportsKept (s t : State) : Prop :=
  ∃ (live : ObjMap) (st : Nat) (storing : Option (List (Nat × Nat))),
    t.dict = { s.dict with live, storeState := st, storing }

section
variable {s t : State}

theorem TransportsKept.of_eq (h : t.dict = s.dict) : TransportsKept s t := ⟨_, _, _, h⟩

theorem TransportsKept.refl (s : State) : TransportsKept s s := .of_eq rfl

theorem TransportsKept.ite {c : Prop} [Decidable c] {x y : Taken} (h : TransportsKept s x.2) (k : TransportsKept s y.2) :
    TransportsKept s (if c then x else y).2 := by
  split <;> assumption

variable (k : TransportsKept s t)
include k

theorem TransportsKept.can (p : CanPort) : t.can p = s.can p := by
  obtain ⟨live, st, storing, e⟩ := k
  cases p
  · exact (congrArg Dict.canA e :)
  · exact (congrArg Dict.canB e :)

theorem TransportsKept.winSlot (fn : Fn) (n : Nat) : t.winSlot fn n = s.winSlot fn n := by
  obtain ⟨live, st, storing, e⟩ := k
  cases fn
  · exact (congrArg (fun d : Dict => vget d.slots0 n {}) e :)
  · exact (congrArg (fun d : Dict => vget d.slots1 n {}) e :)

theorem TransportsKept.winRequests : t.dict.winRequests = s.dict.winRequests := by
  obtain ⟨live, st, storing, e⟩ := k
  exact (congrArg Dict.winRequests e :)

end

theorem writeLive_transportsKept (s : State) (index sub v : Nat) : TransportsKept s (s.writeLive index sub v) :=
  ⟨_, _, _, rfl⟩

theorem startStore_transportsKept (s : State) (records : List (Nat × Nat)) :
    TransportsKept s (s.startStore records).2 :=
  .ite (.refl s) ⟨_, _, _, rfl⟩

theorem updateDataWrite_transportsKept (s : State) (data : List Byte) : TransportsKept s (s.updateDataWrite data).2 :=
  .ite (.refl s) (.ite (.refl s) ⟨_, _, _, rfl⟩)

theorem ppsOutModeWrite_transportsKept (s : State) (v : Nat) : TransportsKept s (s.ppsOutModeWrite v) := by
  unfold State.ppsOutModeWrite
  have live := writeLive_transportsKept s 0x2100 0x12 v
  split
  · obtain ⟨m, st, storing, e⟩ := live
    exact ⟨m, st, storing, (setPpsOut_only ..).dict.trans e⟩
  · exact live

theorem readLog_transportsKept (s : State) : TransportsKept s s.readLog.2 := by
  unfold State.readLog
  dsimp only
  split
  · exact ⟨_, _, _, rfl⟩
  · exact .refl s

theorem applyService_transportsKept {s : State} {index sub : Nat} {data : List Byte} {t : Taken}
    (h : s.applyService index sub data = some t) : TransportsKept s t.2 := by
  unfold State.applyService at h
  dsimp only at h
  split at h <;> cases h
  · exact startStore_transportsKept ..
  · exact .of_eq (ownerKeyWrite_only ..).dict
  · exact .of_eq (lcAdvanceWrite_only ..).dict
  · exact .of_eq (debugAuth_only ..).dict
  · exact .of_eq (lcReturnWrite_only ..).dict
  · exact .of_eq (sigCheckWrite_only ..).dict
  · show TransportsKept s (if leNat data = 1 then s.commit else s.cancel)
    split
    · exact .of_eq (commit_only s).dict
    · exact .of_eq (cancel_only s).dict
  · exact .refl s
  · exact ppsOutModeWrite_transportsKept ..
  · exact .of_eq (setTimeOfDay_only ..).dict
  · exact .of_eq (setTime_only ..).dict
  · exact .of_eq (logClear_only s).dict
  · exact .of_eq (faultAck_only s).dict
  · exact .of_eq (updateCmd_only ..).dict
  · exact updateDataWrite_transportsKept ..
  · exact .of_eq (keyLoad_only ..).dict
  · exact .of_eq (keyErase_only ..).dict
  · exact .of_eq (useReset_only s).dict

theorem applyUnit_transportsKept {s : State} {index sub : Nat} {data : List Byte} {t : Taken}
    (h : s.applyUnit index sub data = some t) : TransportsKept s t.2 := by
  unfold State.applyUnit at h
  dsimp only at h
  split at h
  · cases h; exact .of_eq (segRelease_only ..).dict
  · cases h; exact .of_eq (calStart_only ..).dict
  · cases h; exact .ite (writeLive_transportsKept ..) (.refl s)
  · cases h; exact .ite (.of_eq (rdStart_only s).dict) (.of_eq (rdStop_only s).dict)
  · cases h; exact .of_eq (roleSwapWrite_only s).dict
  · cases h; exact .of_eq (detachWrite_only s).dict
  · split at h
    · split at h <;> cases h
      · exact .of_eq (queueHost_only ..).dict
      · exact .of_eq (onLink_only ..).dict
    · cases h

theorem applyWrite_transportsKept (s : State) (r : Row) (index sub : Nat) (data : List Byte) :
    TransportsKept s (s.applyWrite r index sub data).2 := by
  unfold State.applyWrite
  refine .ite (.of_eq (stage_only ..).dict) ?_
  split
  · next h => exact applyService_transportsKept h
  split
  · next h => exact applyUnit_transportsKept h
  · exact writeLive_transportsKept ..

/-- No write of an object reaches a CAN port or a slot of the window. -/
theorem dictWrite_transportsKept (s : State) (via : Path) (index sub : Nat) (data : List Byte) :
    TransportsKept s (s.dictWrite via index sub data).2 := by
  unfold State.dictWrite
  refine .ite (.refl s) ?_
  split
  · exact .refl s
  · exact .ite (.refl s) (applyWrite_transportsKept ..)

theorem readObject_transportsKept (s : State) (r : Row) (index sub : Nat) :
    TransportsKept s (s.readObject r index sub).2 := by
  unfold State.readObject
  split
  · exact .refl s
  split
  · exact readLog_transportsKept s
  split
  · exact .of_eq (readChallenge_only s).dict
  split
  · exact .refl s
  split
  · exact .of_eq (readSensor_only ..).dict
  split <;> exact .refl s

/-- No read of an object reaches a CAN port or a slot of the window. -/
theorem dictRead_transportsKept (s : State) (via : Path) (index sub : Nat) :
    TransportsKept s (s.dictRead via index sub).2.2 := by
  unfold State.dictRead
  split
  · exact .refl s
  split
  · exact .refl s
  split
  · exact .refl s
  · exact readObject_transportsKept ..

end Sys2Proof.Machine
end

section
namespace Sys2Proof.Machine

set_option Elab.async false

/-! ## A CAN port after an operation (R315 to R317) -/

@[simp] theorem can_onCan (s : State) (p : CanPort) (f : Can → Can) : (s.onCan p f).can p = f (s.can p) := by
  cases p <;> rfl

@[simp] theorem onCan_live (s : State) (p : CanPort) (f : Can → Can) : (s.onCan p f).dict.live = s.dict.live := by
  cases p <;> rfl

@[simp] theorem confine_transfers (c : Can) : c.confine.transfers = c.transfers := by
  unfold Can.confine
  split
  · rfl
  split <;> rfl

@[simp] theorem confine_restarts (c : Can) : c.confine.restarts = c.restarts := by
  unfold Can.confine
  split
  · rfl
  split <;> rfl

/-- The transfers open on a port and its count of restarts are as they were, and so are the live values. -/
structure ContextsKept (p : CanPort) (s t : State) : Prop where
  transfers : (t.can p).transfers = (s.can p).transfers
  restarts : (t.can p).restarts = (s.can p).restarts
  live : t.dict.live = s.dict.live

section
variable {p : CanPort} {s t u : State}

theorem ContextsKept.refl (p : CanPort) (s : State) : ContextsKept p s s := ⟨rfl, rfl, rfl⟩

theorem ContextsKept.trans (h : ContextsKept p s t) (k : ContextsKept p t u) : ContextsKept p s u :=
  ⟨k.transfers.trans h.transfers, k.restarts.trans h.restarts, k.live.trans h.live⟩

theorem ContextsKept.transfer (h : ContextsKept p s t) (client : BitVec 8) : t.transfer p client = s.transfer p client :=
  congrArg (List.find? fun x : Transfer => x.client == client) h.transfers

end

section
variable (s : State) (p : CanPort)

theorem onCan_contextsKept {f : Can → Can} (ht : (f (s.can p)).transfers = (s.can p).transfers)
    (hr : (f (s.can p)).restarts = (s.can p).restarts) : ContextsKept p s (s.onCan p f) :=
  ⟨by rw [can_onCan, ht], by rw [can_onCan, hr], onCan_live s p f⟩

theorem canReply_contextsKept (bytes : List Byte) : ContextsKept p s (s.canReply p bytes) := by
  unfold State.canReply State.sendCan
  split
  · have kept := onCan_contextsKept s p
      (f := fun c => ({ c with txFrames := inc64 c.txFrames, tec := c.tec - 1 } : Can).confine)
      (confine_transfers _) (confine_restarts _)
    cases p <;> exact ⟨kept.transfers, kept.restarts, kept.live⟩
  · exact .refl p s

theorem canAbortSend_contextsKept (client : BitVec 8) (index sub token code : Nat) :
    ContextsKept p s (s.canAbortSend p client index sub token code) :=
  (onCan_contextsKept s p (f := fun c => { c with abortsSent := inc32 c.abortsSent }) rfl rfl).trans
    (canReply_contextsKept ..)

theorem canHeard_contextsKept (brs : Bool) : ContextsKept p s (s.canHeard p brs) :=
  onCan_contextsKept s p (confine_transfers _) (confine_restarts _)

/-! ## A client's transfer (R320) -/

@[simp] theorem closeTransfer_transfer (client : BitVec 8) : (s.closeTransfer p client).transfer p client = none := by
  simp [State.transfer, State.closeTransfer]

@[simp] theorem putTransfer_transfer (x : Transfer) : (s.putTransfer p x).transfer p x.client = some x := by
  have others : ((s.can p).transfers.filter fun y => y.client != x.client).find? (fun y => y.client == x.client) = none := by
    simp
  simp [State.transfer, State.putTransfer, List.find?_append, others]

theorem closeTransfer_restarts (client : BitVec 8) : ((s.closeTransfer p client).can p).restarts = (s.can p).restarts := by
  simp [State.closeTransfer]

theorem closeTransfer_live (client : BitVec 8) : (s.closeTransfer p client).dict.live = s.dict.live := onCan_live ..

theorem putTransfer_restarts (x : Transfer) : ((s.putTransfer p x).can p).restarts = (s.can p).restarts := by
  simp [State.putTransfer]

end

section
variable {s : State} {p : CanPort} {client : BitVec 8}

theorem restartTransfer_none (fresh : s.transfer p client = none) : s.restartTransfer p client = s := by
  simp [State.restartTransfer, fresh]

theorem restartTransfer_some {x : Transfer} (opened : s.transfer p client = some x) :
    ((s.restartTransfer p client).can p).restarts = inc32 (s.can p).restarts ∧
      (s.restartTransfer p client).transfer p client = none := by
  have closed := closeTransfer_transfer s p client
  have restarts := closeTransfer_restarts s p client
  simp only [State.restartTransfer, opened]
  refine ⟨by rw [can_onCan, restarts], ?_⟩
  simpa only [State.transfer, can_onCan] using closed

/-! ## Frames heard (R316, R318) -/

variable {brs : Bool} (takes : s.canTakes p = true) (f : State → State)
include takes

theorem canFrom_heard (known : clientOk client = true) : s.canFrom p client brs f = f (s.canHeard p brs) := by
  simp [State.canFrom, takes, known]

theorem canFrom_ignored (unknown : clientOk client = false) : s.canFrom p client brs f = s.canIgnore p := by
  simp [State.canFrom, takes, unknown]

end

/-! ## Requests (R318 to R321) -/

/-- A requester waits for the twin's result (R331). -/
def State.awaitResult (s : State) (o : PartnerOrigin) : State :=
  { s with dict.partnerRequests := inc32 s.dict.partnerRequests, twin.partnerWaiting := s.twin.partnerWaiting ++ [o] }

theorem passPartner_eq (s : State) (o : PartnerOrigin) (r : PartnerReq) :
    s.passPartner o r = (s.awaitResult o).xcSend (.partnerRequest r) := rfl

theorem passPartner_dict (s : State) (o : PartnerOrigin) (r : PartnerReq) :
    (s.passPartner o r).dict = { s.dict with partnerRequests := inc32 s.dict.partnerRequests } :=
  (xcSend_only (s.awaitResult o) (.partnerRequest r)).dict

theorem passPartner_contextsKept (s : State) (p : CanPort) (o : PartnerOrigin) (r : PartnerReq) :
    ContextsKept p s (s.passPartner o r) := by
  have dict := passPartner_dict s o r
  have port : (s.passPartner o r).can p = s.can p := by
    cases p
    · exact (congrArg Dict.canA dict :)
    · exact (congrArg Dict.canB dict :)
  exact ⟨by rw [port], by rw [port], (congrArg Dict.live dict :)⟩

theorem canValue_restarts (s : State) (p : CanPort) (client : BitVec 8) (index sub token : Nat) (b : List Byte) :
    ((s.canValue p client index sub token b).can p).restarts = (s.can p).restarts := by
  unfold State.canValue
  split
  · exact (canReply_contextsKept ..).restarts
  · exact (canReply_contextsKept ..).restarts.trans (putTransfer_restarts ..)

/-- A read restarts its client's transfer and no other. -/
theorem canRead_restarts (s : State) (p : CanPort) (client : BitVec 8) (index sub token : Nat) :
    ((s.canRead p client index sub token).can p).restarts = ((s.restartTransfer p client).can p).restarts := by
  unfold State.canRead
  extract_lets u
  change _ = (u.can p).restarts
  clear_value u
  split
  · exact (canAbortSend_contextsKept ..).restarts
  split
  · split
    · exact (passPartner_contextsKept ..).restarts
    · exact (canAbortSend_contextsKept ..).restarts
  have kept := congrArg Can.restarts ((dictRead_transportsKept u (canPath p) index sub).can p)
  dsimp only
  split
  · exact (canAbortSend_contextsKept ..).restarts.trans kept
  · exact (canValue_restarts ..).trans kept

/-- A partner read opens no transfer. -/
theorem canRead_partner (s : State) (p : CanPort) {client : BitVec 8} (partner : isPartner client = true)
    (index sub token : Nat) :
    (s.canRead p client index sub token).transfer p client = (s.restartTransfer p client).transfer p client := by
  unfold State.canRead
  extract_lets u
  change _ = u.transfer p client
  clear_value u
  split
  · exact (canAbortSend_contextsKept ..).transfer client
  split
  · exact (passPartner_contextsKept ..).transfer client
  · exact (canAbortSend_contextsKept ..).transfer client

section
variable {s : State} {p : CanPort} {client : BitVec 8} {index sub token : Nat}

theorem noContext_of_room (room : (s.can p).transfers.length < 8) : s.noContext p = false :=
  decide_eq_false (by unfold contextMax; omega)

theorem noContext_of_full (full : (s.can p).transfers.length = 8) : s.noContext p = true :=
  decide_eq_true (by unfold contextMax; omega)

/-- A value of more than 56 bytes is sent as an upload (R319). -/
theorem canValue_upload {b : List Byte} (long : 56 < b.length) :
    (s.canValue p client index sub token b).transfer p client = some
      { client, upload := true, index, sub, token, len := b.length, data := b, next := 0, acked := 0 } := by
  unfold State.canValue
  rw [if_neg (by unfold expeditedMax; omega)]
  exact ((canReply_contextsKept ..).transfer client).trans (putTransfer_transfer ..)

theorem canValue_expedited {b : List Byte} (short : b.length ≤ 56) :
    s.canValue p client index sub token b = s.canReply p (objectFrame 0x90 client index sub token b.length b) :=
  if_pos short

/-- A write on the module itself is answered as the object decides (R319). -/
theorem canApply_own (own : isPartner client = false) (stays : ¬ (index = 0x2000 ∧ sub = 0x0E)) (data : List Byte) :
    s.canApply p client index sub token data = (s.dictWrite (canPath p) index sub data).2.canWritten p client index sub
      token data.length (s.dictWrite (canPath p) index sub data).1 := by
  unfold State.canApply
  rw [if_neg (by simp [own])]
  exact finish_of_ne _ _ _ _ (by simpa using stays)

variable (fresh : s.transfer p client = none)
include fresh

theorem canRead_full (full : (s.can p).transfers.length = 8) :
    s.canRead p client index sub token = s.canAbortSend p client index sub token abNoContext := by
  unfold State.canRead
  rw [restartTransfer_none fresh]
  exact if_pos (noContext_of_full full)

theorem canWrite_full (full : (s.can p).transfers.length = 8) (len : Nat) (d : List Byte) :
    s.canWrite p client index sub token len d = s.canAbortSend p client index sub token abNoContext := by
  unfold State.canWrite
  rw [restartTransfer_none fresh]
  exact if_pos (noContext_of_full full)

variable (room : (s.can p).transfers.length < 8)
include room

theorem canRead_served (own : isPartner client = false) {c : Nat} {b : List Byte} {u : State}
    (read : s.dictRead (canPath p) index sub = (c, b, u)) : s.canRead p client index sub token =
      if c ≠ 0 then u.canAbortSend p client index sub token c else u.canValue p client index sub token b := by
  unfold State.canRead
  rw [restartTransfer_none fresh]
  simp [noContext_of_room room, own, read]

theorem canWrite_served {len : Nat} {d : List Byte} (short : len ≤ 56) (whole : len ≤ d.length) :
    s.canWrite p client index sub token len d = s.canApply p client index sub token (d.take len) := by
  have fits : ¬ (decide (expeditedMax < len) || decide (d.length < len)) = true := by
    rw [Bool.or_eq_true, decide_eq_true_eq, decide_eq_true_eq, expeditedMax]
    omega
  unfold State.canWrite
  rw [restartTransfer_none fresh]
  dsimp only
  rw [if_neg (by simp [noContext_of_room room]), if_neg fits]

theorem canWrite_misfit {len : Nat} {d : List Byte} (misfit : 56 < len ∨ d.length < len) :
    s.canWrite p client index sub token len d = s.canAbortSend p client index sub token abProtocol := by
  have outside : (decide (expeditedMax < len) || decide (d.length < len)) = true := by
    rw [Bool.or_eq_true, decide_eq_true_eq, decide_eq_true_eq, expeditedMax]
    exact misfit
  unfold State.canWrite
  rw [restartTransfer_none fresh]
  dsimp only
  rw [if_neg (by simp [noContext_of_room room]), if_pos outside]

/-- WRITE_INIT whose object would be written opens the transfer (R319). -/
theorem canWriteInit_code (own : isPartner client = false) {len : Nat} (long : 56 < len) (fits : len ≤ 65472) :
    s.canWriteInit p client index sub token len =
      if s.announceCode (canPath p) index sub len ≠ 0 then
        s.canAbortSend p client index sub token (s.announceCode (canPath p) index sub len)
      else
        (s.putTransfer p { client, upload := false, index, sub, token, len, data := [], next := 0, acked := 0 }).canReply p
          (ackFrame client 0) := by
  have length : ¬ (decide (len ≤ expeditedMax) || decide (transferMax < len)) = true := by
    rw [Bool.or_eq_true, decide_eq_true_eq, decide_eq_true_eq, expeditedMax, transferMax]
    omega
  unfold State.canWriteInit
  rw [restartTransfer_none fresh]
  dsimp only
  rw [if_neg (by simp [noContext_of_room room]), if_neg length]
  simp [own]

end

end Sys2Proof.Machine
end

section
namespace Sys2Proof.Machine

set_option Elab.async false

/-! ## Segmented transfers (R319 to R322) -/

section
variable {s : State} {p : CanPort} {x : Transfer}

/-- A segment in its turn is kept (R320). -/
theorem takeSegment_kept {d : List Byte} (more : x.data.length < x.len)
    (whole : min 60 (x.len - x.data.length) ≤ d.length) :
    (s.takeSegment p x d).transfer p x.client = some { x with
      data := x.data ++ d.take (min 60 (x.len - x.data.length)), next := x.next + 1, discarding := false } := by
  have fits : ¬ (decide (min segmentBytes (x.len - x.data.length) = 0) ||
      decide (d.length < min segmentBytes (x.len - x.data.length))) = true := by
    rw [Bool.or_eq_true, decide_eq_true_eq, decide_eq_true_eq, segmentBytes]
    omega
  have put := putTransfer_transfer s p { x with
    data := x.data ++ d.take (min 60 (x.len - x.data.length)), next := x.next + 1, discarding := false }
  unfold State.takeSegment
  extract_lets want
  rw [if_neg fits]
  split
  · exact ((canReply_contextsKept ..).transfer x.client).trans put
  · exact put

/-- A segment out of its turn is asked for again, once (R320). -/
theorem missSegment_asks (first : x.discarding = false) (tries : x.resends < 8) :
    (s.missSegment p x).transfer p x.client = some { x with discarding := true, resends := x.resends + 1 } := by
  unfold State.missSegment
  rw [if_neg (by simp [first]), if_neg (by unfold resendMax; omega)]
  exact ((canReply_contextsKept ..).transfer x.client).trans
    (putTransfer_transfer s p { x with discarding := true, resends := x.resends + 1 })

theorem sendSegments_last {next : Nat} (last : segmentsOf x.len ≤ next + 16) :
    (s.sendSegments p x next).transfer p x.client = none := by
  unfold State.sendSegments
  extract_lets total stop u
  have all : stop = total := by
    simp only [stop, total, windowSegments]
    omega
  rw [if_pos all]
  exact ((canReply_contextsKept ..).transfer x.client).trans (closeTransfer_transfer ..)

theorem sendSegments_more {next : Nat} (more : next + 16 < segmentsOf x.len) :
    (s.sendSegments p x next).transfer p x.client = some { x with next := next + 16, acked := next } := by
  unfold State.sendSegments
  extract_lets total stop u
  have here : stop = next + 16 := by
    simp only [stop, total, windowSegments]
    omega
  rw [if_neg (by simp only [here, total]; omega), here]
  exact putTransfer_transfer u p { x with next := next + 16, acked := next }

end

section
variable {s : State} {p : CanPort} {client : BitVec 8} {x : Transfer} (opened : s.transfer p client = some x)
  (same : x.client = client)
include opened

theorem canSegment_turn (download : x.upload = false) (d : List Byte) :
    s.canSegment p client x.next d = s.takeSegment p x d := by
  simp [State.canSegment, opened, download]

theorem canSegment_missed (download : x.upload = false) {n : Nat} (other : n ≠ x.next) (d : List Byte) :
    s.canSegment p client n d = s.missSegment p x := by
  simp [State.canSegment, opened, download, other]

/-- ACK of what was sent sends on, in a resend or not (R320). -/
theorem canAck_sends (upload : x.upload = true) {next : Nat} (sent : next ≤ x.next) (tries : x.resends < 8) :
    ∃ r, s.canAck p client next = s.sendSegments p { x with resends := r } next := by
  have ahead : ¬ x.next < next := by omega
  have room : ¬ resendMax ≤ x.resends := by unfold resendMax; omega
  by_cases again : next < x.next
  · exact ⟨x.resends + 1, by simp [State.canAck, opened, upload, ahead, again, room]⟩
  · have on : s.canAck p client next = s.sendSegments p x next := by
      simp [State.canAck, opened, upload, ahead, again]
    exact ⟨x.resends, on⟩

theorem canCancel_open (index sub token : Nat) : s.canCancel p client index sub token =
    (s.closeTransfer p client).canAbortSend p client index sub token abCancelled := by
  simp [State.canCancel, opened]

theorem canEnd_whole (download : x.upload = false) {n : Nat} {crc : BitVec 16} (segments : n = segmentsOf x.len)
    (whole : x.data.length = x.len) (check : crc = crc16 x.data) :
    s.canEnd p client n crc = (s.closeTransfer p client).canApply p client x.index x.sub x.token x.data := by
  simp [State.canEnd, opened, download, segments, whole, check]

include same

theorem canEnd_short (download : x.upload = false) {n : Nat} (wrong : n ≠ segmentsOf x.len ∨ x.data.length ≠ x.len)
    (crc : BitVec 16) : s.canEnd p client n crc =
      (s.closeTransfer p client).canAbortSend p client x.index x.sub x.token abProtocol := by
  have bad : (n != segmentsOf x.len || x.data.length != x.len) = true := by simpa using wrong
  simp only [State.canEnd, opened, download, bad, State.endTransfer, same]
  rfl

theorem canEnd_crc (download : x.upload = false) {n : Nat} {crc : BitVec 16} (segments : n = segmentsOf x.len)
    (whole : x.data.length = x.len) (wrong : crc ≠ crc16 x.data) : s.canEnd p client n crc =
      (s.closeTransfer p client).canAbortSend p client x.index x.sub x.token abCrc := by
  have bad : (crc16 x.data != crc) = true := bne_iff_ne.2 wrong.symm
  simp [State.canEnd, opened, download, segments, whole, bad, State.endTransfer, same]

theorem execCanTimeout_open : exec (.canTimeout p client) s =
    ran s ((s.closeTransfer p client).canAbortSend p client x.index x.sub x.token abTimeout) := by
  show execCanTimeout p client s = _
  simp [execCanTimeout, opened, State.endTransfer, same]

end

/-! ## Errors of the bus (R317) -/

section
variable {c : Can}

theorem confine_tec (c : Can) : c.confine.tec = c.tec := by
  unfold Can.confine
  split
  · rfl
  split <;> rfl

theorem confine_rec (c : Can) : c.confine.rec_ = c.rec_ := by
  unfold Can.confine
  split
  · rfl
  split <;> rfl

theorem confine_busOff (running : c.errorState ≠ 2) (errors : 255 < c.tec) :
    c.confine = { c with errorState := 2, busOff := inc32 c.busOff } := by
  unfold Can.confine
  rw [if_neg running, if_pos errors]

theorem confine_active (running : c.errorState ≠ 2) (tx : c.tec ≤ 127) (rx : c.rec_ ≤ 127) :
    c.confine.errorState = 0 := by
  unfold Can.confine
  rw [if_neg running, if_neg (by omega)]
  exact if_neg (by simp; omega)

variable {s : State} {p : CanPort} (powered : s.power.phase = .running) (on : s.canOn p = true)
include powered on

theorem canBusError_counts (tx : Bool) : exec (.canBusError p tx) s = ran s (s.onCan p fun c =>
    (if tx then { c with tec := c.tec + 8 } else { c with rec_ := c.rec_ + 1 } : Can).confine) := by
  show execCanBusError p tx s = _
  simp [execCanBusError, powered, on]

theorem canFrameIgnored_counts : exec (.canFrameIgnored p) s = ran s (s.canIgnore p) := by
  show execCanFrameIgnored p s = _
  simp [execCanFrameIgnored, powered, on]

end

/-- A frame that a client sends on a port that takes requests completes with what its kind does (R316, R318). -/
theorem completes_heard {c : Instr} {s t : State} {p : CanPort} {client : BitVec 8} {brs : Bool} {f : State → State}
    (takes : s.canTakes p = true) (known : clientOk client = true) (meaning : exec c s = ran s (s.canFrom p client brs f))
    (e : f (s.canHeard p brs) = t) : Completes c s t :=
  completes_of_ran (meaning.trans (congrArg (ran s) ((canFrom_heard takes f known).trans e)))

end Sys2Proof.Machine
end

section
namespace Sys2Proof.Machine

set_option Elab.async false

/-! ## Requests, transfers and errors of the CAN ports (R315 to R322) -/

/-- Settles O38: a frame of a client is heard first; what it then does is said by its kind and by the client's transfer. -/
theorem canPorts : Obligations.CanPorts := by
  unfold Obligations.CanPorts
  refine ⟨fun s p client brs index sub token takes => ?requests, fun s p client brs takes known => ?transfers,
    fun s p powered on => ⟨?ignored, fun running => ⟨?tx, ?rx⟩⟩, fun s p off => ?recovery, fun s p on => ?running⟩
  case requests =>
    intro h
    have kept := canHeard_contextsKept s p brs
    have heard := kept.transfer client
    refine ⟨fun unknown => ⟨fun len d => ?_, ?_⟩, fun known own fresh room => ?served, fun known fresh full len d => ?full,
      fun x known opened => ?restart⟩
    · exact completes_of_ran (congrArg (ran s) (canFrom_ignored takes _ unknown))
    · exact completes_of_ran (congrArg (ran s) (canFrom_ignored takes _ unknown))
    case served =>
      rw [fresh] at heard
      rw [← kept.transfers] at room
      refine ⟨fun len d short whole stays => ?write, fun len d misfit =>
        completes_heard takes known rfl (canWrite_misfit heard room misfit), fun c b u read => ?read⟩
      case write =>
        have written := canApply_own (s := h) (p := p) (token := token) own stays (d.take len)
        rw [List.length_take_of_le whole] at written
        refine ⟨_, completes_heard takes known rfl ((canWrite_served heard room short whole).trans written), ?_⟩
        rintro _ rfl
        rfl
      case read =>
        have served := canRead_served (token := token) heard room own read
        refine ⟨fun bad => completes_heard takes known rfl (served.trans (if_pos bad)), fun ok short => ?_,
          fun ok long => ?_⟩
        · exact completes_heard takes known rfl (served.trans ((if_neg (not_not.2 ok)).trans (canValue_expedited short)))
        · exact ⟨_, _, completes_heard takes known rfl (served.trans (if_neg (not_not.2 ok))), canValue_upload long,
            rfl, rfl, rfl, rfl, rfl, rfl⟩
    case full =>
      rw [fresh] at heard
      rw [← kept.transfers] at full
      exact ⟨completes_heard takes known rfl (canRead_full heard full),
        completes_heard takes known rfl (canWrite_full heard full len d)⟩
    case restart =>
      rw [opened] at heard
      obtain ⟨restarts, closed⟩ := restartTransfer_some heard
      refine ⟨_, completes_heard takes known rfl rfl, ?_, fun partner => (canRead_partner h p partner ..).trans closed⟩
      rw [canRead_restarts, restarts, kept.restarts]
  case transfers =>
    intro h
    have kept := canHeard_contextsKept s p brs
    have heard := kept.transfer client
    refine ⟨fun index sub token len own fresh room long fits => ?init, fun x opened same => ?open_,
      fun x opened same => completes_of_ran (execCanTimeout_open opened same),
      fun none_ => completes_of_ran (congrArg (ran s) (by simp only [none_]))⟩
    case init =>
      rw [fresh] at heard
      rw [← kept.transfers] at room
      have announced := canWriteInit_code (index := index) (sub := sub) (token := token) heard room own long fits
      refine ⟨fun taken => ?_, fun c code bad => ?_⟩
      · rw [if_neg (not_not.2 taken)] at announced
        have put := putTransfer_transfer h p
          { client, upload := false, index, sub, token, len, data := [], next := 0, acked := 0 }
        have replied := canReply_contextsKept (h.putTransfer p
          { client, upload := false, index, sub, token, len, data := [], next := 0, acked := 0 }) p (ackFrame client 0)
        exact ⟨_, _, completes_heard takes known rfl announced,
          ((canReply_only ..).next ((putTransfer_only ..).next (canHeard_only s p brs)).mono).only,
          (replied.transfer client).trans put, rfl, rfl, rfl, rfl, rfl, rfl,
          replied.live.trans ((onCan_live ..).trans kept.live)⟩
      · rw [code, if_pos bad] at announced
        exact completes_heard takes known rfl announced
    case open_ =>
      rw [opened] at heard
      refine ⟨fun download => ⟨fun d more whole => ?segment, fun n d other first tries => ?missed,
          fun n crc segments whole check own stays => ?whole, fun n crc wrong =>
            completes_heard takes known rfl (canEnd_short heard same download wrong crc),
          fun n crc segments whole wrong => ?crc⟩,
        fun upload next sent tries => ?ack, fun index sub token =>
          completes_heard takes known rfl (canCancel_open heard index sub token)⟩
      case segment =>
        have taken := takeSegment_kept (s := h) (p := p) more whole
        rw [same] at taken
        exact ⟨_, _, completes_heard takes known rfl (canSegment_turn heard download d), taken, rfl, rfl, rfl⟩
      case missed =>
        have asked := missSegment_asks (s := h) (p := p) first tries
        rw [same] at asked
        exact ⟨_, _, completes_heard takes known rfl (canSegment_missed heard download other d), asked, rfl, rfl, rfl, rfl⟩
      case whole =>
        have written := canApply_own (s := h.closeTransfer p client) (p := p) (token := x.token) own stays x.data
        rw [whole] at written
        refine ⟨_, completes_heard takes known rfl ((canEnd_whole heard download segments whole check).trans written), ?_⟩
        rintro _ rfl
        rfl
      case crc =>
        have aborted := canAbortSend_contextsKept (h.closeTransfer p client) p client x.index x.sub x.token abCrc
        exact ⟨_, completes_heard takes known rfl (canEnd_crc heard same download segments whole wrong),
          (aborted.transfer client).trans (closeTransfer_transfer ..),
          aborted.live.trans ((closeTransfer_live ..).trans kept.live), rfl⟩
      case ack =>
        obtain ⟨r, sends⟩ := canAck_sends heard upload sent tries
        refine ⟨fun last => ⟨_, completes_heard takes known rfl sends, ?_⟩,
          fun more => ⟨_, { x with resends := r, next := next + 16, acked := next },
            completes_heard takes known rfl sends, ?_, rfl, rfl⟩⟩
        · rw [← same]
          exact sendSegments_last (x := { x with resends := r }) last
        · rw [← same]
          exact sendSegments_more (x := { x with resends := r }) more
  case ignored =>
    refine ⟨_, completes_of_ran (canFrameIgnored_counts powered on), (canIgnore_only s p).only, ?_, ?_⟩ <;>
      rw [State.canIgnore, can_onCan]
  case tx =>
    have counts := canBusError_counts powered on true
    refine ⟨_, completes_of_ran counts, (onCan_only ..).only, ?_, fun errors => ?_, fun few good => ?_⟩ <;> rw [can_onCan]
    · exact confine_tec _
    · rw [if_pos rfl, confine_busOff (c := { s.can p with tec := (s.can p).tec + 8 }) running errors]
      exact ⟨rfl, rfl⟩
    · exact confine_active running few good
  case rx =>
    have counts := canBusError_counts powered on false
    refine ⟨_, completes_of_ran counts, (onCan_only ..).only, ?_, ?_⟩ <;> rw [can_onCan]
    · exact confine_rec _
    · exact confine_tec _
  case recovery =>
    refine ⟨_, completes_of_ran (congrArg (ran s) (if_pos off)), (onCan_only ..).only, ?_⟩
    rw [can_onCan]
    exact ⟨rfl, rfl, rfl, rfl⟩
  case running => exact completes_of_ran (congrArg (ran s) (if_neg on))

end Sys2Proof.Machine
end

section
namespace Sys2Proof.Machine

set_option Elab.async false

/-! ## The data area of a slot (R323) -/

/-- A list is its trimmed bytes with zeros behind them. -/
theorem trimZeros_append (l : List Byte) : ∃ m, l = trimZeros l ++ List.replicate m 0 := by
  refine ⟨(l.reverse.takeWhile (· == 0)).length, ?_⟩
  have zeros : (l.reverse.takeWhile (· == 0)).reverse = List.replicate (l.reverse.takeWhile (· == 0)).length 0 :=
    List.eq_replicate_iff.2 ⟨List.length_reverse, fun b hb => by
      simpa using List.mem_takeWhile_imp (List.mem_reverse.1 hb)⟩
  rw [← zeros, trimZeros, ← List.reverse_append, List.takeWhile_append_dropWhile, List.reverse_reverse]

/-- The bytes of the area read as they were written, be the last of them zeros. -/
theorem take_trimZeros (b rest : List Byte) :
    (trimZeros (b ++ rest) ++ List.replicate b.length 0).take b.length = b := by
  obtain ⟨m, e⟩ := trimZeros_append (b ++ rest)
  have length := congrArg List.length e
  simp only [List.length_append, List.length_replicate] at length
  have whole : (trimZeros (b ++ rest) ++ List.replicate m 0).take b.length = b := by
    rw [← e, List.take_left]
  rw [List.take_append, List.take_replicate] at whole ⊢
  rwa [show min (b.length - (trimZeros (b ++ rest)).length) m
    = min (b.length - (trimZeros (b ++ rest)).length) b.length by omega] at whole

/-! ## A slot after an operation (R323, R325) -/

section
variable {s : State} {fn : Fn} {n : Nat}

theorem winSlot_pf0 (s : State) (k : Fin 16) : s.winSlot .pf0 k.val = s.dict.slots0[k] := vget_fin ..

theorem winSlot_pf1 (s : State) (k : Fin 8) : s.winSlot .pf1 k.val = s.dict.slots1[k] := vget_fin ..

theorem winSlot_onSlotOf (s : State) (fn : Fn) {n : Nat} (small : n < slotCount fn) (f : WinSlot → WinSlot) :
    (s.onSlotOf fn n f).winSlot fn n = f (s.winSlot fn n) := by
  cases fn <;> exact vget_vmod_same _ _ _ _ small

@[simp] theorem onSlotOf_live (s : State) (fn : Fn) (n : Nat) (f : WinSlot → WinSlot) :
    (s.onSlotOf fn n f).dict.live = s.dict.live := by
  cases fn <;> rfl

@[simp] theorem onSlotOf_winRequests (s : State) (fn : Fn) (n : Nat) (f : WinSlot → WinSlot) :
    (s.onSlotOf fn n f).dict.winRequests = s.dict.winRequests := by
  cases fn <;> rfl

end

section
variable {w : WinSlot} (pending : w.state = 1)
include pending

theorem done_code (write : Bool) {code : Nat} (h : code ≠ 0) (b : List Byte) :
    w.done write code b = { w with state := 3, abort := code, partner := false } := by
  simp [WinSlot.done, WinSlot.abortWith, pending, h]

theorem done_written (b : List Byte) : w.done true 0 b = { w with state := 2, abort := 0, partner := false } := by
  simp [WinSlot.done, pending]

theorem done_read (b : List Byte) : w.done false 0 b = { w with
    state := 2, abort := 0, partner := false, len := b.length, data := trimZeros (b ++ w.data.drop b.length) } := by
  simp [WinSlot.done, pending]

end

/-! ## GO (R323, R325, R328) -/

/-- A slot that takes its request: it is PENDING from now (R325). -/
def State.askSlot (s : State) (fn : Fn) (n : Nat) : State :=
  ({ s with dict.winRequests := inc64 s.dict.winRequests } : State).onSlotOf fn n
    fun w => { w with state := 1, abort := 0, partner := false, since := s.sv.up }

section
variable {s : State} {n : Nat} {stream : Option (Fin 4)}

theorem slotGo_pf0 {cmd : Nat} (up : s.hf.l0 = true) (memory : s.hf.cfg0.mse = true) (small : n < 16)
    (holds : (s.winSlot .pf0 n).cmd = cmd) : s.slotGo .pf0 n stream cmd = s.takeGo .pf0 n stream := by
  have on : (s.fnCfg .pf0).mse = true := memory
  simp [State.slotGo, State.admitHost, up, on, slotCount, small, holds]

theorem slotGo_pf1 {cmd : Nat} (up : s.hf.l0 = true) (memory : s.hf.cfg1.mse = true)
    (secure : s.secureStream stream = true) (small : n < 8) (holds : (s.winSlot .pf1 n).cmd = cmd) :
    s.slotGo .pf1 n stream cmd = s.takeGo .pf1 n stream := by
  have on : (s.fnCfg .pf1).mse = true := memory
  simp [State.slotGo, State.admitHost, up, on, secure, slotCount, small, holds]

/-- GO on a PENDING slot is refused and counted (R323). -/
theorem takeGo_pending (fn : Fn) (pending : (s.winSlot fn n).state = 1) : s.takeGo fn n stream = s.winFault :=
  if_pos (by simpa using pending)

theorem takeGo_pf0 (idle : (s.winSlot .pf0 n).state ≠ 1) (runs : s.foremanRuns = true) :
    s.takeGo .pf0 n stream = (s.askSlot .pf0 n).runSlot .pf0 n := by
  unfold State.takeGo
  rw [if_neg (by simpa using idle)]
  exact if_pos runs

end

theorem winSlot_askSlot (s : State) (fn : Fn) {n : Nat} (small : n < slotCount fn) : (s.askSlot fn n).winSlot fn n =
    { s.winSlot fn n with state := 1, abort := 0, partner := false, since := s.sv.up } := by
  unfold State.askSlot
  rw [winSlot_onSlotOf _ _ small]
  cases fn <;> rfl

theorem askSlot_only (s : State) (fn : Fn) (n : Nat) : Alters [.dict] s (s.askSlot fn n) :=
  (onSlotOf_only ..).next (setDict_only s _)

@[simp] theorem askSlot_winRequests (s : State) (fn : Fn) (n : Nat) :
    (s.askSlot fn n).dict.winRequests = inc64 s.dict.winRequests := onSlotOf_winRequests ..

/-- A slot of PF1 that takes its request for the stream that it came in (R328). -/
def State.askBound (s : State) (n : Nat) (stream : Option (Fin 4)) : State :=
  (s.askSlot .pf1 n).onSlotOf .pf1 n fun w => w.bind stream

theorem winSlot_askBound (s : State) {n : Nat} (small : n < 8) (stream : Option (Fin 4)) :
    (s.askBound n stream).winSlot .pf1 n = { s.winSlot .pf1 n with
      state := 1, abort := 0, partner := false, since := s.sv.up, session := (s.winSlot .pf1 n).session.or stream } := by
  unfold State.askBound
  rw [winSlot_onSlotOf _ _ small, winSlot_askSlot _ _ small]
  rfl

theorem askBound_only (s : State) (n : Nat) (stream : Option (Fin 4)) : Alters [.dict] s (s.askBound n stream) :=
  (onSlotOf_only ..).next (askSlot_only ..)

section
variable {s : State} {n : Nat} {stream : Option (Fin 4)} (small : n < 8) (idle : (s.winSlot .pf1 n).state ≠ 1)
include small idle

/-- A request that came in the stream of the slot's session runs (R328). -/
theorem takeGo_bound (runs : s.foremanRuns = true) (bound : (s.winSlot .pf1 n).session.or stream = stream) :
    s.takeGo .pf1 n stream = (s.askBound n stream).runSlot .pf1 n := by
  have slot := congrArg WinSlot.session (winSlot_askBound s small stream)
  unfold State.takeGo
  rw [if_neg (by simpa using idle)]
  refine (if_neg ?_).trans (if_pos runs)
  show ¬ (Fn.pf1 == Fn.pf1 && ((s.askBound n stream).winSlot .pf1 n).session != stream) = true
  rw [slot]
  simp [bound]

/-- A request that came in another stream ends with SECURE_ONLY (R328). -/
theorem takeGo_stranger (other : (s.winSlot .pf1 n).session.or stream ≠ stream) :
    s.takeGo .pf1 n stream = (s.askBound n stream).onSlotOf .pf1 n fun w => w.done false abSecureOnly [] := by
  have slot := congrArg WinSlot.session (winSlot_askBound s small stream)
  unfold State.takeGo
  rw [if_neg (by simpa using idle)]
  refine if_pos ?_
  show (Fn.pf1 == Fn.pf1 && ((s.askBound n stream).winSlot .pf1 n).session != stream) = true
  rw [slot]
  simpa using other

end

/-! ## The request of a slot runs (R325, R331) -/

section
variable {s u : State} {fn : Fn} {n c : Nat} {w : WinSlot} (here : s.winSlot fn n = w)
include here

theorem runSlot_read {b : List Byte} (cmd : w.cmd = 0x01) (read : s.dictRead (fnPath fn) w.index w.sub = (c, b, u)) :
    s.runSlot fn n = u.onSlotOf fn n fun w => w.done false c b := by
  simp [State.runSlot, here, cmd, read]

theorem runSlot_write (cmd : w.cmd = 0x02) (fits : w.len ≤ 65472) (stays : ¬ (w.index = 0x2000 ∧ w.sub = 0x0E))
    (write : s.dictWrite (fnPath fn) w.index w.sub (w.bytes w.len) = (c, u)) :
    s.runSlot fn n = u.onSlotOf fn n fun w => w.done true c [] := by
  have long : ¬ transferMax < w.len := by unfold transferMax; omega
  have last := finish_of_ne (u.onSlotOf fn n fun w => w.done true c []) w.index w.sub c (by simpa using stays)
  simp [State.runSlot, here, cmd, long, write, last]

/-- Without a partner a partner request ends with NOT_PAIRED (R331). -/
theorem runSlot_alone (alone : s.partnered = false) (cmd : w.cmd = 0x81 ∨ w.cmd = 0x82 ∧ w.len ≤ 65472) :
    ∃ write, s.runSlot fn n = s.onSlotOf fn n fun w => w.done write abNotPaired [] := by
  rcases cmd with cmd | ⟨cmd, fits⟩
  · exact ⟨false, by simp [State.runSlot, here, cmd, alone]⟩
  · have long : ¬ transferMax < w.len := by unfold transferMax; omega
    exact ⟨true, by simp [State.runSlot, here, cmd, long, alone]⟩

section
variable (paired : s.partnered = true)
include paired

theorem runSlot_partnerRead (cmd : w.cmd = 0x81) : s.runSlot fn n =
    (s.onSlotOf fn n fun w => { w with partner := true }).passPartner (.slot fn n)
      { isWrite := false, index := w.index, sub := w.sub, data := [] } := by
  simp [State.runSlot, here, cmd, paired]

theorem runSlot_partnerWrite (cmd : w.cmd = 0x82) (fits : w.len ≤ 65472) : s.runSlot fn n =
    (s.onSlotOf fn n fun w => { w with partner := true }).passPartner (.slot fn n)
      { isWrite := true, index := w.index, sub := w.sub, data := w.bytes w.len } := by
  have long : ¬ transferMax < w.len := by unfold transferMax; omega
  simp [State.runSlot, here, cmd, long, paired]

end

variable (small : n < slotCount fn) (pending : w.state = 1)
include small pending

/-- A read leaves its slot DONE with the value, or ABORTED with the code (R325). -/
theorem runSlot_read_slot {b : List Byte} (cmd : w.cmd = 0x01)
    (read : s.dictRead (fnPath fn) w.index w.sub = (c, b, u)) :
    (s.runSlot fn n).dict.winRequests = s.dict.winRequests ∧
      (c = 0 → (s.runSlot fn n).winSlot fn n = { w with
        state := 2, abort := 0, partner := false, len := b.length, data := trimZeros (b ++ w.data.drop b.length) }) ∧
      (c ≠ 0 → (s.runSlot fn n).winSlot fn n = { w with state := 3, abort := c, partner := false }) := by
  have kept := dictRead_transportsKept s (fnPath fn) w.index w.sub
  rw [read] at kept
  rw [runSlot_read here cmd read, winSlot_onSlotOf _ _ small, kept.winSlot, here, onSlotOf_winRequests, kept.winRequests]
  refine ⟨rfl, fun ok => ?_, fun bad => done_code pending false bad b⟩
  rw [ok, done_read pending]

/-- A write leaves its slot DONE, or ABORTED with the code (R325). -/
theorem runSlot_write_slot (cmd : w.cmd = 0x02) (fits : w.len ≤ 65472)
    (stays : ¬ (w.index = 0x2000 ∧ w.sub = 0x0E))
    (write : s.dictWrite (fnPath fn) w.index w.sub (w.bytes w.len) = (c, u)) :
    (s.runSlot fn n).dict.live = u.dict.live ∧ (s.runSlot fn n).modes = u.modes ∧
      (c = 0 → (s.runSlot fn n).winSlot fn n = { w with state := 2, abort := 0, partner := false }) ∧
      (c ≠ 0 → (s.runSlot fn n).winSlot fn n = { w with state := 3, abort := c, partner := false }) := by
  have kept := dictWrite_transportsKept s (fnPath fn) w.index w.sub (w.bytes w.len)
  rw [write] at kept
  rw [runSlot_write here cmd fits stays write, winSlot_onSlotOf _ _ small, kept.winSlot, here, onSlotOf_live,
    State.onSlotOf_modes]
  refine ⟨rfl, rfl, fun ok => ?_, fun bad => done_code pending true bad []⟩
  rw [ok, done_written pending]

theorem runSlot_alone_slot (alone : s.partnered = false) (cmd : w.cmd = 0x81 ∨ w.cmd = 0x82 ∧ w.len ≤ 65472) :
    (s.runSlot fn n).winSlot fn n = { w with state := 3, abort := abNotPaired, partner := false } := by
  obtain ⟨write, e⟩ := runSlot_alone here alone cmd
  rw [e, winSlot_onSlotOf _ _ small, here, done_code pending write (by decide)]

end

/-- A request passed to the twin is sent, and its origin waits for the result (R331). -/
theorem passPartner_spec {s : State} (paired : s.partnered = true) (o : PartnerOrigin) (r : PartnerReq) :
    (∀ fn n, (s.passPartner o r).winSlot fn n = s.winSlot fn n) ∧ o ∈ (s.passPartner o r).twin.partnerWaiting ∧
      Sent.xcRecord (.partnerRequest r) ∈ (s.passPartner o r).sent := by
  have dict := passPartner_dict s o r
  obtain ⟨l, twin⟩ := xcSend_twin (s.awaitResult o) (.partnerRequest r)
  refine ⟨fun fn n => ?_, ?_, xcSend_sent (s := s.awaitResult o) paired _⟩
  · cases fn
    · exact (congrArg (fun d : Dict => vget d.slots0 n {}) dict :)
    · exact (congrArg (fun d : Dict => vget d.slots1 n {}) dict :)
  · rw [passPartner_eq, twin]
    exact List.mem_append_right _ (List.mem_singleton.2 rfl)

end Sys2Proof.Machine
end

section
namespace Sys2Proof.Machine

set_option Elab.async false

/-! ## Requests of the window (R323 to R325, R328, R331) -/

/-- Settles O39: GO takes the request of a slot that is not pending, and the slot shows how it ended. -/
theorem windowSlots : Obligations.WindowSlots := by
  unfold Obligations.WindowSlots
  refine ⟨fun s k up memory => ?pf0, fun s k j up memory secure => ?pf1⟩
  case pf0 =>
    intro w asked
    have here := winSlot_pf0 s k
    have go {cmd : Nat} (holds : w.cmd = cmd) : s.slotGo .pf0 k.val none cmd = s.takeGo .pf0 k.val none :=
      slotGo_pf0 up memory k.isLt (by rw [here]; exact holds)
    refine ⟨fun pending => ?_, fun idle runs => ?_⟩
    · have refused := takeGo_pending (n := k.val) (stream := none) .pf0 (by rw [here]; exact pending)
      exact ⟨fun cmd => completes_of_ran (congrArg (ran s) ((go cmd).trans refused)),
        fun cmd => completes_of_ran (congrArg (ran s) ((go cmd).trans refused))⟩
    have run {cmd : Nat} (holds : w.cmd = cmd) :
        s.slotGo .pf0 k.val none cmd = (s.askSlot .pf0 k.val).runSlot .pf0 k.val :=
      (go holds).trans (takeGo_pf0 (by rw [here]; exact idle) runs)
    have slot := winSlot_askSlot s .pf0 (n := k.val) k.isLt
    rw [here] at slot
    refine ⟨fun cmd c b u read => ?read, fun cmd fits stays c u write => ?write,
      fun alone => ⟨fun cmd => ?aloneRead, fun cmd fits => ?aloneWrite⟩,
      fun paired => ⟨fun cmd => ?passRead, fun cmd fits => ?passWrite⟩⟩
    case read =>
      obtain ⟨requests, done, aborted⟩ := runSlot_read_slot slot k.isLt rfl cmd read
      rw [winSlot_pf0] at done aborted
      refine ⟨_, completes_of_ran (congrArg (ran s) (run cmd)), requests.trans (askSlot_winRequests ..), fun ok => ?_,
        fun bad => ?_⟩
      · rw [done ok]
        exact ⟨rfl, rfl, rfl, take_trimZeros ..⟩
      · rw [aborted bad]
        exact ⟨rfl, rfl, rfl⟩
    case write =>
      obtain ⟨live, modes, done, aborted⟩ := runSlot_write_slot slot k.isLt rfl cmd fits stays write
      rw [winSlot_pf0] at done aborted
      refine ⟨_, completes_of_ran (congrArg (ran s) (run cmd)), live, modes, fun ok => ?_, fun bad => ?_⟩
      · rw [done ok]
        exact ⟨rfl, rfl⟩
      · rw [aborted bad]
        exact ⟨rfl, rfl⟩
    case aloneRead =>
      have ended := runSlot_alone_slot slot k.isLt rfl alone (.inl cmd)
      rw [winSlot_pf0] at ended
      exact ⟨_, completes_of_ran (congrArg (ran s) (run cmd)), by rw [ended], by rw [ended]⟩
    case aloneWrite =>
      have ended := runSlot_alone_slot slot k.isLt rfl alone (.inr ⟨cmd, fits⟩)
      rw [winSlot_pf0] at ended
      exact ⟨_, completes_of_ran (congrArg (ran s) (run cmd)), by rw [ended], by rw [ended]⟩
    all_goals
      have marked := winSlot_onSlotOf (s.askSlot .pf0 k.val) .pf0 (n := k.val) k.isLt fun w => { w with partner := true }
      rw [slot] at marked
    case passRead =>
      have passed := (run cmd).trans (runSlot_partnerRead slot paired cmd)
      obtain ⟨slots, waits, sent⟩ := passPartner_spec (s := (s.askSlot .pf0 k.val).onSlotOf .pf0 k.val
        fun w => { w with partner := true }) paired (.slot .pf0 k.val)
        { isWrite := false, index := w.index, sub := w.sub, data := [] }
      refine ⟨_, completes_of_ran (congrArg (ran s) passed), ?_, waits, sent⟩
      exact congrArg WinSlot.state ((winSlot_pf0 ..).symm.trans ((slots ..).trans marked))
    case passWrite =>
      have passed := (run cmd).trans (runSlot_partnerWrite slot paired cmd fits)
      obtain ⟨slots, waits, sent⟩ := passPartner_spec (s := (s.askSlot .pf0 k.val).onSlotOf .pf0 k.val
        fun w => { w with partner := true }) paired (.slot .pf0 k.val)
        { isWrite := true, index := w.index, sub := w.sub, data := w.bytes w.len }
      refine ⟨_, completes_of_ran (congrArg (ran s) passed), ?_, waits, sent⟩
      exact congrArg WinSlot.state ((winSlot_pf0 ..).symm.trans ((slots ..).trans marked))
  case pf1 =>
    intro w n asked secureOnly idle
    have here := winSlot_pf1 s k
    have free : (s.winSlot .pf1 k.val).state ≠ 1 := by rw [here]; exact idle
    have go {cmd : Nat} (holds : w.cmd = cmd) : s.slotGo .pf1 n.val (some j) cmd = s.takeGo .pf1 k.val (some j) :=
      slotGo_pf1 up memory secure k.isLt (by rw [here]; exact holds)
    have slot := winSlot_askBound s k.isLt (some j)
    rw [here] at slot
    refine ⟨fun i bound other => ?stranger, fun runs bound => ?served⟩
    case stranger =>
      have stays : (w.session.or (some j)) = some i := by rw [bound]; rfl
      have refused := takeGo_stranger (stream := some j) k.isLt free (by
        rw [here]
        show w.session.or (some j) ≠ some j
        rw [stays]
        simpa using other)
      have ended := winSlot_onSlotOf (s.askBound k.val (some j)) .pf1 (n := k.val) k.isLt
        fun w => w.done false abSecureOnly []
      rw [slot, done_code rfl false (by decide), winSlot_pf1] at ended
      have spec : secureOnly ((s.askBound k.val (some j)).onSlotOf .pf1 k.val fun w => w.done false abSecureOnly []) i :=
        ⟨((onSlotOf_only ..).next (askBound_only ..)).only, by rw [ended], by rw [ended], by rw [ended]; exact stays⟩
      have ends {cmd : Nat} (holds : w.cmd = cmd) : ran s (s.slotGo .pf1 n.val (some j) cmd) = ran s
          ((s.askBound k.val (some j)).onSlotOf .pf1 k.val fun w => w.done false abSecureOnly []) :=
        congrArg (ran s) ((go holds).trans refused)
      exact ⟨fun cmd => ⟨_, ends cmd, spec⟩, fun cmd => ⟨_, ends cmd, spec⟩, fun cmd => ⟨_, ends cmd, spec⟩,
        fun cmd => ⟨_, ends cmd, spec⟩⟩
    case served =>
      have keeps : w.session.or (some j) = some j := by
        rcases bound with bound | bound <;> rw [bound] <;> rfl
      have run {cmd : Nat} (holds : w.cmd = cmd) :
          s.slotGo .pf1 n.val (some j) cmd = (s.askBound k.val (some j)).runSlot .pf1 k.val :=
        (go holds).trans (takeGo_bound k.isLt free runs (by rw [here]; exact keeps))
      refine ⟨fun cmd c b u read => ?_, fun cmd fits stays c u write => ?_⟩
      · obtain ⟨-, done, aborted⟩ := runSlot_read_slot slot k.isLt rfl cmd read
        rw [winSlot_pf1] at done aborted
        refine ⟨_, completes_of_ran (congrArg (ran s) (run cmd)), ?_, fun ok => ?_, fun bad => ?_⟩
        · by_cases ok : c = 0
          · rw [done ok]
            exact keeps
          · rw [aborted ok]
            exact keeps
        · rw [done ok]
          exact ⟨rfl, rfl, take_trimZeros ..⟩
        · rw [aborted bad]
          exact ⟨rfl, rfl⟩
      · obtain ⟨live, modes, done, aborted⟩ := runSlot_write_slot slot k.isLt rfl cmd fits stays write
        rw [winSlot_pf1] at done aborted
        refine ⟨_, completes_of_ran (congrArg (ran s) (run cmd)), live, modes, fun ok => ?_, fun bad => ?_⟩
        · rw [done ok]
          exact ⟨rfl, rfl⟩
        · rw [aborted bad]
          exact ⟨rfl, rfl⟩

end Sys2Proof.Machine
end

section
namespace Sys2Proof.Machine

set_option Elab.async false

/-! ## Partner requests received (R331) -/

theorem endSession_other (s : State) {j k : Fin 8} (h : j ≠ k) :
    (vmod s.dict.slots1 k.val WinSlot.endSession)[j] = s.dict.slots1[j] := by
  have other := vget_vmod_other s.dict.slots1 k.val j.val WinSlot.endSession {} (Fin.val_ne_of_ne h)
  rwa [vget_fin, vget_fin] at other

theorem endSession_same (s : State) (k : Fin 8) :
    (vmod s.dict.slots1 k.val WinSlot.endSession)[k] = (s.dict.slots1[k]).endSession := by
  have same := vget_vmod_same s.dict.slots1 k.val WinSlot.endSession {} k.isLt
  rwa [vget_fin, vget_fin] at same

/-- A read for the twin sends its result, and leaves the records received (R331). -/
theorem servePartner_read {s u : State} {r : PartnerReq} {c : Nat} {b : List Byte} (reads : r.isWrite = false)
    (paired : s.partnered = true) (read : s.dictRead .twin r.index r.sub = (c, b, u)) :
    (s.servePartner r).twin.recQueue = s.twin.recQueue ∧
      Sent.xcRecord (.partnerResult c b) ∈ (s.servePartner r).sent := by
  have twin := (dictRead_only s .twin r.index r.sub).twin
  rw [read] at twin
  have served : s.servePartner r = u.xcSend (.partnerResult c b) := by
    simp [State.servePartner, reads, read]
  have partnered : u.partnered = true := by
    unfold State.partnered
    rw [show u.twin = s.twin from twin]
    exact paired
  obtain ⟨l, sent⟩ := xcSend_twin u (.partnerResult c b)
  rw [served, sent]
  exact ⟨(congrArg Twin.recQueue twin :), xcSend_sent partnered _⟩

/-- The result of a partner request ends the slot that awaited it (R325, R331). -/
theorem done_result {w : WinSlot} (pending : w.state = 1) (write : Bool) (c : Nat) (b : List Byte) :
    (w.done write c b).abort = c ∧ (w.done write c b).state = if c = 0 then 2 else 3 := by
  by_cases ok : c = 0
  · subst ok
    cases write
    · rw [done_read pending]
      exact ⟨rfl, rfl⟩
    · rw [done_written pending]
      exact ⟨rfl, rfl⟩
  · rw [done_code pending write ok, if_neg ok]
    exact ⟨rfl, rfl⟩

/-- The state in which a result of the twin reaches its requester: the record and the wait are over. -/
def State.resultTaken (s : State) (l : List XcRecord) (m : List PartnerOrigin) : State :=
  { s with twin.recQueue := l, twin.partnerWaiting := m }

theorem resultTaken_only (s : State) (l : List XcRecord) (m : List PartnerOrigin) :
    Alters [.twin] s (s.resultTaken l m) := setTwin_only s _

/-- A session that times out: what waits on it is forgotten (R328). -/
def State.sessionEnded (s : State) (k : Fin 8) : State :=
  { (s.forgetSlots .pf1 fun j => j == k.val) with dict.slots1 := vmod s.dict.slots1 k.val WinSlot.endSession }

theorem sessionEnded_only (s : State) (k : Fin 8) : Alters [.dict, .twin] s (s.sessionEnded k) :=
  (setDict_only ..).next (forgetSlots_only ..).mono

/-- Settles O40: a session ends with what waits on it, a record of the twin is taken from the head of the queue. -/
theorem sessionsAndPartners : Obligations.SessionsAndPartners := by
  unfold Obligations.SessionsAndPartners
  refine ⟨fun s k => ?session, fun s r l head runs paired reads c b u read => ?request,
    fun s k c b l m head waits pending => ?result, fun s none_ => completes_of_ran (congrArg (ran s) (by simp [none_]))⟩
  case session =>
    have same := endSession_same s k
    refine ⟨s.sessionEnded k, rfl, (sessionEnded_only s k).only,
      (congrArg WinSlot.session same).trans (endSession_session _), fun bound pending => ?_,
      fun j other => endSession_other s other⟩
    obtain ⟨state, abort⟩ := endSession_pending bound pending
    exact ⟨(congrArg WinSlot.state same).trans state, (congrArg WinSlot.abort same).trans abort⟩
  case request =>
    have taken := servePartner_read (s := { s with twin.recQueue := l }) reads paired read
    exact ⟨_, completes_of_ran (congrArg (ran s) (by simp only [head, runs]; rfl)), taken⟩
  case result =>
    have taken : exec .partnerRequestReceive s =
        ran s ((s.resultTaken l m).onSlotOf .pf0 k.val fun w => w.done (w.req.toNat % 256 == 0x82) c b) := by
      show execPartnerRequestReceive s = _
      simp only [execPartnerRequestReceive, State.takeResult, head, waits]
      rfl
    have slot := winSlot_onSlotOf (s.resultTaken l m) .pf0 (n := k.val) k.isLt
      fun w => w.done (w.req.toNat % 256 == 0x82) c b
    rw [winSlot_pf0, winSlot_pf0] at slot
    obtain ⟨abort, state⟩ := done_result pending (s.dict.slots0[k].req.toNat % 256 == 0x82) c b
    exact ⟨_, completes_of_ran taken, ((onSlotOf_only ..).next (resultTaken_only s l m).mono).only, rfl, rfl,
      (congrArg WinSlot.abort slot).trans abort, (congrArg WinSlot.state slot).trans state⟩

end Sys2Proof.Machine
end

section
namespace Sys2Proof.Machine

set_option Elab.async false

/-! ## Election (R356, R357, R362, R363, R381) -/

theorem setFence_true (s : State) : (s.setFence true).twin = { s.twin with fenceOut := true } := by
  unfold State.setFence
  split
  · next h => exact congrArg (fun b => { s.twin with fenceOut := b }) (by simpa using h)
  · rfl

theorem sendElection_twin (s : State) : ∃ l, s.sendElection.twin = { s.twin with recOut := l } := ⟨_, rfl⟩

/-- The module elects: its lanes and pins are set, its fence is up, and it has said what it is (R357, R362). -/
def State.electing (s : State) : State :=
  (({ s.setXcLanes with twin.pairState := psElecting } : State).setFence true).sendElection

theorem electing_only (s : State) : Alters [.regs, .twin, .sent] s s.electing :=
  (sendElection_only _).next <| (setFence_only _ true).next <| (setTwin_only ..).next (setXcLanes_only s).mono

theorem electing_twin (s : State) :
    ∃ l, s.electing.twin = { s.setXcLanes.twin with pairState := psElecting, fenceOut := true, recOut := l } := by
  obtain ⟨l, said⟩ := sendElection_twin (({ s.setXcLanes with twin.pairState := psElecting } : State).setFence true)
  exact ⟨l, said.trans (congrArg (fun t : Twin => { t with recOut := l }) (setFence_true _))⟩

theorem setXcLanes_role (s : State) : s.setXcLanes.twin.role = s.twin.role := by
  unfold State.setXcLanes
  generalize (s.cfg 0x2D00 3, s.cfg 0x2D00 4) = pins
  rfl

theorem electing_shows (s : State) :
    s.electing.twin.pairState = 2 ∧ s.electing.twin.role = s.twin.role ∧ s.electing.twin.fenceOut = true := by
  obtain ⟨l, twin⟩ := electing_twin s
  exact ⟨(congrArg Twin.pairState twin :), (congrArg Twin.role twin).trans (setXcLanes_role s),
    (congrArg Twin.fenceOut twin :)⟩

section
variable {s : State} {p : PeerInfo}

theorem capturing_of {t : State} (power : t.power = s.power) (modes : t.modes = s.modes) : t.capturing = s.capturing := by
  unfold State.capturing State.mode
  rw [power, modes]

theorem electing_pairRefusal (s : State) (p : PeerInfo) : s.electing.pairRefusal p = s.setXcLanes.pairRefusal p := by
  have only := electing_only s
  have lanes := setXcLanes_only s
  obtain ⟨l, twin⟩ := electing_twin s
  have own := capturing_of only.power only.modes
  have before := capturing_of lanes.power lanes.modes
  unfold State.pairRefusal
  rw [twin, own, before]

theorem trustOf_of {t : State} (nv : t.nv = s.nv) (fm : t.fm = s.fm) : t.trustOf p = s.trustOf p := by
  unfold State.trustOf State.lifeCycle
  rw [nv, fm]

section
variable (apart : s.partnered = false) (runs : s.foremanRuns = true) (whole : s.power.recovery = false)
include apart runs whole

theorem election_noStrap (h : s.power.twinSel = false ∨ s.cfgOn 0x2D00 1 = false) :
    s.election p = { s with twin.pairCause := 1 } := by
  unfold State.election
  rw [if_neg (by simp [apart, runs, whole])]
  exact if_pos (by rcases h with h | h <;> simp [h])

variable (strap : s.power.twinSel = true) (enabled : s.cfgOn 0x2D00 1 = true)
include strap enabled

theorem election_dark (dark : s.laneUp = false) : s.election p = s := by
  unfold State.election
  rw [if_neg (by simp [apart, runs, whole]), if_neg (by simp [strap, enabled])]
  exact if_pos (by simp [dark])

variable (up : s.laneUp = true)
include up

theorem election_refused (h : s.setXcLanes.pairRefusal p ≠ 0) : s.election p =
    ({ s.electing with twin.pairCause := s.setXcLanes.pairRefusal p } : State).event .pairRefused .crosscut 0xFF
      (leBytes 1 (s.setXcLanes.pairRefusal p)) := by
  have cause : (s.electing.pairRefusal p != pcNone) = true := by
    rw [electing_pairRefusal]
    exact bne_iff_ne.2 h
  unfold State.election
  rw [if_neg (by simp [apart, runs, whole]), if_neg (by simp [strap, enabled]), if_neg (by simp [up]),
    ← electing_pairRefusal]
  exact if_pos cause

/-- A partner that is not refused is judged by what it can be trusted for (R381). -/
theorem election_judged (h : s.setXcLanes.pairRefusal p = 0) : s.election p =
    if s.trustOf p = 1 then ({ s.electing with twin.peerTrust := s.trustOf p } : State).formPair p
    else { s.electing with twin.peerTrust := s.trustOf p } := by
  have only := electing_only s
  have trust : s.electing.trustOf p = s.trustOf p := trustOf_of only.nv only.fm
  unfold State.election
  rw [if_neg (by simp [apart, runs, whole]), if_neg (by simp [strap, enabled]), if_neg (by simp [up]), ← trust]
  refine (if_neg ?_).trans ?_
  · show ¬ (s.electing.pairRefusal p != pcNone) = true
    rw [electing_pairRefusal, h]
    decide
  · exact if_congr beq_iff_eq rfl rfl

end

/-- The pair that forms: its state, its partner, and the role that was elected (R363). -/
theorem formPair_spec (s : State) (p : PeerInfo) :
    (s.formPair p).twin.pairState = 3 ∧ (s.formPair p).twin.pairCause = 0 ∧
      (s.formPair p).twin.partnerSerial = p.serial ∧ (s.formPair p).twin.fenceOut = s.twin.fenceOut ∧
      (s.formPair p).modes = s.modes ∧ (s.formPair p).role = s.electedRole p := by
  unfold State.formPair
  extract_lets role _ _ u v
  have kept : v.twin = u.twin ∧ v.modes = u.modes := by
    simp only [v]
    split <;> exact ⟨rfl, rfl⟩
  obtain ⟨twin, modes⟩ := kept
  clear_value v
  split
  · next shadow =>
    have role_ : role = roleShadow := by simpa using shadow
    simp only [State.becomeShadow, State.setRole, State.role, twin, modes, Voted.value_all]
    exact ⟨rfl, rfl, rfl, rfl, rfl, role_.symm⟩
  · simp only [State.setRole, State.role, twin, modes, Voted.value_all]
    exact ⟨rfl, rfl, rfl, rfl, rfl, rfl⟩

/-- What the election goes by is the same while the module elects. -/
theorem electedRole_of {t : State} (power : t.power = s.power) (modes : t.modes = s.modes) (dict : t.dict = s.dict)
    (nv : t.nv = s.nv) : t.electedRole p = s.electedRole p := by
  unfold State.electedRole State.wins State.cfg State.serial
  rw [capturing_of power modes, dict, nv]

theorem electedRole_capturing (own : s.capturing = true) : s.electedRole p = 1 := if_pos own

variable (own : s.capturing = false)
include own

theorem electedRole_attaching (peer : p.capturing = true) : s.electedRole p = 4 := by
  simp [State.electedRole, own, peer, roleAttaching]

variable (peer : p.capturing = false)
include peer

theorem electedRole_wins : s.electedRole p = if s.wins p then 1 else 2 := by
  simp [State.electedRole, own, peer, roleActive, roleShadow]

end

theorem wins_preferred {s : State} {p : PeerInfo} (own : s.cfg 0x2D00 2 = 1) (peer : p.rolePref ≠ 1) :
    s.wins p = true := by
  simp [State.wins, prefActive, own, peer]

theorem wins_yields {s : State} {p : PeerInfo} (own : s.cfg 0x2D00 2 ≠ 1) (peer : p.rolePref = 1) :
    s.wins p = false := by
  simp [State.wins, prefActive, own, peer]

theorem wins_bySerial {s : State} {p : PeerInfo} (h : s.cfg 0x2D00 2 = p.rolePref) :
    s.wins p = decide (s.serial < p.serial) := by
  simp [State.wins, h]

/-! ## Orders of a pair (R376, R377) -/

section
variable {s : State}

theorem forward_sent (active : s.role = 1) (paired : s.partnered = true) (index sub : Nat) (data : List Byte) :
    Sent.xcRecord (.forwardWrite index sub data) ∈ (s.forward index sub data).sent := by
  have needs : s.needsShadow = true := by simp [State.needsShadow, active, paired, roleActive]
  unfold State.forward
  rw [if_pos needs]
  exact xcSend_sent paired _

theorem noteStaged_ordered (loose : s.stageFrozen = false) (h : s.modes.swapStaged = true ∨ s.modes.detachStaged = true) :
    s.noteStaged = { s with modes.changeState := 1 } := by
  unfold State.noteStaged
  exact if_neg (by rcases h with h | h <;> simp [loose, h])

theorem forward_role (index sub : Nat) (data : List Byte) : (s.forward index sub data).twin.role = s.twin.role := by
  unfold State.forward
  split
  · obtain ⟨l, twin⟩ := xcSend_twin s (.forwardWrite index sub data)
    rw [twin]
  · rfl

/-- An order taken is staged, and told to the Shadow (R376, R377). -/
theorem forward_ordered (loose : s.stageFrozen = false) (h : s.modes.swapStaged = true ∨ s.modes.detachStaged = true)
    (index sub : Nat) (data : List Byte) :
    (s.forward index sub data).noteStaged.modes = { s.modes with changeState := 1 } ∧
      (s.forward index sub data).noteStaged.twin.role = s.twin.role ∧
      (s.forward index sub data).noteStaged.sent = (s.forward index sub data).sent := by
  have modes := (forward_only s index sub data).modes
  have role := forward_role (s := s) index sub data
  rw [noteStaged_ordered (by rw [State.stageFrozen, modes]; exact loose) (by rw [modes]; exact h)]
  exact ⟨congrArg (fun m : Modes => { m with changeState := 1 }) modes, role, rfl⟩

/-- An order that passes the checks of Table 10.2 finds the set open (R21). -/
theorem Passes.loose {via : Path} {index sub : Nat} {data : List Byte} (h : Passes s via index sub data)
    (order : pairOrder index sub = true) : s.stageFrozen = false := by
  obtain ⟨-, -, r, -, code⟩ := h
  refine Bool.eq_false_iff.2 fun frozen => ?_
  have gate : s.gateCode via r index sub data ≠ 0 := by
    unfold State.gateCode
    simp only [order, frozen]
    split
    · decide
    split
    · decide
    split
    · decide
    · rw [if_pos (by simp)]
      decide
  unfold State.writeCode at code
  rw [if_pos (by simpa using gate)] at code
  exact gate code

theorem roleSwapWrite_busy (h : s.twin.pairState ≠ 5) : s.roleSwapWrite = refuse abBusy s :=
  if_pos (by simpa [psLockstep] using h)

theorem roleSwapWrite_staged (h : s.twin.pairState = 5) : s.roleSwapWrite =
    taken ((({ s with modes.swapStaged := true } : State).forward 0x2D00 6 [1]).noteStaged) :=
  if_neg (by simp [psLockstep, h])

theorem detachWrite_busy (h : s.paired = false) : s.detachWrite = refuse abBusy s := if_pos (by simp [h])

theorem detachWrite_staged (h : s.paired = true) : s.detachWrite =
    taken ((({ s with modes.detachStaged := true } : State).forward 0x2D00 7 (leBytes 2 0x4454)).noteStaged) :=
  if_neg (by simp [h])

end

end Sys2Proof.Machine
end

section
namespace Sys2Proof.Machine

set_option Elab.async false

/-! ## Attach (R365, R378) -/

/-- Records are sent, and nothing else of the pair differs. -/
def OnlyTells (s t : State) : Prop :=
  (∃ l, t.twin = { s.twin with recOut := l }) ∧ ∀ x ∈ s.sent, x ∈ t.sent

theorem OnlyTells.refl (s : State) : OnlyTells s s := ⟨⟨s.twin.recOut, rfl⟩, fun _ h => h⟩

theorem OnlyTells.trans {s t u : State} (h : OnlyTells s t) (k : OnlyTells t u) : OnlyTells s u := by
  obtain ⟨⟨_, ht⟩, keeps⟩ := h
  obtain ⟨⟨l, hu⟩, more⟩ := k
  exact ⟨⟨l, by rw [hu, ht]⟩, fun x hx => more x (keeps x hx)⟩

theorem xcSend_onlyTells (s : State) (r : XcRecord) : OnlyTells s (s.xcSend r) :=
  ⟨xcSend_twin s r, fun _ h => xcSend_keeps_sent h r⟩

theorem sendRing_onlyTells (s : State) (n : Nat) : OnlyTells s (s.sendRing n) := by
  unfold State.sendRing
  split
  · split
    · exact xcSend_onlyTells ..
    · exact .refl s
  · exact .refl s

theorem sendRings_onlyTells (s : State) : OnlyTells s s.sendRings := by
  unfold State.sendRings
  induction List.range 64 generalizing s with
  | nil => exact .refl s
  | cons n l ih => exact (sendRing_onlyTells s n).trans (ih _)

section
variable {s : State}

theorem attachAligned_other (h : s.twin.pairState ≠ 3) : s.attachAligned = s := if_neg (by simpa [psAligning] using h)

theorem attachAligned_mirror (h : s.twin.pairState = 3) (mirror : s.role ≠ 1) :
    s.attachAligned = { s with twin.pairState := 4 } := by
  have passive : ¬ (({ s with twin.pairState := psCopying } : State).role == roleActive) = true := by
    simpa [State.role, roleActive] using mirror
  unfold State.attachAligned
  rw [if_pos (by simp [psAligning, h])]
  exact if_neg passive

/-- The Active begins to copy: what it sends first is the state of the pair (R378). -/
theorem attachAligned_active (h : s.twin.pairState = 3) (active : s.role = 1) :
    s.attachAligned = (({ s with twin.pairState := 4 } : State).xcSend (.copy s.copyState)).sendRings := by
  have sends : (({ s with twin.pairState := psCopying } : State).role == roleActive) = true := by
    simpa [State.role, roleActive] using active
  unfold State.attachAligned
  rw [if_pos (by simp [psAligning, h])]
  exact if_pos sends

theorem copied_twin (s : State) :
    (({ s with twin.pairState := 4 } : State).xcSend (.copy s.copyState)).sendRings.twin.pairState = 4 := by
  obtain ⟨⟨l, twin⟩, -⟩ :=
    (xcSend_onlyTells { s with twin.pairState := 4 } (.copy s.copyState)).trans (sendRings_onlyTells _)
  rw [twin]

theorem copied_sent (s : State) : Sent.xcRecord (.copy s.copyState) ∈
    (({ s with twin.pairState := 4 } : State).xcSend (.copy s.copyState)).sendRings.sent :=
  (sendRings_onlyTells _).2 _ (xcSend_sent rfl _)

variable (x t96 pos inc : Nat)

theorem attachCopied_other (h : s.twin.pairState ≠ 4) : s.attachCopied x t96 pos inc = s :=
  if_neg (by simpa [psCopying] using h)

variable (copying : s.twin.pairState = 4)
include copying

/-- A Shadow past epoch-zero takes the Active's sample, time and position (R365). -/
theorem attachCopied_shadow (shadow : s.role = 2) (zero : s.modes.zeroDone = true) :
    s.attachCopied x t96 pos inc = { s.adopt x t96 pos inc with twin.pairState := 5 } := by
  have mirrors : s.mirrors = true := by simp [State.mirrors, shadow, roleShadow]
  have still : ((s.adopt x t96 pos inc).role == roleShadow) = true := by
    simpa [roleShadow] using (show (s.adopt x t96 pos inc).role = 2 from shadow)
  unfold State.attachCopied
  rw [if_pos (by simp [psCopying, copying]), if_pos mirrors, if_pos zero]
  exact if_pos still

variable (own : s.mirrors = false)
include own

theorem attachCopied_idle (idle : s.capturing = false) :
    s.attachCopied x t96 pos inc = { s with twin.pairState := 5 } := by
  unfold State.attachCopied
  rw [if_pos (by simp [psCopying, copying]), if_neg (by simp [own])]
  exact if_neg (by simp [idle])

/-- The Active that captures re-arms its mode, with nothing else under way (R378). -/
theorem attachCopied_rearms (captures : s.capturing = true) (quiet : s.changePending = false)
    (staged : s.modes.staged = []) (swap : s.modes.swapStaged = false) (detach : s.modes.detachStaged = false)
    (check : s.modes.check = none) : s.attachCopied x t96 pos inc =
      s.commitTaken { target := s.mode, base := s.mode, at_ := s.linesAhead 3 } := by
  unfold State.attachCopied State.rearmMode
  rw [if_pos (by simp [psCopying, copying]), if_neg (by simp [own]), if_pos captures]
  exact if_neg (by simp [quiet, staged, swap, detach, check])

end

/-! ## The statement -/

section
variable {s : State} {p : PeerInfo} (apart : s.partnered = false) (runs : s.foremanRuns = true)
  (whole : s.power.recovery = false) (strap : s.power.twinSel = true) (enabled : s.cfgOn 0x2D00 1 = true)
  (up : s.laneUp = true)
include apart runs whole strap enabled up

theorem election_refused_spec (cause : s.setXcLanes.pairRefusal p ≠ 0) :
    OnlyChanges [.grizzly, .regs, .twin, .fm, .sent] s (s.election p) ∧ (s.election p).twin.pairState = 2 ∧
      (s.election p).twin.pairCause = s.setXcLanes.pairRefusal p ∧ (s.election p).twin.role = s.twin.role ∧
      (s.election p).twin.fenceOut = true := by
  obtain ⟨state, role, fence⟩ := electing_shows s
  have told := event_only ({ s.electing with twin.pairCause := s.setXcLanes.pairRefusal p } : State) .pairRefused .crosscut
    0xFF (leBytes 1 (s.setXcLanes.pairRefusal p))
  have twin := told.twin
  rw [election_refused apart runs whole strap enabled up cause]
  refine ⟨(told.next ((setTwin_only ..).next (electing_only s)).mono).only, ?_⟩
  rw [twin]
  exact ⟨state, rfl, role, fence⟩

theorem election_untrusted_spec (fit : s.setXcLanes.pairRefusal p = 0) (doubt : s.trustOf p ≠ 1) :
    OnlyChanges [.regs, .twin, .sent] s (s.election p) ∧ (s.election p).twin.pairState = 2 ∧
      (s.election p).twin.peerTrust = s.trustOf p ∧ (s.election p).twin.role = s.twin.role := by
  obtain ⟨state, role, -⟩ := electing_shows s
  rw [election_judged apart runs whole strap enabled up fit, if_neg doubt]
  exact ⟨((setTwin_only ..).next (electing_only s)).only, state, rfl, role⟩

theorem election_paired_spec (fit : s.setXcLanes.pairRefusal p = 0) (trusted : s.trustOf p = 1) :
    (s.election p).twin.pairState = 3 ∧ (s.election p).twin.pairCause = 0 ∧
      (s.election p).twin.partnerSerial = p.serial ∧ (s.election p).twin.fenceOut = true ∧
      (s.election p).modes = s.modes ∧ (s.election p).role = s.electedRole p := by
  obtain ⟨-, -, up_⟩ := electing_shows s
  have only := electing_only s
  have own : ({ s.electing with twin.peerTrust := s.trustOf p } : State).electedRole p = s.electedRole p :=
    electedRole_of only.power only.modes only.dict only.nv
  rw [election_judged apart runs whole strap enabled up fit, if_pos trusted]
  obtain ⟨state, cause, serial, fence, modes, role⟩ := formPair_spec { s.electing with twin.peerTrust := s.trustOf p } p
  exact ⟨state, cause, serial, fence.trans up_, modes.trans only.modes, role.trans own⟩

end

/-- Settles O43: an election by the first of its checks that decides, an order by the pair that stands, a step of the
attach by the state it finds. -/
theorem electionAndOrders : Obligations.ElectionAndOrders := by
  unfold Obligations.ElectionAndOrders
  refine ⟨fun s p => ⟨fun closed => ?closed, fun apart runs whole => ⟨fun off => ?off, fun strap enabled dark => ?dark,
      fun strap enabled up => ⟨fun cause => ?refused, fun fit doubt => ?untrusted, fun fit trusted => ?paired⟩⟩⟩,
    fun s via data h => ⟨fun other => ?swapBusy, fun stands => ?swap⟩,
    fun s via data h => ⟨fun alone => ?detachBusy, fun stands => ?detach⟩,
    fun s aligning => ⟨fun mirror => ?mirror, fun active => ?copy⟩, fun s other => ?unaligned,
    fun s x t96 pos inc copying => ⟨fun shadow zero => ?shadow, fun own idle => ?idle,
      fun own captures quiet staged swap detach check => ?rearm⟩, fun s x t96 pos inc other => ?uncopied⟩
  case closed =>
    refine completes_of_ran (congrArg (ran s) (if_pos ?_))
    rcases closed with h | h | h <;> simp [h]
  case off => exact completes_of_ran (congrArg (ran s) (election_noStrap apart runs whole off))
  case dark => exact completes_of_ran (congrArg (ran s) (election_dark apart runs whole strap enabled dark))
  case refused => exact ⟨s.election p, rfl, election_refused_spec apart runs whole strap enabled up cause⟩
  case untrusted => exact ⟨s.election p, rfl, election_untrusted_spec apart runs whole strap enabled up fit doubt⟩
  case paired =>
    obtain ⟨state, cause, serial, fence, modes, role⟩ := election_paired_spec apart runs whole strap enabled up fit trusted
    refine ⟨s.election p, rfl, state, cause, serial, fence, modes, fun own => role.trans (electedRole_capturing own),
      fun own peer => role.trans (electedRole_attaching own peer), fun own peer => ?_⟩
    rw [electedRole_wins own peer] at role
    refine ⟨fun mine yours => ?_, fun mine yours => ?_, fun same => ?_⟩
    · rw [role, wins_preferred mine yours]
      rfl
    · rw [role, wins_yields mine yours]
      rfl
    · rw [role, wins_bySerial same]
      simp only [decide_eq_true_eq]
  case swapBusy =>
    have answered := h.unit rfl (t := s.roleSwapWrite) rfl (by decide) (by decide)
    rw [roleSwapWrite_busy other] at answered
    exact completes_of_ran (congrArg (ran s) answered)
  case swap =>
    have answered := h.unit rfl (t := s.roleSwapWrite) rfl (by decide) (by decide)
    have only := roleSwapWrite_only s
    rw [roleSwapWrite_staged stands] at answered only
    obtain ⟨modes, role, sent⟩ := forward_ordered (s := { s with modes.swapStaged := true })
      (show s.stageFrozen = false from h.loose (by decide)) (.inl rfl) 0x2D00 6 [1]
    refine ⟨_, completes_of_ran (congrArg (ran s) answered), ((answer_only ..).next only.mono).only,
      (congrArg Modes.swapStaged modes :), (congrArg Modes.changeState modes :), role, fun active => ?_⟩
    have told := forward_sent (s := { s with modes.swapStaged := true }) active (by simp [State.partnered, stands])
      0x2D00 6 [1]
    exact List.mem_cons_of_mem _ (by rwa [← sent] at told)
  case detachBusy =>
    have answered := h.unit rfl (t := s.detachWrite) rfl (by decide) (by decide)
    rw [detachWrite_busy alone] at answered
    exact completes_of_ran (congrArg (ran s) answered)
  case detach =>
    have answered := h.unit rfl (t := s.detachWrite) rfl (by decide) (by decide)
    have only := detachWrite_only s
    rw [detachWrite_staged stands] at answered only
    obtain ⟨modes, role, -⟩ := forward_ordered (s := { s with modes.detachStaged := true })
      (show s.stageFrozen = false from h.loose (by decide)) (.inr rfl) 0x2D00 7 (leBytes 2 0x4454)
    exact ⟨_, completes_of_ran (congrArg (ran s) answered), ((answer_only ..).next only.mono).only,
      (congrArg Modes.detachStaged modes :), (congrArg Modes.changeState modes :), role⟩
  case mirror => exact completes_of_ran (congrArg (ran s) (attachAligned_mirror aligning mirror))
  case copy =>
    exact ⟨_, completes_of_ran (congrArg (ran s) (attachAligned_active aligning active)),
      ((sendRings_only _).next <| (xcSend_only ..).next (setTwin_only s _).mono).only, copied_twin s, copied_sent s⟩
  case unaligned => exact completes_of_ran (congrArg (ran s) (attachAligned_other other))
  case shadow =>
    exact ⟨_, completes_of_ran (congrArg (ran s) (attachCopied_shadow x t96 pos inc copying shadow zero)),
      ((setTwin_only ..).next (adopt_only s x t96 pos inc)).only, rfl, rfl, rfl, rfl⟩
  case idle => exact completes_of_ran (congrArg (ran s) (attachCopied_idle x t96 pos inc copying own idle))
  case rearm =>
    have modes := commitTaken_modes s { target := s.mode, base := s.mode, at_ := s.linesAhead 3 }
    exact ⟨_, completes_of_ran (congrArg (ran s)
      (attachCopied_rearms x t96 pos inc copying own captures quiet staged swap detach check)), by rw [modes]; rfl,
      by rw [modes]⟩
  case uncopied => exact completes_of_ran (congrArg (ran s) (attachCopied_other x t96 pos inc other))

end Sys2Proof.Machine
end

section
namespace Sys2Proof.Machine

set_option Elab.async false

/-! ## An element of a bank, by a number within it -/

theorem setRegs_only (s : State) (r : Regs) : Alters [.regs] s { s with regs := r } :=
  .set fun p hp => by cases p <;> first | rfl | exact absurd ((Part.mem_bits ..).2 rfl) hp

theorem vmod_fin_same {α : Type} {n : Nat} (v : Vector α n) (i : Fin n) (f : α → α) : (vmod v i.val f)[i] = f v[i] := by
  simp [vmod]

theorem vmod_fin_other {α : Type} {n : Nat} (v : Vector α n) {i j : Fin n} (h : j ≠ i) (f : α → α) :
    (vmod v i.val f)[j] = v[j] := by
  have other := vget_vmod_other v i.val j.val f v[j] (Fin.val_ne_of_ne h)
  rwa [vget_fin, vget_fin] at other

/-! ## Claims (R339 to R341) -/

section
variable (s : State) (m : Master) (n : Nat) (i : Fin 16)

theorem claim_fin : s.claim i.val = s.regs.claims[i] := vget_fin ..

/-- A free claim is its reader's, with one more grant. -/
theorem readClaim_takes (free : (s.claim n).owner = 0) : s.readClaim m n false =
    (claimWord 1 (masterCode m) (((s.claim n).grants + 1) % 2 ^ 16), s.onClaim n fun c =>
      { c with owner := masterCode m, grants := ((s.claim n).grants + 1) % 2 ^ 16 }) := by
  simp [State.readClaim, free]

theorem readClaim_zeroLength (free : (s.claim n).owner = 0) :
    s.readClaim m n true = (claimWord 0 0 (s.claim n).grants, s) := by
  simp [State.readClaim, free]

theorem readClaim_held (held : (s.claim n).owner ≠ 0) (z : Bool) :
    s.readClaim m n z = (claimWord 2 (s.claim n).owner (s.claim n).grants, s) := by
  simp [State.readClaim, held]

theorem freeClaim_spec : Alters [.regs] s (s.freeClaim i.val) ∧ (s.freeClaim i.val).regs.claims[i].owner = 0 ∧
    (s.freeClaim i.val).regs.claims[i].grants = s.regs.claims[i].grants ∧
    (s.freeClaim i.val).regs.accessFault = s.regs.accessFault := by
  have freed : (s.freeClaim i.val).regs.claims[i] = { s.regs.claims[i] with owner := 0 } := vmod_fin_same ..
  rw [freed]
  exact ⟨freeClaim_only .., rfl, rfl, rfl⟩

theorem writeClaim_owner {owner : Nat} (mine : (s.claim n).owner = masterCode m) (names : owner = masterCode m) :
    s.writeClaim m n owner = s.freeClaim n := by
  simp [State.writeClaim, mine, names]

theorem writeClaim_refused {owner : BitVec 4} (other : (s.claim n).owner ≠ masterCode m ∨ owner.toNat ≠ masterCode m)
    (unforced : ¬ (m = .foreman ∧ owner = 0xF)) :
    s.writeClaim m n owner.toNat = s.accessFault (claimOffset n) afRelease m := by
  have plain : (m == .foreman && owner.toNat == 0xF) = false :=
    Bool.eq_false_iff.2 fun h => unforced <| by simpa [BitVec.toNat_eq] using h
  have stranger : ((s.claim n).owner == masterCode m && owner.toNat == masterCode m) = false := by
    rcases other with h | h <;> simp [h]
  unfold State.writeClaim
  rw [plain, stranger]
  rfl

theorem accessFault_atClaim (cause : Nat) : (s.accessFault (claimOffset i.val) cause m).regs.accessFault =
    s.regs.accessFault.inc ∧
    (s.accessFault (claimOffset i.val) cause m).regs.accessLast = (0x200000 + 4 * i.val, cause, masterCode m) :=
  accessFault_shown s (by unfold claimOffset; omega) (by unfold claimOffset; omega) cause m

end

/-! ## The two sides of a channel (R343) -/

section
variable (s : State) (a : CageSide)

@[simp] theorem peerSide_peerSide : peerSide (peerSide a) = a := by cases a <;> rfl

@[simp] theorem cage_onCage (f : CageEnd → CageEnd) : (s.onCage a f).cage a = f (s.cage a) := by
  cases a <;> simp [State.onCage, State.cage, vget_vmod_same]

@[simp] theorem cage_peer_onCage (f : CageEnd → CageEnd) : (s.onCage a f).cage (peerSide a) = s.cage (peerSide a) := by
  cases a <;> simp [State.onCage, State.cage, peerSide, vget_vmod_same]

@[simp] theorem cage_onCage_peer (f : CageEnd → CageEnd) : (s.onCage (peerSide a) f).cage a = s.cage a := by
  simpa using cage_peer_onCage s (peerSide a) f

/-- A side is held in reset by what its peer shows. -/
@[simp] theorem sideInReset_peer : s.sideInReset (peerSide a) = (s.cage a).peerInReset := by simp [State.sideInReset]

variable {s a}

theorem cage_congr {t : State} (h : t.regs = s.regs) : t.cage a = s.cage a := by
  unfold State.cage
  rw [h]

/-! ## Bells (R346, R347) -/

theorem raiseBells_held (h : s.sideInReset a = true) (mask : Word) : s.raiseBells a mask = s := if_pos h

theorem raiseBells_regs (h : s.sideInReset a = false) (mask : Word) :
    (s.raiseBells a mask).regs = (s.onCage a fun m => { m with pend := m.pend ||| mask }).regs := by
  unfold State.raiseBells
  extract_lets m fresh t
  rw [if_neg (by simp [h])]
  split
  · exact (cageVector_only t a).regs
  · rfl

variable (mask : Word)

/-- Bells to the peer are pending there unless it is in reset, and this side stays. -/
theorem raiseBells_peer (up : (s.cage a).peerInReset = false) :
    (s.raiseBells (peerSide a) mask).cage a = s.cage a ∧ (s.raiseBells (peerSide a) mask).cage (peerSide a) =
      { s.cage (peerSide a) with pend := (s.cage (peerSide a)).pend ||| mask } := by
  have regs := raiseBells_regs ((sideInReset_peer s a).trans up) mask
  exact ⟨(cage_congr regs).trans (by simp), (cage_congr regs).trans (by simp)⟩

theorem raiseBells_peer_held (held : (s.cage a).peerInReset = true) : s.raiseBells (peerSide a) mask = s :=
  raiseBells_held ((sideInReset_peer s a).trans held) mask

theorem bellMask_cage : (s.bellMask a mask).cage a = { s.cage a with mask } := by
  unfold State.bellMask
  extract_lets m u
  have masked : u.cage a = { s.cage a with mask } := cage_onCage ..
  split
  · exact (cage_congr (cageVector_only u a).regs).trans masked
  · exact masked

/-! ## Messages (R344, R345, R347) -/

/-- The message that a side sends next (Table 11.4). -/
def State.cageMsg (s : State) (a : CageSide) : List Word := cageStamp a (s.cage a).msgSeq :: (s.cage a).tx.toList

/-- A side with one more message sent. -/
def CageEnd.sentOne (m : CageEnd) : CageEnd :=
  { m with msgSeq := (m.msgSeq + 1) % 2 ^ 16, txTotal := (m.txTotal + 1) % 2 ^ 64 }

theorem receive_room {m : CageEnd} (room : m.rx.length < 16) (msg : List Word) :
    m.receive msg = ({ m with rx := m.rx ++ [msg] }, false) := if_pos room

theorem receive_full {m : CageEnd} (full : 16 ≤ m.rx.length) (msg : List Word) :
    m.receive msg = ({ m with rx := m.rx.drop 1 ++ [msg], lost := m.lost.inc }, true) := if_neg (Nat.not_lt.2 full)

theorem receive_pend (m : CageEnd) (msg : List Word) : (m.receive msg).1.pend = m.pend := by
  unfold CageEnd.receive
  split <;> rfl

theorem cageSend_held (held : (s.cage a).peerInReset = true) :
    s.cageSend a = (s.onCage a CageEnd.sentOne).onCage a fun m => { m with aborted := m.aborted.inc } :=
  if_pos (by simpa using held)

/-- A message to a side that is not in reset: it is queued there with Bell 0, and a loss there is an overrun here. -/
theorem cageSend_cages (up : (s.cage a).peerInReset = false) :
    (s.cageSend a).cage a = { (s.cage a).sentOne with
      txOverrun := ((s.cage (peerSide a)).receive (s.cageMsg a)).2 || (s.cage a).txOverrun } ∧
    (s.cageSend a).cage (peerSide a) = { ((s.cage (peerSide a)).receive (s.cageMsg a)).1 with
      pend := (s.cage (peerSide a)).pend ||| 1 } := by
  unfold State.cageSend
  extract_lets m msg u lost v w
  have own : u.cage a = (s.cage a).sentOne := cage_onCage ..
  have peer : u.cage (peerSide a) = s.cage (peerSide a) := cage_peer_onCage ..
  have lost_eq : lost = ((s.cage (peerSide a)).receive (s.cageMsg a)).2 := by rw [← peer]; rfl
  have queued : v.cage a = (s.cage a).sentOne ∧
      v.cage (peerSide a) = ((s.cage (peerSide a)).receive (s.cageMsg a)).1 :=
    ⟨(cage_onCage_peer ..).trans own, (cage_onCage ..).trans (by rw [peer]; rfl)⟩
  have marked : w.cage a = { (s.cage a).sentOne with txOverrun := lost || (s.cage a).txOverrun } ∧
      w.cage (peerSide a) = v.cage (peerSide a) := by
    by_cases h : lost = true
    · have set : w = v.onCage a fun m => { m with txOverrun := true } := if_pos h
      rw [set, cage_onCage, cage_peer_onCage, queued.1, h]
      exact ⟨rfl, rfl⟩
    · have same : w = v := if_neg h
      rw [same, queued.1, Bool.eq_false_iff.2 h]
      exact ⟨rfl, rfl⟩
  have reset : u.sideInReset (peerSide a) = false := by rw [sideInReset_peer, own]; exact up
  have free : (w.cage a).peerInReset = false := by rw [marked.1]; exact up
  obtain ⟨wOwn, wPeer⟩ := raiseBells_peer 1 free
  rw [if_neg (by simp [reset]), wOwn, wPeer, marked.1, marked.2, queued.2, receive_pend, lost_eq]
  exact ⟨rfl, rfl⟩

/-- POP of the oldest message: the rest stays, and the sender is told of the space. -/
theorem cagePop_next {m : List Word} {l : List (List Word)} (h : (s.cage a).rx = m :: l) :
    s.cagePop a = (s.onCage a fun m => { m with rx := l, restartMark := false }).raiseBells (peerSide a) 2 := by
  unfold State.cagePop
  rw [h]

theorem cagePop_empty (h : (s.cage a).rx = []) : s.cagePop a = s := by
  unfold State.cagePop
  rw [h]

end

end Sys2Proof.Machine
end

section
namespace Sys2Proof.Machine

set_option Elab.async false

/-! ## A fault into an idle Foreman (R386) -/

theorem fault_idle_spec {s : State} (idle : s.fm.handling = none) (runs : s.fm.restarting = false) (cls : FaultClass)
    (code : EvCode) (unit : UnitId) (inst : Nat) (detail : List Byte) :
    Alters [.fm] s (s.fault cls code unit inst detail) ∧ ∃ x, (s.fault cls code unit inst detail).fm.handling = some x ∧
      x.req = { cls, unit, code, inst, detail } := by
  obtain ⟨only, handling, -⟩ := raiseFault_idle_spec (f := { cls, unit, code, inst, detail }) idle runs
  exact ⟨only, _, handling, rfl⟩

/-! ## Three copies of a field (R342) -/

section
variable {α : Type} [DecidableEq α] (v : Voted α) {a b c : α}

theorem vote_agrees : vote v a a a = (v, 0) := if_pos ⟨rfl, rfl⟩

/-- One copy that differs is outvoted, whichever it is. -/
theorem vote_corrects {c0 c1 c2 : Nat} {x y : Nat} (g : Nat → α) (differ : g x ≠ g y)
    (copies : (c0, c1, c2) = (x, x, y) ∨ (c0, c1, c2) = (x, y, x) ∨ (c0, c1, c2) = (y, x, x)) :
    vote v (g c0) (g c1) (g c2) = (.all (g x), 1) := by
  rcases copies with h | h | h <;> cases h
  · simp [vote, differ]
  · simp [vote, differ]
  · simp [vote, differ.symm]

theorem vote_splits (hb : a ≠ b) (hc : c ≠ a) (hd : c ≠ b) :
    vote v a b c = ({ c0 := a, c1 := b, c2 := c, last := v.value }, 2) := by
  simp [vote, hb, hc.symm, hd.symm]

/-- A split field keeps the value in use. -/
theorem value_split (hb : a ≠ b) (hc : c ≠ a) (hd : c ≠ b) :
    ({ c0 := a, c1 := b, c2 := c, last := v.value } : Voted α).value = v.value := by
  simp [Voted.value, hb, hc.symm, hd.symm]

end

theorem floorOf_inj {a b : Nat} (h : floorOf a = floorOf b) : a = b := by
  obtain ⟨high, low⟩ := Prod.mk.inj h
  omega

theorem laneEnables_inj {a b : Nat} (ha : a < 2 ^ 52) (hb : b < 2 ^ 52) (h : BitVec.ofNat 52 a = BitVec.ofNat 52 b) :
    a = b := by
  have toNat := congrArg BitVec.toNat h
  rwa [BitVec.toNat_ofNat, BitVec.toNat_ofNat, Nat.mod_eq_of_lt ha, Nat.mod_eq_of_lt hb] at toNat

/-! ## A voted field compared (R342) -/

/-- A voted field written on its three copies. -/
def State.setVoted (s : State) (f : VotedField) (a : Nat) : State :=
  match f with
  | .mode => { s with modes.mode := .all a }
  | .epoch => { s with modes.epoch := .all a }
  | .floor => { s with grizzly.floor := .all (floorOf a) }
  | .lanes => { s with regs.lanes := .all (BitVec.ofNat 52 a) }
  | .role => { s with twin.role := .all a }
  | .lifeCycle => { s with fm.lifeCycle := .all a }

/-- A correction noted and counted. -/
def State.noteVote (s : State) (f : VotedField) : State :=
  { s with regs.voteFixed := s.regs.voteFixed ||| BitVec.ofNat 6 (2 ^ votedBit f)
           regs.voteCorrected := s.regs.voteCorrected.inc }

section
variable (s : State) (f : VotedField) {a b c : Nat}

theorem setVoted_only : Alters [.modes, .grizzly, .regs, .twin, .fm] s (s.setVoted f a) := by
  cases f <;> exact .set fun p hp => by cases p <;> first | rfl | exact absurd ((Part.mem_bits ..).2 rfl) hp

theorem setVoted_regs : ∃ l, (s.setVoted f a).regs = { s.regs with lanes := l } := by
  cases f <;> exact ⟨_, rfl⟩

theorem compareCopies_agrees (a : Nat) : s.compareCopies f a a a = (s, 0) := by
  cases f <;> simp [State.compareCopies, vote_agrees]

theorem voteMismatch_agrees (a : Nat) : s.voteMismatch f a a a = s := by
  unfold State.voteMismatch
  rw [compareCopies_agrees]
  rfl

variable (ha : a < 2 ^ 52) (hb : b < 2 ^ 52) (differ : a ≠ b)
include ha hb differ

theorem compareCopies_corrects {c0 c1 c2 : Nat}
    (copies : (c0, c1, c2) = (a, a, b) ∨ (c0, c1, c2) = (a, b, a) ∨ (c0, c1, c2) = (b, a, a)) :
    s.compareCopies f c0 c1 c2 = (s.setVoted f a, 1) := by
  have numbers (v : Voted Nat) : vote v c0 c1 c2 = (.all a, 1) := vote_corrects v id differ copies
  have floors (v : Voted (Nat × Nat)) := vote_corrects v floorOf (fun h => differ (floorOf_inj h)) copies
  have lanes (v : Voted (BitVec 52)) :=
    vote_corrects v (BitVec.ofNat 52) (fun h => differ (laneEnables_inj ha hb h)) copies
  cases f <;> simp [State.compareCopies, State.setVoted, numbers, floors, lanes]

theorem voteMismatch_corrects {c0 c1 c2 : Nat}
    (copies : (c0, c1, c2) = (a, a, b) ∨ (c0, c1, c2) = (a, b, a) ∨ (c0, c1, c2) = (b, a, a)) :
    s.voteMismatch f c0 c1 c2 = (s.setVoted f a).noteVote f := by
  unfold State.voteMismatch
  rw [compareCopies_corrects s f ha hb differ copies]
  rfl

/-- Copies that all differ leave every value in use, and the Foreman's queue of faults. -/
theorem compareCopies_splits (hc : c < 2 ^ 52) (ca : c ≠ a) (cb : c ≠ b) : ∃ u, s.compareCopies f a b c = (u, 2) ∧
    u.regs.voteSplit = s.regs.voteSplit ∧ u.fm.handling = s.fm.handling ∧ u.fm.restarting = s.fm.restarting ∧
    u.modes.mode.value = s.modes.mode.value ∧ u.modes.epoch.value = s.modes.epoch.value ∧
    u.twin.role.value = s.twin.role.value := by
  have numbers (v : Voted Nat) := vote_splits v differ ca cb
  have floors (v : Voted (Nat × Nat)) := vote_splits v (fun h => differ (floorOf_inj h)) (fun h => ca (floorOf_inj h))
    (fun h => cb (floorOf_inj h))
  have lanes (v : Voted (BitVec 52)) := vote_splits v (fun h => differ (laneEnables_inj ha hb h))
    (fun h => ca (laneEnables_inj hc ha h)) (fun h => cb (laneEnables_inj hc hb h))
  have kept (v : Voted Nat) := value_split v differ ca cb
  cases f <;> simp only [State.compareCopies, numbers, floors, lanes]
  case mode => exact ⟨_, rfl, rfl, rfl, rfl, kept _, rfl, rfl⟩
  case epoch => exact ⟨_, rfl, rfl, rfl, rfl, rfl, kept _, rfl⟩
  case role => exact ⟨_, rfl, rfl, rfl, rfl, rfl, rfl, kept _⟩
  case floor | lanes | lifeCycle => exact ⟨_, rfl, rfl, rfl, rfl, rfl, rfl, rfl⟩

/-- A split field is an Isolate fault of its owner, and no value in use differs. -/
theorem voteMismatch_splits (hc : c < 2 ^ 52) (ca : c ≠ a) (cb : c ≠ b) (idle : s.fm.handling = none)
    (runs : s.fm.restarting = false) : ∃ x,
      (s.voteMismatch f a b c).regs.voteSplit = s.regs.voteSplit ||| BitVec.ofNat 6 (2 ^ votedBit f) ∧
      (s.voteMismatch f a b c).fm.handling = some x ∧
      x.req = { cls := .isolate, unit := votedUnit f a b c, code := .voteSplit, inst := 0xFF
                detail := leBytes 1 (votedBit f) } ∧
      (s.voteMismatch f a b c).modes.mode.value = s.modes.mode.value ∧
      (s.voteMismatch f a b c).modes.epoch.value = s.modes.epoch.value ∧
      (s.voteMismatch f a b c).twin.role.value = s.twin.role.value := by
  obtain ⟨u, compared, split, handling, restarting, mode, epoch, role⟩ := compareCopies_splits s f ha hb differ hc ca cb
  obtain ⟨only, x, taken, req⟩ := fault_idle_spec (s := { u with
      regs.voteSplit := u.regs.voteSplit ||| BitVec.ofNat 6 (2 ^ votedBit f) }) (handling.trans idle)
    (restarting.trans runs) .isolate .voteSplit (votedUnit f a b c) 0xFF (leBytes 1 (votedBit f))
  unfold State.voteMismatch
  rw [compared]
  refine ⟨x, (congrArg Regs.voteSplit only.regs).trans ?_, taken, req,
    (congrArg (fun m : Modes => m.mode.value) only.modes).trans mode,
    (congrArg (fun m : Modes => m.epoch.value) only.modes).trans epoch,
    (congrArg (fun m : Twin => m.role.value) only.twin).trans role⟩
  rw [← split]

end

/-! ## Skips (R350, R353) -/

section
variable (s : State) (k : Fin 6) (w r : Bool)

/-- The descriptors that wait for an engine are the items of JOB_IN (R349). -/
theorem skipFlush_jobIn (h : k.val = 3) : s.skipFlush (.numbered k) w r =
    { s with regs.skips := vmod s.regs.skips k.val fun x => x.flush w r, smelter.queue := [] } := if_pos h

theorem skipFlush_other (h : k.val ≠ 3) : s.skipFlush (.numbered k) w r =
    { s with regs.skips := vmod s.regs.skips k.val fun x => x.flush w r } := if_neg h

theorem skipFlush_regs : (s.skipFlush (.numbered k) w r).regs =
    { s.regs with skips := vmod s.regs.skips k.val fun x => x.flush w r } := by
  by_cases h : k.val = 3
  · rw [skipFlush_jobIn s k w r h]
  · rw [skipFlush_other s k w r h]

theorem skipFlush_fm (i : SkipId) : (s.skipFlush i w r).fm = s.fm := (skipFlush_only ..).fm

variable (a : CageSide)

theorem skipFlush_cage_only : Alters [.regs] s (s.skipFlush (.cage a) w r) := by
  unfold State.skipFlush
  exact onCage_only ..

theorem skipFlush_cage : (s.skipFlush (.cage a) w r).cage a =
    { s.cage a with rx := [], lost := (s.cage a).lost.add ((s.cage a).rx.length + bit w), restartMark := true } :=
  cage_onCage ..

variable {s}

/-- A numbered skip of which the copies of a pointer disagree is flushed, a Degrade fault of its writer. -/
theorem skipMismatch_numbered (idle : s.fm.handling = none) (runs : s.fm.restarting = false) :
    (s.skipMismatch (.numbered k) w r).regs = { s.regs with
      skips := vmod s.regs.skips k.val fun x => x.flush w r
      skipPtr := s.regs.skipPtr ||| BitVec.ofNat 6 (2 ^ k.val) } ∧
    ∃ x, (s.skipMismatch (.numbered k) w r).fm.handling = some x ∧
      x.req = { cls := .degrade, unit := skipWriter k.val, code := .skipPointer, inst := k.val, detail := [] } := by
  have flushed := skipFlush_regs s k w r
  have fm := skipFlush_fm s w r (.numbered k)
  unfold State.skipMismatch
  extract_lets u
  obtain ⟨only, taken⟩ := fault_idle_spec
    (s := { u with regs.skipPtr := u.regs.skipPtr ||| BitVec.ofNat 6 (2 ^ k.val) })
    ((congrArg Foreman.handling fm).trans idle) ((congrArg Foreman.restarting fm).trans runs) .degrade .skipPointer
    (skipWriter k.val) k.val []
  exact ⟨only.regs.trans <|
    congrArg (fun m : Regs => { m with skipPtr := m.skipPtr ||| BitVec.ofNat 6 (2 ^ k.val) }) flushed, taken⟩

/-- The receive queue of a side whose pointer's copies disagree is flushed, whatever the Foreman does. -/
theorem skipMismatch_cage : (s.skipMismatch (.cage a) w r).regs.cagePtr = true ∧
    (s.skipMismatch (.cage a) w r).cage a = (s.skipFlush (.cage a) w r).cage a := by
  unfold State.skipMismatch
  extract_lets u
  have only := fault_only_fm ({ u with regs.cagePtr := true } : State) (cls := .degrade) (by decide) .skipPointer
    (cageWriter a) 0xFF []
  refine ⟨congrArg Regs.cagePtr only.regs, (cage_congr only.regs).trans ?_⟩
  cases a <;> rfl

theorem skipMismatch_cage_fault (idle : s.fm.handling = none) (runs : s.fm.restarting = false) :
    ∃ x, (s.skipMismatch (.cage a) w r).fm.handling = some x ∧
      x.req = { cls := .degrade, unit := cageWriter a, code := .skipPointer, inst := 0xFF, detail := [] } := by
  have fm := skipFlush_fm s w r (.cage a)
  unfold State.skipMismatch
  extract_lets u
  exact (fault_idle_spec (s := { u with regs.cagePtr := true }) ((congrArg Foreman.handling fm).trans idle)
    ((congrArg Foreman.restarting fm).trans runs) ..).2

end

end Sys2Proof.Machine
end

section
namespace Sys2Proof.Machine

set_option Elab.async false

/-! ## The statement -/

section
variable (s : State) (a : CageSide)

theorem cageSend_spec (up : (s.cage a).peerInReset = false) :
    ((s.cageSend a).cage a).msgSeq = ((s.cage a).msgSeq + 1) % 2 ^ 16 ∧
    ((s.cageSend a).cage a).txTotal = ((s.cage a).txTotal + 1) % 2 ^ 64 ∧
    ((s.cageSend a).cage (peerSide a)).pend = (s.cage (peerSide a)).pend ||| 1 ∧
    ((s.cage (peerSide a)).rx.length < 16 →
      ((s.cageSend a).cage (peerSide a)).rx = (s.cage (peerSide a)).rx ++ [s.cageMsg a] ∧
      ((s.cageSend a).cage a).txOverrun = (s.cage a).txOverrun ∧
      ((s.cageSend a).cage (peerSide a)).lost = (s.cage (peerSide a)).lost) ∧
    (16 ≤ (s.cage (peerSide a)).rx.length →
      ((s.cageSend a).cage (peerSide a)).rx = (s.cage (peerSide a)).rx.drop 1 ++ [s.cageMsg a] ∧
      ((s.cageSend a).cage a).txOverrun = true ∧
      ((s.cageSend a).cage (peerSide a)).lost = (s.cage (peerSide a)).lost.inc) := by
  obtain ⟨own, peer⟩ := cageSend_cages up
  rw [own, peer]
  refine ⟨rfl, rfl, rfl, fun room => ?_, fun full => ?_⟩
  · rw [receive_room room]
    exact ⟨rfl, rfl, rfl⟩
  · rw [receive_full full]
    exact ⟨rfl, rfl, rfl⟩

theorem cagePop_spec {m : List Word} {l : List (List Word)} (next : (s.cage a).rx = m :: l) :
    ((s.cagePop a).cage a).rx = l ∧
    ((s.cage a).peerInReset = false →
      ((s.cagePop a).cage (peerSide a)).pend = (s.cage (peerSide a)).pend ||| 2) ∧
    ((s.cage a).peerInReset = true → ((s.cagePop a).cage (peerSide a)).pend = (s.cage (peerSide a)).pend) := by
  have popped : (s.onCage a fun m => { m with rx := l, restartMark := false }).cage a =
      { s.cage a with rx := l, restartMark := false } := cage_onCage ..
  have peer : (s.onCage a fun m => { m with rx := l, restartMark := false }).cage (peerSide a) = s.cage (peerSide a) :=
    cage_peer_onCage ..
  rw [cagePop_next next]
  generalize (s.onCage a fun m => { m with rx := l, restartMark := false }) = u at popped peer
  have shown : (u.cage a).peerInReset = (s.cage a).peerInReset := by rw [popped]
  cases reset : (s.cage a).peerInReset with
  | false =>
    obtain ⟨own, told⟩ := raiseBells_peer 2 (shown.trans reset)
    rw [own, told, popped, peer]
    exact ⟨rfl, fun _ => rfl, nofun⟩
  | true =>
    rw [raiseBells_peer_held 2 (shown.trans reset), popped, peer]
    exact ⟨rfl, nofun, fun _ => rfl⟩

end

theorem completes_claimRead {s t : State} {m : Master} {i : Fin 16} {z : Bool} {word : Nat}
    (read : s.readClaim m i.val z = (word, t)) :
    Completes (.claimRead m i z) s (t.send (.completion true false [BitVec.ofNat 32 word])) :=
  completes_of_ran <| congrArg
    (fun x : Nat × State => ran s (x.2.send (.completion true false [BitVec.ofNat 32 x.1]))) read

/-- Settles O41: claims by their owner, a side of a channel by what its peer shows and holds, a voted field by the
copies that agree, a skip by what it holds. -/
theorem claimsCagesVotesAndSkips : Obligations.ClaimsCagesVotesAndSkips := by
  unfold Obligations.ClaimsCagesVotesAndSkips
  refine ⟨⟨fun s m i => ?read, fun s m i owner => ⟨fun mine names => ?release, fun other unforced => ?refused⟩,
    fun s i => ?force, fun s a up => ⟨?send, fun mask => ?raise⟩, fun s a mask held => ⟨?silent, ?aborts⟩,
    fun s a m l next => ?pop, fun s a empty => ?popEmpty, fun s a mask => ⟨?clear, ?mask⟩⟩,
    fun s f a b ha hb differ => ⟨?agree, fun c0 c1 c2 copies => ?correct, fun c hc ca cb idle runs => ?split⟩,
    fun s k w r => ?flush, fun s a w r => ?flushCage, fun s k w r idle runs => ?pointer, fun s a w r => ?pointerCage⟩
  case read =>
    simp only [← claim_fin]
    refine ⟨fun free => ⟨?_, ?_⟩, fun held z => ?_⟩
    · refine ⟨_, completes_claimRead (readClaim_takes s m i.val free),
        ((send_only ..).next (onClaim_only ..).mono).only,
        vget_vmod_same _ _ _ _ i.isLt, fun j h => vget_vmod_other _ _ _ _ _ (Fin.val_ne_of_ne h), ?_⟩
      simp [claimWord]
    · exact ⟨_, completes_claimRead (readClaim_zeroLength s m i.val free), (send_only ..).only⟩
    · exact ⟨_, completes_claimRead (readClaim_held s m i.val held z), (send_only ..).only, rfl⟩
  case release =>
    obtain ⟨only, owner, grants, fault⟩ := freeClaim_spec s i
    exact ⟨_, completes_of_ran (congrArg (ran s) (writeClaim_owner s m i.val ((claim_fin s i).symm ▸ mine) names)),
      only.only, owner, grants, fault⟩
  case refused =>
    obtain ⟨count, last⟩ := accessFault_atClaim s m i afRelease
    have refused := writeClaim_refused s m i.val ((claim_fin s i).symm ▸ other) unforced
    exact ⟨_, completes_of_ran (congrArg (ran s) refused), (accessFault_only ..).only, rfl, rfl, count, last⟩
  case force =>
    obtain ⟨only, owner, grants, -⟩ := freeClaim_spec s i
    exact ⟨_, completes_of_ran rfl, only.only, owner, grants⟩
  case send => exact ⟨s.cageSend a, completes_of_ran rfl, (cageSend_only ..).only, cageSend_spec s a up⟩
  case raise =>
    obtain ⟨-, told⟩ := raiseBells_peer (mask &&& 0xFFFFFFF8) up
    exact ⟨s.bellRaise a mask, completes_of_ran rfl, (bellRaise_only ..).only, (congrArg CageEnd.pend told :),
      (congrArg CageEnd.rx told :)⟩
  case silent => exact completes_of_ran (congrArg (ran s) (raiseBells_peer_held _ held))
  case aborts =>
    exact ⟨_, completes_of_ran (congrArg (ran s) (cageSend_held held)), ((onCage_only ..).next (onCage_only ..)).only,
      by simp [CageEnd.sentOne], by simp⟩
  case pop => exact ⟨s.cagePop a, completes_of_ran rfl, (cagePop_only ..).only, cagePop_spec s a next⟩
  case popEmpty => exact completes_of_ran (congrArg (ran s) (cagePop_empty empty))
  case clear =>
    exact ⟨s.bellClear a mask, completes_of_ran rfl, (bellClear_only ..).only, congrArg CageEnd.pend (cage_onCage ..),
      cage_peer_onCage ..⟩
  case mask =>
    have masked := bellMask_cage (s := s) (a := a) mask
    exact ⟨s.bellMask a mask, completes_of_ran rfl, (bellMask_only ..).only, (congrArg CageEnd.mask masked :),
      (congrArg CageEnd.pend masked :)⟩
  case agree => exact completes_of_ran (congrArg (ran s) (voteMismatch_agrees s f a))
  case correct =>
    obtain ⟨l, regs⟩ := setVoted_regs s f (a := a)
    refine ⟨(s.setVoted f a).noteVote f,
      completes_of_ran (congrArg (ran s) (voteMismatch_corrects s f ha hb differ copies)),
      ((setRegs_only ..).next (setVoted_only s f)).only, ?_, ?_, ?_, ?_⟩
    · exact (congrArg (fun m : Regs => m.voteFixed ||| BitVec.ofNat 6 (2 ^ votedBit f)) regs :)
    · exact (congrArg (fun m : Regs => m.voteCorrected.inc) regs :)
    · exact (congrArg Regs.voteSplit regs :)
    · refine ⟨?_, ?_, ?_, ?_, ?_, ?_⟩ <;> rintro rfl <;> rfl
  case split =>
    obtain ⟨x, shown, taken, req, mode, epoch, role⟩ := voteMismatch_splits s f ha hb differ hc ca cb idle runs
    refine ⟨_, x, completes_of_ran rfl, shown, taken, ?_⟩
    rw [req]
    exact ⟨rfl, rfl, rfl, mode, epoch, role⟩
  case flush =>
    have regs := skipFlush_regs s k w r
    refine ⟨s.skipFlush (.numbered k) w r, completes_of_ran rfl, (skipFlush_only ..).only, ?_⟩
    rw [regs, vmod_fin_same]
    exact ⟨rfl, rfl, rfl, fun h => by rw [skipFlush_jobIn s k w r h], fun h => by rw [skipFlush_other s k w r h],
      fun j h => vmod_fin_other _ h _⟩
  case flushCage =>
    have flushed := skipFlush_cage s w r a
    exact ⟨s.skipFlush (.cage a) w r, completes_of_ran rfl, (skipFlush_cage_only ..).only,
      (congrArg CageEnd.rx flushed :), (congrArg CageEnd.lost flushed :), (congrArg CageEnd.restartMark flushed :)⟩
  case pointer =>
    obtain ⟨regs, x, taken, req⟩ := skipMismatch_numbered k w r idle runs
    refine ⟨_, x, completes_of_ran rfl, congrArg Regs.skipPtr regs, ?_⟩
    refine ⟨?_, taken, ?_⟩
    · rw [regs, vmod_fin_same]
      rfl
    · rw [req]
      exact ⟨rfl, rfl, rfl⟩
  case pointerCage =>
    obtain ⟨shown, flushed⟩ := skipMismatch_cage (s := s) w r a
    refine ⟨_, completes_of_ran rfl, shown, congrArg CageEnd.rx (flushed.trans (skipFlush_cage ..)),
      fun idle runs => ?_⟩
    obtain ⟨x, taken, req⟩ := skipMismatch_cage_fault w r a idle runs
    refine ⟨x, taken, ?_⟩
    rw [req]
    exact ⟨rfl, rfl⟩

end Sys2Proof.Machine
end

section
namespace Sys2Proof.Machine

set_option Elab.async false

/-! ## One step (log 1) -/

theorem step_of_cons {s : State} {c : Instr} {rest : List Instr} (h : s.pending = c :: rest) :
    step s = exec c { s with pending := rest } := by
  rw [step, h]

theorem step_of_nil {s : State} (h : s.pending = []) : step s = .next (tick s) := by
  rw [step, h]

/-- Settles O1: the queue is the command and the rest, and both sides name the same state without it. -/
theorem stepRunsTheFrontCommand : Obligations.StepRunsTheFrontCommand := by
  unfold Obligations.StepRunsTheFrontCommand
  exact fun _ _ _ => step_of_cons rfl

/-- Settles O4: a sample leaves the empty queue, and a command with a well-formed operand runs and leaves the rest (O5). -/
theorem everyStepRunsAndKeepsTheQueue : Obligations.EveryStepRunsAndKeepsTheQueue := by
  unfold Obligations.EveryStepRunsAndKeepsTheQueue
  intro s ok
  cases queue : s.pending with
  | nil =>
    have empty : (tick s).pending = [] := (tick_pending s).trans queue
    exact ⟨tick s, step_of_nil queue, by simp [QueueOk, empty], empty⟩
  | cons c rest =>
    have wf : ∀ d ∈ c :: rest, d.wf = true := queue ▸ ok
    obtain ⟨t, runs, left⟩ := (onlyIllFormedOperandsStop c { s with pending := rest }).2 (wf c List.mem_cons_self)
    have left : t.pending = rest := left
    exact ⟨t, (step_of_cons queue).trans runs, fun d hd => wf d (List.mem_cons_of_mem c (left ▸ hd)), left⟩

end Sys2Proof.Machine
end

section
namespace Sys2Proof.Machine

set_option Elab.async false

/-! ## SVN_MIN (R404) -/

/-- No step lowers SVN_MIN: every command and every sample keeps it or raises it. -/
theorem step_svnMin_le {s t : State} (h : step s = .next t) : s.nv.svnMin ≤ t.nv.svnMin := by
  cases queue : s.pending with
  | nil =>
    rw [step_of_nil queue] at h
    injection h with h
    exact h ▸ (sampled_only s).svn
  | cons c rest =>
    rw [step_of_cons queue] at h
    exact (exec_only h).svn

/-- A write of a listed code to UPDATE_CMD that passes is answered as that code decides (R402, R403). -/
theorem Passes.updateCmd {s : State} {via : Path} {data : List Byte} (h : Passes s via 0x3200 1 data) :
    s.request via 0x3200 1 data =
      (s.updateCmd (leNat data)).2.answer via 0x3200 1 (s.updateCmd (leNat data)).1 := h.service rfl

/-- CONFIRM ends the trial of the image that booted, and raises SVN_MIN to its SVN (R403, R404). -/
theorem Passes.updateConfirm {s : State} {via : Path} (h : Passes s via 0x3200 1 (leBytes 2 0x4346)) :
    s.request via 0x3200 1 (leBytes 2 0x4346) = s.updateConfirm.2.answer via 0x3200 1 0 := h.updateCmd

/-- The boot ROM chooses a slot that it accepts. -/
theorem bootable_of_bootChoice {n : Nv} {i : Fin 2} (h : n.bootChoice = some i) : n.bootable n.slots[i] = true :=
  List.find?_some (p := fun j : Fin 2 => n.bootable n.slots[j]) h

/-- The boot ROM accepts no slot below SVN_MIN (R404). -/
theorem svnMin_le_of_bootable {n : Nv} {m : ImageSlot} (h : n.bootable m = true) : n.svnMin ≤ m.svn := by
  unfold Nv.bootable at h
  exact of_decide_eq_true (Bool.and_eq_true_iff.1 h).2

/-- Settles O55: the frame of every operation keeps or raises SVN_MIN; CONFIRM takes the larger; the boot ROM compares. -/
theorem svnMinNeverFalls : Obligations.SvnMinNeverFalls := by
  unfold Obligations.SvnMinNeverFalls
  refine ⟨fun _ _ => step_svnMin_le, fun s via h => ?confirm, fun n i below chosen => ?boots⟩
  case confirm => exact ⟨_, completes_of_ran (congrArg (ran s) h.updateConfirm), rfl⟩
  case boots => exact absurd (svnMin_le_of_bootable (bootable_of_bootChoice chosen)) (Nat.not_le.2 below)

end Sys2Proof.Machine
end

section
namespace Sys2Proof.Machine

set_option Elab.async false

/-! ## What a write that passes has passed (Table 10.2) -/

section
variable {s : State} {via : Path} {index sub : Nat} {data : List Byte}

/-- The checks up to LENGTH hold. -/
theorem gateCode_of_writeCode {r : Row} (h : s.writeCode via r index sub data = 0) :
    s.gateCode via r index sub data = 0 := by
  by_contra shut
  unfold State.writeCode at h
  rw [if_pos (by simpa using shut)] at h
  exact shut h

/-- The life-cycle state allows the write (R406, R407, R411). -/
theorem Passes.life (h : Passes s via index sub data) : s.lifeForbids index sub data = false := by
  obtain ⟨-, -, r, -, code⟩ := h
  refine Bool.eq_false_iff.2 fun forbids => ?_
  have gate := gateCode_of_writeCode code
  rw [gateCode_lifeCycle forbids] at gate
  exact absurd gate (by decide)

/-- The value is in the object's range. -/
theorem Passes.range (h : Passes s via index sub data) :
    (objectRow index sub).all (fun r => r.ok (leNat data)) = true := by
  obtain ⟨-, -, r, row, code⟩ := h
  have gate := gateCode_of_writeCode code
  rw [row, Option.all_some]
  by_contra outside
  have outside : r.ok (leNat data) = false := Bool.eq_false_iff.2 outside
  unfold State.writeCode at code
  rw [if_neg (by simp [gate]), if_pos (by simp [outside])] at code
  exact absurd code (by decide)

end

/-! ## USE_RESET (R400, R412) -/

theorem Passes.useReset {s : State} {via : Path} {data : List Byte} (h : Passes s via 0x3F00 4 data) :
    s.request via 0x3F00 4 data = s.useReset.2.answer via 0x3F00 4 s.useReset.1 := h.service rfl

/-- The one value that USE_RESET takes (R412). -/
theorem Passes.useReset_value {s : State} {via : Path} {data : List Byte} (h : Passes s via 0x3F00 4 data) :
    leNat data = 0x5553 := by
  have row : (objectRow 0x3F00 4).map (·.ok) = some (oneOf [0x5553]) := rfl
  obtain ⟨r, found, ok⟩ := Option.map_eq_some_iff.1 row
  have range := h.range
  rw [found, Option.all_some, ok] at range
  simpa [oneOf] using range

theorem useReset_empty {s : State} (h : s.nv.keys = []) : s.useReset = taken s.resetUse := if_pos (by simp [h])

theorem useReset_holding {s : State} (h : s.nv.keys ≠ []) : s.useReset = refuse abBusy s := if_neg (by simpa using h)

/-- After a reset of USE the newest record is of value 0 and the next arming takes 1 (R400; log 34). -/
theorem resetUse_spec (s : State) : s.resetUse.nv.useValue = 0 ∧ s.resetUse.fm.useReserved = none ∧
    s.resetUse.nextUse = 1 := ⟨rfl, rfl, rfl⟩

/-- Settles O58: the key store decides between the reset and BUSY; the record of USE 0 is committed with the write
(log 34). -/
theorem useResetNeedsAnEmptyStore : Obligations.UseResetNeedsAnEmptyStore := by
  unfold Obligations.UseResetNeedsAnEmptyStore
  refine fun s via data h => ⟨h.useReset_value, fun empty => ?resets, fun holding => ?busy⟩
  all_goals have answered := h.useReset
  case resets =>
    rw [useReset_empty empty] at answered
    obtain ⟨value, reserved, next⟩ := resetUse_spec s
    exact ⟨s.resetUse.answer via 0x3F00 4 0, completes_of_ran (congrArg (ran s) answered),
      ((answer_only ..).next (resetUse_only s).mono).only, value, reserved, next, rfl⟩
  case busy =>
    rw [useReset_holding holding] at answered
    exact completes_of_ran (congrArg (ran s) answered)

end Sys2Proof.Machine
end

section
namespace Sys2Proof.Machine

set_option Elab.async false

/-! ## The flash log (R393, R394) -/

section
variable {s : State}

/-- The state after the entry at the front of the waiting ones is programmed. -/
theorem commitEntry_cons {e : LogEntry} {l : List LogEntry} (h : s.fm.toLog = e :: l) :
    s.commitEntry =
      { s with fm.toLog := l, nv.log := eraseAhead (s.nv.log ++ [e]), nv.logNext := (e.seq + 1) % 2 ^ 32 } := by
  unfold State.commitEntry
  rw [h]

theorem commitEntry_nil (h : s.fm.toLog = []) : s.commitEntry = s := by
  unfold State.commitEntry
  rw [h]

/-- The Foreman programs the flash unless the device is off or in the factory's hands. -/
theorem logEntryCommit_powered (off : s.power.phase ≠ .off) (test : s.power.phase ≠ .factoryTest) :
    execLogEntryCommit s = ran s s.commitEntry := congrArg (ran s) (if_neg (by simp [off, test]))

end

section
variable {l : List LogEntry}

/-- While the ring has sectors to spare no entry goes. -/
theorem eraseAhead_of_le (h : l.length ≤ logKept) : eraseAhead l = l := if_neg (by simp [h])

/-- An entry that fills the last sector but one takes the oldest sector with it. -/
theorem eraseAhead_full (h : l.length = logKept + sectorEntries) : eraseAhead l = l.drop sectorEntries :=
  if_pos (by simp [h, logKept, sectorEntries])

end

/-- An object written at once reads its value. -/
theorem writeLive_cfg_same (s : State) (index sub v : Nat) : (s.writeLive index sub v).cfg index sub = v :=
  ObjMap.value_write_same ..

/-- The entries that a read of LOG_BLOCK returns (R394). -/
def State.logBlock (s : State) : List LogEntry := (s.nv.log.filter fun e => s.cfg 0x3100 4 ≤ e.seq).take logBlockEntries

/-- The bytes of a LOG_BLOCK, filled up with zeros (R394). -/
def State.logBlockBytes (s : State) : List Byte :=
  (s.logBlock.map LogEntry.bytes).flatten ++
    List.replicate (64 * logBlockEntries - (s.logBlock.map LogEntry.bytes).flatten.length) 0

section
variable {s : State}

/-- LOG_READ_AT moves behind the last entry read, and stays when there was none. -/
theorem readLog_state : s.readLog.2 =
    match s.logBlock.getLast? with
    | some e => s.writeLive 0x3100 4 ((e.seq + 1) % 2 ^ 32)
    | none => s := rfl

theorem readLog_readAt_nil (h : s.logBlock = []) : s.readLog.2.cfg 0x3100 4 = s.cfg 0x3100 4 := by
  rw [readLog_state, h]
  rfl

theorem readLog_readAt_last {e : LogEntry} (h : s.logBlock.getLast? = some e) :
    s.readLog.2.cfg 0x3100 4 = (e.seq + 1) % 2 ^ 32 := by
  rw [readLog_state, h]
  exact writeLive_cfg_same ..

/-- LOG_BLOCK is a read of the flash log, for every requester. -/
theorem readRequest_logBlock (runs : s.foremanRuns = true) (via : Path) :
    s.readRequest via 0x3100 5 = s.readLog.2.send (.dictReply via 0x3100 5 0 s.readLog.1) := by
  obtain ⟨r, row⟩ := Option.isSome_iff_exists.1 (show (objectRow 0x3100 5).isSome = true by decide)
  have access : accessCode via 0x3100 5 false = 0 := by cases via <;> decide
  exact readRequest_reads runs access row (by decide)

end

theorem Passes.logReadAt {s : State} {via : Path} {data : List Byte} (h : Passes s via 0x3100 4 data) :
    s.request via 0x3100 4 data = (s.writeLive 0x3100 4 (leNat data)).answer via 0x3100 4 0 :=
  h.plain rfl rfl (by decide) (by decide)

theorem Passes.logClear {s : State} {via : Path} {data : List Byte} (h : Passes s via 0x3100 6 data) :
    s.request via 0x3100 6 data = s.logClear.2.answer via 0x3100 6 s.logClear.1 := h.service rfl

/-- Settles O53: an entry is programmed with the sector ahead erased, and the three objects of the log are answered as
their equations say (LOG_CLEAR drops the waiting entries, log 52). -/
theorem theFlashLog : Obligations.TheFlashLog := by
  unfold Obligations.TheFlashLog
  refine ⟨fun s off test => ⟨fun e l waiting => ?programs, fun none_ => ?idle⟩, fun s via data h => ?readAt,
    fun s via runs => ?block, fun s via data h => completes_of_ran (congrArg (ran s) h.logClear)⟩
  case programs =>
    have committed := commitEntry_cons waiting
    refine ⟨s.commitEntry, completes_of_ran (logEntryCommit_powered off test), (commitEntry_only s).mono.only, ?_⟩
    rw [committed]
    refine ⟨rfl, rfl, fun room => eraseAhead_of_le ?_, fun full => eraseAhead_full ?_⟩
    · rw [List.length_append, List.length_singleton]
      exact room
    · rw [List.length_append, List.length_singleton, full]
      rfl
  case idle =>
    exact completes_of_ran ((logEntryCommit_powered off test).trans (congrArg (ran s) (commitEntry_nil none_)))
  case readAt =>
    exact ⟨_, completes_of_ran (congrArg (ran s) h.logReadAt), ((answer_only ..).next (writeLive_only ..).mono).only,
      writeLive_cfg_same s .., rfl⟩
  case block =>
    have kept := readLog_only s
    refine ⟨_, completes_of_ran (congrArg (ran s) (readRequest_logBlock runs via)),
      ((send_only ..).next kept.mono).only, ?_, readLog_readAt_nil, fun e => readLog_readAt_last⟩
    exact congrArg (_ :: ·) kept.sent

end Sys2Proof.Machine
end

section
namespace Sys2Proof.Machine

set_option Elab.async false

/-! ## The two image slots (R402) -/

section
variable (s : State) (f : ImageSlot → ImageSlot)

theorem stagedSlot_ne_bootSlot : s.stagedSlot ≠ s.fm.bootSlot := by
  unfold State.stagedSlot
  split
  · next h => simp [h]
  · next h => exact fun e => h e.symm

/-- A change of the slot that did not boot is seen there, and leaves the booted one. -/
theorem onStagedSlot_slots : (s.onStagedSlot f).nv.slots[s.stagedSlot] = f s.nv.slots[s.stagedSlot] ∧
    (s.onStagedSlot f).nv.slots[s.fm.bootSlot] = s.nv.slots[s.fm.bootSlot] :=
  ⟨Vector.getElem_set_self s.stagedSlot.isLt,
    Vector.getElem_set_ne s.stagedSlot.isLt s.fm.bootSlot.isLt (Fin.val_ne_of_ne (stagedSlot_ne_bootSlot s))⟩

end

/-- A page written is read back, and the other pages stay. -/
theorem page_written (m : ImageSlot) (p : Nat) (data : List Byte) :
    let n : ImageSlot := { m with bytes := (m.bytes.filter fun x => x.1 != p) ++ [(p, data)] }
    n.page p = data ∧ ∀ q, q ≠ p → n.page q = m.page q := by
  have own : (m.bytes.filter fun x => x.1 != p).find? (fun x => x.1 == p) = none := by
    simp [List.find?_eq_none]
  have other (q : Nat) (h : q ≠ p) :
      (m.bytes.filter fun x => x.1 != p).find? (fun x => x.1 == q) = m.bytes.find? fun x => x.1 == q := by
    rw [List.find?_filter]
    refine find?_same _ fun x _ => ?_
    by_cases e : x.1 = q <;> simp [e, h]
  refine ⟨?_, fun q h => ?_⟩
  · simp only [ImageSlot.page, List.find?_append, own, List.find?_singleton, beq_self_eq_true, if_true, Option.none_or]
  · have apart : (p == q) = false := beq_eq_false_iff_ne.2 (Ne.symm h)
    simp only [ImageSlot.page, List.find?_append, other q h, List.find?_singleton, apart, Bool.false_eq_true, if_false,
      Option.or_none]

/-! ## UPDATE_CMD and UPDATE_DATA (R402, R403) -/

section
variable {s : State}

theorem updateBegin_open (h : s.updateOpen = true) : s.updateBegin =
    taken { (s.onStagedSlot fun _ => {}) with fm.updateState := usLoading, fm.updateCause := 0 } := if_pos h

theorem updateBegin_shut (h : s.updateOpen = false) : s.updateBegin = refuse abBusy s := if_neg (by simp [h])

/-- The state after a page of the slot that did not boot is written; UPDATE_AT names the next one. -/
def State.pageLoaded (s : State) (p : Nat) (data : List Byte) : State :=
  (s.onStagedSlot fun m => { m with bytes := (m.bytes.filter fun x => x.1 != p) ++ [(p, data)] }).writeLive 0x3200 2
    ((p + 1) * 4096)

theorem pageLoaded_updateAt (s : State) (p : Nat) (data : List Byte) :
    (s.pageLoaded p data).cfg 0x3200 2 = (p + 1) * 4096 :=
  writeLive_cfg_same ..

theorem updateDataWrite_loads {data : List Byte} (h : s.updateOpen = true) (loading : s.fm.updateState = 1)
    (inside : s.cfg 0x3200 2 / 4096 < 6144) :
    s.updateDataWrite data = taken (s.pageLoaded (s.cfg 0x3200 2 / 4096) data) :=
  (if_neg (by simp [h, loading, usLoading])).trans (if_neg (Nat.not_le.2 inside))

theorem updateDataWrite_shut {data : List Byte} (h : s.updateOpen = false ∨ s.fm.updateState ≠ 1) :
    s.updateDataWrite data = refuse abBusy s := if_pos (by simpa [usLoading] using h)

/-- The state after a VERIFY: the header of the slot's contents and the outcome of the checks of R401. -/
def State.verified (s : State) : State :=
  { (s.onStagedSlot fun m => m.withHeader (s.imageCause s.nv.slots[s.stagedSlot] == 0)) with
    fm.updateState := if s.imageCause s.nv.slots[s.stagedSlot] = 0 then usVerified else usRejected
    fm.updateCause := s.imageCause s.nv.slots[s.stagedSlot] }

theorem updateVerify_open (h : s.updateOpen = true) (low : 1 ≤ s.fm.updateState) (high : s.fm.updateState ≤ 3) :
    s.updateVerify = taken s.verified := if_pos (by simp [h, within, usLoading, usRejected, low, high])

theorem updateVerify_shut (h : s.updateOpen = false ∨ ¬ (1 ≤ s.fm.updateState ∧ s.fm.updateState ≤ 3)) :
    s.updateVerify = refuse abBusy s := by
  refine if_neg fun open_ => ?_
  obtain ⟨opened, states⟩ := Bool.and_eq_true_iff.1 open_
  refine h.elim (by simp [opened]) fun k => k ?_
  obtain ⟨low, high⟩ := Bool.and_eq_true_iff.1 states
  exact ⟨of_decide_eq_true low, of_decide_eq_true high⟩

theorem updateCommit_verified (h : s.updateOpen = true) (k : s.fm.updateState = 2) :
    s.updateCommit = taken { s with fm.updateState := usCommitting } := if_pos (by simp [h, k, usVerified])

theorem updateCommit_shut (h : s.updateOpen = false ∨ s.fm.updateState ≠ 2) : s.updateCommit = refuse abBusy s := by
  refine if_neg ?_
  rcases h with h | h <;> simp [h, usVerified]

/-- ABORT of what was loaded erases the slot. -/
theorem updateAbort_loaded (h : s.updateOpen = true) (low : 1 ≤ s.fm.updateState) (high : s.fm.updateState ≤ 3) :
    s.updateAbort = taken { (s.onStagedSlot fun _ => {}) with fm.updateState := usIdle, fm.updateCause := 0 } := by
  have before : s.fm.updateState ≠ usCommitted := by unfold usCommitted; omega
  have begun : s.fm.updateState ≠ usIdle := by unfold usIdle; omega
  exact (if_pos (by simp [h, before])).trans (if_neg (by simp [begun]))

/-- ABORT with nothing loaded has nothing to erase (log 34). -/
theorem updateAbort_idle (h : s.updateOpen = true) (k : s.fm.updateState = 0) : s.updateAbort = taken s :=
  (if_pos (by simp [h, k, usCommitted])).trans (if_pos (by simp [k, usIdle]))

theorem updateAbort_shut (h : s.updateOpen = false ∨ s.fm.updateState = 5) : s.updateAbort = refuse abBusy s := by
  refine if_neg ?_
  rcases h with h | h <;> simp [h, usCommitted]

end

/-- A write of UPDATE_DATA that passes is answered as the page decides. -/
theorem Passes.updateData {s : State} {via : Path} {data : List Byte} (h : Passes s via 0x3200 3 data) :
    s.request via 0x3200 3 data = (s.updateDataWrite data).2.answer via 0x3200 3 (s.updateDataWrite data).1 :=
  h.service rfl

/-! ## UPDATE_COMMIT_DONE (R402) -/

section
variable {s : State}

/-- The state after the boot record of the slot that did not boot is written, one generation above the booted one. -/
def State.imageCommitted (s : State) : State :=
  { (s.onStagedSlot fun m =>
      { m with generation := some ((s.nv.slots[s.fm.bootSlot].generation).getD 0 + 1), trial := 0 }) with
    fm.updateState := usCommitted }

theorem updateCommitDone_committing (h : s.fm.updateState = 4) (ok : Bool) : execUpdateCommitDone ok s =
    ran s (if ok = true then s.imageCommitted else { s with fm.updateState := usRejected, fm.updateCause := 8 }) :=
  congrArg (ran s) (if_neg (by simp [h, usCommitting]))

theorem updateCommitDone_idle (h : s.fm.updateState ≠ 4) (ok : Bool) : execUpdateCommitDone ok s = ran s s :=
  congrArg (ran s) (if_pos (by simp [h, usCommitting]))

theorem imageCommitted_only (s : State) : OnlyChanges [.nv, .fm] s s.imageCommitted :=
  ⟨fun p hp => by cases p <;> first | rfl | exact absurd ((Part.mem_bits ..).2 rfl) hp⟩

end

/-- Settles O54: each code of UPDATE_CMD and each page is answered as its equation says; what is changed is the slot that did
not boot (a failed commit leaves REJECTED with FLASH, an ABORT in IDLE succeeds, log 34). -/
theorem firmwareUpdate : Obligations.FirmwareUpdate := by
  unfold Obligations.FirmwareUpdate
  refine ⟨fun s via => ⟨fun h => ?begin_, fun data h => ?data, fun h => ?verify, fun h => ?commit, fun h => ?abort,
    fun h => ?confirm⟩, fun s committing => ⟨?committed, ?failed⟩,
    fun s ok idle => completes_of_ran (updateCommitDone_idle idle ok)⟩
  case begin_ =>
    have answered {t : Taken} (e : s.updateBegin = t) : Completes (.updateBegin via) s (t.2.answer via 0x3200 1 t.1) :=
      completes_of_ran (congrArg (ran s) (e ▸ h.updateCmd))
    refine ⟨fun opened => ?_, fun shut => answered (updateBegin_shut shut)⟩
    have only := updateBegin_only s
    rw [updateBegin_open opened] at only
    obtain ⟨erased, kept⟩ := onStagedSlot_slots s fun _ => {}
    exact ⟨_, answered (updateBegin_open opened), ((answer_only ..).next only.mono).only, erased, kept, rfl, rfl⟩
  case data =>
    have answered {t : Taken} (e : s.updateDataWrite data = t) :
        Completes (.updateData via data) s (t.2.answer via 0x3200 3 t.1) :=
      completes_of_ran (congrArg (ran s) (e ▸ h.updateData))
    refine ⟨fun opened loading inside => ?_, fun shut => answered (updateDataWrite_shut shut)⟩
    have loads := updateDataWrite_loads (data := data) opened loading inside
    have only := updateDataWrite_only s data
    rw [loads] at only
    generalize s.cfg 0x3200 2 / 4096 = p at loads only ⊢
    obtain ⟨written, kept⟩ := onStagedSlot_slots s fun m =>
      { m with bytes := (m.bytes.filter fun x => x.1 != p) ++ [(p, data)] }
    obtain ⟨own, others⟩ := page_written s.nv.slots[s.stagedSlot] p data
    rw [← written] at own others
    exact ⟨_, answered loads, ((answer_only ..).next only.mono).only, own, others, kept, pageLoaded_updateAt s p data⟩
  case verify =>
    have answered {t : Taken} (e : s.updateVerify = t) : Completes (.updateVerify via) s (t.2.answer via 0x3200 1 t.1) :=
      completes_of_ran (congrArg (ran s) (e ▸ h.updateCmd))
    refine ⟨fun opened low high => ?_, fun shut => answered (updateVerify_shut shut)⟩
    have only := updateVerify_only s
    rw [updateVerify_open opened low high] at only
    obtain ⟨read, kept⟩ := onStagedSlot_slots s fun m => m.withHeader (s.imageCause s.nv.slots[s.stagedSlot] == 0)
    exact ⟨_, answered (updateVerify_open opened low high), ((answer_only ..).next only.mono).only, rfl,
      fun good => if_pos good, fun bad => if_neg bad, (congrArg ImageSlot.bytes read :), kept⟩
  case commit =>
    have answered {t : Taken} (e : s.updateCommit = t) : Completes (.updateCommit via) s (t.2.answer via 0x3200 1 t.1) :=
      completes_of_ran (congrArg (ran s) (e ▸ h.updateCmd))
    exact ⟨fun opened verified => answered (updateCommit_verified opened verified),
      fun shut => answered (updateCommit_shut shut)⟩
  case abort =>
    have answered {t : Taken} (e : s.updateAbort = t) : Completes (.updateAbort via) s (t.2.answer via 0x3200 1 t.1) :=
      completes_of_ran (congrArg (ran s) (e ▸ h.updateCmd))
    refine ⟨fun opened low high => ?_, fun opened idle => answered (updateAbort_idle opened idle),
      fun shut => answered (updateAbort_shut shut)⟩
    have only := updateAbort_only s
    rw [updateAbort_loaded opened low high] at only
    obtain ⟨erased, kept⟩ := onStagedSlot_slots s fun _ => {}
    exact ⟨_, answered (updateAbort_loaded opened low high), ((answer_only ..).next only.mono).only, erased, kept, rfl⟩
  case confirm =>
    exact ⟨_, completes_of_ran (congrArg (ran s) h.updateConfirm),
      ((answer_only ..).next (updateConfirm_only s).mono).only, Vector.getElem_set_self s.fm.bootSlot.isLt,
      Vector.getElem_set_ne s.fm.bootSlot.isLt s.stagedSlot.isLt (Fin.val_ne_of_ne (stagedSlot_ne_bootSlot s).symm), rfl, rfl⟩
  case committed =>
    obtain ⟨written, kept⟩ := onStagedSlot_slots s fun m =>
      { m with generation := some ((s.nv.slots[s.fm.bootSlot].generation).getD 0 + 1), trial := 0 }
    exact ⟨s.imageCommitted, completes_of_ran (updateCommitDone_committing committing true), imageCommitted_only s, rfl,
      written, kept⟩
  case failed => exact completes_of_ran (updateCommitDone_committing committing false)

end Sys2Proof.Machine
end

section
namespace Sys2Proof.Machine

set_option Elab.async false

/-! ## Life-cycle transitions (R406) -/

section
variable {s : State} {via : Path} {data : List Byte}

/-- The state after an OWNER_KEY write that is taken. -/
def State.ownerKeyed (s : State) (data : List Byte) : State :=
  ({ s with nv.ownerKey := data, nv.ownerHash := leNat (sha384 data), nv.sigCheck := true } : State).burn lcProvisioned

/-- An OWNER_KEY write that passes finds a part in BLANK and a key in the uncompressed form (R406; log 8). -/
theorem Passes.ownerKey (h : Passes s via 0x1100 2 data) :
    s.request via 0x1100 2 data = (s.ownerKeyed data).answer via 0x1100 2 0 := by
  have allowed : (s.lifeCycle != lcBlank || s.fm.selfReset || data.length != 97 || data.head? != some 4) = false := h.life
  simp only [Bool.or_eq_false_iff] at allowed
  obtain ⟨⟨⟨blank, idle⟩, -⟩, form⟩ := allowed
  have burns : s.ownerKeyWrite data = taken (s.ownerKeyed data) := if_neg (by rw [blank, idle, form]; decide)
  have answered := h.service (t := s.ownerKeyWrite data) rfl
  rwa [burns] at answered

/-- An LC_ADVANCE write that passes finds a part in PROVISIONED and the magic (R406). -/
theorem Passes.lcAdvance (h : Passes s via 0x1100 4 data) :
    s.request via 0x1100 4 data = (s.burn lcField).answer via 0x1100 4 0 := by
  have allowed : (s.lifeCycle != lcProvisioned || s.fm.selfReset || data.length != 4 || leNat data != lcAdvanceMagic) =
    false := h.life
  simp only [Bool.or_eq_false_iff] at allowed
  obtain ⟨⟨⟨provisioned, idle⟩, -⟩, magic⟩ := allowed
  have burns : s.lcAdvanceWrite (leNat data) = taken (s.burn lcField) :=
    if_neg (by rw [provisioned, idle, magic]; decide)
  have answered := h.service (t := s.lcAdvanceWrite (leNat data)) rfl
  rwa [burns] at answered

end

/-! ## Challenges and authenticated debug (R407) -/

section
variable {s : State}

/-- The bytes of the next challenge (R407). -/
def State.nextChallenge (s : State) (nonce : List Byte) : List Byte :=
  nonce ++ leBytes 8 s.nv.part.1 ++ leBytes 4 (s.nv.challenges + 1) ++ leBytes 1 s.lifeCycle ++ leBytes 3 0

theorem nextChallenge_length {nonce : List Byte} (h : nonce.length = 32) : (s.nextChallenge nonce).length = 48 := by
  simp only [State.nextChallenge, List.length_append, leBytes_length, h]

/-- A nonce of 32 bytes stands in the challenge as it is. -/
theorem issueChallenge_eq {nonce : List Byte} (h : nonce.length = 32) : s.issueChallenge nonce =
    (s.nextChallenge nonce, { s with nv.challenges := (s.nv.challenges + 1) % 2 ^ 32
                                     fm.challenge := some (s.nextChallenge nonce, s.sv.up) }) := by
  have whole : (nonce ++ List.replicate 32 0).take 32 = nonce := List.take_left' h
  unfold State.issueChallenge
  rw [whole]
  rfl

theorem lcChallenge_runs (h : s.foremanRuns = true) (via : Path) (nonce : List Byte) : execLcChallenge via nonce s =
    ran s ((s.issueChallenge nonce).2.send (.dictReply via 0x1100 5 0 (s.issueChallenge nonce).1)) :=
  congrArg (ran s) (if_pos h)

theorem lcChallenge_stopped (h : s.foremanRuns = false) (via : Path) (nonce : List Byte) :
    execLcChallenge via nonce s = ran s s := congrArg (ran s) (if_neg (by simp [h]))

/-- A signature of the owner over the challenge in force (R407). -/
def State.debugSigned (s : State) (sig : List Byte) : Bool :=
  match s.validChallenge with
  | some c => ecdsaVerify s.nv.ownerKey (sha384 c) sig
  | none => false

/-- The state after debug is opened. -/
def State.debugOpened (s : State) : State :=
  (({ s with fm.debugOpen := true } : State).notice .debugOpened .foreman).noteEval

/-- A change of EVAL_DEVIATION is told, and nothing else of the Foreman differs (R415). -/
theorem noteEval_logOnly (s : State) : ∃ b, LogOnly { s with fm.evalDeviation := b } s.noteEval := by
  unfold State.noteEval
  dsimp only
  split
  · exact ⟨s.fm.evalDeviation, .refl s⟩
  · exact ⟨s.evalBits, notice_logOnly ..⟩

theorem debugOpened_spec (s : State) : Alters [.grizzly, .regs, .fm] s s.debugOpened ∧
    s.debugOpened.fm.debugOpen = true ∧ s.debugOpened.fm.badSignatures = s.fm.badSignatures := by
  obtain ⟨_, _, _, told⟩ := notice_logOnly { s with fm.debugOpen := true } .debugOpened .foreman 0xFF []
  obtain ⟨b, _, _, _, noted⟩ := noteEval_logOnly (({ s with fm.debugOpen := true } : State).notice .debugOpened .foreman)
  have opened : Alters [.fm] s { s with fm.debugOpen := true } :=
    .set fun p hp => by cases p <;> first | rfl | exact absurd ((Part.mem_bits ..).2 rfl) hp
  refine ⟨(noteEval_only _).next ((notice_only ..).next opened.mono), ?_⟩
  unfold State.debugOpened
  rw [noted]
  dsimp only
  rw [told]
  exact ⟨rfl, rfl⟩

variable {via : Path} {data : List Byte}

/-- An LC_DEBUG_AUTH write that passes finds a part in PROVISIONED: the count, then the signature decide (R407). -/
theorem Passes.debugAuth (h : Passes s via 0x1100 6 data) : s.request via 0x1100 6 data =
    if 3 ≤ s.fm.badSignatures then s.answer via 0x1100 6 abBusy
    else if s.debugSigned data = true then s.debugOpened.answer via 0x1100 6 0
    else ({ s with fm.badSignatures := s.fm.badSignatures + 1 } : State).answer via 0x1100 6 abValueRange := by
  have provisioned : (s.lifeCycle != lcProvisioned) = false := h.life
  have answered := h.service (t := s.debugAuth data) rfl
  have decided : s.debugAuth data =
      if 3 ≤ s.fm.badSignatures then refuse abBusy s
      else if s.debugSigned data = true then taken s.debugOpened
      else (abValueRange, { s with fm.badSignatures := s.fm.badSignatures + 1 }) := if_neg (by simp [provisioned])
  rw [answered, decided]
  split
  · rfl
  split <;> rfl

end

/-! ## RETURN (R408) -/

section
variable {s : State} {via : Path} {data : List Byte}

/-- Both signatures of an LC_RETURN write stand over the challenge in force (R408). -/
def State.returnSigned (s : State) (data : List Byte) : Bool :=
  s.validChallenge == some (data.take 48) &&
    ecdsaVerify s.nv.ownerKey (sha384 (data.take 48)) ((data.drop 48).take 96) &&
    ecdsaVerify Config.serviceKey (sha384 (data.take 48)) ((data.drop 144).take 96)

/-- An LC_RETURN write that passes finds a part in PROVISIONED or FIELD: the signatures decide (R408). -/
theorem Passes.returnWrite (h : Passes s via 0x1100 7 data) : s.request via 0x1100 7 data =
    if s.returnSigned data = true then ((s.burn lcReturn).returnWipe).answer via 0x1100 7 0
    else s.answer via 0x1100 7 abValueRange := by
  have allowed : (!(s.lifeCycle == lcProvisioned || s.lifeCycle == lcField) || s.fm.selfReset) = false := h.life
  have answered := h.service (t := s.lcReturnWrite data) rfl
  have decided : s.lcReturnWrite data =
      if s.returnSigned data = true then taken (s.burn lcReturn).returnWipe else refuse abValueRange s :=
    if_neg (by rw [allowed]; decide)
  rw [answered, decided]
  split <;> rfl

/-- The wipe of the Stockpile leaves no ingot of a stream and no segment in use. -/
theorem wipeStockpile_spec (s : State) : (∀ q : Fin 64, (s.wipeStockpile.streams[q]).backlog = []) ∧
    ∀ g : Fin 64, s.wipeStockpile.shaft.segments[g].state = 0 := by
  constructor <;> intro k <;> simp [State.wipeStockpile, State.discardSegments, vmap]

/-- The flash after the wipe of R408. -/
theorem returnWipe_nv (s : State) : s.returnWipe.nv =
    { s.nv with keys := [], keyGeneration := s.nv.keyGeneration + 1, uses := (s.nv.putUse 0).uses
                areas := Vector.replicate 2 none, returnDone := true } := by
  unfold State.returnWipe
  dsimp only
  rw [(notice_only ..).nv]
  dsimp only
  rw [(wipeStockpile_only _).nv]
  rfl

theorem returnWipe_stockpile (s : State) : (∀ q : Fin 64, (s.returnWipe.streams[q]).backlog = []) ∧
    ∀ g : Fin 64, s.returnWipe.shaft.segments[g].state = 0 := by
  unfold State.returnWipe
  dsimp only
  rw [(notice_only ..).streams, (notice_only ..).shaft]
  exact wipeStockpile_spec _

/-- The module is still about to reset itself after the wipe. -/
theorem returnWipe_selfReset (s : State) : s.returnWipe.fm.selfReset = s.fm.selfReset := by
  unfold State.returnWipe
  dsimp only
  obtain ⟨_, _, _, told⟩ := notice_logOnly _ .lcReturnDone .foreman 0xFF []
  rw [told]
  dsimp only
  rw [(wipeStockpile_only _).fm]
  rfl

end

/-- Settles O56: the checks of R406 to R408 have passed, so each write burns, opens or wipes (keys and signatures as of
log 8; a signature without a valid challenge is VALUE_RANGE and counted, log 48; one change of the life cycle before the reset,
log 34). -/
theorem lifeCycle : Obligations.LifeCycle := by
  unfold Obligations.LifeCycle
  refine ⟨fun s via data => ⟨fun h => ?ownerKey, fun h => ?advance, fun h => ?debug, fun h _ => ?returns⟩,
    fun s via nonce whole runs => ?challenge, fun s via nonce stopped => completes_of_ran (lcChallenge_stopped stopped ..)⟩
  case ownerKey =>
    have only : Alters [.nv, .fm] s (s.ownerKeyed data) :=
      .set fun p hp => by cases p <;> first | rfl | exact absurd ((Part.mem_bits ..).2 rfl) hp
    exact ⟨_, completes_of_ran (congrArg (ran s) h.ownerKey), ((answer_only ..).next only.mono).only, rfl, rfl, rfl, rfl,
      rfl, rfl⟩
  case advance =>
    exact ⟨_, completes_of_ran (congrArg (ran s) h.lcAdvance), ((answer_only ..).next (burn_only s _).mono).only, rfl, rfl,
      rfl⟩
  case debug =>
    have answered := h.debugAuth
    refine ⟨fun shut => ?_, fun open_ => ?_⟩
    · rw [if_pos shut] at answered
      exact completes_of_ran (congrArg (ran s) answered)
    rw [if_neg (Nat.not_le.2 open_)] at answered
    refine ⟨fun c valid good => ?_, fun c valid bad => ?_, fun none_ => ?_⟩
    · rw [if_pos (by simp only [State.debugSigned, valid, good])] at answered
      obtain ⟨only, opened, kept⟩ := debugOpened_spec s
      exact ⟨_, completes_of_ran (congrArg (ran s) answered), ((answer_only ..).next only.mono).only, opened, kept⟩
    · rw [if_neg (by simp [State.debugSigned, valid, bad])] at answered
      exact completes_of_ran (congrArg (ran s) answered)
    · rw [if_neg (by simp [State.debugSigned, none_])] at answered
      exact completes_of_ran (congrArg (ran s) answered)
  case returns =>
    have answered := h.returnWrite
    refine ⟨fun good => ?_, fun bad => ?_⟩
    · rw [if_pos (show s.returnSigned data = true from good)] at answered
      have flash := returnWipe_nv (s.burn lcReturn)
      obtain ⟨backlogs, segments⟩ := returnWipe_stockpile (s.burn lcReturn)
      exact ⟨_, completes_of_ran (congrArg (ran s) answered), (congrArg Nv.lifeCycle flash :), (congrArg Nv.keys flash :),
        (congrArg Nv.useValue flash :), (congrArg Nv.areas flash :), (congrArg Nv.returnDone flash :),
        (congrArg Nv.log flash :), (congrArg Nv.slots flash :), returnWipe_selfReset _, backlogs, segments⟩
    · rw [if_neg (Bool.eq_false_iff.1 (show s.returnSigned data = false from bad))] at answered
      exact completes_of_ran (congrArg (ran s) answered)
  case challenge =>
    have issued := issueChallenge_eq (s := s) whole
    have only := issueChallenge_only s nonce
    have taken := lcChallenge_runs runs via nonce
    rw [issued] at taken only
    exact ⟨_, completes_of_ran taken, ((send_only ..).next only.mono).only, rfl, rfl, nextChallenge_length whole, rfl⟩

end Sys2Proof.Machine
end

section
namespace Sys2Proof.Machine

set_option Elab.async false

/-! ## What the sensors show and the limits set (R382 to R384, R436) -/

/-- A sensor's last reading and its extremes. -/
structure Seen where
  reading : Option Word
  least : Option Word
  most : Option Word

def Sensor.seen (m : Sensor) : Seen := { reading := m.reading, least := m.minSeen, most := m.maxSeen }

/-- One more reading, or a failed self-check (R382). -/
def Seen.take (x : Seen) (r : Option Word) : Seen :=
  match r with
  | some w => { reading := some w, least := extreme true x.least w, most := extreme false x.most w }
  | none => { x with reading := none }

/-- What a sample of the sensors decides: the readings, JUNCTION_MAX and the limits; and the modes, which it leaves. -/
structure Limits where
  modes : Modes
  seen : Nat → Seen
  junction : Option Word
  hotRun : Nat
  thermal : Bool
  thermalLimit : Bool
  hbmHot : BitVec 2

/-- Another view of sensor `n`. -/
def Limits.seeing (x : Limits) (n : Nat) (y : Seen) : Limits := { x with seen := fun k => if k = n then y else x.seen k }

/-- A reading of sensor `n`. -/
def Limits.reads (x : Limits) (n : Nat) (r : Option Word) : Limits := x.seeing n ((x.seen n).take r)

/-- Readings of the first `m` sensors. -/
def Limits.readsAll (x : Limits) (m : Nat) (r : Nat → Option Word) : Limits :=
  { x with seen := fun k => if k < m then (x.seen k).take (r k) else x.seen k }

/-- The junction at or above a limit, 105 °C when no sensor of it reads (R382). -/
def Limits.hot (x : Limits) (limit : Word) : Bool := f32Ge (x.junction.getD 0x42D20000) limit

/-- JUNCTION_MAX of what is seen of the sensors 3 to 6 (R382). -/
def Limits.junctionMax (x : Limits) : Option Word :=
  f32Max (f32Max (x.seen 3).reading (x.seen 4).reading) (f32Max (x.seen 5).reading (x.seen 6).reading)

/-- JUNCTION_MAX and the run of samples from 98 °C on (R382, R384). -/
def Limits.measured (x : Limits) : Limits :=
  let y := { x with junction := x.junctionMax }
  { y with hotRun := if y.hot 0x42C40000 then x.hotRun + 1 else 0 }

/-- THERMAL is set from 100 °C on (R384). -/
def Limits.warmed (x : Limits) : Limits := { x with thermal := x.thermal || x.hot 0x42C80000 }

/-- The limit stands while 105 °C do (R384). -/
def Limits.limited (x : Limits) : Limits := { x with thermalLimit := x.hot 0x42D20000 }

/-- The bit of a stack that reads 95 °C or more (R436). -/
def Limits.stackHot (x : Limits) (k : Nat) : BitVec 2 :=
  match (x.seen (7 + k)).reading with
  | some w => if f32Ge w 0x42BE0000 then BitVec.ofNat 2 (2 ^ k) else 0
  | none => 0

def Limits.stacked (x : Limits) (k : Nat) : Limits := { x with hbmHot := x.hbmHot ||| x.stackHot k }

/-- The readings, and every limit judged by them (R382 to R384, R436). -/
def Limits.sampled (x : Limits) (r : Nat → Option Word) : Limits :=
  ((x.readsAll 15 r).measured.warmed.limited.stacked 0).stacked 1

def State.limits (s : State) : Limits :=
  { modes := s.modes, seen := fun k => (s.sensor k).seen, junction := s.fm.junction, hotRun := s.fm.hotRun
    thermal := s.fm.thermal, thermalLimit := s.fm.thermalLimit, hbmHot := s.fm.hbmHot }

/-! ### Reports and faults decide none of it -/

section
variable (s : State)

theorem LogOnly.limits {s t : State} (h : LogOnly s t) (modes : t.modes = s.modes) : t.limits = s.limits := by
  obtain ⟨_, _, _, fm⟩ := h
  simp only [State.limits, State.sensor, modes, fm]

theorem notice_limits (code : EvCode) (unit : UnitId) (inst : Nat) (detail : List Byte) :
    (s.notice code unit inst detail).limits = s.limits := (notice_logOnly ..).limits (notice_only ..).modes

theorem dropCondition_limits (code : EvCode) (unit : UnitId) (inst : Nat) :
    (s.dropCondition code unit inst).limits = s.limits := rfl

theorem noteCondition_limits (f : FaultReq) : (s.noteCondition f).limits = s.limits := by
  obtain ⟨_, fm, -⟩ := noteCondition_fm s f
  simp only [State.limits, State.sensor, (noteCondition_only s f).modes, fm]

theorem enqueueFull_limits (f : Faulted) : (s.enqueueFull f).limits = s.limits := by
  unfold State.enqueueFull
  split
  · rfl
  · extract_lets
    split <;> split <;> rfl

theorem enqueueFault_limits (f : Faulted) : (s.enqueueFault f).limits = s.limits := by
  unfold State.enqueueFault
  extract_lets
  split
  · split <;> rfl
  · exact enqueueFull_limits ..

theorem requeueFront_limits (f : Faulted) : (s.requeueFront f).limits = s.limits := by
  unfold State.requeueFront
  split
  · rfl
  · exact enqueueFull_limits ..

/-- A fault of any class but Isolate waits or is handled; it stops no block and leaves no mode yet (R386). -/
theorem fault_limits {cls : FaultClass} (h : cls ≠ .isolate) (code : EvCode) (unit : UnitId) (inst : Nat)
    (detail : List Byte) : (s.fault cls code unit inst detail).limits = s.limits := by
  unfold State.fault State.raiseFault
  extract_lets u f
  have noted : u.limits = s.limits := noteCondition_limits ..
  rw [if_neg Bool.false_ne_true]
  split
  · split
    · rw [enqueueFault_limits, noted]
    · exact noted
  · rw [if_neg (by simp [h])]
    split
    · rw [requeueFront_limits]
      exact noted
    · rw [enqueueFault_limits, noted]

end

/-! ### One reading -/

section
variable (s : State) {n : Nat} (w : Word)

theorem sensor_onSensor (h : n < 15) (f : Sensor → Sensor) (k : Nat) :
    (s.onSensor n f).sensor k = if k = n then f (s.sensor n) else s.sensor k := by
  split
  · next e =>
    subst e
    exact vget_vmod_same _ _ _ _ h
  · next e => exact vget_vmod_other _ _ _ _ _ e

/-- A sensor changed, by what is seen of it. -/
theorem onSensor_limits (h : n < 15) (f : Sensor → Sensor) :
    (s.onSensor n f).limits = s.limits.seeing n (f (s.sensor n)).seen := by
  have seen : (fun k => ((s.onSensor n f).sensor k).seen) =
      fun k => if k = n then (f (s.sensor n)).seen else (s.sensor k).seen := by
    funext k
    rw [sensor_onSensor s h, apply_ite Sensor.seen]
  unfold State.limits
  rw [seen]
  rfl

theorem seeing_same (x : Limits) (n : Nat) : x.seeing n (x.seen n) = x := by
  have same : (fun k => if k = n then x.seen n else x.seen k) = x.seen := by
    funext k
    split
    · next e => rw [e]
    · rfl
  unfold Limits.seeing
  rw [same]

/-- Runs and warnings of a sensor are not seen of it. -/
theorem onSensor_limits_kept (h : n < 15) (f : Sensor → Sensor) (kept : (f (s.sensor n)).seen = (s.sensor n).seen) :
    (s.onSensor n f).limits = s.limits := by
  rw [onSensor_limits s h, kept]
  exact seeing_same s.limits n

/-- The fixed limits raise and end conditions only (R383). -/
theorem fixedLimits_limits (h : n < 15) : (s.fixedLimits n w).limits = s.limits := by
  unfold State.fixedLimits
  extract_lets run u detail v
  have hu : u.limits = s.limits := onSensor_limits_kept s h _ rfl
  have condition (c : EvCode) (unit : UnitId) : (if run.1 = outMax then u.fault .degrade c unit n detail
      else if run.1 = 0 then u.dropCondition c unit n else u).limits = u.limits := by
    split
    · exact fault_limits _ (by decide) ..
    split <;> rfl
  have hv : v.limits = u.limits := by
    unfold v
    split
    · exact condition ..
    split
    · exact condition ..
    · rfl
  split
  · rw [fault_limits _ (by decide), hv, hu]
  · rw [hv, hu]

/-- The warning limits take the reading (R382, R383). -/
theorem warnLimits_limits (h : n < 15) : (s.warnLimits n w).limits = s.limits.reads n (some w) := by
  unfold State.warnLimits
  extract_lets u m detail
  have hu : u.limits = s.limits.reads n (some w) := onSensor_limits s h _
  split
  · rw [fault_limits _ (by decide), onSensor_limits_kept _ h _ rfl, hu]
  split
  · rw [notice_limits, onSensor_limits_kept _ h _ rfl, hu]
  · exact hu

/-- One reading is taken as its sensor's, and nothing else is decided (R382). -/
theorem takeReading_limits (h : n < 15) (r : Option Word) : (s.takeReading n r).limits = s.limits.reads n r := by
  unfold State.takeReading
  cases r with
  | some w => exact (dropCondition_limits ..).trans ((fixedLimits_limits _ _ h).trans (warnLimits_limits _ _ h))
  | none =>
    dsimp only
    have failed := onSensor_limits s h
      fun m => { m with reading := none, outRun := 0, inRun := 0, limitRun := (0, 0) }
    split
    · exact failed
    · exact (fault_limits _ (by decide) ..).trans failed

theorem reads_readsAll (x : Limits) (m : Nat) (r : Nat → Option Word) :
    (x.readsAll m r).reads m (r m) = x.readsAll (m + 1) r := by
  unfold Limits.reads Limits.seeing Limits.readsAll
  congr 1
  funext k
  dsimp only
  rw [if_neg (Nat.lt_irrefl m)]
  rcases Nat.lt_trichotomy k m with low | rfl | high
  · rw [if_neg (by omega), if_pos low, if_pos (by omega)]
  · rw [if_pos rfl, if_pos (by omega)]
  · rw [if_neg (by omega), if_neg (by omega), if_neg (by omega)]

/-- The readings in order of their numbers (R382). -/
theorem takeReadings_limits (r : Nat → Option Word) {m : Nat} (h : m ≤ 15) :
    ((List.range m).foldl (fun s n => s.takeReading n (r n)) s).limits = s.limits.readsAll m r := by
  induction m with
  | zero => rfl
  | succ m ih =>
    rw [List.range_succ, List.foldl_append, List.foldl_cons, List.foldl_nil, takeReading_limits _ (by omega),
      ih (by omega), reads_readsAll]

end

/-! ### The junction and the stacks -/

section
variable (s : State)

theorem warmed_of_set {x : Limits} (h : x.thermal = true ∨ x.hot 0x42C80000 = false) : x.warmed = x := by
  have kept : (x.thermal || x.hot 0x42C80000) = x.thermal := by
    rcases h with h | h
    · rw [h, Bool.true_or]
    · rw [h, Bool.or_false]
  unfold Limits.warmed
  rw [kept]

/-- THERMAL is raised when it was not set (R384). -/
theorem thermal_limits : (if (s.tooHot && !s.fm.thermal) = true then
      ({ s with fm.thermal := true } : State).fault .degrade .thermal .foreman else s).limits = s.limits.warmed := by
  split
  · next raised =>
    have hot : s.limits.hot 0x42C80000 = true := (Bool.and_eq_true_iff.1 raised).1
    refine (fault_limits _ (by decide) ..).trans ?_
    unfold Limits.warmed
    rw [hot, Bool.or_true]
    rfl
  · next kept =>
    refine (warmed_of_set ?_).symm
    cases set : s.limits.thermal with
    | true => exact .inl rfl
    | false =>
      have cold : s.fm.thermal = false := set
      exact .inr (Bool.eq_false_iff.2 fun hot => kept (by rw [cold]; exact (Bool.and_true _).trans hot))

/-- The limit is raised when it was not set, and ends below it (R384). -/
theorem thermalLimit_limits : (if s.junctionGe 0x42D20000 = true then
      (if s.fm.thermalLimit = true then s
        else ({ s with fm.thermalLimit := true } : State).fault .handover .thermalLimit .foreman)
      else { s with fm.thermalLimit := false }).limits = s.limits.limited := by
  have decided {x : Bool} (h : s.junctionGe 0x42D20000 = x) : s.limits.limited = { s with fm.thermalLimit := x }.limits := by
    rw [← h]
    rfl
  split
  · next beyond =>
    rw [decided beyond]
    split
    · next set =>
      rw [← set]
    · exact fault_limits _ (by decide) ..
  · next below => exact (decided (Bool.eq_false_iff.2 below)).symm

theorem junctionLimits_limits : s.junctionLimits.limits = s.limits.measured.warmed.limited := by
  unfold State.junctionLimits
  extract_lets _ _ _ measured _ warmed
  have hm : measured.limits = s.limits.measured := rfl
  have hw : warmed.limits = measured.limits.warmed := thermal_limits measured
  rw [← hm, ← hw]
  exact thermalLimit_limits warmed

theorem stacked_of_set {x : Limits} {k : Nat} (h : x.hbmHot ||| x.stackHot k = x.hbmHot) : x.stacked k = x := by
  unfold Limits.stacked
  rw [h]

/-- A stack at 95 °C sets its bit, and raises when it was not set (R436). -/
theorem hbmLimit_limits {k : Nat} (h : k < 2) : (s.hbmLimit k).limits = s.limits.stacked k := by
  unfold State.hbmLimit
  split
  · next w reading =>
    have bit : s.limits.stackHot k = if f32Ge w 0x42BE0000 then BitVec.ofNat 2 (2 ^ k) else 0 := by
      unfold Limits.stackHot
      rw [show (s.limits.seen (7 + k)).reading = some w from reading]
    split
    · next raised =>
      rw [if_pos (Bool.and_eq_true_iff.1 raised).1] at bit
      refine (fault_limits _ (by decide) ..).trans ?_
      unfold Limits.stacked
      rw [bit]
      rfl
    · next kept =>
      refine (stacked_of_set ?_).symm
      rw [bit]
      split
      · next hot =>
        have set : s.limits.hbmHot.getLsbD k = true := by
          by_contra unset
          exact kept (by rw [hot]; simpa [State.limits] using unset)
        generalize s.limits.hbmHot = b at set
        revert set b
        obtain rfl | rfl : k = 0 ∨ k = 1 := by omega
        all_goals decide
      · exact BitVec.or_zero
  · next reading =>
    refine (stacked_of_set ?_).symm
    unfold Limits.stackHot
    rw [show (s.limits.seen (7 + k)).reading = none from reading]
    exact BitVec.or_zero

/-- A sample of the sensors (R382 to R384, R436). -/
theorem sampleSensors_limits (readings : List (Option Word)) :
    (s.sampleSensors readings).limits = s.limits.sampled fun n => readingOf (readings.getD n none) := by
  unfold State.sampleSensors
  extract_lets u
  have hu : u.limits = _ := takeReadings_limits s (fun n => readingOf (readings.getD n none)) (Nat.le_refl 15)
  rw [hbmLimit_limits _ (by decide), hbmLimit_limits _ (by decide), junctionLimits_limits, hu]
  rfl

end

end Sys2Proof.Machine
end

section
namespace Sys2Proof.Machine

set_option Elab.async false

/-! ## A sample of the sensors, limit by limit -/

/-- The bit of one of the two stacks. -/
theorem stackBit (k j : Fin 2) : (BitVec.ofNat 2 (2 ^ k.val)).getLsbD j.val = decide (j = k) := by
  revert k j
  decide

section
variable (x : Limits) {j k : Fin 2}

theorem stackHot_own {w : Word} (h : (x.seen (7 + k.val)).reading = some w) :
    (x.stackHot k.val).getLsbD k.val = f32Ge w 0x42BE0000 := by
  unfold Limits.stackHot
  rw [h]
  dsimp only
  cases hot : f32Ge w 0x42BE0000 with
  | true => rw [if_pos rfl, stackBit, decide_eq_true rfl]
  | false =>
    rw [if_neg Bool.false_ne_true]
    exact BitVec.getLsbD_zero

theorem stackHot_other (h : j ≠ k) : (x.stackHot k.val).getLsbD j.val = false := by
  unfold Limits.stackHot
  split
  · split
    · exact (stackBit k j).trans (decide_eq_false h)
    · exact BitVec.getLsbD_zero
  · exact BitVec.getLsbD_zero

/-- The readings that the limits were judged by stay. -/
theorem sampled_seen (r : Nat → Option Word) {n : Nat} (h : n < 15) :
    (x.sampled r).seen n = (x.seen n).take (r n) := if_pos h

/-- The judgement of the limits leaves JUNCTION_MAX, so they read the same by it afterwards. -/
theorem sampled_hot (r : Nat → Option Word) (limit : Word) :
    (x.sampled r).hot limit = (x.readsAll 15 r).measured.hot limit := by
  unfold Limits.hot Limits.sampled Limits.stacked Limits.limited Limits.warmed
  rfl

/-- Each stack's bit follows its own reading (R436). -/
theorem sampled_hbmHot (r : Nat → Option Word) (k : Fin 2) {w : Word}
    (h : ((x.sampled r).seen (7 + k.val)).reading = some w) :
    (x.sampled r).hbmHot.getLsbD k.val = (x.hbmHot.getLsbD k.val || f32Ge w 0x42BE0000) := by
  have bits : (x.sampled r).hbmHot = x.hbmHot ||| (x.readsAll 15 r).stackHot 0 ||| (x.readsAll 15 r).stackHot 1 := rfl
  have own := stackHot_own (x.readsAll 15 r) (k := k) h
  have other {j : Fin 2} (apart : k ≠ j) := stackHot_other (x.readsAll 15 r) apart
  rw [bits, BitVec.getLsbD_or, BitVec.getLsbD_or, Bool.or_assoc, ← own]
  congr 1
  match k with
  | 0 => exact (congrArg (_ || ·) (other (j := 1) (by decide))).trans (Bool.or_false _)
  | 1 => exact (congrArg (· || _) (other (j := 0) (by decide))).trans (Bool.false_or _)

end

theorem junctionGe_eq (s : State) (limit : Word) : s.junctionGe limit = s.limits.hot limit := rfl

section
variable {s t : State} {r : Nat → Option Word} (h : t.limits = s.limits.sampled r)
include h

/-- After a sample each sensor shows its reading, and its extremes take it (R382). -/
theorem sensor_of_sampled (n : Fin 15) : (t.sensor n.val).reading = r n.val ∧ ∀ w, r n.val = some w →
    (t.sensor n.val).maxSeen = extreme false (s.sensor n.val).maxSeen w ∧
    (t.sensor n.val).minSeen = extreme true (s.sensor n.val).minSeen w := by
  have seen : (t.sensor n.val).seen = (s.sensor n.val).seen.take (r n.val) :=
    (congrArg (fun x : Limits => x.seen n.val) h).trans (sampled_seen s.limits r n.isLt)
  cases read : r n.val with
  | none =>
    rw [read] at seen
    exact ⟨congrArg Seen.reading seen, nofun⟩
  | some v =>
    rw [read] at seen
    refine ⟨congrArg Seen.reading seen, ?_⟩
    rintro w ⟨⟩
    exact ⟨congrArg Seen.most seen, congrArg Seen.least seen⟩

/-- A limit of the junction, by the readings of the sample. -/
theorem junctionGe_of_sampled (limit : Word) : t.junctionGe limit = (s.limits.readsAll 15 r).measured.hot limit := by
  rw [junctionGe_eq, h, sampled_hot]

theorem junction_of_sampled : t.fm.junction = t.junctionMax :=
  (congrArg Limits.junction h).trans (congrArg Limits.junctionMax h).symm

theorem hotRun_of_sampled : t.fm.hotRun = if t.junctionGe 0x42C40000 = true then s.fm.hotRun + 1 else 0 := by
  rw [junctionGe_of_sampled h]
  exact congrArg Limits.hotRun h

theorem thermal_of_sampled : t.fm.thermal = (s.fm.thermal || t.junctionGe 0x42C80000) := by
  rw [junctionGe_of_sampled h]
  exact congrArg Limits.thermal h

theorem thermalLimit_of_sampled : t.fm.thermalLimit = t.junctionGe 0x42D20000 := by
  rw [junctionGe_of_sampled h]
  exact congrArg Limits.thermalLimit h

theorem hbmHot_of_sampled (k : Fin 2) {w : Word} (reading : (t.sensor (7 + k.val)).reading = some w) :
    t.fm.hbmHot.getLsbD k.val = (s.fm.hbmHot.getLsbD k.val || f32Ge w 0x42BE0000) := by
  have shown : ((s.limits.sampled r).seen (7 + k.val)).reading = some w := h ▸ reading
  exact (congrArg (fun x : Limits => x.hbmHot.getLsbD k.val) h).trans (sampled_hbmHot s.limits r k shown)

end

/-! ## What a limit that stands and has ended decides -/

theorem ends_of {a b : Bool} (ha : a = true) (hb : b = false) : (a && !b) = true := by rw [ha, hb]; rfl

theorem not_ends_of {a b : Bool} (h : a = false ∨ b = true) : ¬ (a && !b) = true := by
  rcases h with rfl | rfl
  · exact Bool.false_ne_true
  · rw [Bool.not_true, Bool.and_false]
    exact Bool.false_ne_true

/-! ## The ends of the limits and the throttle (R384, R436, R437) -/

section
variable {s : State}

theorem sensorSample_runs {readings : List (Option Word)} (whole : readings.length = 15) :
    execSensorSample readings s = ran s (if s.foremanRuns = true then s.sampleSensors readings else s) := if_pos whole

/-- The state after HBM_HOT of a stack ends. -/
def State.stackCooled (s : State) (k : Fin 2) : State :=
  ({ s with fm.hbmHot := s.fm.hbmHot &&& ~~~(BitVec.ofNat 2 (2 ^ k.val)) } : State).dropCondition .hbmHot .stockpile k.val

theorem hbmHotClear_reads {k : Fin 2} {w : Word} (h : (s.sensor (7 + k.val)).reading = some w) : execHbmHotClear k s =
    ran s (if (s.fm.hbmHot.getLsbD k.val && !f32Ge w 0x42B40000) = true then s.stackCooled k else s) := by
  unfold execHbmHotClear
  rw [h]
  rfl

/-- Of the two bits the stack's own ends. -/
theorem stackCooled_spec (s : State) (k : Fin 2) : OnlyChanges [.fm] s (s.stackCooled k) ∧
    (s.stackCooled k).fm.hbmHot.getLsbD k.val = false ∧
    ∀ j : Fin 2, j ≠ k → (s.stackCooled k).fm.hbmHot.getLsbD j.val = s.fm.hbmHot.getLsbD j.val := by
  have bits (j : Fin 2) : (s.stackCooled k).fm.hbmHot.getLsbD j.val =
      (s.fm.hbmHot.getLsbD j.val && !(BitVec.ofNat 2 (2 ^ k.val)).getLsbD j.val) := by
    refine (BitVec.getLsbD_and (y := ~~~(BitVec.ofNat 2 (2 ^ k.val)))).trans ?_
    rw [BitVec.getLsbD_not, decide_eq_true j.isLt, Bool.true_and]
  refine ⟨(setFm_only ..).only, ?_, fun j apart => ?_⟩
  · rw [bits, stackBit, decide_eq_true rfl, Bool.not_true, Bool.and_false]
  · rw [bits, stackBit, decide_eq_false apart, Bool.not_false, Bool.and_true]

end

/-- Settles O51: the sample by what it leaves to be seen; each command that ends a limit by its one condition. -/
theorem sensorsAndTheThrottle : Obligations.SensorsAndTheThrottle := by
  unfold Obligations.SensorsAndTheThrottle
  refine ⟨fun s readings whole runs => ?sample, fun s readings whole stopped => ?stopped,
    fun s => ⟨fun set cool => ?thermal, fun kept => ?thermalKept, fun run off => ?engage, fun kept => ?engageKept,
      fun on cool => ?release, fun kept => ?releaseKept⟩,
    fun s k w reading => ⟨fun set cool => ?cools, fun kept => ?coolsKept⟩⟩
  case sample =>
    have sampled := sampleSensors_limits s readings
    have ran_ := sensorSample_runs (s := s) whole
    rw [if_pos runs] at ran_
    refine ⟨s.sampleSensors readings, completes_of_ran ran_, (sampleSensors_only s readings).only,
      congrArg (fun x : Limits => x.modes.mode) sampled, sensor_of_sampled sampled, junction_of_sampled sampled,
      fun hot => ?_, fun cool => ?_, thermal_of_sampled sampled, thermalLimit_of_sampled sampled,
      fun k w => hbmHot_of_sampled sampled k⟩
    · rw [hotRun_of_sampled sampled, if_pos hot]
    · rw [hotRun_of_sampled sampled, if_neg (Bool.eq_false_iff.1 cool)]
  case stopped =>
    have ran_ := sensorSample_runs (s := s) whole
    rw [if_neg (Bool.eq_false_iff.1 stopped)] at ran_
    exact completes_of_ran ran_
  case thermal => exact completes_of_ran (congrArg (ran s) (if_pos (ends_of set cool)))
  case thermalKept => exact completes_of_ran (congrArg (ran s) (if_neg (not_ends_of kept)))
  case engage =>
    exact ⟨_, completes_of_ran (congrArg (ran s) (if_pos (ends_of (decide_eq_true run) off))), event_reported ..⟩
  case engageKept =>
    have short := kept.imp_left fun run => decide_eq_false (Nat.not_le.2 run)
    exact completes_of_ran (congrArg (ran s) (if_neg (not_ends_of short)))
  case release => exact completes_of_ran (congrArg (ran s) (if_pos (ends_of on cool)))
  case releaseKept => exact completes_of_ran (congrArg (ran s) (if_neg (not_ends_of kept)))
  case cools =>
    have cleared := hbmHotClear_reads reading
    rw [if_pos (ends_of set cool)] at cleared
    exact ⟨_, completes_of_ran cleared, stackCooled_spec s k⟩
  case coolsKept =>
    have cleared := hbmHotClear_reads reading
    rw [if_neg (not_ends_of kept)] at cleared
    exact completes_of_ran cleared

end Sys2Proof.Machine
end

section
namespace Sys2Proof.Machine

set_option Elab.async false

/-! ## A pair that diverges (R364, R369) -/

section
variable {s : State}

/-- A pair that runs has a partner. -/
theorem partnered_of_running (h : s.running = true) : s.partnered = true := by
  have state : s.twin.pairState = 5 ∨ s.twin.pairState = 6 := by simpa [State.running] using h
  rcases state with h | h <;> simp [State.partnered, h]

theorem partnered_of_paired (h : s.paired = true) : s.partnered = true :=
  partnered_of_running (Bool.and_eq_true_iff.1 h).2

theorem paired_of_running (role : s.role = 1 ∨ s.role = 2) (h : s.running = true) : s.paired = true := by
  unfold State.paired
  rw [h]
  rcases role with h | h <;> simp [h]

/-- The state of the pair after a divergence (Table 12.4). -/
def Twin.exposed (m : Twin) (cause sidx : Nat) : Twin :=
  { m with divergeCause := cause, divergences := inc32 m.divergences, pairState := 6
           resyncDue := some sidx, resyncAt := none }

theorem exposePair_twin (paired : s.paired = true) (cause : Nat) :
    (s.exposePair cause).twin = s.twin.exposed cause s.sv.sidx := by
  unfold State.exposePair
  rw [if_pos paired, (event_only ..).twin]
  rfl

/-- A divergence that the comparison of headers and digests does not find is told to the twin, and exposes the pair
(R369). -/
theorem diverge_told (paired : s.paired = true) {cause : Nat} (header : cause ≠ 1) (shaft : cause ≠ 2) :
    (∃ l, (s.diverge cause).twin = { s.twin.exposed cause s.sv.sidx with recOut := l }) ∧
      Sent.xcRecord (.diverged cause) ∈ (s.diverge cause).sent := by
  have tells : (s.paired && cause != dcHeader && cause != dcShaft) = true := by
    simp [paired, dcHeader, dcShaft, header, shaft]
  have still : (s.xcSend (.diverged cause)).paired = true := by
    obtain ⟨l, twin⟩ := xcSend_twin s (.diverged cause)
    unfold State.paired State.running State.role at paired ⊢
    rwa [twin]
  unfold State.diverge
  rw [if_pos tells]
  dsimp only
  obtain ⟨l, twin⟩ := xcSend_twin s (.diverged cause)
  rw [exposePair_twin still, (exposePair_only ..).sent, (xcSend_only ..).sv, twin]
  exact ⟨⟨l, rfl⟩, xcSend_sent (partnered_of_paired paired) _⟩

theorem doorRecordTimeout_lacks {q : Fin 64} {i : Ingot} {l : List Ingot} (shadow : s.isShadow = true)
    (waits : (s.stream q.val).waiting = i :: l) (sealed_ : i.isSealed = true) (lacks : s.peerDoor q.val i.seq = none) :
    execDoorRecordTimeout q s = ran s (s.diverge 4) := by
  have door : s.doorLacks q.val = true := by
    unfold State.doorLacks
    rw [waits]
    simp [sealed_, lacks]
  exact congrArg (ran s) (if_pos (by rw [shadow, door]; rfl))

theorem doorRecordTimeout_other {q : Fin 64} (h : s.isShadow = false) : execDoorRecordTimeout q s = ran s s :=
  congrArg (ran s) (if_neg (by simp [h]))

theorem phaseExposed_beyond (mirrors : s.mirrors = true) (h : 16 < s.twin.phaseError.natAbs) :
    execPhaseExposed s = ran s (s.diverge 6) :=
  congrArg (ran s) (if_pos (by simp [mirrors, phaseLimit, h]))

theorem phaseExposed_within (h : s.twin.phaseError.natAbs ≤ 16) : execPhaseExposed s = ran s s :=
  congrArg (ran s) (if_neg (by simp [phaseLimit, Nat.not_lt.2 h]))

end

/-! ## Resynchronisation (R370, R378) -/

section
variable {s : State}

theorem resync_apart (h : s.paired = false ∨ s.sv.frameStart = false) : s.resync = s :=
  if_neg (by rcases h with h | h <;> simp [h])

variable (paired : s.paired = true) (frame : s.sv.frameStart = true)
include paired frame

theorem resync_due {d : Nat} (due : s.twin.resyncDue = some d) (lines : s.twoLinesSince d = true) :
    s.resync = s.startResync d := by
  unfold State.resync
  rw [if_pos (by rw [paired, frame]; rfl), due]
  exact if_pos lines

theorem resync_returned {f up : Nat} (due : s.twin.resyncDue = none) (at_ : s.twin.resyncAt = some (f, up))
    (later : f < s.sv.sidx) (returned : s.allReturned up = true) :
    s.resync = { s with twin.pairState := 5, twin.resyncAt := none } := by
  unfold State.resync
  rw [if_pos (by rw [paired, frame]; rfl), due, at_]
  exact if_pos (by simp [later, returned])

end

/-- The pair at the frame start of a transfer: nothing is compared yet, every compression restarts (R230, R370). -/
def State.resyncStarted (s : State) : State :=
  ({ s with twin.resyncDue := none, twin.resyncAt := some (s.sv.sidx, s.sv.up), twin.hdrOwn := [], twin.hdrPeer := []
            twin.digestPeer := [] } : State).freshCarry

theorem startResync_active {s : State} (active : s.role = 1) (d : Nat) :
    s.startResync d = s.resyncStarted.xcSend (.sync s.syncState) :=
  if_pos (beq_iff_eq.2 active)

theorem resyncStarted_seams (s : State) (k : Fin 48) : s.resyncStarted.seams[k].freshStream = true := by
  simp [State.resyncStarted, State.freshCarry, vmap]

/-- The Active sends its state, and waits for the host to return what was admitted before (R370). -/
theorem startResync_active_spec {s : State} (active : s.role = 1) (partnered : s.partnered = true) (d : Nat) :
    let t := s.startResync d
    t.twin.resyncDue = none ∧ t.twin.resyncAt = some (s.sv.sidx, s.sv.up) ∧ t.twin.hdrOwn = [] ∧ t.twin.hdrPeer = [] ∧
      t.twin.pairState = s.twin.pairState ∧ Sent.xcRecord (.sync s.syncState) ∈ t.sent ∧
      ∀ k : Fin 48, t.seams[k].freshStream = true := by
  obtain ⟨l, twin⟩ := xcSend_twin s.resyncStarted (.sync s.syncState)
  have still : s.resyncStarted.partnered = true := partnered
  dsimp only
  rw [startResync_active active, twin, (xcSend_only ..).seams]
  exact ⟨rfl, rfl, rfl, rfl, rfl, xcSend_sent still _, resyncStarted_seams s⟩

/-! ## The stripe set (R360) -/

section
variable {s : State} {set : LaneSet}

/-- Nothing is told of a set that is empty, still full or still short (R360). -/
theorem noteLanes_silent
    (h : set = 0 ∨ (set = 0xF ∧ s.twin.degraded = false) ∨ (set ≠ 0xF ∧ s.twin.degraded = true)) :
    s.noteLanes set = s := by
  unfold State.noteLanes
  rcases h with rfl | ⟨rfl, off⟩ | ⟨part, on⟩
  · exact (if_neg (by decide)).trans (if_pos (Bool.true_or _))
  · exact (if_pos (by decide)).trans (if_neg (by simp [off]))
  · exact (if_neg (by simpa [fullSet] using part)).trans (if_pos (by rw [on, Bool.or_true]))

/-- Four lanes again (R360). -/
theorem noteLanes_restored (full : set = 0xF) (degraded : s.twin.degraded = true) : s.noteLanes set =
    ({ s with twin.degraded := false } : State).event .crosscutRestored .crosscut :=
  (if_pos (by rw [full]; decide)).trans (if_pos degraded)

/-- Fewer than four lanes (R360). -/
theorem noteLanes_degrades (part : set ≠ 0xF) (some_ : set ≠ 0) (whole : s.twin.degraded = false) : s.noteLanes set =
    ({ s with twin.degraded := true } : State).fault .notice .crosscutDegraded .crosscut :=
  (if_neg (by simpa [fullSet] using part)).trans (if_neg (by rw [whole]; simpa using some_))

/-- The stripe set that a change leaves. -/
def State.striped (s : State) (set : LaneSet) : State := { s with twin.lanesUp := set &&& s.xcEnabled }

theorem laneSet_eq (s : State) (set : LaneSet) : s.laneSet set = (s.striped set).noteLanes (set &&& s.xcEnabled) := rfl

end

/-! ## The Canary (R371, R372) -/

/-- Taking up what a handover left touches of the pair only the rings that wait for a HANDOFF (R368). -/
theorem takeUpRest_twin (s : State) : ∃ a, s.takeUpRest.twin = { s.twin with awaitHandoff := a } := by
  have ring (u : State) (n : Nat) : ∃ a, (u.takeUpRing .written n).twin = { u.twin with awaitHandoff := a } := by
    unfold State.takeUpRing
    extract_lets _ v
    have streams (l : List Nat) : (l.foldl (State.resumeStream · .written) v).twin = v.twin :=
      (Alters.fold (.refl [.streams, .hf] v) fun x q => resumeStream_only x .written q).twin
    exact ⟨_, streams _⟩
  unfold State.takeUpRest
  induction bitsOf 64 s.twin.awaitHandoff.toNat generalizing s with
  | nil => exact ⟨s.twin.awaitHandoff, rfl⟩
  | cons n l ih =>
    obtain ⟨a, own⟩ := ring s n
    obtain ⟨b, rest⟩ := ih (s.takeUpRing .written n)
    exact ⟨b, by rw [List.foldl_cons, rest, own]⟩

/-- Requests to the partner that is gone are answered; of the pair only their list differs (R331). -/
theorem settlePartner_twin (s : State) : ∃ l, s.settlePartner.twin = { s.twin with partnerWaiting := l } := by
  unfold State.settlePartner
  split
  · exact ⟨s.twin.partnerWaiting, rfl⟩
  · exact ⟨[], (Alters.fold (.refl [.dict, .sent] _) fun u o => answerPartner_only u o abNotPaired []).twin⟩

/-- An Active alone is Solo, without a pair (R372). -/
theorem activeAlone_twin (s : State) : s.activeAlone.role = 3 ∧ s.activeAlone.twin.pairState = 0 ∧
    s.activeAlone.twin.beatsMissed = s.twin.beatsMissed := by
  obtain ⟨a, taken⟩ := takeUpRest_twin s
  have twin : s.activeAlone.twin = (s.takeUpRest.endPair roleSolo).twin := by
    unfold State.activeAlone
    extract_lets u
    rw [(takeoverDue_only ..).twin]
    exact (releaseCursors_only _).twin
  unfold State.role
  rw [twin]
  refine ⟨rfl, rfl, ?_⟩
  change s.takeUpRest.twin.beatsMissed = s.twin.beatsMissed
  rw [taken]

/-! What a loss sends to the host wakes the link, and leaves the recovery boot. -/

section
variable (s : State)

theorem hostWrite_recovery (addr : Nat) (data : List Byte) :
    (s.hostWrite addr data).power.recovery = s.power.recovery := by
  have sent : (s.hostWrite addr data).power = s.wakeLink.power :=
    (Alters.fold (.refl [.sent] s.wakeLink) fun u (x : Nat × List Byte) => send_only u _).power
  rw [sent]
  exact (wakeLink_pins s).2

theorem checkDue_recovery (n : Nat) : (s.checkDue n).power.recovery = s.power.recovery := by
  unfold State.checkDue
  dsimp only
  split
  · exact (raiseVector_pins (s.onRing n _) .pf0 n).2
  · rfl

theorem transmitCursor_recovery (n : Nat) (f : Formed) :
    (s.transmitCursor n f).power.recovery = s.power.recovery := by
  unfold State.transmitCursor
  extract_lets r cov last x u v w
  have wrote : u.power.recovery = s.power.recovery := by
    unfold u
    exact hostWrite_recovery ..
  clear_value u
  have covered : v.power = u.power := by
    unfold v
    split <;> rfl
  have taken : w.power = v.power := (onRing_only v n _).power
  rw [checkDue_recovery, taken, covered, wrote]

theorem releaseCursors_recovery : s.releaseCursors.power.recovery = s.power.recovery := by
  unfold State.releaseCursors
  induction List.range 64 generalizing s with
  | nil => rfl
  | cons n l ih =>
    rw [List.foldl_cons, ih]
    split
    · split
      · exact transmitCursor_recovery ..
      · rfl
    · rfl

theorem losePartner_recovery : s.losePartner.power.recovery = s.power.recovery := by
  unfold State.losePartner
  dsimp only
  rw [resetCage_recovery, (dropClaims_only ..).power, (event_only ..).power]

theorem activeAlone_recovery : s.activeAlone.power.recovery = s.power.recovery := by
  unfold State.activeAlone
  dsimp only
  rw [(takeoverDue_only ..).power, releaseCursors_recovery, (endPair_only ..).power, (takeUpRest_only s).power]

end

section
variable {s : State}

theorem losePartner_mode (s : State) : s.losePartner.mode = s.mode :=
  mode_congr (losePartner_recovery s) (losePartner_only s).modes

theorem losePartner_mirrors (s : State) : s.losePartner.mirrors = s.mirrors := by
  unfold State.mirrors State.role
  rw [(losePartner_only s).twin]

theorem partnerLoss_alone (h : s.mirrors = false) : s.partnerLoss = s.losePartner.activeAlone.settlePartner := by
  unfold State.partnerLoss
  dsimp only
  rw [losePartner_mirrors, h, if_neg Bool.false_ne_true]

theorem partnerLoss_mirror (h : s.mirrors = true) : s.partnerLoss = s.losePartner.shadowAlone.settlePartner := by
  unfold State.partnerLoss
  dsimp only
  rw [losePartner_mirrors, h, if_pos rfl]

/-- A partner loss on a module that mirrors none: Solo in the mode that it has (R372). -/
theorem partnerLoss_alone_spec (h : s.mirrors = false) : s.partnerLoss.role = 3 ∧ s.partnerLoss.twin.pairState = 0 ∧
    s.partnerLoss.mode = s.mode ∧ s.partnerLoss.twin.beatsMissed = s.twin.beatsMissed := by
  obtain ⟨l, settled⟩ := settlePartner_twin s.losePartner.activeAlone
  obtain ⟨solo, ended, missed⟩ := activeAlone_twin s.losePartner
  have lost : s.losePartner.twin = s.twin := (losePartner_only s).twin
  have power : s.losePartner.activeAlone.settlePartner.power = s.losePartner.activeAlone.power :=
    (settlePartner_only _).power
  have modes : s.losePartner.activeAlone.settlePartner.modes = s.losePartner.modes :=
    (settlePartner_only _).modes.trans (activeAlone_only _).modes
  have mode : s.losePartner.activeAlone.settlePartner.mode = s.losePartner.mode :=
    mode_congr ((congrArg Power.recovery power).trans (activeAlone_recovery _)) modes
  unfold State.role at solo ⊢
  rw [partnerLoss_alone h, settled, ← lost]
  dsimp only
  exact ⟨solo, ended, mode.trans (losePartner_mode s), missed⟩

/-- A mirroring module that captures decides by the partner's fence (R372). -/
theorem shadowAlone_capturing (mode : s.mode = 5) : s.shadowAlone = { s with
    modes.forced := s.modes.forced.or
      (some (if s.twin.fenceIn = true then (.partnerLink, 1) else (.takeover, s.twin.peerMode))) } :=
  if_pos (beq_iff_eq.2 mode)

/-- A Shadow in Ready with the partner's fence down takes over into Ready (R372). -/
theorem shadowAlone_ready (shadow : s.role = 2) (mode : s.mode = 1) (fence : s.twin.fenceIn = false) :
    s.shadowAlone = { s with modes.forced := s.modes.forced.or (some (.takeover, 1)) } :=
  (if_neg (by simp [mode])).trans <| (if_neg (by simp [fence, shadow, roleAttaching])).trans (if_pos (by simp [mode]))

/-- The loss itself leaves a mirroring module to decide: its modes and what it knows of the pair are as they were. -/
theorem partnerLoss_mirror_forced (h : s.mirrors = true) :
    s.partnerLoss.modes.forced = s.losePartner.shadowAlone.modes.forced := by
  rw [partnerLoss_mirror h, (settlePartner_only _).modes]

/-- A partner loss on a mirroring module that captures (R372). -/
theorem partnerLoss_capturing (mirrors : s.mirrors = true) (mode : s.mode = 5) (free : s.modes.forced = none) :
    s.partnerLoss.modes.forced =
      some (if s.twin.fenceIn = true then (.partnerLink, 1) else (.takeover, s.twin.peerMode)) := by
  have lost := losePartner_only s
  rw [partnerLoss_mirror_forced mirrors, shadowAlone_capturing ((losePartner_mode s).trans mode)]
  dsimp only
  rw [lost.modes, lost.twin, free, Option.none_or]

/-- A partner loss on a Shadow in Ready whose partner's fence is down (R372). -/
theorem partnerLoss_ready (shadow : s.role = 2) (mode : s.mode = 1) (fence : s.twin.fenceIn = false)
    (free : s.modes.forced = none) : s.partnerLoss.modes.forced = some (.takeover, 1) := by
  have lost := losePartner_only s
  have mirrors : s.mirrors = true := by simp [State.mirrors, roleShadow, shadow]
  have role : s.losePartner.role = 2 := by
    unfold State.role
    rw [lost.twin]
    exact shadow
  rw [partnerLoss_mirror_forced mirrors,
    shadowAlone_ready role ((losePartner_mode s).trans mode) (by rw [lost.twin]; exact fence)]
  dsimp only
  rw [lost.modes, free, Option.none_or]

end

/-- A boundary without a beat is counted (R371). -/
def State.beatMissed (s : State) : State :=
  { s with twin.beatsMissed := inc32 s.twin.beatsMissed, twin.missedRun := s.twin.missedRun + 1 }

section
variable {s : State}

theorem canary_apart (h : s.partnered = false ∨ s.beatClock % 3000 ≠ 0) : s.canary = s := by
  refine if_neg ?_
  rcases h with h | h <;> simp [h, beatSpan]

variable (partnered : s.partnered = true) (boundary : s.beatClock % 3000 = 0)
include partnered boundary

theorem canary_seen (h : s.twin.beatSeen = true) : s.canary = { s with twin.beatSeen := false, twin.missedRun := 0 } :=
  (if_pos (by simp [partnered, beatSpan, boundary])).trans (if_pos h)

/-- A missed beat is counted; the eighth in a row is a partner loss (R371, R372). -/
theorem canary_missed (h : s.twin.beatSeen = false) :
    s.canary = if s.twin.missedRun + 1 = 8 then s.beatMissed.partnerLoss else s.beatMissed := by
  refine (if_pos (by simp [partnered, beatSpan, boundary])).trans ((if_neg (by simp [h])).trans ?_)
  exact if_congr beq_iff_eq rfl rfl

end

/-- Settles O46: a divergence by what it tells and exposes; a transfer by what it starts and how it ends; the Canary by its
count; the stripe set by the four cases of R360 (the clock of the beats before epoch-zero is log 41). -/
theorem divergenceResyncAndCanary : Obligations.DivergenceResyncAndCanary := by
  unfold Obligations.DivergenceResyncAndCanary
  refine ⟨⟨fun s q i l shadow running waits sealed_ lacks => ?door,
      fun s q other => completes_of_ran (doorRecordTimeout_other other), fun s shadow running beyond => ?phase,
      fun s within_ => completes_of_ran (phaseExposed_within within_),
      fun s paired frame => ⟨fun d due lines active => ?sends, fun f up due at_ later returned =>
        completes_of_ran (congrArg (ran s) (resync_returned paired frame due at_ later returned))⟩,
      fun s apart => completes_of_ran (congrArg (ran s) (resync_apart apart))⟩,
    fun s partnered boundary =>
      ⟨fun seen => completes_of_ran (congrArg (ran s) (canary_seen partnered boundary seen)),
        fun missed few => ?counts, fun missed seven => ?lost⟩,
    fun s apart => completes_of_ran (congrArg (ran s) (canary_apart apart)),
    fun s set =>
      ⟨fun silent => completes_of_ran (congrArg (ran s) (noteLanes_silent (s := s.striped set) silent)),
        fun full degraded => ?restored, fun part some_ whole idle runs => ?degrades⟩⟩
  case door =>
    have paired := paired_of_running (.inr shadow) running
    obtain ⟨⟨l, twin⟩, told⟩ := diverge_told paired (cause := 4) (by decide) (by decide)
    have isShadow : s.isShadow = true := beq_iff_eq.2 shadow
    exact ⟨_, completes_of_ran (doorRecordTimeout_lacks isShadow waits sealed_ lacks), (diverge_only s 4).only,
      congrArg Twin.pairState twin, congrArg Twin.divergeCause twin, congrArg Twin.divergences twin, told⟩
  case phase =>
    have paired := paired_of_running (.inr shadow) running
    have mirrors : s.mirrors = true := by simp [State.mirrors, roleShadow, shadow]
    obtain ⟨⟨l, twin⟩, -⟩ := diverge_told paired (cause := 6) (by decide) (by decide)
    exact ⟨_, completes_of_ran (phaseExposed_beyond mirrors beyond), (diverge_only s 6).only,
      congrArg Twin.pairState twin, congrArg Twin.divergeCause twin, congrArg Twin.resyncDue twin⟩
  case sends =>
    exact ⟨_, completes_of_ran (congrArg (ran s) (resync_due paired frame due lines)),
      startResync_active_spec active (partnered_of_paired paired) d⟩
  case counts =>
    have counted := canary_missed partnered boundary missed
    rw [if_neg few] at counted
    exact completes_of_ran (congrArg (ran s) counted)
  case lost =>
    have lost := canary_missed partnered boundary missed
    rw [if_pos (by rw [seven])] at lost
    have completes := completes_of_ran (c := .canaryBoundary) (congrArg (ran s) lost)
    exact ⟨fun alone => ⟨_, completes, partnerLoss_alone_spec (s := s.beatMissed) alone⟩,
      fun mirrors mode free => ⟨_, completes, partnerLoss_capturing (s := s.beatMissed) mirrors mode free⟩,
      fun shadow mode fence free => ⟨_, completes, partnerLoss_ready (s := s.beatMissed) shadow mode fence free⟩⟩
  case restored =>
    have told := noteLanes_restored (s := s.striped set) full degraded
    have lanes : s.striped set = { s with twin.lanesUp := 0xF } := by
      unfold State.striped
      rw [full]
    rw [lanes] at told
    have lead := (laneSet_eq s set).trans ((congrArg (State.noteLanes · (set &&& s.xcEnabled)) lanes).trans told)
    exact ⟨_, completes_of_ran (congrArg (ran s) lead), event_reported ..⟩
  case degrades =>
    have told := noteLanes_degrades (s := s.striped set) part some_ whole
    obtain ⟨only, x, handling, req⟩ := fault_idle_spec (s := { s.striped set with twin.degraded := true }) idle runs
      .notice .crosscutDegraded .crosscut 0xFF []
    refine ⟨_, x, completes_of_ran (congrArg (ran s) told), congrArg Twin.lanesUp only.twin,
      congrArg Twin.degraded only.twin, handling, ?_⟩
    rw [req]
    exact ⟨rfl, rfl⟩

end Sys2Proof.Machine
end
